-- ==== Sys2Proof/Word.lean ====
section
/-!
DEFINITION. The word types of the FXM1024 model.
-/

namespace Sys2Proof

/-- One byte of memory. -/
abbrev Byte := BitVec 8

/-- A 32-bit register or frame word. -/
abbrev Word32 := BitVec 32

/-- A 64-bit strider register, address or device time. -/
abbrev Word := BitVec 64

end Sys2Proof
end

