-- ==== Sys2Proof/Syntax.lean ====
section
/-!
DEFINITION. The commands of the FXM1024 model: one constructor for each row of the opcode table, with its operands. A
command is an instruction a strider runs, a write of a register with behaviour, a message or frame that arrives, an event of
a timer, pin or sensor, or a host command packet. Types of the operands come first.
-/

namespace Sys2Proof

/-- An Edmus frame as received or sent (Table 05-2): header fields, payload bytes and CRC-32C. On tier links `route`
carries the routing word. -/
structure Frame where
  ver     : BitVec 4
  type    : BitVec 4
  ackv    : Bool
  resent  : Bool
  safe    : Bool
  rsv1    : BitVec 5
  len     : BitVec 10
  rsvLen  : BitVec 6
  seq     : BitVec 16
  ackSeq  : BitVec 16
  route   : BitVec 16
  epoch   : Byte
  rcnt    : Byte
  rsv12   : Word32
  payload : List Byte
  crc     : Word32
  deriving DecidableEq, Repr

/-- How a frame was damaged on the link (R117, R121). -/
inductive BadFrame where
  | crc | code | abort
  deriving DecidableEq, Repr

/-- A firefly payload (Table 03-7). -/
structure FfPayload where
  kind    : BitVec 16
  origin  : Byte
  target  : Byte
  exchSeq : Word32
  t1      : Word
  t2      : Word
  t3      : Word
  fine1   : BitVec 3
  fine2   : BitVec 3
  fine3   : BitVec 3
  corrUp  : Int
  corrDn  : Int
  asym    : Int
  deriving DecidableEq, Repr

/-- What the quadrature inputs of an angle port did (R65): a counted edge up or down (A leading B is up), an illegal
transition of both, or a pulse shorter than the filter. -/
inductive QuadKind where
  | up | down | illegal | short
  deriving DecidableEq, Repr

/-- The outcome of an error check of stored data. -/
inductive EccErr where
  | none | ce | ue
  deriving DecidableEq, Repr

/-- A strider in its pond. -/
structure StrId where
  pond : Fin 68
  slot : Fin 17
  deriving DecidableEq, Repr

/-- The error a load's access met: parity in the L1 (R273), corrected or uncorrectable words of an L2 way or tag (R276), of
pond memory (R292) or of DRAM (R359), or an answer of device space that is an error (Table 07-13). -/
inductive MemErr where
  | none | l1Par | l2Ce | l2Ue | l2TagUe (way : Fin 16) | pmCe | pmUe | mcCe | mcUe (both : Bool) | devErr
  deriving DecidableEq, Repr

/-- Who makes a register access (R34, R35): a host TLP on BAR0 or BAR2, the service complex, or a strider. -/
inductive Requester where
  | bar0 | bar2 | svc | strider (w : StrId)
  deriving DecidableEq, Repr

/-- A 64-byte line of DRAM, by its number: device address bits [40:6]. -/
abbrev LineNo := BitVec 35

/-- A general or floating-point register number. -/
abbrev RegNo := Fin 32

/-- What the checks of a strider found in one instruction: nothing; a pipeline error, once or twice with a retry that succeeded, or
persistent (R380, R381); a parity error of the L1I (R273); a corrected or an uncorrectable microword that it fetches (R251). -/
inductive PipeErr where
  | none | retried (twice : Bool) | persistent | l1iPar | csCe (word : Fin 8192) | csUe (word : Fin 8192)
  deriving DecidableEq, Repr

/-- The prefixes of an instruction (Table 07-4), the first eight bytes as fetched (for TVAL of ILLEGAL), and what the
pipeline checks found. -/
structure Pfx where
  rep  : Bool
  nt   : Bool
  wide : Bool
  raw  : Word
  err  : PipeErr
  deriving DecidableEq, Repr

/-- Format A of Table 07-5. -/
structure FmtA where
  r : RegNo
  x : BitVec 3
  deriving DecidableEq, Repr

/-- Format B of Table 07-5. -/
structure FmtB where
  d : RegNo
  a : RegNo
  b : RegNo
  x : Bool
  deriving DecidableEq, Repr

/-- Format C of Table 07-5. -/
structure FmtC where
  d : RegNo
  a : RegNo
  b : RegNo
  c : RegNo
  x : BitVec 4
  deriving DecidableEq, Repr

/-- Format Y of Table 07-5. -/
structure FmtY where
  r : RegNo
  n : BitVec 11
  deriving DecidableEq, Repr

/-- Format I of Table 07-5; without WIDE the immediate is the low 32 bits of `imm`. -/
structure FmtI where
  d   : RegNo
  a   : RegNo
  x   : BitVec 6
  imm : Word
  deriving DecidableEq, Repr

/-- Format M of Table 07-5. -/
structure FmtM where
  d    : RegNo
  a    : RegNo
  x    : BitVec 6
  disp : BitVec 16
  deriving DecidableEq, Repr

/-- Format S of Table 07-5; without WIDE the immediate is the low 32 bits of `imm`. -/
structure FmtS where
  a    : RegNo
  x    : BitVec 11
  disp : BitVec 16
  imm  : Word
  deriving DecidableEq, Repr

/-- Format K of Table 07-5. -/
structure FmtK where
  cond : BitVec 4
  z    : BitVec 4
  disp : Word32
  deriving DecidableEq, Repr

/-- Format L of Table 07-5. -/
structure FmtL where
  a   : RegNo
  z   : BitVec 3
  len : BitVec 16
  deriving DecidableEq, Repr

/-- Format LI of Table 07-5. -/
structure FmtLI where
  count : BitVec 16
  len   : BitVec 16
  deriving DecidableEq, Repr

/-- One SQ entry as the host holds it at fetch (R437, R446): the queue, its 64 bytes (none when the read fails or is
poisoned), and the bytes at PADDR when PIND is 1 (none when that read fails). -/
structure SqRead where
  q      : Fin 16
  entry  : Option (List Byte)
  params : Option (List Byte)
  deriving DecidableEq, Repr

/-- What the host's side of an arbitration round gives: the SQ entries in fetch order, the host address ranges (base,
length) on which a DMA of the device fails from now on, and the head word of the fault log (R454). -/
structure HostIo where
  reads : List SqRead
  bad   : List (Nat × Nat)
  head  : Word32
  deriving DecidableEq, Repr

/-- The Packet Error Check of an SMBus transaction (R512). -/
inductive Pec where
  | none | good | bad
  deriving DecidableEq, Repr

/-- What training finds on one memory channel (R345, R348): DIMMs, ranks, width, density, SPD speed bin, ranks that fail an
eye, temperature, and the serials of the DIMMs by rank. -/
structure DimmCfg where
  dimms     : BitVec 2
  present   : BitVec 4
  width     : BitVec 2
  dens      : BitVec 2
  speedBin  : BitVec 3
  trainFail : BitVec 4
  ignored   : Bool
  temp      : Byte
  serials   : List Word
  deriving DecidableEq, Repr

/-- A region of the boot image's configuration block (R496 step 6), by the window registers. -/
structure RegionCfg where
  base : BitVec 20
  limit : BitVec 20
  map  : BitVec 23
  attr : BitVec 7
  deriving DecidableEq, Repr

/-- What a start finds (R409, R496, R498): a failure code (0 none), the flash slot booted, the firmware's version and SEC_VER,
the vendor microcode version, the memory channels in order, the configuration block, and the digests of the measured
images in the order they are extended; the rows that the start-up march finds failing, whether the vendor microcode image verifies, and the
ponds whose control store does not read back as written (R267). -/
structure StartCfg where
  fail    : Byte
  slot    : Bool
  fwVer   : Word32
  secVer  : Nat
  ucVer   : Word32
  dimms   : List DimmCfg
  regions : List RegionCfg
  digests : List (Nat × List Byte)
  march   : List (Fin 68 × List (Fin 16 × Fin 130))
  vendorOk : Bool
  readBack : List (Fin 68)
  deriving DecidableEq, Repr

/-- What the checks inside a block have found by a housekeeping tick and no other row brings: a fault bit (a parity error of registers, R377; a
failure of a home agent, dispatcher, command bus, OTP word or store copy), or a transaction record of a weir that is uncorrectable on chip,
`lost` if its journal copy is poisoned as well (R391). -/
inductive SelfFault where
  | bit (blk : Fin 17) (inst : Fin 128) (bit : Fin 64)
  | xrec (ch : Fin 96) (id : Nat) (lost : Bool)
  deriving DecidableEq, Repr

/-- The commands. Each docstring gives the row's summary and its rule. -/
inductive Instr where
  /-- Strider executes NOP, which has no effect. R190. -/
  | nop (w : StrId) (p : Pfx)
  /-- Strider executes BRK and takes trap BRK. R200. -/
  | brk (w : StrId) (p : Pfx)
  /-- Strider executes TRAP and takes trap SOFT with the operand byte in TVAL. R200. -/
  | trap (w : StrId) (p : Pfx) (f : FmtA)
  /-- Strider returns from a trap, restoring PSW from TPSW and resuming at TPC or at a saved microword. R203. -/
  | tret (w : StrId) (p : Pfx)
  /-- Strider waits until every store-buffer entry is performed before younger loads. R315. -/
  | fenceSl (w : StrId) (p : Pfx)
  /-- Strider waits until every combining-buffer entry is performed. R315. -/
  | fenceN (w : StrId) (p : Pfx)
  /-- Strider waits until every older device-space store is performed. R315. -/
  | fenceIo (w : StrId) (p : Pfx)
  /-- Strider orders every older access before every younger access. R315. -/
  | fenceAll (w : StrId) (p : Pfx)
  /-- Strider jumps to PC plus disp32. R190. -/
  | j (w : StrId) (p : Pfx) (disp : Word32)
  /-- Strider writes LK with the next address and jumps relative. R190. -/
  | call (w : StrId) (p : Pfx) (disp : Word32)
  /-- Strider jumps to the address in Xa. R190. -/
  | jr (w : StrId) (p : Pfx) (f : FmtA)
  /-- Strider writes LK and jumps to the address in Xa. R190. -/
  | callr (w : StrId) (p : Pfx) (f : FmtA)
  /-- Strider continues at LK. R190. -/
  | ret (w : StrId) (p : Pfx)
  /-- Strider branches relative when its condition holds on the PSW flags. R189. -/
  | br (w : StrId) (p : Pfx) (f : FmtK)
  /-- Strider pushes a hardware loop with count Xa. R193. -/
  | loop (w : StrId) (p : Pfx) (f : FmtL)
  /-- Strider pushes a hardware loop with an immediate count. R193. -/
  | loopi (w : StrId) (p : Pfx) (f : FmtLI)
  /-- Strider pops the innermost hardware loop. R195. -/
  | lpop (w : StrId) (p : Pfx)
  /-- Strider performs a cache maintenance operation on the line at Xa. R280. -/
  | cmo (w : StrId) (p : Pfx) (f : FmtA) (e : MemErr)
  /-- Strider copies a system register to Xd under the access rules. R184. -/
  | mfs (w : StrId) (p : Pfx) (f : FmtY)
  /-- Strider copies Xa to a system register under the access rules. R184. -/
  | mts (w : StrId) (p : Pfx) (f : FmtY)
  /-- Strider reads DT, or DT with fine ticks, into Xd. R190. -/
  | rdt (w : StrId) (p : Pfx) (f : FmtA)
  /-- Strider adds two registers, optionally setting flags. R190. -/
  | add (w : StrId) (p : Pfx) (f : FmtB)
  /-- Strider subtracts two registers, optionally setting flags. R190. -/
  | sub (w : StrId) (p : Pfx) (f : FmtB)
  /-- Strider computes a bitwise AND. R190. -/
  | and (w : StrId) (p : Pfx) (f : FmtB)
  /-- Strider computes a bitwise OR. R190. -/
  | or (w : StrId) (p : Pfx) (f : FmtB)
  /-- Strider computes a bitwise XOR. R190. -/
  | xor (w : StrId) (p : Pfx) (f : FmtB)
  /-- Strider shifts left by Xb[5:0]. R190. -/
  | shl (w : StrId) (p : Pfx) (f : FmtB)
  /-- Strider shifts right logically by Xb[5:0]. R190. -/
  | shr (w : StrId) (p : Pfx) (f : FmtB)
  /-- Strider shifts right arithmetically by Xb[5:0]. R190. -/
  | sar (w : StrId) (p : Pfx) (f : FmtB)
  /-- Strider writes the low 64 bits of the product. R227. -/
  | mul (w : StrId) (p : Pfx) (f : FmtB)
  /-- Strider writes the signed high 64 bits of the product. R227. -/
  | mulh (w : StrId) (p : Pfx) (f : FmtB)
  /-- Strider writes the unsigned high 64 bits of the product. R227. -/
  | mulhu (w : StrId) (p : Pfx) (f : FmtB)
  /-- Strider divides signed, truncating toward zero, or traps DIVZ. R228. -/
  | div (w : StrId) (p : Pfx) (f : FmtB)
  /-- Strider divides unsigned, or traps DIVZ. R228. -/
  | divu (w : StrId) (p : Pfx) (f : FmtB)
  /-- Strider computes the signed remainder, or traps DIVZ. R228. -/
  | rem (w : StrId) (p : Pfx) (f : FmtB)
  /-- Strider computes the unsigned remainder, or traps DIVZ. R228. -/
  | remu (w : StrId) (p : Pfx) (f : FmtB)
  /-- Strider sets flags from Xa minus Xb. R190. -/
  | cmp (w : StrId) (p : Pfx) (f : FmtB)
  /-- Strider sets flags from Xa AND Xb. R190. -/
  | tst (w : StrId) (p : Pfx) (f : FmtB)
  /-- Strider writes the signed or unsigned minimum. R190. -/
  | min (w : StrId) (p : Pfx) (f : FmtB)
  /-- Strider writes the signed or unsigned maximum. R190. -/
  | max (w : StrId) (p : Pfx) (f : FmtB)
  /-- Strider counts leading zeros of Xa. R190. -/
  | clz (w : StrId) (p : Pfx) (f : FmtB)
  /-- Strider counts the one bits of Xa. R190. -/
  | popc (w : StrId) (p : Pfx) (f : FmtB)
  /-- Strider selects Xa or Xb by a condition. R189. -/
  | sel (w : StrId) (p : Pfx) (f : FmtC)
  /-- Strider adds an immediate. R190. -/
  | addi (w : StrId) (p : Pfx) (f : FmtI)
  /-- Strider ANDs an immediate. R190. -/
  | andi (w : StrId) (p : Pfx) (f : FmtI)
  /-- Strider ORs an immediate. R190. -/
  | ori (w : StrId) (p : Pfx) (f : FmtI)
  /-- Strider XORs an immediate. R190. -/
  | xori (w : StrId) (p : Pfx) (f : FmtI)
  /-- Strider shifts by an immediate count 0 to 63. R190. -/
  | shi (w : StrId) (p : Pfx) (f : FmtI)
  /-- Strider sets flags from Xa minus an immediate. R190. -/
  | cmpi (w : StrId) (p : Pfx) (f : FmtI)
  /-- Strider loads an immediate into Xd. R190. -/
  | movi (w : StrId) (p : Pfx) (f : FmtI)
  /-- Strider multiplies by an immediate. R227. -/
  | muli (w : StrId) (p : Pfx) (f : FmtI)
  /-- Strider loads 1 to 8 bytes into Xd. R191. -/
  | ld (w : StrId) (p : Pfx) (f : FmtM) (e : MemErr)
  /-- Strider stores 1 to 8 bytes from Xd into its store or combining buffer. R191. -/
  | st (w : StrId) (p : Pfx) (f : FmtM)
  /-- Strider loads a floating-point register. R191. -/
  | ldf (w : StrId) (p : Pfx) (f : FmtM) (e : MemErr)
  /-- Strider stores a floating-point register. R191. -/
  | stf (w : StrId) (p : Pfx) (f : FmtM)
  /-- Strider loads a register pair of 16 bytes. R318. -/
  | ldp (w : StrId) (p : Pfx) (f : FmtM) (e : MemErr)
  /-- Strider stores a register pair of 16 bytes. R318. -/
  | stp (w : StrId) (p : Pfx) (f : FmtM)
  /-- Strider performs an atomic read-modify-write of one 8-byte word. R319. -/
  | amo (w : StrId) (p : Pfx) (f : FmtC) (e : MemErr)
  /-- Strider stores an immediate. R190. -/
  | sti (w : StrId) (p : Pfx) (f : FmtS)
  /-- Strider performs a binary32 floating-point operation. R231. -/
  | fopS (w : StrId) (p : Pfx) (f : FmtC)
  /-- Strider performs a binary64 floating-point operation. R231. -/
  | fopD (w : StrId) (p : Pfx) (f : FmtC)
  /-- Strider compares two floating-point registers into the PSW flags. R240. -/
  | fcmp (w : StrId) (p : Pfx) (f : FmtB)
  /-- Strider converts between formats and integers. R241. -/
  | fcvt (w : StrId) (p : Pfx) (f : FmtC)
  /-- Strider copies bits between F and X registers. R242. -/
  | fmov (w : StrId) (p : Pfx) (f : FmtC)
  /-- Strider sends an ATX to the ADT front end and its weir for acceptance. R88. -/
  | emit (w : StrId) (p : Pfx) (f : FmtB)
  /-- A waiting EMIT is accepted when journal admission and a free window entry both pass. R89. -/
  | emitStallAccept (n : Fin 96)
  /-- An EMIT still waiting at EMIT_WAIT_MAX is refused with the last failing check. R89. -/
  | emitWaitTimeout (w : StrId)
  /-- Strider sends 64 bytes to a task or message queue. R208. -/
  | post (w : StrId) (p : Pfx) (f : FmtB)
  /-- A POST that found no space within 2 µs is refused QFULL. R208. -/
  | postWaitTimeout (w : StrId)
  /-- Strider writes one line of a state page and advances its version. R390. -/
  | commit (w : StrId) (p : Pfx) (f : FmtB) (busy : Bool)
  /-- A COMMIT still blocked by another COMMIT after 2 µs is refused BUSY. R390. -/
  | commitBusyTimeout (w : StrId)
  /-- Strider takes the oldest untaken entry of a message queue. R209. -/
  | recv (w : StrId) (p : Pfx) (f : FmtB)
  /-- Strider ends its task, posts the end message and releases the journal entry. R212. -/
  | taskend (w : StrId) (p : Pfx) (f : FmtA)
  /-- A refused task end message is retried every 1 µs. R212. -/
  | endMsgRetry (w : StrId)
  /-- Strider sleeps until an axis reaches a target angle or a deadline. R218. -/
  | waita (w : StrId) (p : Pfx) (f : FmtC)
  /-- Strider sleeps until DT reaches a target. R219. -/
  | waitt (w : StrId) (p : Pfx) (f : FmtB)
  /-- Strider sleeps until a queue entry or a pond event. R220. -/
  | waitq (w : StrId) (p : Pfx) (f : FmtB)
  /-- Strider sleeps until a wake DT or any latched event. R221. -/
  | sleep (w : StrId) (p : Pfx) (f : FmtA)
  /-- A waiting WAITA completes when the clamped tracker estimate reaches its target. R218. -/
  | waitaComplete (w : StrId)
  /-- A waiting WAITT completes when DT reaches its target. R219. -/
  | waittComplete (w : StrId)
  /-- A waiting WAITQ completes on a queue entry or latched event. R220. -/
  | waitqComplete (w : StrId)
  /-- A sleeping strider wakes at its DT or on a latched event. R221. -/
  | sleepComplete (w : StrId)
  /-- A WAITA or WAITQ whose deadline passes first ends with TIMEOUT. R217. -/
  | waitDeadline (w : StrId)
  /-- Strider executes a customer instruction through the decode table and control store. R260. -/
  | cxInstruction (w : StrId) (p : Pfx) (op : Fin 64) (ops : List Byte)
  /-- Run time reaching the task limit abandons the task at the next boundary. R215. -/
  | taskAbandon (w : StrId)
  /-- The dispatcher journals the head descriptor and starts an idle strider on it. R207. -/
  | taskDispatch (b : Fin 4) (q : Fin 64) (w : StrId)
  /-- The oldest store-buffer entry is performed in its memory class. R312. -/
  | sbEntryDrain (w : StrId) (e : MemErr)
  /-- A combining-buffer entry drains as a masked write. R313. -/
  | cbEntryDrain (w : StrId) (i : Fin 4) (e : MemErr)
  /-- The weir launches the next armed ATX in a DATA frame once its window is open and the channel accepts a frame. R94. -/
  | weirLaunch (n : Fin 96) (fine : Fin 8) (k : Nat)
  /-- An armed ATX whose DLL has passed is found late within 1 µs. R96. -/
  | atxLateFound (n : Fin 96) (xid : Nat)
  /-- An ATX held longer than NONEMAX ends FAILED NO_TARGET. R93. -/
  | atxHeldTimeout (n : Fin 96) (xid : Nat)
  /-- A delivered ATX without VERIFY by its limit ends FAILED NO_VERIFY or UNCONFIRMED. R98. -/
  | verifyTimeout (n : Fin 96) (xid : Nat)
  /-- A refused report POST is retried every 1 µs, setting RPTSTALL after 1 ms. R101. -/
  | reportRetry (n : Fin 96)
  /-- Every 1 µs each weir predicts launch times and publishes its slack. R109. -/
  | slackEvaluation
  /-- Writing WEIR_CTL.EN starts the weir or puts it into STOPPING. R107. -/
  | weirEnable (n : Fin 96) (en : Bool)
  /-- Writing WEIRG_CTL.SPD_CLR requests SPEED_LIMIT clearing at the next revolution change. R113. -/
  | spdClr
  /-- A nonzero WEIRG_SPDREQ.REQ raises SPEED_LIMIT with source 2. R111. -/
  | spdreqWrite (rated : BitVec 16) (req : BitVec 16)
  /-- Writing FC_CTL.EN = 1 starts link-up of the channel. R131. -/
  | fcEnable (n : Fin 96)
  /-- Writing FC_CTL.EN = 0 puts the channel in STOPPING. R137. -/
  | fcDisable (n : Fin 96)
  /-- After 1 µs of idle sets the stopping channel goes DISABLED. R137. -/
  | fcStopComplete (n : Fin 96)
  /-- Writing FC_CTL.VIOL_CLR clears every violation counter. R150. -/
  | fcViolClr (n : Fin 96)
  /-- A channel group PLL locks and its enabled channels start transmitting. R116. -/
  | groupPllLock (g : Fin 12)
  /-- A group PLL loses lock and each enabled channel acts by its state. R116. -/
  | groupPllLoss (g : Fin 12)
  /-- The receiver achieves symbol lock and the channel enters HELLO. R131. -/
  | symbolLock (n : Fin 96)
  /-- The receiver loses symbol lock, starting a retrain episode while UP. R119. -/
  | symbolLockLoss (n : Fin 96)
  /-- In HELLO the device sends a HELLO every 10 µs. R131. -/
  | helloTimer (n : Fin 96)
  /-- A link-up attempt not UP by 1 ms fails. R131. -/
  | linkupAttemptTimeout (n : Fin 96)
  /-- A further link-up attempt starts 100 µs after a failed one. R135. -/
  | retrainAttempt (n : Fin 96)
  /-- The channel receives a partner HELLO and accepts or refuses it. R133. -/
  | fcRxHello (n : Fin 96) (f : Frame)
  /-- The channel receives an IDLE frame carrying an acknowledgement. R130. -/
  | fcRxIdle (n : Fin 96) (f : Frame)
  /-- The channel receives an ACK and releases acknowledged frames. R126. -/
  | fcRxAck (n : Fin 96) (f : Frame)
  /-- The channel receives a NAK and starts a go-back-N resend. R125. -/
  | fcRxNak (n : Fin 96) (f : Frame)
  /-- The channel receives a SYNC RESP and updates delay, offset and Lat. R139. -/
  | fcRxSync (n : Fin 96) (f : Frame) (fine : Fin 8)
  /-- The channel passes ANGLE records to trackers sourced from it. R146. -/
  | fcRxAngle (n : Fin 96) (f : Frame)
  /-- The channel accepts a VERIFY frame and hands each record to its weir. R145. -/
  | fcRxVerify (n : Fin 96) (f : Frame)
  /-- The channel accepts a SENSE frame and posts its records. R147. -/
  | fcRxSense (n : Fin 96) (f : Frame)
  /-- The channel accepts a STATUS frame and posts it. R147. -/
  | fcRxStatus (n : Fin 96) (f : Frame)
  /-- A refused sense POST is retried every 1 µs and dropped after 100 µs. R147. -/
  | sensePostRetry (n : Fin 96)
  /-- A frame with a CRC error, code error or abort is discarded and NAKed. R121. -/
  | fcRxBadFrame (n : Fin 96) (k : BadFrame)
  /-- A frame with a partner violation is discarded, counted and answered by REJECT. R519. -/
  | fcRxViolation (n : Fin 96) (f : Frame) (overrun : Bool)
  /-- A quarantine not UP after 1 ms fails into a retrain episode. R154. -/
  | quarantineTimeout (n : Fin 96)
  /-- The channel transmits its next frame by priority; the frame end is a commit point. R129. -/
  | fcTxFrame (n : Fin 96) (fine : Fin 8)
  /-- The oldest unacknowledged frame times out and is resent with later ones. R125. -/
  | resendTimeout (n : Fin 96)
  /-- After 4 µs without sending, the device sends an IDLE frame. R130. -/
  | idleKeepalive (n : Fin 96)
  /-- 40 µs without a valid frame while UP is a SILENCE violation. R130. -/
  | silence (n : Fin 96)
  /-- The channel starts a SYNC exchange at each SYNC period. R138. -/
  | syncPeriod (n : Fin 96) (fine : Fin 8)
  /-- A RESP not arrived 20 µs after its REQ is missed, sixteen causing SYNC loss. R138. -/
  | syncRespMissed (n : Fin 96)
  /-- Each channel with a safe cause sends a SAFE frame every 2 µs. R148. -/
  | safeFrameTimer (n : Fin 96)
  /-- Writing TIME_CTL.EN freezes DT or restarts it, optionally from DT_SET. R60. -/
  | timeCtlEn (en load aonCal : Bool)
  /-- Writing DT_SLEW on the manager asks for a rate-limited move of DT. R61. -/
  | dtSlew (v : BitVec 32)
  /-- Each window of 1,024 always-on cycles yields a tick count for AON_CAL. R62. -/
  | aonCalWindow (count : Nat)
  /-- A worker sends a firefly REQ at its scheduled DT each millisecond. R77. -/
  | ffReqSend (fine : Fin 8)
  /-- The manager stamps a firefly REQ and answers with a RESP. R77. -/
  | ffRxReq (port : Fin 8) (p : FfPayload) (fineIn : Fin 8) (turn : Nat) (fineOut : Fin 8)
  /-- A depth-1 worker relays a firefly frame, adding residence and asymmetry terms. R76. -/
  | ffRelay (inPort : Fin 8) (p : FfPayload) (residence : Int)
  /-- A worker computes offset and round trip and runs its servo. R79. -/
  | ffRxResp (p : FfPayload) (fine : Fin 8)
  /-- HOLDOVER longer than 2^HOLD_MAX ms becomes LOST. R81. -/
  | holdoverTimeout
  /-- Writing CAP_CTL.ARM arms capture of the next event of the selected source. R60. -/
  | capArm
  /-- Writing AX_CTL.EN enables or disables a tracker. R69. -/
  | trackerEnable (n : Fin 16) (en : Bool)
  /-- Writing AX_CTL.COMMIT commits the axis group at the next index or at once while disabled. R73. -/
  | axCommit (n : Fin 16)
  /-- An angle port counts and stamps a quadrature edge. R65. -/
  | apQuadEdge (m : Fin 8) (k : QuadKind) (fine : Fin 8)
  /-- An angle port recognises an index edge and the tracker aligns MA. R66. -/
  | apIndex (m : Fin 8) (fine : Fin 8)
  /-- Each poll period the SSI port checks the data line and starts a frame. R67. -/
  | ssiPoll (m : Fin 8) (dataHigh : Bool) (fine : Fin 8)
  /-- An SSI frame completes and its sample is checked and taken. R67. -/
  | ssiFrameDone (m : Fin 8) (raw : BitVec 31)
  /-- At every multiple of 3,000 ticks the tracker updates by prediction. R70. -/
  | trackerUpdate (n : Fin 16)
  /-- No change of count for 100 ms puts the tracker in STANDSTILL. R69. -/
  | standstillTimeout (n : Fin 16)
  /-- An ANGLE source silent for 100 µs sets SRCLOST. R74. -/
  | srclostTimeout (n : Fin 16)
  /-- SRCLOST unresolved for 1 ms makes the tracker LOST. R74. -/
  | srclostLost (n : Fin 16)
  /-- A register write without behaviour of its own applies each field by its access class. R38. -/
  | regWrite (who : Requester) (addr : BitVec 24) (size : Fin 3) (v : Word32)
  /-- Reading a _LO register latches the high half for the requester. R35. -/
  | pairLoRead (who : Requester) (addr : BitVec 24)
  /-- Writing a _LO register stages the low half in the requester's latch. R36. -/
  | pairLoWrite (who : Requester) (addr : BitVec 24) (v : Word32)
  /-- Writing a _HI register commits both halves as one write. R36. -/
  | pairHiWrite (who : Requester) (addr : BitVec 24) (v : Word32)
  /-- A register access unanswered within 10 µs is completed with 0 or discarded. R56. -/
  | regTmo (addr : BitVec 24)
  /-- Writing DEV_CFGMODE changes IMMED bits when no group is pending. R50. -/
  | devCfgmodeWrite (v : Word32)
  /-- Writing WEIR_CTL.COMMIT requests the weir group commit. R44. -/
  | weirCommit (n : Fin 96)
  /-- Writing 1 to a sticky fault bit acknowledges the fault. R373. -/
  | faultAck (blk : Byte) (inst : Byte) (bits : Word32)
  /-- A window READ copies a table entry into the window buffer. R114. -/
  | adtOpRead
  /-- A window WRITE writes masked buffer words into an entry. R114. -/
  | adtOpWrite
  /-- ADT_DATA reads or writes a buffer word and advances ADT_WIDX. R114. -/
  | adtDataAccess (write : Option Word32)
  /-- Background scrub rereads the next ADT or DPT entry. R87. -/
  | adtScrubStep (err : EccErr)
  /-- CMP_JOB_GO.OP = 1 starts a COMPRESS job. R170. -/
  | cmpJobCompress
  /-- CMP_JOB_GO.OP = 2 starts a DECOMPRESS job into DRAM. R174. -/
  | cmpJobDecompress
  /-- CMP_JOB_GO.OP = 3 starts a VERIFY job. R174. -/
  | cmpJobVerify
  /-- A CMP job completes and sets CMP_JOB_RES. R170. -/
  | cmpJobDone (mism : Fin 3) (dyn : List Nat)
  /-- Writing CMP_TBL.COMMIT requests the CMP table group commit. R44. -/
  | cmpTblCommit
  /-- A store at offset 0x18 of the CMP port submits a decompression descriptor. R172. -/
  | cmpRequestSubmit (w : StrId) (v : Word)
  /-- A submit stalled 2 µs on a full port completes BUSY QUEUE. R178. -/
  | cmpPortFullTimeout (w : StrId)
  /-- A lane checks, decodes and delivers a request and writes its DONE word. R174. -/
  | cmpRequestComplete (lane : Fin 4) (crcErr : Fin 3)
  /-- A strider submits a descriptor to a pond DMA engine. R296. -/
  | dmaRequestSubmit (w : StrId) (e : Fin 2) (v : Word)
  /-- A submit stalled 2 µs on a full engine completes BUSY. R296. -/
  | dmaFullTimeout (w : StrId)
  /-- The engine writes the destination, the completion word and raises its event. R297. -/
  | dmaRequestComplete (p : Fin 68) (e : Fin 2) (err : MemErr)
  /-- L2_MAINT.OP 1 cleans one line. R279. -/
  | l2Clean (p : Fin 68) (ahi : BitVec 3)
  /-- L2_MAINT.OP 2 invalidates one line. R279. -/
  | l2Invalidate (p : Fin 68) (ahi : BitVec 3)
  /-- L2_MAINT.OP 3 cleans and invalidates one line. R279. -/
  | l2CleanInvalidate (p : Fin 68) (ahi : BitVec 3)
  /-- L2_MAINT.OP 4 cleans every line. R282. -/
  | l2CleanAll (p : Fin 68)
  /-- L2_MAINT.OP 5 invalidates every line. R282. -/
  | l2InvalidateAll (p : Fin 68)
  /-- L2_MAINT.OP 6 cleans and invalidates every line. R282. -/
  | l2CleanInvalidateAll (p : Fin 68)
  /-- A maintenance operation completes, clearing BUSY and setting DONE. R283. -/
  | l2MaintDone (p : Fin 68) (tagUe : Bool)
  /-- Writing L2_CTL.EN disables the L2 toward its stopped state or enables it with held lines. R284. -/
  | l2CtlEn (p : Fin 68) (en : Bool)
  /-- The L2 reaches its stopped state once fills, buffers and maintenance have ended. R284. -/
  | l2Stopped (p : Fin 68)
  /-- Each 2^30-tick window restarts the per-way corrected-error counts. R277. -/
  | l2CeWindow (p : Fin 68)
  /-- Writing POND_CTL.EN = 0 stops dispatch to the pond until it is idle. R301. -/
  | pondCtlEn (p : Fin 68) (en : Bool)
  /-- Writing PM_CTL.EN = 0 stops pond-memory access once DMA is idle. R302. -/
  | pmCtlEn (p : Fin 68) (en : Bool)
  /-- Writing PM_REGION_SEL commits the selected descriptor or changes the selection. R47. -/
  | pmRegionCommit (p : Fin 68) (master : BitVec 5) (desc : BitVec 3) (commit : Bool)
  /-- Writing PM_CONFLICT_SEL.CLR clears the selected conflict counter. R298. -/
  | pmConflictClr (p : Fin 68)
  /-- Writing POND_ACK.REARM re-arms first-error capture. R305. -/
  | pondRearm (p : Fin 68)
  /-- Writing MARCH_CTL.START starts a march test. R299. -/
  | marchStart (p : Fin 68)
  /-- A march completes, repairing failing rows into spares. R300. -/
  | marchDone (p : Fin 68) (bad : List (Fin 16 × Fin 130)) (ue : List (Fin 16 × Fin 4096))
  /-- The home takes a read miss and grants or snoops. R330. -/
  | gets (b : Fin 4) (r : Fin 17) (line : LineNo) (resends : Nat)
  /-- The home takes a write miss and grants or snoops. R330. -/
  | getm (b : Fin 4) (r : Fin 17) (line : LineNo) (resends : Nat)
  /-- The home takes an upgrade request from a sharer. R330. -/
  | upg (b : Fin 4) (r : Fin 17) (line : LineNo) (resends : Nat)
  /-- The home writes back dirty data or answers it stale. R330. -/
  | putm (b : Fin 4) (r : Fin 17) (line : LineNo) (keep : Bool) (resends : Nat)
  /-- The home removes a clean holder at once. R330. -/
  | putc (b : Fin 4) (r : Fin 17) (line : LineNo) (resends : Nat)
  /-- The home serves an uncached read, snooping an owner if needed. R330. -/
  | ucrd (b : Fin 4) (r : Option (Fin 17)) (line : LineNo) (resends : Nat)
  /-- The home merges an uncached write into memory after invalidation. R330. -/
  | ucwr (b : Fin 4) (r : Option (Fin 17)) (line : LineNo) (bytes : List (Option Byte)) (poison : BitVec 8) (resends : Nat)
  /-- The home completes a busy transaction on the returning snoop's combined response. R331. -/
  | combinedResponse (b : Fin 4) (line : LineNo) (resends : Nat)
  /-- An L2 answers a shared snoop. R327. -/
  | snps (b : Fin 4) (r : Fin 17) (line : LineNo) (resends : Nat)
  /-- An L2 answers an invalidating snoop. R327. -/
  | snpi (b : Fin 4) (r : Fin 17) (line : LineNo) (resends : Nat)
  /-- An L2 owner supplies data for an uncached read. R327. -/
  | snpd (b : Fin 4) (r : Fin 17) (line : LineNo) (resends : Nat)
  /-- An L2 invalidates every line of a filter set. R336. -/
  | snpf (b : Fin 4) (r : Fin 17) (set : BitVec 11) (resends : Nat)
  /-- An L2 receives a shared grant with data. R327. -/
  | dataS (b : Fin 4) (r : Fin 17) (line : LineNo) (resends : Nat)
  /-- An L2 receives an exclusive grant with data. R327. -/
  | dataE (b : Fin 4) (r : Fin 17) (line : LineNo) (resends : Nat)
  /-- An L2 receives a modified grant and performs its store. R327. -/
  | dataM (b : Fin 4) (r : Fin 17) (line : LineNo) (resends : Nat)
  /-- An L2 receives an upgrade grant without data. R327. -/
  | grant (b : Fin 4) (r : Fin 17) (line : LineNo) (resends : Nat)
  /-- An L2 learns its PUTM was written. R327. -/
  | wback (b : Fin 4) (r : Fin 17) (line : LineNo) (resends : Nat)
  /-- An L2 learns its PUTM was discarded as stale. R327. -/
  | wbackStale (b : Fin 4) (r : Fin 17) (line : LineNo) (resends : Nat)
  /-- A requester receives a NACK with a ticket. R335. -/
  | nack (b : Fin 4) (r : Option (Fin 17)) (line : LineNo) (resends : Nat)
  /-- A NACKed request is resent after its backoff. R335. -/
  | nackResend (b : Fin 4) (r : Option (Fin 17)) (line : LineNo) (resends : Nat)
  /-- A master receives uncached read data. R330. -/
  | udata (b : Fin 4) (r : Option (Fin 17)) (line : LineNo) (resends : Nat)
  /-- A master receives completion of an uncached write. R330. -/
  | ucwrComplete (b : Fin 4) (r : Option (Fin 17)) (line : LineNo) (resends : Nat)
  /-- Background scrub rereads snoop-filter entries. R333. -/
  | sfScrubStep (b : Fin 4) (set : BitVec 11) (e : EccErr)
  /-- The adoptive basin replays the lost basin's tasks and re-posts its queue journal. R394. -/
  | basinReplay (b : Fin 4) (poisoned : List (BitVec 48))
  /-- Each refresh interval the MC refreshes and applies staged fields. R352. -/
  | mcRefresh (c : Fin 8)
  /-- Patrol scrub reads and corrects the next block. R363. -/
  | mcScrubStep (c : Fin 8) (e : EccErr) (map : Bool)
  /-- MC0 or MC1 pauses and nudges one rank's delays. R350. -/
  | mcPeriodicRetrain (c : Fin 8) (low : Bool)
  /-- Every 10 ms the MC reads DIMM temperatures and checks drift. R351. -/
  | mcTempRead (c : Fin 8) (t : BitVec 8)
  /-- Writing MC_TRAIN.START retrains one rank. R351. -/
  | mcTrainStart (c : Fin 8)
  /-- A commanded retrain completes and applies passing delays. R351. -/
  | mcRetrainDone (c : Fin 8) (eyes : List (BitVec 8 × BitVec 8))
  /-- Writing MC_SPARE.COMMIT requests a rank migration. R366. -/
  | mcSpareCommit (c : Fin 8)
  /-- The MC copies the next block from the source rank to the spare. R367. -/
  | migrationStep (c : Fin 8) (e : EccErr)
  /-- MC_RGN_SEL.OP 1 copies a region entry into the window. R353. -/
  | mcRgnRead (c : Fin 8) (idx : BitVec 6)
  /-- MC_RGN_SEL.OP 2 checks and writes a region entry and starts its initialisation. R354. -/
  | mcRgnWrite (c : Fin 8) (idx : BitVec 6)
  /-- MC_RGN_SEL.OP 3 clears VALID of a region. R353. -/
  | mcRgnInvalidate (c : Fin 8) (idx : BitVec 6)
  /-- MC_RGN_SEL.OP 4 changes the owner of a region. R353. -/
  | mcRgnRebind (c : Fin 8) (idx : BitVec 6)
  /-- FILL or valid-map clearing completes and the region becomes valid. R361. -/
  | regionInitDone
  /-- Every 1 ms the service complex reads fault registers, logs and applies commits. R374. -/
  | housekeepingTick (found : List SelfFault)
  /-- Firmware acknowledges a class C bit within 20 µs. R373. -/
  | cAutoAck (blk : Byte) (inst : Byte) (bit : Byte)
  /-- Firmware acknowledges a class R bit R_HOLD ms after recovery. R373. -/
  | rAutoAck (blk : Byte) (inst : Byte) (bit : Byte)
  /-- Once the lost pond's L2 is cleaned or declared lost, its tasks are replayed. R383. -/
  | tarnReplay (p : Fin 68) (poisoned : List (BitVec 48))
  /-- Firmware rewrites an uncorrectable microword and stalled striders continue. R251. -/
  | csWordRefresh (p : Fin 68)
  /-- Once per second every control-store word is reread. R251. -/
  | csBackgroundPass (p : Fin 68) (e : EccErr)
  /-- A lockstep mismatch in SVC-A makes SVC-B active. R403. -/
  | svcFailover
  /-- A filtered fall of ESTOP_N enters the safe state when ESTOP_SAFE is 1. R396. -/
  | estopNFall
  /-- A filtered fall of PFW_N enters the safe state and builds the tail report. R399. -/
  | pfwNFall
  /-- PFW_N rising without power loss leaves the device safe with its report. R399. -/
  | pfwNRise
  /-- Detail records and the complete header are written and vector 63 sent. R399. -/
  | tailReportComplete
  /-- Writing SVC_FLTCTL.SAFE_REQ enters the safe state. R396. -/
  | safeReq
  /-- Writing SEC_PG_CTL.EN = 1 starts derivation of the page key. R420. -/
  | secPageEnable (who : Requester) (k : Fin 16)
  /-- Writing SEC_PG_CTL.EN = 0 zeroes the key after running operations. R420. -/
  | secPageDisable (who : Requester) (k : Fin 16)
  /-- The KDF completes and the page becomes KEYED. R418. -/
  | pageKeyDerived (k : Fin 16) (parity : Bool)
  /-- Operations on a disabling page complete and the key is zeroed. R420. -/
  | pageZeroed (k : Fin 16)
  /-- Writing SEC_KEYLOAD loads the next word of the system secret. R419. -/
  | secKeyload (who : Requester) (v : Word32)
  /-- Writing SEC_KEYLD_CTL.START begins a system-secret load. R419. -/
  | secKeyloadStart (who : Requester)
  /-- Writing SEC_KEYLD_CTL.CLEAR zeroes the system secret. R420. -/
  | secKeyloadClear (who : Requester)
  /-- Writing SEC_CTL.OTP_LOCK makes the microcode key unreadable until reset. R411. -/
  | otpLock (who : Requester)
  /-- Writing SEC_RNG_CTL.RESTART restarts the noise source. R426. -/
  | rngRestart (who : Requester)
  /-- The restarted noise source resumes after 2 ms or counts a failed restart. R426. -/
  | rngRestartDone (ok : Bool)
  /-- Reading SEC_RNG_DATA consumes the next conditioned word or underruns. R426. -/
  | rngDataRead (who : Requester)
  /-- The mask expander is reseeded from the TRNG at least every 1 µs. R424. -/
  | maskReseed
  /-- Writing SEC_SHA_CTL.INIT starts a new SHA-256 message. R425. -/
  | shaInit (who : Requester) (lastb : BitVec 2)
  /-- Writing SEC_SHA_DATA feeds the next message word. R425. -/
  | shaData (who : Requester) (v : Word32)
  /-- Writing SEC_SHA_CTL.FINAL pads and finishes the digest. R425. -/
  | shaFinal (who : Requester) (lastb : BitVec 2)
  /-- The SHA-256 engine finishes and sets DONE. R425. -/
  | shaDone (parity : Bool)
  /-- Each arbitration round fetches and checks up to 8 entries per queue. R437. -/
  | hostArbRound (io : HostIo)
  /-- The host writes an SQ tail doorbell. R435. -/
  | sqTail (who : Requester) (q : Fin 16) (v : BitVec 12)
  /-- The host writes a CQ head doorbell, releasing entries. R435. -/
  | cqHead (who : Requester) (q : Fin 16) (v : BitVec 12)
  /-- The oldest unsignalled CQ entry reaching the coalescing time sends the vector. R438. -/
  | cqCoalesceTimeout (q : Fin 16)
  /-- Writing HOST_CTL.EN starts queue processing or stops fetching. R457. -/
  | hostCtlEn (who : Requester) (en : Bool)
  /-- FLR, hot reset or link down resets the HOST block only. R431. -/
  | hostReset (linkDown : Bool)
  /-- Writing DP_ADDR sets the data-port address and discards prefetch. R450. -/
  | dpAddrWrite (who : Requester) (v : Word)
  /-- Writing DP_CTL changes port modes and discards prefetch. R451. -/
  | dpCtlWrite (who : Requester) (v : Word32)
  /-- A TLP to the window writes 4-byte units at advancing addresses. R450. -/
  | dpDataWrite (units : List (BitVec 4 × Word32))
  /-- A TLP to the window reads 4-byte units, possibly from prefetch. R451. -/
  | dpDataRead (n : Nat) (e : MemErr)
  /-- Prefetched data is discarded after 10 µs without a read. R451. -/
  | dpPrefetchExpire
  /-- Returns the 64-byte device information. R455. -/
  | devInfo (q : Fin 16)
  /-- Returns the presence and position of every device. R455. -/
  | devTopo (q : Fin 16)
  /-- Completes, then performs a warm or device reset with a tail report. R492. -/
  | devReset (q : Fin 16)
  /-- Returns a worker's last journal summary. R478. -/
  | devSummary (q : Fin 16)
  /-- Re-enables or disables a tier port. R478. -/
  | devPort (q : Fin 16)
  /-- Creates a queue pair. R434. -/
  | hostQcreate (q : Fin 16)
  /-- Deletes a queue pair after its fetched commands complete. R434. -/
  | hostQdelete (q : Fin 16)
  /-- Returns host interface counters. R455. -/
  | hostStats (q : Fin 16)
  /-- Sets the BAR2 mode and optional locks. R453. -/
  | hostLock (q : Fin 16)
  /-- Compresses and loads a pattern with its descriptor and tile table. R159. -/
  | patLoad (q : Fin 16) (rows : List Byte)
  /-- Retires a pattern. R159. -/
  | patDrop (q : Fin 16)
  /-- Lists loaded patterns. R455. -/
  | patList (q : Fin 16)
  /-- Verifies every tile of a pattern. R455. -/
  | patVerify (q : Fin 16)
  /-- Sets the CMP table selection, fallback and preset base. R455. -/
  | patTable (q : Fin 16)
  /-- Configures an axis tracker. R455. -/
  | axConfig (q : Fin 16)
  /-- Configures an angle port. R455. -/
  | axPort (q : Fin 16)
  /-- Returns a tracker's state and an MA or DT answer. R72. -/
  | axQuery (q : Fin 16)
  /-- Configures a channel and its weir. R455. -/
  | chConfig (q : Fin 16)
  /-- Enables or disables a channel and its weir. R455. -/
  | chEnable (q : Fin 16)
  /-- Returns the partner HELLO and measured delay and Lat. R455. -/
  | chPartner (q : Fin 16)
  /-- Writes ADT or DPT entries through the window. R455. -/
  | chTable (q : Fin 16)
  /-- Reads ADT or DPT entries. R455. -/
  | chTableread (q : Fin 16)
  /-- Returns a channel's status and counters. R455. -/
  | chStats (q : Fin 16)
  /-- Sets SPEED_LIMIT parameters and returns its state. R455. -/
  | chSpeed (q : Fin 16)
  /-- Configures a dispatcher queue. R343. -/
  | taskQconfig (q : Fin 16)
  /-- Posts an entry to a queue on behalf of the host. R455. -/
  | taskPost (q : Fin 16)
  /-- Sets a basin's placement policy. R455. -/
  | taskPlace (q : Fin 16)
  /-- Sets TASK_MAX of one or every pond. R301. -/
  | taskLimit (q : Fin 16)
  /-- Returns a basin's queue and journal status. R455. -/
  | taskStatus (q : Fin 16)
  /-- Performs a region-table operation. R455. -/
  | memRegion (q : Fin 16)
  /-- Issues L2 maintenance for one or every pond. R283. -/
  | memCache (q : Fin 16)
  /-- Runs a march on a pond. R455. -/
  | memMarch (q : Fin 16)
  /-- Retrains one or every rank of a channel. R351. -/
  | memRetrain (q : Fin 16)
  /-- Reserves a spare rank or starts a migration. R366. -/
  | memSpare (q : Fin 16)
  /-- Returns MC or basin statistics. R455. -/
  | memStats (q : Fin 16)
  /-- Sets patrol scrub enable and period. R455. -/
  | memScrub (q : Fin 16)
  /-- Requests a device power state. R486. -/
  | pwrState (q : Fin 16)
  /-- Sets a pond's idle policy. R485. -/
  | pwrPond (q : Fin 16)
  /-- Returns power and thermal status. R455. -/
  | pwrStatus (q : Fin 16)
  /-- Acknowledges fault bits of a block. R373. -/
  | fltAck (q : Fin 16)
  /-- Enters the safe state. R396. -/
  | fltSafe (q : Fin 16)
  /-- Leaves the safe state when its conditions hold. R398. -/
  | fltResume (q : Fin 16)
  /-- Returns kept fault records. R379. -/
  | fltLog (q : Fin 16)
  /-- Sets up or stops the host fault log. R454. -/
  | fltLogbuf (q : Fin 16)
  /-- Sets up the tail report buffer. R399. -/
  | fltTailbuf (q : Fin 16)
  /-- Reads or clears the retirement record. R401. -/
  | fltRecord (q : Fin 16)
  /-- Returns a task or transaction journal entry. R455. -/
  | fltJournal (q : Fin 16)
  /-- Sets fault-handling controls. R455. -/
  | fltCtl (q : Fin 16)
  /-- Returns security identity and status. R429. -/
  | secInfo (q : Fin 16)
  /-- Configures and enables or disables a page. R429. -/
  | secPage (q : Fin 16)
  /-- Loads or clears the system secret and distributes it. R467. -/
  | secSyskey (q : Fin 16)
  /-- Returns a signed attestation quote. R415. -/
  | secAttest (q : Fin 16)
  /-- Returns measurement log entries. R415. -/
  | secLog (q : Fin 16)
  /-- Blows anti-rollback fuses up to the running SEC_VER. R410. -/
  | secRollfwd (q : Fin 16)
  /-- Programs or revokes a customer slot. R412. -/
  | secSlot (q : Fin 16) (sig : List Byte)
  /-- Returns TRNG bytes. R426. -/
  | secRandom (q : Fin 16)
  /-- Returns a debug challenge. R427. -/
  | secDbgchal (q : Fin 16)
  /-- Verifies a token and opens the debug port. R427. -/
  | secDbgunlock (q : Fin 16) (sig : List Byte)
  /-- Reads consecutive registers. R455. -/
  | expRdreg (q : Fin 16)
  /-- Writes registers by address and value pairs. R30. -/
  | expWrreg (q : Fin 16)
  /-- Reads device memory uncached. R455. -/
  | expRdmem (q : Fin 16)
  /-- Writes device memory. R455. -/
  | expWrmem (q : Fin 16)
  /-- Returns microcode versions and load status. R268. -/
  | expUcinfo (q : Fin 16)
  /-- Returns customer microwords or decode entries. R268. -/
  | expUcread (q : Fin 16)
  /-- Verifies and stages a customer image for the next reset. R268. -/
  | expUcstage (q : Fin 16) (image : List Byte)
  /-- A tier port accepts or refuses a HELLO. R464. -/
  | tierRxHello (t : Fin 8) (f : Frame)
  /-- A tier port receives an ACK. R461. -/
  | tierRxAck (t : Fin 8) (f : Frame)
  /-- A tier port receives a NAK and resends. R461. -/
  | tierRxNak (t : Fin 8) (f : Frame)
  /-- A tier frame with a CRC or code error or abort is discarded. R461. -/
  | tierRxBadFrame (t : Fin 8) (k : BadFrame)
  /-- A tier violation is counted, the sixteenth in 1 ms starting a retrain. R461. -/
  | tierViolation (t : Fin 8) (f : Frame)
  /-- A SAFE frame on a propagating port enters the safe state. R473. -/
  | tierRxSafe (t : Fin 8) (f : Frame)
  /-- A frame for another device is forwarded by route mask or discarded. R468. -/
  | tierRoute (t : Fin 8) (f : Frame)
  /-- Writing TIER_CTL.COMMIT requests the routing group commit. R468. -/
  | tierRouteCommit
  /-- An unacknowledged tier DATA frame is resent. R461. -/
  | tierResendTimeout (t : Fin 8)
  /-- 40 µs without a valid frame starts a tier retrain episode. R461. -/
  | tierSilence (t : Fin 8)
  /-- A tier port loses block lock and retrains. R460. -/
  | blockLockLoss (t : Fin 8)
  /-- A tier retrain attempt starts, failing to DOWN after three. R465. -/
  | tierRetrainAttempt (t : Fin 8)
  /-- Writing TIER_CTL.EN enables a port or takes it to DISABLED. R465. -/
  | tierEnable (t : Fin 8) (en : Bool)
  /-- A worker runs a routed command. R469. -/
  | cmd (t : Fin 8) (f : Frame)
  /-- The manager writes a worker's result and completion entry. R469. -/
  | reply (t : Fin 8) (f : Frame)
  /-- The manager logs a worker's fault records. R470. -/
  | fault (t : Fin 8) (f : Frame)
  /-- The manager keeps a worker's journal summary. R471. -/
  | summary (t : Fin 8) (f : Frame)
  /-- Every SUM_PER ms a worker sends a SUMMARY. R471. -/
  | summaryTimer
  /-- The manager writes a worker's tail report. R472. -/
  | tail (t : Fin 8) (f : Frame)
  /-- A worker's boot ROM receives boot image fragments. R466. -/
  | boot (t : Fin 8) (f : Frame)
  /-- The parent learns the worker's boot verification result. R466. -/
  | bootstat (t : Fin 8) (f : Frame)
  /-- A worker loads or clears the system secret. R467. -/
  | secret (t : Fin 8) (f : Frame)
  /-- The manager logs a worker's notice record. R470. -/
  | notice (t : Fin 8) (f : Frame)
  /-- Writing PWR_REQ.TARGET = 1 requests D-NAP. R486. -/
  | pwrReqNap
  /-- Writing PWR_REQ.TARGET = 2 requests D-SLEEP. R488. -/
  | pwrReqSleep
  /-- D-NAP conditions holding NAP_HOLD µs re-enter D-NAP. R486. -/
  | napAutoHold
  /-- Once MC queues drain the device enters self-refresh and powers off domains. R488. -/
  | dSleepPowerOff
  /-- A fall of WAKE_N starts resume from D-SLEEP. R489. -/
  | wakeNFall
  /-- DT reaching PWR_WAKE_DT starts resume. R489. -/
  | wakeTimer
  /-- Activity on an armed tier port starts resume. R489. -/
  | tierActivityWake (t : Fin 8)
  /-- Restoration completes and the device is READY in D-IDLE. R489. -/
  | resumeReady (ok : Bool)
  /-- An idle pond with its policy bit set cleans its L2 and power-gates. R485. -/
  | pondPowerGate (p : Fin 68)
  /-- A PLL loses lock and its units stall. R482. -/
  | pllLockLoss (k : Fin 8)
  /-- The PLL relocks within 15 µs and units continue. R482. -/
  | pllRelock (k : Fin 8)
  /-- A regulator write not acknowledged is retried every 100 µs. R499. -/
  | avsWriteRetry (ack : Bool)
  /-- A path monitor with low margin lowers ECLK and raises the voltage. R499. -/
  | vmargin (b : Fin 4)
  /-- Writing RST_CTL.BLK_GO resets one disabled instance. R494. -/
  | blkGo (blk : Byte) (inst : BitVec 16)
  /-- Writing RST_CTL.KIND starts a warm or device reset. R492. -/
  | rstCtlKind (kind : BitVec 2)
  /-- RST_N low holds the device in reset with its pins safe. R493. -/
  | rstNFall
  /-- RST_N rising samples the straps and starts the device. R496. -/
  | rstNRise (role boot : BitVec 2) (c : StartCfg)
  /-- VDD_AON rising resets everything including the always-on domain. R491. -/
  | powerOn
  /-- PERST_N resets the HOST block or the device by PERST_DEV. R491. -/
  | perstN (low : Bool)
  /-- When FILL completes the device reaches READY and releases its pins. R496. -/
  | ready
  /-- Every 100 µs the sensors are read and thresholds compared. R515. -/
  | thermSample (ts : List (BitVec 16))
  /-- Every 1 ms a throttled basin's ECLK moves by 100 MHz. R516. -/
  | throttleStep
  /-- Writing PIN_CTL.CHAIN_TEST drives SAFE_N and STOPREQ_N low. R508. -/
  | chainTest
  /-- After 10 ms the chain test releases the pins. R508. -/
  | chainTestEnd
  /-- SMBus 0x00 returns the boot stage and failure code. R512. -/
  | smbBootStage (pec : Pec)
  /-- SMBus 0x01 returns the state and device number. R512. -/
  | smbState (pec : Pec)
  /-- SMBus 0x02 returns the hottest Tj. R512. -/
  | smbTj (pec : Pec)
  /-- SMBus 0x03 returns device power. R512. -/
  | smbPower (pec : Pec)
  /-- SMBus 0x04 returns the OTP serial. R512. -/
  | smbSerial (pec : Pec)
  /-- SMBus 0x05 returns blocks with class D or S bits set. R512. -/
  | smbClassDs (pec : Pec)
  /-- SMBus 0x06 returns MC temperatures. R512. -/
  | smbMcTemp (pec : Pec)
  /-- SMBus 0x10 to 0x17 return sensor temperatures. R512. -/
  | smbThermSense (k : Fin 8) (pec : Pec)
  /-- SMBus ARP reassigns the device address. R512. -/
  | smbArp (addr : BitVec 7) (pec : Pec)
  /-- The device answers the Alert Response Address. R512. -/
  | smbAlertResponse
  /-- JTAG EXTEST drives boundary scan while RST_N is low. R514. -/
  | extest
  /-- JTAG SAMPLE/PRELOAD captures boundary scan. R514. -/
  | samplePreload
  /-- JTAG IDCODE selects the ID register. R514. -/
  | idcode
  /-- JTAG CLAMP holds outputs while RST_N is low. R514. -/
  | clamp
  /-- JTAG HIGHZ floats outputs while RST_N is low. R514. -/
  | highz
  /-- JTAG DBG_PORT reaches the debug access port when unlocked. R514. -/
  | dbgPort
  /-- JTAG MBIST reaches the memory self-test controller when unlocked. R514. -/
  | mbist
  /-- JTAG BYPASS selects the bypass register. R514. -/
  | bypass
  /-- A strider meets an opcode or prefix sequence that no table defines and raises ILLEGAL. R190. -/
  | undefinedOpcode (w : StrId) (p : Pfx) (op : Byte)
  /-- An instruction fetch from a forbidden or poisoned address raises ACCESS or POISON before any opcode is known. R270. -/
  | instructionFetchFault (w : StrId) (p : Pfx) (poison : Bool)
  /-- At each DT with bits [9:0] zero the TIME block applies staged RWL fields such as DT_SLEW and FF_CTL. R39. -/
  | timeCommitPoint
  /-- The TBCLK PLL or its reference is lost, setting TIME_FAULT.TBCLK_LOSS, class S. R482. -/
  | tbclkLoss
  /-- The fine-tick interpolator loses lock, setting FINE_UNLOCK and holding placements. R57. -/
  | fineUnlock
  /-- The interpolator regains lock, FINE_LOCK reads 1 and held placements resume. R57. -/
  | fineRelock
  /-- A rail leaves its range while RST_N is high, setting PWR_FAULT.UV and entering the safe state. R505. -/
  | undervoltage
  /-- ESTOP_N rises, setting PIN_EDGE and, for a pulse shorter than its filter, PIN_GLITCH. R509. -/
  | estopNRise (ns : Nat)
  /-- A tier port transmits its next frame by priority, the frame end being the TIER commit point. R463. -/
  | tierTxFrame (t : Fin 8)
  /-- A tier receiver gains block lock after 64 valid sync headers and the port enters HELLO. R460. -/
  | blockLock (t : Fin 8)
  /-- In HELLO a tier port sends a HELLO every 10 µs. R464. -/
  | tierHelloTimer (t : Fin 8)
  /-- A tier link-up attempt not UP in time fails. R464. -/
  | tierAttemptTimeout (t : Fin 8)
  /-- A tier port receives an IDLE frame carrying its acknowledgement. R461. -/
  | tierRxIdle (t : Fin 8) (f : Frame)
  /-- A device in the safe state sends a SAFE frame every 2 µs on each propagating UP tier port. R473. -/
  | tierSafeFrameTimer
  /-- For a known time or angle event the pond starts waking by its restart time ahead of the event. R223. -/
  | pondEarlyWake (p : Fin 68)
  /-- DEV.PORT not reaching UP or DISABLED within 5 ms completes FAILED. R478. -/
  | devPortTimeout (q : Fin 16)
  /-- SETTLE µs after a voltage raise the basin ECLK is raised. R499. -/
  | avsSettle
  /-- An automatic way disable finishes its write-back and invalidation and waiting accesses proceed. R277. -/
  | wayDisableDone (p : Fin 68)
  /-- A window of raw TRNG samples completes its health tests and, on failure, sets RNG_HEALTH and restarts the source. R426. -/
  | rngHealthTest (samples : BitVec 1024)
  /-- Reading SEC_SHA_DIGEST returns the next of H0 to H7 and advances the index. R425. -/
  | shaDigestRead (who : Requester)
  /-- Unmasking a MSI-X vector whose pending bit is set sends its message. R433. -/
  | msixUnmask (v : Fin 64)
  /-- The function moves between D0 and D3hot, stopping or resuming fetches and host writes. R431. -/
  | d3hot (d3 : Bool)
  /-- Writing BASIN_CTL.EN stops or restarts dispatch in the basin, reading 1 until no task runs or waits. R38. -/
  | basinCtlEn (b : Fin 4) (en : Bool)
  /-- Writing CMP_CTL.EN = 0 makes new submissions complete DISABLED until the FIFO drains. R182. -/
  | cmpCtlEn (en : Bool)
  /-- Writing MC_CTL.EN = 0 holds accesses and places ranks in self-refresh; 1 resumes the channel. R38. -/
  | mcCtlEn (c : Fin 8) (en : Bool)
  deriving DecidableEq, Repr

end Sys2Proof
end

