-- ==== Sys2Proof/Machine/State.lean ====
section
/-!
DEFINITION. The state of the FXM1024 as plain data: the value of every register field (by the keys of RegMap), staged values
and pair latches, the memories and caches, and per unit what the spec gives it beside its registers; the queue of waiting
commands; the outputs driven; and the model's own counters. Then the faults and refusals of a step, and the state after
reset.
-/

namespace Sys2Proof.Machine

/-- One measurement of a tracker (R68, R70): the measured machine angle, its placement time and the velocity computed
at it, in units of 2^-32 revolution per tick (none while fewer than two measurements stand in the window). -/
structure Meas where
  ma   : Int
  dt   : BitVec 64
  fine : Fin 8
  vel  : Option Rat
  deriving DecidableEq, Repr

/-- What an axis tracker holds beside its registers (R68 to R74). -/
structure AxisSt where
  /-- the last measurements, newest first (R70, R72) -/
  meas       : List Meas
  /-- measurements taken since enable, standstill or commit, for the velocity window (R70, R73) -/
  winCount   : Nat
  acc        : Rat
  /-- the MA held when no measurement stands (standstill, commit) -/
  maHeld     : Int
  /-- last count seen from the source, in the sense of DIR (R66, R68) -/
  lastCount  : Int
  /-- the count to which the machine angle `baseMa` belongs: index, enable or commit (R66, R69, R73) -/
  baseCount  : Int
  baseMa     : Int
  /-- DT of the last change of count (R69, STANDSTILL) -/
  lastChange : BitVec 64
  /-- DT of the last ANGLE report (R74) -/
  lastReport : BitVec 64
  srcLostAt  : Option (BitVec 64)
  overspeed  : Bool
  /-- DT of the last update (R70), which AX.QUERY reports -/
  updatedAt  : BitVec 64
  /-- the revolution last published, whose change is the commit point of an axis without an index (R73) -/
  rev        : Int
  jumps      : Nat
  /-- a measurement arrived since enable (Table 03-3) -/
  started    : Bool
  deriving DecidableEq, Repr

/-- What an angle port holds beside its registers (R65 to R67). -/
structure PortSt where
  lastEdge  : Option (BitVec 64 × Fin 8)
  /-- SSI: the data line was low at the last poll and the frame is deferred (R67) -/
  deferred  : Bool
  /-- SSI: placement time of the first falling clock edge of the frame in progress -/
  frameAt   : Option (BitVec 64 × Fin 8)
  pins      : BitVec 3
  deriving DecidableEq, Repr

/-- Firefly and time-base state that no register shows (R57 to R63, R76 to R82). -/
structure TimeSt where
  dt        : BitVec 64
  /-- fine ticks of DT gathered by slews, 0 to 7 (R58, R61) -/
  fine      : Nat
  /-- TBCLK runs, locked -/
  tbclk     : Bool
  /-- TBCLK has locked since power-on: before that DT stays 0 (R59) -/
  locked    : Bool
  /-- ticks since the last slewed fine tick (R61: 50 ppm is one fine tick each 2,500 ticks) -/
  slewPhase : Nat
  /-- fraction of the firefly rate correction not yet applied, in 2^-32 tick (R81) -/
  rateAcc   : Int
  /-- firefly move still to be made, in fine ticks (R81) -/
  ffMove    : Int
  /-- the exchange in flight: its T1 and fine ticks and sequence number (R77) -/
  ffOpen    : Option (BitVec 64 × Fin 8 × BitVec 32)
  ffSeq     : BitVec 32
  /-- the last 16 round trips, newest first, in 1/8 fine tick (R79) -/
  ffRtts    : List Int
  /-- sum of the offsets of the `ffValid` exchanges that the average of R81 takes, in 1/8 fine tick -/
  ffSum     : Int
  ffGood    : Nat
  ffBad     : Nat
  ffMissed  : Nat
  ffValid   : Nat
  holdAt    : BitVec 64
  /-- always-on fraction of D-SLEEP, in 2^-16 tick (R63) -/
  aonFrac   : Nat
  deriving DecidableEq, Repr

/-- An actuation transaction (Table 04-1), field by field. -/
structure Atx where
  actIdx   : BitVec 17
  tkind    : Bool
  axis     : BitVec 4
  tfine    : BitVec 3
  late     : BitVec 2
  retry    : BitVec 2
  report   : Bool
  pdef     : Bool
  target   : Word
  lateWin  : Word32
  profile  : BitVec 12
  holdT    : BitVec 16
  boostLvl : Byte
  holdLvl  : Byte
  rqQueue  : BitVec 6
  rqBasin  : BitVec 2
  rqUse    : Bool
  seq      : Word32
  /-- the reserved bits, in table order: [31] of word 0, PROFILE [15:12], RQ [15:9], bytes 28-31 -/
  rsv      : BitVec 44
  deriving DecidableEq, Repr

/-- Placement times: a DT and its fine ticks as one number of fine ticks, modulo 2^67 (R58). -/
abbrev Plc := BitVec 67

/-- States of an accepted ATX (Table 04-7). -/
inductive XState where
  | armed | launched | delivered | unconfirmed | reissue | verified | late | failed
  deriving DecidableEq, Repr

/-- What the conversion of an armed ATX gave (R93): a target time, held since a DT, or passed. -/
inductive Conv where
  | at (t : Plc)
  | held (since : Word)
  deriving DecidableEq, Repr

/-- A transaction record: the weir's on-chip record of an accepted ATX, which the transaction journal entry of the same
XID mirrors (R91, R98, R391, Table 13-11). -/
structure XRec where
  /-- index of its transaction journal entry: the record's identity -/
  id       : Nat
  /-- the XID assigned at the first launch (R144) -/
  xid      : Option Word32
  atx      : Atx
  task     : BitVec 48
  ordinal  : Word32
  chan     : Nat
  paddr    : Nat
  profile  : Nat
  state    : XState
  reason   : Nat
  slipped  : Bool
  reissued : Bool
  sentLate : Bool
  notLearnt : Bool
  dtAccept : Word
  dtFinal  : Word
  /-- acceptance order at the weir (R94) -/
  order    : Nat
  conv     : Conv
  /-- found late under SEND_LATE, in this order (R94, Table 04-6) -/
  lateNo   : Option Nat
  /-- drive start (at launch or re-issue) and Tlat (R95, R106) -/
  ds       : Plc
  tlat     : Plc
  /-- drive start of a re-issue waiting for launch (R106) -/
  ds2      : Plc
  /-- lead in force at launch -/
  lead     : Int
  /-- the time of the first acceleration sample above the gate that counts (R105): the last update at or before the drive
  start, or an update after it -/
  accBad   : Option Plc
  /-- sequence number of the DATA frame that carried it -/
  frame    : Option Nat
  /-- DT of the first refused report POST; a final record with a report still due has `some` (R101) -/
  reportDue : Option Word
  deriving DecidableEq, Repr

/-- What a weir holds beside its registers (R91 to R113). -/
structure WeirSt where
  recs     : List XRec
  nextOrd  : Nat
  nextLate : Nat
  /-- striders whose EMIT waits, oldest first (R89) -/
  waiters  : List StrId
  /-- this revolution: a negative event occurred (R110), a refusal of check 9 or 10 occurred -/
  neg      : Bool
  unclear  : Bool
  /-- EMITs accepted or refused with WINDOW_FULL or JOURNAL in this revolution (R112) -/
  demand   : Nat
  /-- most negative slack of this revolution, in fine ticks -/
  worst    : Int
  negRevs  : Nat
  clearRevs : Nat
  /-- last launch: XID and drive start (Table 13-17) -/
  lastXid  : Word32
  lastDs   : Word
  deriving DecidableEq, Repr

/-- SPEED_LIMIT bookkeeping of the weir global block (R110 to R113). -/
structure SpeedSt where
  /-- DT of the last revolution change of the axis of WEIRG_SPEED -/
  lastChange : Word
  clrReq     : Bool
  /-- WEIRG_CTL.EN written 0 and some WEIR_CTL.EN still reads 1 (R38) -/
  stopping   : Bool
  deriving DecidableEq, Repr

/-- The ADT and DPT and their window (R84 to R87, R114). -/
structure AdtSt where
  /-- ADT entries as 256-bit words, DPT entries as 512-bit words, by index -/
  adt       : Tab (BitVec 256)
  dpt       : Tab (BitVec 512)
  adtPoison : Tab Bool
  dptPoison : Tab Bool
  buf       : Tab Word32
  /-- the scrub pass is in the DPT (R87); ADT_SCRUB.POS numbers the entries of each table -/
  scrubDpt  : Bool
  deriving DecidableEq, Repr

/-- A sequenced frame held until acknowledged (R125): its sequence number, the transaction records it carries (by journal
index) with the bytes of each record, when it was last sent and how often it was resent. -/
structure TxFrame where
  seq     : BitVec 16
  recs    : List (Nat × List Byte)
  sentAt  : Word
  resends : Nat
  deriving DecidableEq, Repr

/-- What a partner said in its accepted HELLO (Table 05-7). -/
structure Partner where
  tclass   : Nat
  armedDepth : Nat
  nAct     : Nat
  proc     : Nat
  maxRec   : Nat
  syncMax  : Nat
  nSense   : Nat
  caps     : Byte
  psafe    : Nat
  vendor   : Word32
  product  : Word32
  serial   : Word
  fwRev    : Word32
  /-- the 64 payload bytes as accepted (CH.PARTNER) -/
  hello    : List Byte
  deriving DecidableEq, Repr

/-- A REJECT waiting to be sent (Table 05-18). -/
structure Reject where
  reason   : Nat
  supp     : Nat
  offType  : Nat
  offEpoch : Nat
  offSeq   : Nat
  offRec   : Nat
  dt       : Word
  deriving DecidableEq, Repr

/-- A message of 32 or 64 bytes waiting to be posted again: DT of the first refusal and the bytes (R147). -/
structure SenseMsg where
  since : Word
  bytes : List Byte
  deriving DecidableEq, Repr

/-- What a field channel holds beside its registers (R115 to R155, R519). -/
structure ChanSt where
  /-- receive side: next expected SEQ, and whether a frame was received in order in this epoch (R123) -/
  rxNext   : BitVec 16
  rxAny    : Bool
  /-- transmit side: next SEQ, unacknowledged frames oldest first, frames of the previous epoch to send again (R134) -/
  txNext   : BitVec 16
  unacked  : List TxFrame
  carry    : List TxFrame
  /-- go-back-N resend in progress: the sequence numbers still to be sent, and the one it started from (R125) -/
  resend   : List (BitVec 16)
  resendAt : BitVec 16
  /-- a frame of the device is in progress (its end is the commit point) -/
  txOpen   : Bool
  ackDue   : Bool
  nakDue   : Bool
  lastNak  : Option Word
  rejects  : List Reject
  lastReject : Option Word
  suppressed : Nat
  violTimes : List Word
  lastTx   : Word
  lastRx   : Word
  /-- 40 µs periods of silence already counted (R130) -/
  silences : Nat
  partner  : Option Partner
  /-- the partner's identity accepted since EN was last written 1 (R133) -/
  accepted : Option (Word32 × Word32 × Word)
  /-- link-up attempt: running, its start, and its proposed epoch (Table 05-6) -/
  attempt  : Option Word
  newEpoch : Byte
  /-- symbol lock achieved in this attempt: HELLO frames are exchanged (Table 05-6 step 4) -/
  inHello  : Bool
  /-- the channel was UP since EN was last written 1 -/
  firstUp  : Bool
  helloOk  : Bool
  lastHello : Option Word
  /-- last end of a failed attempt: the next starts 100 µs later (R131, R135) -/
  retryAt  : Option Word
  inEpisode : Bool
  quarAt   : Option Word
  /-- fault bits of class R that the link-up or recovery in progress has set: one occurrence with what follows (R135) -/
  own      : List Nat
  /-- the next attempt waits until the group PLL locks again (R116) -/
  relock   : Bool
  prevAck  : BitVec 16
  prevValid : Bool
  /-- SYNC (R138, R139): exchange count, exchanges in flight, oldest first (count, T1 in fine ticks), round trips and delays newest
  first in 1/8 fine tick, the correction for the next REQ, missed or discarded in a row, DT of the last REQ, valid
  exchanges of this attempt -/
  syncSeq  : Word32
  syncOpen : List (Word32 × Plc)
  rtts     : List Int
  delays   : List Int
  ofsCorr  : Option Int
  syncBad  : Nat
  lastSync : Option Word
  syncGood : Nat
  /-- measured Lat in fine ticks, and the update the channel has staged itself (R140) -/
  latMeas  : Option Nat
  latAuto  : Option (Nat × Nat)
  senseQ   : List SenseMsg
  lastSafe : Option Word
  stopAt   : Option Word
  xidNext  : Word32
  xidCount : Nat
  deriving DecidableEq, Repr

/-- A decompression request in the CMP (R172 to R178): requester and descriptor words. -/
structure CmpReq where
  who     : StrId
  desc    : List Word
  deriving DecidableEq, Repr

/-- What the job registers of the CMP say (Table 06-16). -/
structure JobCfg where
  src  : Nat
  dst  : Nat
  tsel : Nat
  page : Nat
  pred : Nat
  bits : Nat
  lb   : Nat
  pat  : Nat
  tile : Nat
  deriving DecidableEq, Repr

/-- A job of the CMP (R170, Table 06-16), with the registers as they stood at its start (R40) and, once read, the tile image with its
poison and the preset table (Table 06-6 step 1, R167). -/
structure CmpJob where
  op   : Nat
  lane : Fin 4
  cfg  : JobCfg
  image : Option (List Byte × Bool × List Byte)
  /-- bit of SEC_PG_OWN.USE of the writer of the job registers (Table 14-7) -/
  use  : Nat
  deriving DecidableEq, Repr

/-- What the compression engine holds beside its registers. -/
structure CmpSt where
  /-- requests accepted by the port and not yet taken by a lane, oldest first, with the lane they wait for -/
  fifo  : List (Fin 4 × CmpReq)
  /-- the request each lane is working on -/
  busy  : Tab (Option CmpReq)
  job   : Option CmpJob
  /-- CMP_CTL.EN written 0 and the stopped state not yet reached -/
  stopping : Bool
  /-- fenced lanes whose LANE_EN bit was written 0 since (R180) -/
  laneOff : BitVec 4
  deriving DecidableEq, Repr

/-- A store-buffer or combining-buffer entry (R312, R313): address, bytes and byte mask from the address up. -/
structure BufEntry where
  addr : Nat
  data : List (Option Byte)
  dev  : Bool
  deriving DecidableEq, Repr

/-- What a strider waits for in an instruction that has not completed (R89, R208, R217 to R221, R390, R178, R296). -/
inductive Wait where
  | emit (atx : Atx) (chan : Nat) (adtLow : Word) (since : Word) (code : Nat) (d : RegNo)
  | post (queue : Nat) (bytes : List Byte) (since : Word) (d : RegNo)
  | commit (src dst : Word) (since : Word) (d : RegNo)
  | waita (axis : Nat) (target : Word) (deadline : Word) (d : RegNo)
  | waitt (target : Word) (d : RegNo)
  | waitq (sel : Word) (deadline : Word) (d : RegNo)
  | sleep (wake : Word)
  /-- TASKEND or an abandonment whose end message was refused, last at `since` (R212) -/
  | taskEnd (code : BitVec 16) (reason : Nat) (since : Word)
  /-- an abandoned task whose older stores have not all been performed (R215) -/
  | ending (reason : Nat)
  | cmpFull (since : Word)
  | dmaFull (engine : Nat) (since : Word)
  /-- a control-store word that is to be rewritten (R251) -/
  | csWord
  deriving DecidableEq, Repr

/-- What a physical strider is doing (R207, R215, R216, R382). -/
inductive Run where
  | idle | running | waiting (w : Wait) | halted | retired
  deriving DecidableEq, Repr

/-- The resume record of a microcoded instruction (R258): instruction address, next microword, MT0 to MT7, MDR and
micro-flags. -/
structure UcSave where
  addr  : Word
  upc   : Nat
  mt    : List Word
  mdr   : Word
  flags : BitVec 4
  /-- the micro-stack, which a record kept over a trap does not hold -/
  stack : List Nat
  /-- the next instruction resumes from it: it stands at an interruptible point, or TRET has chosen it (R257, R258) -/
  ready : Bool
  deriving DecidableEq, Repr

/-- The architectural state of a strider (Table 07-1) and its task bookkeeping. -/
structure StrSt where
  run     : Run
  pc      : Word
  x       : Tab Word
  f       : Tab Word
  lk      : Word
  rc      : Word
  ls      : Tab Word
  le      : Tab Word
  lc      : Tab Word
  psw     : Word32
  fcsr    : Word32
  tbase   : Word
  tpc     : Word
  tpsw    : Word32
  tcause  : Word32
  tval    : Word
  taskId  : Word
  oord    : Word32
  evlatch : Word32
  /-- DT at dispatch, ticks spent waiting, start of the wait in progress, and the run-time limit in µs (R214, R215) -/
  dtStart : Word
  waited  : Nat
  waitAt  : Option Word
  limit   : Nat
  /-- the queue of a WAITQ has received an entry, whoever takes it (Table 07-19); a halt waits for the refresh of a microword
  (Table 09-12) -/
  woken   : Bool
  haltDue : Bool
  /-- store buffer and non-temporal combining buffer, oldest first (R312, R313) -/
  sb      : List BufEntry
  cb      : List BufEntry
  /-- the instruction in progress at an interruptible point, and the resume record of a trap -/
  uc      : List UcSave
  /-- staging buffer of the CMP port and of the two DMA ports (R172, R296): bytes written so far -/
  cmpBuf  : Tab Word
  dmaBuf  : Tab Word
  deriving DecidableEq, Repr

/-- The control store and decode table, identical in every pond (R247 to R249): customer microwords by word number from
0x1800, decode entries by opcode, the customer image's header values and load status, a staged image, the vendor image whose decrypted words
fill 0x0000 to 0x17FF (none before it is loaded), and the boot image that the device booted (R466). -/
structure UcodeSt where
  words    : Tab (BitVec 160)
  entries  : Tab Word
  nwords   : Nat
  nent     : Nat
  slot     : Nat
  /-- load status: 0 none, 1 loaded, 2 refused, and the reason -/
  status   : Nat
  reason   : Nat
  staged   : List Byte
  vendor   : Option (List Byte)
  booted   : List Byte
  deriving DecidableEq, Repr

/-- A pond DMA request (R296): the requester and the descriptor of Table 10-5 as four 8-byte words. -/
structure DmaReq where
  who  : StrId
  desc : List Word
  deriving DecidableEq, Repr

/-- States of a line in a pond L2 (Table 11-6). -/
inductive L2St where
  | i | s | e | m | isd | imd | smg | mia (keep : Bool) | iia
  deriving DecidableEq, Repr

/-- A line held by a pond L2: its state, way, 64 bytes and the poison bit of each 8-byte word. -/
structure L2Line where
  st     : L2St
  way    : Nat
  data   : List Byte
  poison : BitVec 8
  deriving DecidableEq, Repr

/-- A line held by an L1: its number, its bytes and their poison. -/
structure L1Line where
  line   : Nat
  data   : List Byte
  poison : BitVec 8
  deriving DecidableEq, Repr

/-- The L1s of one kind of a pond's 17 slots (R271): lines by (slot × 64 + set) × 4 + way, and the tree pseudo-LRU bits of each set by
slot × 64 + set. -/
structure L1 where
  lines : Tab L1Line
  lru   : Tab Nat
  deriving DecidableEq, Repr

/-- A region descriptor of pond memory (R293): BASE, LIMIT and PERM. -/
structure PmDesc where
  base  : BitVec 13
  limit : BitVec 13
  perm  : BitVec 4
  deriving DecidableEq, Repr

/-- What a physical pond holds beside its registers (R270 to R307). -/
structure PondSt where
  /-- the L1 data and instruction caches of its striders -/
  l1d      : L1
  l1i      : L1
  /-- lines of the L2 by line number, and the pseudo-LRU bits of each set (R275) -/
  l2       : Tab L2Line
  l2Lru    : Tab Nat
  /-- corrected errors of each way in the current window (R277) and its start -/
  wayCe    : Tab Nat
  ceStart  : Word
  /-- ways being disabled automatically (R277) -/
  wayBusy  : List Nat
  /-- the maintenance operation in progress: operation, line, and the lines it has still to treat (R281 to R283) -/
  maint    : Option (Nat × LineNo × List Nat)
  /-- EN written 0 and the stopped state not yet reached: L2_CTL, POND_CTL, PM_CTL -/
  l2Stop   : Bool
  stopping : Bool
  pmStop   : Bool
  /-- requests of the two DMA engines, oldest first (R296) -/
  dma0     : List DmaReq
  dma1     : List DmaReq
  /-- region descriptors in force by master × 8 + descriptor (R293) -/
  desc     : Tab PmDesc
  conflict : Tab Nat
  /-- spare rows in use per bank: the repaired rows, oldest first (R300); first failing row per bank of the last march -/
  repaired : Tab (List Nat)
  failRow  : Tab Nat
  /-- the march in progress: BANKS, PRESERVE and REPAIR as it started (R40, R299) -/
  march    : Option (Nat × Bool × Bool)
  /-- control-store words that are uncorrectable and not yet rewritten (R251) -/
  csBad    : List Nat
  /-- the slot that the spare slot 16 stands in for (R8, R382) -/
  spareFor : Option Nat
  deriving DecidableEq, Repr

/-- Requests to a home agent (Table 11-5). A UCWR carries its bytes under a mask, one entry per byte of the line. -/
inductive HomeReq where
  | gets | getm | upg
  | putm (data : List Byte) (poison : BitVec 8) (keep : Bool)
  | ucrd
  | ucwr (bytes : List (Option Byte)) (poison : BitVec 8)
  deriving DecidableEq, Repr

/-- A request with its requester (a pond stop, or none for a master outside the pond L2s) and its ticket, if it was refused
before. -/
structure HomeMsg where
  who    : Option (Fin 17)
  req    : HomeReq
  ticket : Option Nat
  /-- its NACKs so far -/
  nacks  : Nat := 0
  deriving DecidableEq, Repr

/-- The busy states of Table 11-9; `v` carries the request that needed the entry. -/
inductive Busy where
  | s | m | d | w | v (line : LineNo) (needs : HomeMsg) | f
  deriving DecidableEq, Repr

/-- An answer to a snoop (Table 11-5). -/
inductive SnpAns where
  | ackI | ackS | ackD (data : List Byte) (poison : BitVec 8) (dirty wb : Bool)
  deriving DecidableEq, Repr

/-- The open transaction of a line: its busy state, the request, the answers added so far by stop, and the requests that
wait, oldest first (R329). -/
structure HomeTxn where
  busy    : Busy
  msg     : HomeMsg
  answers : Tab (Option SnpAns)
  /-- the first number of a message sent after its snoop -/
  seq     : Nat
  deriving DecidableEq, Repr

/-- A filter entry of a home agent (R333): holders, owner flag, allocation order, whether it is a reserved entry, the open
transaction and the queue. An entry with no holders and a transaction is one being allocated or an unlisted line. -/
structure HomeLine where
  holders : BitVec 17
  owner   : Bool
  alloc   : Nat
  reserved : Bool
  txn     : Option HomeTxn
  queue   : List HomeMsg
  deriving DecidableEq, Repr

/-- Messages from a home to an L2 or a master, in flight on the ring (Table 11-5). -/
inductive RingMsg where
  | dataS (data : List Byte) (poison : BitVec 8)
  | dataE (data : List Byte) (poison : BitVec 8)
  | dataM (data : List Byte) (poison : BitVec 8)
  | grant | wback (keep : Bool) | wbackStale
  | udata (data : List Byte) (poison : BitVec 8)
  | cmp | nack (ticket : Nat)
  deriving DecidableEq, Repr

/-- A message in flight: its receiver (a pond stop, or none for another master), line, content, and number in the order sent. -/
structure Flight where
  dst  : Option (Fin 17)
  line : LineNo
  msg  : RingMsg
  seq  : Nat
  deriving DecidableEq, Repr

/-- A refused request waiting to be sent again (R335): ticket, refusals so far, DT of the last, and whether its NACK has
arrived. -/
structure Nacked where
  line   : LineNo
  msg    : HomeMsg
  ticket : Nat
  count  : Nat
  since  : Word
  /-- requests with later tickets or none that have been granted ahead of it -/
  passed : Nat
  deriving DecidableEq, Repr

/-- An entry of a queue: 64 bytes, and the task that took it by RECV and holds it (R209). -/
structure QEntry where
  bytes : List Byte
  taken : Option (BitVec 48)
  deriving DecidableEq, Repr

/-- A dispatcher queue (R343): configuration in force, entries oldest first, POSTs refused. -/
structure Queue where
  qen     : Bool
  prio    : BitVec 2
  size    : BitVec 3
  mode    : Bool
  entries : List QEntry
  refused : Nat
  deriving DecidableEq, Repr

/-- An output-log record (R388). -/
structure LogRec where
  ordinal : Word32
  kind    : Nat
  result  : Word
  deriving DecidableEq, Repr

/-- A task journal entry (Table 13-9) with its output-log chain in ordinal order and its cursor. -/
structure TaskJrn where
  taskId   : BitVec 48
  desc     : List Byte
  dtDispatch : Word
  strider  : Nat
  /-- physical strider that runs it -/
  phys     : StrId
  replays  : Nat
  pending  : Bool
  log      : List LogRec
  cursor   : Nat
  /-- RECV entries held, and how many of them this run has returned -/
  recv     : List (Nat × List Byte)
  returned : Nat
  deriving DecidableEq, Repr

/-- What a basin holds beside its registers: home agent, ring, dispatcher and task journal. -/
structure BasinSt where
  home     : Tab HomeLine
  nextAlloc : Nat
  flights  : List Flight
  /-- messages sent so far -/
  nextSeq  : Nat
  nacked   : List Nacked
  nextTicket : Nat
  queues   : Tab Queue
  /-- last queue served at each priority (R343) -/
  rotate   : Tab Nat
  nextTask : Nat
  jrn      : List TaskJrn
  /-- tasks that ended with no strider left (R392) and whose end message no queue has taken yet: end reason and last refusal -/
  ends     : List (BitVec 48 × Nat × Word)
  stopping : Bool
  /-- DT of the loss, while tasks wait for BASIN_REPLAY -/
  lostAt   : Option Word
  deriving DecidableEq, Repr

/-- An entry of the region table (Table 12-4), by the window registers it is read into. -/
structure Region where
  valid : Bool
  base  : BitVec 20
  limit : BitVec 20
  mir   : Bool
  ilv   : BitVec 2
  ch0   : BitVec 3
  coff  : BitVec 17
  cache : Bool
  owner : BitVec 2
  shared : Bool
  init  : Bool
  code  : Bool
  deriving DecidableEq, Repr

/-- What a memory controller holds beside its registers (R344 to R371). -/
structure McSt where
  /-- read and write eye of each lane, by rank × 10 + lane (R349) -/
  eyes     : Tab (Nat × Nat)
  /-- ranks whose delays passed a commanded retrain since TRAIN_T was recorded (R351) -/
  retrained : List Nat
  /-- logical ranks moved to a spare for good: (source, target) physical ranks, oldest first (R367) -/
  moved    : List (Nat × Nat)
  /-- migration in progress: source, target, next block -/
  mig      : Option (Nat × Nat × Nat)
  /-- the spare map commit requested and not yet applied (R366) -/
  spareReq : Bool
  scrubBlk : Nat
  drifted  : Bool
  nextRank : Nat
  /-- serials of the DIMMs that hold the ranks, as the SPD gave them (R345) -/
  serials  : List Word
  /-- the rank that the commanded retrain in progress trains, as it started (R40) -/
  trainRank : Nat
  /-- EN written 0 and the stopped state not yet reached (Table 12-10) -/
  stopping : Bool
  deriving DecidableEq, Repr

/-- The device's DRAM and region table. Bytes and poison are held by device address and word address; a region's
initialisation clears them. -/
structure DramSt where
  bytes   : Tab Byte
  poison  : Tab Bool
  /-- valid-map bits by block (R360) -/
  vmap    : Tab Bool
  regions : Tab Region
  /-- entry being initialised and the channel whose window started it -/
  filling : Option (Nat × Nat)
  deriving DecidableEq, Repr

/-- A fault record (Table 13-4). -/
structure Record where
  dt     : Word
  device : Nat
  block  : Nat
  inst   : Nat
  bit    : Nat
  cls    : Nat
  final  : Nat
  esc    : Bool
  ovf    : Bool
  rseq   : Nat
  addr   : Nat
  info   : Nat
  detail : Nat
  deriving DecidableEq, Repr

/-- A class D or S consequence still to be carried out (R376, R396). -/
inductive Due where
  | pondLost (p : Nat)
  | striderRetired (p slot : Nat)
  | basinLost (b : Nat)
  | chanDown (n : Nat)
  | mcDown (c : Nat)
  | laneFenced (k : Nat)
  | axisLost (n : Nat)
  | portLost (m : Nat)
  | tierDown (t : Nat)
  | failover
  | safe (cause block inst : Nat)
  | fault (blk inst bit addr info detail : Nat)
  /-- a tier port has reached UP, in a retrain episode or not (R466, R477); the child on a tier port goes to sleep (R490) -/
  | joined (t : Nat) (retrain : Bool)
  | slept (t : Nat)
  /-- a warm (1) or device (2) reset of DEV.RESET or RST_CTL.KIND (R492) -/
  | reset (kind : Nat)
  deriving DecidableEq, Repr

/-- An escalation not yet acknowledged (R375): the unit (block, instance), the class escalated into, and the bits that
caused it and are still to be acknowledged. -/
structure Esc where
  unit : Nat × Nat
  cls  : Nat
  bits : List Nat
  deriving DecidableEq, Repr

/-- A set fault bit waiting to be acknowledged (R373): the bit, the class it acted as, and the DT at which its recovery
completed (none while it has not). -/
structure AckDue where
  blk  : Nat
  inst : Nat
  bit  : Nat
  cls  : Nat
  at_  : Option Word
  deriving DecidableEq, Repr

/-- An entry of the retirement record (R401). -/
inductive Retired where
  | slot (p s : Nat)
  | pond (p : Nat)
  | rank (c r : Nat) (serial : Word)
  deriving DecidableEq, Repr

/-- What the service complex holds beside its registers (R372 to R405). -/
structure SvcSt where
  escs     : List Esc
  /-- class C and R records of this housekeeping period, oldest first -/
  waiting  : List Record
  /-- the last 4,096 records, newest first (R379) -/
  kept     : List Record
  rseq     : Nat
  /-- set bits not yet acknowledged -/
  acks     : List AckDue
  /-- the retirement record, oldest first, with the DT of each entry (R401) -/
  retired  : List (Retired × Word)
  /-- safe state: DT of PFW_N fall, whether the safe state came first, DT of the first SAFE frame -/
  pfwAt    : Option Word
  firstSafe : Option Word
  /-- free output-log records and the next free journal index -/
  xjNext   : Nat
  olUsed   : Nat
  /-- free replays: ponds lost whose tasks wait for TARN_REPLAY -/
  tarnDue  : List (Nat × Word)
  deriving DecidableEq, Repr

/-- A customer slot of the OTP (R406, R412). -/
structure Slot where
  hash    : List Byte
  prog    : Bool
  revoked : Bool
  deriving DecidableEq, Repr

/-- A measurement log entry (Table 14-5); its index is its place. -/
structure Measure where
  type   : Nat
  dt     : Word
  digest : List Byte
  deriving DecidableEq, Repr

/-- What the security block, the OTP and the secure store hold beside the registers (R406 to R427). -/
structure SecSt where
  slots    : Tab Slot
  arb      : Nat
  otpLock  : Bool
  /-- keys of KEYED pages -/
  keys     : Tab (List Byte)
  /-- words of the system secret, first written first -/
  secret   : List Word32
  rngReady : Nat
  rngBack  : Option Word
  lastSeed : Word
  shaMsg   : List Byte
  shaOut   : List Byte
  shaIdx   : Nat
  log      : List Measure
  running  : List Byte
  count    : Nat
  ovf      : Bool
  /-- attestation: next unused index of the block in use, and the resume cell of the store (R416) -/
  sigNext  : Option Nat
  cell     : Option Nat
  /-- public keys certified for successors, oldest first -/
  certs    : List (List Byte)
  slotCtr  : Tab Nat
  boots    : Nat
  chal     : Option (List Byte × Word)
  /-- SEC_CTL.EN written 0 and the stopped state not yet reached -/
  stopping : Bool
  deriving DecidableEq, Repr

/-- A queue pair (R434 to R438). -/
structure QPair where
  sqBase   : Nat
  cqBase   : Nat
  size     : Nat
  prio     : Nat
  vector   : Nat
  ccount   : Nat
  ctime    : Nat
  sqHead   : Nat
  sqTail   : Nat
  cqHead   : Nat
  cqTail   : Nat
  phase    : Bool
  err      : Bool
  deleting : Bool
  /-- CQ entries written and not signalled, and DT of the oldest -/
  unsent   : Nat
  oldest   : Word
  deriving DecidableEq, Repr

/-- What a host command waits for after it has started. -/
inductive HostWait where
  | none
  /-- the commits of the blocks with these status registers, which it wrote (R48) -/
  | commit (regs : List Nat)
  /-- a queue that HOST.QDELETE deletes -/
  | queue (q : Nat)
  | region (c : Nat)
  | maint (ponds : List Nat)
  | march (p : Nat)
  | retrain (c : Nat) (ranks : List Nat) (failed : Nat)
  | channels (ns : List Nat) (en : Bool)
  | port (t : Nat) (en : Bool) (since : Word)
  | page (k : Nat)
  | power (target : Nat)
  | spare (c : Nat)
  | routed (dev : Nat)
  deriving DecidableEq, Repr

/-- An accepted host command that has not completed (R443): its queue, packet, the devices whose final entry is still to
come, its start, and what it waits for. -/
structure HostCmd where
  sq      : Nat
  order   : Nat
  sqhd    : Nat
  opcode  : Nat
  rbuf    : Bool
  ordered : Bool
  target  : Nat
  tag     : Word32
  /-- the 32 header bytes as fetched, which a CMD message carries (Table 16-5) -/
  head    : List Byte
  rlen    : Nat
  raddr   : Nat
  params  : List Byte
  started : Bool
  /-- workers to which its CMD message has been sent (R469) -/
  sent    : List Nat
  wait    : HostWait
  /-- devices still to answer; device 0 is the manager itself -/
  devices : List Nat
  /-- the command came over TP0 (R469): its answer is a REPLY -/
  routed  : Bool
  deriving DecidableEq, Repr

/-- The host fault log (R454). -/
structure LogBuf where
  n     : Nat
  base  : Nat
  head  : Nat
  tail  : Nat
  count : Nat
  seen  : Word32
  deriving DecidableEq, Repr

/-- What the HOST block holds beside its registers. -/
structure HostSt where
  pairs    : Tab (Option QPair)
  accepted : List HostCmd
  nextOrder : Nat
  /-- rotation within each priority level: last queue served -/
  rotate   : Tab Nat
  log      : Option LogBuf
  stats    : Tab Nat
  msixOn   : Bool
  masked   : Tab Bool
  msixPend : Tab Bool
  d3       : Bool
  /-- host writes and messages held while in D3hot -/
  held     : List (Nat × List Byte)
  expOff   : Bool
  /-- prefetched words of the data port: address and value, with poison; DT of the last read -/
  prefetch : List (Nat × Word32 × Bool)
  lastDp   : Word
  dmaBad   : List (Nat × Nat)
  headWord : Word32
  /-- HOST_CTL.EN written 0 and the stopped state not yet reached (R457) -/
  stopping : Bool
  /-- loaded patterns (R159): PAT_ID, descriptor address, tiles, bytes -/
  patterns : List (Nat × Nat × Nat × Nat)
  /-- areas of retired patterns not yet freed (R159): address, bytes, and the tasks, by basin, dispatched before the drop -/
  dropped  : List (Nat × Nat × List (Nat × BitVec 48))
  /-- the last BAR2 write: its register, what that register read before it, and its DT (R29) -/
  bar2Old  : Option (Nat × Word32 × Word)
  deriving DecidableEq, Repr

/-- A message waiting to leave or in progress on a tier port (R462, R463): class, type, route, number, body, poisoned words
and bytes sent. -/
structure OutMsg where
  cls   : Nat
  mtype : Nat
  route : BitVec 16
  msgId : BitVec 16
  body  : List Byte
  poison : List Nat
  sent  : Nat
  deriving DecidableEq, Repr

/-- A tier DATA frame held until acknowledged (R461). -/
structure TierFrame where
  seq     : BitVec 16
  route   : BitVec 16
  payload : List Byte
  sentAt  : Word
  resends : Nat
  deriving DecidableEq, Repr

/-- A message being reassembled (R462). -/
structure Partial where
  src   : Nat
  msgId : BitVec 16
  mtype : Nat
  bytes : List Byte
  poison : List Nat
  deriving DecidableEq, Repr

/-- What a tier port holds beside its registers (R460 to R479). -/
structure TierPort where
  lock     : Bool
  epoch    : Byte
  rxNext   : BitVec 16
  rxAny    : Bool
  txNext   : BitVec 16
  unacked  : List TierFrame
  /-- frames of the previous epoch to send again: route and payload (R134) -/
  carry    : List (BitVec 16 × List Byte)
  /-- go-back-N resend in progress: the sequence numbers still to be sent, and the one it started from (R125) -/
  resend   : List (BitVec 16)
  resendAt : BitVec 16
  msgs     : List OutMsg
  /-- fragments of other devices to relay: route and payload (R462) -/
  relay    : List (BitVec 16 × List Byte)
  partials : List Partial
  ackDue   : Bool
  nakDue   : Bool
  lastNak  : Option Word
  lastTx   : Word
  lastRx   : Word
  lastSafe : Option Word
  violTimes : List Word
  attempt  : Option Word
  newEpoch : Byte
  firstUp  : Bool
  helloOk  : Bool
  lastHello : Option Word
  retryAt  : Option Word
  episode  : Option Word
  prevAck  : BitVec 16
  prevValid : Bool
  peerSerial : Word
  peerFw   : Word32
  armed    : Bool
  bootTries : Nat
  deriving DecidableEq, Repr

/-- What the manager knows of a worker (R459, R471, R474). -/
structure Worker where
  present  : Bool
  asleep   : Bool
  ready    : Bool
  safe     : Bool
  lost     : Bool
  port     : Nat
  summary  : Option (List Byte)
  /-- while the worker is lost: the ATX open at its last summary, which the manager counts as FAILED with reason 0x34 WORKER_LOST
  (R475), beside those accepted after it, whose number nobody knows -/
  failed   : Nat
  deriving DecidableEq, Repr

/-- Tier state of the whole device. -/
structure TreeSt where
  num      : Nat
  depth    : Nat
  msgId    : BitVec 16
  workers  : Tab Worker
  sumSeq   : Word32
  lastSum  : Word
  /-- last SAFE frame received on a propagating port (R473) -/
  safeSeen : Option Word
  heldTail : Option (List Byte)
  /-- fault and notice records held while the uplink is down: message type and record (R476) -/
  heldRecs : List (Nat × List Byte)
  deriving DecidableEq, Repr

/-- The phase of the device as a whole: held in reset (RST_N low), starting, READY, a start that stopped, asleep, resuming,
tripped. -/
inductive Phase where
  | held | starting | ready | stopped | asleep | resuming | tripped
  deriving DecidableEq, Repr

/-- What CLK/PWR and THERM/PINS hold beside their registers. -/
structure PwrSt where
  phase    : Phase
  /-- a D-NAP (1) or D-SLEEP (2) request to be examined at the next housekeeping tick -/
  request  : Nat
  /-- start of the D-SLEEP entry -/
  entryAt  : Option Word
  /-- notice 7 has been sent, and the power goes off once it has left (Table 17-3) -/
  sleepNote : Bool
  /-- writable register fields in the resume area -/
  saved    : Tab Nat
  /-- DT since which the D-NAP conditions hold -/
  napSince : Option Word
  /-- ECLK limits of a basin in MHz: by temperature and by path margin (R516, R499) -/
  thermLim : Tab Nat
  margLim  : Tab Nat
  /-- ECLK raises waiting for the voltage: basin, MHz, DT of the voltage write, acknowledged -/
  raise    : List (Nat × Nat)
  voltAt   : Option Word
  nak      : Option Word
  hotSamples : Nat
  thrSamples : Nat
  /-- the hottest sensor stands at or above WARN; basins whose ECLK is rising again (R516) -/
  warm     : Bool
  cooling  : BitVec 4
  testAt   : Option Word
  /-- what the last start found, kept for a start without a rise of RST_N (R491) -/
  start    : Option StartCfg
  fwVer    : Word32
  ucVer    : Word32
  secVer   : Nat
  deriving DecidableEq, Repr

/-- What the device drives outward: frames on a field channel or tier port, the abort K30.7 on a channel, writes and messages to the host, the answer to a
register or data-port read, SMBus answers and regulator writes. -/
inductive Out where
  | frame (n : Nat) (f : Frame)
  | abort (n : Nat)
  | tier (t : Nat) (f : Frame)
  | host (addr : Nat) (bytes : List Byte)
  | msix (v : Nat)
  | read (addr : Nat) (v : Word32)
  | dpRead (v : Word32) (ep : Bool)
  | smb (bytes : List Byte)
  | smbNack
  | avs (mv : Nat)
  | jtag (v : Word32)
  deriving DecidableEq, Repr

/-- The state of the device. -/
structure State where
  /-- values of register fields that differ from their reset values, by key (R31, R32; every field table of the spec) -/
  flds     : Tab Nat
  /-- staged values of RWL fields, by key (R39, R44) -/
  staged   : Tab (Option Nat)
  /-- pair latch of each requester: the high half read and the low half staged (R35, R36) -/
  latches  : Tab (Word32 × Option Word32)
  time     : TimeSt
  axes     : Tab AxisSt
  aports   : Tab PortSt
  weirs    : Tab WeirSt
  speed    : SpeedSt
  adt      : AdtSt
  chans    : Tab ChanSt
  /-- field-channel group PLLs that hold lock (R116) -/
  gplls    : Tab Bool
  striders : Tab StrSt
  ponds    : Tab PondSt
  basins   : Tab BasinSt
  mcs      : Tab McSt
  /-- pond memory, by pond × 0x8_0000 + offset, and its poison bits by word (R288, R292) -/
  pm       : List Host.Cell
  pmPoison : Tab Bool
  dram     : DramSt
  cmp      : CmpSt
  ucode    : UcodeSt
  sec      : SecSt
  host     : HostSt
  tports   : Tab TierPort
  tree     : TreeSt
  svc      : SvcSt
  pwr      : PwrSt
  /-- what the device drove outward, oldest first -/
  out      : List Out
  /-- class D and S consequences not yet carried out: between commands only a reset that waits for its tail report to leave -/
  due      : List Due
  /-- the model's own counter for free values (no field of the spec's) -/
  freeCtr  : Nat
  /-- the commands that wait, first in first out -/
  pending  : List Instr
  deriving DecidableEq, Repr

/-- Why a step can stop with a fault. The spec gives every command of the table an effect in every state, so no meaning of
this model raises one; the type has the one constructor that Host.Outcome needs to be closed over. -/
inductive Fault where
  /-- raised by no meaning; safe -/
  | none
  deriving DecidableEq, Repr

/-- Why a command can be refused. -/
inductive Refusal where
  /-- the dispatcher's answer to a command whose meaning has not been written; safe: the run stops -/
  | notModelled (mnemonic : String)
  deriving DecidableEq, Repr

def TimeSt.init : TimeSt :=
  { dt := 0, fine := 0, tbclk := false, locked := false, slewPhase := 0, rateAcc := 0, ffMove := 0, ffOpen := none, ffSeq := 0, ffRtts := [],
    ffSum := 0, ffGood := 0, ffBad := 0, ffMissed := 0, ffValid := 0, holdAt := 0, aonFrac := 0 }

def AxisSt.init : AxisSt :=
  { meas := [], winCount := 0, acc := 0, maHeld := 0, lastCount := 0, baseCount := 0, baseMa := 0, lastChange := 0,
    lastReport := 0, srcLostAt := none, overspeed := false, updatedAt := 0, rev := 0, jumps := 0, started := false }

def PortSt.init : PortSt := { lastEdge := none, deferred := false, frameAt := none, pins := 0 }

def WeirSt.init : WeirSt :=
  { recs := [], nextOrd := 0, nextLate := 0, waiters := [], neg := false, unclear := false, demand := 0, worst := 0,
    negRevs := 0, clearRevs := 0, lastXid := 0, lastDs := 0 }

def SpeedSt.init : SpeedSt := { lastChange := 0, clrReq := false, stopping := false }

def AdtSt.init : AdtSt := { adt := [], dpt := [], adtPoison := [], dptPoison := [], buf := [], scrubDpt := false }

def ChanSt.init : ChanSt :=
  { rxNext := 0, rxAny := false, txNext := 0, unacked := [], carry := [], resend := [], resendAt := 0, txOpen := false, ackDue := false,
    nakDue := false, lastNak := none, rejects := [], lastReject := none, suppressed := 0, violTimes := [], lastTx := 0,
    lastRx := 0, silences := 0, partner := none, accepted := none, attempt := none, newEpoch := 0, inHello := false,
    firstUp := false, helloOk := false, lastHello := none, retryAt := none, inEpisode := false, quarAt := none, own := [], relock := false, prevAck := 0,
    prevValid := false, syncSeq := 0, syncOpen := [], rtts := [], delays := [], ofsCorr := none, syncBad := 0,
    lastSync := none, syncGood := 0, latMeas := none, latAuto := none, senseQ := [], lastSafe := none, stopAt := none,
    xidNext := 0, xidCount := 0 }

def StrSt.init : StrSt :=
  { run := .idle, pc := 0, x := [], f := [], lk := 0, rc := 0, ls := [], le := [], lc := [], psw := 0, fcsr := 0, tbase := 0,
    tpc := 0, tpsw := 0, tcause := 0, tval := 0, taskId := 0, oord := 0, evlatch := 0, dtStart := 0, waited := 0,
    waitAt := none, limit := 0, woken := false, haltDue := false, sb := [], cb := [], uc := [], cmpBuf := [], dmaBuf := [] }

def L1.init : L1 := { lines := [], lru := [] }

def PondSt.init : PondSt :=
  { l1d := L1.init, l1i := L1.init, l2 := [], l2Lru := [], wayCe := [], ceStart := 0, wayBusy := [], maint := none, l2Stop := false, stopping := false,
    pmStop := false, dma0 := [], dma1 := [], desc := [], conflict := [], repaired := [], failRow := [],
    march := none, csBad := [], spareFor := none }

def BasinSt.init : BasinSt :=
  { home := [], nextAlloc := 0, flights := [], nextSeq := 0, nacked := [], nextTicket := 0, queues := [], rotate := [],
    nextTask := 0, jrn := [], ends := [], stopping := false, lostAt := none }

def McSt.init : McSt :=
  { eyes := [], retrained := [], moved := [], mig := none, spareReq := false, scrubBlk := 0, drifted := false, nextRank := 0, serials := [], trainRank := 0,
    stopping := false }

def DramSt.init : DramSt := { bytes := [], poison := [], vmap := [], regions := [], filling := none }

def CmpSt.init : CmpSt := { fifo := [], busy := [], job := none, stopping := false, laneOff := 0 }

def UcodeSt.init : UcodeSt :=
  { words := [], entries := [], nwords := 0, nent := 0, slot := 0, status := 0, reason := 0, staged := [], vendor := none, booted := [] }

def SecSt.init : SecSt :=
  { slots := [], arb := 0, otpLock := false, keys := [], secret := [], rngReady := 0, rngBack := none, lastSeed := 0,
    shaMsg := [], shaOut := [], shaIdx := 0, log := [], running := List.replicate 32 0, count := 0, ovf := false,
    sigNext := none, cell := none, certs := [], slotCtr := [], boots := 0, chal := none, stopping := false }

def HostSt.init : HostSt :=
  { pairs := [], accepted := [], nextOrder := 0, rotate := [], log := none, stats := [], msixOn := false, masked := [],
    msixPend := [], d3 := false, held := [], expOff := false, prefetch := [], lastDp := 0, dmaBad := [], headWord := 0,
    stopping := false, patterns := [], dropped := [], bar2Old := none }

def TierPort.init : TierPort :=
  { lock := false, epoch := 0, rxNext := 0, rxAny := false, txNext := 0, unacked := [], carry := [], resend := [], resendAt := 0, msgs := [], relay := [],
    partials := [], ackDue := false, nakDue := false, lastNak := none, lastTx := 0, lastRx := 0,
    lastSafe := none, violTimes := [], attempt := none, newEpoch := 0, firstUp := false, helloOk := false,
    lastHello := none, retryAt := none, episode := none, prevAck := 0, prevValid := false, peerSerial := 0, peerFw := 0,
    armed := false, bootTries := 0 }

def TreeSt.init : TreeSt :=
  { num := 0, depth := 0, msgId := 0, workers := [], sumSeq := 0, lastSum := 0, safeSeen := none,
    heldTail := none, heldRecs := [] }

def SvcSt.init : SvcSt :=
  { escs := [], waiting := [], kept := [], rseq := 0, acks := [], retired := [], pfwAt := none,
    firstSafe := none, xjNext := 0, olUsed := 0, tarnDue := [] }

def PwrSt.init : PwrSt :=
  { phase := .starting, request := 0, entryAt := none, sleepNote := false, saved := [], napSince := none, thermLim := [],
    margLim := [], raise := [], voltAt := none, nak := none, hotSamples := 0, thrSamples := 0, warm := false, cooling := 0, testAt := none, start := none, fwVer := 0,
    ucVer := 0, secVer := 0 }

/-- The machine right after a power-on reset (R491): DT 0 (R59), every register field at its reset value (no field is
listed), every memory with nothing listed, start-up begun (BOOT_STAGE.STAGE reads 0x01), and no command waiting. -/
def State.reset : State :=
  { flds := [], staged := [], latches := [], time := TimeSt.init, axes := [], aports := [], weirs := [],
    speed := SpeedSt.init, adt := AdtSt.init, chans := [], gplls := [], striders := [], ponds := [], basins := [], mcs := [], pm := [],
    pmPoison := [], dram := DramSt.init, cmp := CmpSt.init, ucode := UcodeSt.init, sec := SecSt.init, host := HostSt.init,
    tports := [], tree := TreeSt.init, svc := SvcSt.init, pwr := PwrSt.init, out := [], due := [], freeCtr := 0,
    pending := [] }

end Sys2Proof.Machine
end

