-- ==== Sys2Proof/Machine/Flags.lean ====
section
/-!
DEFINITION. The processor status of a strider (Table 07-3), the flag computations of the instruction tables (Tables 07-7 to
07-9) and the conditions of Table 07-6.
-/

namespace Sys2Proof.Machine

/-- The four condition flags. -/
structure Flags where
  z : Bool
  n : Bool
  c : Bool
  v : Bool
  deriving DecidableEq, Repr

def pswZ (p : Word32) : Bool := p.getLsbD 0
def pswN (p : Word32) : Bool := p.getLsbD 1
def pswC (p : Word32) : Bool := p.getLsbD 2
def pswV (p : Word32) : Bool := p.getLsbD 3
def pswH (p : Word32) : Bool := p.getLsbD 7
def pswUip (p : Word32) : Bool := p.getLsbD 11
def pswLd (p : Word32) : Nat := (p.toNat / 2 ^ 8) % 8

/-- A bit of the status as a word. -/
def pswBit (b : Bool) (k : Nat) : Word32 := if b then BitVec.ofNat 32 (2 ^ k) else 0

/-- Replace the bits of a mask. -/
def pswPut (p mask v : Word32) : Word32 := (p &&& ~~~mask) ||| (v &&& mask)

def pswFlags (p : Word32) (f : Flags) : Word32 :=
  pswPut p 0xF (pswBit f.z 0 ||| pswBit f.n 1 ||| pswBit f.c 2 ||| pswBit f.v 3)

/-- Z alone, as the outputs and waits set it. -/
def pswSetZ (p : Word32) (z : Bool) : Word32 := pswPut p 1 (pswBit z 0)

def pswSetH (p : Word32) (h : Bool) : Word32 := pswPut p 0x80 (pswBit h 7)
def pswSetUip (p : Word32) (u : Bool) : Word32 := pswPut p 0x800 (pswBit u 11)
def pswSetLd (p : Word32) (n : Nat) : Word32 := pswPut p 0x700 (BitVec.ofNat 32 (n * 2 ^ 8))

/-- The flags of a result without carry or overflow: Z and N, C and V 0. -/
def flagsLogic (r : Word) : Flags := { z := r == 0, n := r.msb, c := false, v := false }

/-- The flags of an addition: C is carry out. -/
def flagsAdd (a b : Word) : Flags :=
  let r := a + b
  { z := r == 0, n := r.msb, c := decide (2 ^ 64 ≤ a.toNat + b.toNat), v := decide (a.toInt + b.toInt ≠ r.toInt) }

/-- The flags of a subtraction: C is borrow. -/
def flagsSub (a b : Word) : Flags :=
  let r := a - b
  { z := r == 0, n := r.msb, c := decide (a.toNat < b.toNat), v := decide (a.toInt - b.toInt ≠ r.toInt) }

/-- The kinds of shift. -/
inductive Shift where
  | shl | shr | sar
  deriving DecidableEq, Repr

/-- A shift by 0 to 63. -/
def shiftBy (k : Shift) (a : Word) (n : Nat) : Word :=
  match k with
  | .shl => a <<< n
  | .shr => a >>> n
  | .sar => a.sshiftRight n

/-- The flags of a shift: C is the last bit shifted out, 0 for a count of 0. -/
def flagsShift (k : Shift) (a : Word) (n : Nat) : Flags :=
  let r := shiftBy k a n
  let out := if n = 0 then false else match k with
    | .shl => a.getLsbD (64 - n)
    | .shr | .sar => a.getLsbD (n - 1)
  { z := r == 0, n := r.msb, c := out, v := false }

/-- Does a condition hold (Table 07-6)? Code 15 is undefined and raises ILLEGAL before this is asked (R188). -/
def condHolds (p : Word32) (c : Nat) : Bool :=
  let z := pswZ p
  let n := pswN p
  let cy := pswC p
  let v := pswV p
  match c with
  | 0 => z
  | 1 => !z
  | 2 => n != v
  | 3 => n == v
  | 4 => cy
  | 5 => !cy
  | 6 => !z && n == v
  | 7 => z || n != v
  | 8 => !cy && !z
  | 9 => cy || z
  | 10 => n
  | 11 => !n
  | 12 => v
  | 13 => !v
  | _ => true

end Sys2Proof.Machine
end

