-- ==== Sys2Proof/Machine/RegMap.lean ====
section
/-!
DEFINITION. The register map of the FXM1024 (R31, R32; the register and field tables of every chapter): each register's
offset, each field's bits, access class, reset value and undefined encodings, and a name for the address of every field.
The tables of this file were written out from the field tables of spec/ by a script that read those tables; a field the
spec reserves has no row here (it reads 0 and ignores writes, R52).
-/

namespace Sys2Proof.Machine

/-- The access classes of Table 00-4 (R9). -/
inductive Acc where
  | ro | rw | w1c | w1s | wo | rws | rwl | rwi
  deriving DecidableEq, Repr

/-- A field of a register: the register's address and the field's bits [hi:lo]. -/
structure Fld where
  addr : Nat
  hi   : Nat
  lo   : Nat
  deriving DecidableEq, Repr

/-- The number of bits of a field. -/
def Fld.width (f : Fld) : Nat := f.hi + 1 - f.lo

/-- The key under which a field's value is held: fields of different registers, and different fields of one register,
have different keys. -/
def Fld.key (f : Fld) : Nat := 32 * f.addr + f.lo

/-- One row of a field table: bits, access class, reset value, the encodings the table calls undefined (as ranges) and
whether the field is a member of a commit group (R43). -/
structure FieldDef where
  hi   : Nat
  lo   : Nat
  acc  : Acc
  rst  : Nat
  bad  : List (Nat × Nat) := []
  grp  : Bool := false
  deriving DecidableEq, Repr

/-- The kinds of register block of Table 02-1; AXIS is split into trackers and ports, SEC into the block registers and
the pages. -/
inductive Blk where
  | dev
  | pwr
  | time
  | ax
  | ap
  | weirg
  | adt
  | fc
  | pond
  | basin
  | mc
  | cmp
  | sec
  | secPage
  | host
  | tier
  | svc
  | therm
  deriving DecidableEq, Repr

/-- Base address of a block kind (Table 02-1). -/
def Blk.base : Blk → Nat
  | .dev => 0x000000
  | .pwr => 0x010000
  | .time => 0x020000
  | .ax => 0x030000
  | .ap => 0x030400
  | .weirg => 0x040000
  | .adt => 0x050000
  | .fc => 0x100000
  | .pond => 0x400000
  | .basin => 0x900000
  | .mc => 0xA00000
  | .cmp => 0xB00000
  | .sec => 0xB10000
  | .secPage => 0xB10100
  | .host => 0xC00000
  | .tier => 0xC80000
  | .svc => 0xD00000
  | .therm => 0xE00000

/-- Distance between two instances of a block kind (Table 02-1). -/
def Blk.stride : Blk → Nat
  | .dev => 0x0
  | .pwr => 0x0
  | .time => 0x0
  | .ax => 0x20
  | .ap => 0x20
  | .weirg => 0x0
  | .adt => 0x0
  | .fc => 0x1000
  | .pond => 0x10000
  | .basin => 0x10000
  | .mc => 0x10000
  | .cmp => 0x0
  | .sec => 0x0
  | .secPage => 0x10
  | .host => 0x0
  | .tier => 0x1000
  | .svc => 0x0
  | .therm => 0x0

/-- Number of instances of a block kind (Table 02-1). -/
def Blk.count : Blk → Nat
  | .dev => 1
  | .pwr => 1
  | .time => 1
  | .ax => 16
  | .ap => 8
  | .weirg => 1
  | .adt => 1
  | .fc => 96
  | .pond => 68
  | .basin => 4
  | .mc => 8
  | .cmp => 1
  | .sec => 1
  | .secPage => 16
  | .host => 1
  | .tier => 8
  | .svc => 1
  | .therm => 1

/-! ### Field addresses of the DEV registers -/

def DEV_CTL.addr : Nat := 0x0
def DEV_CTL.IE : Fld := ⟨DEV_CTL.addr, 7, 4⟩
def DEV_CTL.CFG_LOCK : Fld := ⟨DEV_CTL.addr, 0, 0⟩
def DEV_STAT.addr : Nat := 0x4
def DEV_STAT.CFG_MISMATCH : Fld := ⟨DEV_STAT.addr, 31, 31⟩
def DEV_STAT.CFG_REJECT : Fld := ⟨DEV_STAT.addr, 30, 30⟩
def DEV_STAT.CFG_PENDING : Fld := ⟨DEV_STAT.addr, 29, 29⟩
def DEV_STAT.STATE : Fld := ⟨DEV_STAT.addr, 28, 26⟩
def DEV_FAULT.addr : Nat := 0x8
def DEV_FAULT.REGPAR : Fld := ⟨DEV_FAULT.addr, 1, 1⟩
def DEV_FAULT.REG_TMO : Fld := ⟨DEV_FAULT.addr, 0, 0⟩
def DEV_FAULT_EN.addr : Nat := 0xC
def DEV_FAULT_EN.REGPAR : Fld := ⟨DEV_FAULT_EN.addr, 1, 1⟩
def DEV_FAULT_EN.REG_TMO : Fld := ⟨DEV_FAULT_EN.addr, 0, 0⟩
def DEV_FIRST.addr : Nat := 0x10
def DEV_FIRST.OVF : Fld := ⟨DEV_FIRST.addr, 5, 5⟩
def DEV_FIRST.VALID : Fld := ⟨DEV_FIRST.addr, 4, 4⟩
def DEV_FIRST.SRC : Fld := ⟨DEV_FIRST.addr, 3, 0⟩
def DEV_ID.addr : Nat := 0x14
def DEV_ID.PART : Fld := ⟨DEV_ID.addr, 31, 16⟩
def DEV_ID.SILREV : Fld := ⟨DEV_ID.addr, 15, 8⟩
def DEV_ID.CODE : Fld := ⟨DEV_ID.addr, 1, 0⟩
def DEV_SERIAL_LO.addr : Nat := 0x18
def DEV_SERIAL_LO.SERIAL : Fld := ⟨DEV_SERIAL_LO.addr, 31, 0⟩
def DEV_SERIAL_HI.addr : Nat := 0x1C
def DEV_SERIAL_HI.SERIAL : Fld := ⟨DEV_SERIAL_HI.addr, 31, 0⟩
def DEV_POS.addr : Nat := 0x20
def DEV_POS.ROLE : Fld := ⟨DEV_POS.addr, 9, 8⟩
def DEV_POS.DEPTH : Fld := ⟨DEV_POS.addr, 7, 6⟩
def DEV_POS.DEVICE : Fld := ⟨DEV_POS.addr, 5, 0⟩
def DEV_FW_VER.addr : Nat := 0x24
def DEV_FW_VER.FW_VER : Fld := ⟨DEV_FW_VER.addr, 31, 0⟩
def DEV_UC_VER.addr : Nat := 0x28
def DEV_UC_VER.UC_VER : Fld := ⟨DEV_UC_VER.addr, 31, 0⟩
def DEV_UC_IMG.addr : Nat := 0x2C
def DEV_UC_IMG.UC_IMG : Fld := ⟨DEV_UC_IMG.addr, 31, 0⟩
def DEV_SCRATCH.addr (i : Nat) : Nat := 0x30 + 4 * i
def DEV_SCRATCH.SCRATCH (i : Nat) : Fld := ⟨(DEV_SCRATCH.addr i), 31, 0⟩
def DEV_IRQ_SUM.addr : Nat := 0x40
def DEV_IRQ_SUM.BLK : Fld := ⟨DEV_IRQ_SUM.addr, 16, 0⟩
def DEV_CLASS_SUM.addr : Nat := 0x44
def DEV_CLASS_SUM.CLASS : Fld := ⟨DEV_CLASS_SUM.addr, 3, 0⟩
def DEV_CFG_SUM.addr : Nat := 0x48
def DEV_CFG_SUM.PEND : Fld := ⟨DEV_CFG_SUM.addr, 16, 0⟩
def DEV_READY_DT_LO.addr : Nat := 0x4C
def DEV_READY_DT_LO.DT : Fld := ⟨DEV_READY_DT_LO.addr, 31, 0⟩
def DEV_READY_DT_HI.addr : Nat := 0x50
def DEV_READY_DT_HI.DT : Fld := ⟨DEV_READY_DT_HI.addr, 31, 0⟩
def DEV_CAPS.addr : Nat := 0x54
def DEV_CAPS.DTVER_MAX : Fld := ⟨DEV_CAPS.addr, 15, 8⟩
def DEV_CAPS.ECLK_MAX : Fld := ⟨DEV_CAPS.addr, 7, 0⟩
def DEV_CFGMODE.addr : Nat := 0x58
def DEV_CFGMODE.MAP_REV : Fld := ⟨DEV_CFGMODE.addr, 31, 24⟩
def DEV_CFGMODE.IMM_PMREG : Fld := ⟨DEV_CFGMODE.addr, 5, 5⟩
def DEV_CFGMODE.IMM_TIER : Fld := ⟨DEV_CFGMODE.addr, 4, 4⟩
def DEV_CFGMODE.IMM_CMP : Fld := ⟨DEV_CFGMODE.addr, 3, 3⟩
def DEV_CFGMODE.IMM_MCSPARE : Fld := ⟨DEV_CFGMODE.addr, 2, 2⟩
def DEV_CFGMODE.IMM_WEIR : Fld := ⟨DEV_CFGMODE.addr, 1, 1⟩
def DEV_CFGMODE.IMM_AXIS : Fld := ⟨DEV_CFGMODE.addr, 0, 0⟩
def DEV_BOOTS.addr : Nat := 0x5C
def DEV_BOOTS.BOOTS : Fld := ⟨DEV_BOOTS.addr, 31, 0⟩

/-! ### Field addresses of the PWR registers -/

def PWR_CTL.addr : Nat := 0x10000
def PWR_CTL.NAP_HOLD : Fld := ⟨PWR_CTL.addr, 31, 24⟩
def PWR_CTL.IE : Fld := ⟨PWR_CTL.addr, 7, 4⟩
def PWR_CTL.NAP_AUTO : Fld := ⟨PWR_CTL.addr, 1, 1⟩
def PWR_CTL.PERST_DEV : Fld := ⟨PWR_CTL.addr, 0, 0⟩
def PWR_STAT.addr : Nat := 0x10004
def PWR_STAT.CFG_MISMATCH : Fld := ⟨PWR_STAT.addr, 31, 31⟩
def PWR_STAT.CFG_REJECT : Fld := ⟨PWR_STAT.addr, 30, 30⟩
def PWR_STAT.CFG_PENDING : Fld := ⟨PWR_STAT.addr, 29, 29⟩
def PWR_STAT.DSTATE : Fld := ⟨PWR_STAT.addr, 28, 26⟩
def PWR_STAT.RESUMED : Fld := ⟨PWR_STAT.addr, 25, 25⟩
def PWR_STAT.READY : Fld := ⟨PWR_STAT.addr, 24, 24⟩
def PWR_FAULT.addr : Nat := 0x10008
def PWR_FAULT.REGPAR : Fld := ⟨PWR_FAULT.addr, 6, 6⟩
def PWR_FAULT.UV : Fld := ⟨PWR_FAULT.addr, 5, 5⟩
def PWR_FAULT.RESUME_FAIL : Fld := ⟨PWR_FAULT.addr, 4, 4⟩
def PWR_FAULT.ENTRY_ABORT : Fld := ⟨PWR_FAULT.addr, 3, 3⟩
def PWR_FAULT.VMARGIN : Fld := ⟨PWR_FAULT.addr, 2, 2⟩
def PWR_FAULT.AVS_NAK : Fld := ⟨PWR_FAULT.addr, 1, 1⟩
def PWR_FAULT.PLL_UNLOCK : Fld := ⟨PWR_FAULT.addr, 0, 0⟩
def PWR_FAULT_EN.addr : Nat := 0x1000C
def PWR_FAULT_EN.REGPAR : Fld := ⟨PWR_FAULT_EN.addr, 6, 6⟩
def PWR_FAULT_EN.UV : Fld := ⟨PWR_FAULT_EN.addr, 5, 5⟩
def PWR_FAULT_EN.RESUME_FAIL : Fld := ⟨PWR_FAULT_EN.addr, 4, 4⟩
def PWR_FAULT_EN.ENTRY_ABORT : Fld := ⟨PWR_FAULT_EN.addr, 3, 3⟩
def PWR_FAULT_EN.VMARGIN : Fld := ⟨PWR_FAULT_EN.addr, 2, 2⟩
def PWR_FAULT_EN.AVS_NAK : Fld := ⟨PWR_FAULT_EN.addr, 1, 1⟩
def PWR_FAULT_EN.PLL_UNLOCK : Fld := ⟨PWR_FAULT_EN.addr, 0, 0⟩
def PWR_FIRST.addr : Nat := 0x10010
def PWR_FIRST.OVF : Fld := ⟨PWR_FIRST.addr, 5, 5⟩
def PWR_FIRST.VALID : Fld := ⟨PWR_FIRST.addr, 4, 4⟩
def PWR_FIRST.SRC : Fld := ⟨PWR_FIRST.addr, 3, 0⟩
def PWR_REQ.addr : Nat := 0x10014
def PWR_REQ.TARGET : Fld := ⟨PWR_REQ.addr, 1, 0⟩
def PWR_WAKE_EN.addr : Nat := 0x10018
def PWR_WAKE_EN.EN : Fld := ⟨PWR_WAKE_EN.addr, 2, 0⟩
def PWR_WAKE_SRC.addr : Nat := 0x1001C
def PWR_WAKE_SRC.SRC : Fld := ⟨PWR_WAKE_SRC.addr, 2, 0⟩
def PWR_WAKE_DT_LO.addr : Nat := 0x10020
def PWR_WAKE_DT_LO.DT : Fld := ⟨PWR_WAKE_DT_LO.addr, 31, 0⟩
def PWR_WAKE_DT_HI.addr : Nat := 0x10024
def PWR_WAKE_DT_HI.DT : Fld := ⟨PWR_WAKE_DT_HI.addr, 31, 0⟩
def RST_CTL.addr : Nat := 0x10028
def RST_CTL.BLK : Fld := ⟨RST_CTL.addr, 31, 24⟩
def RST_CTL.INST : Fld := ⟨RST_CTL.addr, 23, 8⟩
def RST_CTL.BLK_GO : Fld := ⟨RST_CTL.addr, 2, 2⟩
def RST_CTL.KIND : Fld := ⟨RST_CTL.addr, 1, 0⟩
def RST_CAUSE.addr : Nat := 0x1002C
def RST_CAUSE.WARM_CNT : Fld := ⟨RST_CAUSE.addr, 15, 8⟩
def RST_CAUSE.LAST : Fld := ⟨RST_CAUSE.addr, 3, 0⟩
def STRAP.addr : Nat := 0x10030
def STRAP.BOOT : Fld := ⟨STRAP.addr, 3, 2⟩
def STRAP.ROLE : Fld := ⟨STRAP.addr, 1, 0⟩
def BOOT_STAGE.addr : Nat := 0x10034
def BOOT_STAGE.SLOT : Fld := ⟨BOOT_STAGE.addr, 16, 16⟩
def BOOT_STAGE.FAIL : Fld := ⟨BOOT_STAGE.addr, 15, 8⟩
def BOOT_STAGE.STAGE : Fld := ⟨BOOT_STAGE.addr, 7, 0⟩
def PLL_STAT.addr (i : Nat) : Nat := 0x10038 + 4 * i
def PLL_STAT.LOSSES (i : Nat) : Fld := ⟨(PLL_STAT.addr i), 31, 20⟩
def PLL_STAT.MHZ (i : Nat) : Fld := ⟨(PLL_STAT.addr i), 15, 4⟩
def PLL_STAT.RUN (i : Nat) : Fld := ⟨(PLL_STAT.addr i), 1, 1⟩
def PLL_STAT.LOCK (i : Nat) : Fld := ⟨(PLL_STAT.addr i), 0, 0⟩
def ECLK_CTL.addr (i : Nat) : Nat := 0x10058 + 4 * i
def ECLK_CTL.MHZ (i : Nat) : Fld := ⟨(ECLK_CTL.addr i), 11, 0⟩
def POND_IDLE.addr (i : Nat) : Nat := 0x10068 + 4 * i
def POND_IDLE.PGATE (i : Nat) : Fld := ⟨(POND_IDLE.addr i), 31, 0⟩
def POND_PSTAT.addr (i : Nat) : Nat := 0x10074 + 4 * i
def POND_PSTAT.GATED (i : Nat) : Fld := ⟨(POND_PSTAT.addr i), 31, 0⟩
def AVS_CTL.addr : Nat := 0x10080
def AVS_CTL.EN : Fld := ⟨AVS_CTL.addr, 31, 31⟩
def AVS_CTL.ADDR : Fld := ⟨AVS_CTL.addr, 30, 24⟩
def AVS_CTL.SETTLE : Fld := ⟨AVS_CTL.addr, 23, 16⟩
def AVS_CTL.TRIM : Fld := ⟨AVS_CTL.addr, 15, 8⟩
def AVS_STAT.addr : Nat := 0x10084
def AVS_STAT.VREQ : Fld := ⟨AVS_STAT.addr, 31, 16⟩
def AVS_STAT.VMEAS : Fld := ⟨AVS_STAT.addr, 15, 0⟩
def PWR_MEAS.addr : Nat := 0x10088
def PWR_MEAS.POWER : Fld := ⟨PWR_MEAS.addr, 31, 16⟩
def PWR_MEAS.PEAK : Fld := ⟨PWR_MEAS.addr, 15, 0⟩
def DSTATE_CNT.addr : Nat := 0x1008C
def DSTATE_CNT.NAPS : Fld := ⟨DSTATE_CNT.addr, 31, 16⟩
def DSTATE_CNT.SLEEPS : Fld := ⟨DSTATE_CNT.addr, 15, 0⟩
def PWR_RESUME_LO.addr : Nat := 0x10090
def PWR_RESUME_LO.ADDR : Fld := ⟨PWR_RESUME_LO.addr, 31, 0⟩
def PWR_RESUME_HI.addr : Nat := 0x10094
def PWR_RESUME_HI.ADDR : Fld := ⟨PWR_RESUME_HI.addr, 31, 0⟩
def PWR_AON_SCR.addr : Nat := 0x10098
def PWR_AON_SCR.SCRATCH : Fld := ⟨PWR_AON_SCR.addr, 31, 0⟩
def PWR_NAP_BLOCK.addr : Nat := 0x1009C
def PWR_NAP_BLOCK.WHY : Fld := ⟨PWR_NAP_BLOCK.addr, 8, 0⟩

/-! ### Field addresses of the TIME registers -/

def TIME_CTL.addr : Nat := 0x20000
def TIME_CTL.LOAD : Fld := ⟨TIME_CTL.addr, 2, 2⟩
def TIME_CTL.AON_CAL_EN : Fld := ⟨TIME_CTL.addr, 1, 1⟩
def TIME_CTL.EN : Fld := ⟨TIME_CTL.addr, 0, 0⟩
def TIME_STAT.addr : Nat := 0x20004
def TIME_STAT.CFG_MISMATCH : Fld := ⟨TIME_STAT.addr, 31, 31⟩
def TIME_STAT.CFG_REJECT : Fld := ⟨TIME_STAT.addr, 30, 30⟩
def TIME_STAT.CFG_PENDING : Fld := ⟨TIME_STAT.addr, 29, 29⟩
def TIME_STAT.DT_STEPPED : Fld := ⟨TIME_STAT.addr, 3, 3⟩
def TIME_STAT.AON_CAL_VALID : Fld := ⟨TIME_STAT.addr, 2, 2⟩
def TIME_STAT.FINE_LOCK : Fld := ⟨TIME_STAT.addr, 1, 1⟩
def TIME_STAT.RUN : Fld := ⟨TIME_STAT.addr, 0, 0⟩
def TIME_FAULT.addr : Nat := 0x20008
def TIME_FAULT.REGPAR : Fld := ⟨TIME_FAULT.addr, 5, 5⟩
def TIME_FAULT.SLEW_CLIP : Fld := ⟨TIME_FAULT.addr, 4, 4⟩
def TIME_FAULT.FF_LOST : Fld := ⟨TIME_FAULT.addr, 3, 3⟩
def TIME_FAULT.AON_CAL_RANGE : Fld := ⟨TIME_FAULT.addr, 2, 2⟩
def TIME_FAULT.FINE_UNLOCK : Fld := ⟨TIME_FAULT.addr, 1, 1⟩
def TIME_FAULT.TBCLK_LOSS : Fld := ⟨TIME_FAULT.addr, 0, 0⟩
def TIME_FAULT_EN.addr : Nat := 0x2000C
def TIME_FAULT_EN.REGPAR : Fld := ⟨TIME_FAULT_EN.addr, 5, 5⟩
def TIME_FAULT_EN.SLEW_CLIP : Fld := ⟨TIME_FAULT_EN.addr, 4, 4⟩
def TIME_FAULT_EN.FF_LOST : Fld := ⟨TIME_FAULT_EN.addr, 3, 3⟩
def TIME_FAULT_EN.AON_CAL_RANGE : Fld := ⟨TIME_FAULT_EN.addr, 2, 2⟩
def TIME_FAULT_EN.FINE_UNLOCK : Fld := ⟨TIME_FAULT_EN.addr, 1, 1⟩
def TIME_FAULT_EN.TBCLK_LOSS : Fld := ⟨TIME_FAULT_EN.addr, 0, 0⟩
def TIME_FIRST.addr : Nat := 0x20010
def TIME_FIRST.OVF : Fld := ⟨TIME_FIRST.addr, 5, 5⟩
def TIME_FIRST.VALID : Fld := ⟨TIME_FIRST.addr, 4, 4⟩
def TIME_FIRST.SRC : Fld := ⟨TIME_FIRST.addr, 3, 0⟩
def DT_LO.addr : Nat := 0x20014
def DT_LO.V : Fld := ⟨DT_LO.addr, 31, 0⟩
def DT_HI.addr : Nat := 0x20018
def DT_HI.V : Fld := ⟨DT_HI.addr, 31, 0⟩
def DT_SET_LO.addr : Nat := 0x2001C
def DT_SET_LO.V : Fld := ⟨DT_SET_LO.addr, 31, 0⟩
def DT_SET_HI.addr : Nat := 0x20020
def DT_SET_HI.V : Fld := ⟨DT_SET_HI.addr, 31, 0⟩
def DT_SLEW.addr : Nat := 0x20024
def DT_SLEW.V : Fld := ⟨DT_SLEW.addr, 31, 0⟩
def DT_RATE.addr : Nat := 0x20028
def DT_RATE.V : Fld := ⟨DT_RATE.addr, 31, 0⟩
def FINE_CAL.addr : Nat := 0x2002C
def FINE_CAL.CAL_COUNT : Fld := ⟨FINE_CAL.addr, 31, 16⟩
def FINE_CAL.PHASE_ERR : Fld := ⟨FINE_CAL.addr, 15, 8⟩
def FINE_CAL.LOCK : Fld := ⟨FINE_CAL.addr, 0, 0⟩
def AON_CAL.addr : Nat := 0x20030
def AON_CAL.VALID : Fld := ⟨AON_CAL.addr, 31, 31⟩
def AON_CAL.TICKS : Fld := ⟨AON_CAL.addr, 26, 0⟩
def SLEEP_DT_LO.addr : Nat := 0x20034
def SLEEP_DT_LO.V : Fld := ⟨SLEEP_DT_LO.addr, 31, 0⟩
def SLEEP_DT_HI.addr : Nat := 0x20038
def SLEEP_DT_HI.V : Fld := ⟨SLEEP_DT_HI.addr, 31, 0⟩
def WAKE_DT_LO.addr : Nat := 0x2003C
def WAKE_DT_LO.V : Fld := ⟨WAKE_DT_LO.addr, 31, 0⟩
def WAKE_DT_HI.addr : Nat := 0x20040
def WAKE_DT_HI.V : Fld := ⟨WAKE_DT_HI.addr, 31, 0⟩
def FF_CTL.addr : Nat := 0x20044
def FF_CTL.STEP_EN : Fld := ⟨FF_CTL.addr, 28, 28⟩
def FF_CTL.HOLD_MAX : Fld := ⟨FF_CTL.addr, 27, 24⟩
def FF_CTL.LOCK_THR : Fld := ⟨FF_CTL.addr, 23, 16⟩
def FF_CTL.KI_SHIFT : Fld := ⟨FF_CTL.addr, 15, 12⟩
def FF_CTL.KP_SHIFT : Fld := ⟨FF_CTL.addr, 11, 8⟩
def FF_CTL.FF_EN : Fld := ⟨FF_CTL.addr, 0, 0⟩
def FF_STAT.addr : Nat := 0x20048
def FF_STAT.EXCH_CNT : Fld := ⟨FF_STAT.addr, 31, 16⟩
def FF_STAT.DEPTH : Fld := ⟨FF_STAT.addr, 9, 8⟩
def FF_STAT.STATE : Fld := ⟨FF_STAT.addr, 3, 0⟩
def FF_OFFSET.addr : Nat := 0x2004C
def FF_OFFSET.V : Fld := ⟨FF_OFFSET.addr, 31, 0⟩
def FF_ERR.addr : Nat := 0x20050
def FF_ERR.RTT_MIN : Fld := ⟨FF_ERR.addr, 31, 16⟩
def FF_ERR.ERR_BOUND : Fld := ⟨FF_ERR.addr, 15, 0⟩
def FF_ASYM.addr (i : Nat) : Nat := 0x20054 + 4 * i
def FF_ASYM.MEAS (i : Nat) : Fld := ⟨(FF_ASYM.addr i), 31, 16⟩
def FF_ASYM.BOARD (i : Nat) : Fld := ⟨(FF_ASYM.addr i), 15, 0⟩
def CAP_CTL.addr : Nat := 0x20074
def CAP_CTL.FINE : Fld := ⟨CAP_CTL.addr, 9, 7⟩
def CAP_CTL.DONE : Fld := ⟨CAP_CTL.addr, 6, 6⟩
def CAP_CTL.ARM : Fld := ⟨CAP_CTL.addr, 5, 5⟩
def CAP_CTL.SRC : Fld := ⟨CAP_CTL.addr, 4, 0⟩
def CAP_LO.addr : Nat := 0x20078
def CAP_LO.V : Fld := ⟨CAP_LO.addr, 31, 0⟩
def CAP_HI.addr : Nat := 0x2007C
def CAP_HI.V : Fld := ⟨CAP_HI.addr, 31, 0⟩

/-! ### Field addresses of the AX registers -/

def AX_CTL.addr (n : Nat) : Nat := 0x30000 + 0x20 * n
def AX_CTL.IE (n : Nat) : Fld := ⟨(AX_CTL.addr n), 23, 20⟩
def AX_CTL.SRCI (n : Nat) : Fld := ⟨(AX_CTL.addr n), 19, 13⟩
def AX_CTL.SRCT (n : Nat) : Fld := ⟨(AX_CTL.addr n), 12, 12⟩
def AX_CTL.ACCM (n : Nat) : Fld := ⟨(AX_CTL.addr n), 11, 10⟩
def AX_CTL.VWIN (n : Nat) : Fld := ⟨(AX_CTL.addr n), 9, 7⟩
def AX_CTL.SHIFT (n : Nat) : Fld := ⟨(AX_CTL.addr n), 6, 3⟩
def AX_CTL.DIR (n : Nat) : Fld := ⟨(AX_CTL.addr n), 2, 2⟩
def AX_CTL.COMMIT (n : Nat) : Fld := ⟨(AX_CTL.addr n), 1, 1⟩
def AX_CTL.EN (n : Nat) : Fld := ⟨(AX_CTL.addr n), 0, 0⟩
def AX_CPR.addr (n : Nat) : Nat := 0x30004 + 0x20 * n
def AX_CPR.CPR (n : Nat) : Fld := ⟨(AX_CPR.addr n), 19, 0⟩
def AX_STAT.addr (n : Nat) : Nat := 0x30008 + 0x20 * n
def AX_STAT.CFG_MISMATCH (n : Nat) : Fld := ⟨(AX_STAT.addr n), 31, 31⟩
def AX_STAT.CFG_REJECT (n : Nat) : Fld := ⟨(AX_STAT.addr n), 30, 30⟩
def AX_STAT.CFG_PENDING (n : Nat) : Fld := ⟨(AX_STAT.addr n), 29, 29⟩
def AX_STAT.ZDIFF (n : Nat) : Fld := ⟨(AX_STAT.addr n), 19, 12⟩
def AX_STAT.REV (n : Nat) : Fld := ⟨(AX_STAT.addr n), 11, 11⟩
def AX_STAT.FIRST (n : Nat) : Fld := ⟨(AX_STAT.addr n), 10, 8⟩
def AX_STAT.OVF (n : Nat) : Fld := ⟨(AX_STAT.addr n), 7, 7⟩
def AX_STAT.STATE (n : Nat) : Fld := ⟨(AX_STAT.addr n), 6, 4⟩
def AX_STAT.LOST (n : Nat) : Fld := ⟨(AX_STAT.addr n), 3, 3⟩
def AX_STAT.SRCLOST (n : Nat) : Fld := ⟨(AX_STAT.addr n), 2, 2⟩
def AX_STAT.OVERSPEED (n : Nat) : Fld := ⟨(AX_STAT.addr n), 1, 1⟩
def AX_STAT.ZMIS (n : Nat) : Fld := ⟨(AX_STAT.addr n), 0, 0⟩
def AX_POS_LO.addr (n : Nat) : Nat := 0x3000C + 0x20 * n
def AX_POS_LO.V (n : Nat) : Fld := ⟨(AX_POS_LO.addr n), 31, 0⟩
def AX_POS_HI.addr (n : Nat) : Nat := 0x30010 + 0x20 * n
def AX_POS_HI.V (n : Nat) : Fld := ⟨(AX_POS_HI.addr n), 31, 0⟩
def AX_VEL.addr (n : Nat) : Nat := 0x30014 + 0x20 * n
def AX_VEL.V (n : Nat) : Fld := ⟨(AX_VEL.addr n), 31, 0⟩

/-! ### Field addresses of the AP registers -/

def AP_CTL.addr (n : Nat) : Nat := 0x30400 + 0x20 * n
def AP_CTL.IE (n : Nat) : Fld := ⟨(AP_CTL.addr n), 29, 26⟩
def AP_CTL.SSI_DLY (n : Nat) : Fld := ⟨(AP_CTL.addr n), 25, 22⟩
def AP_CTL.SSI_PER (n : Nat) : Fld := ⟨(AP_CTL.addr n), 21, 19⟩
def AP_CTL.SSI_ST (n : Nat) : Fld := ⟨(AP_CTL.addr n), 18, 14⟩
def AP_CTL.SSI_BITS (n : Nat) : Fld := ⟨(AP_CTL.addr n), 13, 9⟩
def AP_CTL.SSI_CLK (n : Nat) : Fld := ⟨(AP_CTL.addr n), 8, 6⟩
def AP_CTL.FILT (n : Nat) : Fld := ⟨(AP_CTL.addr n), 5, 3⟩
def AP_CTL.MODE (n : Nat) : Fld := ⟨(AP_CTL.addr n), 2, 1⟩
def AP_CTL.EN (n : Nat) : Fld := ⟨(AP_CTL.addr n), 0, 0⟩
def AP_STAT.addr (n : Nat) : Nat := 0x30404 + 0x20 * n
def AP_STAT.CFG_MISMATCH (n : Nat) : Fld := ⟨(AP_STAT.addr n), 31, 31⟩
def AP_STAT.CFG_REJECT (n : Nat) : Fld := ⟨(AP_STAT.addr n), 30, 30⟩
def AP_STAT.CFG_PENDING (n : Nat) : Fld := ⟨(AP_STAT.addr n), 29, 29⟩
def AP_STAT.PINS (n : Nat) : Fld := ⟨(AP_STAT.addr n), 10, 8⟩
def AP_STAT.OVF (n : Nat) : Fld := ⟨(AP_STAT.addr n), 7, 7⟩
def AP_STAT.FIRST (n : Nat) : Fld := ⟨(AP_STAT.addr n), 6, 4⟩
def AP_STAT.JUMP (n : Nat) : Fld := ⟨(AP_STAT.addr n), 3, 3⟩
def AP_STAT.SSIERR (n : Nat) : Fld := ⟨(AP_STAT.addr n), 2, 2⟩
def AP_STAT.RATE (n : Nat) : Fld := ⟨(AP_STAT.addr n), 1, 1⟩
def AP_STAT.QERR (n : Nat) : Fld := ⟨(AP_STAT.addr n), 0, 0⟩
def AP_CNT.addr (n : Nat) : Nat := 0x30408 + 0x20 * n
def AP_CNT.V (n : Nat) : Fld := ⟨(AP_CNT.addr n), 31, 0⟩
def AP_ZCAP_LO.addr (n : Nat) : Nat := 0x3040C + 0x20 * n
def AP_ZCAP_LO.V (n : Nat) : Fld := ⟨(AP_ZCAP_LO.addr n), 31, 0⟩
def AP_ZCAP_HI.addr (n : Nat) : Nat := 0x30410 + 0x20 * n
def AP_ZCAP_HI.V (n : Nat) : Fld := ⟨(AP_ZCAP_HI.addr n), 31, 0⟩

/-! ### Field addresses of the WEIRG registers -/

def WEIRG_CTL.addr : Nat := 0x40000
def WEIRG_CTL.WIE : Fld := ⟨WEIRG_CTL.addr, 31, 27⟩
def WEIRG_CTL.SPD_CLR : Fld := ⟨WEIRG_CTL.addr, 2, 2⟩
def WEIRG_CTL.SPD_PIN_EN : Fld := ⟨WEIRG_CTL.addr, 1, 1⟩
def WEIRG_CTL.EN : Fld := ⟨WEIRG_CTL.addr, 0, 0⟩
def WEIRG_STAT.addr : Nat := 0x40004
def WEIRG_STAT.CFG_MISMATCH : Fld := ⟨WEIRG_STAT.addr, 31, 31⟩
def WEIRG_STAT.CFG_REJECT : Fld := ⟨WEIRG_STAT.addr, 30, 30⟩
def WEIRG_STAT.CFG_PENDING : Fld := ⟨WEIRG_STAT.addr, 29, 29⟩
def WEIRG_STAT.LAST_REFUSE : Fld := ⟨WEIRG_STAT.addr, 28, 24⟩
def WEIRG_STAT.SPD_ACTIVE : Fld := ⟨WEIRG_STAT.addr, 23, 23⟩
def WEIRG_STAT.WORST_CH : Fld := ⟨WEIRG_STAT.addr, 22, 16⟩
def WEIRG_STAT.ADMIT_CLOSED : Fld := ⟨WEIRG_STAT.addr, 15, 15⟩
def WEIRG_FAULT.addr : Nat := 0x40008
def WEIRG_FAULT.REGPAR : Fld := ⟨WEIRG_FAULT.addr, 3, 3⟩
def WEIRG_FAULT.RPTQ : Fld := ⟨WEIRG_FAULT.addr, 2, 2⟩
def WEIRG_FAULT.ADMIT : Fld := ⟨WEIRG_FAULT.addr, 1, 1⟩
def WEIRG_FAULT.SPDLIM : Fld := ⟨WEIRG_FAULT.addr, 0, 0⟩
def WEIRG_FAULT_EN.addr : Nat := 0x4000C
def WEIRG_FAULT_EN.REGPAR : Fld := ⟨WEIRG_FAULT_EN.addr, 3, 3⟩
def WEIRG_FAULT_EN.RPTQ : Fld := ⟨WEIRG_FAULT_EN.addr, 2, 2⟩
def WEIRG_FAULT_EN.ADMIT : Fld := ⟨WEIRG_FAULT_EN.addr, 1, 1⟩
def WEIRG_FAULT_EN.SPDLIM : Fld := ⟨WEIRG_FAULT_EN.addr, 0, 0⟩
def WEIRG_FIRST.addr : Nat := 0x40010
def WEIRG_FIRST.OVF : Fld := ⟨WEIRG_FIRST.addr, 5, 5⟩
def WEIRG_FIRST.VALID : Fld := ⟨WEIRG_FIRST.addr, 4, 4⟩
def WEIRG_FIRST.SRC : Fld := ⟨WEIRG_FIRST.addr, 3, 0⟩
def WEIRG_MARGIN.addr : Nat := 0x40014
def WEIRG_MARGIN.ADV : Fld := ⟨WEIRG_MARGIN.addr, 31, 16⟩
def WEIRG_MARGIN.MARGIN : Fld := ⟨WEIRG_MARGIN.addr, 15, 0⟩
def WEIRG_EMITWAIT.addr : Nat := 0x40018
def WEIRG_EMITWAIT.EMIT_WAIT_MAX : Fld := ⟨WEIRG_EMITWAIT.addr, 15, 0⟩
def WEIRG_SPEED.addr : Nat := 0x4001C
def WEIRG_SPEED.AXIS : Fld := ⟨WEIRG_SPEED.addr, 27, 24⟩
def WEIRG_SPEED.CLR_REVS : Fld := ⟨WEIRG_SPEED.addr, 23, 16⟩
def WEIRG_SPEED.HYST : Fld := ⟨WEIRG_SPEED.addr, 15, 8⟩
def WEIRG_SPEED.N : Fld := ⟨WEIRG_SPEED.addr, 3, 0⟩
def WEIRG_SPDREQ.addr : Nat := 0x40020
def WEIRG_SPDREQ.RATED : Fld := ⟨WEIRG_SPDREQ.addr, 31, 16⟩
def WEIRG_SPDREQ.REQ : Fld := ⟨WEIRG_SPDREQ.addr, 15, 0⟩
def WEIRG_SPDREC.addr : Nat := 0x40024
def WEIRG_SPDREC.REC_RPM : Fld := ⟨WEIRG_SPDREC.addr, 31, 16⟩
def WEIRG_SPDREC.SRC : Fld := ⟨WEIRG_SPDREC.addr, 15, 14⟩
def WEIRG_SPDREC.CODE : Fld := ⟨WEIRG_SPDREC.addr, 3, 0⟩
def WEIRG_REPQ.addr : Nat := 0x40028
def WEIRG_REPQ.VALID : Fld := ⟨WEIRG_REPQ.addr, 8, 8⟩
def WEIRG_REPQ.BASIN : Fld := ⟨WEIRG_REPQ.addr, 7, 6⟩
def WEIRG_REPQ.QUEUE : Fld := ⟨WEIRG_REPQ.addr, 5, 0⟩
def WEIRG_ACCGATE.addr : Nat := 0x4002C
def WEIRG_ACCGATE.GATE : Fld := ⟨WEIRG_ACCGATE.addr, 31, 0⟩
def WEIRG_TMO.addr : Nat := 0x40030
def WEIRG_TMO.VTMO : Fld := ⟨WEIRG_TMO.addr, 31, 16⟩
def WEIRG_TMO.NONEMAX : Fld := ⟨WEIRG_TMO.addr, 15, 0⟩
def WEIRG_JRN.addr : Nat := 0x40034
def WEIRG_JRN.ADMIT_OPEN : Fld := ⟨WEIRG_JRN.addr, 31, 31⟩
def WEIRG_JRN.FREE_K : Fld := ⟨WEIRG_JRN.addr, 15, 0⟩
def WEIRG_SLACKMIN.addr : Nat := 0x40038
def WEIRG_SLACKMIN.CH : Fld := ⟨WEIRG_SLACKMIN.addr, 26, 20⟩
def WEIRG_SLACKMIN.SLACK : Fld := ⟨WEIRG_SLACKMIN.addr, 19, 0⟩
def WEIRG_NEG.addr (i : Nat) : Nat := 0x4003C + 4 * i
def WEIRG_NEG.NEG (i : Nat) : Fld := ⟨(WEIRG_NEG.addr i), 31, 0⟩
def WEIRG_ACC_LO.addr : Nat := 0x40048
def WEIRG_ACC_LO.ACCEPTED : Fld := ⟨WEIRG_ACC_LO.addr, 31, 0⟩
def WEIRG_ACC_HI.addr : Nat := 0x4004C
def WEIRG_ACC_HI.ACCEPTED : Fld := ⟨WEIRG_ACC_HI.addr, 31, 0⟩
def WEIRG_VER_LO.addr : Nat := 0x40050
def WEIRG_VER_LO.VERIFIED : Fld := ⟨WEIRG_VER_LO.addr, 31, 0⟩
def WEIRG_VER_HI.addr : Nat := 0x40054
def WEIRG_VER_HI.VERIFIED : Fld := ⟨WEIRG_VER_HI.addr, 31, 0⟩
def WEIRG_BAD_LO.addr : Nat := 0x40058
def WEIRG_BAD_LO.NOT_OK : Fld := ⟨WEIRG_BAD_LO.addr, 31, 0⟩
def WEIRG_BAD_HI.addr : Nat := 0x4005C
def WEIRG_BAD_HI.NOT_OK : Fld := ⟨WEIRG_BAD_HI.addr, 31, 0⟩

/-! ### Field addresses of the ADT registers -/

def ADT_CTL.addr : Nat := 0x50000
def ADT_CTL.SCRUB_EN : Fld := ⟨ADT_CTL.addr, 1, 1⟩
def ADT_CTL.EN : Fld := ⟨ADT_CTL.addr, 0, 0⟩
def ADT_STAT.addr : Nat := 0x50004
def ADT_STAT.CFG_MISMATCH : Fld := ⟨ADT_STAT.addr, 31, 31⟩
def ADT_STAT.CFG_REJECT : Fld := ⟨ADT_STAT.addr, 30, 30⟩
def ADT_STAT.CFG_PENDING : Fld := ⟨ADT_STAT.addr, 29, 29⟩
def ADT_STAT.BUSY : Fld := ⟨ADT_STAT.addr, 0, 0⟩
def ADT_FAULT.addr : Nat := 0x50008
def ADT_FAULT.REGPAR : Fld := ⟨ADT_FAULT.addr, 2, 2⟩
def ADT_FAULT.UE : Fld := ⟨ADT_FAULT.addr, 1, 1⟩
def ADT_FAULT.CE : Fld := ⟨ADT_FAULT.addr, 0, 0⟩
def ADT_FAULT_EN.addr : Nat := 0x5000C
def ADT_FAULT_EN.REGPAR : Fld := ⟨ADT_FAULT_EN.addr, 2, 2⟩
def ADT_FAULT_EN.UE : Fld := ⟨ADT_FAULT_EN.addr, 1, 1⟩
def ADT_FAULT_EN.CE : Fld := ⟨ADT_FAULT_EN.addr, 0, 0⟩
def ADT_FIRST.addr : Nat := 0x50010
def ADT_FIRST.OVF : Fld := ⟨ADT_FIRST.addr, 5, 5⟩
def ADT_FIRST.VALID : Fld := ⟨ADT_FIRST.addr, 4, 4⟩
def ADT_FIRST.SRC : Fld := ⟨ADT_FIRST.addr, 3, 0⟩
def ADT_SEL.addr : Nat := 0x50014
def ADT_SEL.TBL : Fld := ⟨ADT_SEL.addr, 31, 31⟩
def ADT_SEL.INDEX : Fld := ⟨ADT_SEL.addr, 16, 0⟩
def ADT_MASK.addr : Nat := 0x50018
def ADT_MASK.MASK : Fld := ⟨ADT_MASK.addr, 15, 0⟩
def ADT_OP.addr : Nat := 0x5001C
def ADT_OP.OP : Fld := ⟨ADT_OP.addr, 1, 0⟩
def ADT_WIDX.addr : Nat := 0x50020
def ADT_WIDX.WIDX : Fld := ⟨ADT_WIDX.addr, 3, 0⟩
def ADT_DATA.addr : Nat := 0x50024
def ADT_DATA.DATA : Fld := ⟨ADT_DATA.addr, 31, 0⟩
def ADT_ECC.addr : Nat := 0x50028
def ADT_ECC.CE_CNT : Fld := ⟨ADT_ECC.addr, 31, 16⟩
def ADT_ECC.UE_CNT : Fld := ⟨ADT_ECC.addr, 15, 0⟩
def ADT_SCRUB.addr : Nat := 0x5002C
def ADT_SCRUB.PERIOD : Fld := ⟨ADT_SCRUB.addr, 31, 24⟩
def ADT_SCRUB.POS : Fld := ⟨ADT_SCRUB.addr, 16, 0⟩

/-! ### Field addresses of the FC registers -/

def FC_CTL.addr (n : Nat) : Nat := 0x100000 + 0x1000 * n
def FC_CTL.SYNC_PER (n : Nat) : Fld := ⟨(FC_CTL.addr n), 31, 30⟩
def FC_CTL.VIOL_CLR (n : Nat) : Fld := ⟨(FC_CTL.addr n), 28, 28⟩
def FC_CTL.IE (n : Nat) : Fld := ⟨(FC_CTL.addr n), 27, 24⟩
def FC_CTL.QWIN (n : Nat) : Fld := ⟨(FC_CTL.addr n), 23, 20⟩
def FC_CTL.QTHR (n : Nat) : Fld := ⟨(FC_CTL.addr n), 19, 14⟩
def FC_CTL.RESEND_TMO (n : Nat) : Fld := ⟨(FC_CTL.addr n), 13, 7⟩
def FC_CTL.MAXREC (n : Nat) : Fld := ⟨(FC_CTL.addr n), 6, 4⟩
def FC_CTL.TMIN (n : Nat) : Fld := ⟨(FC_CTL.addr n), 3, 2⟩
def FC_CTL.LAT_AUTO (n : Nat) : Fld := ⟨(FC_CTL.addr n), 1, 1⟩
def FC_CTL.EN (n : Nat) : Fld := ⟨(FC_CTL.addr n), 0, 0⟩
def FC_STAT.addr (n : Nat) : Nat := 0x100004 + 0x1000 * n
def FC_STAT.CFG_MISMATCH (n : Nat) : Fld := ⟨(FC_STAT.addr n), 31, 31⟩
def FC_STAT.CFG_REJECT (n : Nat) : Fld := ⟨(FC_STAT.addr n), 30, 30⟩
def FC_STAT.CFG_PENDING (n : Nat) : Fld := ⟨(FC_STAT.addr n), 29, 29⟩
def FC_STAT.STATE (n : Nat) : Fld := ⟨(FC_STAT.addr n), 28, 26⟩
def FC_STAT.TCLASS (n : Nat) : Fld := ⟨(FC_STAT.addr n), 25, 24⟩
def FC_STAT.EPOCH (n : Nat) : Fld := ⟨(FC_STAT.addr n), 23, 16⟩
def FC_STAT.FIRST (n : Nat) : Fld := ⟨(FC_STAT.addr n), 15, 11⟩
def FC_STAT.OVF (n : Nat) : Fld := ⟨(FC_STAT.addr n), 10, 10⟩
def FC_STAT.RTR_TRY (n : Nat) : Fld := ⟨(FC_STAT.addr n), 9, 8⟩
def FC_STAT.LAT_DEV (n : Nat) : Fld := ⟨(FC_STAT.addr n), 6, 0⟩
def FC_FAULT.addr (n : Nat) : Nat := 0x100008 + 0x1000 * n
def FC_FAULT.REGPAR (n : Nat) : Fld := ⟨(FC_FAULT.addr n), 17, 17⟩
def FC_FAULT.DOWN (n : Nat) : Fld := ⟨(FC_FAULT.addr n), 16, 16⟩
def FC_FAULT.HELLO_BAD (n : Nat) : Fld := ⟨(FC_FAULT.addr n), 15, 15⟩
def FC_FAULT.PLL (n : Nat) : Fld := ⟨(FC_FAULT.addr n), 14, 14⟩
def FC_FAULT.SYNCLOSS (n : Nat) : Fld := ⟨(FC_FAULT.addr n), 13, 13⟩
def FC_FAULT.RETRAIN (n : Nat) : Fld := ⟨(FC_FAULT.addr n), 12, 12⟩
def FC_FAULT.QUAR (n : Nat) : Fld := ⟨(FC_FAULT.addr n), 11, 11⟩
def FC_FAULT.PARTNER (n : Nat) : Fld := ⟨(FC_FAULT.addr n), 10, 10⟩
def FC_FAULT.SENSE_DROP (n : Nat) : Fld := ⟨(FC_FAULT.addr n), 9, 9⟩
def FC_FAULT.LINKERR (n : Nat) : Fld := ⟨(FC_FAULT.addr n), 8, 8⟩
def FC_FAULT.V_BAD_RECORD (n : Nat) : Fld := ⟨(FC_FAULT.addr n), 7, 7⟩
def FC_FAULT.V_WRONG_DIR (n : Nat) : Fld := ⟨(FC_FAULT.addr n), 6, 6⟩
def FC_FAULT.V_SILENCE (n : Nat) : Fld := ⟨(FC_FAULT.addr n), 5, 5⟩
def FC_FAULT.V_ACK_UNSENT (n : Nat) : Fld := ⟨(FC_FAULT.addr n), 4, 4⟩
def FC_FAULT.V_DUP_OUTSIDE (n : Nat) : Fld := ⟨(FC_FAULT.addr n), 3, 3⟩
def FC_FAULT.V_OVERSIZE (n : Nat) : Fld := ⟨(FC_FAULT.addr n), 2, 2⟩
def FC_FAULT.V_UNKNOWN_TYPE (n : Nat) : Fld := ⟨(FC_FAULT.addr n), 1, 1⟩
def FC_FAULT.V_WRONG_SEQ (n : Nat) : Fld := ⟨(FC_FAULT.addr n), 0, 0⟩
def FC_VIOL.addr (n : Nat) : Nat := 0x10000C + 0x1000 * n
def FC_VIOL.VCNT0 (n : Nat) : Fld := ⟨(FC_VIOL.addr n), 3, 0⟩
def FC_VIOL.VCNT1 (n : Nat) : Fld := ⟨(FC_VIOL.addr n), 7, 4⟩
def FC_VIOL.VCNT2 (n : Nat) : Fld := ⟨(FC_VIOL.addr n), 11, 8⟩
def FC_VIOL.VCNT3 (n : Nat) : Fld := ⟨(FC_VIOL.addr n), 15, 12⟩
def FC_VIOL.VCNT4 (n : Nat) : Fld := ⟨(FC_VIOL.addr n), 19, 16⟩
def FC_VIOL.VCNT5 (n : Nat) : Fld := ⟨(FC_VIOL.addr n), 23, 20⟩
def FC_VIOL.VCNT6 (n : Nat) : Fld := ⟨(FC_VIOL.addr n), 27, 24⟩
def FC_VIOL.VCNT7 (n : Nat) : Fld := ⟨(FC_VIOL.addr n), 31, 28⟩
def FC_LAT.addr (n : Nat) : Nat := 0x100010 + 0x1000 * n
def FC_LAT.SQ_BASIN (n : Nat) : Fld := ⟨(FC_LAT.addr n), 31, 30⟩
def FC_LAT.SQ_QUEUE (n : Nat) : Fld := ⟨(FC_LAT.addr n), 29, 24⟩
def FC_LAT.SQ_EN (n : Nat) : Fld := ⟨(FC_LAT.addr n), 23, 23⟩
def FC_LAT.LAT_FINE (n : Nat) : Fld := ⟨(FC_LAT.addr n), 22, 20⟩
def FC_LAT.LAT_OFFSET (n : Nat) : Fld := ⟨(FC_LAT.addr n), 19, 0⟩
def WEIR_CTL.addr (n : Nat) : Nat := 0x100014 + 0x1000 * n
def WEIR_CTL.LEAD_BASE (n : Nat) : Fld := ⟨(WEIR_CTL.addr n), 31, 8⟩
def WEIR_CTL.KGAIN (n : Nat) : Fld := ⟨(WEIR_CTL.addr n), 7, 4⟩
def WEIR_CTL.LATE (n : Nat) : Fld := ⟨(WEIR_CTL.addr n), 3, 2⟩
def WEIR_CTL.COMMIT (n : Nat) : Fld := ⟨(WEIR_CTL.addr n), 1, 1⟩
def WEIR_CTL.EN (n : Nat) : Fld := ⟨(WEIR_CTL.addr n), 0, 0⟩
def WEIR_STAT.addr (n : Nat) : Nat := 0x100018 + 0x1000 * n
def WEIR_STAT.CFG_MISMATCH (n : Nat) : Fld := ⟨(WEIR_STAT.addr n), 31, 31⟩
def WEIR_STAT.CFG_REJECT (n : Nat) : Fld := ⟨(WEIR_STAT.addr n), 30, 30⟩
def WEIR_STAT.CFG_PENDING (n : Nat) : Fld := ⟨(WEIR_STAT.addr n), 29, 29⟩
def WEIR_STAT.LAST_REFUSE (n : Nat) : Fld := ⟨(WEIR_STAT.addr n), 28, 24⟩
def WEIR_STAT.NEGREV (n : Nat) : Fld := ⟨(WEIR_STAT.addr n), 23, 21⟩
def WEIR_STAT.STATE (n : Nat) : Fld := ⟨(WEIR_STAT.addr n), 20, 18⟩
def WEIR_STAT.FIRST (n : Nat) : Fld := ⟨(WEIR_STAT.addr n), 11, 9⟩
def WEIR_STAT.OVF (n : Nat) : Fld := ⟨(WEIR_STAT.addr n), 8, 8⟩
def WEIR_STAT.REGPAR (n : Nat) : Fld := ⟨(WEIR_STAT.addr n), 4, 4⟩
def WEIR_STAT.STOPLATE (n : Nat) : Fld := ⟨(WEIR_STAT.addr n), 3, 3⟩
def WEIR_STAT.ADTERR (n : Nat) : Fld := ⟨(WEIR_STAT.addr n), 2, 2⟩
def WEIR_STAT.RPTSTALL (n : Nat) : Fld := ⟨(WEIR_STAT.addr n), 1, 1⟩
def WEIR_STAT.TRIMSAT (n : Nat) : Fld := ⟨(WEIR_STAT.addr n), 0, 0⟩
def WEIR_SLACK.addr (n : Nat) : Nat := 0x10001C + 0x1000 * n
def WEIR_SLACK.ARMED (n : Nat) : Fld := ⟨(WEIR_SLACK.addr n), 31, 20⟩
def WEIR_SLACK.SLACK (n : Nat) : Fld := ⟨(WEIR_SLACK.addr n), 19, 0⟩
def WEIR_MISS.addr (n : Nat) : Nat := 0x100020 + 0x1000 * n
def WEIR_MISS.LATE (n : Nat) : Fld := ⟨(WEIR_MISS.addr n), 31, 16⟩
def WEIR_MISS.FAILED (n : Nat) : Fld := ⟨(WEIR_MISS.addr n), 15, 8⟩
def WEIR_MISS.REFUSED (n : Nat) : Fld := ⟨(WEIR_MISS.addr n), 7, 0⟩

/-! ### Field addresses of the POND registers -/

def POND_CTL.addr (n : Nat) : Nat := 0x400000 + 0x10000 * n
def POND_CTL.TASK_MAX (n : Nat) : Fld := ⟨(POND_CTL.addr n), 31, 16⟩
def POND_CTL.IE (n : Nat) : Fld := ⟨(POND_CTL.addr n), 7, 4⟩
def POND_CTL.SPARE_EN (n : Nat) : Fld := ⟨(POND_CTL.addr n), 1, 1⟩
def POND_CTL.EN (n : Nat) : Fld := ⟨(POND_CTL.addr n), 0, 0⟩
def POND_STAT.addr (n : Nat) : Nat := 0x400004 + 0x10000 * n
def POND_STAT.CFG_MISMATCH (n : Nat) : Fld := ⟨(POND_STAT.addr n), 31, 31⟩
def POND_STAT.CFG_REJECT (n : Nat) : Fld := ⟨(POND_STAT.addr n), 30, 30⟩
def POND_STAT.CFG_PENDING (n : Nat) : Fld := ⟨(POND_STAT.addr n), 29, 29⟩
def POND_STAT.STALE_RISK (n : Nat) : Fld := ⟨(POND_STAT.addr n), 28, 28⟩
def POND_STAT.LOST_STORES (n : Nat) : Fld := ⟨(POND_STAT.addr n), 27, 27⟩
def POND_STAT.ROLE (n : Nat) : Fld := ⟨(POND_STAT.addr n), 26, 25⟩
def POND_STAT.LOGICAL (n : Nat) : Fld := ⟨(POND_STAT.addr n), 22, 17⟩
def POND_STAT.RETIRED (n : Nat) : Fld := ⟨(POND_STAT.addr n), 16, 0⟩
def POND_FAULT.addr (n : Nat) : Nat := 0x400008 + 0x10000 * n
def POND_FAULT.REGPAR (n : Nat) : Fld := ⟨(POND_FAULT.addr n), 15, 15⟩
def POND_FAULT.MARCH_UNREP (n : Nat) : Fld := ⟨(POND_FAULT.addr n), 14, 14⟩
def POND_FAULT.POND_LOST (n : Nat) : Fld := ⟨(POND_FAULT.addr n), 13, 13⟩
def POND_FAULT.STRIDER_RETIRED (n : Nat) : Fld := ⟨(POND_FAULT.addr n), 12, 12⟩
def POND_FAULT.RETRY (n : Nat) : Fld := ⟨(POND_FAULT.addr n), 11, 11⟩
def POND_FAULT.CS_UE (n : Nat) : Fld := ⟨(POND_FAULT.addr n), 10, 10⟩
def POND_FAULT.CS_CE (n : Nat) : Fld := ⟨(POND_FAULT.addr n), 9, 9⟩
def POND_FAULT.PM_REGION (n : Nat) : Fld := ⟨(POND_FAULT.addr n), 8, 8⟩
def POND_FAULT.PM_UE (n : Nat) : Fld := ⟨(POND_FAULT.addr n), 7, 7⟩
def POND_FAULT.PM_CE (n : Nat) : Fld := ⟨(POND_FAULT.addr n), 6, 6⟩
def POND_FAULT.WAY_MIN (n : Nat) : Fld := ⟨(POND_FAULT.addr n), 5, 5⟩
def POND_FAULT.WAY_OFF (n : Nat) : Fld := ⟨(POND_FAULT.addr n), 4, 4⟩
def POND_FAULT.L2_TAG_UE (n : Nat) : Fld := ⟨(POND_FAULT.addr n), 3, 3⟩
def POND_FAULT.L2_UE (n : Nat) : Fld := ⟨(POND_FAULT.addr n), 2, 2⟩
def POND_FAULT.L2_CE (n : Nat) : Fld := ⟨(POND_FAULT.addr n), 1, 1⟩
def POND_FAULT.L1_PAR (n : Nat) : Fld := ⟨(POND_FAULT.addr n), 0, 0⟩
def POND_FIRST_ADDR.addr (n : Nat) : Nat := 0x40000C + 0x10000 * n
def POND_FIRST_ADDR.ADDR_LO (n : Nat) : Fld := ⟨(POND_FIRST_ADDR.addr n), 31, 0⟩
def POND_FIRST_INFO.addr (n : Nat) : Nat := 0x400010 + 0x10000 * n
def POND_FIRST_INFO.VALID (n : Nat) : Fld := ⟨(POND_FIRST_INFO.addr n), 31, 31⟩
def POND_FIRST_INFO.OVF (n : Nat) : Fld := ⟨(POND_FIRST_INFO.addr n), 30, 30⟩
def POND_FIRST_INFO.SRC (n : Nat) : Fld := ⟨(POND_FIRST_INFO.addr n), 29, 25⟩
def POND_FIRST_INFO.MASTER (n : Nat) : Fld := ⟨(POND_FIRST_INFO.addr n), 24, 20⟩
def POND_FIRST_INFO.ATYPE (n : Nat) : Fld := ⟨(POND_FIRST_INFO.addr n), 19, 17⟩
def POND_FIRST_INFO.SPACE (n : Nat) : Fld := ⟨(POND_FIRST_INFO.addr n), 16, 16⟩
def POND_FIRST_INFO.ADDR_HI (n : Nat) : Fld := ⟨(POND_FIRST_INFO.addr n), 8, 0⟩
def POND_FIRST_TIME_LO.addr (n : Nat) : Nat := 0x400014 + 0x10000 * n
def POND_FIRST_TIME_LO.DT (n : Nat) : Fld := ⟨(POND_FIRST_TIME_LO.addr n), 31, 0⟩
def POND_FIRST_TIME_HI.addr (n : Nat) : Nat := 0x400018 + 0x10000 * n
def POND_FIRST_TIME_HI.DT (n : Nat) : Fld := ⟨(POND_FIRST_TIME_HI.addr n), 31, 0⟩
def POND_ACK.addr (n : Nat) : Nat := 0x40001C + 0x10000 * n
def POND_ACK.REARM (n : Nat) : Fld := ⟨(POND_ACK.addr n), 31, 31⟩
def POND_ACK.LOST_CNT (n : Nat) : Fld := ⟨(POND_ACK.addr n), 23, 16⟩
def L2_CTL.addr (n : Nat) : Nat := 0x400020 + 0x10000 * n
def L2_CTL.WTHR (n : Nat) : Fld := ⟨(L2_CTL.addr n), 7, 4⟩
def L2_CTL.AWD_EN (n : Nat) : Fld := ⟨(L2_CTL.addr n), 1, 1⟩
def L2_CTL.EN (n : Nat) : Fld := ⟨(L2_CTL.addr n), 0, 0⟩
def L2_WAYOFF.addr (n : Nat) : Nat := 0x400024 + 0x10000 * n
def L2_WAYOFF.AUTO (n : Nat) : Fld := ⟨(L2_WAYOFF.addr n), 31, 16⟩
def L2_WAYOFF.OFF (n : Nat) : Fld := ⟨(L2_WAYOFF.addr n), 15, 0⟩
def L2_MAINT.addr (n : Nat) : Nat := 0x400028 + 0x10000 * n
def L2_MAINT.BUSY (n : Nat) : Fld := ⟨(L2_MAINT.addr n), 31, 31⟩
def L2_MAINT.DONE (n : Nat) : Fld := ⟨(L2_MAINT.addr n), 30, 30⟩
def L2_MAINT.ERR (n : Nat) : Fld := ⟨(L2_MAINT.addr n), 29, 29⟩
def L2_MAINT.AHI (n : Nat) : Fld := ⟨(L2_MAINT.addr n), 10, 8⟩
def L2_MAINT.OP (n : Nat) : Fld := ⟨(L2_MAINT.addr n), 3, 0⟩
def L2_MAINT_ADDR.addr (n : Nat) : Nat := 0x40002C + 0x10000 * n
def L2_MAINT_ADDR.ADDR (n : Nat) : Fld := ⟨(L2_MAINT_ADDR.addr n), 31, 0⟩
def PM_CTL.addr (n : Nat) : Nat := 0x400030 + 0x10000 * n
def PM_CTL.CNT_EN (n : Nat) : Fld := ⟨(PM_CTL.addr n), 2, 2⟩
def PM_CTL.HWIN_EN (n : Nat) : Fld := ⟨(PM_CTL.addr n), 1, 1⟩
def PM_CTL.EN (n : Nat) : Fld := ⟨(PM_CTL.addr n), 0, 0⟩
def PM_REGION_SEL.addr (n : Nat) : Nat := 0x400034 + 0x10000 * n
def PM_REGION_SEL.COMMIT (n : Nat) : Fld := ⟨(PM_REGION_SEL.addr n), 15, 15⟩
def PM_REGION_SEL.MASTER (n : Nat) : Fld := ⟨(PM_REGION_SEL.addr n), 12, 8⟩
def PM_REGION_SEL.DESC (n : Nat) : Fld := ⟨(PM_REGION_SEL.addr n), 2, 0⟩
def PM_REGION_BASE.addr (n : Nat) : Nat := 0x400038 + 0x10000 * n
def PM_REGION_BASE.BASE (n : Nat) : Fld := ⟨(PM_REGION_BASE.addr n), 18, 6⟩
def PM_REGION_BASE.PERM (n : Nat) : Fld := ⟨(PM_REGION_BASE.addr n), 3, 0⟩
def PM_REGION_LIMIT.addr (n : Nat) : Nat := 0x40003C + 0x10000 * n
def PM_REGION_LIMIT.LIMIT (n : Nat) : Fld := ⟨(PM_REGION_LIMIT.addr n), 18, 6⟩
def PM_CONFLICT_SEL.addr (n : Nat) : Nat := 0x400040 + 0x10000 * n
def PM_CONFLICT_SEL.CLR (n : Nat) : Fld := ⟨(PM_CONFLICT_SEL.addr n), 31, 31⟩
def PM_CONFLICT_SEL.MASTER (n : Nat) : Fld := ⟨(PM_CONFLICT_SEL.addr n), 4, 0⟩
def PM_CONFLICT_CNT.addr (n : Nat) : Nat := 0x400044 + 0x10000 * n
def PM_CONFLICT_CNT.CNT (n : Nat) : Fld := ⟨(PM_CONFLICT_CNT.addr n), 31, 0⟩
def MARCH_CTL.addr (n : Nat) : Nat := 0x400048 + 0x10000 * n
def MARCH_CTL.VSEL (n : Nat) : Fld := ⟨(MARCH_CTL.addr n), 24, 21⟩
def MARCH_CTL.BANKS (n : Nat) : Fld := ⟨(MARCH_CTL.addr n), 20, 5⟩
def MARCH_CTL.REPAIR (n : Nat) : Fld := ⟨(MARCH_CTL.addr n), 4, 4⟩
def MARCH_CTL.PRESERVE (n : Nat) : Fld := ⟨(MARCH_CTL.addr n), 3, 3⟩
def MARCH_CTL.ALG (n : Nat) : Fld := ⟨(MARCH_CTL.addr n), 2, 1⟩
def MARCH_CTL.START (n : Nat) : Fld := ⟨(MARCH_CTL.addr n), 0, 0⟩
def MARCH_STAT.addr (n : Nat) : Nat := 0x40004C + 0x10000 * n
def MARCH_STAT.BUSY (n : Nat) : Fld := ⟨(MARCH_STAT.addr n), 31, 31⟩
def MARCH_STAT.DONE (n : Nat) : Fld := ⟨(MARCH_STAT.addr n), 30, 30⟩
def MARCH_STAT.UNREP (n : Nat) : Fld := ⟨(MARCH_STAT.addr n), 29, 29⟩
def MARCH_STAT.SPUSED (n : Nat) : Fld := ⟨(MARCH_STAT.addr n), 28, 27⟩
def MARCH_STAT.ROW (n : Nat) : Fld := ⟨(MARCH_STAT.addr n), 26, 20⟩
def MARCH_STAT.FAILBANK (n : Nat) : Fld := ⟨(MARCH_STAT.addr n), 15, 0⟩

/-! ### Field addresses of the BASIN registers -/

def BASIN_CTL.addr (n : Nat) : Nat := 0x900000 + 0x10000 * n
def BASIN_CTL.IE (n : Nat) : Fld := ⟨(BASIN_CTL.addr n), 7, 4⟩
def BASIN_CTL.EN (n : Nat) : Fld := ⟨(BASIN_CTL.addr n), 0, 0⟩
def BASIN_STAT.addr (n : Nat) : Nat := 0x900004 + 0x10000 * n
def BASIN_STAT.CFG_MISMATCH (n : Nat) : Fld := ⟨(BASIN_STAT.addr n), 31, 31⟩
def BASIN_STAT.CFG_REJECT (n : Nat) : Fld := ⟨(BASIN_STAT.addr n), 30, 30⟩
def BASIN_STAT.CFG_PENDING (n : Nat) : Fld := ⟨(BASIN_STAT.addr n), 29, 29⟩
def BASIN_STAT.STATE (n : Nat) : Fld := ⟨(BASIN_STAT.addr n), 28, 27⟩
def BASIN_STAT.PONDS (n : Nat) : Fld := ⟨(BASIN_STAT.addr n), 26, 22⟩
def BASIN_FAULT.addr (n : Nat) : Nat := 0x900008 + 0x10000 * n
def BASIN_FAULT.REGPAR (n : Nat) : Fld := ⟨(BASIN_FAULT.addr n), 8, 8⟩
def BASIN_FAULT.RING_DOWN (n : Nat) : Fld := ⟨(BASIN_FAULT.addr n), 7, 7⟩
def BASIN_FAULT.HOME_DEAD (n : Nat) : Fld := ⟨(BASIN_FAULT.addr n), 6, 6⟩
def BASIN_FAULT.PROTO (n : Nat) : Fld := ⟨(BASIN_FAULT.addr n), 5, 5⟩
def BASIN_FAULT.LINES_LOST (n : Nat) : Fld := ⟨(BASIN_FAULT.addr n), 4, 4⟩
def BASIN_FAULT.SF_UE (n : Nat) : Fld := ⟨(BASIN_FAULT.addr n), 3, 3⟩
def BASIN_FAULT.JRN_ERR (n : Nat) : Fld := ⟨(BASIN_FAULT.addr n), 2, 2⟩
def BASIN_FAULT.RING_CE (n : Nat) : Fld := ⟨(BASIN_FAULT.addr n), 1, 1⟩
def BASIN_FAULT.SF_CE (n : Nat) : Fld := ⟨(BASIN_FAULT.addr n), 0, 0⟩
def BASIN_FAULT_EN.addr (n : Nat) : Nat := 0x90000C + 0x10000 * n
def BASIN_FAULT_EN.REGPAR (n : Nat) : Fld := ⟨(BASIN_FAULT_EN.addr n), 8, 8⟩
def BASIN_FAULT_EN.RING_DOWN (n : Nat) : Fld := ⟨(BASIN_FAULT_EN.addr n), 7, 7⟩
def BASIN_FAULT_EN.HOME_DEAD (n : Nat) : Fld := ⟨(BASIN_FAULT_EN.addr n), 6, 6⟩
def BASIN_FAULT_EN.PROTO (n : Nat) : Fld := ⟨(BASIN_FAULT_EN.addr n), 5, 5⟩
def BASIN_FAULT_EN.LINES_LOST (n : Nat) : Fld := ⟨(BASIN_FAULT_EN.addr n), 4, 4⟩
def BASIN_FAULT_EN.SF_UE (n : Nat) : Fld := ⟨(BASIN_FAULT_EN.addr n), 3, 3⟩
def BASIN_FAULT_EN.JRN_ERR (n : Nat) : Fld := ⟨(BASIN_FAULT_EN.addr n), 2, 2⟩
def BASIN_FAULT_EN.RING_CE (n : Nat) : Fld := ⟨(BASIN_FAULT_EN.addr n), 1, 1⟩
def BASIN_FAULT_EN.SF_CE (n : Nat) : Fld := ⟨(BASIN_FAULT_EN.addr n), 0, 0⟩
def BASIN_FIRST_ADDR.addr (n : Nat) : Nat := 0x900010 + 0x10000 * n
def BASIN_FIRST_ADDR.ADDR_LO (n : Nat) : Fld := ⟨(BASIN_FIRST_ADDR.addr n), 31, 0⟩
def BASIN_FIRST_INFO.addr (n : Nat) : Nat := 0x900014 + 0x10000 * n
def BASIN_FIRST_INFO.VALID (n : Nat) : Fld := ⟨(BASIN_FIRST_INFO.addr n), 31, 31⟩
def BASIN_FIRST_INFO.OVF (n : Nat) : Fld := ⟨(BASIN_FIRST_INFO.addr n), 30, 30⟩
def BASIN_FIRST_INFO.SRC (n : Nat) : Fld := ⟨(BASIN_FIRST_INFO.addr n), 29, 25⟩
def BASIN_FIRST_INFO.STOP (n : Nat) : Fld := ⟨(BASIN_FIRST_INFO.addr n), 24, 20⟩
def BASIN_FIRST_INFO.MSG (n : Nat) : Fld := ⟨(BASIN_FIRST_INFO.addr n), 19, 15⟩
def BASIN_FIRST_INFO.ADDR_HI (n : Nat) : Fld := ⟨(BASIN_FIRST_INFO.addr n), 8, 0⟩
def BASIN_FIRST_TIME_LO.addr (n : Nat) : Nat := 0x900018 + 0x10000 * n
def BASIN_FIRST_TIME_LO.DT (n : Nat) : Fld := ⟨(BASIN_FIRST_TIME_LO.addr n), 31, 0⟩
def BASIN_FIRST_TIME_HI.addr (n : Nat) : Nat := 0x90001C + 0x10000 * n
def BASIN_FIRST_TIME_HI.DT (n : Nat) : Fld := ⟨(BASIN_FIRST_TIME_HI.addr n), 31, 0⟩
def BASIN_ACK.addr (n : Nat) : Nat := 0x900020 + 0x10000 * n
def BASIN_ACK.REARM (n : Nat) : Fld := ⟨(BASIN_ACK.addr n), 31, 31⟩
def SF_CTL.addr (n : Nat) : Nat := 0x900024 + 0x10000 * n
def SF_CTL.RSV_EN (n : Nat) : Fld := ⟨(SF_CTL.addr n), 1, 1⟩
def SF_CTL.SCRUB_EN (n : Nat) : Fld := ⟨(SF_CTL.addr n), 0, 0⟩
def SF_STAT.addr (n : Nat) : Nat := 0x900028 + 0x10000 * n
def SF_STAT.USED (n : Nat) : Fld := ⟨(SF_STAT.addr n), 31, 16⟩
def SF_STAT.BUSY (n : Nat) : Fld := ⟨(SF_STAT.addr n), 15, 8⟩
def SF_STAT.RSV_USED (n : Nat) : Fld := ⟨(SF_STAT.addr n), 7, 5⟩
def SF_NACK_CNT.addr (n : Nat) : Nat := 0x90002C + 0x10000 * n
def SF_NACK_CNT.NACKS (n : Nat) : Fld := ⟨(SF_NACK_CNT.addr n), 31, 0⟩
def HOME_TRK.addr (n : Nat) : Nat := 0x900030 + 0x10000 * n
def HOME_TRK.OPEN (n : Nat) : Fld := ⟨(HOME_TRK.addr n), 31, 24⟩
def HOME_TRK.TICKETS (n : Nat) : Fld := ⟨(HOME_TRK.addr n), 23, 16⟩
def HOME_TRK.MAX_NACK (n : Nat) : Fld := ⟨(HOME_TRK.addr n), 15, 8⟩
def RING_STAT.addr (n : Nat) : Nat := 0x900034 + 0x10000 * n
def RING_STAT.RESENDS (n : Nat) : Fld := ⟨(RING_STAT.addr n), 31, 16⟩
def DSP_CTL.addr (n : Nat) : Nat := 0x900038 + 0x10000 * n
def DSP_CTL.PLACE (n : Nat) : Fld := ⟨(DSP_CTL.addr n), 2, 1⟩
def DSP_CTL.EN (n : Nat) : Fld := ⟨(DSP_CTL.addr n), 0, 0⟩
def DSP_QSEL.addr (n : Nat) : Nat := 0x90003C + 0x10000 * n
def DSP_QSEL.QUEUE (n : Nat) : Fld := ⟨(DSP_QSEL.addr n), 5, 0⟩
def DSP_QCFG.addr (n : Nat) : Nat := 0x900040 + 0x10000 * n
def DSP_QCFG.QEN (n : Nat) : Fld := ⟨(DSP_QCFG.addr n), 31, 31⟩
def DSP_QCFG.PRIO (n : Nat) : Fld := ⟨(DSP_QCFG.addr n), 30, 29⟩
def DSP_QCFG.SIZE (n : Nat) : Fld := ⟨(DSP_QCFG.addr n), 28, 26⟩
def DSP_QCFG.MODE (n : Nat) : Fld := ⟨(DSP_QCFG.addr n), 25, 25⟩
def DSP_QSTAT.addr (n : Nat) : Nat := 0x900044 + 0x10000 * n
def DSP_QSTAT.COUNT (n : Nat) : Fld := ⟨(DSP_QSTAT.addr n), 31, 20⟩
def DSP_QSTAT.REFUSED (n : Nat) : Fld := ⟨(DSP_QSTAT.addr n), 15, 0⟩
def DSP_JRN.addr (n : Nat) : Nat := 0x900048 + 0x10000 * n
def DSP_JRN.ADMIT_OPEN (n : Nat) : Fld := ⟨(DSP_JRN.addr n), 31, 31⟩
def DSP_JRN.FREE_K (n : Nat) : Fld := ⟨(DSP_JRN.addr n), 15, 0⟩
def DSP_CNT.addr (n : Nat) : Nat := 0x90004C + 0x10000 * n
def DSP_CNT.DISPATCHED (n : Nat) : Fld := ⟨(DSP_CNT.addr n), 31, 0⟩

/-! ### Field addresses of the MC registers -/

def MC_CTL.addr (n : Nat) : Nat := 0xA00000 + 0x10000 * n
def MC_CTL.IE (n : Nat) : Fld := ⟨(MC_CTL.addr n), 7, 4⟩
def MC_CTL.AUTO_SPARE (n : Nat) : Fld := ⟨(MC_CTL.addr n), 2, 2⟩
def MC_CTL.SCRUB_EN (n : Nat) : Fld := ⟨(MC_CTL.addr n), 1, 1⟩
def MC_CTL.EN (n : Nat) : Fld := ⟨(MC_CTL.addr n), 0, 0⟩
def MC_STAT.addr (n : Nat) : Nat := 0xA00004 + 0x10000 * n
def MC_STAT.CFG_MISMATCH (n : Nat) : Fld := ⟨(MC_STAT.addr n), 31, 31⟩
def MC_STAT.CFG_REJECT (n : Nat) : Fld := ⟨(MC_STAT.addr n), 30, 30⟩
def MC_STAT.CFG_PENDING (n : Nat) : Fld := ⟨(MC_STAT.addr n), 29, 29⟩
def MC_STAT.STATE (n : Nat) : Fld := ⟨(MC_STAT.addr n), 28, 26⟩
def MC_FAULT.addr (n : Nat) : Nat := 0xA00008 + 0x10000 * n
def MC_FAULT.REGPAR (n : Nat) : Fld := ⟨(MC_FAULT.addr n), 11, 11⟩
def MC_FAULT.CH_DOWN (n : Nat) : Fld := ⟨(MC_FAULT.addr n), 10, 10⟩
def MC_FAULT.CMD_ERR (n : Nat) : Fld := ⟨(MC_FAULT.addr n), 9, 9⟩
def MC_FAULT.RETRAIN_FAIL (n : Nat) : Fld := ⟨(MC_FAULT.addr n), 8, 8⟩
def MC_FAULT.VMAP_UE (n : Nat) : Fld := ⟨(MC_FAULT.addr n), 7, 7⟩
def MC_FAULT.UE (n : Nat) : Fld := ⟨(MC_FAULT.addr n), 6, 6⟩
def MC_FAULT.MIGRATED (n : Nat) : Fld := ⟨(MC_FAULT.addr n), 5, 5⟩
def MC_FAULT.NOSPARE (n : Nat) : Fld := ⟨(MC_FAULT.addr n), 4, 4⟩
def MC_FAULT.NOREGION (n : Nat) : Fld := ⟨(MC_FAULT.addr n), 3, 3⟩
def MC_FAULT.DRIFT (n : Nat) : Fld := ⟨(MC_FAULT.addr n), 2, 2⟩
def MC_FAULT.MIRROR_FIX (n : Nat) : Fld := ⟨(MC_FAULT.addr n), 1, 1⟩
def MC_FAULT.CE (n : Nat) : Fld := ⟨(MC_FAULT.addr n), 0, 0⟩
def MC_FAULT_EN.addr (n : Nat) : Nat := 0xA0000C + 0x10000 * n
def MC_FAULT_EN.REGPAR (n : Nat) : Fld := ⟨(MC_FAULT_EN.addr n), 11, 11⟩
def MC_FAULT_EN.CH_DOWN (n : Nat) : Fld := ⟨(MC_FAULT_EN.addr n), 10, 10⟩
def MC_FAULT_EN.CMD_ERR (n : Nat) : Fld := ⟨(MC_FAULT_EN.addr n), 9, 9⟩
def MC_FAULT_EN.RETRAIN_FAIL (n : Nat) : Fld := ⟨(MC_FAULT_EN.addr n), 8, 8⟩
def MC_FAULT_EN.VMAP_UE (n : Nat) : Fld := ⟨(MC_FAULT_EN.addr n), 7, 7⟩
def MC_FAULT_EN.UE (n : Nat) : Fld := ⟨(MC_FAULT_EN.addr n), 6, 6⟩
def MC_FAULT_EN.MIGRATED (n : Nat) : Fld := ⟨(MC_FAULT_EN.addr n), 5, 5⟩
def MC_FAULT_EN.NOSPARE (n : Nat) : Fld := ⟨(MC_FAULT_EN.addr n), 4, 4⟩
def MC_FAULT_EN.NOREGION (n : Nat) : Fld := ⟨(MC_FAULT_EN.addr n), 3, 3⟩
def MC_FAULT_EN.DRIFT (n : Nat) : Fld := ⟨(MC_FAULT_EN.addr n), 2, 2⟩
def MC_FAULT_EN.MIRROR_FIX (n : Nat) : Fld := ⟨(MC_FAULT_EN.addr n), 1, 1⟩
def MC_FAULT_EN.CE (n : Nat) : Fld := ⟨(MC_FAULT_EN.addr n), 0, 0⟩
def MC_FIRST_ADDR.addr (n : Nat) : Nat := 0xA00010 + 0x10000 * n
def MC_FIRST_ADDR.ADDR_LO (n : Nat) : Fld := ⟨(MC_FIRST_ADDR.addr n), 31, 0⟩
def MC_FIRST_INFO.addr (n : Nat) : Nat := 0xA00014 + 0x10000 * n
def MC_FIRST_INFO.VALID (n : Nat) : Fld := ⟨(MC_FIRST_INFO.addr n), 31, 31⟩
def MC_FIRST_INFO.OVF (n : Nat) : Fld := ⟨(MC_FIRST_INFO.addr n), 30, 30⟩
def MC_FIRST_INFO.SRC (n : Nat) : Fld := ⟨(MC_FIRST_INFO.addr n), 29, 25⟩
def MC_FIRST_INFO.MASTER (n : Nat) : Fld := ⟨(MC_FIRST_INFO.addr n), 24, 20⟩
def MC_FIRST_INFO.ATYPE (n : Nat) : Fld := ⟨(MC_FIRST_INFO.addr n), 19, 17⟩
def MC_FIRST_INFO.RANK (n : Nat) : Fld := ⟨(MC_FIRST_INFO.addr n), 16, 15⟩
def MC_FIRST_TIME_LO.addr (n : Nat) : Nat := 0xA00018 + 0x10000 * n
def MC_FIRST_TIME_LO.DT (n : Nat) : Fld := ⟨(MC_FIRST_TIME_LO.addr n), 31, 0⟩
def MC_FIRST_TIME_HI.addr (n : Nat) : Nat := 0xA0001C + 0x10000 * n
def MC_FIRST_TIME_HI.DT (n : Nat) : Fld := ⟨(MC_FIRST_TIME_HI.addr n), 31, 0⟩
def MC_ACK.addr (n : Nat) : Nat := 0xA00020 + 0x10000 * n
def MC_ACK.REARM (n : Nat) : Fld := ⟨(MC_ACK.addr n), 31, 31⟩
def MC_CFG.addr (n : Nat) : Nat := 0xA00024 + 0x10000 * n
def MC_CFG.DENS (n : Nat) : Fld := ⟨(MC_CFG.addr n), 9, 8⟩
def MC_CFG.WIDTH (n : Nat) : Fld := ⟨(MC_CFG.addr n), 7, 6⟩
def MC_CFG.DIMMS (n : Nat) : Fld := ⟨(MC_CFG.addr n), 5, 4⟩
def MC_CFG.SPEED (n : Nat) : Fld := ⟨(MC_CFG.addr n), 2, 0⟩
def MC_RANK.addr (n : Nat) : Nat := 0xA00028 + 0x10000 * n
def MC_RANK.TRAIN_FAIL (n : Nat) : Fld := ⟨(MC_RANK.addr n), 19, 16⟩
def MC_RANK.RETIRED (n : Nat) : Fld := ⟨(MC_RANK.addr n), 15, 12⟩
def MC_RANK.DEGRADED (n : Nat) : Fld := ⟨(MC_RANK.addr n), 11, 8⟩
def MC_RANK.SPARE (n : Nat) : Fld := ⟨(MC_RANK.addr n), 7, 4⟩
def MC_RANK.PRESENT (n : Nat) : Fld := ⟨(MC_RANK.addr n), 3, 0⟩
def MC_TRAIN.addr (n : Nat) : Nat := 0xA0002C + 0x10000 * n
def MC_TRAIN.MIN_EYE (n : Nat) : Fld := ⟨(MC_TRAIN.addr n), 15, 8⟩
def MC_TRAIN.FAIL (n : Nat) : Fld := ⟨(MC_TRAIN.addr n), 7, 7⟩
def MC_TRAIN.BUSY (n : Nat) : Fld := ⟨(MC_TRAIN.addr n), 6, 6⟩
def MC_TRAIN.RANK (n : Nat) : Fld := ⟨(MC_TRAIN.addr n), 5, 4⟩
def MC_TRAIN.START (n : Nat) : Fld := ⟨(MC_TRAIN.addr n), 0, 0⟩
def MC_EYE.addr (n : Nat) : Nat := 0xA00030 + 0x10000 * n
def MC_EYE.WR_W (n : Nat) : Fld := ⟨(MC_EYE.addr n), 23, 16⟩
def MC_EYE.RD_W (n : Nat) : Fld := ⟨(MC_EYE.addr n), 15, 8⟩
def MC_EYE.LANE (n : Nat) : Fld := ⟨(MC_EYE.addr n), 5, 0⟩
def MC_TEMP.addr (n : Nat) : Nat := 0xA00034 + 0x10000 * n
def MC_TEMP.DRIFT_THR (n : Nat) : Fld := ⟨(MC_TEMP.addr n), 23, 16⟩
def MC_TEMP.CUR_T (n : Nat) : Fld := ⟨(MC_TEMP.addr n), 15, 8⟩
def MC_TEMP.TRAIN_T (n : Nat) : Fld := ⟨(MC_TEMP.addr n), 7, 0⟩
def MC_SCRUB.addr (n : Nat) : Nat := 0xA00038 + 0x10000 * n
def MC_SCRUB.PERIOD (n : Nat) : Fld := ⟨(MC_SCRUB.addr n), 7, 0⟩
def MC_SCRUB_POS.addr (n : Nat) : Nat := 0xA0003C + 0x10000 * n
def MC_SCRUB_POS.PASSES (n : Nat) : Fld := ⟨(MC_SCRUB_POS.addr n), 31, 24⟩
def MC_SCRUB_POS.POS (n : Nat) : Fld := ⟨(MC_SCRUB_POS.addr n), 21, 0⟩
def MC_ECC.addr (n : Nat) : Nat := 0xA00040 + 0x10000 * n
def MC_ECC.CE_CNT (n : Nat) : Fld := ⟨(MC_ECC.addr n), 31, 16⟩
def MC_ECC.UE_CNT (n : Nat) : Fld := ⟨(MC_ECC.addr n), 15, 0⟩
def MC_SPARE.addr (n : Nat) : Nat := 0xA00044 + 0x10000 * n
def MC_SPARE.COMMIT (n : Nat) : Fld := ⟨(MC_SPARE.addr n), 8, 8⟩
def MC_SPARE.TGT (n : Nat) : Fld := ⟨(MC_SPARE.addr n), 5, 4⟩
def MC_SPARE.SRC (n : Nat) : Fld := ⟨(MC_SPARE.addr n), 1, 0⟩
def MC_MIG.addr (n : Nat) : Nat := 0xA00048 + 0x10000 * n
def MC_MIG.BUSY (n : Nat) : Fld := ⟨(MC_MIG.addr n), 31, 31⟩
def MC_MIG.DONE (n : Nat) : Fld := ⟨(MC_MIG.addr n), 30, 30⟩
def MC_MIG.RATE (n : Nat) : Fld := ⟨(MC_MIG.addr n), 23, 16⟩
def MC_MIG.POS (n : Nat) : Fld := ⟨(MC_MIG.addr n), 15, 0⟩
def MC_RGN_SEL.addr (n : Nat) : Nat := 0xA0004C + 0x10000 * n
def MC_RGN_SEL.OP (n : Nat) : Fld := ⟨(MC_RGN_SEL.addr n), 31, 29⟩
def MC_RGN_SEL.BUSY (n : Nat) : Fld := ⟨(MC_RGN_SEL.addr n), 28, 28⟩
def MC_RGN_SEL.ERR (n : Nat) : Fld := ⟨(MC_RGN_SEL.addr n), 27, 24⟩
def MC_RGN_SEL.INDEX (n : Nat) : Fld := ⟨(MC_RGN_SEL.addr n), 5, 0⟩
def MC_RGN_BASE.addr (n : Nat) : Nat := 0xA00050 + 0x10000 * n
def MC_RGN_BASE.BASE (n : Nat) : Fld := ⟨(MC_RGN_BASE.addr n), 19, 0⟩
def MC_RGN_LIMIT.addr (n : Nat) : Nat := 0xA00054 + 0x10000 * n
def MC_RGN_LIMIT.LIMIT (n : Nat) : Fld := ⟨(MC_RGN_LIMIT.addr n), 19, 0⟩
def MC_RGN_MAP.addr (n : Nat) : Nat := 0xA00058 + 0x10000 * n
def MC_RGN_MAP.MIR (n : Nat) : Fld := ⟨(MC_RGN_MAP.addr n), 22, 22⟩
def MC_RGN_MAP.ILV (n : Nat) : Fld := ⟨(MC_RGN_MAP.addr n), 21, 20⟩
def MC_RGN_MAP.CH0 (n : Nat) : Fld := ⟨(MC_RGN_MAP.addr n), 19, 17⟩
def MC_RGN_MAP.COFF (n : Nat) : Fld := ⟨(MC_RGN_MAP.addr n), 16, 0⟩
def MC_RGN_ATTR.addr (n : Nat) : Nat := 0xA0005C + 0x10000 * n
def MC_RGN_ATTR.CACHE (n : Nat) : Fld := ⟨(MC_RGN_ATTR.addr n), 6, 6⟩
def MC_RGN_ATTR.OWNER (n : Nat) : Fld := ⟨(MC_RGN_ATTR.addr n), 5, 4⟩
def MC_RGN_ATTR.SHARED (n : Nat) : Fld := ⟨(MC_RGN_ATTR.addr n), 3, 3⟩
def MC_RGN_ATTR.INIT (n : Nat) : Fld := ⟨(MC_RGN_ATTR.addr n), 2, 2⟩
def MC_RGN_ATTR.CODE (n : Nat) : Fld := ⟨(MC_RGN_ATTR.addr n), 1, 1⟩
def MC_RGN_ATTR.VALID (n : Nat) : Fld := ⟨(MC_RGN_ATTR.addr n), 0, 0⟩
def MC_RETRAIN.addr (n : Nat) : Nat := 0xA00060 + 0x10000 * n
def MC_RETRAIN.PERIOD (n : Nat) : Fld := ⟨(MC_RETRAIN.addr n), 15, 0⟩
def MC_VMAP.addr (n : Nat) : Nat := 0xA00064 + 0x10000 * n
def MC_VMAP.INIT_BUSY (n : Nat) : Fld := ⟨(MC_VMAP.addr n), 31, 31⟩
def MC_VMAP.INIT_REGION (n : Nat) : Fld := ⟨(MC_VMAP.addr n), 30, 25⟩
def MC_VMAP.MISSES (n : Nat) : Fld := ⟨(MC_VMAP.addr n), 15, 0⟩

/-! ### Field addresses of the CMP registers -/

def CMP_CTL.addr : Nat := 0xB00000
def CMP_CTL.LANE_EN : Fld := ⟨CMP_CTL.addr, 23, 20⟩
def CMP_CTL.IE : Fld := ⟨CMP_CTL.addr, 19, 16⟩
def CMP_CTL.FBST : Fld := ⟨CMP_CTL.addr, 14, 12⟩
def CMP_CTL.CRC_RETRY : Fld := ⟨CMP_CTL.addr, 1, 1⟩
def CMP_CTL.EN : Fld := ⟨CMP_CTL.addr, 0, 0⟩
def CMP_STAT.addr : Nat := 0xB00004
def CMP_STAT.CFG_MISMATCH : Fld := ⟨CMP_STAT.addr, 31, 31⟩
def CMP_STAT.CFG_REJECT : Fld := ⟨CMP_STAT.addr, 30, 30⟩
def CMP_STAT.CFG_PENDING : Fld := ⟨CMP_STAT.addr, 29, 29⟩
def CMP_STAT.QDEPTH : Fld := ⟨CMP_STAT.addr, 24, 16⟩
def CMP_STAT.BUSY : Fld := ⟨CMP_STAT.addr, 15, 12⟩
def CMP_STAT.FENCED : Fld := ⟨CMP_STAT.addr, 11, 8⟩
def CMP_FAULT.addr : Nat := 0xB00008
def CMP_FAULT.REGPAR : Fld := ⟨CMP_FAULT.addr, 10, 10⟩
def CMP_FAULT.LANE_DOWN : Fld := ⟨CMP_FAULT.addr, 9, 9⟩
def CMP_FAULT.REQ_BAD : Fld := ⟨CMP_FAULT.addr, 8, 8⟩
def CMP_FAULT.CRC : Fld := ⟨CMP_FAULT.addr, 7, 7⟩
def CMP_FAULT.FORMAT : Fld := ⟨CMP_FAULT.addr, 6, 6⟩
def CMP_FAULT.POISON : Fld := ⟨CMP_FAULT.addr, 5, 5⟩
def CMP_FAULT.AUTH : Fld := ⟨CMP_FAULT.addr, 4, 4⟩
def CMP_FAULT.PRESET_BAD : Fld := ⟨CMP_FAULT.addr, 3, 3⟩
def CMP_FAULT.LANE_ERR : Fld := ⟨CMP_FAULT.addr, 2, 2⟩
def CMP_FAULT.VMIS2 : Fld := ⟨CMP_FAULT.addr, 1, 1⟩
def CMP_FAULT.VMIS1 : Fld := ⟨CMP_FAULT.addr, 0, 0⟩
def CMP_FAULT_EN.addr : Nat := 0xB0000C
def CMP_FAULT_EN.REGPAR : Fld := ⟨CMP_FAULT_EN.addr, 10, 10⟩
def CMP_FAULT_EN.LANE_DOWN : Fld := ⟨CMP_FAULT_EN.addr, 9, 9⟩
def CMP_FAULT_EN.REQ_BAD : Fld := ⟨CMP_FAULT_EN.addr, 8, 8⟩
def CMP_FAULT_EN.CRC : Fld := ⟨CMP_FAULT_EN.addr, 7, 7⟩
def CMP_FAULT_EN.FORMAT : Fld := ⟨CMP_FAULT_EN.addr, 6, 6⟩
def CMP_FAULT_EN.POISON : Fld := ⟨CMP_FAULT_EN.addr, 5, 5⟩
def CMP_FAULT_EN.AUTH : Fld := ⟨CMP_FAULT_EN.addr, 4, 4⟩
def CMP_FAULT_EN.PRESET_BAD : Fld := ⟨CMP_FAULT_EN.addr, 3, 3⟩
def CMP_FAULT_EN.LANE_ERR : Fld := ⟨CMP_FAULT_EN.addr, 2, 2⟩
def CMP_FAULT_EN.VMIS2 : Fld := ⟨CMP_FAULT_EN.addr, 1, 1⟩
def CMP_FAULT_EN.VMIS1 : Fld := ⟨CMP_FAULT_EN.addr, 0, 0⟩
def CMP_FIRST.addr : Nat := 0xB00010
def CMP_FIRST.OVF : Fld := ⟨CMP_FIRST.addr, 5, 5⟩
def CMP_FIRST.VALID : Fld := ⟨CMP_FIRST.addr, 4, 4⟩
def CMP_FIRST.SRC : Fld := ⟨CMP_FIRST.addr, 3, 0⟩
def CMP_TBL.addr : Nat := 0xB00014
def CMP_TBL.SEL : Fld := ⟨CMP_TBL.addr, 4, 1⟩
def CMP_TBL.COMMIT : Fld := ⟨CMP_TBL.addr, 0, 0⟩
def CMP_TBL_BASE_LO.addr : Nat := 0xB00018
def CMP_TBL_BASE_LO.BASE : Fld := ⟨CMP_TBL_BASE_LO.addr, 31, 6⟩
def CMP_TBL_BASE_HI.addr : Nat := 0xB0001C
def CMP_TBL_BASE_HI.BASE : Fld := ⟨CMP_TBL_BASE_HI.addr, 31, 0⟩
def CMP_JOB_SRC_LO.addr : Nat := 0xB00020
def CMP_JOB_SRC_LO.SRC : Fld := ⟨CMP_JOB_SRC_LO.addr, 31, 0⟩
def CMP_JOB_SRC_HI.addr : Nat := 0xB00024
def CMP_JOB_SRC_HI.SRC : Fld := ⟨CMP_JOB_SRC_HI.addr, 31, 0⟩
def CMP_JOB_DST_LO.addr : Nat := 0xB00028
def CMP_JOB_DST_LO.DST : Fld := ⟨CMP_JOB_DST_LO.addr, 31, 0⟩
def CMP_JOB_DST_HI.addr : Nat := 0xB0002C
def CMP_JOB_DST_HI.DST : Fld := ⟨CMP_JOB_DST_HI.addr, 31, 0⟩
def CMP_JOB_CFG.addr : Nat := 0xB00030
def CMP_JOB_CFG.TSEL : Fld := ⟨CMP_JOB_CFG.addr, 31, 28⟩
def CMP_JOB_CFG.PAGE : Fld := ⟨CMP_JOB_CFG.addr, 27, 24⟩
def CMP_JOB_CFG.PRED : Fld := ⟨CMP_JOB_CFG.addr, 23, 21⟩
def CMP_JOB_CFG.BITS : Fld := ⟨CMP_JOB_CFG.addr, 20, 19⟩
def CMP_JOB_CFG.LB : Fld := ⟨CMP_JOB_CFG.addr, 12, 0⟩
def CMP_JOB_PAT.addr : Nat := 0xB00034
def CMP_JOB_PAT.PAT_ID : Fld := ⟨CMP_JOB_PAT.addr, 31, 0⟩
def CMP_JOB_TILE.addr : Nat := 0xB00038
def CMP_JOB_TILE.TILE_NO : Fld := ⟨CMP_JOB_TILE.addr, 31, 0⟩
def CMP_JOB_GO.addr : Nat := 0xB0003C
def CMP_JOB_GO.OP : Fld := ⟨CMP_JOB_GO.addr, 1, 0⟩
def CMP_JOB_RES.addr : Nat := 0xB00040
def CMP_JOB_RES.BUSY : Fld := ⟨CMP_JOB_RES.addr, 31, 31⟩
def CMP_JOB_RES.DONE : Fld := ⟨CMP_JOB_RES.addr, 30, 30⟩
def CMP_JOB_RES.BLEN : Fld := ⟨CMP_JOB_RES.addr, 29, 16⟩
def CMP_JOB_RES.REASON : Fld := ⟨CMP_JOB_RES.addr, 15, 8⟩
def CMP_JOB_RES.STATUS : Fld := ⟨CMP_JOB_RES.addr, 7, 0⟩
def CMP_LANE.addr : Nat := 0xB00044
def CMP_LANE.ERRCNT0 : Fld := ⟨CMP_LANE.addr, 7, 2⟩
def CMP_LANE.ERRCNT1 : Fld := ⟨CMP_LANE.addr, 15, 10⟩
def CMP_LANE.ERRCNT2 : Fld := ⟨CMP_LANE.addr, 23, 18⟩
def CMP_LANE.ERRCNT3 : Fld := ⟨CMP_LANE.addr, 31, 26⟩
def CMP_LANE.FENCED0 : Fld := ⟨CMP_LANE.addr, 1, 1⟩
def CMP_LANE.FENCED1 : Fld := ⟨CMP_LANE.addr, 9, 9⟩
def CMP_LANE.FENCED2 : Fld := ⟨CMP_LANE.addr, 17, 17⟩
def CMP_LANE.FENCED3 : Fld := ⟨CMP_LANE.addr, 25, 25⟩
def CMP_LANE.LERR0 : Fld := ⟨CMP_LANE.addr, 0, 0⟩
def CMP_LANE.LERR1 : Fld := ⟨CMP_LANE.addr, 8, 8⟩
def CMP_LANE.LERR2 : Fld := ⟨CMP_LANE.addr, 16, 16⟩
def CMP_LANE.LERR3 : Fld := ⟨CMP_LANE.addr, 24, 24⟩
def CMP_CNT_C_LO.addr : Nat := 0xB00048
def CMP_CNT_C_LO.COMPRESSED : Fld := ⟨CMP_CNT_C_LO.addr, 31, 0⟩
def CMP_CNT_C_HI.addr : Nat := 0xB0004C
def CMP_CNT_C_HI.COMPRESSED : Fld := ⟨CMP_CNT_C_HI.addr, 31, 0⟩
def CMP_CNT_D_LO.addr : Nat := 0xB00050
def CMP_CNT_D_LO.DELIVERED : Fld := ⟨CMP_CNT_D_LO.addr, 31, 0⟩
def CMP_CNT_D_HI.addr : Nat := 0xB00054
def CMP_CNT_D_HI.DELIVERED : Fld := ⟨CMP_CNT_D_HI.addr, 31, 0⟩
def CMP_CNT_RAW.addr : Nat := 0xB00058
def CMP_CNT_RAW.RAW : Fld := ⟨CMP_CNT_RAW.addr, 31, 0⟩
def CMP_CNT_VMIS.addr : Nat := 0xB0005C
def CMP_CNT_VMIS.VMIS : Fld := ⟨CMP_CNT_VMIS.addr, 31, 16⟩
def CMP_CNT_VMIS.DFAIL : Fld := ⟨CMP_CNT_VMIS.addr, 15, 0⟩

/-! ### Field addresses of the SEC registers -/

def SEC_CTL.addr : Nat := 0xB10000
def SEC_CTL.IE : Fld := ⟨SEC_CTL.addr, 7, 4⟩
def SEC_CTL.OTP_LOCK : Fld := ⟨SEC_CTL.addr, 1, 1⟩
def SEC_CTL.EN : Fld := ⟨SEC_CTL.addr, 0, 0⟩
def SEC_STAT.addr : Nat := 0xB10004
def SEC_STAT.CFG_MISMATCH : Fld := ⟨SEC_STAT.addr, 31, 31⟩
def SEC_STAT.CFG_REJECT : Fld := ⟨SEC_STAT.addr, 30, 30⟩
def SEC_STAT.CFG_PENDING : Fld := ⟨SEC_STAT.addr, 29, 29⟩
def SEC_STAT.DBG_OPEN : Fld := ⟨SEC_STAT.addr, 28, 28⟩
def SEC_STAT.SYS_VALID : Fld := ⟨SEC_STAT.addr, 27, 27⟩
def SEC_STAT.OTP_LOCKED : Fld := ⟨SEC_STAT.addr, 26, 26⟩
def SEC_STAT.PG_EN : Fld := ⟨SEC_STAT.addr, 15, 0⟩
def SEC_FAULT.addr : Nat := 0xB10008
def SEC_FAULT.RNG_HEALTH : Fld := ⟨SEC_FAULT.addr, 7, 7⟩
def SEC_FAULT.REGPAR : Fld := ⟨SEC_FAULT.addr, 6, 6⟩
def SEC_FAULT.OTP_UE : Fld := ⟨SEC_FAULT.addr, 5, 5⟩
def SEC_FAULT.STORE_LOST : Fld := ⟨SEC_FAULT.addr, 4, 4⟩
def SEC_FAULT.RNG_DEAD : Fld := ⟨SEC_FAULT.addr, 3, 3⟩
def SEC_FAULT.DP_PARITY : Fld := ⟨SEC_FAULT.addr, 2, 2⟩
def SEC_FAULT.STORE_ERR : Fld := ⟨SEC_FAULT.addr, 1, 1⟩
def SEC_FAULT.OTP_CE : Fld := ⟨SEC_FAULT.addr, 0, 0⟩
def SEC_FAULT_EN.addr : Nat := 0xB1000C
def SEC_FAULT_EN.RNG_HEALTH : Fld := ⟨SEC_FAULT_EN.addr, 7, 7⟩
def SEC_FAULT_EN.REGPAR : Fld := ⟨SEC_FAULT_EN.addr, 6, 6⟩
def SEC_FAULT_EN.OTP_UE : Fld := ⟨SEC_FAULT_EN.addr, 5, 5⟩
def SEC_FAULT_EN.STORE_LOST : Fld := ⟨SEC_FAULT_EN.addr, 4, 4⟩
def SEC_FAULT_EN.RNG_DEAD : Fld := ⟨SEC_FAULT_EN.addr, 3, 3⟩
def SEC_FAULT_EN.DP_PARITY : Fld := ⟨SEC_FAULT_EN.addr, 2, 2⟩
def SEC_FAULT_EN.STORE_ERR : Fld := ⟨SEC_FAULT_EN.addr, 1, 1⟩
def SEC_FAULT_EN.OTP_CE : Fld := ⟨SEC_FAULT_EN.addr, 0, 0⟩
def SEC_FIRST.addr : Nat := 0xB10010
def SEC_FIRST.OVF : Fld := ⟨SEC_FIRST.addr, 5, 5⟩
def SEC_FIRST.VALID : Fld := ⟨SEC_FIRST.addr, 4, 4⟩
def SEC_FIRST.SRC : Fld := ⟨SEC_FIRST.addr, 3, 0⟩
def SEC_KEYLOAD.addr : Nat := 0xB10014
def SEC_KEYLOAD.WORD : Fld := ⟨SEC_KEYLOAD.addr, 31, 0⟩
def SEC_KEYLD_CTL.addr : Nat := 0xB10018
def SEC_KEYLD_CTL.WIDX : Fld := ⟨SEC_KEYLD_CTL.addr, 4, 2⟩
def SEC_KEYLD_CTL.CLEAR : Fld := ⟨SEC_KEYLD_CTL.addr, 1, 1⟩
def SEC_KEYLD_CTL.START : Fld := ⟨SEC_KEYLD_CTL.addr, 0, 0⟩
def SEC_RNG_CTL.addr : Nat := 0xB1001C
def SEC_RNG_CTL.RESTART : Fld := ⟨SEC_RNG_CTL.addr, 1, 1⟩
def SEC_RNG_CTL.EN : Fld := ⟨SEC_RNG_CTL.addr, 0, 0⟩
def SEC_RNG_DATA.addr : Nat := 0xB10020
def SEC_RNG_DATA.DATA : Fld := ⟨SEC_RNG_DATA.addr, 31, 0⟩
def SEC_RNG_STAT.addr : Nat := 0xB10024
def SEC_RNG_STAT.READY : Fld := ⟨SEC_RNG_STAT.addr, 31, 31⟩
def SEC_RNG_STAT.UNDERRUN : Fld := ⟨SEC_RNG_STAT.addr, 30, 30⟩
def SEC_RNG_STAT.RESTARTS : Fld := ⟨SEC_RNG_STAT.addr, 17, 16⟩
def SEC_RNG_STAT.HEALTH_FAIL : Fld := ⟨SEC_RNG_STAT.addr, 15, 0⟩
def SEC_SHA_CTL.addr : Nat := 0xB10028
def SEC_SHA_CTL.LASTB : Fld := ⟨SEC_SHA_CTL.addr, 5, 4⟩
def SEC_SHA_CTL.DONE : Fld := ⟨SEC_SHA_CTL.addr, 3, 3⟩
def SEC_SHA_CTL.BUSY : Fld := ⟨SEC_SHA_CTL.addr, 2, 2⟩
def SEC_SHA_CTL.FINAL : Fld := ⟨SEC_SHA_CTL.addr, 1, 1⟩
def SEC_SHA_CTL.INIT : Fld := ⟨SEC_SHA_CTL.addr, 0, 0⟩
def SEC_SHA_DATA.addr : Nat := 0xB1002C
def SEC_SHA_DATA.DATA : Fld := ⟨SEC_SHA_DATA.addr, 31, 0⟩
def SEC_SHA_DIGEST.addr : Nat := 0xB10030
def SEC_SHA_DIGEST.H : Fld := ⟨SEC_SHA_DIGEST.addr, 31, 0⟩
def SEC_OTP_STAT.addr : Nat := 0xB10034
def SEC_OTP_STAT.SLOT_REV : Fld := ⟨SEC_OTP_STAT.addr, 11, 8⟩
def SEC_OTP_STAT.SLOT_PROG : Fld := ⟨SEC_OTP_STAT.addr, 7, 4⟩
def SEC_OTP_STAT.CE_CNT : Fld := ⟨SEC_OTP_STAT.addr, 3, 0⟩
def SEC_ARB.addr : Nat := 0xB10038
def SEC_ARB.COUNT : Fld := ⟨SEC_ARB.addr, 6, 0⟩
def SEC_SIG_IDX.addr : Nat := 0xB1003C
def SEC_SIG_IDX.KEYGEN : Fld := ⟨SEC_SIG_IDX.addr, 31, 28⟩
def SEC_SIG_IDX.BLOCKS : Fld := ⟨SEC_SIG_IDX.addr, 16, 6⟩

/-! ### Field addresses of the SEC page registers -/

def SEC_PG_CTL.addr (n : Nat) : Nat := 0xB10100 + 0x10 * n
def SEC_PG_CTL.KBASE (n : Nat) : Fld := ⟨(SEC_PG_CTL.addr n), 2, 2⟩
def SEC_PG_CTL.KBITS (n : Nat) : Fld := ⟨(SEC_PG_CTL.addr n), 1, 1⟩
def SEC_PG_CTL.EN (n : Nat) : Fld := ⟨(SEC_PG_CTL.addr n), 0, 0⟩
def SEC_PG_OWN.addr (n : Nat) : Nat := 0xB10104 + 0x10 * n
def SEC_PG_OWN.LOCK (n : Nat) : Fld := ⟨(SEC_PG_OWN.addr n), 31, 31⟩
def SEC_PG_OWN.USE (n : Nat) : Fld := ⟨(SEC_PG_OWN.addr n), 5, 0⟩
def SEC_PG_CTX.addr (n : Nat) : Nat := 0xB10108 + 0x10 * n
def SEC_PG_CTX.CTX (n : Nat) : Fld := ⟨(SEC_PG_CTX.addr n), 31, 0⟩
def SEC_PG_STAT.addr (n : Nat) : Nat := 0xB1010C + 0x10 * n
def SEC_PG_STAT.STATE (n : Nat) : Fld := ⟨(SEC_PG_STAT.addr n), 31, 30⟩
def SEC_PG_STAT.TAGMIS (n : Nat) : Fld := ⟨(SEC_PG_STAT.addr n), 29, 16⟩
def SEC_PG_STAT.DENIED (n : Nat) : Fld := ⟨(SEC_PG_STAT.addr n), 15, 0⟩

/-! ### Field addresses of the HOST registers -/

def HOST_CTL.addr : Nat := 0xC00000
def HOST_CTL.IE : Fld := ⟨HOST_CTL.addr, 7, 4⟩
def HOST_CTL.EP_EN : Fld := ⟨HOST_CTL.addr, 1, 1⟩
def HOST_CTL.EN : Fld := ⟨HOST_CTL.addr, 0, 0⟩
def HOST_STAT.addr : Nat := 0xC00004
def HOST_STAT.CFG_MISMATCH : Fld := ⟨HOST_STAT.addr, 31, 31⟩
def HOST_STAT.CFG_REJECT : Fld := ⟨HOST_STAT.addr, 30, 30⟩
def HOST_STAT.CFG_PENDING : Fld := ⟨HOST_STAT.addr, 29, 29⟩
def HOST_STAT.BAR2 : Fld := ⟨HOST_STAT.addr, 28, 27⟩
def HOST_STAT.BAR2_LOCKED : Fld := ⟨HOST_STAT.addr, 26, 26⟩
def HOST_STAT.READY : Fld := ⟨HOST_STAT.addr, 25, 25⟩
def HOST_STAT.SPEED : Fld := ⟨HOST_STAT.addr, 24, 22⟩
def HOST_STAT.WIDTH : Fld := ⟨HOST_STAT.addr, 21, 18⟩
def HOST_STAT.QERR : Fld := ⟨HOST_STAT.addr, 15, 15⟩
def HOST_STAT.ACCEPTED : Fld := ⟨HOST_STAT.addr, 13, 0⟩
def HOST_FAULT.addr : Nat := 0xC00008
def HOST_FAULT.REGPAR : Fld := ⟨HOST_FAULT.addr, 7, 7⟩
def HOST_FAULT.LINK : Fld := ⟨HOST_FAULT.addr, 6, 6⟩
def HOST_FAULT.DMA : Fld := ⟨HOST_FAULT.addr, 5, 5⟩
def HOST_FAULT.PKT_BAD : Fld := ⟨HOST_FAULT.addr, 4, 4⟩
def HOST_FAULT.BAR2_OFF : Fld := ⟨HOST_FAULT.addr, 3, 3⟩
def HOST_FAULT.DP_POISON : Fld := ⟨HOST_FAULT.addr, 2, 2⟩
def HOST_FAULT.DP_RANGE : Fld := ⟨HOST_FAULT.addr, 1, 1⟩
def HOST_FAULT.DB_BAD : Fld := ⟨HOST_FAULT.addr, 0, 0⟩
def HOST_FAULT_EN.addr : Nat := 0xC0000C
def HOST_FAULT_EN.REGPAR : Fld := ⟨HOST_FAULT_EN.addr, 7, 7⟩
def HOST_FAULT_EN.LINK : Fld := ⟨HOST_FAULT_EN.addr, 6, 6⟩
def HOST_FAULT_EN.DMA : Fld := ⟨HOST_FAULT_EN.addr, 5, 5⟩
def HOST_FAULT_EN.PKT_BAD : Fld := ⟨HOST_FAULT_EN.addr, 4, 4⟩
def HOST_FAULT_EN.BAR2_OFF : Fld := ⟨HOST_FAULT_EN.addr, 3, 3⟩
def HOST_FAULT_EN.DP_POISON : Fld := ⟨HOST_FAULT_EN.addr, 2, 2⟩
def HOST_FAULT_EN.DP_RANGE : Fld := ⟨HOST_FAULT_EN.addr, 1, 1⟩
def HOST_FAULT_EN.DB_BAD : Fld := ⟨HOST_FAULT_EN.addr, 0, 0⟩
def HOST_FIRST_ADDR_LO.addr : Nat := 0xC00010
def HOST_FIRST_ADDR_LO.ADDR : Fld := ⟨HOST_FIRST_ADDR_LO.addr, 31, 0⟩
def HOST_FIRST_ADDR_HI.addr : Nat := 0xC00014
def HOST_FIRST_ADDR_HI.ADDR : Fld := ⟨HOST_FIRST_ADDR_HI.addr, 31, 0⟩
def HOST_FIRST_INFO.addr : Nat := 0xC00018
def HOST_FIRST_INFO.VALID : Fld := ⟨HOST_FIRST_INFO.addr, 31, 31⟩
def HOST_FIRST_INFO.OVF : Fld := ⟨HOST_FIRST_INFO.addr, 30, 30⟩
def HOST_FIRST_INFO.SRC : Fld := ⟨HOST_FIRST_INFO.addr, 29, 25⟩
def HOST_FIRST_INFO.MASTER : Fld := ⟨HOST_FIRST_INFO.addr, 24, 20⟩
def HOST_FIRST_INFO.ATYPE : Fld := ⟨HOST_FIRST_INFO.addr, 19, 17⟩
def HOST_FIRST_INFO.SPACE : Fld := ⟨HOST_FIRST_INFO.addr, 16, 16⟩
def HOST_FIRST_INFO.QUEUE : Fld := ⟨HOST_FIRST_INFO.addr, 15, 12⟩
def HOST_FIRST_TIME_LO.addr : Nat := 0xC0001C
def HOST_FIRST_TIME_LO.DT : Fld := ⟨HOST_FIRST_TIME_LO.addr, 31, 0⟩
def HOST_FIRST_TIME_HI.addr : Nat := 0xC00020
def HOST_FIRST_TIME_HI.DT : Fld := ⟨HOST_FIRST_TIME_HI.addr, 31, 0⟩
def HOST_ACK.addr : Nat := 0xC00024
def HOST_ACK.REARM : Fld := ⟨HOST_ACK.addr, 31, 31⟩
def AQ_BASE_LO.addr : Nat := 0xC00028
def AQ_BASE_LO.BASE : Fld := ⟨AQ_BASE_LO.addr, 31, 12⟩
def AQ_BASE_HI.addr : Nat := 0xC0002C
def AQ_BASE_HI.BASE : Fld := ⟨AQ_BASE_HI.addr, 31, 0⟩
def AQ_CFG.addr : Nat := 0xC00030
def AQ_CFG.SIZE : Fld := ⟨AQ_CFG.addr, 12, 0⟩
def DP_ADDR_LO.addr : Nat := 0xC00034
def DP_ADDR_LO.ADDR : Fld := ⟨DP_ADDR_LO.addr, 31, 0⟩
def DP_ADDR_HI.addr : Nat := 0xC00038
def DP_ADDR_HI.ADDR : Fld := ⟨DP_ADDR_HI.addr, 31, 0⟩
def DP_CTL.addr : Nat := 0xC0003C
def DP_CTL.STRIDE : Fld := ⟨DP_CTL.addr, 31, 16⟩
def DP_CTL.ERR : Fld := ⟨DP_CTL.addr, 5, 5⟩
def DP_CTL.BUSY : Fld := ⟨DP_CTL.addr, 4, 4⟩
def DP_CTL.PREF : Fld := ⟨DP_CTL.addr, 2, 2⟩
def DP_CTL.INC : Fld := ⟨DP_CTL.addr, 1, 0⟩
def SQ_TAIL.addr (i : Nat) : Nat := 0xC00100 + 8 * i
def SQ_TAIL.TAIL (i : Nat) : Fld := ⟨(SQ_TAIL.addr i), 11, 0⟩
def CQ_HEAD.addr (i : Nat) : Nat := 0xC00104 + 8 * i
def CQ_HEAD.HEAD (i : Nat) : Fld := ⟨(CQ_HEAD.addr i), 11, 0⟩

/-! ### Field addresses of the TIER registers -/

def TIER_CTL.addr (n : Nat) : Nat := 0xC80000 + 0x1000 * n
def TIER_CTL.SAFE_PROP (n : Nat) : Fld := ⟨(TIER_CTL.addr n), 24, 24⟩
def TIER_CTL.SUM_PER (n : Nat) : Fld := ⟨(TIER_CTL.addr n), 23, 16⟩
def TIER_CTL.RESEND_TMO (n : Nat) : Fld := ⟨(TIER_CTL.addr n), 15, 9⟩
def TIER_CTL.IE (n : Nat) : Fld := ⟨(TIER_CTL.addr n), 7, 4⟩
def TIER_CTL.COMMIT (n : Nat) : Fld := ⟨(TIER_CTL.addr n), 1, 1⟩
def TIER_CTL.EN (n : Nat) : Fld := ⟨(TIER_CTL.addr n), 0, 0⟩
def TIER_STAT.addr (n : Nat) : Nat := 0xC80004 + 0x1000 * n
def TIER_STAT.CFG_MISMATCH (n : Nat) : Fld := ⟨(TIER_STAT.addr n), 31, 31⟩
def TIER_STAT.CFG_REJECT (n : Nat) : Fld := ⟨(TIER_STAT.addr n), 30, 30⟩
def TIER_STAT.CFG_PENDING (n : Nat) : Fld := ⟨(TIER_STAT.addr n), 29, 29⟩
def TIER_STAT.STATE (n : Nat) : Fld := ⟨(TIER_STAT.addr n), 28, 26⟩
def TIER_STAT.UP_PORT (n : Nat) : Fld := ⟨(TIER_STAT.addr n), 25, 25⟩
def TIER_STAT.PEER (n : Nat) : Fld := ⟨(TIER_STAT.addr n), 24, 19⟩
def TIER_STAT.RTR_TRY (n : Nat) : Fld := ⟨(TIER_STAT.addr n), 18, 17⟩
def TIER_STAT.FIRST (n : Nat) : Fld := ⟨(TIER_STAT.addr n), 16, 12⟩
def TIER_STAT.OVF (n : Nat) : Fld := ⟨(TIER_STAT.addr n), 11, 11⟩
def TIER_STAT.VIOL (n : Nat) : Fld := ⟨(TIER_STAT.addr n), 10, 7⟩
def TIER_STAT.RESENDS (n : Nat) : Fld := ⟨(TIER_STAT.addr n), 6, 0⟩
def TIER_FAULT.addr (n : Nat) : Nat := 0xC80008 + 0x1000 * n
def TIER_FAULT.REGPAR (n : Nat) : Fld := ⟨(TIER_FAULT.addr n), 7, 7⟩
def TIER_FAULT.ROUTE_DROP (n : Nat) : Fld := ⟨(TIER_FAULT.addr n), 6, 6⟩
def TIER_FAULT.DOWN (n : Nat) : Fld := ⟨(TIER_FAULT.addr n), 5, 5⟩
def TIER_FAULT.BOOT_FAIL (n : Nat) : Fld := ⟨(TIER_FAULT.addr n), 3, 3⟩
def TIER_FAULT.RETRAIN (n : Nat) : Fld := ⟨(TIER_FAULT.addr n), 2, 2⟩
def TIER_FAULT.VIOL (n : Nat) : Fld := ⟨(TIER_FAULT.addr n), 1, 1⟩
def TIER_FAULT.LINKERR (n : Nat) : Fld := ⟨(TIER_FAULT.addr n), 0, 0⟩
def TIER_FAULT_EN.addr (n : Nat) : Nat := 0xC8000C + 0x1000 * n
def TIER_FAULT_EN.REGPAR (n : Nat) : Fld := ⟨(TIER_FAULT_EN.addr n), 7, 7⟩
def TIER_FAULT_EN.ROUTE_DROP (n : Nat) : Fld := ⟨(TIER_FAULT_EN.addr n), 6, 6⟩
def TIER_FAULT_EN.DOWN (n : Nat) : Fld := ⟨(TIER_FAULT_EN.addr n), 5, 5⟩
def TIER_FAULT_EN.BOOT_FAIL (n : Nat) : Fld := ⟨(TIER_FAULT_EN.addr n), 3, 3⟩
def TIER_FAULT_EN.RETRAIN (n : Nat) : Fld := ⟨(TIER_FAULT_EN.addr n), 2, 2⟩
def TIER_FAULT_EN.VIOL (n : Nat) : Fld := ⟨(TIER_FAULT_EN.addr n), 1, 1⟩
def TIER_FAULT_EN.LINKERR (n : Nat) : Fld := ⟨(TIER_FAULT_EN.addr n), 0, 0⟩
def TIER_ROUTE_LO.addr (n : Nat) : Nat := 0xC80010 + 0x1000 * n
def TIER_ROUTE_LO.ROUTE (n : Nat) : Fld := ⟨(TIER_ROUTE_LO.addr n), 31, 0⟩
def TIER_ROUTE_HI.addr (n : Nat) : Nat := 0xC80014 + 0x1000 * n
def TIER_ROUTE_HI.ROUTE (n : Nat) : Fld := ⟨(TIER_ROUTE_HI.addr n), 31, 0⟩

/-! ### Field addresses of the SVC registers -/

def SVC_STAT.addr : Nat := 0xD00000
def SVC_STAT.CFG_MISMATCH : Fld := ⟨SVC_STAT.addr, 31, 31⟩
def SVC_STAT.CFG_REJECT : Fld := ⟨SVC_STAT.addr, 30, 30⟩
def SVC_STAT.CFG_PENDING : Fld := ⟨SVC_STAT.addr, 29, 29⟩
def SVC_STAT.SAFE : Fld := ⟨SVC_STAT.addr, 28, 28⟩
def SVC_STAT.PFW : Fld := ⟨SVC_STAT.addr, 27, 27⟩
def SVC_STAT.ACTIVE : Fld := ⟨SVC_STAT.addr, 26, 26⟩
def SVC_STAT.STANDBY : Fld := ⟨SVC_STAT.addr, 25, 25⟩
def SVC_FAULT.addr : Nat := 0xD00004
def SVC_FAULT.REGPAR : Fld := ⟨SVC_FAULT.addr, 8, 8⟩
def SVC_FAULT.NO_STANDBY : Fld := ⟨SVC_FAULT.addr, 7, 7⟩
def SVC_FAULT.LOCKSTEP : Fld := ⟨SVC_FAULT.addr, 6, 6⟩
def SVC_FAULT.QUEUE_DROP : Fld := ⟨SVC_FAULT.addr, 5, 5⟩
def SVC_FAULT.JRN_LOST : Fld := ⟨SVC_FAULT.addr, 4, 4⟩
def SVC_FAULT.REPLAY_LIMIT : Fld := ⟨SVC_FAULT.addr, 3, 3⟩
def SVC_FAULT.UC_REFUSED : Fld := ⟨SVC_FAULT.addr, 2, 2⟩
def SVC_FAULT.TAIL_TRUNC : Fld := ⟨SVC_FAULT.addr, 1, 1⟩
def SVC_FAULT.LOG_OVF : Fld := ⟨SVC_FAULT.addr, 0, 0⟩
def SVC_FAULT_EN.addr : Nat := 0xD00008
def SVC_FAULT_EN.REGPAR : Fld := ⟨SVC_FAULT_EN.addr, 8, 8⟩
def SVC_FAULT_EN.NO_STANDBY : Fld := ⟨SVC_FAULT_EN.addr, 7, 7⟩
def SVC_FAULT_EN.LOCKSTEP : Fld := ⟨SVC_FAULT_EN.addr, 6, 6⟩
def SVC_FAULT_EN.QUEUE_DROP : Fld := ⟨SVC_FAULT_EN.addr, 5, 5⟩
def SVC_FAULT_EN.JRN_LOST : Fld := ⟨SVC_FAULT_EN.addr, 4, 4⟩
def SVC_FAULT_EN.REPLAY_LIMIT : Fld := ⟨SVC_FAULT_EN.addr, 3, 3⟩
def SVC_FAULT_EN.UC_REFUSED : Fld := ⟨SVC_FAULT_EN.addr, 2, 2⟩
def SVC_FAULT_EN.TAIL_TRUNC : Fld := ⟨SVC_FAULT_EN.addr, 1, 1⟩
def SVC_FAULT_EN.LOG_OVF : Fld := ⟨SVC_FAULT_EN.addr, 0, 0⟩
def SVC_FIRST.addr : Nat := 0xD0000C
def SVC_FIRST.OVF : Fld := ⟨SVC_FIRST.addr, 5, 5⟩
def SVC_FIRST.VALID : Fld := ⟨SVC_FIRST.addr, 4, 4⟩
def SVC_FIRST.SRC : Fld := ⟨SVC_FIRST.addr, 3, 0⟩
def SVC_FLTCTL.addr : Nat := 0xD00010
def SVC_FLTCTL.R_HOLD : Fld := ⟨SVC_FLTCTL.addr, 31, 24⟩
def SVC_FLTCTL.REPLAY_MAX : Fld := ⟨SVC_FLTCTL.addr, 23, 20⟩
def SVC_FLTCTL.ESTOP_SAFE : Fld := ⟨SVC_FLTCTL.addr, 3, 3⟩
def SVC_FLTCTL.R_AUTO : Fld := ⟨SVC_FLTCTL.addr, 2, 2⟩
def SVC_FLTCTL.C_AUTO : Fld := ⟨SVC_FLTCTL.addr, 1, 1⟩
def SVC_FLTCTL.SAFE_REQ : Fld := ⟨SVC_FLTCTL.addr, 0, 0⟩
def SVC_BASINMAP.addr : Nat := 0xD00014
def SVC_BASINMAP.ADOPT0 : Fld := ⟨SVC_BASINMAP.addr, 1, 0⟩
def SVC_BASINMAP.ADOPT1 : Fld := ⟨SVC_BASINMAP.addr, 3, 2⟩
def SVC_BASINMAP.ADOPT2 : Fld := ⟨SVC_BASINMAP.addr, 5, 4⟩
def SVC_BASINMAP.ADOPT3 : Fld := ⟨SVC_BASINMAP.addr, 7, 6⟩
def SVC_SAFE.addr : Nat := 0xD00018
def SVC_SAFE.CAUSE : Fld := ⟨SVC_SAFE.addr, 31, 28⟩
def SVC_SAFE.BLOCK : Fld := ⟨SVC_SAFE.addr, 27, 20⟩
def SVC_SAFE.INST : Fld := ⟨SVC_SAFE.addr, 19, 12⟩
def SVC_SAFE_DT_LO.addr : Nat := 0xD0001C
def SVC_SAFE_DT_LO.DT : Fld := ⟨SVC_SAFE_DT_LO.addr, 31, 0⟩
def SVC_SAFE_DT_HI.addr : Nat := 0xD00020
def SVC_SAFE_DT_HI.DT : Fld := ⟨SVC_SAFE_DT_HI.addr, 31, 0⟩
def SVC_HB.addr : Nat := 0xD00024
def SVC_HB.TICKS : Fld := ⟨SVC_HB.addr, 31, 0⟩
def SVC_LOGCNT.addr : Nat := 0xD00028
def SVC_LOGCNT.DROPPED : Fld := ⟨SVC_LOGCNT.addr, 31, 16⟩
def SVC_LOGCNT.RECORDS : Fld := ⟨SVC_LOGCNT.addr, 15, 0⟩
def SVC_CNT_C.addr : Nat := 0xD0002C
def SVC_CNT_C.COUNT : Fld := ⟨SVC_CNT_C.addr, 31, 0⟩
def SVC_CNT_R.addr : Nat := 0xD00030
def SVC_CNT_R.COUNT : Fld := ⟨SVC_CNT_R.addr, 31, 0⟩
def SVC_CNT_DS.addr : Nat := 0xD00034
def SVC_CNT_DS.D : Fld := ⟨SVC_CNT_DS.addr, 31, 16⟩
def SVC_CNT_DS.S : Fld := ⟨SVC_CNT_DS.addr, 15, 0⟩
def TJ_BASE_LO.addr : Nat := 0xD00038
def TJ_BASE_LO.BASE : Fld := ⟨TJ_BASE_LO.addr, 31, 0⟩
def TJ_BASE_HI.addr : Nat := 0xD0003C
def TJ_BASE_HI.BASE : Fld := ⟨TJ_BASE_HI.addr, 31, 0⟩
def TJ_CFG.addr : Nat := 0xD00040
def TJ_CFG.ENTRIES_K : Fld := ⟨TJ_CFG.addr, 31, 16⟩
def TJ_CFG.RESERVE : Fld := ⟨TJ_CFG.addr, 15, 0⟩
def TJ_OPEN.addr : Nat := 0xD00044
def TJ_OPEN.OPEN : Fld := ⟨TJ_OPEN.addr, 31, 0⟩
def TJ_REPLAY.addr : Nat := 0xD00048
def TJ_REPLAY.REPLAYED : Fld := ⟨TJ_REPLAY.addr, 31, 16⟩
def TJ_REPLAY.ABANDONED : Fld := ⟨TJ_REPLAY.addr, 15, 0⟩
def XJ_BASE_LO.addr : Nat := 0xD0004C
def XJ_BASE_LO.BASE : Fld := ⟨XJ_BASE_LO.addr, 31, 0⟩
def XJ_BASE_HI.addr : Nat := 0xD00050
def XJ_BASE_HI.BASE : Fld := ⟨XJ_BASE_HI.addr, 31, 0⟩
def XJ_CFG.addr : Nat := 0xD00054
def XJ_CFG.ENTRIES_K : Fld := ⟨XJ_CFG.addr, 31, 16⟩
def XJ_CFG.RESERVE_K : Fld := ⟨XJ_CFG.addr, 15, 0⟩
def XJ_OPEN.addr : Nat := 0xD00058
def XJ_OPEN.OPEN : Fld := ⟨XJ_OPEN.addr, 31, 0⟩
def XJ_HIGH.addr : Nat := 0xD0005C
def XJ_HIGH.HIGH : Fld := ⟨XJ_HIGH.addr, 31, 0⟩
def OL_STAT.addr : Nat := 0xD00060
def OL_STAT.FREE_K : Fld := ⟨OL_STAT.addr, 31, 16⟩
def OL_STAT.LOW_K : Fld := ⟨OL_STAT.addr, 15, 0⟩
def JRN_LOST.addr : Nat := 0xD00064
def JRN_LOST.TASK : Fld := ⟨JRN_LOST.addr, 31, 16⟩
def JRN_LOST.TXN : Fld := ⟨JRN_LOST.addr, 15, 0⟩
def TAIL_BASE_LO.addr : Nat := 0xD00068
def TAIL_BASE_LO.BASE : Fld := ⟨TAIL_BASE_LO.addr, 31, 0⟩
def TAIL_BASE_HI.addr : Nat := 0xD0006C
def TAIL_BASE_HI.BASE : Fld := ⟨TAIL_BASE_HI.addr, 31, 0⟩
def TAIL_CTL.addr : Nat := 0xD00070
def TAIL_CTL.EN : Fld := ⟨TAIL_CTL.addr, 0, 0⟩
def TAIL_STAT.addr : Nat := 0xD00074
def TAIL_STAT.VALID : Fld := ⟨TAIL_STAT.addr, 31, 31⟩
def TAIL_STAT.TRUNC : Fld := ⟨TAIL_STAT.addr, 30, 30⟩
def TAIL_STAT.NDETAIL : Fld := ⟨TAIL_STAT.addr, 11, 0⟩
def RET_REC.addr : Nat := 0xD00078
def RET_REC.USED : Fld := ⟨RET_REC.addr, 31, 23⟩
def SVC_SPARES.addr : Nat := 0xD0007C
def SVC_SPARES.TARN : Fld := ⟨SVC_SPARES.addr, 23, 20⟩
def SVC_SPARES.SPARE0 : Fld := ⟨SVC_SPARES.addr, 4, 0⟩
def SVC_SPARES.SPARE1 : Fld := ⟨SVC_SPARES.addr, 9, 5⟩
def SVC_SPARES.SPARE2 : Fld := ⟨SVC_SPARES.addr, 14, 10⟩
def SVC_SPARES.SPARE3 : Fld := ⟨SVC_SPARES.addr, 19, 15⟩

/-! ### Field addresses of the THERM registers -/

def THERM_CTL.addr : Nat := 0xE00000
def THERM_CTL.IE : Fld := ⟨THERM_CTL.addr, 7, 4⟩
def THERM_STAT.addr : Nat := 0xE00004
def THERM_STAT.CFG_MISMATCH : Fld := ⟨THERM_STAT.addr, 31, 31⟩
def THERM_STAT.CFG_REJECT : Fld := ⟨THERM_STAT.addr, 30, 30⟩
def THERM_STAT.CFG_PENDING : Fld := ⟨THERM_STAT.addr, 29, 29⟩
def THERM_STAT.THR : Fld := ⟨THERM_STAT.addr, 7, 4⟩
def THERM_STAT.OVERT : Fld := ⟨THERM_STAT.addr, 0, 0⟩
def THERM_FAULT.addr : Nat := 0xE00008
def THERM_FAULT.REGPAR : Fld := ⟨THERM_FAULT.addr, 5, 5⟩
def THERM_FAULT.CRIT : Fld := ⟨THERM_FAULT.addr, 4, 4⟩
def THERM_FAULT.THROTTLE : Fld := ⟨THERM_FAULT.addr, 3, 3⟩
def THERM_FAULT.WARN : Fld := ⟨THERM_FAULT.addr, 2, 2⟩
def THERM_FAULT.SENSOR : Fld := ⟨THERM_FAULT.addr, 1, 1⟩
def THERM_FAULT.PIN_GLITCH : Fld := ⟨THERM_FAULT.addr, 0, 0⟩
def THERM_FAULT_EN.addr : Nat := 0xE0000C
def THERM_FAULT_EN.REGPAR : Fld := ⟨THERM_FAULT_EN.addr, 5, 5⟩
def THERM_FAULT_EN.CRIT : Fld := ⟨THERM_FAULT_EN.addr, 4, 4⟩
def THERM_FAULT_EN.THROTTLE : Fld := ⟨THERM_FAULT_EN.addr, 3, 3⟩
def THERM_FAULT_EN.WARN : Fld := ⟨THERM_FAULT_EN.addr, 2, 2⟩
def THERM_FAULT_EN.SENSOR : Fld := ⟨THERM_FAULT_EN.addr, 1, 1⟩
def THERM_FAULT_EN.PIN_GLITCH : Fld := ⟨THERM_FAULT_EN.addr, 0, 0⟩
def THERM_FIRST.addr : Nat := 0xE00010
def THERM_FIRST.OVF : Fld := ⟨THERM_FIRST.addr, 5, 5⟩
def THERM_FIRST.VALID : Fld := ⟨THERM_FIRST.addr, 4, 4⟩
def THERM_FIRST.SRC : Fld := ⟨THERM_FIRST.addr, 3, 0⟩
def THERM_LIMIT.addr : Nat := 0xE00014
def THERM_LIMIT.WARN : Fld := ⟨THERM_LIMIT.addr, 31, 24⟩
def THERM_LIMIT.THROT : Fld := ⟨THERM_LIMIT.addr, 23, 16⟩
def THERM_LIMIT.CRIT : Fld := ⟨THERM_LIMIT.addr, 15, 8⟩
def THERM_LIMIT.HYST : Fld := ⟨THERM_LIMIT.addr, 7, 0⟩
def THERM_HOT.addr : Nat := 0xE00018
def THERM_HOT.HOT : Fld := ⟨THERM_HOT.addr, 31, 16⟩
def THERM_HOT.HSENS : Fld := ⟨THERM_HOT.addr, 3, 0⟩
def THERM_TIME.addr : Nat := 0xE0001C
def THERM_TIME.PEAK : Fld := ⟨THERM_TIME.addr, 31, 16⟩
def THERM_TIME.THR_S : Fld := ⟨THERM_TIME.addr, 15, 0⟩
def THERM_AGE.addr : Nat := 0xE00020
def THERM_AGE.TRIP : Fld := ⟨THERM_AGE.addr, 31, 31⟩
def THERM_AGE.HOURS : Fld := ⟨THERM_AGE.addr, 30, 0⟩
def THERM_SENSE.addr (i : Nat) : Nat := 0xE00024 + 4 * i
def THERM_SENSE.TODD (i : Nat) : Fld := ⟨(THERM_SENSE.addr i), 31, 16⟩
def THERM_SENSE.TEVEN (i : Nat) : Fld := ⟨(THERM_SENSE.addr i), 15, 0⟩
def PIN_CTL.addr : Nat := 0xE00044
def PIN_CTL.CHAIN_TEST : Fld := ⟨PIN_CTL.addr, 0, 0⟩
def PIN_STAT.addr : Nat := 0xE00048
def PIN_STAT.LEVEL : Fld := ⟨PIN_STAT.addr, 13, 0⟩
def PIN_EDGE.addr : Nat := 0xE0004C
def PIN_EDGE.EDGE : Fld := ⟨PIN_EDGE.addr, 4, 0⟩
def PIN_FILT.addr : Nat := 0xE00050
def PIN_FILT.ESTOP_F : Fld := ⟨PIN_FILT.addr, 31, 16⟩
def PIN_FILT.PFW_F : Fld := ⟨PIN_FILT.addr, 15, 0⟩
def SMB_CTL.addr : Nat := 0xE00054
def SMB_CTL.ADDR : Fld := ⟨SMB_CTL.addr, 7, 1⟩
def SMB_CTL.PEC_REQ : Fld := ⟨SMB_CTL.addr, 0, 0⟩
def SMB_STAT.addr : Nat := 0xE00058
def SMB_STAT.ERRS : Fld := ⟨SMB_STAT.addr, 31, 16⟩
def SMB_STAT.LAST_CMD : Fld := ⟨SMB_STAT.addr, 7, 0⟩
def JTAG_STAT.addr : Nat := 0xE0005C
def JTAG_STAT.IR : Fld := ⟨JTAG_STAT.addr, 15, 8⟩
def JTAG_STAT.UNLOCKED : Fld := ⟨JTAG_STAT.addr, 1, 1⟩
def JTAG_STAT.ACTIVE : Fld := ⟨JTAG_STAT.addr, 0, 0⟩

/-- Registers and fields of the dev block, part 1. -/
def Blk.devTable1 : List (Nat × List FieldDef) := [
  (0x000, [⟨7, 4, .rw, 0, [], false⟩, ⟨0, 0, .rw, 0, [], false⟩]),
  (0x004, [⟨31, 31, .w1c, 0, [], false⟩, ⟨30, 30, .w1c, 0, [], false⟩, ⟨29, 29, .ro, 0, [], false⟩, ⟨28, 26, .ro, 0, [], false⟩]),
  (0x008, [⟨1, 1, .w1c, 0, [], false⟩, ⟨0, 0, .w1c, 0, [], false⟩]),
  (0x00C, [⟨1, 1, .rw, 0, [], false⟩, ⟨0, 0, .rw, 0, [], false⟩]),
  (0x010, [⟨5, 5, .ro, 0, [], false⟩, ⟨4, 4, .ro, 0, [], false⟩, ⟨3, 0, .ro, 0, [], false⟩]),
  (0x014, [⟨31, 16, .ro, 4132, [], false⟩, ⟨15, 8, .ro, 3, [], false⟩, ⟨1, 0, .ro, 0, [], false⟩]),
  (0x018, [⟨31, 0, .ro, 0, [], false⟩]),
  (0x01C, [⟨31, 0, .ro, 0, [], false⟩]),
  (0x020, [⟨9, 8, .ro, 0, [], false⟩, ⟨7, 6, .ro, 0, [], false⟩, ⟨5, 0, .ro, 0, [], false⟩]),
  (0x024, [⟨31, 0, .ro, 0, [], false⟩]),
  (0x028, [⟨31, 0, .ro, 0, [], false⟩]),
  (0x02C, [⟨31, 0, .ro, 0, [], false⟩])]

/-- Registers and fields of the dev block, part 2. -/
def Blk.devTable2 : List (Nat × List FieldDef) := [
  (0x030, [⟨31, 0, .rw, 0, [], false⟩]),
  (0x034, [⟨31, 0, .rw, 0, [], false⟩]),
  (0x038, [⟨31, 0, .rw, 0, [], false⟩]),
  (0x03C, [⟨31, 0, .rw, 0, [], false⟩]),
  (0x040, [⟨16, 0, .ro, 0, [], false⟩]),
  (0x044, [⟨3, 0, .ro, 0, [], false⟩]),
  (0x048, [⟨16, 0, .ro, 0, [], false⟩]),
  (0x04C, [⟨31, 0, .ro, 0, [], false⟩]),
  (0x050, [⟨31, 0, .ro, 0, [], false⟩]),
  (0x054, [⟨15, 8, .ro, 1, [], false⟩, ⟨7, 0, .ro, 30, [], false⟩]),
  (0x058, [⟨31, 24, .ro, 1, [], false⟩, ⟨5, 5, .rw, 0, [], false⟩, ⟨4, 4, .rw, 0, [], false⟩, ⟨3, 3, .rw, 0, [], false⟩, ⟨2, 2, .rw, 0, [], false⟩, ⟨1, 1, .rw, 0, [], false⟩, ⟨0, 0, .rw, 0, [], false⟩]),
  (0x05C, [⟨31, 0, .ro, 0, [], false⟩])]

/-- Registers and fields of the pwr block, part 1. -/
def Blk.pwrTable1 : List (Nat × List FieldDef) := [
  (0x000, [⟨31, 24, .rw, 100, [], false⟩, ⟨7, 4, .rw, 0, [], false⟩, ⟨1, 1, .rw, 0, [], false⟩, ⟨0, 0, .rws, 0, [], false⟩]),
  (0x004, [⟨31, 31, .w1c, 0, [], false⟩, ⟨30, 30, .w1c, 0, [], false⟩, ⟨29, 29, .ro, 0, [], false⟩, ⟨28, 26, .ro, 1, [], false⟩, ⟨25, 25, .ro, 0, [], false⟩, ⟨24, 24, .ro, 0, [], false⟩]),
  (0x008, [⟨6, 6, .w1c, 0, [], false⟩, ⟨5, 5, .w1c, 0, [], false⟩, ⟨4, 4, .w1c, 0, [], false⟩, ⟨3, 3, .w1c, 0, [], false⟩, ⟨2, 2, .w1c, 0, [], false⟩, ⟨1, 1, .w1c, 0, [], false⟩, ⟨0, 0, .w1c, 0, [], false⟩]),
  (0x00C, [⟨6, 6, .rw, 0, [], false⟩, ⟨5, 5, .rw, 0, [], false⟩, ⟨4, 4, .rw, 0, [], false⟩, ⟨3, 3, .rw, 0, [], false⟩, ⟨2, 2, .rw, 0, [], false⟩, ⟨1, 1, .rw, 0, [], false⟩, ⟨0, 0, .rw, 0, [], false⟩]),
  (0x010, [⟨5, 5, .ro, 0, [], false⟩, ⟨4, 4, .ro, 0, [], false⟩, ⟨3, 0, .ro, 0, [], false⟩]),
  (0x014, [⟨1, 0, .wo, 0, [], false⟩]),
  (0x018, [⟨2, 0, .rw, 7, [], false⟩]),
  (0x01C, [⟨2, 0, .w1c, 0, [], false⟩]),
  (0x020, [⟨31, 0, .rw, 0, [], false⟩]),
  (0x024, [⟨31, 0, .rw, 0, [], false⟩]),
  (0x028, [⟨31, 24, .rw, 0, [], false⟩, ⟨23, 8, .rw, 0, [], false⟩, ⟨2, 2, .w1s, 0, [], false⟩, ⟨1, 0, .wo, 0, [], false⟩]),
  (0x02C, [⟨15, 8, .ro, 0, [], false⟩, ⟨3, 0, .ro, 0, [], false⟩])]

/-- Registers and fields of the pwr block, part 2. -/
def Blk.pwrTable2 : List (Nat × List FieldDef) := [
  (0x030, [⟨3, 2, .ro, 0, [], false⟩, ⟨1, 0, .ro, 0, [], false⟩]),
  (0x034, [⟨16, 16, .ro, 0, [], false⟩, ⟨15, 8, .ro, 0, [], false⟩, ⟨7, 0, .ro, 1, [], false⟩]),
  (0x038, [⟨31, 20, .ro, 0, [], false⟩, ⟨15, 4, .ro, 0, [], false⟩, ⟨1, 1, .ro, 0, [], false⟩, ⟨0, 0, .ro, 0, [], false⟩]),
  (0x03C, [⟨31, 20, .ro, 0, [], false⟩, ⟨15, 4, .ro, 0, [], false⟩, ⟨1, 1, .ro, 0, [], false⟩, ⟨0, 0, .ro, 0, [], false⟩]),
  (0x040, [⟨31, 20, .ro, 0, [], false⟩, ⟨15, 4, .ro, 0, [], false⟩, ⟨1, 1, .ro, 0, [], false⟩, ⟨0, 0, .ro, 0, [], false⟩]),
  (0x044, [⟨31, 20, .ro, 0, [], false⟩, ⟨15, 4, .ro, 0, [], false⟩, ⟨1, 1, .ro, 0, [], false⟩, ⟨0, 0, .ro, 0, [], false⟩]),
  (0x048, [⟨31, 20, .ro, 0, [], false⟩, ⟨15, 4, .ro, 0, [], false⟩, ⟨1, 1, .ro, 0, [], false⟩, ⟨0, 0, .ro, 0, [], false⟩]),
  (0x04C, [⟨31, 20, .ro, 0, [], false⟩, ⟨15, 4, .ro, 0, [], false⟩, ⟨1, 1, .ro, 0, [], false⟩, ⟨0, 0, .ro, 0, [], false⟩]),
  (0x050, [⟨31, 20, .ro, 0, [], false⟩, ⟨15, 4, .ro, 0, [], false⟩, ⟨1, 1, .ro, 0, [], false⟩, ⟨0, 0, .ro, 0, [], false⟩]),
  (0x054, [⟨31, 20, .ro, 0, [], false⟩, ⟨15, 4, .ro, 0, [], false⟩, ⟨1, 1, .ro, 0, [], false⟩, ⟨0, 0, .ro, 0, [], false⟩]),
  (0x058, [⟨11, 0, .rwl, 3000, [], false⟩]),
  (0x05C, [⟨11, 0, .rwl, 3000, [], false⟩]),
  (0x060, [⟨11, 0, .rwl, 3000, [], false⟩]),
  (0x064, [⟨11, 0, .rwl, 3000, [], false⟩]),
  (0x068, [⟨31, 0, .rw, 0, [], false⟩]),
  (0x06C, [⟨31, 0, .rw, 0, [], false⟩]),
  (0x070, [⟨3, 0, .rw, 0, [], false⟩]),
  (0x074, [⟨31, 0, .ro, 0, [], false⟩]),
  (0x078, [⟨31, 0, .ro, 0, [], false⟩]),
  (0x07C, [⟨3, 0, .ro, 0, [], false⟩]),
  (0x080, [⟨31, 31, .rws, 1, [], false⟩, ⟨30, 24, .rws, 64, [], false⟩, ⟨23, 16, .rws, 50, [(0, 0)], false⟩, ⟨15, 8, .rws, 0, [], false⟩]),
  (0x084, [⟨31, 16, .ro, 750, [], false⟩, ⟨15, 0, .ro, 0, [], false⟩]),
  (0x088, [⟨31, 16, .ro, 0, [], false⟩, ⟨15, 0, .ro, 0, [], false⟩]),
  (0x08C, [⟨31, 16, .ro, 0, [], false⟩, ⟨15, 0, .ro, 0, [], false⟩]),
  (0x090, [⟨31, 0, .ro, 0, [], false⟩]),
  (0x094, [⟨31, 0, .ro, 0, [], false⟩])]

/-- Registers and fields of the pwr block, part 3. -/
def Blk.pwrTable3 : List (Nat × List FieldDef) := [
  (0x098, [⟨31, 0, .rw, 0, [], false⟩]),
  (0x09C, [⟨8, 0, .ro, 0, [], false⟩])]

/-- Registers and fields of the time block, part 1. -/
def Blk.timeTable1 : List (Nat × List FieldDef) := [
  (0x000, [⟨2, 2, .rws, 0, [], false⟩, ⟨1, 1, .rw, 1, [], false⟩, ⟨0, 0, .rw, 1, [], false⟩]),
  (0x004, [⟨31, 31, .w1c, 0, [], false⟩, ⟨30, 30, .w1c, 0, [], false⟩, ⟨29, 29, .ro, 0, [], false⟩, ⟨3, 3, .w1c, 0, [], false⟩, ⟨2, 2, .ro, 0, [], false⟩, ⟨1, 1, .ro, 0, [], false⟩, ⟨0, 0, .ro, 0, [], false⟩]),
  (0x008, [⟨5, 5, .w1c, 0, [], false⟩, ⟨4, 4, .w1c, 0, [], false⟩, ⟨3, 3, .w1c, 0, [], false⟩, ⟨2, 2, .w1c, 0, [], false⟩, ⟨1, 1, .w1c, 0, [], false⟩, ⟨0, 0, .w1c, 0, [], false⟩]),
  (0x00C, [⟨5, 5, .rw, 0, [], false⟩, ⟨4, 4, .rw, 0, [], false⟩, ⟨3, 3, .rw, 0, [], false⟩, ⟨2, 2, .rw, 0, [], false⟩, ⟨1, 1, .rw, 0, [], false⟩, ⟨0, 0, .rw, 0, [], false⟩]),
  (0x010, [⟨5, 5, .ro, 0, [], false⟩, ⟨4, 4, .ro, 0, [], false⟩, ⟨3, 0, .ro, 0, [], false⟩]),
  (0x014, [⟨31, 0, .ro, 0, [], false⟩]),
  (0x018, [⟨31, 0, .ro, 0, [], false⟩]),
  (0x01C, [⟨31, 0, .rws, 0, [], false⟩]),
  (0x020, [⟨31, 0, .rws, 0, [], false⟩]),
  (0x024, [⟨31, 0, .rwl, 0, [], false⟩]),
  (0x028, [⟨31, 0, .ro, 0, [], false⟩]),
  (0x02C, [⟨31, 16, .ro, 0, [], false⟩, ⟨15, 8, .ro, 0, [], false⟩, ⟨0, 0, .ro, 0, [], false⟩])]

/-- Registers and fields of the time block, part 2. -/
def Blk.timeTable2 : List (Nat × List FieldDef) := [
  (0x030, [⟨31, 31, .ro, 0, [], false⟩, ⟨26, 0, .ro, 93750000, [], false⟩]),
  (0x034, [⟨31, 0, .ro, 0, [], false⟩]),
  (0x038, [⟨31, 0, .ro, 0, [], false⟩]),
  (0x03C, [⟨31, 0, .ro, 0, [], false⟩]),
  (0x040, [⟨31, 0, .ro, 0, [], false⟩]),
  (0x044, [⟨28, 28, .rw, 1, [], false⟩, ⟨27, 24, .rwl, 7, [(8, 15)], false⟩, ⟨23, 16, .rwl, 240, [], false⟩, ⟨15, 12, .rwl, 6, [], false⟩, ⟨11, 8, .rwl, 2, [], false⟩, ⟨0, 0, .rw, 1, [], false⟩]),
  (0x048, [⟨31, 16, .ro, 0, [], false⟩, ⟨9, 8, .ro, 0, [], false⟩, ⟨3, 0, .ro, 0, [], false⟩]),
  (0x04C, [⟨31, 0, .ro, 0, [], false⟩]),
  (0x050, [⟨31, 16, .ro, 65535, [], false⟩, ⟨15, 0, .ro, 65535, [], false⟩]),
  (0x054, [⟨31, 16, .ro, 0, [], false⟩, ⟨15, 0, .rw, 0, [], false⟩]),
  (0x058, [⟨31, 16, .ro, 0, [], false⟩, ⟨15, 0, .rw, 0, [], false⟩]),
  (0x05C, [⟨31, 16, .ro, 0, [], false⟩, ⟨15, 0, .rw, 0, [], false⟩]),
  (0x060, [⟨31, 16, .ro, 0, [], false⟩, ⟨15, 0, .rw, 0, [], false⟩]),
  (0x064, [⟨31, 16, .ro, 0, [], false⟩, ⟨15, 0, .rw, 0, [], false⟩]),
  (0x068, [⟨31, 16, .ro, 0, [], false⟩, ⟨15, 0, .rw, 0, [], false⟩]),
  (0x06C, [⟨31, 16, .ro, 0, [], false⟩, ⟨15, 0, .rw, 0, [], false⟩]),
  (0x070, [⟨31, 16, .ro, 0, [], false⟩, ⟨15, 0, .rw, 0, [], false⟩]),
  (0x074, [⟨9, 7, .ro, 0, [], false⟩, ⟨6, 6, .w1c, 0, [], false⟩, ⟨5, 5, .w1s, 0, [], false⟩, ⟨4, 0, .rw, 0, [(13, 31)], false⟩]),
  (0x078, [⟨31, 0, .ro, 0, [], false⟩])]

/-- Registers and fields of the time block, part 3. -/
def Blk.timeTable3 : List (Nat × List FieldDef) := [
  (0x07C, [⟨31, 0, .ro, 0, [], false⟩])]

/-- Registers and fields of the ax block, part 1. -/
def Blk.axTable1 : List (Nat × List FieldDef) := [
  (0x000, [⟨23, 20, .rw, 0, [], false⟩, ⟨19, 13, .rws, 0, [], false⟩, ⟨12, 12, .rws, 0, [], false⟩, ⟨11, 10, .rws, 0, [], false⟩, ⟨9, 7, .rws, 3, [], false⟩, ⟨6, 3, .rwl, 0, [(13, 15)], true⟩, ⟨2, 2, .rwl, 0, [], true⟩, ⟨1, 1, .w1s, 0, [], false⟩, ⟨0, 0, .rw, 0, [], false⟩]),
  (0x004, [⟨19, 0, .rwl, 0, [], true⟩]),
  (0x008, [⟨31, 31, .w1c, 0, [], false⟩, ⟨30, 30, .w1c, 0, [], false⟩, ⟨29, 29, .ro, 0, [], false⟩, ⟨19, 12, .ro, 0, [], false⟩, ⟨11, 11, .ro, 0, [], false⟩, ⟨10, 8, .ro, 0, [], false⟩, ⟨7, 7, .ro, 0, [], false⟩, ⟨6, 4, .ro, 0, [], false⟩, ⟨3, 3, .w1c, 0, [], false⟩, ⟨2, 2, .w1c, 0, [], false⟩, ⟨1, 1, .w1c, 0, [], false⟩, ⟨0, 0, .w1c, 0, [], false⟩]),
  (0x00C, [⟨31, 0, .ro, 0, [], false⟩]),
  (0x010, [⟨31, 0, .ro, 0, [], false⟩]),
  (0x014, [⟨31, 0, .ro, 0, [], false⟩])]

/-- Registers and fields of the ap block, part 1. -/
def Blk.apTable1 : List (Nat × List FieldDef) := [
  (0x000, [⟨29, 26, .rw, 0, [], false⟩, ⟨25, 22, .rws, 0, [], false⟩, ⟨21, 19, .rws, 0, [], false⟩, ⟨18, 14, .rws, 0, [], false⟩, ⟨13, 9, .rws, 0, [], false⟩, ⟨8, 6, .rws, 0, [(5, 7)], false⟩, ⟨5, 3, .rws, 1, [], false⟩, ⟨2, 1, .rws, 0, [], false⟩, ⟨0, 0, .rw, 0, [], false⟩]),
  (0x004, [⟨31, 31, .w1c, 0, [], false⟩, ⟨30, 30, .w1c, 0, [], false⟩, ⟨29, 29, .ro, 0, [], false⟩, ⟨10, 8, .ro, 0, [], false⟩, ⟨7, 7, .ro, 0, [], false⟩, ⟨6, 4, .ro, 0, [], false⟩, ⟨3, 3, .w1c, 0, [], false⟩, ⟨2, 2, .w1c, 0, [], false⟩, ⟨1, 1, .w1c, 0, [], false⟩, ⟨0, 0, .w1c, 0, [], false⟩]),
  (0x008, [⟨31, 0, .ro, 0, [], false⟩]),
  (0x00C, [⟨31, 0, .ro, 0, [], false⟩]),
  (0x010, [⟨31, 0, .ro, 0, [], false⟩])]

/-- Registers and fields of the weirg block, part 1. -/
def Blk.weirgTable1 : List (Nat × List FieldDef) := [
  (0x000, [⟨31, 27, .rw, 0, [], false⟩, ⟨2, 2, .w1s, 0, [], false⟩, ⟨1, 1, .rw, 1, [], false⟩, ⟨0, 0, .rw, 0, [], false⟩]),
  (0x004, [⟨31, 31, .w1c, 0, [], false⟩, ⟨30, 30, .w1c, 0, [], false⟩, ⟨29, 29, .ro, 0, [], false⟩, ⟨28, 24, .ro, 0, [], false⟩, ⟨23, 23, .ro, 0, [], false⟩, ⟨22, 16, .ro, 0, [], false⟩, ⟨15, 15, .ro, 0, [], false⟩]),
  (0x008, [⟨3, 3, .w1c, 0, [], false⟩, ⟨2, 2, .w1c, 0, [], false⟩, ⟨1, 1, .w1c, 0, [], false⟩, ⟨0, 0, .w1c, 0, [], false⟩]),
  (0x00C, [⟨3, 3, .rw, 0, [], false⟩, ⟨2, 2, .rw, 0, [], false⟩, ⟨1, 1, .rw, 0, [], false⟩, ⟨0, 0, .rw, 0, [], false⟩]),
  (0x010, [⟨5, 5, .ro, 0, [], false⟩, ⟨4, 4, .ro, 0, [], false⟩, ⟨3, 0, .ro, 0, [], false⟩]),
  (0x014, [⟨31, 16, .rwl, 500, [(0, 0)], false⟩, ⟨15, 0, .rwl, 2400, [], false⟩]),
  (0x018, [⟨15, 0, .rwl, 200, [], false⟩]),
  (0x01C, [⟨27, 24, .rws, 0, [], false⟩, ⟨23, 16, .rwl, 16, [(0, 0)], false⟩, ⟨15, 8, .rwl, 50, [], false⟩, ⟨3, 0, .rwl, 4, [(0, 0)], false⟩]),
  (0x020, [⟨31, 16, .rwl, 0, [], false⟩, ⟨15, 0, .rw, 0, [], false⟩]),
  (0x024, [⟨31, 16, .ro, 0, [], false⟩, ⟨15, 14, .ro, 0, [], false⟩, ⟨3, 0, .ro, 0, [], false⟩]),
  (0x028, [⟨8, 8, .rw, 0, [], false⟩, ⟨7, 6, .rw, 0, [], false⟩, ⟨5, 0, .rw, 0, [], false⟩]),
  (0x02C, [⟨31, 0, .rw, 5250, [], false⟩])]

/-- Registers and fields of the weirg block, part 2. -/
def Blk.weirgTable2 : List (Nat × List FieldDef) := [
  (0x030, [⟨31, 16, .rwl, 100, [(0, 0)], false⟩, ⟨15, 0, .rwl, 0, [], false⟩]),
  (0x034, [⟨31, 31, .ro, 1, [], false⟩, ⟨15, 0, .ro, 0, [], false⟩]),
  (0x038, [⟨26, 20, .ro, 0, [], false⟩, ⟨19, 0, .ro, 0, [], false⟩]),
  (0x03C, [⟨31, 0, .ro, 0, [], false⟩]),
  (0x040, [⟨31, 0, .ro, 0, [], false⟩]),
  (0x044, [⟨31, 0, .ro, 0, [], false⟩]),
  (0x048, [⟨31, 0, .ro, 0, [], false⟩]),
  (0x04C, [⟨31, 0, .ro, 0, [], false⟩]),
  (0x050, [⟨31, 0, .ro, 0, [], false⟩]),
  (0x054, [⟨31, 0, .ro, 0, [], false⟩]),
  (0x058, [⟨31, 0, .ro, 0, [], false⟩]),
  (0x05C, [⟨31, 0, .ro, 0, [], false⟩])]

/-- Registers and fields of the adt block, part 1. -/
def Blk.adtTable1 : List (Nat × List FieldDef) := [
  (0x000, [⟨1, 1, .rw, 1, [], false⟩, ⟨0, 0, .rw, 1, [], false⟩]),
  (0x004, [⟨31, 31, .w1c, 0, [], false⟩, ⟨30, 30, .w1c, 0, [], false⟩, ⟨29, 29, .ro, 0, [], false⟩, ⟨0, 0, .ro, 0, [], false⟩]),
  (0x008, [⟨2, 2, .w1c, 0, [], false⟩, ⟨1, 1, .w1c, 0, [], false⟩, ⟨0, 0, .w1c, 0, [], false⟩]),
  (0x00C, [⟨2, 2, .rw, 0, [], false⟩, ⟨1, 1, .rw, 0, [], false⟩, ⟨0, 0, .rw, 0, [], false⟩]),
  (0x010, [⟨5, 5, .ro, 0, [], false⟩, ⟨4, 4, .ro, 0, [], false⟩, ⟨3, 0, .ro, 0, [], false⟩]),
  (0x014, [⟨31, 31, .rw, 0, [], false⟩, ⟨16, 0, .rw, 0, [], false⟩]),
  (0x018, [⟨15, 0, .rw, 65535, [], false⟩]),
  (0x01C, [⟨1, 0, .wo, 0, [], false⟩]),
  (0x020, [⟨3, 0, .rw, 0, [], false⟩]),
  (0x024, [⟨31, 0, .rw, 0, [], false⟩]),
  (0x028, [⟨31, 16, .ro, 0, [], false⟩, ⟨15, 0, .ro, 0, [], false⟩]),
  (0x02C, [⟨31, 24, .rw, 10, [(0, 0)], false⟩, ⟨16, 0, .ro, 0, [], false⟩])]

/-- Registers and fields of the fc block, part 1. -/
def Blk.fcTable1 : List (Nat × List FieldDef) := [
  (0x000, [⟨31, 30, .rwl, 2, [], false⟩, ⟨28, 28, .w1s, 0, [], false⟩, ⟨27, 24, .rw, 0, [], false⟩, ⟨23, 20, .rwl, 4, [], false⟩, ⟨19, 14, .rwl, 16, [(0, 1)], false⟩, ⟨13, 7, .rwl, 6, [(0, 0), (101, 127)], false⟩, ⟨6, 4, .rws, 2, [(6, 7)], false⟩, ⟨3, 2, .rws, 3, [(0, 0)], false⟩, ⟨1, 1, .rws, 1, [], false⟩, ⟨0, 0, .rw, 0, [], false⟩]),
  (0x004, [⟨31, 31, .w1c, 0, [], false⟩, ⟨30, 30, .w1c, 0, [], false⟩, ⟨29, 29, .ro, 0, [], false⟩, ⟨28, 26, .ro, 0, [], false⟩, ⟨25, 24, .ro, 0, [], false⟩, ⟨23, 16, .ro, 0, [], false⟩, ⟨15, 11, .ro, 0, [], false⟩, ⟨10, 10, .ro, 0, [], false⟩, ⟨9, 8, .ro, 0, [], false⟩, ⟨6, 0, .ro, 0, [], false⟩]),
  (0x008, [⟨17, 17, .w1c, 0, [], false⟩, ⟨16, 16, .w1c, 0, [], false⟩, ⟨15, 15, .w1c, 0, [], false⟩, ⟨14, 14, .w1c, 0, [], false⟩, ⟨13, 13, .w1c, 0, [], false⟩, ⟨12, 12, .w1c, 0, [], false⟩, ⟨11, 11, .w1c, 0, [], false⟩, ⟨10, 10, .w1c, 0, [], false⟩, ⟨9, 9, .w1c, 0, [], false⟩, ⟨8, 8, .w1c, 0, [], false⟩, ⟨7, 7, .w1c, 0, [], false⟩, ⟨6, 6, .w1c, 0, [], false⟩, ⟨5, 5, .w1c, 0, [], false⟩, ⟨4, 4, .w1c, 0, [], false⟩, ⟨3, 3, .w1c, 0, [], false⟩, ⟨2, 2, .w1c, 0, [], false⟩, ⟨1, 1, .w1c, 0, [], false⟩, ⟨0, 0, .w1c, 0, [], false⟩]),
  (0x00C, [⟨3, 0, .ro, 0, [], false⟩, ⟨7, 4, .ro, 0, [], false⟩, ⟨11, 8, .ro, 0, [], false⟩, ⟨15, 12, .ro, 0, [], false⟩, ⟨19, 16, .ro, 0, [], false⟩, ⟨23, 20, .ro, 0, [], false⟩, ⟨27, 24, .ro, 0, [], false⟩, ⟨31, 28, .ro, 0, [], false⟩]),
  (0x010, [⟨31, 30, .rw, 0, [], false⟩, ⟨29, 24, .rw, 0, [], false⟩, ⟨23, 23, .rw, 0, [], false⟩, ⟨22, 20, .ro, 0, [], false⟩, ⟨19, 0, .rwl, 0, [], true⟩]),
  (0x014, [⟨31, 8, .rwl, 0, [], true⟩, ⟨7, 4, .rw, 4, [(1, 1), (13, 15)], false⟩, ⟨3, 2, .rwl, 0, [(3, 3)], true⟩, ⟨1, 1, .w1s, 0, [], false⟩, ⟨0, 0, .rw, 0, [], false⟩]),
  (0x018, [⟨31, 31, .w1c, 0, [], false⟩, ⟨30, 30, .w1c, 0, [], false⟩, ⟨29, 29, .ro, 0, [], false⟩, ⟨28, 24, .ro, 0, [], false⟩, ⟨23, 21, .ro, 0, [], false⟩, ⟨20, 18, .ro, 0, [], false⟩, ⟨11, 9, .ro, 0, [], false⟩, ⟨8, 8, .ro, 0, [], false⟩, ⟨4, 4, .w1c, 0, [], false⟩, ⟨3, 3, .w1c, 0, [], false⟩, ⟨2, 2, .w1c, 0, [], false⟩, ⟨1, 1, .w1c, 0, [], false⟩, ⟨0, 0, .w1c, 0, [], false⟩]),
  (0x01C, [⟨31, 20, .ro, 0, [], false⟩, ⟨19, 0, .ro, 0, [], false⟩]),
  (0x020, [⟨31, 16, .ro, 0, [], false⟩, ⟨15, 8, .ro, 0, [], false⟩, ⟨7, 0, .ro, 0, [], false⟩])]

/-- Registers and fields of the pond block, part 1. -/
def Blk.pondTable1 : List (Nat × List FieldDef) := [
  (0x000, [⟨31, 16, .rwl, 500, [(0, 0)], false⟩, ⟨7, 4, .rw, 0, [], false⟩, ⟨1, 1, .rws, 1, [], false⟩, ⟨0, 0, .rw, 1, [], false⟩]),
  (0x004, [⟨31, 31, .w1c, 0, [], false⟩, ⟨30, 30, .w1c, 0, [], false⟩, ⟨29, 29, .ro, 0, [], false⟩, ⟨28, 28, .w1c, 0, [], false⟩, ⟨27, 27, .w1c, 0, [], false⟩, ⟨26, 25, .ro, 0, [], false⟩, ⟨22, 17, .ro, 0, [], false⟩, ⟨16, 0, .ro, 0, [], false⟩]),
  (0x008, [⟨15, 15, .w1c, 0, [], false⟩, ⟨14, 14, .w1c, 0, [], false⟩, ⟨13, 13, .w1c, 0, [], false⟩, ⟨12, 12, .w1c, 0, [], false⟩, ⟨11, 11, .w1c, 0, [], false⟩, ⟨10, 10, .w1c, 0, [], false⟩, ⟨9, 9, .w1c, 0, [], false⟩, ⟨8, 8, .w1c, 0, [], false⟩, ⟨7, 7, .w1c, 0, [], false⟩, ⟨6, 6, .w1c, 0, [], false⟩, ⟨5, 5, .w1c, 0, [], false⟩, ⟨4, 4, .w1c, 0, [], false⟩, ⟨3, 3, .w1c, 0, [], false⟩, ⟨2, 2, .w1c, 0, [], false⟩, ⟨1, 1, .w1c, 0, [], false⟩, ⟨0, 0, .w1c, 0, [], false⟩]),
  (0x00C, [⟨31, 0, .ro, 0, [], false⟩]),
  (0x010, [⟨31, 31, .ro, 0, [], false⟩, ⟨30, 30, .ro, 0, [], false⟩, ⟨29, 25, .ro, 0, [], false⟩, ⟨24, 20, .ro, 0, [], false⟩, ⟨19, 17, .ro, 0, [], false⟩, ⟨16, 16, .ro, 0, [], false⟩, ⟨8, 0, .ro, 0, [], false⟩]),
  (0x014, [⟨31, 0, .ro, 0, [], false⟩]),
  (0x018, [⟨31, 0, .ro, 0, [], false⟩]),
  (0x01C, [⟨31, 31, .w1s, 0, [], false⟩, ⟨23, 16, .ro, 0, [], false⟩]),
  (0x020, [⟨7, 4, .rws, 4, [(0, 0)], false⟩, ⟨1, 1, .rws, 1, [], false⟩, ⟨0, 0, .rw, 1, [], false⟩]),
  (0x024, [⟨31, 16, .w1c, 0, [], false⟩, ⟨15, 0, .rws, 0, [], false⟩]),
  (0x028, [⟨31, 31, .ro, 0, [], false⟩, ⟨30, 30, .w1c, 0, [], false⟩, ⟨29, 29, .ro, 0, [], false⟩, ⟨10, 8, .rw, 0, [], false⟩, ⟨3, 0, .wo, 0, [], false⟩]),
  (0x02C, [⟨31, 0, .rw, 0, [], false⟩])]

/-- Registers and fields of the pond block, part 2. -/
def Blk.pondTable2 : List (Nat × List FieldDef) := [
  (0x030, [⟨2, 2, .rw, 1, [], false⟩, ⟨1, 1, .rws, 1, [], false⟩, ⟨0, 0, .rw, 1, [], false⟩]),
  (0x034, [⟨15, 15, .w1s, 0, [], false⟩, ⟨12, 8, .rw, 0, [(20, 31)], false⟩, ⟨2, 0, .rw, 0, [], false⟩]),
  (0x038, [⟨18, 6, .rwl, 0, [], true⟩, ⟨3, 0, .rwl, 0, [], true⟩]),
  (0x03C, [⟨18, 6, .rwl, 0, [], true⟩]),
  (0x040, [⟨31, 31, .w1s, 0, [], false⟩, ⟨4, 0, .rw, 0, [(20, 31)], false⟩]),
  (0x044, [⟨31, 0, .ro, 0, [], false⟩]),
  (0x048, [⟨24, 21, .rw, 0, [], false⟩, ⟨20, 5, .rws, 65535, [], false⟩, ⟨4, 4, .rws, 1, [], false⟩, ⟨3, 3, .rws, 0, [], false⟩, ⟨2, 1, .rws, 0, [(3, 3)], false⟩, ⟨0, 0, .w1s, 0, [], false⟩]),
  (0x04C, [⟨31, 31, .ro, 0, [], false⟩, ⟨30, 30, .w1c, 0, [], false⟩, ⟨29, 29, .ro, 0, [], false⟩, ⟨28, 27, .ro, 0, [], false⟩, ⟨26, 20, .ro, 0, [], false⟩, ⟨15, 0, .ro, 0, [], false⟩])]

/-- Registers and fields of the basin block, part 1. -/
def Blk.basinTable1 : List (Nat × List FieldDef) := [
  (0x000, [⟨7, 4, .rw, 0, [], false⟩, ⟨0, 0, .rw, 1, [], false⟩]),
  (0x004, [⟨31, 31, .w1c, 0, [], false⟩, ⟨30, 30, .w1c, 0, [], false⟩, ⟨29, 29, .ro, 0, [], false⟩, ⟨28, 27, .ro, 0, [], false⟩, ⟨26, 22, .ro, 16, [], false⟩]),
  (0x008, [⟨8, 8, .w1c, 0, [], false⟩, ⟨7, 7, .w1c, 0, [], false⟩, ⟨6, 6, .w1c, 0, [], false⟩, ⟨5, 5, .w1c, 0, [], false⟩, ⟨4, 4, .w1c, 0, [], false⟩, ⟨3, 3, .w1c, 0, [], false⟩, ⟨2, 2, .w1c, 0, [], false⟩, ⟨1, 1, .w1c, 0, [], false⟩, ⟨0, 0, .w1c, 0, [], false⟩]),
  (0x00C, [⟨8, 8, .rw, 0, [], false⟩, ⟨7, 7, .rw, 0, [], false⟩, ⟨6, 6, .rw, 0, [], false⟩, ⟨5, 5, .rw, 0, [], false⟩, ⟨4, 4, .rw, 0, [], false⟩, ⟨3, 3, .rw, 0, [], false⟩, ⟨2, 2, .rw, 0, [], false⟩, ⟨1, 1, .rw, 0, [], false⟩, ⟨0, 0, .rw, 0, [], false⟩]),
  (0x010, [⟨31, 0, .ro, 0, [], false⟩]),
  (0x014, [⟨31, 31, .ro, 0, [], false⟩, ⟨30, 30, .ro, 0, [], false⟩, ⟨29, 25, .ro, 0, [], false⟩, ⟨24, 20, .ro, 0, [], false⟩, ⟨19, 15, .ro, 0, [], false⟩, ⟨8, 0, .ro, 0, [], false⟩]),
  (0x018, [⟨31, 0, .ro, 0, [], false⟩]),
  (0x01C, [⟨31, 0, .ro, 0, [], false⟩]),
  (0x020, [⟨31, 31, .w1s, 0, [], false⟩]),
  (0x024, [⟨1, 1, .rws, 1, [], false⟩, ⟨0, 0, .rw, 1, [], false⟩]),
  (0x028, [⟨31, 16, .ro, 0, [], false⟩, ⟨15, 8, .ro, 0, [], false⟩, ⟨7, 5, .ro, 0, [], false⟩]),
  (0x02C, [⟨31, 0, .ro, 0, [], false⟩])]

/-- Registers and fields of the basin block, part 2. -/
def Blk.basinTable2 : List (Nat × List FieldDef) := [
  (0x030, [⟨31, 24, .ro, 0, [], false⟩, ⟨23, 16, .ro, 0, [], false⟩, ⟨15, 8, .ro, 0, [], false⟩]),
  (0x034, [⟨31, 16, .ro, 0, [], false⟩]),
  (0x038, [⟨2, 1, .rw, 0, [(3, 3)], false⟩, ⟨0, 0, .rw, 1, [], false⟩]),
  (0x03C, [⟨5, 0, .rw, 0, [], false⟩]),
  (0x040, [⟨31, 31, .rw, 0, [], false⟩, ⟨30, 29, .rwl, 0, [], false⟩, ⟨28, 26, .rwl, 0, [], false⟩, ⟨25, 25, .rwl, 0, [], false⟩]),
  (0x044, [⟨31, 20, .ro, 0, [], false⟩, ⟨15, 0, .ro, 0, [], false⟩]),
  (0x048, [⟨31, 31, .ro, 1, [], false⟩, ⟨15, 0, .ro, 0, [], false⟩]),
  (0x04C, [⟨31, 0, .ro, 0, [], false⟩])]

/-- Registers and fields of the mc block, part 1. -/
def Blk.mcTable1 : List (Nat × List FieldDef) := [
  (0x000, [⟨7, 4, .rw, 0, [], false⟩, ⟨2, 2, .rw, 1, [], false⟩, ⟨1, 1, .rw, 1, [], false⟩, ⟨0, 0, .rw, 1, [], false⟩]),
  (0x004, [⟨31, 31, .w1c, 0, [], false⟩, ⟨30, 30, .w1c, 0, [], false⟩, ⟨29, 29, .ro, 0, [], false⟩, ⟨28, 26, .ro, 0, [], false⟩]),
  (0x008, [⟨11, 11, .w1c, 0, [], false⟩, ⟨10, 10, .w1c, 0, [], false⟩, ⟨9, 9, .w1c, 0, [], false⟩, ⟨8, 8, .w1c, 0, [], false⟩, ⟨7, 7, .w1c, 0, [], false⟩, ⟨6, 6, .w1c, 0, [], false⟩, ⟨5, 5, .w1c, 0, [], false⟩, ⟨4, 4, .w1c, 0, [], false⟩, ⟨3, 3, .w1c, 0, [], false⟩, ⟨2, 2, .w1c, 0, [], false⟩, ⟨1, 1, .w1c, 0, [], false⟩, ⟨0, 0, .w1c, 0, [], false⟩]),
  (0x00C, [⟨11, 11, .rw, 0, [], false⟩, ⟨10, 10, .rw, 0, [], false⟩, ⟨9, 9, .rw, 0, [], false⟩, ⟨8, 8, .rw, 0, [], false⟩, ⟨7, 7, .rw, 0, [], false⟩, ⟨6, 6, .rw, 0, [], false⟩, ⟨5, 5, .rw, 0, [], false⟩, ⟨4, 4, .rw, 0, [], false⟩, ⟨3, 3, .rw, 0, [], false⟩, ⟨2, 2, .rw, 0, [], false⟩, ⟨1, 1, .rw, 0, [], false⟩, ⟨0, 0, .rw, 0, [], false⟩]),
  (0x010, [⟨31, 0, .ro, 0, [], false⟩]),
  (0x014, [⟨31, 31, .ro, 0, [], false⟩, ⟨30, 30, .ro, 0, [], false⟩, ⟨29, 25, .ro, 0, [], false⟩, ⟨24, 20, .ro, 0, [], false⟩, ⟨19, 17, .ro, 0, [], false⟩, ⟨16, 15, .ro, 0, [], false⟩]),
  (0x018, [⟨31, 0, .ro, 0, [], false⟩]),
  (0x01C, [⟨31, 0, .ro, 0, [], false⟩]),
  (0x020, [⟨31, 31, .w1s, 0, [], false⟩]),
  (0x024, [⟨9, 8, .ro, 0, [], false⟩, ⟨7, 6, .ro, 0, [], false⟩, ⟨5, 4, .ro, 0, [], false⟩, ⟨2, 0, .rws, 4, [(5, 7)], false⟩]),
  (0x028, [⟨19, 16, .ro, 0, [], false⟩, ⟨15, 12, .w1s, 0, [], false⟩, ⟨11, 8, .ro, 0, [], false⟩, ⟨7, 4, .rws, 0, [(3, 3), (5, 7), (9, 15)], false⟩, ⟨3, 0, .ro, 0, [], false⟩]),
  (0x02C, [⟨15, 8, .rws, 16, [(0, 0)], false⟩, ⟨7, 7, .ro, 0, [], false⟩, ⟨6, 6, .ro, 0, [], false⟩, ⟨5, 4, .rw, 0, [], false⟩, ⟨0, 0, .w1s, 0, [], false⟩])]

/-- Registers and fields of the mc block, part 2. -/
def Blk.mcTable2 : List (Nat × List FieldDef) := [
  (0x030, [⟨23, 16, .ro, 0, [], false⟩, ⟨15, 8, .ro, 0, [], false⟩, ⟨5, 0, .rw, 0, [(40, 63)], false⟩]),
  (0x034, [⟨23, 16, .rw, 20, [(0, 0)], false⟩, ⟨15, 8, .ro, 0, [], false⟩, ⟨7, 0, .ro, 0, [], false⟩]),
  (0x038, [⟨7, 0, .rwl, 24, [(0, 0)], false⟩]),
  (0x03C, [⟨31, 24, .ro, 0, [], false⟩, ⟨21, 0, .ro, 0, [], false⟩]),
  (0x040, [⟨31, 16, .ro, 0, [], false⟩, ⟨15, 0, .ro, 0, [], false⟩]),
  (0x044, [⟨8, 8, .w1s, 0, [], false⟩, ⟨5, 4, .rwl, 0, [], true⟩, ⟨1, 0, .rwl, 0, [], true⟩]),
  (0x048, [⟨31, 31, .ro, 0, [], false⟩, ⟨30, 30, .w1c, 0, [], false⟩, ⟨23, 16, .rw, 10, [(0, 0)], false⟩, ⟨15, 0, .ro, 0, [], false⟩]),
  (0x04C, [⟨31, 29, .wo, 0, [], false⟩, ⟨28, 28, .ro, 0, [], false⟩, ⟨27, 24, .ro, 0, [], false⟩, ⟨5, 0, .rw, 0, [], false⟩]),
  (0x050, [⟨19, 0, .rw, 0, [], false⟩]),
  (0x054, [⟨19, 0, .rw, 0, [], false⟩]),
  (0x058, [⟨22, 22, .rw, 0, [], false⟩, ⟨21, 20, .rw, 0, [], false⟩, ⟨19, 17, .rw, 0, [], false⟩, ⟨16, 0, .rw, 0, [], false⟩]),
  (0x05C, [⟨6, 6, .rw, 0, [], false⟩, ⟨5, 4, .rw, 0, [], false⟩, ⟨3, 3, .rw, 0, [], false⟩, ⟨2, 2, .rw, 0, [], false⟩, ⟨1, 1, .rw, 0, [], false⟩, ⟨0, 0, .ro, 0, [], false⟩])]

/-- Registers and fields of the mc block, part 3. -/
def Blk.mcTable3 : List (Nat × List FieldDef) := [
  (0x060, [⟨15, 0, .rwl, 100, [(0, 0)], false⟩]),
  (0x064, [⟨31, 31, .ro, 0, [], false⟩, ⟨30, 25, .ro, 0, [], false⟩, ⟨15, 0, .ro, 0, [], false⟩])]

/-- Registers and fields of the cmp block, part 1. -/
def Blk.cmpTable1 : List (Nat × List FieldDef) := [
  (0x000, [⟨23, 20, .rws, 15, [], false⟩, ⟨19, 16, .rw, 0, [], false⟩, ⟨14, 12, .rwl, 3, [], false⟩, ⟨1, 1, .rw, 1, [], false⟩, ⟨0, 0, .rw, 1, [], false⟩]),
  (0x004, [⟨31, 31, .w1c, 0, [], false⟩, ⟨30, 30, .w1c, 0, [], false⟩, ⟨29, 29, .ro, 0, [], false⟩, ⟨24, 16, .ro, 0, [], false⟩, ⟨15, 12, .ro, 0, [], false⟩, ⟨11, 8, .ro, 0, [], false⟩]),
  (0x008, [⟨10, 10, .w1c, 0, [], false⟩, ⟨9, 9, .w1c, 0, [], false⟩, ⟨8, 8, .w1c, 0, [], false⟩, ⟨7, 7, .w1c, 0, [], false⟩, ⟨6, 6, .w1c, 0, [], false⟩, ⟨5, 5, .w1c, 0, [], false⟩, ⟨4, 4, .w1c, 0, [], false⟩, ⟨3, 3, .w1c, 0, [], false⟩, ⟨2, 2, .w1c, 0, [], false⟩, ⟨1, 1, .w1c, 0, [], false⟩, ⟨0, 0, .w1c, 0, [], false⟩]),
  (0x00C, [⟨10, 10, .rw, 0, [], false⟩, ⟨9, 9, .rw, 0, [], false⟩, ⟨8, 8, .rw, 0, [], false⟩, ⟨7, 7, .rw, 0, [], false⟩, ⟨6, 6, .rw, 0, [], false⟩, ⟨5, 5, .rw, 0, [], false⟩, ⟨4, 4, .rw, 0, [], false⟩, ⟨3, 3, .rw, 0, [], false⟩, ⟨2, 2, .rw, 0, [], false⟩, ⟨1, 1, .rw, 0, [], false⟩, ⟨0, 0, .rw, 0, [], false⟩]),
  (0x010, [⟨5, 5, .ro, 0, [], false⟩, ⟨4, 4, .ro, 0, [], false⟩, ⟨3, 0, .ro, 0, [], false⟩]),
  (0x014, [⟨4, 1, .rwl, 3, [(10, 15)], true⟩, ⟨0, 0, .w1s, 0, [], false⟩]),
  (0x018, [⟨31, 6, .rwl, 0, [], true⟩]),
  (0x01C, [⟨31, 0, .rwl, 0, [], true⟩]),
  (0x020, [⟨31, 0, .rw, 0, [], false⟩]),
  (0x024, [⟨31, 0, .rw, 0, [], false⟩]),
  (0x028, [⟨31, 0, .rw, 0, [], false⟩]),
  (0x02C, [⟨31, 0, .rw, 0, [], false⟩])]

/-- Registers and fields of the cmp block, part 2. -/
def Blk.cmpTable2 : List (Nat × List FieldDef) := [
  (0x030, [⟨31, 28, .rw, 15, [], false⟩, ⟨27, 24, .rw, 0, [], false⟩, ⟨23, 21, .rw, 7, [(5, 6)], false⟩, ⟨20, 19, .rw, 0, [], false⟩, ⟨12, 0, .rw, 0, [], false⟩]),
  (0x034, [⟨31, 0, .rw, 0, [], false⟩]),
  (0x038, [⟨31, 0, .rw, 0, [], false⟩]),
  (0x03C, [⟨1, 0, .wo, 0, [], false⟩]),
  (0x040, [⟨31, 31, .ro, 0, [], false⟩, ⟨30, 30, .ro, 0, [], false⟩, ⟨29, 16, .ro, 0, [], false⟩, ⟨15, 8, .ro, 0, [], false⟩, ⟨7, 0, .ro, 0, [], false⟩]),
  (0x044, [⟨7, 2, .ro, 0, [], false⟩, ⟨15, 10, .ro, 0, [], false⟩, ⟨23, 18, .ro, 0, [], false⟩, ⟨31, 26, .ro, 0, [], false⟩, ⟨1, 1, .ro, 0, [], false⟩, ⟨9, 9, .ro, 0, [], false⟩, ⟨17, 17, .ro, 0, [], false⟩, ⟨25, 25, .ro, 0, [], false⟩, ⟨0, 0, .w1c, 0, [], false⟩, ⟨8, 8, .w1c, 0, [], false⟩, ⟨16, 16, .w1c, 0, [], false⟩, ⟨24, 24, .w1c, 0, [], false⟩]),
  (0x048, [⟨31, 0, .ro, 0, [], false⟩]),
  (0x04C, [⟨31, 0, .ro, 0, [], false⟩]),
  (0x050, [⟨31, 0, .ro, 0, [], false⟩]),
  (0x054, [⟨31, 0, .ro, 0, [], false⟩]),
  (0x058, [⟨31, 0, .ro, 0, [], false⟩]),
  (0x05C, [⟨31, 16, .ro, 0, [], false⟩, ⟨15, 0, .ro, 0, [], false⟩])]

/-- Registers and fields of the sec block, part 1. -/
def Blk.secTable1 : List (Nat × List FieldDef) := [
  (0x000, [⟨7, 4, .rw, 0, [], false⟩, ⟨1, 1, .w1s, 0, [], false⟩, ⟨0, 0, .rw, 1, [], false⟩]),
  (0x004, [⟨31, 31, .w1c, 0, [], false⟩, ⟨30, 30, .w1c, 0, [], false⟩, ⟨29, 29, .ro, 0, [], false⟩, ⟨28, 28, .ro, 0, [], false⟩, ⟨27, 27, .ro, 0, [], false⟩, ⟨26, 26, .ro, 0, [], false⟩, ⟨15, 0, .ro, 0, [], false⟩]),
  (0x008, [⟨7, 7, .w1c, 0, [], false⟩, ⟨6, 6, .w1c, 0, [], false⟩, ⟨5, 5, .w1c, 0, [], false⟩, ⟨4, 4, .w1c, 0, [], false⟩, ⟨3, 3, .w1c, 0, [], false⟩, ⟨2, 2, .w1c, 0, [], false⟩, ⟨1, 1, .w1c, 0, [], false⟩, ⟨0, 0, .w1c, 0, [], false⟩]),
  (0x00C, [⟨7, 7, .rw, 0, [], false⟩, ⟨6, 6, .rw, 0, [], false⟩, ⟨5, 5, .rw, 0, [], false⟩, ⟨4, 4, .rw, 0, [], false⟩, ⟨3, 3, .rw, 0, [], false⟩, ⟨2, 2, .rw, 0, [], false⟩, ⟨1, 1, .rw, 0, [], false⟩, ⟨0, 0, .rw, 0, [], false⟩]),
  (0x010, [⟨5, 5, .ro, 0, [], false⟩, ⟨4, 4, .ro, 0, [], false⟩, ⟨3, 0, .ro, 0, [], false⟩]),
  (0x014, [⟨31, 0, .wo, 0, [], false⟩]),
  (0x018, [⟨4, 2, .ro, 0, [], false⟩, ⟨1, 1, .w1s, 0, [], false⟩, ⟨0, 0, .w1s, 0, [], false⟩]),
  (0x01C, [⟨1, 1, .w1s, 0, [], false⟩, ⟨0, 0, .rw, 1, [], false⟩]),
  (0x020, [⟨31, 0, .ro, 0, [], false⟩]),
  (0x024, [⟨31, 31, .ro, 0, [], false⟩, ⟨30, 30, .w1c, 0, [], false⟩, ⟨17, 16, .ro, 0, [], false⟩, ⟨15, 0, .ro, 0, [], false⟩]),
  (0x028, [⟨5, 4, .rw, 0, [], false⟩, ⟨3, 3, .w1c, 0, [], false⟩, ⟨2, 2, .ro, 0, [], false⟩, ⟨1, 1, .w1s, 0, [], false⟩, ⟨0, 0, .w1s, 0, [], false⟩]),
  (0x02C, [⟨31, 0, .wo, 0, [], false⟩])]

/-- Registers and fields of the sec block, part 2. -/
def Blk.secTable2 : List (Nat × List FieldDef) := [
  (0x030, [⟨31, 0, .ro, 0, [], false⟩]),
  (0x034, [⟨11, 8, .ro, 0, [], false⟩, ⟨7, 4, .ro, 0, [], false⟩, ⟨3, 0, .ro, 0, [], false⟩]),
  (0x038, [⟨6, 0, .ro, 0, [], false⟩]),
  (0x03C, [⟨31, 28, .ro, 0, [], false⟩, ⟨16, 6, .ro, 0, [], false⟩])]

/-- Registers and fields of the secPage block, part 1. -/
def Blk.secPageTable1 : List (Nat × List FieldDef) := [
  (0x000, [⟨2, 2, .rws, 0, [], false⟩, ⟨1, 1, .rws, 1, [], false⟩, ⟨0, 0, .rw, 0, [], false⟩]),
  (0x004, [⟨31, 31, .w1s, 0, [], false⟩, ⟨5, 0, .rws, 0, [], false⟩]),
  (0x008, [⟨31, 0, .rws, 0, [], false⟩]),
  (0x00C, [⟨31, 30, .ro, 0, [], false⟩, ⟨29, 16, .ro, 0, [], false⟩, ⟨15, 0, .ro, 0, [], false⟩])]

/-- Registers and fields of the host block, part 1. -/
def Blk.hostTable1 : List (Nat × List FieldDef) := [
  (0x000, [⟨7, 4, .rw, 0, [], false⟩, ⟨1, 1, .rw, 1, [], false⟩, ⟨0, 0, .rw, 0, [], false⟩]),
  (0x004, [⟨31, 31, .w1c, 0, [], false⟩, ⟨30, 30, .w1c, 0, [], false⟩, ⟨29, 29, .ro, 0, [], false⟩, ⟨28, 27, .ro, 0, [], false⟩, ⟨26, 26, .ro, 0, [], false⟩, ⟨25, 25, .ro, 0, [], false⟩, ⟨24, 22, .ro, 0, [], false⟩, ⟨21, 18, .ro, 0, [], false⟩, ⟨15, 15, .ro, 0, [], false⟩, ⟨13, 0, .ro, 0, [], false⟩]),
  (0x008, [⟨7, 7, .w1c, 0, [], false⟩, ⟨6, 6, .w1c, 0, [], false⟩, ⟨5, 5, .w1c, 0, [], false⟩, ⟨4, 4, .w1c, 0, [], false⟩, ⟨3, 3, .w1c, 0, [], false⟩, ⟨2, 2, .w1c, 0, [], false⟩, ⟨1, 1, .w1c, 0, [], false⟩, ⟨0, 0, .w1c, 0, [], false⟩]),
  (0x00C, [⟨7, 7, .rw, 0, [], false⟩, ⟨6, 6, .rw, 0, [], false⟩, ⟨5, 5, .rw, 0, [], false⟩, ⟨4, 4, .rw, 0, [], false⟩, ⟨3, 3, .rw, 0, [], false⟩, ⟨2, 2, .rw, 0, [], false⟩, ⟨1, 1, .rw, 0, [], false⟩, ⟨0, 0, .rw, 0, [], false⟩]),
  (0x010, [⟨31, 0, .ro, 0, [], false⟩]),
  (0x014, [⟨31, 0, .ro, 0, [], false⟩]),
  (0x018, [⟨31, 31, .ro, 0, [], false⟩, ⟨30, 30, .ro, 0, [], false⟩, ⟨29, 25, .ro, 0, [], false⟩, ⟨24, 20, .ro, 0, [], false⟩, ⟨19, 17, .ro, 0, [], false⟩, ⟨16, 16, .ro, 0, [], false⟩, ⟨15, 12, .ro, 0, [], false⟩]),
  (0x01C, [⟨31, 0, .ro, 0, [], false⟩]),
  (0x020, [⟨31, 0, .ro, 0, [], false⟩]),
  (0x024, [⟨31, 31, .w1s, 0, [], false⟩]),
  (0x028, [⟨31, 12, .rws, 0, [], false⟩]),
  (0x02C, [⟨31, 0, .rws, 0, [], false⟩])]

/-- Registers and fields of the host block, part 2. -/
def Blk.hostTable2 : List (Nat × List FieldDef) := [
  (0x030, [⟨12, 0, .rws, 0, [(0, 1), (4097, 8191)], false⟩]),
  (0x034, [⟨31, 0, .rwi, 0, [], false⟩]),
  (0x038, [⟨31, 0, .rwi, 0, [], false⟩]),
  (0x03C, [⟨31, 16, .rwi, 8, [], false⟩, ⟨5, 5, .w1c, 0, [], false⟩, ⟨4, 4, .ro, 0, [], false⟩, ⟨2, 2, .rwi, 0, [], false⟩, ⟨1, 0, .rwi, 0, [(3, 3)], false⟩]),
  (0x100, [⟨11, 0, .rwi, 0, [], false⟩]),
  (0x108, [⟨11, 0, .rwi, 0, [], false⟩]),
  (0x110, [⟨11, 0, .rwi, 0, [], false⟩]),
  (0x118, [⟨11, 0, .rwi, 0, [], false⟩]),
  (0x120, [⟨11, 0, .rwi, 0, [], false⟩]),
  (0x128, [⟨11, 0, .rwi, 0, [], false⟩]),
  (0x130, [⟨11, 0, .rwi, 0, [], false⟩]),
  (0x138, [⟨11, 0, .rwi, 0, [], false⟩]),
  (0x140, [⟨11, 0, .rwi, 0, [], false⟩]),
  (0x148, [⟨11, 0, .rwi, 0, [], false⟩]),
  (0x150, [⟨11, 0, .rwi, 0, [], false⟩]),
  (0x158, [⟨11, 0, .rwi, 0, [], false⟩]),
  (0x160, [⟨11, 0, .rwi, 0, [], false⟩]),
  (0x168, [⟨11, 0, .rwi, 0, [], false⟩]),
  (0x170, [⟨11, 0, .rwi, 0, [], false⟩]),
  (0x178, [⟨11, 0, .rwi, 0, [], false⟩]),
  (0x104, [⟨11, 0, .rwi, 0, [], false⟩]),
  (0x10C, [⟨11, 0, .rwi, 0, [], false⟩]),
  (0x114, [⟨11, 0, .rwi, 0, [], false⟩]),
  (0x11C, [⟨11, 0, .rwi, 0, [], false⟩]),
  (0x124, [⟨11, 0, .rwi, 0, [], false⟩]),
  (0x12C, [⟨11, 0, .rwi, 0, [], false⟩]),
  (0x134, [⟨11, 0, .rwi, 0, [], false⟩]),
  (0x13C, [⟨11, 0, .rwi, 0, [], false⟩]),
  (0x144, [⟨11, 0, .rwi, 0, [], false⟩]),
  (0x14C, [⟨11, 0, .rwi, 0, [], false⟩]),
  (0x154, [⟨11, 0, .rwi, 0, [], false⟩]),
  (0x15C, [⟨11, 0, .rwi, 0, [], false⟩]),
  (0x164, [⟨11, 0, .rwi, 0, [], false⟩]),
  (0x16C, [⟨11, 0, .rwi, 0, [], false⟩]),
  (0x174, [⟨11, 0, .rwi, 0, [], false⟩]),
  (0x17C, [⟨11, 0, .rwi, 0, [], false⟩])]

/-- Registers and fields of the tier block, part 1. -/
def Blk.tierTable1 : List (Nat × List FieldDef) := [
  (0x000, [⟨24, 24, .rw, 1, [], false⟩, ⟨23, 16, .rwl, 1, [(0, 0)], false⟩, ⟨15, 9, .rwl, 2, [(0, 0), (101, 127)], false⟩, ⟨7, 4, .rw, 0, [], false⟩, ⟨1, 1, .w1s, 0, [], false⟩, ⟨0, 0, .rw, 1, [], false⟩]),
  (0x004, [⟨31, 31, .w1c, 0, [], false⟩, ⟨30, 30, .w1c, 0, [], false⟩, ⟨29, 29, .ro, 0, [], false⟩, ⟨28, 26, .ro, 0, [], false⟩, ⟨25, 25, .ro, 0, [], false⟩, ⟨24, 19, .ro, 0, [], false⟩, ⟨18, 17, .ro, 0, [], false⟩, ⟨16, 12, .ro, 0, [], false⟩, ⟨11, 11, .ro, 0, [], false⟩, ⟨10, 7, .ro, 0, [], false⟩, ⟨6, 0, .ro, 0, [], false⟩]),
  (0x008, [⟨7, 7, .w1c, 0, [], false⟩, ⟨6, 6, .w1c, 0, [], false⟩, ⟨5, 5, .w1c, 0, [], false⟩, ⟨3, 3, .w1c, 0, [], false⟩, ⟨2, 2, .w1c, 0, [], false⟩, ⟨1, 1, .w1c, 0, [], false⟩, ⟨0, 0, .w1c, 0, [], false⟩]),
  (0x00C, [⟨7, 7, .rw, 0, [], false⟩, ⟨6, 6, .rw, 0, [], false⟩, ⟨5, 5, .rw, 0, [], false⟩, ⟨3, 3, .rw, 0, [], false⟩, ⟨2, 2, .rw, 0, [], false⟩, ⟨1, 1, .rw, 0, [], false⟩, ⟨0, 0, .rw, 0, [], false⟩]),
  (0x010, [⟨31, 0, .rwl, 0, [], true⟩]),
  (0x014, [⟨31, 0, .rwl, 0, [], true⟩])]

/-- Registers and fields of the svc block, part 1. -/
def Blk.svcTable1 : List (Nat × List FieldDef) := [
  (0x000, [⟨31, 31, .w1c, 0, [], false⟩, ⟨30, 30, .w1c, 0, [], false⟩, ⟨29, 29, .ro, 0, [], false⟩, ⟨28, 28, .ro, 0, [], false⟩, ⟨27, 27, .ro, 0, [], false⟩, ⟨26, 26, .ro, 0, [], false⟩, ⟨25, 25, .ro, 0, [], false⟩]),
  (0x004, [⟨8, 8, .w1c, 0, [], false⟩, ⟨7, 7, .w1c, 0, [], false⟩, ⟨6, 6, .w1c, 0, [], false⟩, ⟨5, 5, .w1c, 0, [], false⟩, ⟨4, 4, .w1c, 0, [], false⟩, ⟨3, 3, .w1c, 0, [], false⟩, ⟨2, 2, .w1c, 0, [], false⟩, ⟨1, 1, .w1c, 0, [], false⟩, ⟨0, 0, .w1c, 0, [], false⟩]),
  (0x008, [⟨8, 8, .rw, 0, [], false⟩, ⟨7, 7, .rw, 0, [], false⟩, ⟨6, 6, .rw, 0, [], false⟩, ⟨5, 5, .rw, 0, [], false⟩, ⟨4, 4, .rw, 0, [], false⟩, ⟨3, 3, .rw, 0, [], false⟩, ⟨2, 2, .rw, 0, [], false⟩, ⟨1, 1, .rw, 0, [], false⟩, ⟨0, 0, .rw, 0, [], false⟩]),
  (0x00C, [⟨5, 5, .ro, 0, [], false⟩, ⟨4, 4, .ro, 0, [], false⟩, ⟨3, 0, .ro, 0, [], false⟩]),
  (0x010, [⟨31, 24, .rw, 10, [], false⟩, ⟨23, 20, .rw, 3, [], false⟩, ⟨3, 3, .rw, 1, [], false⟩, ⟨2, 2, .rw, 0, [], false⟩, ⟨1, 1, .rw, 1, [], false⟩, ⟨0, 0, .w1s, 0, [], false⟩]),
  (0x014, [⟨1, 0, .rw, 1, [(0, 0)], false⟩, ⟨3, 2, .rw, 2, [(1, 1)], false⟩, ⟨5, 4, .rw, 3, [(2, 2)], false⟩, ⟨7, 6, .rw, 0, [(3, 3)], false⟩]),
  (0x018, [⟨31, 28, .ro, 0, [], false⟩, ⟨27, 20, .ro, 0, [], false⟩, ⟨19, 12, .ro, 0, [], false⟩]),
  (0x01C, [⟨31, 0, .ro, 0, [], false⟩]),
  (0x020, [⟨31, 0, .ro, 0, [], false⟩]),
  (0x024, [⟨31, 0, .ro, 0, [], false⟩]),
  (0x028, [⟨31, 16, .ro, 0, [], false⟩, ⟨15, 0, .ro, 0, [], false⟩]),
  (0x02C, [⟨31, 0, .ro, 0, [], false⟩])]

/-- Registers and fields of the svc block, part 2. -/
def Blk.svcTable2 : List (Nat × List FieldDef) := [
  (0x030, [⟨31, 0, .ro, 0, [], false⟩]),
  (0x034, [⟨31, 16, .ro, 0, [], false⟩, ⟨15, 0, .ro, 0, [], false⟩]),
  (0x038, [⟨31, 0, .ro, 0, [], false⟩]),
  (0x03C, [⟨31, 0, .ro, 0, [], false⟩]),
  (0x040, [⟨31, 16, .ro, 64, [], false⟩, ⟨15, 0, .ro, 4096, [], false⟩]),
  (0x044, [⟨31, 0, .ro, 0, [], false⟩]),
  (0x048, [⟨31, 16, .ro, 0, [], false⟩, ⟨15, 0, .ro, 0, [], false⟩]),
  (0x04C, [⟨31, 0, .ro, 0, [], false⟩]),
  (0x050, [⟨31, 0, .ro, 0, [], false⟩]),
  (0x054, [⟨31, 16, .ro, 1024, [], false⟩, ⟨15, 0, .ro, 128, [], false⟩]),
  (0x058, [⟨31, 0, .ro, 0, [], false⟩]),
  (0x05C, [⟨31, 0, .ro, 0, [], false⟩])]

/-- Registers and fields of the svc block, part 3. -/
def Blk.svcTable3 : List (Nat × List FieldDef) := [
  (0x060, [⟨31, 16, .ro, 4096, [], false⟩, ⟨15, 0, .ro, 4096, [], false⟩]),
  (0x064, [⟨31, 16, .ro, 0, [], false⟩, ⟨15, 0, .ro, 0, [], false⟩]),
  (0x068, [⟨31, 0, .rw, 0, [], false⟩]),
  (0x06C, [⟨31, 0, .rw, 0, [], false⟩]),
  (0x070, [⟨0, 0, .rw, 0, [], false⟩]),
  (0x074, [⟨31, 31, .w1c, 0, [], false⟩, ⟨30, 30, .ro, 0, [], false⟩, ⟨11, 0, .ro, 0, [], false⟩]),
  (0x078, [⟨31, 23, .ro, 0, [], false⟩]),
  (0x07C, [⟨23, 20, .ro, 15, [], false⟩, ⟨4, 0, .ro, 16, [], false⟩, ⟨9, 5, .ro, 16, [], false⟩, ⟨14, 10, .ro, 16, [], false⟩, ⟨19, 15, .ro, 16, [], false⟩])]

/-- Registers and fields of the therm block, part 1. -/
def Blk.thermTable1 : List (Nat × List FieldDef) := [
  (0x000, [⟨7, 4, .rw, 0, [], false⟩]),
  (0x004, [⟨31, 31, .w1c, 0, [], false⟩, ⟨30, 30, .w1c, 0, [], false⟩, ⟨29, 29, .ro, 0, [], false⟩, ⟨7, 4, .ro, 0, [], false⟩, ⟨0, 0, .ro, 0, [], false⟩]),
  (0x008, [⟨5, 5, .w1c, 0, [], false⟩, ⟨4, 4, .w1c, 0, [], false⟩, ⟨3, 3, .w1c, 0, [], false⟩, ⟨2, 2, .w1c, 0, [], false⟩, ⟨1, 1, .w1c, 0, [], false⟩, ⟨0, 0, .w1c, 0, [], false⟩]),
  (0x00C, [⟨5, 5, .rw, 0, [], false⟩, ⟨4, 4, .rw, 0, [], false⟩, ⟨3, 3, .rw, 0, [], false⟩, ⟨2, 2, .rw, 0, [], false⟩, ⟨1, 1, .rw, 0, [], false⟩, ⟨0, 0, .rw, 0, [], false⟩]),
  (0x010, [⟨5, 5, .ro, 0, [], false⟩, ⟨4, 4, .ro, 0, [], false⟩, ⟨3, 0, .ro, 0, [], false⟩]),
  (0x014, [⟨31, 24, .rw, 110, [], false⟩, ⟨23, 16, .rw, 120, [], false⟩, ⟨15, 8, .rw, 130, [], false⟩, ⟨7, 0, .rw, 5, [(0, 0)], false⟩]),
  (0x018, [⟨31, 16, .ro, 0, [], false⟩, ⟨3, 0, .ro, 0, [], false⟩]),
  (0x01C, [⟨31, 16, .ro, 0, [], false⟩, ⟨15, 0, .ro, 0, [], false⟩]),
  (0x020, [⟨31, 31, .w1c, 0, [], false⟩, ⟨30, 0, .ro, 0, [], false⟩]),
  (0x024, [⟨31, 16, .ro, 0, [], false⟩, ⟨15, 0, .ro, 0, [], false⟩]),
  (0x028, [⟨31, 16, .ro, 0, [], false⟩, ⟨15, 0, .ro, 0, [], false⟩]),
  (0x02C, [⟨31, 16, .ro, 0, [], false⟩, ⟨15, 0, .ro, 0, [], false⟩]),
  (0x030, [⟨31, 16, .ro, 0, [], false⟩, ⟨15, 0, .ro, 0, [], false⟩]),
  (0x034, [⟨31, 16, .ro, 0, [], false⟩, ⟨15, 0, .ro, 0, [], false⟩]),
  (0x038, [⟨31, 16, .ro, 0, [], false⟩, ⟨15, 0, .ro, 0, [], false⟩]),
  (0x03C, [⟨31, 16, .ro, 0, [], false⟩, ⟨15, 0, .ro, 0, [], false⟩]),
  (0x040, [⟨31, 16, .ro, 0, [], false⟩, ⟨15, 0, .ro, 0, [], false⟩]),
  (0x044, [⟨0, 0, .w1s, 0, [], false⟩]),
  (0x048, [⟨13, 0, .ro, 0, [], false⟩])]

/-- Registers and fields of the therm block, part 2. -/
def Blk.thermTable2 : List (Nat × List FieldDef) := [
  (0x04C, [⟨4, 0, .w1c, 0, [], false⟩]),
  (0x050, [⟨31, 16, .rws, 20, [(0, 0)], false⟩, ⟨15, 0, .rws, 5, [(0, 0), (51, 65535)], false⟩]),
  (0x054, [⟨7, 1, .rw, 92, [], false⟩, ⟨0, 0, .rw, 0, [], false⟩]),
  (0x058, [⟨31, 16, .ro, 0, [], false⟩, ⟨7, 0, .ro, 0, [], false⟩]),
  (0x05C, [⟨15, 8, .ro, 2, [], false⟩, ⟨1, 1, .ro, 0, [], false⟩, ⟨0, 0, .ro, 0, [], false⟩])]

/-- The register table of a block kind: offset within an instance, and the fields. -/
def Blk.table : Blk → List (Nat × List FieldDef)
  | .dev => Blk.devTable1 ++ Blk.devTable2
  | .pwr => Blk.pwrTable1 ++ Blk.pwrTable2 ++ Blk.pwrTable3
  | .time => Blk.timeTable1 ++ Blk.timeTable2 ++ Blk.timeTable3
  | .ax => Blk.axTable1
  | .ap => Blk.apTable1
  | .weirg => Blk.weirgTable1 ++ Blk.weirgTable2
  | .adt => Blk.adtTable1
  | .fc => Blk.fcTable1
  | .pond => Blk.pondTable1 ++ Blk.pondTable2
  | .basin => Blk.basinTable1 ++ Blk.basinTable2
  | .mc => Blk.mcTable1 ++ Blk.mcTable2 ++ Blk.mcTable3
  | .cmp => Blk.cmpTable1 ++ Blk.cmpTable2
  | .sec => Blk.secTable1 ++ Blk.secTable2
  | .secPage => Blk.secPageTable1
  | .host => Blk.hostTable1 ++ Blk.hostTable2
  | .tier => Blk.tierTable1
  | .svc => Blk.svcTable1 ++ Blk.svcTable2 ++ Blk.svcTable3
  | .therm => Blk.thermTable1 ++ Blk.thermTable2

end Sys2Proof.Machine
end

