-- ==== Sys2Proof/Machine/Regs.lean ====
section
/-!
DEFINITION. The register fields of a state: where a register stands in the map, the reset value of every field (R31, R32,
the field tables), reading and writing one field, staged values, and the plain effect of a register write by access class
(R37 to R42). Also the accessors of the per-unit records.
-/

namespace Sys2Proof.Machine

/-- The block, instance and offset of a register address (Table 02-1). -/
def locate (a : Nat) : Option (Blk × Nat × Nat) :=
  let one (b : Blk) : Option (Blk × Nat × Nat) := some (b, 0, a - b.base)
  let many (b : Blk) : Option (Blk × Nat × Nat) :=
    let i := (a - b.base) / b.stride
    if i < b.count then some (b, i, (a - b.base) % b.stride) else none
  if a < 0x10000 then one .dev
  else if a < 0x20000 then one .pwr
  else if a < 0x30000 then one .time
  else if a < 0x30400 then many .ax
  else if a < 0x40000 then many .ap
  else if a < 0x50000 then one .weirg
  else if a < 0x60000 then one .adt
  else if a < 0x100000 then none
  else if a < 0x400000 then many .fc
  else if a < 0x900000 then many .pond
  else if a < 0xA00000 then many .basin
  else if a < 0xB00000 then many .mc
  else if a < 0xB10000 then one .cmp
  else if a < 0xB10100 then one .sec
  else if a < 0xC00000 then many .secPage
  else if a < 0xC80000 then one .host
  else if a < 0xD00000 then many .tier
  else if a < 0xE00000 then one .svc
  else one .therm

/-- The rows of a register's field table; none at an address that holds no register (R32). -/
def fieldDefs (a : Nat) : List FieldDef :=
  match locate a with
  | none => []
  | some (b, _, off) =>
    match b.table.find? (fun e => e.1 == off) with
    | none => []
    | some e => e.2

/-- Is the address that of one of the 3,036 registers? -/
def isRegister (a : Nat) : Bool :=
  match locate a with
  | none => false
  | some (b, _, off) => b.table.any (fun e => e.1 == off)

/-- Reset values that depend on the instance, and those the tables leave out (assumption 3 for the named ones). -/
def instReset (b : Blk) (i off lo : Nat) : Option Nat :=
  match b with
  | .pond =>
    if off = 0x004 ∧ lo = 25 then some (if i % 17 = 16 then 1 else 0)
    else if off = 0x038 ∧ lo = 0 then some 0xF
    else if off = 0x03C ∧ lo = 6 then some 0x1FFF
    else if off = 0x004 ∧ lo = 17 then some (if i % 17 = 16 then 0 else 16 * (i / 17) + i % 17)
    else none
  | .mc => if off = 0x060 ∧ lo = 0 then some (if i < 2 then 100 else 0) else none
  | .secPage => if off = 0x004 ∧ lo = 0 then some (if i = 0 then 1 else 0) else none
  | .pwr =>
    if 0x038 ≤ off ∧ off < 0x058 then
      if lo = 4 then some ([3000, 1500, 2000, 3000, 3000, 3000, 3000, 2400].getD ((off - 0x038) / 4) 0)
      else if lo = 1 ∨ lo = 0 then some 1 else none
    else if off = 0x074 then some 0x10000
    else if off = 0x078 then some 0x40002
    else if off = 0x07C then some 0x8
    else none
  | .therm => if off = 0x048 ∧ lo = 0 then some 0x3C0 else none
  | _ => none

/-- The reset value of the field with a key (Fld.key). -/
def fieldReset (key : Nat) : Nat :=
  let a := key / 32
  let lo := key % 32
  match locate a with
  | none => 0
  | some (b, i, off) =>
    match instReset b i off lo with
    | some v => v
    | none =>
      match (fieldDefs a).find? (fun d => d.lo == lo) with
      | none => 0
      | some d => d.rst

/-- The value a field holds. -/
def State.fld (s : State) (f : Fld) : Nat :=
  Tab.get fieldReset s.flds f.key

/-- Set a field, truncated to its width. -/
def State.setFld (s : State) (f : Fld) (v : Nat) : State :=
  { s with flds := Tab.set fieldReset s.flds f.key (v % 2 ^ f.width) }

/-- Set a one-bit field from a Boolean. -/
def State.setBit (s : State) (f : Fld) (v : Bool) : State :=
  s.setFld f (if v then 1 else 0)

/-- Does a one-bit field read 1? -/
def State.bit (s : State) (f : Fld) : Bool :=
  s.fld f == 1

/-- Add to a counter field that saturates at its width (R-rules that say saturating). -/
def State.addSat (s : State) (f : Fld) (k : Nat) : State :=
  s.setFld f (min (s.fld f + k) (2 ^ f.width - 1))

/-- Add to a counter field that wraps. -/
def State.addWrap (s : State) (f : Fld) (k : Nat) : State :=
  s.setFld f (s.fld f + k)

/-- The two's complement reading of a field. -/
def State.sfld (s : State) (f : Fld) : Int :=
  let v := s.fld f
  if v < 2 ^ (f.width - 1) then v else (v : Int) - 2 ^ f.width

/-- Set a field from an integer, in two's complement. -/
def State.setSFld (s : State) (f : Fld) (v : Int) : State :=
  s.setFld f (v % 2 ^ f.width).toNat

/-- The staged value of a field, if one waits. -/
def State.stagedVal (s : State) (f : Fld) : Option Nat :=
  Tab.get (fun _ => none) s.staged f.key

/-- Stage a value, or discard the staged value. -/
def State.stage (s : State) (f : Fld) (v : Option Nat) : State :=
  { s with staged := Tab.set (fun _ => none) s.staged f.key v }

/-- The value a field would have after its staged value is applied. -/
def State.nextVal (s : State) (f : Fld) : Nat :=
  (s.stagedVal f).getD (s.fld f)

/-- Apply the staged value of a field, if one waits. -/
def State.apply (s : State) (f : Fld) : State :=
  match s.stagedVal f with
  | none => s
  | some v => (s.setFld f v).stage f none

/-- A 64-bit value held as a pair of registers. -/
def State.pair (s : State) (lo hi : Fld) : Word :=
  BitVec.ofNat 64 (s.fld hi * 2 ^ 32 + s.fld lo)

def State.setPair (s : State) (lo hi : Fld) (v : Word) : State :=
  (s.setFld lo (v.toNat % 2 ^ 32)).setFld hi (v.toNat / 2 ^ 32)

/-- The device time. -/
def State.dt (s : State) : Word := s.time.dt

/-- The register that holds the configuration bits of a field's block or unit (R37, Table 02-2). -/
def statusReg (a lo : Nat) : Nat :=
  match locate a with
  | none => 0
  | some (b, i, off) =>
    match b with
    | .dev => DEV_STAT.addr
    | .pwr => PWR_STAT.addr
    | .time => TIME_STAT.addr
    | .ax => AX_STAT.addr i
    | .ap => AP_STAT.addr i
    | .weirg => WEIRG_STAT.addr
    | .adt => ADT_STAT.addr
    | .fc =>
      if a = (FC_LAT.LAT_OFFSET i).addr ∧ lo = (FC_LAT.LAT_OFFSET i).lo then WEIR_STAT.addr i
      else if a < WEIR_CTL.addr i then FC_STAT.addr i else WEIR_STAT.addr i
    | .pond => POND_STAT.addr i
    | .basin => BASIN_STAT.addr i
    | .mc => MC_STAT.addr i
    | .cmp => CMP_STAT.addr
    | .sec => SEC_STAT.addr
    | .secPage => SEC_STAT.addr
    | .host => HOST_STAT.addr
    | .tier => if off = 0x010 ∨ off = 0x014 then TIER_STAT.addr 0 else TIER_STAT.addr i
    | .svc => SVC_STAT.addr
    | .therm => THERM_STAT.addr

/-- The enable that gates the RWS fields of a register (Table 02-2; chapter 14 for SEC). -/
def enableOf (a : Nat) : Fld :=
  match locate a with
  | none => DEV_CTL.CFG_LOCK
  | some (b, i, off) =>
    match b with
    | .dev | .pwr | .svc | .therm => DEV_CTL.CFG_LOCK
    | .time => TIME_CTL.EN
    | .ax => AX_CTL.EN i
    | .ap => AP_CTL.EN i
    | .weirg => WEIRG_CTL.EN
    | .adt => ADT_CTL.EN
    | .fc => if a < WEIR_CTL.addr i then FC_CTL.EN i else WEIR_CTL.EN i
    | .pond =>
      if 0x020 ≤ off ∧ off < 0x030 then L2_CTL.EN i
      else if 0x030 ≤ off then PM_CTL.EN i else POND_CTL.EN i
    | .basin => BASIN_CTL.EN i
    | .mc => MC_CTL.EN i
    | .cmp => CMP_CTL.EN
    | .sec => SEC_CTL.EN
    | .secPage => SEC_PG_CTL.EN i
    | .host => HOST_CTL.EN
    | .tier => TIER_CTL.EN i

/-- The COMMIT field of the commit group a field belongs to (Table 02-5). -/
def commitOf (a : Nat) : Fld :=
  match locate a with
  | some (.ax, i, _) => AX_CTL.COMMIT i
  | some (.fc, i, _) => WEIR_CTL.COMMIT i
  | some (.mc, i, _) => MC_SPARE.COMMIT i
  | some (.cmp, _, _) => CMP_TBL.COMMIT
  | some (.tier, _, _) => TIER_CTL.COMMIT 0
  | some (.pond, i, _) => PM_REGION_SEL.COMMIT i
  | _ => ⟨0, 0, 0⟩

/-- The highest ECLK of the device's ordering code, in MHz (R3, R4, Table 00-1): DEV_ID.CODE is 0 on an FXM1024-A30, 1 on an A24. -/
def State.eclkMax (s : State) : Nat := if s.fld DEV_ID.CODE = 1 then 2400 else 3000

/-- The fields whose reset value follows from the ordering code (R4): ECLK_CTL.MHZ, and with it the engine clocks. -/
def State.codeReset (s : State) : State :=
  if s.fld DEV_ID.CODE = 1 then
    [0, 1, 2, 3].foldl (fun (s : State) b => (s.setFld (ECLK_CTL.MHZ b) 2400).setFld (PLL_STAT.MHZ (3 + b)) 2400) s
  else s

/-- The same device under the ordering code FXM1024-A24 right after reset (R4): State.reset is an FXM1024-A30. -/
def State.resetA24 : State := (State.reset.setFld DEV_ID.CODE 1).codeReset

/-- Set CFG_REJECT of the block or unit a field reports to (Table 02-3). -/
def State.reject (s : State) (a lo : Nat) : State :=
  s.setFld ⟨statusReg a lo, 30, 30⟩ 1

/-- Set CFG_MISMATCH. -/
def State.mismatch (s : State) (a lo : Nat) : State :=
  s.setFld ⟨statusReg a lo, 31, 31⟩ 1

/-- Is a value one that the field's table calls undefined (R42)? Beside the tables' own rows: SSI_BITS 0 in an SSI mode and
the ECLK values of R483 are checked where those registers are written. -/
def FieldDef.undefinedVal (d : FieldDef) (v : Nat) : Bool :=
  d.bad.any (fun r => decide (r.1 ≤ v ∧ v ≤ r.2))

/-- One field of a register write, by access class (R38 to R42): `s₀` is the state in which the write arrived, whose enable
gates RWS fields; `extra` says whether a value is undefined for a reason outside the table. -/
def writeField (s₀ : State) (a v : Nat) (extra : Nat → Nat → Bool) (s : State) (d : FieldDef) : State :=
  let f : Fld := ⟨a, d.hi, d.lo⟩
  let c := v / 2 ^ d.lo % 2 ^ f.width
  let cur := s₀.fld f
  let bad := d.undefinedVal c || extra d.lo c
  match d.acc with
  | .ro | .wo => s
  | .rw | .rwi => if bad then s.reject a d.lo else s.setFld f c
  | .w1c => s.setFld f (s.fld f - (s.fld f &&& c))
  | .w1s => s.setFld f (s.fld f ||| c)
  | .rws =>
    if c = cur then s
    else if s₀.bit (enableOf a) then s.reject a d.lo
    else if bad then s.reject a d.lo
    else s.setFld f c
  | .rwl =>
    if c = cur then s
    else if d.grp then (if s₀.bit (commitOf a) then s.reject a d.lo else s.stage f (some c))
    else if bad then s.reject a d.lo
    else s.stage f (some c)

/-- The plain effect of a 32-bit register write, field by field in table order; the fields named by `skip` (by their low
bit) have a behaviour of their own and are left out. -/
def writePlain (s : State) (a v : Nat) (skip : List Nat) (extra : Nat → Nat → Bool) : State :=
  ((fieldDefs a).filter (fun d => !skip.contains d.lo)).foldl (writeField s a v extra) s

/-- Discard every staged value of the fields for which `p` holds (R51). -/
def State.unstage (s : State) (p : Nat → Bool) : State :=
  { s with staged := s.staged.filter (fun e => !p (e.1 / 32)) }

/-- Number of a requester's pair latch (R35). -/
def latchNo : Requester → Nat
  | .bar0 => 0
  | .bar2 => 1
  | .svc => 2
  | .strider w => 3 + 17 * w.pond.val + w.slot.val

def State.axis (s : State) (n : Nat) : AxisSt := Tab.get (fun _ => AxisSt.init) s.axes n
def State.setAxis (s : State) (n : Nat) (v : AxisSt) : State :=
  { s with axes := Tab.set (fun _ => AxisSt.init) s.axes n v }
def State.aport (s : State) (n : Nat) : PortSt := Tab.get (fun _ => PortSt.init) s.aports n
def State.setAport (s : State) (n : Nat) (v : PortSt) : State :=
  { s with aports := Tab.set (fun _ => PortSt.init) s.aports n v }
def State.weir (s : State) (n : Nat) : WeirSt := Tab.get (fun _ => WeirSt.init) s.weirs n
def State.setWeir (s : State) (n : Nat) (v : WeirSt) : State :=
  { s with weirs := Tab.set (fun _ => WeirSt.init) s.weirs n v }
def State.chan (s : State) (n : Nat) : ChanSt := Tab.get (fun _ => ChanSt.init) s.chans n
def State.setChan (s : State) (n : Nat) (v : ChanSt) : State :=
  { s with chans := Tab.set (fun _ => ChanSt.init) s.chans n v }
/-- The place of a strider in the table of striders. -/
def strIdx (w : StrId) : Nat := 17 * w.pond.val + w.slot.val
def State.str (s : State) (w : StrId) : StrSt := Tab.get (fun _ => StrSt.init) s.striders (strIdx w)
def State.setStr (s : State) (w : StrId) (v : StrSt) : State :=
  { s with striders := Tab.set (fun _ => StrSt.init) s.striders (strIdx w) v }
def State.pond (s : State) (n : Nat) : PondSt := Tab.get (fun _ => PondSt.init) s.ponds n
def State.setPond (s : State) (n : Nat) (v : PondSt) : State :=
  { s with ponds := Tab.set (fun _ => PondSt.init) s.ponds n v }
def State.basin (s : State) (n : Nat) : BasinSt := Tab.get (fun _ => BasinSt.init) s.basins n
def State.setBasin (s : State) (n : Nat) (v : BasinSt) : State :=
  { s with basins := Tab.set (fun _ => BasinSt.init) s.basins n v }
def State.mc (s : State) (n : Nat) : McSt := Tab.get (fun _ => McSt.init) s.mcs n
def State.setMc (s : State) (n : Nat) (v : McSt) : State :=
  { s with mcs := Tab.set (fun _ => McSt.init) s.mcs n v }
def State.tport (s : State) (n : Nat) : TierPort := Tab.get (fun _ => TierPort.init) s.tports n
def State.setTport (s : State) (n : Nat) (v : TierPort) : State :=
  { s with tports := Tab.set (fun _ => TierPort.init) s.tports n v }

/-- Drive an output. -/
def State.emit (s : State) (o : Out) : State := { s with out := s.out ++ [o] }

/-- Take the next value of the free-value counter. -/
def State.fresh (s : State) : Nat × State := (s.freeCtr, { s with freeCtr := s.freeCtr + 1 })

/-- Every pond slot, axis and so on by number. -/
def upTo (n : Nat) : List Nat := List.range n

/-- The striders of a pond. -/
def pondStriders (p : Fin 68) : List StrId := (List.finRange 17).map (fun k => ⟨p, k⟩)

/-- The basin of a physical pond (Table 00-3). -/
def basinOf (p : Nat) : Nat := p / 17

end Sys2Proof.Machine
end

