-- ==== Sys2Proof/Machine/Operands.lean ====
section
/-!
DEFINITION. The operand forms of strider instructions (chapter 7): registers, prefixes and lengths (R185, R187), immediates and
displacements (R186), and the addresses of formats M and S (Table 07-10).
-/

namespace Sys2Proof.Machine

/-- A general register: X0 reads 0 (Table 07-1). -/
def StrSt.xr (t : StrSt) (r : RegNo) : Word := if r.val = 0 then 0 else Tab.get (fun _ => 0) t.x r.val

/-- Writes to X0 are discarded. -/
def StrSt.setX (t : StrSt) (r : RegNo) (v : Word) : StrSt :=
  if r.val = 0 then t else { t with x := Tab.set (fun _ => 0) t.x r.val v }

/-- A floating-point register. -/
def StrSt.fr (t : StrSt) (r : RegNo) : Word := Tab.get (fun _ => 0) t.f r.val

def StrSt.setF (t : StrSt) (r : RegNo) (v : Word) : StrSt := { t with f := Tab.set (fun _ => 0) t.f r.val v }

def StrSt.flags (t : StrSt) (f : Flags) : StrSt := { t with psw := pswFlags t.psw f }

def State.setX (s : State) (w : StrId) (r : RegNo) (v : Word) : State := s.setStr w ((s.str w).setX r v)

def State.setF (s : State) (w : StrId) (r : RegNo) (v : Word) : State := s.setStr w ((s.str w).setF r v)

/-- Loop registers by level. -/
def StrSt.lsr (t : StrSt) (i : Nat) : Word := Tab.get (fun _ => 0) t.ls i
def StrSt.ler (t : StrSt) (i : Nat) : Word := Tab.get (fun _ => 0) t.le i
def StrSt.lcr (t : StrSt) (i : Nat) : Word := Tab.get (fun _ => 0) t.lc i

/-- Prefix bytes of an instruction outside CX. -/
def prefixLen (p : Pfx) : Nat := (if p.rep then 1 else 0) + (if p.nt then 1 else 0) + (if p.wide then 1 else 0)

/-- Operand bytes of formats I and S (Table 07-5). -/
def lenI (p : Pfx) : Nat := if p.wide then 10 else 6
def lenS (p : Pfx) : Nat := if p.wide then 12 else 8

/-- The immediate of formats I and S: imm32 sign-extended, or imm64 with WIDE (R186). -/
def immOf (p : Pfx) (imm : Word) : Word := if p.wide then imm else (imm.setWidth 32).signExtend 64

def disp16 (d : BitVec 16) : Word := d.signExtend 64

def disp32 (d : Word32) : Word := d.signExtend 64

/-- The address of formats M and S (Table 07-10): with U the base itself. -/
def memAddr (base disp : Word) (u : Bool) : Word := if u then base else base + disp

/-- The byte of format A as an operand (TRAP). -/
def fmtAByte (f : FmtA) : Nat := f.r.val + 32 * f.x.toNat

/-- Unused register fields are zero (R188). -/
def zeroReg (r : RegNo) : Bool := r.val == 0

/-- The next register number of a pair. -/
def nextReg (r : RegNo) : RegNo := Fin.ofNat 32 (r.val + 1)

end Sys2Proof.Machine
end

