-- ==== Sys2Proof/Machine/Bytes.lean ====
section
/-!
DEFINITION. Bytes of words and of lists: little-endian and big-endian values, slices, and the CRC-32C of frames (R121).
-/

namespace Sys2Proof.Machine

/-- The `n` low bytes of a number, least significant first. -/
def leBytes : Nat → Nat → List Byte
  | 0, _ => []
  | n + 1, v => BitVec.ofNat 8 v :: leBytes n (v / 256)

/-- The number whose bytes these are, least significant first. -/
def leNat : List Byte → Nat
  | [] => 0
  | b :: t => b.toNat + 256 * leNat t

/-- The `n` low bytes of a number, most significant first. -/
def beBytes (n v : Nat) : List Byte := (leBytes n v).reverse

/-- The number whose bytes these are, most significant first. -/
def beNat (l : List Byte) : Nat := leNat l.reverse

/-- `n` bytes from offset `o`; bytes past the end read 0. -/
def slice (l : List Byte) (o n : Nat) : List Byte :=
  let t := (l.drop o).take n
  t ++ List.replicate (n - t.length) 0

/-- The little-endian number in `n` bytes from offset `o`. -/
def leAt (l : List Byte) (o n : Nat) : Nat := leNat (slice l o n)

/-- Overwrite bytes from offset `o`. -/
def patch (l : List Byte) (o : Nat) (b : List Byte) : List Byte :=
  l.take o ++ b ++ l.drop (o + b.length)

/-- `n` zero bytes. -/
def zeros (n : Nat) : List Byte := List.replicate n 0

/-- One byte into a CRC-32C in progress (polynomial 0x1EDC6F41, reflected). -/
def crcByte (c : BitVec 32) (b : Byte) : BitVec 32 :=
  (List.range 8).foldl
    (fun (c : BitVec 32) _ => if c.getLsbD 0 then (c >>> 1) ^^^ 0x82F63B78#32 else c >>> 1) (c ^^^ b.setWidth 32)

/-- CRC-32C of bytes (R121): initial value all ones, final complement. -/
def crc32c (l : List Byte) : BitVec 32 :=
  ~~~ (l.foldl crcByte 0xFFFFFFFF#32)

/-- Signed reading of a number of `w` bits. -/
def signed (w v : Nat) : Int :=
  let u := v % 2 ^ w
  if u < 2 ^ (w - 1) then u else (u : Int) - 2 ^ w

/-- Signed difference of two device times (R58). -/
def dtDiff (a b : Word) : Int := (a - b).toInt

/-- Is DT `a` at or after `b` (R58)? -/
def dtGe (a b : Word) : Bool := decide (0 ≤ dtDiff a b)

/-- Ticks in a number of µs: TBCLK is 3.000 GHz (R57). -/
def usTicks (us : Nat) : Nat := 3000 * us

/-- Has DT reached `t` plus a number of ticks? -/
def elapsed (now t : Word) (ticks : Nat) : Bool := dtGe now (t + BitVec.ofNat 64 ticks)

end Sys2Proof.Machine
end

