-- ==== Sys2Proof/Machine/Codec.lean ====
section
/-!
DEFINITION. The pattern codec (chapter 6): elements and residues (R158 to R161), symbols and the bitstream (R162, R163), code
tables (R164 to R166), and the block header (R168, Table 06-5).
-/

namespace Sys2Proof.Machine

/-- Elements of a byte, `b` bits each, the first in the least significant bits (R158). -/
def byteElems (b : Nat) (x : Byte) : List Nat := (List.range (8 / b)).map (fun k => x.toNat / 2 ^ (k * b) % 2 ^ b)

def lineElems (b : Nat) (l : List Byte) : List Nat := l.flatMap (byteElems b)

/-- Pack elements into `n` bytes. -/
def packElems (b : Nat) : Nat → List Nat → List Byte
  | 0, _ => []
  | n + 1, l => BitVec.ofNat 8 ((l.take (8 / b)).zipIdx.foldl (fun acc e => acc + e.1 * 2 ^ (e.2 * b)) 0) :: packElems b n (l.drop (8 / b))

/-- Is a predictor defined and valid for elements of `b` bits (Table 06-2)? -/
def predValid (b code : Nat) : Bool := decide (code ≤ 2) || (code == 3 && b == 1) || (code == 4 && b != 1)

/-- The predictors of Table 06-2 from the left, above and above-left neighbours. -/
def predict (code a c d : Nat) : Nat :=
  match code with
  | 0 => a
  | 1 => c
  | 2 => d
  | 3 => if 2 ≤ a + c + d then 1 else 0
  | _ => if a + c < d + min a c then min a c else if d + max a c < a + c then max a c else a + c - d

/-- The mapped residue of an element (R161). -/
def mapRes (b x p : Nat) : Nat :=
  if b = 1 then x ^^^ p
  else
    let r := (x + 2 ^ b - p) % 2 ^ b
    if r < 2 ^ (b - 1) then 2 * r else 2 * (2 ^ b - r) - 1

/-- The element of a mapped residue (R161). -/
def unmapRes (b m p : Nat) : Nat :=
  if b = 1 then m ^^^ p
  else
    let r := if m % 2 = 0 then m / 2 else 2 ^ b - (m + 1) / 2
    (p + r) % 2 ^ b

/-- Residues of a line: left and above-left neighbour, then the elements with those above them. -/
def encodeLine (b code : Nat) : Nat → Nat → List (Nat × Nat) → List Nat
  | _, _, [] => []
  | a, d, (x, c) :: rest => mapRes b x (predict code a c d) :: encodeLine b code x c rest

/-- Elements of a line from residues with the elements above. -/
def decodeLine (b code : Nat) : Nat → Nat → List (Nat × Nat) → List Nat
  | _, _, [] => []
  | a, d, (m, c) :: rest =>
    let x := unmapRes b m (predict code a c d)
    x :: decodeLine b code x c rest

/-- The lines of a tile. -/
def tileLines (lb : Nat) : Nat → List Byte → List (List Byte)
  | 0, _ => []
  | n + 1, l => l.take lb :: tileLines lb n (l.drop lb)

/-- The units of a tile (R160, R161). -/
def tileUnits (b code lb h : Nat) (tile : List Byte) : List Byte :=
  let w := 8 * lb / b
  ((tileLines lb h tile).foldl (fun (acc : List Nat × List (List Byte)) l =>
    let x := lineElems b l
    (x, packElems b lb (encodeLine b code 0 0 (x.zip acc.1)) :: acc.2)) (List.replicate w 0, [])).2.reverse.flatten

/-- The tile of units. -/
def unitsTile (b code lb h : Nat) (units : List Byte) : List Byte :=
  let w := 8 * lb / b
  ((tileLines lb h units).foldl (fun (acc : List Nat × List (List Byte)) l =>
    let x := decodeLine b code 0 0 ((lineElems b l).zip acc.1)
    (x, packElems b lb x :: acc.2)) (List.replicate w 0, [])).2.reverse.flatten

/-- Run symbols of `n` zero units, greedily (R162): `k` is the largest run symbol still to be tried. -/
def runSyms : Nat → Nat → List Nat
  | 0, n => List.replicate n 0
  | k + 1, n => List.replicate (n / 2 ^ (k + 1)) (256 + k) ++ runSyms k (n % 2 ^ (k + 1))

/-- Symbols of units (R162): `z` zero units are pending. -/
def unitSyms : Nat → List Byte → List Nat
  | z, [] => runSyms 12 z
  | z, u :: rest => if u = 0 then unitSyms (z + 1) rest else runSyms 12 z ++ u.toNat :: unitSyms 0 rest

/-- A length profile of Table 06-3: counts of ranks with their length. -/
def profile (k : Nat) : List Nat :=
  let rep (n l : Nat) : List Nat := List.replicate n l
  match k with
  | 0 => rep 1 2 ++ rep 4 3 ++ rep 8 6 ++ rep 8 7 ++ rep 9 11 ++ rep 238 12
  | 1 => rep 1 2 ++ rep 20 5 ++ rep 28 9 ++ rep 69 11 ++ rep 150 12
  | 2 => rep 1 1 ++ rep 12 6 ++ rep 2 4 ++ rep 4 6 ++ rep 8 8 ++ rep 143 11 ++ rep 98 12
  | _ => rep 1 3 ++ rep 181 8 ++ rep 86 9

/-- Number of 1 bits. -/
def popNat (v : Nat) : Nat := ((List.range 8).filter (fun i => Nat.testBit v i)).length

/-- The symbol orders of Table 06-3, by rank. -/
def symOrder (orderB : Bool) : List Nat :=
  let lit := (List.range 255).map (· + 1)
  let lit := if orderB then (List.range 9).flatMap (fun c => lit.filter (fun v => popNat v == c)) else lit
  0 :: (List.range 12).map (256 + ·) ++ lit

/-- The lengths of a static table by symbol (R165, Table 06-4). -/
def staticTable (k : Nat) : List Nat :=
  let prof := [0, 1, 2, 3, 0, 1, 2, 3].getD k 0
  let orderB := [true, true, false, false, false, false, true, true].getD k false
  let byRank := (symOrder orderB).zip (profile prof)
  (List.range 268).map (fun s => ((byRank.find? (fun e => e.1 == s)).map (·.2)).getD 0)

/-- Is a table valid (R164)? -/
def tableValid (lens : List Nat) : Bool :=
  let used := lens.filter (· != 0)
  used.all (fun l => decide (l ≤ 15)) &&
  ((used.map (fun l => 2 ^ (15 - l))).sum == 2 ^ 15 || used == [1])

/-- The first code and the symbols of each length from 1 to 15 (R164). -/
def codeRows (lens : List Nat) : List (Nat × List Nat) :=
  ((List.range 15).foldl (fun (acc : Nat × Nat × List (Nat × List Nat)) i =>
    let l := i + 1
    let syms := (lens.zipIdx.filter (fun e => e.1 == l)).map (·.2)
    let first := (acc.1 + acc.2.1) * 2
    (first, syms.length, acc.2.2 ++ [(first, syms)])) (0, 0, [])).2.2

/-- Bits of a number, most significant first. -/
def bitsOf (n v : Nat) : List Bool := ((List.range n).map (fun i => Nat.testBit v i)).reverse

/-- The code of a symbol; none when it is absent. -/
def codeOf (rows : List (Nat × List Nat)) (s : Nat) : Option (List Bool) :=
  rows.zipIdx.findSome? (fun e => (e.1.2.findIdx? (· == s)).map (fun i => bitsOf (e.2 + 1) (e.1.1 + i)))

/-- Pack bits into bytes, bit 7 first, padded with 0 (R163). -/
def packBits : Nat → List Bool → List Byte
  | 0, _ => []
  | n + 1, l =>
    let b := (l.take 8) ++ List.replicate (8 - (l.take 8).length) false
    BitVec.ofNat 8 (b.foldl (fun acc x => 2 * acc + if x then 1 else 0) 0) :: packBits n (l.drop 8)

def byteBits (l : List Byte) : List Bool := l.flatMap (fun b => bitsOf 8 b.toNat)

/-- The payload of symbols under a table; none when a symbol is absent from it. -/
def encodeSyms (lens : List Nat) (syms : List Nat) : Option (List Byte) :=
  let rows := codeRows lens
  let codes := (List.range 268).map (codeOf rows)
  if syms.any (fun s => (codes.getD s none).isNone) then none
  else
    let bits := syms.flatMap (fun s => (codes.getD s none).getD [])
    some (packBits ((bits.length + 7) / 8) bits)

/-- Read one symbol. -/
def readSym : List (Nat × List Nat) → Nat → List Bool → Option (Nat × List Bool)
  | [], _, _ => none
  | _, _, [] => none
  | (first, syms) :: rows, c, b :: bs =>
    let c := 2 * c + if b then 1 else 0
    if first ≤ c ∧ c - first < syms.length then some (syms.getD (c - first) 0, bs) else readSym rows c bs

/-- Decode units (R163), newest first: `left` units are still to come. -/
def decodeSyms (rows : List (Nat × List Nat)) : Nat → Nat → List Bool → List Byte → Option (List Byte)
  | 0, left, bits, acc => if left = 0 ∧ bits.length < 8 ∧ bits.all (! ·) then some acc.reverse else none
  | fuel + 1, left, bits, acc =>
    if left = 0 then (if bits.length < 8 ∧ bits.all (! ·) then some acc.reverse else none)
    else match readSym rows 0 bits with
      | none => none
      | some (s, bits) =>
        if s < 256 then decodeSyms rows fuel (left - 1) bits (BitVec.ofNat 8 s :: acc)
        else
          let n := 2 ^ (s - 255)
          if left < n then none else decodeSyms rows fuel (left - n) bits (zeros n ++ acc)

/-- The units of a payload; none when it is not well formed (R163, R164). -/
def decodeUnits (lens : List Nat) (n : Nat) (payload : List Byte) : Option (List Byte) :=
  decodeSyms (codeRows lens) n n (byteBits payload) []

/-- The lengths a dynamic table's 136 bytes carry; none when it is not valid (R164, R166). -/
def dynLens (t : List Byte) : Option (List Nat) :=
  let l := (t.take 134).flatMap (fun b => [b.toNat % 16, b.toNat / 16])
  if l.length = 268 ∧ (slice t 134 2).all (· == 0) ∧ tableValid l then some l else none

/-- The 136 bytes of a table of lengths (R166). -/
def dynBytes (lens : List Nat) : List Byte :=
  (List.range 134).map (fun i => BitVec.ofNat 8 (lens.getD (2 * i) 0 + 16 * lens.getD (2 * i + 1) 0)) ++ zeros 2

/-- How often each symbol occurs. -/
def symCounts (syms : List Nat) : List Nat := (List.range 268).map (fun s => syms.count s)

/-- Insert a package by weight. -/
def putPackage (x : Nat × List Nat) : List (Nat × List Nat) → List (Nat × List Nat)
  | [] => [x]
  | y :: t => if y.1 ≤ x.1 then y :: putPackage x t else x :: y :: t

/-- Pair neighbouring packages. -/
def pairUp : List (Nat × List Nat) → List (Nat × List Nat)
  | x :: y :: t => (x.1 + y.1, x.2 ++ y.2) :: pairUp t
  | _ => []

/-- A length-limited code of least total length for symbol counts (R166), by package merging. -/
def bestLens (counts : List Nat) : List Nat :=
  let used := (counts.zipIdx.filter (fun e => e.1 != 0)).map (fun e => (e.1, [e.2]))
  match used with
  | [] => List.replicate 268 0
  | [(_, s)] => (List.range 268).map (fun k => if s == [k] then 1 else 0)
  | _ =>
    let merged := (List.range 15).foldl (fun prev _ => used.foldl (fun acc x => putPackage x acc) (pairUp prev)) []
    let all := ((merged.take (2 * used.length - 2)).map (·.2)).flatten
    (List.range 268).map (fun k => all.count k)

/-- Total length in bits under a table. -/
def codedBits (counts lens : List Nat) : Nat := (List.zipWith (· * ·) counts lens).sum

/-- The table a lane built for symbol counts: the one given when it is one of the codes of least total length, since the
lane may produce any of them (R166); otherwise the one of `bestLens`. -/
def laneLens (counts given : List Nat) : List Nat :=
  let best := bestLens counts
  let ok := given.length == 268 && tableValid given && codedBits counts given == codedBits counts best &&
    (List.zipWith (fun (c l : Nat) => c == 0 || l != 0) counts given).all id
  if ok then given else best

/-- A block header (Table 06-5) without its tag. -/
structure BlkHdr where
  raw   : Bool
  dyn   : Bool
  fallback : Bool
  vfail : Bool
  pred  : Nat
  bits  : Nat
  stab  : Nat
  lb    : Nat
  plen  : Nat
  crc   : Word32
  pat   : Nat
  tile  : Nat
  deriving DecidableEq, Repr

/-- Lines of a tile (R157). -/
def tileH (lb : Nat) : Nat := 4096 / lb

/-- Header bytes 0 to 31. -/
def BlkHdr.bytes (h : BlkHdr) : List Byte :=
  let f (b : Bool) (k : Nat) : Nat := if b then 2 ^ k else 0
  leBytes 1 1 ++ leBytes 1 (f h.raw 0 + f h.dyn 1 + f h.fallback 2 + f h.vfail 3) ++ leBytes 1 (h.pred + 8 * h.bits) ++
  leBytes 1 h.stab ++ leBytes 2 h.lb ++ zeros 2 ++ leBytes 2 h.plen ++ zeros 2 ++ leBytes 4 h.crc.toNat ++
  leBytes 4 h.pat ++ leBytes 4 h.tile ++ zeros 8

/-- Is a line length one of R157? -/
def lbOk (lb : Nat) : Bool := lb % 8 == 0 && decide (8 ≤ lb ∧ lb ≤ 4096)

/-- A header as read (Table 06-8 step 2): none where FMT, a reserved field, a length or the flags are not as R168 has them.
DESIGN CHOICE (assumption 121): RAW with DYN, PRED or STAB is undefined by R168; RAW or DYN with FALLBACK, and VFAIL without RAW, are taken
as undefined too. -/
def readHdr (b : List Byte) : Option BlkHdr :=
  let f := leAt b 1 1
  let h : BlkHdr :=
   { raw := f % 2 == 1, dyn := f / 2 % 2 == 1, fallback := f / 4 % 2 == 1, vfail := f / 8 % 2 == 1,
     pred := leAt b 2 1 % 8, bits := leAt b 2 1 / 8 % 4, stab := leAt b 3 1 % 8, lb := leAt b 4 2, plen := leAt b 8 2,
     crc := BitVec.ofNat 32 (leAt b 12 4), pat := leAt b 16 4, tile := leAt b 20 4 }
  let flags := !(h.raw && (h.dyn || h.fallback || h.pred != 0 || h.stab != 0 || h.plen != tileH h.lb * h.lb)) &&
    !(h.dyn && h.fallback) && !(h.vfail && !h.raw)
  if leAt b 0 1 = 1 ∧ f < 16 ∧ leAt b 2 1 < 32 ∧ leAt b 3 1 < 8 ∧ lbOk h.lb ∧ leAt b 6 2 = 0 ∧ 1 ≤ h.plen ∧ h.plen ≤ 4096 ∧
      leAt b 10 2 = 0 ∧ leAt b 24 8 = 0 ∧ flags then some h else none

/-- Bits of an element (Table 06-1). -/
def elemBits (code : Nat) : Nat := [1, 2, 4, 8].getD code 1

/-- Decode a block's tile from its table and payload (Table 06-8 step 5); none for FORMAT. -/
def decodeTile (h : BlkHdr) (table payload : List Byte) : Option (List Byte) :=
  let b := elemBits h.bits
  let n := tileH h.lb * h.lb
  if h.raw then some payload
  else if !predValid b h.pred then none
  else
    let lens := if h.dyn then dynLens table else some (staticTable h.stab)
    match lens with
    | none => none
    | some l => (decodeUnits l n payload).map (unitsTile b h.pred h.lb (tileH h.lb))

/-- Length of a block in memory (R168). -/
def blockLen (h : BlkHdr) : Nat := (48 + (if h.dyn then 136 else 0) + h.plen + 63) / 64 * 64

end Sys2Proof.Machine
end

