-- ==== Sys2Proof/Config.lean ====
section
/-!
DEFINITION. What the spec leaves open: free values. Each is an opaque constant with no body, so nothing can be proved of the
value it gives; it is applied to the operands the value depends on, or to a count of the state for a fresh value each time.
-/

namespace Sys2Proof

/-- A word the spec leaves open, fresh for each count. -/
opaque Config.free : Nat → Nat

/-- The change of the firefly rate correction, in units of 2^-32, that a term θ / 2^KI_SHIFT in 1/8 fine tick makes (R81 gives the
term, and no unit between a time and a rate). -/
opaque Config.ffRate : Rat → Int

/-- The device unique secret of the OTP (Table 14-1): 32 bytes that only the key-derivation hardware reads. -/
opaque Config.dus : List Byte

/-- The device serial of the OTP (Table 14-1). -/
opaque Config.serial : Word

/-- The attestation public key of a generation, 60 bytes (R415 to R417). -/
opaque Config.attKey : Nat → List Byte

/-- The attestation signature of a generation and index over a message, 5,076 bytes (R415). -/
opaque Config.attSign : Nat → Nat → List Byte → List Byte

/-- The vendor certificate of the manufactured attestation key (Table 14-2). -/
opaque Config.vendorCert : List Byte

/-- Link generation and lane count of the PCI Express link once it is up (Table 15-16). -/
opaque Config.hostSpeed : Nat
opaque Config.hostWidth : Nat

/-- The boot image of a flash slot (R495, R466), false slot A, true slot B, with the customer image that its customer slot holds. -/
opaque Config.bootImage : Bool → List Byte → List Byte

/-- The customer image and the encrypted vendor microcode image that a boot image holds (R266 to R268); the spec gives no layout. -/
opaque Config.bootCustomer : List Byte → List Byte
opaque Config.bootVendor : List Byte → List Byte

/-- The microcode key of the OTP (R266, Table 14-1). -/
opaque Config.ucKey : List Byte

/-- A word of an encrypted vendor image under a key, by AES-256-CTR (R266); the spec gives neither the image's layout nor its counter. -/
opaque Config.vendorWord : List Byte → List Byte → Nat → BitVec 160

/-- Index, in the device-wide output log, of the record of a task and ordinal (R388). -/
opaque Config.logIndex : Nat → Nat → Nat

/-- What boot ROM finds of an image pushed to it (Table 14-4 steps 2 to 5): 0, or a failure code. -/
opaque Config.bootCode : List Byte → Nat

end Sys2Proof
end

