-- ==== Sys2Proof/Machine/FaultMap.lean ====
section
/-!
DEFINITION. The fault bits of every block (R372 and the fault tables of every chapter): for each bit the block code of
Table 13-5, its number in a fault record, its class, and whether it counts for escalation (R373, R375).
-/

namespace Sys2Proof.Machine

/-- The fault classes of Table 13-1. -/
inductive Cls where
  | c | r | d | s
  deriving DecidableEq, Repr

/-- The number of a class in a fault record (Table 13-4). -/
def Cls.num : Cls → Nat
  | .c => 0 | .r => 1 | .d => 2 | .s => 3

/-- The class one above (R375); class S does not escalate further. -/
def Cls.up : Cls → Cls
  | .c => .r | .r => .d | .d => .s | .s => .s

/-- A fault bit: the block code and instance of Table 13-5 and the bit number of a fault record. -/
structure FaultBit where
  blk  : Nat
  inst : Nat
  bit  : Nat
  deriving DecidableEq, Repr

def Flt.DEV_REGPAR : FaultBit := ⟨0x0, 0, 1⟩
def Flt.DEV_REG_TMO : FaultBit := ⟨0x0, 0, 0⟩
def Flt.TIME_REGPAR : FaultBit := ⟨0x2, 0, 5⟩
def Flt.TIME_SLEW_CLIP : FaultBit := ⟨0x2, 0, 4⟩
def Flt.TIME_FF_LOST : FaultBit := ⟨0x2, 0, 3⟩
def Flt.TIME_AON_CAL_RANGE : FaultBit := ⟨0x2, 0, 2⟩
def Flt.TIME_FINE_UNLOCK : FaultBit := ⟨0x2, 0, 1⟩
def Flt.TIME_TBCLK_LOSS : FaultBit := ⟨0x2, 0, 0⟩
def Flt.AX_LOST (n : Nat) : FaultBit := ⟨0x3, n, 3⟩
def Flt.AX_SRCLOST (n : Nat) : FaultBit := ⟨0x3, n, 2⟩
def Flt.AX_OVERSPEED (n : Nat) : FaultBit := ⟨0x3, n, 1⟩
def Flt.AX_ZMIS (n : Nat) : FaultBit := ⟨0x3, n, 0⟩
def Flt.AP_JUMP (n : Nat) : FaultBit := ⟨0x4, n, 3⟩
def Flt.AP_SSIERR (n : Nat) : FaultBit := ⟨0x4, n, 2⟩
def Flt.AP_RATE (n : Nat) : FaultBit := ⟨0x4, n, 1⟩
def Flt.AP_QERR (n : Nat) : FaultBit := ⟨0x4, n, 0⟩
def Flt.WEIR_REGPAR (n : Nat) : FaultBit := ⟨0x7, n, 36⟩
def Flt.WEIR_STOPLATE (n : Nat) : FaultBit := ⟨0x7, n, 35⟩
def Flt.WEIR_ADTERR (n : Nat) : FaultBit := ⟨0x7, n, 34⟩
def Flt.WEIR_RPTSTALL (n : Nat) : FaultBit := ⟨0x7, n, 33⟩
def Flt.WEIR_TRIMSAT (n : Nat) : FaultBit := ⟨0x7, n, 32⟩
def Flt.WEIRG_REGPAR : FaultBit := ⟨0x5, 0, 3⟩
def Flt.WEIRG_RPTQ : FaultBit := ⟨0x5, 0, 2⟩
def Flt.WEIRG_ADMIT : FaultBit := ⟨0x5, 0, 1⟩
def Flt.WEIRG_SPDLIM : FaultBit := ⟨0x5, 0, 0⟩
def Flt.ADT_REGPAR : FaultBit := ⟨0x6, 0, 2⟩
def Flt.ADT_UE : FaultBit := ⟨0x6, 0, 1⟩
def Flt.ADT_CE : FaultBit := ⟨0x6, 0, 0⟩
def Flt.FC_REGPAR (n : Nat) : FaultBit := ⟨0x7, n, 17⟩
def Flt.FC_DOWN (n : Nat) : FaultBit := ⟨0x7, n, 16⟩
def Flt.FC_HELLO_BAD (n : Nat) : FaultBit := ⟨0x7, n, 15⟩
def Flt.FC_PLL (n : Nat) : FaultBit := ⟨0x7, n, 14⟩
def Flt.FC_SYNCLOSS (n : Nat) : FaultBit := ⟨0x7, n, 13⟩
def Flt.FC_RETRAIN (n : Nat) : FaultBit := ⟨0x7, n, 12⟩
def Flt.FC_QUAR (n : Nat) : FaultBit := ⟨0x7, n, 11⟩
def Flt.FC_PARTNER (n : Nat) : FaultBit := ⟨0x7, n, 10⟩
def Flt.FC_SENSE_DROP (n : Nat) : FaultBit := ⟨0x7, n, 9⟩
def Flt.FC_LINKERR (n : Nat) : FaultBit := ⟨0x7, n, 8⟩
def Flt.FC_V_BAD_RECORD (n : Nat) : FaultBit := ⟨0x7, n, 7⟩
def Flt.FC_V_WRONG_DIR (n : Nat) : FaultBit := ⟨0x7, n, 6⟩
def Flt.FC_V_SILENCE (n : Nat) : FaultBit := ⟨0x7, n, 5⟩
def Flt.FC_V_ACK_UNSENT (n : Nat) : FaultBit := ⟨0x7, n, 4⟩
def Flt.FC_V_DUP_OUTSIDE (n : Nat) : FaultBit := ⟨0x7, n, 3⟩
def Flt.FC_V_OVERSIZE (n : Nat) : FaultBit := ⟨0x7, n, 2⟩
def Flt.FC_V_UNKNOWN_TYPE (n : Nat) : FaultBit := ⟨0x7, n, 1⟩
def Flt.FC_V_WRONG_SEQ (n : Nat) : FaultBit := ⟨0x7, n, 0⟩
def Flt.CMP_REGPAR : FaultBit := ⟨0xB, 0, 10⟩
def Flt.CMP_LANE_DOWN : FaultBit := ⟨0xB, 0, 9⟩
def Flt.CMP_REQ_BAD : FaultBit := ⟨0xB, 0, 8⟩
def Flt.CMP_CRC : FaultBit := ⟨0xB, 0, 7⟩
def Flt.CMP_FORMAT : FaultBit := ⟨0xB, 0, 6⟩
def Flt.CMP_POISON : FaultBit := ⟨0xB, 0, 5⟩
def Flt.CMP_AUTH : FaultBit := ⟨0xB, 0, 4⟩
def Flt.CMP_PRESET_BAD : FaultBit := ⟨0xB, 0, 3⟩
def Flt.CMP_LANE_ERR : FaultBit := ⟨0xB, 0, 2⟩
def Flt.CMP_VMIS2 : FaultBit := ⟨0xB, 0, 1⟩
def Flt.CMP_VMIS1 : FaultBit := ⟨0xB, 0, 0⟩
def Flt.POND_REGPAR (n : Nat) : FaultBit := ⟨0x8, n, 15⟩
def Flt.POND_MARCH_UNREP (n : Nat) : FaultBit := ⟨0x8, n, 14⟩
def Flt.POND_POND_LOST (n : Nat) : FaultBit := ⟨0x8, n, 13⟩
def Flt.POND_STRIDER_RETIRED (n : Nat) : FaultBit := ⟨0x8, n, 12⟩
def Flt.POND_RETRY (n : Nat) : FaultBit := ⟨0x8, n, 11⟩
def Flt.POND_CS_UE (n : Nat) : FaultBit := ⟨0x8, n, 10⟩
def Flt.POND_CS_CE (n : Nat) : FaultBit := ⟨0x8, n, 9⟩
def Flt.POND_PM_REGION (n : Nat) : FaultBit := ⟨0x8, n, 8⟩
def Flt.POND_PM_UE (n : Nat) : FaultBit := ⟨0x8, n, 7⟩
def Flt.POND_PM_CE (n : Nat) : FaultBit := ⟨0x8, n, 6⟩
def Flt.POND_WAY_MIN (n : Nat) : FaultBit := ⟨0x8, n, 5⟩
def Flt.POND_WAY_OFF (n : Nat) : FaultBit := ⟨0x8, n, 4⟩
def Flt.POND_L2_TAG_UE (n : Nat) : FaultBit := ⟨0x8, n, 3⟩
def Flt.POND_L2_UE (n : Nat) : FaultBit := ⟨0x8, n, 2⟩
def Flt.POND_L2_CE (n : Nat) : FaultBit := ⟨0x8, n, 1⟩
def Flt.POND_L1_PAR (n : Nat) : FaultBit := ⟨0x8, n, 0⟩
def Flt.BASIN_REGPAR (n : Nat) : FaultBit := ⟨0x9, n, 8⟩
def Flt.BASIN_RING_DOWN (n : Nat) : FaultBit := ⟨0x9, n, 7⟩
def Flt.BASIN_HOME_DEAD (n : Nat) : FaultBit := ⟨0x9, n, 6⟩
def Flt.BASIN_PROTO (n : Nat) : FaultBit := ⟨0x9, n, 5⟩
def Flt.BASIN_LINES_LOST (n : Nat) : FaultBit := ⟨0x9, n, 4⟩
def Flt.BASIN_SF_UE (n : Nat) : FaultBit := ⟨0x9, n, 3⟩
def Flt.BASIN_JRN_ERR (n : Nat) : FaultBit := ⟨0x9, n, 2⟩
def Flt.BASIN_RING_CE (n : Nat) : FaultBit := ⟨0x9, n, 1⟩
def Flt.BASIN_SF_CE (n : Nat) : FaultBit := ⟨0x9, n, 0⟩
def Flt.MC_REGPAR (n : Nat) : FaultBit := ⟨0xA, n, 11⟩
def Flt.MC_CH_DOWN (n : Nat) : FaultBit := ⟨0xA, n, 10⟩
def Flt.MC_CMD_ERR (n : Nat) : FaultBit := ⟨0xA, n, 9⟩
def Flt.MC_RETRAIN_FAIL (n : Nat) : FaultBit := ⟨0xA, n, 8⟩
def Flt.MC_VMAP_UE (n : Nat) : FaultBit := ⟨0xA, n, 7⟩
def Flt.MC_UE (n : Nat) : FaultBit := ⟨0xA, n, 6⟩
def Flt.MC_MIGRATED (n : Nat) : FaultBit := ⟨0xA, n, 5⟩
def Flt.MC_NOSPARE (n : Nat) : FaultBit := ⟨0xA, n, 4⟩
def Flt.MC_NOREGION (n : Nat) : FaultBit := ⟨0xA, n, 3⟩
def Flt.MC_DRIFT (n : Nat) : FaultBit := ⟨0xA, n, 2⟩
def Flt.MC_MIRROR_FIX (n : Nat) : FaultBit := ⟨0xA, n, 1⟩
def Flt.MC_CE (n : Nat) : FaultBit := ⟨0xA, n, 0⟩
def Flt.SVC_REGPAR : FaultBit := ⟨0xF, 0, 8⟩
def Flt.SVC_NO_STANDBY : FaultBit := ⟨0xF, 0, 7⟩
def Flt.SVC_LOCKSTEP : FaultBit := ⟨0xF, 0, 6⟩
def Flt.SVC_QUEUE_DROP : FaultBit := ⟨0xF, 0, 5⟩
def Flt.SVC_JRN_LOST : FaultBit := ⟨0xF, 0, 4⟩
def Flt.SVC_REPLAY_LIMIT : FaultBit := ⟨0xF, 0, 3⟩
def Flt.SVC_UC_REFUSED : FaultBit := ⟨0xF, 0, 2⟩
def Flt.SVC_TAIL_TRUNC : FaultBit := ⟨0xF, 0, 1⟩
def Flt.SVC_LOG_OVF : FaultBit := ⟨0xF, 0, 0⟩
def Flt.SEC_RNG_HEALTH : FaultBit := ⟨0xC, 0, 7⟩
def Flt.SEC_REGPAR : FaultBit := ⟨0xC, 0, 6⟩
def Flt.SEC_OTP_UE : FaultBit := ⟨0xC, 0, 5⟩
def Flt.SEC_STORE_LOST : FaultBit := ⟨0xC, 0, 4⟩
def Flt.SEC_RNG_DEAD : FaultBit := ⟨0xC, 0, 3⟩
def Flt.SEC_DP_PARITY : FaultBit := ⟨0xC, 0, 2⟩
def Flt.SEC_STORE_ERR : FaultBit := ⟨0xC, 0, 1⟩
def Flt.SEC_OTP_CE : FaultBit := ⟨0xC, 0, 0⟩
def Flt.HOST_REGPAR : FaultBit := ⟨0xD, 0, 7⟩
def Flt.HOST_LINK : FaultBit := ⟨0xD, 0, 6⟩
def Flt.HOST_DMA : FaultBit := ⟨0xD, 0, 5⟩
def Flt.HOST_PKT_BAD : FaultBit := ⟨0xD, 0, 4⟩
def Flt.HOST_BAR2_OFF : FaultBit := ⟨0xD, 0, 3⟩
def Flt.HOST_DP_POISON : FaultBit := ⟨0xD, 0, 2⟩
def Flt.HOST_DP_RANGE : FaultBit := ⟨0xD, 0, 1⟩
def Flt.HOST_DB_BAD : FaultBit := ⟨0xD, 0, 0⟩
def Flt.TIER_REGPAR (n : Nat) : FaultBit := ⟨0xE, n, 7⟩
def Flt.TIER_ROUTE_DROP (n : Nat) : FaultBit := ⟨0xE, n, 6⟩
def Flt.TIER_DOWN (n : Nat) : FaultBit := ⟨0xE, n, 5⟩
def Flt.TIER_BOOT_FAIL (n : Nat) : FaultBit := ⟨0xE, n, 3⟩
def Flt.TIER_RETRAIN (n : Nat) : FaultBit := ⟨0xE, n, 2⟩
def Flt.TIER_VIOL (n : Nat) : FaultBit := ⟨0xE, n, 1⟩
def Flt.TIER_LINKERR (n : Nat) : FaultBit := ⟨0xE, n, 0⟩
def Flt.PWR_REGPAR : FaultBit := ⟨0x1, 0, 6⟩
def Flt.PWR_UV : FaultBit := ⟨0x1, 0, 5⟩
def Flt.PWR_RESUME_FAIL : FaultBit := ⟨0x1, 0, 4⟩
def Flt.PWR_ENTRY_ABORT : FaultBit := ⟨0x1, 0, 3⟩
def Flt.PWR_VMARGIN : FaultBit := ⟨0x1, 0, 2⟩
def Flt.PWR_AVS_NAK : FaultBit := ⟨0x1, 0, 1⟩
def Flt.PWR_PLL_UNLOCK : FaultBit := ⟨0x1, 0, 0⟩
def Flt.THERM_REGPAR : FaultBit := ⟨0x10, 0, 5⟩
def Flt.THERM_CRIT : FaultBit := ⟨0x10, 0, 4⟩
def Flt.THERM_THROTTLE : FaultBit := ⟨0x10, 0, 3⟩
def Flt.THERM_WARN : FaultBit := ⟨0x10, 0, 2⟩
def Flt.THERM_SENSOR : FaultBit := ⟨0x10, 0, 1⟩
def Flt.THERM_PIN_GLITCH : FaultBit := ⟨0x10, 0, 0⟩
def Flt.LANE_LERR (k : Nat) : FaultBit := ⟨0xB, k + 1, 0⟩

/-- One row of the fault map: block code, bit number, register field of an instance, class, and whether it counts. -/
structure FaultRow where
  blk    : Nat
  bit    : Nat
  cls    : Cls
  counts : Bool
  deriving DecidableEq, Repr

/-- The classes of all fault bits. -/
def faultRows : List FaultRow :=
  [⟨0x0, 1, .s, true⟩, ⟨0x0, 0, .r, true⟩] ++
  [⟨0x1, 6, .s, true⟩, ⟨0x1, 5, .s, true⟩, ⟨0x1, 4, .c, true⟩, ⟨0x1, 3, .c, true⟩, ⟨0x1, 2, .r, true⟩, ⟨0x1, 1, .c, true⟩, ⟨0x1, 0, .r, true⟩] ++
  [⟨0x2, 5, .s, true⟩, ⟨0x2, 4, .c, true⟩, ⟨0x2, 3, .r, true⟩, ⟨0x2, 2, .c, true⟩, ⟨0x2, 1, .r, true⟩, ⟨0x2, 0, .s, true⟩] ++
  [⟨0x3, 3, .d, true⟩, ⟨0x3, 2, .r, true⟩, ⟨0x3, 1, .c, true⟩, ⟨0x3, 0, .c, true⟩] ++
  [⟨0x4, 3, .r, true⟩, ⟨0x4, 2, .r, true⟩, ⟨0x4, 1, .r, true⟩, ⟨0x4, 0, .r, true⟩] ++
  [⟨0x5, 3, .s, true⟩, ⟨0x5, 2, .r, true⟩, ⟨0x5, 1, .c, true⟩, ⟨0x5, 0, .c, true⟩] ++
  [⟨0x6, 2, .s, true⟩, ⟨0x6, 1, .r, true⟩, ⟨0x6, 0, .c, true⟩] ++
  [⟨0x7, 36, .s, true⟩, ⟨0x7, 35, .s, true⟩, ⟨0x7, 34, .r, true⟩, ⟨0x7, 33, .c, true⟩, ⟨0x7, 32, .c, true⟩, ⟨0x7, 17, .s, true⟩, ⟨0x7, 16, .d, true⟩, ⟨0x7, 15, .r, true⟩, ⟨0x7, 14, .r, true⟩, ⟨0x7, 13, .r, true⟩, ⟨0x7, 12, .r, true⟩, ⟨0x7, 11, .r, true⟩, ⟨0x7, 10, .c, true⟩, ⟨0x7, 9, .c, true⟩, ⟨0x7, 8, .c, true⟩, ⟨0x7, 7, .c, false⟩, ⟨0x7, 6, .c, false⟩, ⟨0x7, 5, .c, false⟩, ⟨0x7, 4, .c, false⟩, ⟨0x7, 3, .c, false⟩, ⟨0x7, 2, .c, false⟩, ⟨0x7, 1, .c, false⟩, ⟨0x7, 0, .c, false⟩] ++
  [⟨0x8, 15, .s, true⟩, ⟨0x8, 14, .d, true⟩, ⟨0x8, 13, .d, true⟩, ⟨0x8, 12, .d, true⟩, ⟨0x8, 11, .c, true⟩, ⟨0x8, 10, .r, true⟩, ⟨0x8, 9, .c, true⟩, ⟨0x8, 8, .c, true⟩, ⟨0x8, 7, .r, true⟩, ⟨0x8, 6, .c, true⟩, ⟨0x8, 5, .d, true⟩, ⟨0x8, 4, .c, true⟩, ⟨0x8, 3, .r, true⟩, ⟨0x8, 2, .r, true⟩, ⟨0x8, 1, .c, true⟩, ⟨0x8, 0, .c, true⟩] ++
  [⟨0x9, 8, .s, true⟩, ⟨0x9, 7, .d, true⟩, ⟨0x9, 6, .d, true⟩, ⟨0x9, 5, .d, true⟩, ⟨0x9, 4, .r, true⟩, ⟨0x9, 3, .r, true⟩, ⟨0x9, 2, .r, true⟩, ⟨0x9, 1, .c, true⟩, ⟨0x9, 0, .c, true⟩] ++
  [⟨0xA, 11, .s, true⟩, ⟨0xA, 10, .d, true⟩, ⟨0xA, 9, .r, true⟩, ⟨0xA, 8, .r, true⟩, ⟨0xA, 7, .r, true⟩, ⟨0xA, 6, .r, true⟩, ⟨0xA, 5, .c, true⟩, ⟨0xA, 4, .c, true⟩, ⟨0xA, 3, .c, true⟩, ⟨0xA, 2, .c, true⟩, ⟨0xA, 1, .c, true⟩, ⟨0xA, 0, .c, true⟩] ++
  [⟨0xB, 10, .s, true⟩, ⟨0xB, 9, .d, false⟩, ⟨0xB, 8, .c, false⟩, ⟨0xB, 7, .r, false⟩, ⟨0xB, 6, .r, false⟩, ⟨0xB, 5, .r, false⟩, ⟨0xB, 4, .r, false⟩, ⟨0xB, 3, .c, true⟩, ⟨0xB, 2, .r, false⟩, ⟨0xB, 1, .r, false⟩, ⟨0xB, 0, .c, true⟩] ++
  [⟨0xC, 7, .c, true⟩, ⟨0xC, 6, .s, true⟩, ⟨0xC, 5, .d, true⟩, ⟨0xC, 4, .d, true⟩, ⟨0xC, 3, .d, true⟩, ⟨0xC, 2, .r, true⟩, ⟨0xC, 1, .r, true⟩, ⟨0xC, 0, .c, true⟩] ++
  [⟨0xD, 7, .s, true⟩, ⟨0xD, 6, .r, true⟩, ⟨0xD, 5, .r, true⟩, ⟨0xD, 4, .c, false⟩, ⟨0xD, 3, .c, false⟩, ⟨0xD, 2, .c, false⟩, ⟨0xD, 1, .c, false⟩, ⟨0xD, 0, .c, false⟩] ++
  [⟨0xE, 7, .s, true⟩, ⟨0xE, 6, .c, true⟩, ⟨0xE, 5, .d, true⟩, ⟨0xE, 3, .r, true⟩, ⟨0xE, 2, .r, true⟩, ⟨0xE, 1, .c, true⟩, ⟨0xE, 0, .c, true⟩] ++
  [⟨0xF, 8, .s, true⟩, ⟨0xF, 7, .d, true⟩, ⟨0xF, 6, .r, true⟩, ⟨0xF, 5, .r, false⟩, ⟨0xF, 4, .r, true⟩, ⟨0xF, 3, .r, false⟩, ⟨0xF, 2, .c, true⟩, ⟨0xF, 1, .c, true⟩, ⟨0xF, 0, .c, true⟩] ++
  [⟨0x10, 5, .s, true⟩, ⟨0x10, 4, .s, true⟩, ⟨0x10, 3, .r, true⟩, ⟨0x10, 2, .c, true⟩, ⟨0x10, 1, .c, true⟩, ⟨0x10, 0, .c, true⟩] ++
  [⟨0xB, 32, .r, true⟩]

/-- The register field of a fault bit. -/
def FaultBit.fld (b : FaultBit) : Fld :=
  match b.blk, b.bit with
  | 0x0, 1 => DEV_FAULT.REGPAR
  | 0x0, 0 => DEV_FAULT.REG_TMO
  | 0x2, 5 => TIME_FAULT.REGPAR
  | 0x2, 4 => TIME_FAULT.SLEW_CLIP
  | 0x2, 3 => TIME_FAULT.FF_LOST
  | 0x2, 2 => TIME_FAULT.AON_CAL_RANGE
  | 0x2, 1 => TIME_FAULT.FINE_UNLOCK
  | 0x2, 0 => TIME_FAULT.TBCLK_LOSS
  | 0x3, 3 => AX_STAT.LOST b.inst
  | 0x3, 2 => AX_STAT.SRCLOST b.inst
  | 0x3, 1 => AX_STAT.OVERSPEED b.inst
  | 0x3, 0 => AX_STAT.ZMIS b.inst
  | 0x4, 3 => AP_STAT.JUMP b.inst
  | 0x4, 2 => AP_STAT.SSIERR b.inst
  | 0x4, 1 => AP_STAT.RATE b.inst
  | 0x4, 0 => AP_STAT.QERR b.inst
  | 0x7, 36 => WEIR_STAT.REGPAR b.inst
  | 0x7, 35 => WEIR_STAT.STOPLATE b.inst
  | 0x7, 34 => WEIR_STAT.ADTERR b.inst
  | 0x7, 33 => WEIR_STAT.RPTSTALL b.inst
  | 0x7, 32 => WEIR_STAT.TRIMSAT b.inst
  | 0x5, 3 => WEIRG_FAULT.REGPAR
  | 0x5, 2 => WEIRG_FAULT.RPTQ
  | 0x5, 1 => WEIRG_FAULT.ADMIT
  | 0x5, 0 => WEIRG_FAULT.SPDLIM
  | 0x6, 2 => ADT_FAULT.REGPAR
  | 0x6, 1 => ADT_FAULT.UE
  | 0x6, 0 => ADT_FAULT.CE
  | 0x7, 17 => FC_FAULT.REGPAR b.inst
  | 0x7, 16 => FC_FAULT.DOWN b.inst
  | 0x7, 15 => FC_FAULT.HELLO_BAD b.inst
  | 0x7, 14 => FC_FAULT.PLL b.inst
  | 0x7, 13 => FC_FAULT.SYNCLOSS b.inst
  | 0x7, 12 => FC_FAULT.RETRAIN b.inst
  | 0x7, 11 => FC_FAULT.QUAR b.inst
  | 0x7, 10 => FC_FAULT.PARTNER b.inst
  | 0x7, 9 => FC_FAULT.SENSE_DROP b.inst
  | 0x7, 8 => FC_FAULT.LINKERR b.inst
  | 0x7, 7 => FC_FAULT.V_BAD_RECORD b.inst
  | 0x7, 6 => FC_FAULT.V_WRONG_DIR b.inst
  | 0x7, 5 => FC_FAULT.V_SILENCE b.inst
  | 0x7, 4 => FC_FAULT.V_ACK_UNSENT b.inst
  | 0x7, 3 => FC_FAULT.V_DUP_OUTSIDE b.inst
  | 0x7, 2 => FC_FAULT.V_OVERSIZE b.inst
  | 0x7, 1 => FC_FAULT.V_UNKNOWN_TYPE b.inst
  | 0x7, 0 => FC_FAULT.V_WRONG_SEQ b.inst
  | 0x8, 15 => POND_FAULT.REGPAR b.inst
  | 0x8, 14 => POND_FAULT.MARCH_UNREP b.inst
  | 0x8, 13 => POND_FAULT.POND_LOST b.inst
  | 0x8, 12 => POND_FAULT.STRIDER_RETIRED b.inst
  | 0x8, 11 => POND_FAULT.RETRY b.inst
  | 0x8, 10 => POND_FAULT.CS_UE b.inst
  | 0x8, 9 => POND_FAULT.CS_CE b.inst
  | 0x8, 8 => POND_FAULT.PM_REGION b.inst
  | 0x8, 7 => POND_FAULT.PM_UE b.inst
  | 0x8, 6 => POND_FAULT.PM_CE b.inst
  | 0x8, 5 => POND_FAULT.WAY_MIN b.inst
  | 0x8, 4 => POND_FAULT.WAY_OFF b.inst
  | 0x8, 3 => POND_FAULT.L2_TAG_UE b.inst
  | 0x8, 2 => POND_FAULT.L2_UE b.inst
  | 0x8, 1 => POND_FAULT.L2_CE b.inst
  | 0x8, 0 => POND_FAULT.L1_PAR b.inst
  | 0x9, 8 => BASIN_FAULT.REGPAR b.inst
  | 0x9, 7 => BASIN_FAULT.RING_DOWN b.inst
  | 0x9, 6 => BASIN_FAULT.HOME_DEAD b.inst
  | 0x9, 5 => BASIN_FAULT.PROTO b.inst
  | 0x9, 4 => BASIN_FAULT.LINES_LOST b.inst
  | 0x9, 3 => BASIN_FAULT.SF_UE b.inst
  | 0x9, 2 => BASIN_FAULT.JRN_ERR b.inst
  | 0x9, 1 => BASIN_FAULT.RING_CE b.inst
  | 0x9, 0 => BASIN_FAULT.SF_CE b.inst
  | 0xA, 11 => MC_FAULT.REGPAR b.inst
  | 0xA, 10 => MC_FAULT.CH_DOWN b.inst
  | 0xA, 9 => MC_FAULT.CMD_ERR b.inst
  | 0xA, 8 => MC_FAULT.RETRAIN_FAIL b.inst
  | 0xA, 7 => MC_FAULT.VMAP_UE b.inst
  | 0xA, 6 => MC_FAULT.UE b.inst
  | 0xA, 5 => MC_FAULT.MIGRATED b.inst
  | 0xA, 4 => MC_FAULT.NOSPARE b.inst
  | 0xA, 3 => MC_FAULT.NOREGION b.inst
  | 0xA, 2 => MC_FAULT.DRIFT b.inst
  | 0xA, 1 => MC_FAULT.MIRROR_FIX b.inst
  | 0xA, 0 => MC_FAULT.CE b.inst
  | 0xF, 8 => SVC_FAULT.REGPAR
  | 0xF, 7 => SVC_FAULT.NO_STANDBY
  | 0xF, 6 => SVC_FAULT.LOCKSTEP
  | 0xF, 5 => SVC_FAULT.QUEUE_DROP
  | 0xF, 4 => SVC_FAULT.JRN_LOST
  | 0xF, 3 => SVC_FAULT.REPLAY_LIMIT
  | 0xF, 2 => SVC_FAULT.UC_REFUSED
  | 0xF, 1 => SVC_FAULT.TAIL_TRUNC
  | 0xF, 0 => SVC_FAULT.LOG_OVF
  | 0xC, 7 => SEC_FAULT.RNG_HEALTH
  | 0xC, 6 => SEC_FAULT.REGPAR
  | 0xC, 5 => SEC_FAULT.OTP_UE
  | 0xC, 4 => SEC_FAULT.STORE_LOST
  | 0xC, 3 => SEC_FAULT.RNG_DEAD
  | 0xC, 2 => SEC_FAULT.DP_PARITY
  | 0xC, 1 => SEC_FAULT.STORE_ERR
  | 0xC, 0 => SEC_FAULT.OTP_CE
  | 0xD, 7 => HOST_FAULT.REGPAR
  | 0xD, 6 => HOST_FAULT.LINK
  | 0xD, 5 => HOST_FAULT.DMA
  | 0xD, 4 => HOST_FAULT.PKT_BAD
  | 0xD, 3 => HOST_FAULT.BAR2_OFF
  | 0xD, 2 => HOST_FAULT.DP_POISON
  | 0xD, 1 => HOST_FAULT.DP_RANGE
  | 0xD, 0 => HOST_FAULT.DB_BAD
  | 0xE, 7 => TIER_FAULT.REGPAR b.inst
  | 0xE, 6 => TIER_FAULT.ROUTE_DROP b.inst
  | 0xE, 5 => TIER_FAULT.DOWN b.inst
  | 0xE, 3 => TIER_FAULT.BOOT_FAIL b.inst
  | 0xE, 2 => TIER_FAULT.RETRAIN b.inst
  | 0xE, 1 => TIER_FAULT.VIOL b.inst
  | 0xE, 0 => TIER_FAULT.LINKERR b.inst
  | 0x1, 6 => PWR_FAULT.REGPAR
  | 0x1, 5 => PWR_FAULT.UV
  | 0x1, 4 => PWR_FAULT.RESUME_FAIL
  | 0x1, 3 => PWR_FAULT.ENTRY_ABORT
  | 0x1, 2 => PWR_FAULT.VMARGIN
  | 0x1, 1 => PWR_FAULT.AVS_NAK
  | 0x1, 0 => PWR_FAULT.PLL_UNLOCK
  | 0x10, 5 => THERM_FAULT.REGPAR
  | 0x10, 4 => THERM_FAULT.CRIT
  | 0x10, 3 => THERM_FAULT.THROTTLE
  | 0x10, 2 => THERM_FAULT.WARN
  | 0x10, 1 => THERM_FAULT.SENSOR
  | 0x10, 0 => THERM_FAULT.PIN_GLITCH
  | 0xB, bit =>
    match b.inst with
    | 0 => ⟨CMP_FAULT.addr, bit, bit⟩
    | 1 => CMP_LANE.LERR0
    | 2 => CMP_LANE.LERR1
    | 3 => CMP_LANE.LERR2
    | _ => CMP_LANE.LERR3
  | _, _ => ⟨DEV_FAULT.addr, 31, 31⟩

/-- The row of a fault bit; lane faults of the CMP are the row with bit 32. -/
def FaultBit.row (b : FaultBit) : FaultRow :=
  let bit := if b.blk = 0xB ∧ b.inst ≠ 0 then 32 else b.bit
  (faultRows.find? (fun r => r.blk = b.blk ∧ r.bit = bit)).getD ⟨b.blk, b.bit, .s, false⟩

/-- The fault bits of one unit of escalation (Table 13-2). -/
def unitBits (blk inst : Nat) : List FaultBit :=
  if blk = 0xB ∧ inst ≠ 0 then [⟨blk, inst, 0⟩]
  else (faultRows.filter (fun r => r.blk = blk ∧ ¬ (blk = 0xB ∧ r.bit = 32))).map (fun r => ⟨blk, inst, r.bit⟩)

/-- Instances of each block code of Table 13-5. -/
def faultUnits : List (Nat × Nat) :=
  [(0, 1), (1, 1), (2, 1), (3, 16), (4, 8), (5, 1), (6, 1), (7, 96), (8, 68), (9, 4), (0xA, 8), (0xB, 5), (0xC, 1),
   (0xD, 1), (0xE, 8), (0xF, 1), (0x10, 1)]

end Sys2Proof.Machine
end

