-- ==== Sys2Proof/Machine/HostOut.lean ====
section
/-!
DEFINITION. What the device writes toward the host: posted writes to host memory, MSI-X messages, and the fault log (R433,
R431, R454, R379); and messages queued on a tier port (R462, R463).
-/

namespace Sys2Proof.Machine

/-- Does a DMA of the device over these host addresses succeed? -/
def State.hostOk (s : State) (a n : Nat) : Bool :=
  !(s.host.dmaBad.any (fun r => decide (a < r.1 + r.2 ∧ r.1 < a + n)))

/-- A posted write to host memory; in D3hot it waits until the function returns to D0 (R431). -/
def State.hostPut (s : State) (a : Nat) (b : List Byte) : State :=
  if s.host.d3 then { s with host := { s.host with held := s.host.held ++ [(a, b)] } } else s.emit (.host a b)

/-- Set or clear the pending bit of a vector. -/
def State.setPend (s : State) (v : Nat) (p : Bool) : State :=
  { s with host := { s.host with msixPend := Tab.set (fun _ => false) s.host.msixPend v p } }

/-- Is a vector masked? -/
def State.masked (s : State) (v : Nat) : Bool := Tab.get (fun _ => true) s.host.masked v

/-- Signal a vector (R433): nothing while MSI-X is disabled; a masked vector sets its pending bit. -/
def State.msix (s : State) (v : Nat) : State :=
  if !s.host.msixOn then s
  else if s.masked v || s.host.d3 then s.setPend v true
  else s.emit (.msix v)

/-- The role of the device (DEV_POS.ROLE): is it a worker? -/
def State.isWorker (s : State) : Bool := s.fld DEV_POS.ROLE == 1

/-- Queue a message on a tier port (R462, R463). The message number is the sender's count. Records for an uplink that is neither
UP nor in a retrain episode are held (R476). -/
def State.sendMsg (s : State) (t cls mtype dest : Nat) (body : List Byte) (poison : List Nat) : State :=
  let st := s.fld (TIER_STAT.STATE t)
  if s.isWorker && t == 0 && (mtype == 3 || mtype == 9) && st != 3 && st != 4 then
    { s with tree := { s.tree with heldRecs := s.tree.heldRecs ++ [(mtype, body)] } }
  else
  let p := s.tport t
  let route : BitVec 16 := BitVec.ofNat 16 (dest % 64 + 64 * (s.tree.num % 64))
  let m : OutMsg := { cls := cls, mtype := mtype, route := route, msgId := s.tree.msgId, body := body, poison := poison, sent := 0 }
  { s.setTport t { p with msgs := p.msgs ++ [m] } with tree := { s.tree with msgId := s.tree.msgId + 1 } }

/-- The bytes of a fault record (Table 13-4). -/
def Record.bytes (r : Record) : List Byte :=
  leBytes 8 r.dt.toNat ++ leBytes 1 r.device ++ leBytes 1 r.block ++ leBytes 2 r.inst ++ leBytes 1 r.bit ++
  leBytes 1 (r.cls + 4 * r.final + (if r.esc then 16 else 0) + (if r.ovf then 32 else 0)) ++ leBytes 2 r.rseq ++
  leBytes 8 r.addr ++ leBytes 4 r.info ++ leBytes 4 r.detail

/-- A dropped record (R379). -/
def State.logDrop (s : State) : State :=
  let s := s.addSat SVC_LOGCNT.DROPPED 1
  { s with due := s.due ++ [.fault 0xF 0 0 0 0 0] }

/-- Write one record, as bytes, to the host fault log (R454): a full ring reads the head word once and then drops; a failed
write drops and sets HOST_FAULT.DMA. Without a log nothing is written. -/
def State.logBytes (s : State) (b : List Byte) : State :=
  match s.host.log with
  | none => s
  | some l =>
    let full (seen : Word32) : Bool := decide (l.n ≤ (BitVec.ofNat 32 l.count - seen).toNat)
    let seen := if full l.seen then s.host.headWord else l.seen
    let l := { l with seen := seen }
    let s := { s with host := { s.host with log := some l } }
    if full seen then s.logDrop
    else
      let a := l.base + 32 * (l.count % l.n)
      if s.hostOk a 32 && s.hostOk l.tail 8 then
        let l' := { l with count := (l.count + 1) % 2 ^ 32 }
        let s := { s with host := { s.host with log := some l' } }
        ((s.hostPut a b).hostPut l.tail (leBytes 8 l'.count)).msix 62
      else
        let s := s.addSat SVC_LOGCNT.DROPPED 1
        { s with due := s.due ++ [.fault 0xD 0 5 (if s.hostOk a 32 then l.tail else a) (6 * 2 ^ 20 + 2 ^ 17) 0] }

/-- Write a record made by this device: keep it, and log it or, on a worker, send it up TP0 (R379, R470). -/
def State.writeRecord (s : State) (r : Record) : State :=
  let s := { s with svc := { s.svc with kept := (r :: s.svc.kept).take 4096 } }
  if s.isWorker then s.sendMsg 0 (if 2 ≤ r.final then 2 else 4) 0x03 0 r.bytes []
  else s.logBytes r.bytes

/-- Number a record (RSEQ, SVC_LOGCNT.RECORDS). -/
def State.numberRecord (s : State) (r : Record) : Record × State :=
  let r := { r with rseq := s.svc.rseq % 2 ^ 16, device := s.tree.num }
  (r, { s with svc := { s.svc with rseq := s.svc.rseq + 1 } }.addWrap SVC_LOGCNT.RECORDS 1)

/-- Write a record of class D or S at once (R379). -/
def State.recordNow (s : State) (r : Record) : State :=
  let (r, s) := s.numberRecord r
  s.writeRecord r

/-- Keep a record of class C or R for the next housekeeping tick (R379). -/
def State.recordLater (s : State) (r : Record) : State :=
  { s with svc := { s.svc with waiting := s.svc.waiting ++ [r] } }

/-- A notice record (R454). -/
def State.notice (s : State) (inst detail : Nat) : State :=
  let r : Record := { dt := s.dt, device := s.tree.num, block := 0x20, inst := inst, bit := 0xFF, cls := 0, final := 0, esc := false,
                      ovf := false, rseq := 0, addr := 0, info := 0, detail := detail }
  let (r, s) := s.numberRecord r
  let s := { s with svc := { s.svc with kept := (r :: s.svc.kept).take 4096 } }
  if s.isWorker then s.sendMsg 0 4 0x09 0 r.bytes [] else s.logBytes r.bytes

end Sys2Proof.Machine
end

