-- ==== Sys2Proof/Machine/Faults.lean ====
section
/-!
DEFINITION. Raising and acknowledging fault bits (R372 to R379): escalation, first-error capture, occurrence counters, fault
records, and the class D and S consequences, which are put on `due` and carried out before the command ends.
-/

namespace Sys2Proof.Machine

/-- Does a unit hold a class unacknowledged (R375)? -/
def State.holds (s : State) (blk inst : Nat) (c : Cls) : Bool :=
  (unitBits blk inst).any (fun b => b.row.counts && b.row.cls == c && s.bit b.fld) ||
  s.svc.escs.any (fun e => e.unit == (blk, inst) && e.cls == c.num && !e.bits.isEmpty)

/-- The class an occurrence acts as, after escalation (R375). -/
def State.actsAs (s : State) (blk inst : Nat) : Nat → Cls → Cls
  | 0, c => c
  | n + 1, c => if c == .s then c else if s.holds blk inst c then s.actsAs blk inst n c.up else c

/-- Latch the first source of a block whose FIRST register has the layout of TIME_FIRST (R378, Table 03-15). -/
def State.firstOf (s : State) (valid src ovf : Fld) (bit : Nat) : State :=
  if s.bit valid then s.setFld ovf 1 else (s.setFld valid 1).setFld src bit

/-- Latch the first source of a unit whose status register holds FIRST and OVF. -/
def State.firstStat (s : State) (first ovf : Fld) (bit : Nat) : State :=
  if s.fld first == 0 then s.setFld first (bit + 1) else s.setFld ovf 1

/-- Capture a fault of POND, BASIN, MC or HOST (R305, R342, R371, R457): address, the fields below SRC, and DT. -/
def State.capture (s : State) (base : Nat) (hasHi : Bool) (bit addr info : Nat) : State :=
  let i := if hasHi then base + 8 else base + 4
  let word : Fld := ⟨i, 31, 0⟩
  let parts : List FieldDef := fieldDefs i
  if s.bit ⟨i, 31, 31⟩ then s.setFld ⟨i, 30, 30⟩ 1
  else
    let v := 2 ^ 31 + bit * 2 ^ 25 + info % 2 ^ 25 + (if hasHi then 0 else addr / 2 ^ 32 % 512)
    let _ := word
    let s := parts.foldl (fun s d => s.setFld ⟨i, d.hi, d.lo⟩ (v / 2 ^ d.lo)) s
    let s := s.setFld ⟨base, 31, 0⟩ addr
    let s := if hasHi then s.setFld ⟨base + 4, 31, 0⟩ (addr / 2 ^ 32) else s
    (s.setFld ⟨i + 4, 31, 0⟩ (s.dt.toNat % 2 ^ 32)).setFld ⟨i + 8, 31, 0⟩ (s.dt.toNat / 2 ^ 32)

/-- Base of the capture registers of a capturing block, and whether its address is a pair. -/
def captureBase (blk inst : Nat) : Option (Nat × Bool) :=
  match blk with
  | 0x8 => some (POND_FIRST_ADDR.addr inst, false)
  | 0x9 => some (BASIN_FIRST_ADDR.addr inst, false)
  | 0xA => some (MC_FIRST_ADDR.addr inst, false)
  | 0xD => some (HOST_FIRST_ADDR_LO.addr, true)
  | _ => none

/-- First-error capture of any block (R378). -/
def State.first (s : State) (b : FaultBit) (addr info : Nat) : State :=
  match captureBase b.blk b.inst with
  | some (a, hi) => s.capture a hi b.bit addr info
  | none =>
    match b.blk with
    | 0x0 => s.firstOf DEV_FIRST.VALID DEV_FIRST.SRC DEV_FIRST.OVF b.bit
    | 0x1 => s.firstOf PWR_FIRST.VALID PWR_FIRST.SRC PWR_FIRST.OVF b.bit
    | 0x2 => s.firstOf TIME_FIRST.VALID TIME_FIRST.SRC TIME_FIRST.OVF b.bit
    | 0x3 => s.firstStat (AX_STAT.FIRST b.inst) (AX_STAT.OVF b.inst) b.bit
    | 0x4 => s.firstStat (AP_STAT.FIRST b.inst) (AP_STAT.OVF b.inst) b.bit
    | 0x5 => s.firstOf WEIRG_FIRST.VALID WEIRG_FIRST.SRC WEIRG_FIRST.OVF b.bit
    | 0x6 => s.firstOf ADT_FIRST.VALID ADT_FIRST.SRC ADT_FIRST.OVF b.bit
    | 0x7 =>
      if b.bit < 32 then s.firstStat (FC_STAT.FIRST b.inst) (FC_STAT.OVF b.inst) b.bit
      else s.firstStat (WEIR_STAT.FIRST b.inst) (WEIR_STAT.OVF b.inst) (b.bit - 32)
    | 0xB => if b.inst = 0 then s.firstOf CMP_FIRST.VALID CMP_FIRST.SRC CMP_FIRST.OVF b.bit else s
    | 0xC => s.firstOf SEC_FIRST.VALID SEC_FIRST.SRC SEC_FIRST.OVF b.bit
    | 0xE => s.firstStat (TIER_STAT.FIRST b.inst) (TIER_STAT.OVF b.inst) b.bit
    | 0xF => s.firstOf SVC_FIRST.VALID SVC_FIRST.SRC SVC_FIRST.OVF b.bit
    | 0x10 => s.firstOf THERM_FIRST.VALID THERM_FIRST.SRC THERM_FIRST.OVF b.bit
    | _ => s

/-- Does a block's capture show that further faults followed? -/
def State.capOvf (s : State) (b : FaultBit) : Bool :=
  match captureBase b.blk b.inst with
  | some (a, hi) => s.bit ⟨(if hi then a + 8 else a + 4), 30, 30⟩
  | none =>
    match b.blk with
    | 0x0 => s.bit DEV_FIRST.OVF
    | 0x1 => s.bit PWR_FIRST.OVF
    | 0x2 => s.bit TIME_FIRST.OVF
    | 0x3 => s.bit (AX_STAT.OVF b.inst)
    | 0x4 => s.bit (AP_STAT.OVF b.inst)
    | 0x5 => s.bit WEIRG_FIRST.OVF
    | 0x6 => s.bit ADT_FIRST.OVF
    | 0x7 => if b.bit < 32 then s.bit (FC_STAT.OVF b.inst) else s.bit (WEIR_STAT.OVF b.inst)
    | 0xB => s.bit CMP_FIRST.OVF
    | 0xC => s.bit SEC_FIRST.OVF
    | 0xE => s.bit (TIER_STAT.OVF b.inst)
    | 0xF => s.bit SVC_FIRST.OVF
    | 0x10 => s.bit THERM_FIRST.OVF
    | _ => false

/-- The captured address and information word a record copies (R378, Table 13-4). -/
def State.capWords (s : State) (b : FaultBit) : Nat × Nat :=
  match captureBase b.blk b.inst with
  | none => (0, 0)
  | some (a, hi) =>
    let i := if hi then a + 8 else a + 4
    let info := (fieldDefs i).foldl (fun acc d => acc + s.fld ⟨i, d.hi, d.lo⟩ * 2 ^ d.lo) 0
    let up := if hi then s.fld ⟨a + 4, 31, 0⟩ else info % 512
    (s.fld ⟨a, 31, 0⟩ + up * 2 ^ 32, info)

/-- What DETAIL holds for a block, beside what the raiser gives (Table 13-5). -/
def State.detailOf (s : State) (b : FaultBit) (detail : Nat) : Nat :=
  match b.blk with
  | 0x7 => s.fld (FC_STAT.STATE b.inst)
  | 0x8 => s.fld (POND_STAT.RETIRED b.inst)
  | _ => detail

/-- The consequence of class D in a unit (Table 13-2); a retirement carries its own out. -/
def dueD (b : FaultBit) (escalated : Bool) : List Due :=
  match b.blk with
  | 0x8 => if b.bit = 12 && !escalated then [] else [.pondLost b.inst]
  | 0x9 => [.basinLost b.inst]
  | 0x7 => [.chanDown b.inst]
  | 0xA => [.mcDown b.inst]
  | 0xB => if b.inst = 0 then [.safe 1 b.blk b.inst] else [.laneFenced (b.inst - 1)]
  | 0x3 => [.axisLost b.inst]
  | 0x4 => [.portLost b.inst]
  | 0xE => [.tierDown b.inst]
  | 0xF => [.failover]
  | _ => [.safe 1 b.blk b.inst]

/-- The safe-state cause of a class S fault: STOP_LATE has its own (Table 13-21). -/
def safeCause (b : FaultBit) : Nat := if b.blk = 7 ∧ b.bit = 35 then 3 else 1

/-- Count an occurrence by the class it acts as (SVC_CNT_C, SVC_CNT_R, SVC_CNT_DS). -/
def State.countClass (s : State) (c : Cls) : State :=
  match c with
  | .c => s.addSat SVC_CNT_C.COUNT 1
  | .r => s.addSat SVC_CNT_R.COUNT 1
  | .d => s.addSat SVC_CNT_DS.D 1
  | .s => s.addSat SVC_CNT_DS.S 1

/-- Class R faults whose recovery ends only when a link or port is UP again (R373): the bits of class R in FC_FAULT [15:11], and RETRAIN of a
tier port. -/
def recoversAtUp (b : FaultBit) : Bool :=
  (b.blk == 0x7 && decide (11 ≤ b.bit ∧ b.bit ≤ 15)) || (b.blk == 0xE && b.bit == 2)

/-- Remember that a set bit waits for an acknowledgement, as the class acted on. -/
def State.awaitAck (s : State) (b : FaultBit) (act : Cls) : State :=
  let rest := s.svc.acks.filter (fun a => !(a.blk == b.blk && a.inst == b.inst && a.bit == b.bit))
  let a : AckDue := { blk := b.blk, inst := b.inst, bit := b.bit, cls := act.num,
                      at_ := if act == .r && recoversAtUp b then none else some s.dt }
  { s with svc := { s.svc with acks := rest ++ [a] } }

/-- An occurrence of a fault bit of class `cls` that acts as class `act`: it sets its bit, is counted, captured and recorded, and its
class D or S consequence falls due. A source that sets a bit already at 1 without escalating changes only the overflow of the capture
(R379). -/
def State.raiseActing (s : State) (b : FaultBit) (cls act : Cls) (addr info detail : Nat) : State :=
  let was := s.bit b.fld
  let row := b.row
  let esc := act != cls
  let held := (unitBits b.blk b.inst).filter (fun x => x.row.counts && x.row.cls == cls && s.bit x.fld)
  let s := s.first b addr info
  let s := s.setFld b.fld 1
  if was && !esc then s
  else
    let s :=
      if esc then
        { s with svc := { s.svc with
            escs := s.svc.escs ++ [{ unit := (b.blk, b.inst), cls := act.num, bits := (b.bit :: held.map (·.bit)).dedup }] } }
      else if row.counts && cls != row.cls then
        { s with svc := { s.svc with escs := s.svc.escs ++ [{ unit := (b.blk, b.inst), cls := cls.num, bits := [b.bit] }] } }
      else s
    let s := (s.countClass act).awaitAck b act
    let (ca, ci) := s.capWords b
    let r : Record := { dt := s.dt, device := s.tree.num, block := b.blk, inst := b.inst, bit := b.bit, cls := cls.num,
                        final := act.num, esc := esc, ovf := s.capOvf b, rseq := 0, addr := ca, info := ci,
                        detail := s.detailOf b detail }
    match act with
    | .c => s.recordLater r
    | .r => s.recordLater r
    | .d => let s := s.recordNow r; { s with due := s.due ++ dueD b esc }
    | .s => let s := s.recordNow r; { s with due := s.due ++ [.safe (safeCause b) b.blk b.inst] }

/-- An occurrence of a fault bit with the class it has this time, escalated by what its unit holds (R375). -/
def State.raiseAs (s : State) (b : FaultBit) (cls : Cls) (addr info detail : Nat) : State :=
  s.raiseActing b cls (if b.row.counts then s.actsAs b.blk b.inst 3 cls else cls) addr info detail

/-- Does a unit hold a class unacknowledged through another bit than those of `own`, or through an escalation? -/
def State.holdsBeside (s : State) (blk inst : Nat) (c : Cls) (own : List Nat) : Bool :=
  (unitBits blk inst).any (fun b => b.row.counts && b.row.cls == c && s.bit b.fld && !own.contains b.bit) ||
  s.svc.escs.any (fun e => e.unit == (blk, inst) && e.cls == c.num && !e.bits.isEmpty)

/-- An occurrence that is one with those that set the bits of `own`: these alone do not make it escalate. -/
def State.raiseWithin (s : State) (b : FaultBit) (own : List Nat) : State :=
  if s.holdsBeside b.blk b.inst b.row.cls own then s.raiseAs b b.row.cls 0 0 0 else s.raiseActing b b.row.cls b.row.cls 0 0 0

/-- An occurrence of a fault bit of its table's class. -/
def State.raiseAt (s : State) (b : FaultBit) (addr info detail : Nat) : State :=
  s.raiseAs b b.row.cls addr info detail

/-- An occurrence with nothing to capture. -/
def State.raise (s : State) (b : FaultBit) : State := s.raiseAt b 0 0 0

/-- Add an entry to the retirement record (R401, R402): a full record keeps its oldest entries and sets LOG_OVF. -/
def State.addRetired (s : State) (e : Retired) : State :=
  if s.svc.retired.any (fun (x : Retired × Word) => x.1 == e) then s
  else if 256 ≤ s.svc.retired.length then s.raise Flt.SVC_LOG_OVF
  else { s with svc := { s.svc with retired := s.svc.retired ++ [(e, s.dt)] } }

/-- Set the bit that names a consequence of a fault already recorded (a pond lost, a channel DOWN through escalation). -/
def State.markBit (s : State) (b : FaultBit) : State :=
  if s.bit b.fld then s else ((s.first b 0 0).setFld b.fld 1).awaitAck b b.row.cls

/-- Clear the first capture of a block once its fault bits all read 0; for the capturing blocks this is firmware's REARM
(R378, Table 03-15). -/
def State.clearFirst (s : State) (blk inst : Nat) : State :=
  let low := (unitBits blk inst).filter (fun b => blk != 0x7 || decide (b.bit < 32))
  let high := (unitBits blk inst).filter (fun b => blk == 0x7 && decide (32 ≤ b.bit))
  let none (l : List FaultBit) : Bool := !(l.any (fun b => s.bit b.fld))
  match captureBase blk inst with
  | some (a, hi) =>
    if none low then
      let i := if hi then a + 8 else a + 4
      (s.setFld ⟨i, 31, 31⟩ 0).setFld ⟨i, 30, 30⟩ 0
    else s
  | .none =>
    let z (v o : Fld) (s : State) : State := (s.setFld v 0).setFld o 0
    let s := if blk == 0x7 && none high then z (WEIR_STAT.FIRST inst) (WEIR_STAT.OVF inst) s else s
    if !none low then s
    else match blk with
      | 0x0 => z DEV_FIRST.VALID DEV_FIRST.OVF s
      | 0x1 => z PWR_FIRST.VALID PWR_FIRST.OVF s
      | 0x2 => z TIME_FIRST.VALID TIME_FIRST.OVF s
      | 0x3 => z (AX_STAT.FIRST inst) (AX_STAT.OVF inst) s
      | 0x4 => z (AP_STAT.FIRST inst) (AP_STAT.OVF inst) s
      | 0x5 => z WEIRG_FIRST.VALID WEIRG_FIRST.OVF s
      | 0x6 => z ADT_FIRST.VALID ADT_FIRST.OVF s
      | 0x7 => z (FC_STAT.FIRST inst) (FC_STAT.OVF inst) s
      | 0xB => if inst = 0 then z CMP_FIRST.VALID CMP_FIRST.OVF s else s
      | 0xC => z SEC_FIRST.VALID SEC_FIRST.OVF s
      | 0xE => z (TIER_STAT.FIRST inst) (TIER_STAT.OVF inst) s
      | 0xF => z SVC_FIRST.VALID SVC_FIRST.OVF s
      | 0x10 => z THERM_FIRST.VALID THERM_FIRST.OVF s
      | _ => s

/-- Firmware writes REARM (R305, R342, R371, R457): the capture may take a fault again, whatever fault bits still read 1; a basin's
HOME_TRK.MAX_NACK is cleared with it. -/
def State.rearm (s : State) (blk inst : Nat) : State :=
  match captureBase blk inst with
  | some (a, hi) =>
    let i := if hi then a + 8 else a + 4
    let s := (s.setFld ⟨i, 31, 31⟩ 0).setFld ⟨i, 30, 30⟩ 0
    if blk = 0x9 then s.setFld (HOME_TRK.MAX_NACK inst) 0 else s
  | none => s

/-- The bookkeeping of an acknowledgement whose bit has been cleared (R373, R375). -/
def State.acked (s : State) (b : FaultBit) : State :=
  let escs := (s.svc.escs.map (fun e =>
    if e.unit == (b.blk, b.inst) then { e with bits := e.bits.filter (· != b.bit) } else e)).filter (fun e => !e.bits.isEmpty)
  let acks := s.svc.acks.filter (fun a => !(a.blk == b.blk && a.inst == b.inst && a.bit == b.bit))
  let s := { s with svc := { s.svc with escs := escs, acks := acks } }
  let s := if b.blk == 0xE && b.bit == 1 then s.setFld (TIER_STAT.VIOL b.inst) 0 else s
  s.clearFirst b.blk b.inst

/-- Acknowledge a bit: write 1 to it (R373). -/
def State.ack (s : State) (b : FaultBit) : State :=
  if s.bit b.fld then (s.setFld b.fld 0).acked b else s

/-- The fault bits whose field stands at a register address. -/
def bitsAt (a : Nat) : List FaultBit :=
  faultUnits.flatMap (fun u => (List.range u.2).flatMap (fun i => (unitBits u.1 i).filter (fun b => b.fld.addr == a)))

/-- Every unit of escalation, with its instance. -/
def allUnits : List (Nat × Nat) :=
  faultUnits.flatMap (fun u => (List.range u.2).map (fun i => (u.1, i)))

/-- A link or port is UP again: the recovery of its class R faults is complete (R373). -/
def State.recovered (s : State) (blk inst : Nat) : State :=
  { s with svc := { s.svc with acks := s.svc.acks.map (fun a =>
      if a.blk == blk && a.inst == inst && a.at_ == none then { a with at_ := some s.dt } else a) } }

/-- The record of a task's abandonment (R215, Table 13-5 block 0x11): class R, in no register and never counted. -/
def State.taskRecord (s : State) (basin reason : Nat) (taskId : Nat) : State :=
  s.recordLater { dt := s.dt, device := s.tree.num, block := 0x11, inst := basin, bit := reason, cls := 1, final := 1, esc := false,
                  ovf := false, rseq := 0, addr := 0, info := 0, detail := taskId % 2 ^ 32 }

end Sys2Proof.Machine
end

