-- ==== Sys2Proof/Machine/TimeOps.lean ====
section
/-!
DEFINITION. Device time (R57 to R63), its enable, slews and event capture, commit groups as a shared operation (R39, R44,
R45, R49), and the servo of firefly sync (R79 to R82).
-/

namespace Sys2Proof.Machine

/-- A field by its key, with whether it is a member of a commit group. -/
def keyField (key : Nat) : Option (Fld × Bool) :=
  ((fieldDefs (key / 32)).find? (fun d => d.lo == key % 32)).map (fun d => (⟨key / 32, d.hi, d.lo⟩, d.grp))

/-- Apply every staged field outside the commit groups whose register `p` selects: a block's commit point (R39). -/
def State.applyStaged (s : State) (p : Nat → Bool) : State :=
  s.staged.foldl (fun s e =>
    match keyField e.1 with
    | some (f, false) => if p f.addr then s.apply f else s
    | _ => s) s

/-- A commit group at its commit point (R44, R45, R49): with COMMIT set, or in IMMED mode with a member staged, the group is
checked with its staged members in place and applied whole or discarded whole. Answers whether it was applied. -/
def State.commitGroup (s : State) (imm : Fld) (commit : Fld) (members : List Fld) (check : State → Bool) : State × Bool :=
  let any := members.any (fun f => (s.stagedVal f).isSome)
  if s.bit commit || (s.bit imm && any) then
    let s := s.setFld commit 0
    if !any then (s, false)
    else
      let s' := members.foldl (fun s f => s.apply f) s
      if check s' then (s', true)
      else ((members.foldl (fun s f => s.stage f none) s).mismatch commit.addr commit.lo, false)
  else (s, false)

/-- Does TBCLK run DT now (R60)? -/
def State.timeRuns (s : State) : Bool := s.bit TIME_CTL.EN && s.time.tbclk

/-- The placement time of an event of this instant with its fine ticks (R58). -/
def plc (t : Word) (fine : Nat) : Plc := BitVec.ofNat 67 (8 * t.toNat + fine)

def Plc.tick (p : Plc) : Word := BitVec.ofNat 64 (p.toNat / 8)
def Plc.fine (p : Plc) : Nat := p.toNat % 8

/-- Signed difference of two placement times, in fine ticks. -/
def plcDiff (a b : Plc) : Int := (a - b).toInt

/-- Move DT by a signed number of fine ticks (R61, R81, R82). -/
def State.moveDt (s : State) (k : Int) : State :=
  let t := (8 * (s.time.dt.toNat : Int) + s.time.fine + k) % (2 ^ 67 : Nat)
  { s with time := { s.time with dt := BitVec.ofNat 64 (t.toNat / 8), fine := t.toNat % 8 } }

/-- Ticks between two fine ticks of a move: 50 ppm for DT_SLEW (R61), 200 ppm while LOCKED and 1,000 ppm otherwise for
firefly (R81). -/
def State.movePeriod (s : State) : Nat :=
  if s.fld FF_STAT.STATE = 0 then 2500 else if s.fld FF_STAT.STATE = 2 then 625 else 125

/-- One tick of the moves in progress: DT_SLEW on a device in firefly state FREE, the firefly move otherwise. -/
def State.slewTick (s : State) : State :=
  let free := s.fld FF_STAT.STATE == 0
  let left : Int := if free then s.sfld DT_SLEW.V else - s.time.ffMove
  if left = 0 then { s with time := { s.time with slewPhase := 0 } }
  else if s.time.slewPhase + 1 < s.movePeriod then { s with time := { s.time with slewPhase := s.time.slewPhase + 1 } }
  else
    let d : Int := if 0 < left then 1 else -1
    let s := { s with time := { s.time with slewPhase := 0 } }
    let s := s.moveDt d
    if free then s.setSFld DT_SLEW.V (left - d) else { s with time := { s.time with ffMove := s.time.ffMove + d } }

/-- One tick of the rate correction: DT_RATE parts of 2^-32 of a tick gather to whole fine ticks. -/
def State.rateTick (s : State) : State :=
  let r := s.sfld DT_RATE.V
  let a := s.time.rateAcc + r
  if (2 : Int) ^ 29 ≤ a then { s with time := { s.time with rateAcc := a - 2 ^ 29 } }.moveDt 1
  else if a ≤ -(2 : Int) ^ 29 then { s with time := { s.time with rateAcc := a + 2 ^ 29 } }.moveDt (-1)
  else { s with time := { s.time with rateAcc := a } }

/-- One tick of TBCLK: DT counts, with the moves and the rate correction in progress (R57, R60, R61, R81). -/
def State.dtTick (s : State) : State :=
  if s.timeRuns then
    ({ s with time := { s.time with dt := s.time.dt + 1 } }.slewTick).rateTick
  else s

/-- Is a field channel, weir, axis tracker or tier port enabled (R60)? -/
def State.timeUsers (s : State) : Bool :=
  (upTo 96).any (fun n => s.bit (FC_CTL.EN n) || s.bit (WEIR_CTL.EN n)) || (upTo 16).any (fun n => s.bit (AX_CTL.EN n)) ||
  (upTo 8).any (fun t => s.bit (TIER_CTL.EN t))

/-- A write of TIME_CTL (R60, R38). -/
def State.writeTimeCtl (s : State) (en load aonCal : Bool) : State :=
  let was := s.bit TIME_CTL.EN
  let s := s.setBit TIME_CTL.AON_CAL_EN aonCal
  let s := if load == s.bit TIME_CTL.LOAD then s
           else if was then s.setFld TIME_STAT.CFG_REJECT 1 else s.setBit TIME_CTL.LOAD load
  if was && !en then
    if s.timeUsers then s.setFld TIME_STAT.CFG_REJECT 1 else s.setFld TIME_CTL.EN 0
  else if !was && en then
    let s := s.setFld TIME_CTL.EN 1
    if s.bit TIME_CTL.LOAD then
      { s with time := { s.time with dt := s.pair DT_SET_LO.V DT_SET_HI.V, fine := 0 } }
    else s
  else s

/-- A write of DT_SLEW (R61): refused unless the firefly state is FREE; staged until the TIME commit point (R39). -/
def State.writeDtSlew (s : State) (v : Word32) : State :=
  if v.toNat = s.fld DT_SLEW.V then s
  else if s.fld FF_STAT.STATE ≠ 0 then s.setFld TIME_STAT.CFG_REJECT 1
  else s.stage DT_SLEW.V (some v.toNat)

/-- Registers of the TIME block. -/
def inTime (a : Nat) : Bool := decide (0x20000 ≤ a ∧ a < 0x30000)

/-- The TIME commit point: a tick whose DT bits [9:0] are zero (Table 02-4). -/
def State.timePoint (s : State) : State :=
  if s.dt.toNat % 1024 = 0 then s.applyStaged inTime else s

/-- A calibration window of 1,024 always-on cycles (R62). -/
def State.aonWindow (s : State) (count : Nat) : State :=
  if s.bit TIME_CTL.AON_CAL_EN && s.time.tbclk then
    if 93750000 + 46875 < count ∨ count + 46875 < 93750000 then s.raise Flt.TIME_AON_CAL_RANGE
    else ((s.setFld AON_CAL.TICKS count).setFld AON_CAL.VALID 1).setFld TIME_STAT.AON_CAL_VALID 1
  else s

/-- An event of capture source `src` at a placement time (Table 03-20). -/
def State.captureEvent (s : State) (src : Nat) (t : Word) (fine : Nat) : State :=
  if s.bit CAP_CTL.ARM && s.fld CAP_CTL.SRC == src && src != 0 then
    (((s.setPair CAP_LO.V CAP_HI.V t).setFld CAP_CTL.FINE fine).setFld CAP_CTL.DONE 1).setFld CAP_CTL.ARM 0
  else s

/-- The interpolator loses or regains lock (R57, Table 03-14, Table 03-17). -/
def State.setFineLock (s : State) (on : Bool) : State :=
  (s.setBit TIME_STAT.FINE_LOCK on).setBit FINE_CAL.LOCK on

/-- The asymmetry term of a tier port (R80): MEAS + BOARD/2, in 1/8 fine tick; a half is dropped toward minus infinity. -/
def State.asymTerm (s : State) (t : Nat) : Int := s.sfld (FF_ASYM.MEAS t) + s.sfld (FF_ASYM.BOARD t) / 2

/-- A firefly exchange was missed or discarded (Table 03-8). -/
def State.ffMiss (s : State) : State :=
  let k := s.time.ffMissed + 1
  let s := { s with time := { s.time with ffMissed := k } }
  if s.fld FF_STAT.STATE = 2 ∧ 8 ≤ k then
    { s.setFld FF_STAT.STATE 3 with time := { s.time with holdAt := s.dt } }
  else s

/-- Does a mask of the route fields, read by `r`, hold a device on a port? -/
def routeHas (r : Fld → Nat) (dev t : Nat) : Bool :=
  if dev < 32 then Nat.testBit (r (TIER_ROUTE_LO.ROUTE t)) dev else Nat.testBit (r (TIER_ROUTE_HI.ROUTE t)) (dev - 32)

/-- The port by which TIER routing reaches a device (R468): the one whose route mask holds its bit. While a commit swaps the masks port
by port, a device that no mask in force holds is routed by the new set, so that each frame is routed wholly by one set (R46). -/
def State.routePort (s : State) (dev : Nat) : Option Nat :=
  match (upTo 8).find? (routeHas s.fld dev) with
  | some t => some t
  | none =>
    if s.bit (TIER_CTL.COMMIT 0) || s.bit DEV_CFGMODE.IMM_TIER then (upTo 8).find? (routeHas s.nextVal dev) else none

/-- Nothing on the device holds a DT (R82): no armed ATX, no WAITT, no open transaction journal entry. DESIGN CHOICE (assumption
115): an entry is open as long as its record stands, a final record whose report is still due included. -/
def State.dtFree (s : State) : Bool :=
  s.weirs.all (fun e => e.2.recs.isEmpty) &&
  !(s.striders.any (fun e => match e.2.run with | .waiting (.waitt ..) => true | _ => false))

/-- Nearest fine tick to a value in 1/8 fine tick; a half goes up. -/
def nearestFine (x : Rat) : Int := (x / 8 + 1 / 2).floor

/-- The bound of FF_ERR while not LOCKED (R82, Table 03-9), in fine ticks of 125/3 ps. -/
def State.ffBound (s : State) (theta : Int) : Nat :=
  (if s.fld DEV_POS.DEPTH = 2 then 6 else 4) + (theta.natAbs + 7) / 8

/-- The servo and the states on a valid exchange (R81, R82, Table 03-8). `theta` is in 1/8 fine tick. The average runs over the valid
exchanges since ACQUIRE was entered or DT was stepped. DESIGN CHOICE (assumption 114): a missed or discarded exchange does not break
the run of 16 good ones, nor the run of 8 above the threshold. -/
def State.ffServo (s : State) (theta : Int) : State :=
  let st := s.fld FF_STAT.STATE
  let within := decide (theta.natAbs ≤ 8 * s.fld FF_CTL.LOCK_THR)
  let enter := st == 0 || st == 4 || (st == 3 && !within)
  let n := if enter then 1 else s.time.ffValid + 1
  let sum := if enter then theta else s.time.ffSum + theta
  let avg : Rat := (sum : Rat) / (n : Rat)
  let good := if within then (if enter then 1 else s.time.ffGood + 1) else 0
  let bad := if within then 0 else s.time.ffBad + 1
  let st' :=
    if enter then 1
    else if st = 1 ∧ 16 ≤ good then 2
    else if st = 3 then 2
    else st
  let s := s.addWrap FF_STAT.EXCH_CNT 1
  let s := (s.setFld FF_STAT.STATE st').setSFld FF_OFFSET.V (nearestFine avg)
  let s := { s with time := { s.time with ffSum := sum, ffValid := n, ffGood := good, ffBad := bad, ffMissed := 0 } }
  if st' = 1 ∧ s.bit FF_CTL.STEP_EN ∧ 24000 * 8 < theta.natAbs ∧ 4 ≤ n ∧ s.dtFree then
    let s := (s.moveDt (-(nearestFine theta))).setFld TIME_STAT.DT_STEPPED 1
    let s := s.setFld FF_ERR.ERR_BOUND (min 0xFFFF (s.ffBound theta))
    { s with time := { s.time with ffMove := 0, ffValid := 0, ffGood := 0, ffSum := 0 } }
  else
    let s := { s with time := { s.time with ffMove := s.time.ffMove + nearestFine (avg / (2 : Rat) ^ s.fld FF_CTL.KP_SHIFT) } }
    let lim : Int := if st' = 2 then 2 ^ 32 * 200 / 1000000 else 2 ^ 32 * 1000 / 1000000
    let r := s.sfld DT_RATE.V + Config.ffRate (avg / (2 : Rat) ^ s.fld FF_CTL.KI_SHIFT)
    let s := if lim < r ∨ r < -lim then s.raise Flt.TIME_SLEW_CLIP else s
    let s := s.setSFld DT_RATE.V (max (-lim) (min lim r))
    let s := s.setFld FF_ERR.ERR_BOUND (min 0xFFFF (s.ffBound theta))
    if st' = 2 ∧ 8 ≤ bad then
      let s := { s with time := { s.time with holdAt := s.dt } }
      (s.setFld FF_STAT.STATE 4).raise Flt.TIME_FF_LOST
    else s

/-- A worker receives a RESP (R79), differences of times being modulo 2^64 (R58): an answer to no open exchange is skipped; a round trip more than 2 ns above the best of
the last 16 is discarded. -/
def State.ffReceive (s : State) (p : FfPayload) (fine : Fin 8) : State :=
  match s.time.ffOpen with
  | none => s
  | some (_, _, q) =>
    if !s.isWorker || p.kind != 2 || p.exchSeq != q then s
    else
      let t4 := plc s.dt fine.val
      let t1 := plc p.t1 p.fine1.toNat
      let t2 := plc p.t2 p.fine2.toNat
      let t3 := plc p.t3 p.fine3.toNat
      let rtt := 8 * (plcDiff t4 t1 - plcDiff t3 t2) - p.corrUp - p.corrDn
      let seen := (rtt :: s.time.ffRtts).take 16
      let least := seen.foldl min rtt
      let s := { s with time := { s.time with ffOpen := none, ffRtts := seen } }
      let s := s.setFld FF_ERR.RTT_MIN (min 0xFFFF (least / 64).toNat)
      if least + 384 < rtt then s.ffMiss
      else s.ffServo (((8 * plcDiff t4 t3 - p.corrDn) - (8 * plcDiff t2 t1 - p.corrUp) - p.asym) / 2)

/-- HOLDOVER longer than 2^HOLD_MAX ms becomes LOST (Table 03-8). -/
def State.ffHoldover (s : State) : State :=
  if s.fld FF_STAT.STATE = 3 ∧ elapsed s.dt s.time.holdAt (3000000 * 2 ^ s.fld FF_CTL.HOLD_MAX) then
    (s.setFld FF_STAT.STATE 4).raise Flt.TIME_FF_LOST
  else s

/-- FF_CTL.FF_EN written 0: a worker's firefly state is FREE and its DT runs free on its own reference, without a rate correction
(Table 03-8). -/
def State.ffDisable (s : State) : State :=
  { (s.setFld FF_STAT.STATE 0).setSFld DT_RATE.V 0 with
    time := { s.time with ffOpen := none, ffValid := 0, ffGood := 0, ffBad := 0, ffMissed := 0, ffMove := 0, rateAcc := 0 } }

end Sys2Proof.Machine
end

