-- ==== Sys2Proof/Machine/Dram.lean ====
section
/-!
DEFINITION. DRAM (R344 to R370): the region table and address mapping, reads and writes of 64-byte lines with their poison,
valid maps, the journal mirror, errors and rank retirement, refresh, scrub, retraining and migration.
-/

namespace Sys2Proof.Machine

def Region.zero : Region :=
  { valid := false, base := 0, limit := 0, mir := false, ilv := 0, ch0 := 0, coff := 0, cache := false, owner := 0,
    shared := false, init := false, code := false }

def State.region (s : State) (i : Nat) : Region := Tab.get (fun _ => Region.zero) s.dram.regions i

def State.setRegion (s : State) (i : Nat) (r : Region) : State :=
  { s with dram := { s.dram with regions := Tab.set (fun _ => Region.zero) s.dram.regions i r } }

/-- One 2 MiB unit. -/
def unit2M : Nat := 2097152

def Region.first (r : Region) : Nat := r.base.toNat * unit2M
def Region.bytes (r : Region) : Nat := (r.limit.toNat + 1 - r.base.toNat) * unit2M
def Region.ways (r : Region) : Nat := 2 ^ r.ilv.toNat

/-- Does the valid map of a VALIDMAP region lie at an address (R360)? Masters that access it meet R355. -/
def Region.inMap (r : Region) (a : Nat) : Bool :=
  r.init && decide (r.first + r.bytes - r.bytes / 512 ≤ a ∧ a < r.first + r.bytes)

/-- Does a valid region give storage to an address for a master? -/
def Region.covers (r : Region) (a : Nat) : Bool :=
  r.valid && decide (r.first ≤ a ∧ a < r.first + r.bytes) && !r.inMap a

/-- The region of a DRAM address, with its index. -/
def State.regionAt (s : State) (a : Nat) : Option (Nat × Region) :=
  (s.dram.regions.find? (fun e => e.2.covers a))

/-- Channel and channel offset of an address of a region (R346). -/
def Region.map (r : Region) (a : Nat) : Nat × Nat :=
  let rel := a - r.first
  let g := rel / 4096
  let k := r.ways
  let q := g / k
  (r.ch0.toNat + ((g % k) ^^^ (q % k)), r.coff.toNat * unit2M + q * 4096 + rel % 4096)

/-- The address of a region stored at a channel offset: R346 read backwards. -/
def Region.unmap (r : Region) (c o : Nat) : Option Nat :=
  let k := r.ways
  let ch := r.ch0.toNat
  let start := r.coff.toNat * unit2M
  let mirrored := r.mir && c == 1
  let c' := if mirrored then 0 else c
  if c' < ch ∨ ch + k ≤ c' ∨ o < start then none
  else
    let q := (o - start) / 4096
    let gk := (c' - ch) ^^^ (q % k)
    let a := r.first + (q * k + gk) * 4096 + o % 4096
    if gk < k ∧ a < r.first + r.bytes then some a else none

/-- The valid region that stores something at a channel offset, and the address. -/
def State.storedAt (s : State) (c o : Nat) : Option (Region × Nat) :=
  s.dram.regions.findSome? (fun e => if e.2.valid then (e.2.unmap c o).map (fun a => (e.2, a)) else none)

/-- Row bits of a rank (R347): 16, 17 or 18. -/
def State.rowBits (s : State) (c : Nat) : Nat :=
  let x4 := s.fld (MC_CFG.WIDTH c) == 1
  let big := s.fld (MC_CFG.DENS c) == 1
  16 + (if x4 then 1 else 0) + (if big then 1 else 0)

/-- Bytes of a rank of a channel (Table 12-1). -/
def State.rankBytes (s : State) (c : Nat) : Nat := 2 ^ (18 + s.rowBits c)

/-- The physical ranks that hold the logical ranks of a channel, in order (R347, R349, R367). -/
def State.logicalRanks (s : State) (c : Nat) : List Nat :=
  let m := (s.mc c).moved
  let has (f : Fld) (r : Nat) : Bool := Nat.testBit (s.fld f) r
  let base := (upTo 4).filter (fun r =>
    has (MC_RANK.PRESENT c) r && !has (MC_RANK.TRAIN_FAIL c) r && !has (MC_RANK.SPARE c) r && !m.any (fun e => e.2 == r) &&
    (!has (MC_RANK.RETIRED c) r || m.any (fun e => e.1 == r)))
  base.map (fun r => m.foldl (fun r e => if e.1 == r then e.2 else r) r)

/-- Logical capacity of a channel in bytes. -/
def State.capacity (s : State) (c : Nat) : Nat := (s.logicalRanks c).length * s.rankBytes c

/-- The physical rank of a channel offset, with the migration in progress (R367): copied blocks lie in the target. -/
def State.rankAt (s : State) (c o : Nat) : Nat :=
  let r := (s.logicalRanks c).getD (o / s.rankBytes c) 0
  match (s.mc c).mig with
  | some (src, tgt, next) => if r = src ∧ o % s.rankBytes c / 64 < next then tgt else r
  | none => r

/-- Channel states of Table 12-10. -/
def State.mcState (s : State) (c : Nat) : Nat := s.fld (MC_STAT.STATE c)

/-- Is the rank of a channel offset being retrained on command, so that its accesses wait (R351)? -/
def State.mcPaused (s : State) (c o : Nat) : Bool := s.mcState c == 3 && s.rankAt c o == (s.mc c).trainRank

/-- Does a channel answer an access at an offset: it runs, retrains another rank, or is DOWN; otherwise the access waits. -/
def State.mcServes (s : State) (c o : Nat) : Bool :=
  s.mcState c == 2 || (s.mcState c == 3 && !s.mcPaused c o) || s.mcState c == 5

/-- The channel of a mirrored block at an offset that serves its reads (R362): MC0, or MC1 while MC0 is paused or DOWN. -/
def State.mirrorReads (s : State) (o : Nat) : Nat :=
  if (s.mcState 0 == 5 || s.mcPaused 0 o) && s.mcState 1 != 5 then 1 else 0

/-- The channel, and offset, that serves the reads of an address of a region. -/
def State.dramAt (s : State) (r : Region) (a : Nat) : Nat × Nat :=
  let (c, o) := r.map a
  (if r.mir then s.mirrorReads o else c, o)

/-- Can a read of an address be served now (R362)? An address in no region needs no channel. -/
def State.dramServes (s : State) (a : Nat) : Bool :=
  match s.regionAt a with
  | none => true
  | some (_, r) => let (c, o) := s.dramAt r a; s.mcServes c o

/-- Can a write to an address be accepted now: in a mirrored region by both channels (R362)? -/
def State.dramTakes (s : State) (a : Nat) : Bool :=
  match s.regionAt a with
  | none => true
  | some (_, r) => let (c, o) := r.map a; s.mcServes c o && (!r.mir || s.mcServes 1 o)

/-- Is the storage of an address lost with its channel (R362, R368)? -/
def State.dramDown (s : State) (r : Region) (a : Nat) : Bool :=
  let c := (r.map a).1
  s.mcState c == 5 && (!r.mir || s.mcState 1 == 5)

/-- The bit of a block in its region's valid map: every block of a FILL region is valid (R360, R361). -/
def State.blockValid (s : State) (r : Region) (line : Nat) : Bool :=
  !r.init || Tab.get (fun _ => false) s.dram.vmap line

/-- Count an access through the valid-map cache; whether it hits is left open by the spec (Table 12-14). -/
def State.vmapAccess (s : State) (r : Region) (a : Nat) : State :=
  if r.init then
    let (x, s) := s.fresh
    s.addSat (MC_VMAP.MISSES (r.map a).1) (Config.free x % 2)
  else s

/-- The bytes stored for a line, without any error. -/
def State.lineBytes (s : State) (line : Nat) : List Byte :=
  (List.range 64).map (fun i => Tab.get (fun _ => 0) s.dram.bytes (64 * line + i))

def State.linePoison (s : State) (line : Nat) : BitVec 8 :=
  BitVec.ofNat 8 ((List.range 8).foldl (fun n i => n + if Tab.get (fun _ => false) s.dram.poison (8 * line + i) then 2 ^ i else 0) 0)

def State.setPoisonWord (s : State) (w : Nat) (p : Bool) : State :=
  { s with dram := { s.dram with poison := Tab.set (fun _ => false) s.dram.poison w p } }

/-- Mark every word of a line poisoned or clean by a mask. -/
def State.setLinePoison (s : State) (line : Nat) (m : BitVec 8) : State :=
  (List.range 8).foldl (fun s i => s.setPoisonWord (8 * line + i) (m.getLsbD i)) s

/-- An access outside every region (R355): the fault is set in the MC the address would nominally use. -/
def State.noRegion (s : State) (a master atype : Nat) : State :=
  s.raiseAt (Flt.MC_NOREGION (a / 2 ^ 38 % 8)) 0 (master * 2 ^ 20 + atype * 2 ^ 17) 0

/-- Read a line as a master of Table 12-12 (R355, R358, R360, R362, R368): data and poison bits. -/
def State.dramRead (s : State) (line master : Nat) : List Byte × BitVec 8 × State :=
  match s.regionAt (64 * line) with
  | none => (zeros 64, 0, s.noRegion (64 * line) master 0)
  | some (_, r) =>
    let s := s.vmapAccess r (64 * line)
    if s.dramDown r (64 * line) then (s.lineBytes line, 0xFF, s)
    else if !s.blockValid r line then (zeros 64, 0, s)
    else (s.lineBytes line, s.linePoison line, s)

/-- The poison a write leaves on a line (R358). -/
def poisonAfter (code : Bool) (old new : BitVec 8) (b : List (Option Byte)) : BitVec 8 :=
  let full (i : Nat) : Bool := (List.range 8).all (fun j => (b.getD (8 * i + j) none).isSome)
  let touched (i : Nat) : Bool := (List.range 8).any (fun j => (b.getD (8 * i + j) none).isSome)
  if !code then
    if new ≠ 0 then 0xFF
    else if old ≠ 0 ∧ !((List.range 8).all full) then 0xFF else 0
  else
    BitVec.ofNat 8 ((List.range 8).foldl (fun n i =>
      let p := if full i then new.getLsbD i else if touched i then old.getLsbD i || new.getLsbD i else old.getLsbD i
      n + if p then 2 ^ i else 0) 0)

/-- Write bytes of a line under a mask as a master (R355, R358, R360, R368). -/
def State.dramWrite (s : State) (line : Nat) (b : List (Option Byte)) (poison : BitVec 8) (master : Nat) : State :=
  match s.regionAt (64 * line) with
  | none => s.noRegion (64 * line) master (if b.any (·.isNone) then 2 else 1)
  | some (_, r) =>
    let s := s.vmapAccess r (64 * line)
    if s.dramDown r (64 * line) then s
    else
      let old := if s.blockValid r line then s.linePoison line else 0
      let bytes := (b.take 64).zipIdx.foldl (fun (t : Tab Byte) e =>
        match e.1 with
        | none => t
        | some v => Tab.set (fun _ => 0) t (64 * line + e.2) v) s.dram.bytes
      let s := { s with dram := { s.dram with bytes := bytes } }
      let s := if r.init then { s with dram := { s.dram with vmap := Tab.set (fun _ => false) s.dram.vmap line true } } else s
      s.setLinePoison line (poisonAfter r.code old poison b)

/-- Write a whole line. -/
def State.dramWriteFull (s : State) (line : Nat) (b : List Byte) (poison : BitVec 8) (master : Nat) : State :=
  s.dramWrite line ((slice b 0 64).map some) poison master

/-- The capture words of a memory-channel fault (Table 12-12): offset bits [37:6]; master, access type and rank. -/
def State.mcRaise (s : State) (f : Nat → FaultBit) (c o master atype : Nat) : State :=
  s.raiseAt (f c) (o / 64) (master * 2 ^ 20 + atype * 2 ^ 17 + s.rankAt c o * 2 ^ 15) 0

/-- A corrected error of an access (R359). -/
def State.mcCorrected (s : State) (a master atype : Nat) : State :=
  match s.regionAt a with
  | none => s
  | some (_, r) =>
    let (c, o) := s.dramAt r a
    (s.addSat (MC_ECC.CE_CNT c) 1).mcRaise Flt.MC_CE c o master atype

/-- An uncorrectable error takes its rank out of service (R366). -/
def State.rankAction (s : State) (c rank : Nat) : State :=
  let s := s.setFld (MC_RANK.DEGRADED c) (s.fld (MC_RANK.DEGRADED c) ||| 2 ^ rank)
  let spare := (upTo 4).find? (fun r => Nat.testBit (s.fld (MC_RANK.SPARE c)) r && !Nat.testBit (s.fld (MC_RANK.TRAIN_FAIL c)) r &&
    !Nat.testBit (s.fld (MC_RANK.RETIRED c)) r && r != rank)
  let m := s.mc c
  match spare with
  | some t =>
    if s.bit (MC_CTL.AUTO_SPARE c) && m.mig.isNone && !m.spareReq && !s.bit (MC_SPARE.COMMIT c) then
      let s := (s.stage (MC_SPARE.SRC c) (some rank)).stage (MC_SPARE.TGT c) (some t)
      (s.setFld (MC_SPARE.COMMIT c) 1).setMc c { m with spareReq := true }
    else s.raise (Flt.MC_NOSPARE c)
  | none => s.raise (Flt.MC_NOSPARE c)

/-- The words of a line that an uncorrectable error poisons: all of a STRONG block, the words named of a LIGHT one. -/
def ueMask (r : Region) (words : BitVec 8) : BitVec 8 := if r.code then words else 0xFF

/-- An uncorrectable block that has no other copy, in the channel it is read from: counted, and the rank acted on (R359, R366). -/
def State.mcLost (s : State) (c o master atype : Nat) : State :=
  ((s.addSat (MC_ECC.UE_CNT c) 1).mcRaise Flt.MC_UE c o master atype).rankAction c (s.rankAt c o)

/-- An uncorrectable error met in channel `c` at an offset that stores an address (R359, R362): a mirrored block is rewritten from its good
copy; otherwise, or if `both` copies fail, the words are poisoned and lost. -/
def State.mcUncorrectable (s : State) (r : Region) (a c o : Nat) (words : BitVec 8) (both : Bool) (master atype : Nat) : State :=
  let other := r.mir && s.mcState 0 != 5 && s.mcState 1 != 5
  if other && !both then s.mcRaise Flt.MC_MIRROR_FIX c o master atype
  else
    let s := s.setLinePoison (a / 64) (s.linePoison (a / 64) ||| ueMask r words)
    if other then (s.mcLost 0 o master atype).mcLost 1 o master atype else s.mcLost c o master atype

/-- A map block is uncorrectable (R360): the 512 blocks it covers are written poisoned and their bits set. -/
def State.vmapUncorrectable (s : State) (c o : Nat) : State :=
  match s.storedAt c o with
  | none => s
  | some (r, a) =>
    if !r.init then s
    else
      let map0 := r.first + r.bytes - r.bytes / 512
      let blk := if map0 ≤ a then (a - map0) / 64 * 512 else (a - r.first) / 64 / 512 * 512
      let first := r.first / 64 + blk
      let s := s.mcRaise Flt.MC_VMAP_UE c o 10 5
      (List.range 512).foldl (fun s i =>
        let s := { s with dram := { s.dram with vmap := Tab.set (fun _ => false) s.dram.vmap (first + i) true } }
        s.setLinePoison (first + i) 0xFF) s

/-- Registers of a memory channel. -/
def inMc (c a : Nat) : Bool := decide (0xA00000 + 0x10000 * c ≤ a ∧ a < 0xA00000 + 0x10000 * (c + 1))

/-- The check of the spare map group (Table 02-5, R367). -/
def State.spareCheck (c : Nat) (s : State) : Bool :=
  let src := s.fld (MC_SPARE.SRC c)
  let tgt := s.fld (MC_SPARE.TGT c)
  let has (f : Fld) (r : Nat) : Bool := Nat.testBit (s.fld f) r
  has (MC_RANK.PRESENT c) src && has (MC_RANK.PRESENT c) tgt && src != tgt && has (MC_RANK.SPARE c) tgt && (s.mc c).mig.isNone

/-- A refresh interval boundary (R352): the channel's commit point; a committed spare map starts its migration (R367). -/
def State.mcCommitPoint (s : State) (c : Nat) : State :=
  if s.mcState c ≠ 2 ∧ s.mcState c ≠ 3 then s
  else
    let s := s.applyStaged (inMc c)
    let (s, applied) := s.commitGroup DEV_CFGMODE.IMM_MCSPARE (MC_SPARE.COMMIT c) [MC_SPARE.SRC c, MC_SPARE.TGT c] (State.spareCheck c)
    let m := s.mc c
    let s := s.setMc c { m with spareReq := false }
    if applied then
      let s := s.setMc c { s.mc c with mig := some (s.fld (MC_SPARE.SRC c), s.fld (MC_SPARE.TGT c), 0) }
      (s.setFld (MC_MIG.BUSY c) 1).setFld (MC_MIG.POS c) 0
    else s

/-- Ticks of a refresh interval: 3.9 µs, and 1.95 µs above 85 °C (R352). -/
def State.refreshTicks (s : State) (c : Nat) : Nat := if 85 < s.sfld (MC_TEMP.CUR_T c) then 5850 else 11700

/-- One migration step: the next block is copied (R367, R369). While PFW_N is low migration stands still (Table 12-8); it goes on if the pin
rises again (DEDUCED, log 129). The last block done, the source rank enters the retirement record (R402). -/
def State.migrateStep (s : State) (c : Nat) (e : EccErr) : State :=
  let m := s.mc c
  match m.mig with
  | none => s
  | some (src, tgt, next) =>
    if (s.mcState c ≠ 2 ∧ s.mcState c ≠ 3) ∨ !Nat.testBit (s.fld PIN_STAT.LEVEL) 6 then s
    else
      let k := ((s.logicalRanks c).findIdx? (fun r => r == src)).getD 0
      let o := k * s.rankBytes c + 64 * next
      let skip := match s.storedAt c o with
        | none => true
        | some (r, a) => !s.blockValid r (a / 64)
      let s :=
        if skip then s
        else match e, s.storedAt c o with
        | .ce, some _ => (s.addSat (MC_ECC.CE_CNT c) 1).mcRaise Flt.MC_CE c o 9 4
        | .ue, some (r, a) => s.mcUncorrectable r a c o 0xFF false 9 4
        | _, _ => s
      let next := next + 1
      if next * 64 < s.rankBytes c then
        (s.setFld (MC_MIG.POS c) (next * 64 / 2 ^ 24)).setMc c { s.mc c with mig := some (src, tgt, next) }
      else
        let s := s.setMc c { s.mc c with mig := none, moved := (s.mc c).moved ++ [(src, tgt)] }
        let s := s.setFld (MC_RANK.RETIRED c) (s.fld (MC_RANK.RETIRED c) ||| 2 ^ src)
        let d := s.fld (MC_RANK.DEGRADED c)
        let s := s.setFld (MC_RANK.DEGRADED c) (d - (d &&& 2 ^ src))
        let s := ((s.setFld (MC_RANK.SPARE c) 0).setFld (MC_MIG.BUSY c) 0).setFld (MC_MIG.DONE c) 1
        let s := (s.setFld (MC_MIG.POS c) (s.rankBytes c / 2 ^ 24)).raise (Flt.MC_MIGRATED c)
        match (s.mc c).serials[src]? with
        | some n => s.addRetired (.rank c src n)
        | none => s

/-- One block of the patrol scrub (R363): a block in no region, or invalid, is skipped; a poisoned block stays as it is. -/
def State.scrubStep (s : State) (c : Nat) (e : EccErr) (map : Bool) : State :=
  if !s.bit (MC_CTL.SCRUB_EN c) || s.mcState c != 2 then s
  else
    let m := s.mc c
    let o := 64 * m.scrubBlk
    let s :=
      if map then (if e == .ue then s.vmapUncorrectable c o else s)
      else match s.storedAt c o with
      | none => s
      | some (r, a) =>
        if !s.blockValid r (a / 64) then s
        else match e with
        | .none => s
        | .ce => (s.addSat (MC_ECC.CE_CNT c) 1).mcRaise Flt.MC_CE c o 8 3
        | .ue => if r.inMap a then s.vmapUncorrectable c o else s.mcUncorrectable r a c o 0xFF false 8 3
    let next := m.scrubBlk + 1
    let wrap := decide (s.capacity c ≤ 64 * next)
    let next := if wrap then 0 else next
    let s := s.setMc c { s.mc c with scrubBlk := next }
    let s := if wrap then s.addWrap (MC_SCRUB_POS.PASSES c) 1 else s
    s.setFld (MC_SCRUB_POS.POS c) (64 * next / 65536)

/-- A lane of a rank fails its retrain (R350, R351), captured as training's. -/
def State.retrainFail (s : State) (c rank : Nat) : State := s.raiseAt (Flt.MC_RETRAIN_FAIL c) 0 (11 * 2 ^ 20 + rank * 2 ^ 15) 0

/-- The periodic retrain of MC0 or MC1 (R350): one rank, taking those present in rotation; a lane below MIN_EYE keeps its delays. -/
def State.periodicRetrain (s : State) (c : Nat) (low : Bool) : State :=
  if 1 < c ∨ s.mcState c ≠ 2 then s
  else
    let n := (s.mc c).nextRank
    let rank := (((upTo 4).map (fun k => (n + k) % 4)).find? (fun r => Nat.testBit (s.fld (MC_RANK.PRESENT c)) r)).getD n
    let s := s.setMc c { s.mc c with nextRank := (rank + 1) % 4 }
    if low then s.retrainFail c rank else s

/-- A reading of the DIMM temperatures (R351): DRIFT once while the difference stays at the threshold. -/
def State.tempRead (s : State) (c : Nat) (t : BitVec 8) : State :=
  let s := s.setFld (MC_TEMP.CUR_T c) t.toNat
  let off := (s.sfld (MC_TEMP.CUR_T c) - s.sfld (MC_TEMP.TRAIN_T c)).natAbs
  let far := decide (s.fld (MC_TEMP.DRIFT_THR c) ≤ off)
  let was := (s.mc c).drifted
  let s := s.setMc c { s.mc c with drifted := far }
  if far && !was then s.raise (Flt.MC_DRIFT c) else s

/-- A commanded retrain of MC_TRAIN.RANK, as it stands now, starts (R40, R351); while one runs the write is ignored with CFG_REJECT. -/
def State.trainStart (s : State) (c : Nat) : State :=
  if s.bit (MC_TRAIN.BUSY c) then s.setFld (MC_STAT.CFG_REJECT c) 1
  else if s.mcState c = 2 then
    ((s.setFld (MC_TRAIN.BUSY c) 1).setFld (MC_STAT.STATE c) 3).setMc c { s.mc c with trainRank := s.fld (MC_TRAIN.RANK c) }
  else s

/-- The stopped state of a channel (Table 12-10). -/
def State.mcStopPoint (s : State) (c : Nat) : State :=
  if (s.mc c).stopping && !s.bit (MC_TRAIN.BUSY c) then
    ((s.setFld (MC_CTL.EN c) 0).setFld (MC_STAT.STATE c) 6).setMc c { s.mc c with stopping := false }
  else s

/-- MC_CTL.EN written (Table 12-10): 0 holds accesses once no step runs, with the ranks in self-refresh; 1 resumes. -/
def State.mcEnable (s : State) (c : Nat) (en : Bool) : State :=
  if s.mcState c = 0 ∨ s.mcState c = 5 then
    if s.mcState c = 5 then s.setFld (MC_STAT.CFG_REJECT c) 1 else s.setBit (MC_CTL.EN c) en
  else if en then
    let s := s.setMc c { s.mc c with stopping := false }
    if s.bit (MC_CTL.EN c) then s else (s.setFld (MC_CTL.EN c) 1).setFld (MC_STAT.STATE c) 2
  else if s.bit (MC_CTL.EN c) then (s.setMc c { s.mc c with stopping := true }).mcStopPoint c
  else s

/-- A commanded retrain ends (R351) with the read and write eye of the rank's ten lanes. -/
def State.trainDone (s : State) (c : Nat) (eyes : List (BitVec 8 × BitVec 8)) : State :=
  if !s.bit (MC_TRAIN.BUSY c) then s
  else
    let rank := (s.mc c).trainRank
    let lane := (eyes.take 10).zipIdx
    let min := s.fld (MC_TRAIN.MIN_EYE c)
    let ok := lane.all (fun e => decide (min ≤ e.1.1.toNat ∧ min ≤ e.1.2.toNat))
    let m := s.mc c
    let tab := lane.foldl (fun t e => Tab.set (fun _ => (0, 0)) t (10 * rank + e.2) (e.1.1.toNat, e.1.2.toNat)) m.eyes
    let s := s.setMc c { m with eyes := tab }
    let s := (s.setFld (MC_TRAIN.BUSY c) 0).setFld (MC_STAT.STATE c) 2
    let s := s.setBit (MC_TRAIN.FAIL c) (!ok)
    let s :=
      if !ok then s.retrainFail c rank
      else
        let done := (rank :: (s.mc c).retrained).dedup
        let all := (upTo 4).all (fun r => !Nat.testBit (s.fld (MC_RANK.PRESENT c)) r || done.contains r)
        if all then (s.setFld (MC_TEMP.TRAIN_T c) (s.fld (MC_TEMP.CUR_T c))).setMc c { s.mc c with retrained := [], drifted := false }
        else s.setMc c { s.mc c with retrained := done }
    s.mcStopPoint c

/-- The window of a channel as a region entry. -/
def State.rgnWindow (s : State) (c : Nat) : Region :=
  { valid := false, base := BitVec.ofNat 20 (s.fld (MC_RGN_BASE.BASE c)), limit := BitVec.ofNat 20 (s.fld (MC_RGN_LIMIT.LIMIT c)),
    mir := s.bit (MC_RGN_MAP.MIR c), ilv := BitVec.ofNat 2 (s.fld (MC_RGN_MAP.ILV c)),
    ch0 := BitVec.ofNat 3 (s.fld (MC_RGN_MAP.CH0 c)), coff := BitVec.ofNat 17 (s.fld (MC_RGN_MAP.COFF c)),
    cache := s.bit (MC_RGN_ATTR.CACHE c), owner := BitVec.ofNat 2 (s.fld (MC_RGN_ATTR.OWNER c)),
    shared := s.bit (MC_RGN_ATTR.SHARED c), init := s.bit (MC_RGN_ATTR.INIT c), code := s.bit (MC_RGN_ATTR.CODE c) }

/-- Load the window of a channel from an entry. -/
def State.setRgnWindow (s : State) (c : Nat) (r : Region) : State :=
  let s := ((s.setFld (MC_RGN_BASE.BASE c) r.base.toNat).setFld (MC_RGN_LIMIT.LIMIT c) r.limit.toNat)
  let s := (((s.setBit (MC_RGN_MAP.MIR c) r.mir).setFld (MC_RGN_MAP.ILV c) r.ilv.toNat).setFld (MC_RGN_MAP.CH0 c) r.ch0.toNat).setFld
    (MC_RGN_MAP.COFF c) r.coff.toNat
  let s := ((s.setBit (MC_RGN_ATTR.CACHE c) r.cache).setFld (MC_RGN_ATTR.OWNER c) r.owner.toNat).setBit (MC_RGN_ATTR.SHARED c) r.shared
  ((s.setBit (MC_RGN_ATTR.INIT c) r.init).setBit (MC_RGN_ATTR.CODE c) r.code).setBit (MC_RGN_ATTR.VALID c) r.valid

/-- Storage of a region in each of its channels: first and last byte offset plus one. -/
def Region.storage (r : Region) : Nat × Nat :=
  (r.coff.toNat * unit2M, r.coff.toNat * unit2M + r.bytes / r.ways)

/-- The channels a region uses, its mirror included. -/
def Region.channels (r : Region) : List Nat :=
  (List.range r.ways).map (fun i => r.ch0.toNat + i) ++ (if r.mir then [1] else [])

/-- The refusal of a WRITE, in table order (R354); 0 is none. -/
def State.rgnRefusal (s : State) (r : Region) : Nat :=
  let others := (s.dram.regions.filter (fun e => e.2.valid)).map (fun e => e.2)
  let hit (x y : Nat × Nat) : Bool := decide (x.1 < y.2 ∧ y.1 < x.2)
  let stored := r.storage
  if r.limit.toNat < r.base.toNat ∨ r.bytes % (r.ways * unit2M) ≠ 0 then 1
  else if others.any (fun o => hit (r.first, r.first + r.bytes) (o.first, o.first + o.bytes)) then 2
  else if others.any (fun o => hit stored o.storage && o.channels.any (fun c => r.channels.contains c)) ||
          r.channels.any (fun c => decide (c < 8) && s.mcState c != 0 && decide (s.capacity c < stored.2)) then 3
  else if r.ch0.toNat % r.ways ≠ 0 ∨ r.channels.any (fun c => s.mcState c == 0 || s.mcState c == 5) then 4
  else if r.mir ∧ (r.ways ≠ 1 ∨ r.ch0 ≠ 0) then 5
  else if r.init ∧ r.bytes % 2 ^ 30 ≠ 0 then 6
  else 0

/-- Start the initialisation of an entry (R360, R361). -/
def State.startFill (s : State) (c idx : Nat) (r : Region) : State :=
  let s := { s.setRegion idx { r with valid := false } with dram := { (s.setRegion idx { r with valid := false }).dram with filling := some (idx, c) } }
  let s := s.setFld (MC_RGN_SEL.BUSY c) 1
  (upTo 8).foldl (fun s k => (s.setFld (MC_VMAP.INIT_BUSY k) 1).setFld (MC_VMAP.INIT_REGION k) idx) s

/-- Is an operation on the region table in progress (R353, R369)? -/
def State.rgnBusy (s : State) : Bool := s.dram.filling.isSome

/-- MC_RGN_SEL.OP 1 (R353). -/
def State.rgnRead (s : State) (c idx : Nat) : State :=
  let s := s.setFld (MC_RGN_SEL.INDEX c) idx
  if s.rgnBusy then s.setFld (MC_STAT.CFG_REJECT c) 1 else s.setRgnWindow c (s.region idx)

/-- MC_RGN_SEL.OP 2 (R353, R354): a refused WRITE reports ERR; an entry still valid is left alone with CFG_REJECT. -/
def State.rgnWrite (s : State) (c idx : Nat) : State :=
  let s := s.setFld (MC_RGN_SEL.INDEX c) idx
  if s.rgnBusy then s.setFld (MC_STAT.CFG_REJECT c) 1
  else if (s.region idx).valid then s.setFld (MC_STAT.CFG_REJECT c) 1
  else
    let r := s.rgnWindow c
    let e := s.rgnRefusal r
    let s := s.setFld (MC_RGN_SEL.ERR c) e
    if e ≠ 0 then s else s.startFill c idx r

/-- MC_RGN_SEL.OP 3 (R353). -/
def State.rgnInvalidate (s : State) (c idx : Nat) : State :=
  let s := s.setFld (MC_RGN_SEL.INDEX c) idx
  if s.rgnBusy then s.setFld (MC_STAT.CFG_REJECT c) 1 else s.setRegion idx { s.region idx with valid := false }

/-- MC_RGN_SEL.OP 4 (R353): only OWNER of a valid entry changes. -/
def State.rgnRebind (s : State) (c idx : Nat) : State :=
  let s := s.setFld (MC_RGN_SEL.INDEX c) idx
  if s.rgnBusy then s.setFld (MC_STAT.CFG_REJECT c) 1
  else if (s.region idx).valid then s.setRegion idx { s.region idx with owner := (s.rgnWindow c).owner }
  else s

/-- The FILL or the clearing of the map is done and the region becomes valid (R360, R361): every block reads zero. -/
def State.fillDone (s : State) : State :=
  match s.dram.filling with
  | none => s
  | some (idx, c) =>
    let r := s.region idx
    let lo := r.first
    let hi := r.first + r.bytes
    let d := s.dram
    let d := { d with
      bytes := d.bytes.filter (fun e => !decide (lo ≤ e.1 ∧ e.1 < hi)),
      poison := d.poison.filter (fun e => !decide (lo / 8 ≤ e.1 ∧ e.1 < hi / 8)),
      vmap := d.vmap.filter (fun e => !decide (lo / 64 ≤ e.1 ∧ e.1 < hi / 64)),
      filling := none }
    let s := { s with dram := d }
    let s := s.setRegion idx { r with valid := true }
    let s := s.setFld (MC_RGN_SEL.BUSY c) 0
    (upTo 8).foldl (fun s k => s.setFld (MC_VMAP.INIT_BUSY k) 0) s

end Sys2Proof.Machine
end

