-- ==== Sys2Proof/Machine/L1.lean ====
section
/-!
DEFINITION. Tree pseudo-LRU replacement (R271, R275) and the L1 caches of a pond's striders (R271 to R274): lines found, filled and
removed.
-/

namespace Sys2Proof.Machine

/-! ### Tree pseudo-LRU -/

/-- Bit `k` of a number written. -/
def withBit (b k : Nat) (v : Bool) : Nat := if v then b ||| 2 ^ k else b - (b &&& 2 ^ k)

/-- The tree bits of 2^`l` ways after a use of a way: on its path every node points away from it. Node 1 is the root, 2k and 2k + 1 lie
below node k, and way w is leaf 2^l + w; a bit of 1 points right. -/
def lruUse (l way bits : Nat) : Nat :=
  (List.range l).foldl (fun b i => withBit b ((2 ^ l + way) / 2 ^ (i + 1)) ((2 ^ l + way) / 2 ^ i % 2 == 0)) bits

/-- The way that the tree points to, from a node `n` levels above the leaves, among those that `ok` admits. -/
def lruPick (l : Nat) (ok : Nat → Bool) (bits : Nat) : Nat → Nat → Option Nat
  | 0, node => if ok (node - 2 ^ l) then some (node - 2 ^ l) else none
  | n + 1, node =>
    let first := if Nat.testBit bits node then 2 * node + 1 else 2 * node
    let other := if Nat.testBit bits node then 2 * node else 2 * node + 1
    match lruPick l ok bits n first with
    | some w => some w
    | none => lruPick l ok bits n other

/-- The victim among 2^`l` ways. -/
def lruVictim (l : Nat) (ok : Nat → Bool) (bits : Nat) : Option Nat := lruPick l ok bits l 1

/-! ### L1 caches -/

/-- The L1 set of a line (R271): A[11:6] ⊕ A[17:12] ⊕ A[23:18]. -/
def l1Set (line : Nat) : Nat := line % 64 ^^^ line / 64 % 64 ^^^ line / 4096 % 64

/-- What an unlisted place reads as: no line. -/
def L1Line.none : L1Line := { line := 2 ^ 35, data := [], poison := 0 }

/-- The place of a way of a slot's set. -/
def l1Key (slot line way : Nat) : Nat := (slot * 64 + l1Set line) * 4 + way

def L1.at_ (c : L1) (slot line way : Nat) : L1Line := Tab.get (fun _ => L1Line.none) c.lines (l1Key slot line way)

/-- The way that holds a line. -/
def L1.wayOf (c : L1) (slot line : Nat) : Option Nat := (List.range 4).find? (fun w => (c.at_ slot line w).line == line)

/-- The line held, if it is. -/
def L1.find (c : L1) (slot line : Nat) : Option L1Line := (c.wayOf slot line).map (c.at_ slot line)

/-- A way is used: its set's tree bits. -/
def L1.use (c : L1) (slot line way : Nat) : L1 :=
  let k := slot * 64 + l1Set line
  { c with lru := Tab.set (fun _ => 0) c.lru k (lruUse 2 way (Tab.get (fun _ => 0) c.lru k)) }

/-- A line is put into its set: in a way that holds none, else in the tree's victim. -/
def L1.fill (c : L1) (slot line : Nat) (data : List Byte) (poison : BitVec 8) : L1 :=
  let free := (List.range 4).find? (fun w => (c.at_ slot line w).line == 2 ^ 35)
  let way := free.getD ((lruVictim 2 (fun _ => true) (Tab.get (fun _ => 0) c.lru (slot * 64 + l1Set line))).getD 0)
  L1.use { c with lines := Tab.set (fun _ => L1Line.none) c.lines (l1Key slot line way) { line := line, data := data, poison := poison } } slot line way

/-- Keep the lines that `p` admits, by slot and line number. -/
def L1.keep (c : L1) (p : Nat → Nat → Bool) : L1 := { c with lines := c.lines.filter (fun e => p (e.1 / 256) e.2.line) }

/-- Change the line held by a slot, if it is. -/
def L1.change (c : L1) (slot line : Nat) (f : L1Line → L1Line) : L1 :=
  match c.wayOf slot line with
  | some w => { c with lines := Tab.set (fun _ => L1Line.none) c.lines (l1Key slot line w) (f (c.at_ slot line w)) }
  | none => c

/-- A line is removed from every L1D of a pond but that of slot `own` (R275, R328). -/
def State.dropL1 (s : State) (p line : Nat) (own : Option Nat) : State :=
  let x := s.pond p
  s.setPond p { x with l1d := x.l1d.keep (fun k l => l != line || own == some k) }

end Sys2Proof.Machine
end

