-- ==== Sys2Proof/Machine/Queues.lean ====
section
/-!
DEFINITION. Dispatcher queues, posts, tasks and their journals (R16 to R18, R205 to R215, R343, R386 to R389, R392): the
admission of posts, the start, replay and end of a task, the output log and its duplicate test, and the messages that the
device itself posts.
-/

namespace Sys2Proof.Machine

def Queue.init : Queue := { qen := false, prio := 0, size := 0, mode := false, entries := [], refused := 0 }

def State.queue (s : State) (b q : Nat) : Queue := Tab.get (fun _ => Queue.init) (s.basin b).queues q

def State.setQueue (s : State) (b q : Nat) (v : Queue) : State :=
  let x := s.basin b
  s.setBasin b { x with queues := Tab.set (fun _ => Queue.init) x.queues q v }

/-- Entries a queue holds (R343). -/
def Queue.capacity (q : Queue) : Nat := 16 * 2 ^ q.size.toNat

/-- Is a basin fenced (R340)? -/
def State.fencedBasin (s : State) (b : Nat) : Bool := s.fld (BASIN_STAT.STATE b) == 3

/-- The basin named as adoptive for a basin (Table 13-21). -/
def adoptFld (b : Nat) : Fld :=
  match b with
  | 0 => SVC_BASINMAP.ADOPT0
  | 1 => SVC_BASINMAP.ADOPT1
  | 2 => SVC_BASINMAP.ADOPT2
  | _ => SVC_BASINMAP.ADOPT3

/-- The adoptive basin of a lost basin (R394). -/
def State.adoptive (s : State) (b : Nat) : Option Nat :=
  let first := s.fld (adoptFld b)
  (first :: [(b + 1) % 4, (b + 2) % 4, (b + 3) % 4]).find? (fun x => x != b && !s.fencedBasin x)

/-- Where the message network delivers what is addressed to a basin (Table 13-14, step 2). -/
def State.deliverTo (s : State) (b : Nat) : Nat := if s.fencedBasin b then (s.adoptive b).getD b else b

/-- Output-log records free (R386, R388). -/
def State.olFree (s : State) : Nat := 4194304 - s.svc.olUsed

/-- Has the output log reached its reserve (R386)? -/
def State.olReserve (s : State) : Bool := decide (s.olFree ≤ 65536)

/-- Is task-journal admission open in a basin (R386)? -/
def State.tjOpen (s : State) (b : Nat) : Bool :=
  decide (4096 < 65536 - (s.basin b).jrn.length) && !s.olReserve

/-- The answer to a POST (Table 07-15). -/
inductive PostRes where
  | ok | full | badq | baddesc | journal
  deriving DecidableEq, Repr

def PostRes.code : PostRes → Nat
  | .ok => 0 | .full => 1 | .badq => 2 | .baddesc => 3 | .journal => 4

/-- Does a task descriptor break R206? -/
def badDesc (d : List Byte) : Bool :=
  leAt d 0 6 != 0 || leAt d 16 8 % 256 != 0 || leAt d 24 8 % 16 != 0 || leAt d 7 1 / 64 != 0 || leAt d 60 4 != 0

/-- The check of a post (R206, R208, R343): `msg` says a message of 32 bytes, which only a MSG queue takes (R205). -/
def State.postCheck (s : State) (b q : Nat) (bytes : List Byte) (msg : Bool) : PostRes :=
  let x := s.queue b q
  if !x.qen then .badq
  else if x.mode && msg then .full
  else if x.mode && badDesc bytes then .baddesc
  else if x.mode && !s.tjOpen b then .journal
  else if x.capacity ≤ x.entries.length then .full
  else .ok

/-- The next free task count (Table 07-14): it skips identifiers the journal still holds, or that a queued descriptor bears. -/
def nextTaskNo (b : Nat) (used : Nat → Bool) : Nat → Nat → Nat
  | 0, n => n
  | k + 1, n =>
    let n := if n % 2 ^ 46 = 0 then 1 else n % 2 ^ 46
    if used (b * 2 ^ 46 + n) then nextTaskNo b used k (n + 1) else n

/-- An entry that comes into a queue wakes every strider that waits for one there, whichever of them takes it (Table 07-19). -/
def State.wakeWaiters (s : State) (b q : Nat) : State :=
  { s with striders := s.striders.map (fun e =>
      match e.2.run with
      | .waiting (.waitq sel _ _) => if sel.toNat = b * 64 + q then (e.1, { e.2 with woken := true }) else e
      | _ => e) }

/-- Put an entry into a queue. A task descriptor gets its TASK_ID there, unless it bears one already (Table 07-14; DEDUCED,
assumption 42: TASK.POST returns the ID, so it is assigned when the queue takes the entry). -/
def State.enqueue (s : State) (b q : Nat) (bytes : List Byte) : State :=
  let s := s.wakeWaiters b q
  let x := s.queue b q
  let bytes := slice bytes 0 64
  if x.mode && leAt bytes 0 6 == 0 then
    let y := s.basin b
    let used (id : Nat) : Bool :=
      y.jrn.any (fun j => j.taskId.toNat == id) || y.queues.any (fun e => e.2.entries.any (fun e => leAt e.bytes 0 6 == id))
    let n := nextTaskNo b used (y.jrn.length + 8193) y.nextTask
    let s := s.setBasin b { y with nextTask := (n + 1) % 2 ^ 46 }
    s.setQueue b q { x with entries := x.entries ++ [{ bytes := patch bytes 0 (leBytes 6 (b * 2 ^ 46 + n)), taken := none }] }
  else s.setQueue b q { x with entries := x.entries ++ [{ bytes := bytes, taken := none }] }

/-- Count a refused POST (Table 11-17). -/
def State.countRefused (s : State) (b q : Nat) : State :=
  let x := s.queue b q
  s.setQueue b q { x with refused := min 0xFFFF (x.refused + 1) }

/-- Post a message of the device itself (report, sense, status, end message); the message network delivers to the adoptive
basin of a lost one. -/
def State.postMsg (s : State) (b q : Nat) (bytes : List Byte) : Bool × State :=
  let b := s.deliverTo b
  match s.postCheck b q bytes true with
  | .ok => (true, s.enqueue b q bytes)
  | _ => (false, s.countRefused b q)

/-- The task journal entry of a task. -/
def State.jrnOf (s : State) (b : Nat) (id : BitVec 48) : Option TaskJrn :=
  (s.basin b).jrn.find? (fun j => j.taskId == id)

/-- Change a task journal entry. -/
def State.updJrn (s : State) (b : Nat) (id : BitVec 48) (f : TaskJrn → TaskJrn) : State :=
  let x := s.basin b
  s.setBasin b { x with jrn := x.jrn.map (fun j => if j.taskId == id then f j else j) }

/-- The basin of a strider. -/
def basinOfStr (w : StrId) : Nat := basinOf w.pond.val

/-- The task a strider runs or waits in. -/
def State.taskOf (s : State) (w : StrId) : Option TaskJrn :=
  (s.basin (basinOfStr w)).jrn.find? (fun j => j.phys == w && !j.pending)

/-- Insert an output-log record at its ordinal's place (R388). -/
def insertLog (r : LogRec) : List LogRec → List LogRec
  | [] => [r]
  | x :: t => if x.ordinal.toNat ≤ r.ordinal.toNat then x :: insertLog r t else r :: x :: t

/-- Write an output-log record for a task (R388), and the lowest free count. -/
def State.logOutput (s : State) (b : Nat) (id : BitVec 48) (ordinal : Word32) (kind : Nat) (result : Word) : State :=
  let s := { s with svc := { s.svc with olUsed := s.svc.olUsed + 1 } }
  let s := s.setFld OL_STAT.LOW_K (min (s.fld OL_STAT.LOW_K) (s.olFree / 1024))
  s.updJrn b id (fun j =>
    let below := (j.log.filter (fun x => x.ordinal.toNat ≤ ordinal.toNat)).length
    { j with log := insertLog { ordinal := ordinal, kind := kind, result := result } j.log,
             cursor := if below < j.cursor then j.cursor + 1 else j.cursor })

/-- Move the cursor past every record below an ordinal (R388). -/
def skipBelow (k : Word32) (log : List LogRec) : Nat → Nat → Nat
  | 0, c => c
  | n + 1, c =>
    match log[c]? with
    | some r => if r.ordinal.toNat < k.toNat then skipBelow k log n (c + 1) else c
    | none => c

/-- The duplicate test (R18, R388): moves the cursor, and answers the recorded result of a duplicate. -/
def State.duplicate (s : State) (b : Nat) (id : BitVec 48) (k : Word32) : Option Word × State :=
  match s.jrnOf b id with
  | none => (none, s)
  | some j =>
    let c := skipBelow k j.log (j.log.length + 1) j.cursor
    let s := s.updJrn b id (fun j => { j with cursor := c })
    match j.log[c]? with
    | some r => if r.ordinal == k then (some r.result, s) else (none, s)
    | none => (none, s)

/-- Raise a pond event for a strider (R220). -/
def State.latchEvent (s : State) (w : StrId) (e : Nat) : State :=
  let t := s.str w
  s.setStr w { t with evlatch := t.evlatch ||| BitVec.ofNat 32 (2 ^ e) }

/-- Does a strider hold a task? -/
def State.occupied (s : State) (w : StrId) : Bool :=
  match (s.str w).run with
  | .running | .waiting _ => true
  | _ => false

/-- Does some strider of a pond run or wait? -/
def State.pondBusy (s : State) (p : Fin 68) : Bool := (pondStriders p).any s.occupied

/-- Does some strider of a basin run or wait? -/
def State.basinBusy (s : State) (b : Nat) : Bool := (List.finRange 68).any (fun p => basinOf p.val == b && s.pondBusy p)

/-- Complete the stops that wait for the end of tasks: POND_CTL.EN (R301), BASIN_CTL.EN (Table 11-13). -/
def State.afterTask (s : State) (p : Fin 68) : State :=
  let b := basinOf p.val
  let s :=
    if s.pondBusy p then s
    else
      let x := s.pond p.val
      let s := s.setPond p.val { x with stopping := false }
      if x.stopping then s.setFld (POND_CTL.EN p.val) 0 else s
  if (s.basin b).stopping && !s.basinBusy b then
    ((s.setFld (BASIN_CTL.EN b) 0).setFld (BASIN_STAT.STATE b) 2).setBasin b { s.basin b with stopping := false }
  else s

/-- Release a task's journal entry with its log records and the queue entries it took (R209, R212, R388). -/
def State.releaseTask (s : State) (b : Nat) (id : BitVec 48) : State :=
  match s.jrnOf b id with
  | none => s
  | some j =>
    let x := s.basin b
    let x := { x with
      jrn := x.jrn.filter (fun e => e.taskId != id),
      queues := x.queues.map (fun (e : Nat × Queue) => (e.1, { e.2 with entries := e.2.entries.filter (fun y => y.taken != some id) })) }
    let s := s.setBasin b { x with queues := x.queues.filter (fun e => e.2 != Queue.init) }
    { s with svc := { s.svc with olUsed := s.svc.olUsed - j.log.length } }

/-- The end message (Table 07-16). -/
def endMsg (j : TaskJrn) (outputs : Word32) (reason : Nat) (code : BitVec 16) (dt0 dt1 : Word) : List Byte :=
  leBytes 6 j.taskId.toNat ++ leBytes 4 outputs.toNat ++ leBytes 2 (if reason = 0 then 0 else 0x42) ++ leBytes 1 reason ++
  leBytes 1 0 ++ leBytes 2 code.toNat ++ leBytes 8 dt0.toNat ++ leBytes 8 dt1.toNat

/-- Post the end message of a task if END_EN asks for one and no run of the task has posted it (R212, R213): false while a
queue refuses it. -/
def State.postEnd (s : State) (b : Nat) (j : TaskJrn) (outputs : Word32) (reason : Nat) (code : BitVec 16) (dt0 : Word) : Bool × State :=
  let sent := j.log.any (fun r => r.ordinal == 0xFFFFFFFF#32)
  if leAt j.desc 7 1 % 2 = 0 ∨ sent then (true, s)
  else
    let q := leAt j.desc 6 1
    let (ok, s) := s.postMsg (q / 64) (q % 64) (endMsg j outputs reason code dt0 s.dt)
    (ok, if ok then s.logOutput b j.taskId 0xFFFFFFFF#32 4 0 else s)

/-- The end of a task on its strider (R212, R215): the end message, the release, then the strider is idle; a refused end
message is retried every 1 µs with the journal entry held. -/
def State.endTask (s : State) (w : StrId) (reason : Nat) (code : BitVec 16) : State :=
  let b := basinOfStr w
  let t := s.str w
  match s.taskOf w with
  | none => (s.setStr w { t with run := .idle }).afterTask w.pond
  | some j =>
    let (ok, s) := s.postEnd b j t.oord reason code t.dtStart
    if ok then
      let s := s.releaseTask b j.taskId
      (s.setStr w { t with run := .idle, waitAt := none }).afterTask w.pond
    else s.setStr w { t with run := .waiting (.taskEnd code reason s.dt), waitAt := none }

/-- Abandon the task of a strider (R215): recorded, never replayed; reasons 1 to 5 of Tables 07-16 and 13-9. -/
def State.abandon (s : State) (w : StrId) (reason : Nat) : State :=
  match s.taskOf w with
  | none => s
  | some j =>
    let s := s.taskRecord (basinOfStr w) reason j.taskId.toNat
    let s := s.addSat TJ_REPLAY.ABANDONED 1
    s.endTask w reason 0

/-- The logical pond numbers of basin `b` run from 16 b; the physical pond that has one now (R7, R8). -/
def State.physPond (s : State) (logical : Nat) : Option (Fin 68) :=
  (List.finRange 68).find? (fun p => s.fld (POND_STAT.ROLE p.val) == 0 && s.fld (POND_STAT.LOGICAL p.val) == logical)

/-- The pond a descriptor is pinned to: none when it is not pinned, or pinned to an unmapped logical pond (R385). -/
def State.pinOf (s : State) (b : Nat) (desc : List Byte) : Option (Fin 68) :=
  let f := leAt desc 7 1
  if f / 2 % 2 = 1 then s.physPond (16 * b + f / 4 % 16) else none

/-- Has the spare slot of a pond been put to use? -/
def State.slotActive (s : State) (w : StrId) : Bool :=
  if w.slot.val = 16 then (s.pond w.pond.val).spareFor.isSome else !Nat.testBit (s.fld (POND_STAT.RETIRED w.pond.val)) w.slot.val

/-- Can the dispatcher send a task to a strider (R207, R301, R343)? -/
def State.canTake (s : State) (w : StrId) : Bool :=
  let p := w.pond.val
  let b := basinOf p
  (s.str w).run == .idle && s.slotActive w && s.fld (POND_STAT.ROLE p) == 0 && s.bit (POND_CTL.EN p) &&
  !(s.pond p).stopping && s.bit (BASIN_CTL.EN b) && !(s.basin b).stopping && s.fld (BASIN_STAT.STATE b) == 0 &&
  s.bit (DSP_CTL.EN b) && !s.bit SVC_STAT.SAFE && s.pwr.phase == .ready

/-- Idle striders of a pond that can take a task. -/
def State.freeIn (s : State) (p : Fin 68) : Nat := ((pondStriders p).filter s.canTake).length

/-- Does DSP_CTL.PLACE let an unpinned task go to this strider (Table 11-17)? 1 spreads: no pond of the basin has more idle
striders; 2 packs: no lower-numbered pond has an idle one. -/
def State.placeOk (s : State) (w : StrId) : Bool :=
  let b := basinOf w.pond.val
  let ponds := (List.finRange 68).filter (fun p => basinOf p.val == b)
  match s.fld (DSP_CTL.PLACE b) with
  | 1 => ponds.all (fun p => decide (s.freeIn p ≤ s.freeIn w.pond))
  | 2 => ponds.all (fun p => decide (w.pond.val ≤ p.val) || s.freeIn p == 0)
  | _ => true

/-- A strider in the initial state of R207. -/
def startStr (old : StrSt) (desc : List Byte) (id : BitVec 48) (now : Word) (limit : Nat) : StrSt :=
  let w64 (o : Nat) : Word := BitVec.ofNat 64 (leAt desc o 8)
  let z : Nat → Word := fun _ => 0
  let x := Tab.set z (Tab.set z (Tab.set z (Tab.set z [] 1 (w64 32)) 2 (w64 40)) 3 (w64 48)) 31 (w64 24)
  { StrSt.init with run := .running, pc := w64 8, x := x, tbase := w64 16, taskId := id.setWidth 64, dtStart := now, limit := limit,
                    cmpBuf := old.cmpBuf, dmaBuf := old.dmaBuf }

/-- Power a gated pond up for a dispatch or a known event (R223, R485). -/
def pondGated (p : Nat) : Fld := POND_PSTAT.GATED (p / 32)

def State.wakePond (s : State) (p : Nat) : State :=
  let f := pondGated p
  let v := s.fld f
  if Nat.testBit v (p % 32) then s.setFld f (v - 2 ^ (p % 32)) else s

/-- The logical number of a strider (R7, R8). -/
def State.logicalStr (s : State) (w : StrId) : Nat :=
  let p := w.pond.val
  let k := if w.slot.val = 16 then ((s.pond p).spareFor).getD 0 else w.slot.val
  16 * s.fld (POND_STAT.LOGICAL p) + k

/-- Start a task on a strider; its run-time limit is sampled here (R207, R301). -/
def State.startTask (s : State) (w : StrId) (j : TaskJrn) : State :=
  let p := w.pond.val
  let tlim := leAt j.desc 56 4
  let limit := if tlim = 0 then s.fld (POND_CTL.TASK_MAX p) else tlim
  let s := s.wakePond p
  let s := s.updJrn (basinOf p) j.taskId (fun j => { j with strider := s.logicalStr w, phys := w, pending := false, cursor := 0, returned := 0 })
  (s.setStr w (startStr (s.str w) j.desc j.taskId s.dt limit)).addWrap (DSP_CNT.DISPATCHED (basinOf p)) 1

/-- May a pending replay run on a strider (Table 13-12)? -/
def State.replayFits (s : State) (w : StrId) (j : TaskJrn) : Bool :=
  j.pending && !(s.basin (basinOf w.pond.val)).ends.any (fun e => e.1 == j.taskId) && (match s.pinOf (basinOf w.pond.val) j.desc with
    | none => true
    | some p => p == w.pond)

/-- Start a pending replay on a strider (R392). A replay beyond REPLAY_MAX is abandoned when it falls due. -/
def State.startReplay (s : State) (w : StrId) (j : TaskJrn) : State :=
  (s.updJrn (basinOfStr w) j.taskId (fun j => { j with replays := j.replays + 1 })).addSat TJ_REPLAY.REPLAYED 1 |>.startTask w j

/-- The TASK queues of a basin whose head can be placed on some idle strider, with their priority (R343). -/
def State.headFits (s : State) (b q : Nat) (w : StrId) : Bool :=
  let x := s.queue b q
  match x.entries with
  | [] => false
  | e :: _ =>
    x.qen && x.mode &&
    (match s.pinOf b e.bytes with
     | some p => p == w.pond
     | none => s.placeOk w)

/-- Can the head of a queue be placed anywhere? -/
def State.headPlaceable (s : State) (b q : Nat) : Bool :=
  (List.finRange 68).any (fun p => basinOf p.val == b && (pondStriders p).any (fun w => s.canTake w && s.headFits b q w))

/-- Is a queue the one the dispatcher serves next: the highest priority with a placeable head, in rotation among equals? -/
def State.servedNext (s : State) (b q : Nat) : Bool :=
  let x := s.queue b q
  let prio := x.prio.toNat
  let last := Tab.get (fun _ => 63) (s.basin b).rotate prio
  let turn (k : Nat) : Nat := (k + 63 - last) % 64
  (upTo 64).all (fun k =>
    if k = q then true
    else
      let y := s.queue b k
      let before := decide (prio < y.prio.toNat) || (y.prio.toNat == prio && decide (turn k < turn q))
      !(before && s.headPlaceable b k))

/-- One dispatch (R207, R343, R392): a pending replay that fits the strider goes first; else the head of queue `q`, if the
dispatcher serves that queue next and the strider may take it. -/
def State.dispatch (s : State) (b q : Nat) (w : StrId) : State :=
  if basinOf w.pond.val ≠ b ∨ !s.canTake w then s
  else
    match (s.basin b).jrn.find? (s.replayFits w) with
    | some j => s.startReplay w j
    | none =>
      if !(s.headFits b q w && s.servedNext b q) then s
      else
        let x := s.queue b q
        match x.entries with
        | [] => s
        | e :: rest =>
          let id : BitVec 48 := BitVec.ofNat 48 (leAt e.bytes 0 6)
          let j : TaskJrn := { taskId := id, desc := e.bytes, dtDispatch := s.dt, strider := 0, phys := w,
                               replays := 0, pending := false, log := [], cursor := 0, recv := [], returned := 0 }
          let s := s.setQueue b q { x with entries := rest }
          let bs := s.basin b
          let s := s.setBasin b { bs with jrn := bs.jrn ++ [j],
                                          rotate := Tab.set (fun _ => 63) bs.rotate x.prio.toNat q }
          s.startTask w j

/-- End a task that no strider runs (R391, R392): its end message, or a place among those still to be posted. -/
def State.endOrphan (s : State) (b : Nat) (id : BitVec 48) (reason : Nat) : State :=
  match s.jrnOf b id with
  | none => s
  | some j =>
    let (ok, s) := s.postEnd b j 0 reason 0 j.dtDispatch
    let x := s.basin b
    let rest := x.ends.filter (fun e => e.1 != id)
    if ok then (s.setBasin b { x with ends := rest }).releaseTask b id
    else (s.setBasin b { x with ends := rest ++ [(id, reason, s.dt)] }).updJrn b id (fun j => { j with pending := true })

/-- Try the end messages again that no queue has taken, each 1 µs after it was refused last (R212). -/
def State.retryEnds (s : State) (b : Nat) : State :=
  (s.basin b).ends.foldl (fun s e => if elapsed s.dt e.2.2 (usTicks 1) then s.endOrphan b e.1 e.2.1 else s) s

/-- A task that must be replayed: it waits for dispatch, or past REPLAY_MAX it is abandoned with REPLAY_LIMIT (R392). -/
def State.makePending (s : State) (b : Nat) (id : BitVec 48) : State :=
  match s.jrnOf b id with
  | none => s
  | some j =>
    if s.fld SVC_FLTCTL.REPLAY_MAX ≤ j.replays then
      let s := s.taskRecord b 3 id.toNat
      let s := s.addSat TJ_REPLAY.ABANDONED 1
      (s.endOrphan b id 3).raise Flt.SVC_REPLAY_LIMIT
    else s.updJrn b id (fun j => { j with pending := true })

end Sys2Proof.Machine
end

