-- ==== Sys2Proof/Machine/Coherence.lean ====
section
/-!
DEFINITION. Basin coherence (R323 to R337): pond L2 lines, the home agent with its snoop filter, the messages of the mere
ring (Tables 11-5 to 11-9), and the accesses of masters that go through the home.
-/

namespace Sys2Proof.Machine

def L2Line.none : L2Line := { st := .i, way := 0, data := zeros 64, poison := 0 }

/-- The L2 line of a pond; an unlisted line is in state I. -/
def State.l2 (s : State) (p line : Nat) : L2Line := Tab.get (fun _ => L2Line.none) (s.pond p).l2 line

/-- States in which the L2 holds the line's data for loads (Table 11-6). -/
def L2St.readable : L2St → Bool
  | .s | .e | .m | .smg => true
  | _ => false

/-- A line of the L2 changes. One that leaves it, or whose bytes change, leaves every L1D of the pond but that of slot `own`, which
has the bytes already (R275, R328). -/
def State.putL2 (s : State) (p line : Nat) (v : L2Line) (own : Option Nat) : State :=
  let x := s.pond p
  let old := s.l2 p line
  let l1d := if v.st.readable && v.data == old.data && v.poison == old.poison then x.l1d else x.l1d.keep (fun k l => l != line || own == some k)
  s.setPond p { x with l1d := l1d, l2 := if v.st == .i then Tab.erase x.l2 line else Tab.insert (Tab.erase x.l2 line) line v }

def State.setL2 (s : State) (p line : Nat) (v : L2Line) : State := s.putL2 p line v none

/-- A field of 11 bits of a line number. -/
def lineBits (line lo : Nat) : Nat := line / 2 ^ lo % 2048

/-- The L2 set of a line (R275). -/
def l2Set (line : Nat) : Nat := lineBits line 0 ^^^ lineBits line 11 ^^^ lineBits line 22 ^^^ (line / 2 ^ 33 % 4)

/-- Rotate left within 11 bits. -/
def rot11 (k x : Nat) : Nat := (x * 2 ^ k % 2048) + x / 2 ^ (11 - k)

/-- The snoop-filter set of a line (R333). -/
def sfSet (line : Nat) : Nat := lineBits line 0 ^^^ rot11 5 (lineBits line 11) ^^^ rot11 9 (lineBits line 22) ^^^ (line / 2 ^ 33 % 4)

/-- Is a way of a pond's L2 enabled (R277)? One that is being disabled still is. -/
def State.wayOn (s : State) (p w : Nat) : Bool :=
  !Nat.testBit (s.fld (L2_WAYOFF.OFF p)) w && !Nat.testBit (s.fld (L2_WAYOFF.AUTO p)) w

/-- May a way take fills: it is enabled and not being disabled (R277)? -/
def State.wayFills (s : State) (p w : Nat) : Bool := s.wayOn p w && !(s.pond p).wayBusy.contains w

/-- A way of the L2 is used: the tree bits of the line's set (R275). -/
def State.useWay (s : State) (p line way : Nat) : State :=
  let x := s.pond p
  s.setPond p { x with l2Lru := Tab.set (fun _ => 0) x.l2Lru (l2Set line) (lruUse 4 way (Tab.get (fun _ => 0) x.l2Lru (l2Set line))) }

def L2St.transient : L2St → Bool
  | .i | .s | .e | .m => false
  | _ => true

/-- Does a line stand in a way (MI_A and II_A lines stand in the writeback buffer)? -/
def L2St.inWay : L2St → Bool
  | .i | .mia _ | .iia => false
  | _ => true

/-- The physical pond at a ring stop of a basin. -/
def stopPond (b r : Nat) : Nat := 17 * b + r

def HomeLine.np : HomeLine := { holders := 0, owner := false, alloc := 0, reserved := false, txn := .none, queue := [] }

def State.homeLine (s : State) (b line : Nat) : HomeLine := Tab.get (fun _ => HomeLine.np) (s.basin b).home line

def State.setHome (s : State) (b line : Nat) (v : HomeLine) : State :=
  let x := s.basin b
  s.setBasin b { x with home := Tab.set (fun _ => HomeLine.np) x.home line v }

/-- The key under which the flush of a filter set is held (R336): beyond every line number. -/
def flushKey (set : Nat) : Nat := 2 ^ 35 + set

/-- Send a message over the ring. -/
def State.sendRing (s : State) (b : Nat) (dst : Option (Fin 17)) (line : Nat) (m : RingMsg) : State :=
  let x := s.basin b
  s.setBasin b { x with flights := x.flights ++ [{ dst := dst, line := BitVec.ofNat 35 line, msg := m, seq := x.nextSeq }], nextSeq := x.nextSeq + 1 }

/-- STOP of a message's sender or receiver at the ring: a pond slot, or 17 for the home (Table 11-15). -/
def ringStop : Option (Fin 17) → Nat
  | some r => r.val
  | .none => 17

/-- MSG of Table 11-15. -/
def HomeReq.code : HomeReq → Nat
  | .gets => 0
  | .getm => 1
  | .upg => 2
  | .putm _ _ _ => 3
  | .ucrd => 5
  | .ucwr _ _ => 6

def RingMsg.code : RingMsg → Nat
  | .dataS _ _ => 14
  | .dataE _ _ => 15
  | .dataM _ _ => 16
  | .grant => 17
  | .udata _ _ => 18
  | .cmp => 19
  | .wback _ => 20
  | .wbackStale => 21
  | .nack _ => 22

/-- STOP and MSG as BASIN_FIRST_INFO holds them (Table 11-15). -/
def ringInfo (stop msg : Nat) : Nat := stop * 2 ^ 20 + msg * 2 ^ 15

/-- An unrecoverable protocol error (R332): captured with the stop that found it and the message in progress (log 128). -/
def State.protoError (s : State) (b line stop msg : Nat) : State :=
  s.raiseAt (Flt.BASIN_PROTO b) (64 * line) (ringInfo stop msg) 0

/-- Open transactions and waiting requests of a home (R329). -/
def State.homeOpen (s : State) (b : Nat) : Nat := ((s.basin b).home.filter (fun e => e.2.txn.isSome)).length
def State.homeWaiting (s : State) (b : Nat) : Nat := (s.basin b).home.foldl (fun n e => n + e.2.queue.length) 0

/-- Filter entries of a set outside the reserve. -/
def State.setEntries (s : State) (b set : Nat) : List (Nat × HomeLine) :=
  (s.basin b).home.filter (fun e => decide (e.1 < 2 ^ 35) && sfSet e.1 == set && e.2.holders != 0 && !e.2.reserved)

def State.reservedUsed (s : State) (b : Nat) : Nat :=
  ((s.basin b).home.filter (fun e => e.2.reserved && e.2.holders != 0)).length

/-- Refuse a request with a ticket (R335). -/
def State.nackReq (s : State) (b line : Nat) (m : HomeMsg) : State :=
  let x := s.basin b
  let t := m.ticket.getD x.nextTicket
  let old := x.nacked.find? (fun n => n.ticket == t)
  let n := m.nacks + 1
  let rest := x.nacked.filter (fun n => n.ticket != t)
  let e : Nacked :=
    { line := BitVec.ofNat 35 line, msg := { m with ticket := some t, nacks := n }, ticket := t, count := n, since := s.dt, passed := (old.map (·.passed)).getD 0 }
  let s := s.setBasin b { x with nacked := rest ++ [e], nextTicket := if m.ticket.isSome then x.nextTicket else x.nextTicket + 1 }
  let s := (s.addWrap (SF_NACK_CNT.NACKS b) 1).setFld (HOME_TRK.MAX_NACK b) (max (s.fld (HOME_TRK.MAX_NACK b)) (min n 255))
  s.sendRing b m.who line (.nack t)

/-- The home has taken a refused request up: its ticket is returned. -/
def State.returnTicket (s : State) (b : Nat) (m : HomeMsg) : State :=
  let x := s.basin b
  s.setBasin b { x with nacked := x.nacked.filter (fun n => m.ticket != some n.ticket) }

/-- Does a request hold a later ticket than `t`, or none? -/
def HomeMsg.behind (m : HomeMsg) (t : Nat) : Bool := m.ticket.all (fun u => decide (t < u))

/-- A request is granted: its ticket is returned, and every earlier ticket counts it (R335). -/
def State.dropTicket (s : State) (b : Nat) (m : HomeMsg) : State :=
  let s := s.returnTicket b m
  let x := s.basin b
  s.setBasin b { x with nacked := x.nacked.map (fun n => if m.behind n.ticket then { n with passed := n.passed + 1 } else n) }

/-- Would a grant be the 65th ahead of an earlier ticket (R335)? -/
def State.overtakes (s : State) (b : Nat) (m : HomeMsg) : Bool :=
  s.bit (SF_CTL.RSV_EN b) && (s.basin b).nacked.any (fun n => decide (64 ≤ n.passed) && m.behind n.ticket)

/-- Open a transaction on a line, its snoop leaving the home: NACK when 64 are open (R329). An eviction grants nothing yet. -/
def State.openTxn (s : State) (b line : Nat) (busy : Busy) (m : HomeMsg) : State :=
  if 64 ≤ s.homeOpen b then s.nackReq b line m
  else
    let h := s.homeLine b line
    let s := s.setHome b line { h with txn := some { busy := busy, msg := m, answers := [], seq := (s.basin b).nextSeq } }
    match busy with
    | .v _ _ => s.returnTicket b m
    | _ => s.dropTicket b m

/-- The bit of a stop in a holder vector. -/
def holderBit : Option (Fin 17) → BitVec 17
  | .none => 0
  | some r => BitVec.ofNat 17 (2 ^ r.val)

/-- Grant a line in a new entry to its requester (Table 11-8, NP). -/
def State.grantNew (s : State) (b line : Nat) (m : HomeMsg) (reserved : Bool) : State :=
  let x := s.basin b
  let s := s.setBasin b { x with nextAlloc := x.nextAlloc + 1 }
  let (d, p, s) := s.dramRead line b
  let h := s.homeLine b line
  let s := s.setHome b line { h with holders := holderBit m.who, owner := true, alloc := x.nextAlloc, reserved := reserved }
  (s.sendRing b m.who line (match m.req with | .gets => .dataE d p | _ => .dataM d p)).dropTicket b m

/-- Allocate an entry for a request (R334, R335): a free way; else the least recently allocated way that is not busy is
evicted; else a reserved entry for a request that holds a ticket; else NACK. -/
def State.allocate (s : State) (b line : Nat) (m : HomeMsg) : State :=
  let es := s.setEntries b (sfSet line)
  if es.length < 16 then s.grantNew b line m false
  else
    let idle := es.filter (fun e => e.2.txn.isNone)
    match idle with
    | [] =>
      if m.ticket.isSome && s.bit (SF_CTL.RSV_EN b) && decide (s.reservedUsed b < 4) then s.grantNew b line m true
      else s.nackReq b line m
    | e :: rest =>
      let v := rest.foldl (fun a c => if c.2.alloc < a.2.alloc then c else a) e
      s.openTxn b v.1 (.v (BitVec.ofNat 35 line) m) m

/-- A way of a set has freed: it goes to a reserved entry of the set (R335); of several, to the first by line (log 128). -/
def State.freeWay (s : State) (b set : Nat) : State :=
  match (s.basin b).home.find? (fun e => decide (e.1 < 2 ^ 35) && sfSet e.1 == set && e.2.reserved && e.2.holders != 0) with
  | .none => s
  | some e => if (s.setEntries b set).length < 16 then s.setHome b e.1 { e.2 with reserved := false } else s

/-- Merge bytes under a mask over a whole line. -/
def mergeBytes (d : List Byte) (b : List (Option Byte)) : List Byte :=
  (List.range 64).map (fun i => ((b.getD i .none).getD (d.getD i 0)))

/-- A request on a line with no open transaction (Table 11-8). -/
def State.homeAct (s : State) (b line : Nat) (m : HomeMsg) : State :=
  let h := s.homeLine b line
  let r := holderBit m.who
  let isOwner := h.owner && h.holders == r && r != 0
  let udata (s : State) : State :=
    let (d, p, s) := s.dramRead line b
    (s.sendRing b m.who line (.udata d p)).dropTicket b m
  let merged (s : State) (x : List (Option Byte)) (p : BitVec 8) : State :=
    ((s.dramWrite line x p b).sendRing b m.who line .cmp).dropTicket b m
  if h.holders = 0 then
    match m.req with
    | .gets | .getm | .upg => s.allocate b line m
    | .putm _ _ _ => s.sendRing b m.who line .wbackStale
    | .ucrd => udata s
    | .ucwr x p => merged s x p
  else if !h.owner then
    match m.req with
    | .gets =>
      let (d, p, s) := s.dramRead line b
      ((s.setHome b line { h with holders := h.holders ||| r }).sendRing b m.who line (.dataS d p)).dropTicket b m
    | .getm | .upg => s.openTxn b line .m m
    | .putm _ _ _ => s.sendRing b m.who line .wbackStale
    | .ucrd => udata s
    | .ucwr _ _ => s.openTxn b line .w m
  else if isOwner then
    match m.req with
    | .gets | .getm | .upg => s.protoError b line 17 m.req.code
    | .putm d p keep =>
      let s := (s.dramWriteFull line d p b).sendRing b m.who line (.wback keep)
      if keep then s else (s.setHome b line { h with holders := 0, owner := false, alloc := 0, reserved := false }).freeWay b (sfSet line)
    | .ucrd => udata s
    | .ucwr x p => merged s x p
  else
    match m.req with
    | .gets => s.openTxn b line .s m
    | .getm | .upg => s.openTxn b line .m m
    | .putm _ _ _ => s.sendRing b m.who line .wbackStale
    | .ucrd => s.openTxn b line .d m
    | .ucwr _ _ => s.openTxn b line .w m

def HomeReq.isPutm : HomeReq → Bool
  | .putm _ _ _ => true
  | _ => false

/-- A request of a master outside the L2s. -/
def HomeReq.uncached : HomeReq → Bool
  | .ucrd | .ucwr _ _ => true
  | _ => false

/-- Is an entry being freed for a request on this line (R334)? -/
def State.allocating (s : State) (b line : Nat) : Bool :=
  (s.basin b).home.any (fun e => match e.2.txn with
    | some t => (match t.busy with | .v l _ => l.toNat == line | _ => false)
    | .none => false)

/-- Must requests for a line wait: a transaction is open on it, an entry is being freed for it, or its filter set is being flushed (R329,
R334, R336)? -/
def State.lineBusy (s : State) (b line : Nat) : Bool :=
  (s.homeLine b line).txn.isSome || s.allocating b line || (s.homeLine b (flushKey (sfSet line))).txn.isSome

/-- A request arrives at the home (R329, R335): with 64 transactions open or 256 requests waiting, or ahead of a ticket that 64 grants have
passed, it is refused, a PUTM excepted; on a busy line it waits. -/
def State.homeRequest (s : State) (b line : Nat) (m : HomeMsg) : State :=
  if (decide (64 ≤ s.homeOpen b) || decide (256 ≤ s.homeWaiting b) || s.overtakes b m) && !m.req.isPutm then s.nackReq b line m
  else if s.lineBusy b line then
    let h := s.homeLine b line
    (s.setHome b line { h with queue := h.queue ++ [m] }).returnTicket b m
  else s.homeAct b line m

/-- Remove a holder at once (PUTC, R330). -/
def State.removeHolder (s : State) (b line : Nat) (r : Fin 17) : State :=
  let h := s.homeLine b line
  let keep := h.holders &&& ~~~(holderBit (some r))
  let h' := if keep = 0 then { h with holders := 0, owner := false, alloc := 0, reserved := false } else { h with holders := keep, owner := false }
  let applies := h.holders &&& holderBit (some r) != 0 && (!h.owner || h.holders == holderBit (some r))
  if applies then (s.setHome b line h').freeWay b (sfSet line) else s

/-- The first message in flight to a receiver, and the rest. -/
def takeFlight (dst : Option (Fin 17)) : List Flight → Option (Flight × List Flight)
  | [] => .none
  | f :: t =>
    if f.dst == dst then some (f, t)
    else (takeFlight dst t).map (fun r => (r.1, f :: r.2))

/-- An L2 receives an answer from the home (Table 11-7). -/
def State.receive (s : State) (b : Nat) (r : Fin 17) (f : Flight) : State :=
  let p := stopPond b r.val
  let line := f.line.toNat
  let l := s.l2 p line
  match l.st, f.msg with
  | .isd, .dataS d x => s.setL2 p line { l with st := .s, data := d, poison := x }
  | .isd, .dataE d x => s.setL2 p line { l with st := .e, data := d, poison := x }
  | .imd, .dataM d x => s.setL2 p line { l with st := .m, data := d, poison := x }
  | .smg, .dataM d x => s.setL2 p line { l with st := .m, data := d, poison := x }
  | .smg, .grant => s.setL2 p line { l with st := .m }
  | .mia _, .wback keep => s.setL2 p line { l with st := if keep then .e else .i }
  | .iia, .wback _ => s.setL2 p line { l with st := .i }
  | .iia, .wbackStale => s.setL2 p line { l with st := .i }
  | .isd, .nack _ | .imd, .nack _ | .smg, .nack _ => s
  -- uncached answers concern a master, not a line
  | _, .udata _ _ | _, .cmp => s
  | _, .nack t =>
    if (s.basin b).nacked.any (fun n => n.ticket == t && n.msg.req.uncached) then s else s.protoError b line r.val f.msg.code
  | _, _ => s.protoError b line r.val f.msg.code

/-- Deliver the messages sent to a stop before a snoop left the home: one sender's messages keep their order (R325). -/
def State.deliverBefore (s : State) (b : Nat) (r : Fin 17) (seq : Nat) : Nat → State
  | 0 => s
  | n + 1 =>
    let x := s.basin b
    match takeFlight (some r) x.flights with
    | some (f, rest) => if f.seq < seq then ((s.setBasin b { x with flights := rest }).receive b r f).deliverBefore b r seq n else s
    | .none => s

/-- The kinds of snoop. -/
inductive Snoop where
  | s | i | d
  deriving DecidableEq, Repr

/-- An L2 answers a snoop (Table 11-6); a fenced pond's answer is taken as ACK_I (R341). -/
def State.snoopL2 (s : State) (b r line : Nat) (k : Snoop) : SnpAns × State :=
  let p := stopPond b r
  let l := s.l2 p line
  if s.fld (POND_STAT.ROLE p) = 2 then (.ackI, s)
  else match l.st, k with
  | .i, _ | .isd, _ | .imd, _ | .iia, _ => (.ackI, s)
  | .s, .i => (.ackI, s.setL2 p line { l with st := .i })
  | .s, _ => (.ackS, s)
  | .e, .s => (.ackS, (s.setL2 p line { l with st := .s }).dropL1 p line none)
  | .e, .i => (.ackI, s.setL2 p line { l with st := .i })
  | .e, .d => (.ackS, s)
  | .m, .s => (.ackD l.data l.poison true false, (s.setL2 p line { l with st := .s }).dropL1 p line none)
  | .m, .i => (.ackD l.data l.poison true false, s.setL2 p line { l with st := .i })
  | .m, .d => (.ackD l.data l.poison true false, s)
  | .smg, .i => (.ackI, s.setL2 p line { l with st := .imd })
  | .smg, _ => (.ackS, s)
  | .mia _, _ => (.ackD l.data l.poison true true, s.setL2 p line { l with st := .iia })

/-- The snoop of a busy state. -/
def Busy.snoop : Busy → Snoop
  | .s => .s
  | .d => .d
  | _ => .i

/-- A stop adds its answer to the combined response of a line's transaction, once; the requester is not snooped. -/
def State.addAnswer (s : State) (b line : Nat) (r : Fin 17) : State :=
  let h := s.homeLine b line
  match h.txn with
  | .none => s
  | some t =>
    if t.msg.who == some r && !(match t.busy with | .v _ _ => true | _ => false) then s
    else if (Tab.get (fun _ => .none) t.answers r.val).isSome then s
    else
      let s := s.deliverBefore b r t.seq (s.basin b).flights.length
      let (a, s) := s.snoopL2 b r.val line t.busy.snoop
      let h := s.homeLine b line
      s.setHome b line { h with txn := some { t with answers := Tab.set (fun _ => .none) t.answers r.val (some a) } }

/-- The lines of a pond's L2 that map to a filter set and belong to its basin's coherent regions. -/
def State.linesOfSet (s : State) (p set : Nat) : List Nat :=
  ((s.pond p).l2.filter (fun e => sfSet e.1 == set &&
    (match s.regionAt (64 * e.1) with | some (_, r) => !r.shared && r.cache | .none => false))).map (·.1)

/-- SNPF at one stop (R336): SNPI for every line of the set; each line supplied is written to memory. -/
def State.flushStop (s : State) (b r set : Nat) : State :=
  (s.linesOfSet (stopPond b r) set).foldl (fun s line =>
    let (a, s) := s.snoopL2 b r line .i
    match a with
    | .ackD d p _ _ => s.dramWriteFull line d p b
    | _ => s) s

/-- Take the requests that wait for a line, in order, until one opens a transaction. -/
def State.runQueue (s : State) (b line : Nat) : Nat → State
  | 0 => s
  | n + 1 =>
    let h := s.homeLine b line
    if s.lineBusy b line then s
    else match h.queue with
    | [] => s
    | m :: rest => ((s.setHome b line { h with queue := rest }).homeAct b line m).runQueue b line n

/-- Complete the flush of a filter set (B_F of Table 11-9): its entries are freed, then waiting requests are taken. -/
def State.completeFlush (s : State) (b set : Nat) : State :=
  let key := flushKey set
  let h := s.homeLine b key
  match h.txn with
  | .none => s
  | some t =>
    let s := (List.finRange 17).foldl (fun s r =>
      if (Tab.get (fun _ => .none) t.answers r.val).isSome then s
      else (s.deliverBefore b r t.seq (s.basin b).flights.length).flushStop b r.val set) s
    let lines := ((s.basin b).home.filter (fun e => decide (e.1 < 2 ^ 35) && sfSet e.1 == set && e.2.txn.isNone)).map (·.1)
    let s := s.setHome b key HomeLine.np
    let s := lines.foldl (fun s l => s.setHome b l { HomeLine.np with queue := (s.homeLine b l).queue }) s
    let s := (upTo 4).foldl (fun (s : State) _ => s.freeWay b set) s
    lines.foldl (fun s l => s.runQueue b l ((s.homeLine b l).queue.length)) s

/-- The data of the ACK_Ds of a combined response. -/
def ackData (t : Tab (Option SnpAns)) : List (List Byte × BitVec 8 × Bool) :=
  t.filterMap (fun e => match e.2 with
    | some (.ackD d p _ wb) => some (d, p, wb)
    | _ => .none)

/-- Complete a transaction on its combined response (R331, Table 11-9); the stops the snoop has not yet visited answer
first. -/
def State.completeTxn (s : State) (b line : Nat) : State :=
  match (s.homeLine b line).txn with
  | .none => s
  | some _ =>
    let s := (List.finRange 17).foldl (fun s r => s.addAnswer b line r) s
    let h := s.homeLine b line
    match h.txn with
    | .none => s
    | some t =>
      let r := holderBit t.msg.who
      let ds := ackData t.answers
      let anyS := t.answers.any (fun e => e.2 == some .ackS)
      let inv := t.busy.snoop == .i
      if (inv && anyS) || 1 < ds.length then
        (s.setHome b line { h with txn := .none }).protoError b line 17 (if inv && anyS then 12 else 13)
      else
        -- data given up by a writeback buffer always reaches memory
        let s := match ds with
          | (d, p, true) :: _ => s.dramWriteFull line d p b
          | _ => s
        let set (s : State) (holders : BitVec 17) (owner : Bool) : State :=
          let h := s.homeLine b line
          s.setHome b line (if holders = 0 then { HomeLine.np with queue := h.queue }
                            else { h with holders := holders, owner := owner, txn := .none })
        let who := t.msg.who
        let q := h.queue.length + 1
        match t.busy with
        | .s =>
          match ds with
          | (d, p, false) :: _ => ((set (s.dramWriteFull line d p b) (h.holders ||| r) false).sendRing b who line (.dataS d p)).runQueue b line q
          | (d, p, true) :: _ => ((set s r true).sendRing b who line (.dataE d p)).runQueue b line q
          | [] =>
            let (d, p, s) := s.dramRead line b
            if anyS then ((set s (h.holders ||| r) false).sendRing b who line (.dataS d p)).runQueue b line q
            else ((set s r true).sendRing b who line (.dataE d p)).runQueue b line q
        | .m =>
          match ds with
          | (d, p, _) :: _ => ((set s r true).sendRing b who line (.dataM d p)).runQueue b line q
          | [] =>
            if t.msg.req == .upg && h.holders &&& r != 0 && !h.owner then ((set s r true).sendRing b who line .grant).runQueue b line q
            else
              let (d, p, s) := s.dramRead line b
              ((set s r true).sendRing b who line (.dataM d p)).runQueue b line q
        | .d =>
          match ds with
          | (d, p, false) :: _ => ((set s h.holders true).sendRing b who line (.udata d p)).runQueue b line q
          | (d, p, true) :: _ => (((set s 0 false).freeWay b (sfSet line)).sendRing b who line (.udata d p)).runQueue b line q
          | [] =>
            let (d, p, s) := s.dramRead line b
            (((set s (if anyS then h.holders else 0) anyS).freeWay b (sfSet line)).sendRing b who line (.udata d p)).runQueue b line q
        | .w =>
          let s := match ds with
            | (d, p, _) :: _ => s.dramWriteFull line d p b
            | [] => s
          let s := match t.msg.req with
            | .ucwr x p => s.dramWrite line x p b
            | _ => s
          let keeps := h.holders &&& r != 0 && !h.owner
          (((set s (if keeps then r else 0) false).freeWay b (sfSet line)).sendRing b who line .cmp).runQueue b line q
        | .v l2 needs =>
          let s := match ds with
            | (d, p, false) :: _ => s.dramWriteFull line d p b
            | _ => s
          -- the entry goes to the request that needed it, ahead of those that wait for its line
          let s := set s 0 false
          let h2 := s.homeLine b l2.toNat
          let s :=
            if (s.homeLine b (flushKey (sfSet line))).txn.isSome then s.setHome b l2.toNat { h2 with queue := needs :: h2.queue }
            else s.grantNew b l2.toNat needs false
          (s.runQueue b l2.toNat (h2.queue.length + 1)).runQueue b line q
        | .f => s

/-- A combined response returns to the home (R325, R331); for a line that awaits none it is an error (Table 11-8). -/
def State.combined (s : State) (b line : Nat) : State :=
  if (s.homeLine b line).txn.isSome then s.completeTxn b line
  else if (s.homeLine b (flushKey (sfSet line))).txn.isSome then s.completeFlush b (sfSet line)
  else s.protoError b line 17 31

/-- A message `msg` about a line passes the hops of a ring to or from a stop, `resends` of them sent again (R325): each is counted, and a hop
that fails 16 in a row is RING_DOWN (R339), with which the message is lost. -/
def State.overRing (s : State) (b resends stop msg line : Nat) (f : State → State) : State :=
  if s.fencedBasin b then s
  else
    let info := ringInfo stop msg
    let s := if resends = 0 then s else (s.addSat (RING_STAT.RESENDS b) resends).raiseAt (Flt.BASIN_RING_CE b) (64 * line) info 0
    if 16 ≤ resends then s.raiseAt (Flt.BASIN_RING_DOWN b) (64 * line) info 0 else f s

/-- Deliver the first message to a stop. -/
def State.deliverOne (s : State) (b : Nat) (r : Fin 17) : State :=
  let x := s.basin b
  match takeFlight (some r) x.flights with
  | .none => s
  | some (f, rest) => (s.setBasin b { x with flights := rest }).receive b r f

/-- Deliver every message to a stop, in the order sent (R325). -/
def State.deliverAll (s : State) (b : Nat) (r : Fin 17) : Nat → State
  | 0 => s
  | n + 1 => if (takeFlight (some r) (s.basin b).flights).isSome then (s.deliverOne b r).deliverAll b r n else s

/-- The kind of message a receive command names. -/
inductive MsgKind where
  | dataS | dataE | dataM | grant | wback | stale | udata | cmp | nack
  deriving DecidableEq, Repr

def RingMsg.kind : RingMsg → MsgKind
  | .dataS _ _ => .dataS
  | .dataE _ _ => .dataE
  | .dataM _ _ => .dataM
  | .grant => .grant
  | .wback _ => .wback
  | .wbackStale => .stale
  | .udata _ _ => .udata
  | .cmp => .cmp
  | .nack _ => .nack

/-- A receive command: the next message to the receiver is of the named kind and line, and is delivered; otherwise nothing
arrives. -/
def State.arrive (s : State) (b : Nat) (dst : Option (Fin 17)) (line : Nat) (k : MsgKind) : State :=
  let x := s.basin b
  match takeFlight dst x.flights with
  | .none => s
  | some (f, rest) =>
    if f.line.toNat = line ∧ f.msg.kind = k then
      let s := s.setBasin b { x with flights := rest }
      match dst with
      | some r => s.receive b r f
      | .none => s
    else s

/-- A refused request is sent again after its backoff (R335): 16 ns × 2^min(n, 6). -/
def State.resendNacked (s : State) (b : Nat) (dst : Option (Fin 17)) (line : Nat) : State :=
  let x := s.basin b
  match x.nacked.find? (fun n => n.msg.who == dst && n.line.toNat == line) with
  | .none => s
  | some n =>
    let inFlight := x.flights.any (fun f => f.dst == dst && f.line.toNat == line && f.msg == .nack n.ticket)
    if !inFlight && elapsed s.dt n.since (48 * 2 ^ min n.count 6) then s.homeRequest b line n.msg else s

/-- Let the ring work until a line has no open transaction and everything sent to a stop has arrived. -/
def State.settleLine (s : State) (b line : Nat) (r : Option (Fin 17)) : Nat → State
  | 0 => s
  | n + 1 =>
    let s := if (s.homeLine b (flushKey (sfSet line))).txn.isSome then s.completeFlush b (sfSet line) else s
    -- an eviction that the request needed goes first
    let evict := (s.basin b).home.find? (fun e => match e.2.txn with
      | some t => (match t.busy with | .v l _ => l.toNat == line | _ => false)
      | .none => false)
    let s := match evict with
      | some e => s.completeTxn b e.1
      | .none => s
    let s := if (s.homeLine b line).txn.isSome then s.completeTxn b line else s
    let s := match r with
      | some r => s.deliverAll b r ((s.basin b).flights.length)
      | .none => s
    if (s.homeLine b line).txn.isSome then s.settleLine b line r n else s

/-- An L2 sends a request for a line (local events of Table 11-6). -/
def State.l2Send (s : State) (b : Nat) (r : Fin 17) (line : Nat) (req : HomeReq) : State :=
  s.homeRequest b line { who := some r, req := req, ticket := .none }

/-- Lines of a pond that stand in its writeback buffer (R327). -/
def State.wbLines (s : State) (p : Nat) : Nat :=
  ((s.pond p).l2.filter (fun e => match e.2.st with | .mia _ | .iia => true | _ => false)).length

/-- Is a line of a basin-coherent cacheable region of the basin? -/
def State.coherentIn (s : State) (b line : Nat) : Bool :=
  match s.regionAt (64 * line) with
  | some (_, r) => r.cache && !r.shared && r.owner.toNat == b
  | .none => false

/-- A line leaves the L2 (Table 11-6, R279, R323): `keep` cleans it and keeps it; device-shared lines go to memory
directly. False when the writeback buffer is full or the line is in a transient state. -/
def State.evict (s : State) (p line : Nat) (keep : Bool) : Bool × State :=
  let b := basinOf p
  let r : Fin 17 := Fin.ofNat 17 (p % 17)
  let l := s.l2 p line
  let coh := s.coherentIn b line
  match l.st with
  | .m =>
    if coh then
      if 8 ≤ s.wbLines p then (false, s)
      else
        let s := s.setL2 p line { l with st := .mia keep }
        let s := s.l2Send b r line (.putm l.data l.poison keep)
        (true, s.settleLine b line (some r) 8)
    else
      let s := s.dramWriteFull line l.data l.poison b
      (true, s.setL2 p line { l with st := if keep then .s else .i })
  | .s | .e =>
    if keep then (true, s)
    else
      let s := s.setL2 p line { l with st := .i }
      (true, if coh then s.removeHolder b line r else s)
  | .i => (true, s)
  | _ => (false, s)

/-- A way for a new line (R275, R277, R327): an enabled way that holds none, else the victim of the set's tree among the enabled ways
whose line is not in a transient state. -/
def State.takeWay (s : State) (p line : Nat) : Option Nat × State :=
  let set := l2Set line
  let held := (s.pond p).l2.filter (fun e => l2Set e.1 == set && e.2.st.inWay)
  match (upTo 16).find? (fun w => s.wayFills p w && !held.any (fun e => e.2.way == w)) with
  | some w => (some w, s)
  | .none =>
    let may (w : Nat) : Bool := s.wayFills p w && held.any (fun e => e.2.way == w && !e.2.st.transient)
    match lruVictim 4 may (Tab.get (fun _ => 0) (s.pond p).l2Lru set) with
    | .none => (.none, s)
    | some w =>
      match held.find? (fun e => e.2.way == w) with
      | .none => (.none, s)
      | some v =>
        let (ok, s) := s.evict p v.1 false
        (if ok then some w else .none, s)

/-- Must an access of a pond to a line wait for the L2 (R277, R281): its way is being disabled, or it would need a fill while a by-address
operation on the line runs? -/
def State.lineHeld (s : State) (p line : Nat) : Bool :=
  let x := s.pond p
  let l := s.l2 p line
  (l.st.inWay && x.wayBusy.contains l.way) ||
  (l.st == .i && (match x.maint with
    | some (op, m, _) => decide (op ≤ 3) && m.toNat == line
    | .none => false))

/-- Bring a line into a pond's L2 for a load or a store (Table 11-6; R323 for device-shared lines): true when it can be
read, or for a store when it stands in M. A refused or waiting request leaves the line in its transient state. -/
def State.acquire (s : State) (p line : Nat) (store : Bool) : Bool × State :=
  let b := basinOf p
  let r : Fin 17 := Fin.ofNat 17 (p % 17)
  let used (r : Bool × State) : Bool × State := if r.1 then (true, r.2.useWay p line (r.2.l2 p line).way) else r
  let done (s : State) : Bool × State :=
    let st := (s.l2 p line).st
    used (if store then
      if st == .e then (true, s.setL2 p line { s.l2 p line with st := .m }) else (st == .m, s)
    else (st.readable, s))
  let st := (s.l2 p line).st
  if s.lineHeld p line then (false, s)
  else if s.coherentIn b line then
    match st with
    | .i =>
      match s.takeWay p line with
      | (.none, s) => (false, s)
      | (some w, s) =>
        let s := s.setL2 p line { st := if store then .imd else .isd, way := w, data := zeros 64, poison := 0 }
        let s := s.l2Send b r line (if store then .getm else .gets)
        done (s.settleLine b line (some r) 8)
    | .s =>
      if store then
        let s := s.setL2 p line { s.l2 p line with st := .smg }
        let s := s.l2Send b r line .upg
        done (s.settleLine b line (some r) 8)
      else done s
    | .e | .m => done s
    | _ => done (s.settleLine b line (some r) 8)
  else
    match st with
    | .i =>
      match s.takeWay p line with
      | (.none, s) => (false, s)
      | (some w, s) =>
        let (d, x, s) := s.dramRead line b
        used (true, s.setL2 p line { st := if store then .m else .s, way := w, data := d, poison := x })
    | .s => used (true, if store then s.setL2 p line { s.l2 p line with st := .m } else s)
    | _ => used (true, s)

/-- Store bytes under a mask into a line held in M; a word written whole loses its poison, as in memory (R358). The L1D of slot `own`, the
storing strider, keeps its copy (R328). -/
def State.l2Store (s : State) (p line : Nat) (b : List (Option Byte)) (poison : BitVec 8) (own : Option Nat) : State :=
  let l := s.l2 p line
  s.putL2 p line { l with data := mergeBytes l.data b, poison := poisonAfter true l.poison poison b } own

/-- Take the latest uncached answer for a requester (the list is given newest first). -/
def takeAnswer (dst : Option (Fin 17)) (line : Nat) : List Flight → Option (Flight × List Flight)
  | [] => .none
  | f :: t =>
    if f.dst == dst && f.line.toNat == line && (match f.msg with | .udata _ _ | .cmp => true | _ => false) then some (f, t)
    else (takeAnswer dst line t).map (fun r => (r.1, f :: r.2))

/-- A master that was refused asks again by itself: its ticket and NACK are withdrawn. -/
def State.withdraw (s : State) (b : Nat) (who : Option (Fin 17)) (line : Nat) : State :=
  let x := s.basin b
  s.setBasin b { x with
    nacked := x.nacked.filter (fun n => !(n.msg.who == who && n.line.toNat == line)),
    flights := x.flights.filter (fun f => !(f.dst == who && f.line.toNat == line && f.msg.kind == .nack)) }

/-- An uncached read by a master (R324, R308): through the owning basin's home for a basin-coherent cacheable line, else
from memory. None while the answer cannot come. -/
def State.masterRead (s : State) (who : Option (Fin 17)) (line master : Nat) : Option (List Byte × BitVec 8) × State :=
  if !s.dramServes (64 * line) then (.none, s)
  else match s.regionAt (64 * line) with
  | some (_, r) =>
    if r.cache && !r.shared && !s.fencedBasin r.owner.toNat then
      let b := r.owner.toNat
      let s := s.homeRequest b line { who := who, req := .ucrd, ticket := .none }
      let s := s.settleLine b line .none 8
      let x := s.basin b
      match takeAnswer who line x.flights.reverse with
      | some (f, rest) =>
        let s := s.setBasin b { x with flights := rest.reverse }
        (match f.msg with | .udata d p => some (d, p) | _ => .none, s)
      | .none => (.none, s.withdraw b who line)
    else
      let (d, p, s) := s.dramRead line master
      (some (d, p), s)
  | .none =>
    let (d, p, s) := s.dramRead line master
    (some (d, p), s)

/-- An uncached write by a master (R324, R285). False while it cannot be accepted. -/
def State.masterWrite (s : State) (who : Option (Fin 17)) (line : Nat) (b : List (Option Byte)) (poison : BitVec 8) (master : Nat) :
    Bool × State :=
  if !s.dramTakes (64 * line) then (false, s)
  else match s.regionAt (64 * line) with
  | some (_, r) =>
    if r.cache && !r.shared && !s.fencedBasin r.owner.toNat then
      let bs := r.owner.toNat
      let s := s.homeRequest bs line { who := who, req := .ucwr b poison, ticket := .none }
      let s := s.settleLine bs line .none 8
      let x := s.basin bs
      match takeAnswer who line x.flights.reverse with
      | some (_, rest) => (true, s.setBasin bs { x with flights := rest.reverse })
      | .none => (false, s.withdraw bs who line)
    else (true, s.dramWrite line b poison master)
  | .none => (true, s.dramWrite line b poison master)

/-- Split a byte range into its lines: line number, offset in the line, count. -/
def splitLines (a : Nat) : Nat → Nat → List (Nat × Nat × Nat)
  | 0, _ => []
  | _, 0 => []
  | fuel + 1, n =>
    let k := min n (64 - a % 64)
    (a / 64, a % 64, k) :: splitLines (a + k) fuel (n - k)

/-- Read bytes as a master: the bytes, whether any word touched is poisoned, per 8-byte word in order of address. -/
def State.masterBytes (s : State) (a n master : Nat) : Option (List Byte × List Bool) × State :=
  (splitLines a (n / 64 + 2) n).foldl (fun (r : Option (List Byte × List Bool) × State) e =>
    match r with
    | (.none, s) => (.none, s)
    | (some (acc, ps), s) =>
      match s.masterRead .none e.1 master with
      | (.none, s) => (.none, s)
      | (some (d, p), s) =>
        let words := (List.range 8).filter (fun i => decide (8 * i < e.2.1 + e.2.2 ∧ e.2.1 < 8 * i + 8))
        (some (acc ++ slice d e.2.1 e.2.2, ps ++ words.map (fun i => p.getLsbD i)), s)) (some ([], []), s)

/-- Write bytes as a master. False when some line could not be accepted. -/
def State.masterPut (s : State) (a : Nat) (bytes : List Byte) (poison : BitVec 8) (master : Nat) : Bool × State :=
  ((splitLines a (bytes.length / 64 + 2) bytes.length).foldl (fun (r : Bool × State × List Byte) e =>
    let (ok, s, rest) := r
    let part := List.replicate e.2.1 .none ++ (rest.take e.2.2).map some ++ List.replicate (64 - e.2.1 - e.2.2) .none
    let (ok', s) := s.masterWrite .none e.1 part poison master
    (ok && ok', s, rest.drop e.2.2)) (true, s, bytes)) |> fun r => (r.1, r.2.1)

/-! ### L1 caches -/

/-- Bytes stored by a strider go into its L1D line too, if it holds one (R272). -/
def State.l1dStore (s : State) (w : StrId) (line : Nat) (b : List (Option Byte)) : State :=
  let x := s.pond w.pond.val
  s.setPond w.pond.val { x with l1d := x.l1d.change w.slot.val line (fun l =>
    { l with data := mergeBytes l.data b, poison := poisonAfter true l.poison 0 b }) }

/-- A line of cacheable DRAM for a load: from the L1D, else through the L2, which fills it (R271, R308). None while it waits. -/
def State.l1dLine (s : State) (w : StrId) (line : Nat) : Option (List Byte × BitVec 8) × State :=
  let p := w.pond.val
  let k := w.slot.val
  let x := s.pond p
  match x.l1d.wayOf k line with
  | some way =>
    let l := x.l1d.at_ k line way
    (some (l.data, l.poison), s.setPond p { x with l1d := x.l1d.use k line way })
  | .none =>
    match s.acquire p line false with
    | (true, s) =>
      let l := s.l2 p line
      let x := s.pond p
      (some (l.data, l.poison), s.setPond p { x with l1d := x.l1d.fill k line l.data l.poison })
    | (false, s) => (.none, s)

/-- A line of cacheable DRAM is fetched into a strider's L1I (R271, R274); one that the L2 cannot give now is not. -/
def State.l1iFetch (s : State) (w : StrId) (line : Nat) : State :=
  let p := w.pond.val
  let k := w.slot.val
  let x := s.pond p
  match x.l1i.wayOf k line with
  | some way => s.setPond p { x with l1i := x.l1i.use k line way }
  | .none =>
    match s.acquire p line false with
    | (true, s) =>
      let l := s.l2 p line
      let x := s.pond p
      s.setPond p { x with l1i := x.l1i.fill k line l.data l.poison }
    | (false, s) => s

/-- Drop a pond's copy of a line as lost (R337): a shared line loses the pond, an owned one is written poisoned. -/
def State.loseLine (s : State) (b : Nat) (r : Fin 17) (line : Nat) : State :=
  let h := s.homeLine b line
  if h.holders &&& holderBit (some r) = 0 then s
  else if h.owner then
    let s := s.dramWriteFull line (s.lineBytes line) 0xFF b
    let s := (s.setHome b line { h with holders := 0, owner := false, alloc := 0, reserved := false }).freeWay b (sfSet line)
    s.raiseAt (Flt.BASIN_LINES_LOST b) (64 * line) (ringInfo 17 31) 0
  else s.removeHolder b line r

end Sys2Proof.Machine
end

