-- ==== Sys2Proof/Machine/PondOps.lean ====
section
/-!
DEFINITION. Pond memory with its region descriptors, doorbell and poison (R288 to R295), the pond DMA engines (R296, R297),
march and repair (R299, R300), L2 maintenance and way disable (R276 to R287, R306, R307), and the pond enables (R301, R302).
-/

namespace Sys2Proof.Machine

/-- Bytes of a pond's memory. -/
def pmSize : Nat := 0x80000

/-- The pond-memory cells in one list, by pond and offset; a byte nothing has written reads 0. -/
def pmGet (m : List Host.Cell) (k : Nat) : Byte := Tab.get (fun _ => 0) m k
def pmSet (m : List Host.Cell) (k : Nat) (v : Byte) : List Host.Cell := Tab.set (fun _ => 0) m k v

/-- The canonical form of pond memory: rising keys, and no byte equal to what an unlisted one reads as. -/
def Memory.wf (m : List Host.Cell) : Bool := Tab.wf (fun _ => (0 : Byte)) m

def State.pmBytes (s : State) (p off n : Nat) : List Byte :=
  (List.range n).map (fun i => pmGet s.pm (p * pmSize + off + i))

def State.pmPoisoned (s : State) (p word : Nat) : Bool := Tab.get (fun _ => false) s.pmPoison (p * 0x10000 + word)

def State.setPmPoison (s : State) (p word : Nat) (v : Bool) : State :=
  { s with pmPoison := Tab.set (fun _ => false) s.pmPoison (p * 0x10000 + word) v }

/-- Is a word touched by a byte range poisoned? -/
def State.pmAnyPoison (s : State) (p off n : Nat) : Bool :=
  (List.range ((off + n + 7) / 8 - off / 8)).any (fun i => s.pmPoisoned p (off / 8 + i))

/-- The physical slots that the doorbell word names (R291). -/
def State.ringDoorbell (s : State) (p : Fin 68) : State :=
  let mask := leNat (s.pmBytes p.val 0x7FFF8 4) % 2 ^ 17
  (pondStriders p).foldl (fun s w => if Nat.testBit mask w.slot.val then s.latchEvent w 3 else s) s

/-- Bytes put into pond memory: whole words lose their poison (R292). -/
def State.pmPut (s : State) (p : Fin 68) (off : Nat) (b : List Byte) : State :=
  let n := b.length
  let pm := b.zipIdx.foldl (fun m e => pmSet m (p.val * pmSize + off + e.2) e.1) s.pm
  (List.range ((off + n + 7) / 8 - off / 8)).foldl (fun s i =>
    let w := off / 8 + i
    if off ≤ 8 * w ∧ 8 * w + 8 ≤ off + n then s.setPmPoison p.val w false else s) { s with pm := pm }

/-- Do bytes at an offset touch the doorbell (R291)? -/
def onDoorbell (off n : Nat) : Bool := decide (off < 0x80000 ∧ 0x7FFF8 < off + n)

/-- A write to pond memory (R291, R292): the doorbell rings. -/
def State.pmWrite (s : State) (p : Fin 68) (off : Nat) (b : List Byte) : State :=
  let s := s.pmPut p off b
  if onDoorbell off b.length then s.ringDoorbell p else s

/-- The runs of bytes of a masked line: offset and bytes. -/
def byteRuns (o : Nat) : List (Option Byte) → List (Nat × List Byte)
  | [] => []
  | none :: t => byteRuns (o + 1) t
  | some b :: t =>
    match byteRuns (o + 1) t with
    | (k, l) :: r => if k = o + 1 then (o, b :: l) :: r else (o, [b]) :: (k, l) :: r
    | [] => [(o, [b])]

/-- A masked write to pond memory, which rings the doorbell once at most, with the word as the whole write leaves it (R291). -/
def State.pmWriteMask (s : State) (p : Fin 68) (off : Nat) (b : List (Option Byte)) : State :=
  let runs := byteRuns off b
  let s := runs.foldl (fun (s : State) r => s.pmPut p r.1 r.2) s
  if runs.any (fun r => onDoorbell r.1 r.2.length) then s.ringDoorbell p else s

/-- The descriptor in force (R293, R294). -/
def descReset (k : Nat) : PmDesc :=
  if k % 8 = 0 then { base := 0, limit := 0x1FFF, perm := if k / 8 < 17 then 0xF else 0x3 } else { base := 0, limit := 0, perm := 0 }

def State.pmDesc (s : State) (p m d : Nat) : PmDesc := Tab.get descReset (s.pond p).desc (8 * m + d)

def State.setPmDesc (s : State) (p m d : Nat) (v : PmDesc) : State :=
  let x := s.pond p
  s.setPond p { x with desc := Tab.set descReset x.desc (8 * m + d) v }

/-- Is an access of master `m` allowed: one descriptor covers every byte and grants every permission asked (R293, R295)? -/
def State.pmAllowed (s : State) (p m off n : Nat) (perm : BitVec 4) : Bool :=
  s.bit (PM_CTL.EN p) && (m != 19 || s.bit (PM_CTL.HWIN_EN p)) && decide (off + n ≤ pmSize) &&
  (upTo 8).any (fun d =>
    let x := s.pmDesc p m d
    x.perm != 0 && decide (x.base.toNat * 64 ≤ off ∧ off + n ≤ x.limit.toNat * 64 + 64) && x.perm &&& perm == perm)

/-- A permission encoding (R294). -/
def permOk (m : Nat) (x : Nat) : Bool :=
  let b (i : Nat) : Bool := Nat.testBit x i
  !(b 1 && !b 0) && !(b 3 && !b 1) && !(b 2 && decide (17 ≤ m))

/-- A fault of a pond with its capture words (Table 10-12). -/
def State.pondRaise (s : State) (f : Nat → FaultBit) (p addr master atype space : Nat) : State :=
  s.raiseAt (f p) addr (master * 2 ^ 20 + atype * 2 ^ 17 + space * 2 ^ 16) 0

/-- The window P of own pond memory and the host windows (Table 10-1). -/
def winP : Nat := 0xFFFFFD0000000000
def winHost : Nat := 0xFFFFFC0000000000

/-- Show the selected descriptor in force in the window registers (Table 10-14). -/
def State.showDesc (s : State) (p : Nat) : State :=
  let d := s.pmDesc p (s.fld (PM_REGION_SEL.MASTER p)) (s.fld (PM_REGION_SEL.DESC p))
  ((s.setFld (PM_REGION_BASE.BASE p) d.base.toNat).setFld (PM_REGION_BASE.PERM p) d.perm.toNat).setFld (PM_REGION_LIMIT.LIMIT p) d.limit.toNat

/-- The commit of the selected descriptor (R43 to R47, R294). -/
def State.descPoint (s : State) (p : Nat) : State :=
  let m := s.fld (PM_REGION_SEL.MASTER p)
  let d := s.fld (PM_REGION_SEL.DESC p)
  let fs := [PM_REGION_BASE.BASE p, PM_REGION_BASE.PERM p, PM_REGION_LIMIT.LIMIT p]
  let check (s : State) : Bool :=
    decide (s.fld (PM_REGION_BASE.BASE p) ≤ s.fld (PM_REGION_LIMIT.LIMIT p)) && permOk m (s.fld (PM_REGION_BASE.PERM p))
  let (s, applied) := s.commitGroup DEV_CFGMODE.IMM_PMREG (PM_REGION_SEL.COMMIT p) fs check
  if applied then
    s.setPmDesc p m d { base := BitVec.ofNat 13 (s.fld (PM_REGION_BASE.BASE p)), limit := BitVec.ofNat 13 (s.fld (PM_REGION_LIMIT.LIMIT p)),
                        perm := BitVec.ofNat 4 (s.fld (PM_REGION_BASE.PERM p)) }
  else s

/-- A write of PM_REGION_SEL (R47, Table 10-14): a new selection discards uncommitted values with CFG_REJECT and commits
nothing; otherwise COMMIT commits at once, no access of the master being in progress. -/
def State.writeRegionSel (s : State) (p : Nat) (master : BitVec 5) (desc : BitVec 3) (commit : Bool) : State :=
  let bad := decide (20 ≤ master.toNat)
  let s := if bad then s.setFld (POND_STAT.CFG_REJECT p) 1 else s
  let m := if bad then s.fld (PM_REGION_SEL.MASTER p) else master.toNat
  let fs := [PM_REGION_BASE.BASE p, PM_REGION_BASE.PERM p, PM_REGION_LIMIT.LIMIT p]
  if m = s.fld (PM_REGION_SEL.MASTER p) ∧ desc.toNat = s.fld (PM_REGION_SEL.DESC p) then
    if commit then (s.setFld (PM_REGION_SEL.COMMIT p) 1).descPoint p else s
  else
    let s := if fs.any (fun f => (s.stagedVal f).isSome) then
        (fs.foldl (fun s f => s.stage f none) s).setFld (POND_STAT.CFG_REJECT p) 1
      else s
    ((s.setFld (PM_REGION_SEL.MASTER p) m).setFld (PM_REGION_SEL.DESC p) desc.toNat).showDesc p

/-- Clear the selected conflict counter (R298). -/
def State.clearConflict (s : State) (p : Nat) : State :=
  let x := s.pond p
  s.setPond p { x with conflict := Tab.set (fun _ => 0) x.conflict (s.fld (PM_CONFLICT_SEL.MASTER p)) 0 }

/-- Every strider of a pond latches a pond event (R220). -/
def State.pondEvent (s : State) (p : Fin 68) (e : Nat) : State := (pondStriders p).foldl (fun s w => s.latchEvent w e) s

/-- Requests of a DMA engine. -/
def PondSt.dma (x : PondSt) (e : Nat) : List DmaReq := if e = 0 then x.dma0 else x.dma1
def PondSt.setDma (x : PondSt) (e : Nat) (l : List DmaReq) : PondSt := if e = 0 then { x with dma0 := l } else { x with dma1 := l }

/-- The stopped state of pond memory (R302). -/
def State.pmStopPoint (s : State) (p : Nat) : State :=
  let x := s.pond p
  if x.pmStop && x.dma0.isEmpty && x.dma1.isEmpty then (s.setFld (PM_CTL.EN p) 0).setPond p { x with pmStop := false } else s

/-- The completion word of a DMA request (Table 10-6). -/
def dmaWord (dt : Word) (poisoned : Bool) (status : Nat) : List Byte :=
  leBytes 2 status ++ leBytes 2 (0x8000 + if poisoned then 1 else 0) ++ leBytes 4 dt.toNat

/-- Write a DMA completion word and raise the engine's event (R297). A word the engine may not write drops the request. -/
def State.dmaFinish (s : State) (p : Fin 68) (e : Nat) (done : Nat) (poisoned : Bool) (status : Nat) : State :=
  (s.pmWrite p done (dmaWord s.dt poisoned status)).pondEvent p (1 + e)

/-- Zeros over the words of a destination that an engine may write (R297). DESIGN CHOICE (assumption 124): for a destination that is malformed
itself the spec does not say what stands for it; whole words within pond memory are taken. -/
def State.zeroWhereAllowed (s : State) (p : Fin 68) (m dst len : Nat) : State :=
  if dst % 8 ≠ 0 ∨ 0x80000 ≤ dst then s
  else
    (List.range (min len (0x80000 - dst) / 8)).foldl (fun s i =>
      if s.pmAllowed p.val m (dst + 8 * i) 8 2 then s.pmWrite p (dst + 8 * i) (zeros 8) else s) s

/-- The master of Table 12-12 as which a pond's DMA engine reads DRAM: its own basin's home, or a DMA of another basin. -/
def State.dmaMaster (s : State) (p src : Nat) : Nat :=
  match s.regionAt src with
  | some (_, g) => if g.shared || g.owner.toNat == basinOf p then basinOf p else 7
  | none => basinOf p

/-- Run one DMA request (R296, R297). None while DRAM cannot answer. -/
def State.dmaRun (s : State) (p : Fin 68) (e : Nat) (r : DmaReq) : Option State :=
  let d := r.desc.flatMap (fun w => leBytes 8 w.toNat)
  let src := leAt d 0 8
  let dst := leAt d 8 4
  let len := leAt d 12 4
  let done := leAt d 16 4
  let m := 17 + e
  let refused (s : State) (a atype : Nat) : State := s.pondRaise Flt.POND_PM_REGION p.val a m atype 1
  -- DONE is bits [18:3] of its field; its other bits are reserved
  let at_ := done % 0x80000 / 8 * 8
  if !s.pmAllowed p.val m at_ 8 2 then some (refused s at_ 1)
  else
    let inDram := decide (src + len ≤ 2 ^ 41)
    let inP := decide (winP ≤ src ∧ src + len ≤ winP + pmSize)
    let malformed := done ≠ at_ ∨ src % 8 ≠ 0 ∨ dst % 8 ≠ 0 ∨ 0x80000 ≤ dst ∨ len % 8 ≠ 0 ∨ len = 0 ∨ 524288 < len ∨ leAt d 20 8 ≠ 0 ∨ leAt d 28 4 ≠ 0 ∨
      (!inDram ∧ !inP)
    let dstOk := s.pmAllowed p.val m dst len 2
    let srcOk := inDram || s.pmAllowed p.val m (src - winP) len 1
    if malformed ∨ !dstOk ∨ !srcOk then
      let s := if malformed then s else if !dstOk then refused s dst 1 else refused s (src - winP) 0
      some ((s.zeroWhereAllowed p m dst len).dmaFinish p e at_ false 0x21)
    else
      let got : Option (List Byte × List Bool) × State :=
        if inP then
          (some (s.pmBytes p.val (src - winP) len, (List.range (len / 8)).map (fun i => s.pmPoisoned p.val ((src - winP) / 8 + i))), s)
        else s.masterBytes src len (s.dmaMaster p.val src)
      match got with
      | (none, _) => none
      | (some (b, ps), s) =>
        let s := s.pmWrite p dst b
        let s := ps.zipIdx.foldl (fun s x => if x.1 then s.setPmPoison p.val (dst / 8 + x.2) true else s) s
        some (s.dmaFinish p e at_ (ps.any id) 0)

/-- The oldest request of an engine completes (R297). -/
def State.dmaComplete (s : State) (p : Fin 68) (e : Nat) : State :=
  match (s.pond p.val).dma e with
  | [] => s
  | r :: _ =>
    match s.dmaRun p e r with
    | none => s
    | some s =>
      let x := s.pond p.val
      (s.setPond p.val (x.setDma e ((x.dma e).drop 1))).pmStopPoint p.val

/-- Words 0 to 3 of a descriptor gathered in a port buffer (R172). -/
def portDesc (buf : Tab Word) (last : Word) : List Word :=
  [Tab.get (fun _ => 0) buf 0, Tab.get (fun _ => 0) buf 1, Tab.get (fun _ => 0) buf 2, last]

/-- A submission to a DMA engine (R296): false when 16 requests are held. -/
def State.dmaSubmit (s : State) (w : StrId) (e : Nat) (last : Word) : Bool × State :=
  let p := w.pond.val
  let x := s.pond p
  if 16 ≤ (x.dma e).length then (false, s)
  else
    let d := portDesc ((s.str w).dmaBuf.filterMap (fun k => if k.1 / 4 = e then some (k.1 % 4, k.2) else none)) last
    let s := s.setPond p (x.setDma e (x.dma e ++ [{ who := w, desc := d }]))
    (true, s.setStr w { s.str w with dmaBuf := (s.str w).dmaBuf.filter (fun k => k.1 / 4 != e) })

/-- A submission refused after 2 µs completes with BUSY (R296): its completion word, under the checks of R297. -/
def State.dmaBusy (s : State) (w : StrId) (e : Nat) (last : Word) : State :=
  let d := (portDesc ((s.str w).dmaBuf.filterMap (fun k => if k.1 / 4 = e then some (k.1 % 4, k.2) else none)) last).flatMap (fun x => leBytes 8 x.toNat)
  let done := leAt d 16 4
  let s := s.setStr w { s.str w with dmaBuf := (s.str w).dmaBuf.filter (fun k => k.1 / 4 != e) }
  let at_ := done % 0x80000 / 8 * 8
  if !s.pmAllowed w.pond.val (17 + e) at_ 8 2 then s.pondRaise Flt.POND_PM_REGION w.pond.val at_ (17 + e) 1 1
  else s.dmaFinish w.pond e at_ false 0x11

/-- Start of a march (R299) with the BANKS, PRESERVE and REPAIR of that moment (R40). -/
def State.marchBegin (s : State) (p : Nat) : State :=
  if s.bit (PM_CTL.EN p) || s.bit (MARCH_STAT.BUSY p) then s.setFld (POND_STAT.CFG_REJECT p) 1
  else
    let s := ((s.setFld (MARCH_STAT.BUSY p) 1).setFld (MARCH_STAT.UNREP p) 0).setFld (MARCH_STAT.FAILBANK p) 0
    s.setPond p { s.pond p with failRow := [], march := some (s.fld (MARCH_CTL.BANKS p), s.bit (MARCH_CTL.PRESERVE p), s.bit (MARCH_CTL.REPAIR p)) }

/-- Spare rows taken for failing rows of a bank (R300): a spare that failed the march is passed over (it is noted as row
999); the answer says whether the spares sufficed. -/
def takeSpares (bad : List Nat) : List Nat → List Nat → List Nat × Bool
  | used, [] => (used, true)
  | used, r :: rest =>
    let used := if used.length < 2 ∧ bad.contains (128 + used.length) then used ++ [999] else used
    let used := if used.length < 2 ∧ bad.contains (128 + used.length) then used ++ [999] else used
    if used.length < 2 then takeSpares bad (used ++ [r]) rest else ((takeSpares bad used rest).1, false)

/-- End of a march (R299, R300) with the failing rows it met, rows 128 and 129 being the spares, and the words that could not be corrected
as a PRESERVE repair moved their rows: those are poisoned. -/
def State.marchEnd (s : State) (p : Nat) (bad : List (Fin 16 × Fin 130)) (ue : List (Fin 16 × Fin 4096)) : State :=
  match (s.pond p).march with
  | none => s
  | some (banks, preserve, repair) =>
    let s :=
      if preserve then s
      else
        let tested (k : Nat) : Bool := decide (p * pmSize ≤ k ∧ k < (p + 1) * pmSize) && Nat.testBit banks (k / 8 % 16)
        { s with pm := s.pm.filter (fun c => !tested c.1),
                 pmPoison := s.pmPoison.filter (fun c => !tested (p * pmSize + 8 * (c.1 - p * 0x10000)) || decide (c.1 / 0x10000 ≠ p)) }
    let s := (s.setFld (MARCH_STAT.BUSY p) 0).setFld (MARCH_STAT.DONE p) 1
    let s := s.setPond p { s.pond p with march := none }
    (upTo 16).foldl (fun s k =>
      if !Nat.testBit banks k then s
      else
        let rows := (bad.filter (fun e => e.1.val == k)).map (fun e => e.2.val)
        let main := rows.filter (fun r => decide (r < 128))
        if rows.isEmpty then s
        else
          let s := s.setFld (MARCH_STAT.FAILBANK p) (s.fld (MARCH_STAT.FAILBANK p) ||| 2 ^ k)
          let x := s.pond p
          let s := s.setPond p { x with failRow := Tab.set (fun _ => 0) x.failRow k (main.foldl min (main.headD 0)) }
          if !repair then s
          else
            let old := Tab.get (fun _ => []) x.repaired k
            let (used, ok) := takeSpares rows old main
            let y := s.pond p
            let s := s.setPond p { y with repaired := Tab.set (fun _ => []) y.repaired k used }
            let moved (w : Nat) : Bool := preserve && used.contains (w / 32) && !old.contains (w / 32)
            let s := (ue.filter (fun e => e.1.val == k && moved e.2.val)).foldl (fun s e => s.setPmPoison p (16 * e.2.val + k) true) s
            if ok then s else (s.setFld (MARCH_STAT.UNREP p) 1).pondRaise Flt.POND_MARCH_UNREP p 0 23 0 1) s

/-- Spare rows in use in a bank (Table 10-15): one that failed its march is not. -/
def State.sparesUsed (s : State) (p k : Nat) : Nat := ((Tab.get (fun _ => []) (s.pond p).repaired k).filter (fun r => r != 999)).length

/-- Start-up's march of a pond: March C− with repair over every bank (R300). -/
def State.startMarch (s : State) (p : Nat) (bad : List (Fin 16 × Fin 130)) : State :=
  ((s.setFld (MARCH_STAT.BUSY p) 1).setPond p { s.pond p with march := some (0xFFFF, false, true) }).marchEnd p bad []

/-- Fewer than 8 ways enabled (R278). -/
def State.wayMin (s : State) (p : Nat) : State :=
  if ((upTo 16).filter (s.wayOn p)).length < 8 then s.pondRaise Flt.POND_WAY_MIN p 0 20 7 0 else s

/-- One line treated by a maintenance operation 1 to 3 (Table 10-2). -/
def State.maintLine (s : State) (p line op : Nat) : State :=
  let l := s.l2 p line
  let coh := s.coherentIn (basinOf p) line
  match op with
  | 1 => (s.evict p line true).2
  | 2 =>
    if l.st == .m && !coh then s.setL2 p line { l with st := .i } else (s.evict p line false).2
  | _ => (s.evict p line false).2

/-- The effect of a maintenance operation (Table 10-2): by address on one line, or on every line. -/
def State.maintApply (s : State) (p op line : Nat) : State :=
  if op ≤ 3 then s.maintLine p line op
  else ((s.pond p).l2.map (·.1)).foldl (fun s l => s.maintLine p l (op - 3)) s

/-- Has an operation still to treat a line, or to hear of its write-back (R279, R281)? -/
def State.maintOpen (s : State) (p op line : Nat) : Bool :=
  let st := (s.l2 p line).st
  st.transient || (if op % 3 = 1 then st == .m else st != .i)

/-- A write of L2_MAINT with an operation (R283). The operation acts on every line that stands in the L2 then; what was in a transient state,
or could not leave yet, it treats before it ends (R281, R282). -/
def State.maintStart (s : State) (p op line : Nat) : State :=
  if s.bit (L2_MAINT.BUSY p) then s.setFld (POND_STAT.CFG_REJECT p) 1
  else
    let all := if op ≤ 3 then [line] else (s.pond p).l2.map (·.1)
    let early := all.filter (fun l => (s.l2 p l).st.transient)
    let s := (s.setFld (L2_MAINT.BUSY p) 1).maintApply p op line
    let left := all.filter (fun l => early.contains l || s.maintOpen p op l)
    s.setPond p { s.pond p with maint := some (op, BitVec.ofNat 35 line, left) }

/-- The line named by L2_MAINT.AHI and L2_MAINT_ADDR. -/
def State.maintAddr (s : State) (p : Nat) (ahi : BitVec 3) : Nat := ahi.toNat * 2 ^ 32 + s.fld (L2_MAINT_ADDR.ADDR p)

/-- Every way of an L2 set is invalidated after an uncorrectable tag, and the home treats its lines as lost (R276, R337). -/
def State.tagLost (s : State) (p set : Nat) : State :=
  let b := basinOf p
  let lines := ((s.pond p).l2.filter (fun e => l2Set e.1 == set)).map (·.1)
  let s := lines.foldl (fun s l =>
    let s := if s.coherentIn b l then s.loseLine b (Fin.ofNat 17 (p % 17)) l else s
    s.setL2 p l { s.l2 p l with st := .i }) s
  s.pondRaise Flt.POND_L2_TAG_UE p 0 20 4 0

/-- Begin disabling a way (R277). -/
def State.wayDisable (s : State) (p w : Nat) : State :=
  let x := s.pond p
  if s.bit (L2_CTL.AWD_EN p) && s.wayFills p w then s.setPond p { x with wayBusy := x.wayBusy ++ [w] } else s

/-- A corrected error of a way (R276, R277): counted while AWD_EN reads 1. -/
def State.wayCorrected (s : State) (p w line : Nat) : State :=
  let s := s.pondRaise Flt.POND_L2_CE p (64 * line) 20 0 0
  if !s.bit (L2_CTL.AWD_EN p) then s
  else
    let x := s.pond p
    let n := Tab.get (fun _ => 0) x.wayCe w + 1
    let s := s.setPond p { x with wayCe := Tab.set (fun _ => 0) x.wayCe w n }
    if 2 ^ s.fld (L2_CTL.WTHR p) ≤ n then s.wayDisable p w else s

/-- A new window of 2^30 ticks starts (R277). -/
def State.ceWindow (s : State) (p : Nat) : State :=
  if elapsed s.dt (s.pond p).ceStart (2 ^ 30) then s.setPond p { s.pond p with wayCe := [], ceStart := s.dt } else s

/-- The end of an automatic way disable (R277), once every line of the way could leave; one due during an all-lines operation waits for it
(Table 10-8). -/
def State.wayDone (s : State) (p : Nat) : State :=
  let x := s.pond p
  let walking := match x.maint with
    | some (op, _, _) => decide (4 ≤ op)
    | none => false
  match x.wayBusy with
  | [] => s
  | w :: rest =>
    let inIt (e : Nat × L2Line) : Bool := e.2.way == w && e.2.st.inWay
    let s := if walking then s else (x.l2.filter inIt).foldl (fun s e => (s.evict p e.1 false).2) s
    if walking || (s.pond p).l2.any inIt then s
    else
      let s := s.setPond p { s.pond p with wayBusy := rest }
      let s := s.setFld (L2_WAYOFF.AUTO p) (s.fld (L2_WAYOFF.AUTO p) ||| 2 ^ w)
      (s.pondRaise Flt.POND_WAY_OFF p 0 20 7 0).wayMin p

/-- Has the L2 reached its stopped state (R284)? Then every L1D and L1I is emptied. -/
def State.l2Quiet (s : State) (p : Fin 68) : Bool :=
  let x := s.pond p.val
  !(x.l2.any (fun e => e.2.st == .isd || e.2.st == .imd || e.2.st == .smg)) && x.maint.isNone &&
  (pondStriders p).all (fun w => (s.str w).sb.all (fun e => e.dev))

def State.l2StopPoint (s : State) (p : Fin 68) : State :=
  if (s.pond p.val).l2Stop && s.l2Quiet p then
    (s.setFld (L2_CTL.EN p.val) 0).setPond p.val { s.pond p.val with l2Stop := false, l1d := L1.init, l1i := L1.init }
  else s

/-- The end of a maintenance operation (R281, R283), once it has treated every line; `tagUe` says that it met an uncorrectable tag, of which
neither the set (for an all-lines operation) nor the way is named: free values. -/
def State.maintEnd (s : State) (p : Fin 68) (tagUe : Bool) : State :=
  match (s.pond p.val).maint with
  | none => s
  | some (op, line, left) =>
    let s := left.foldl (fun s l => s.maintLine p.val l (if op ≤ 3 then op else op - 3)) s
    let left := left.filter (fun l => s.maintOpen p.val op l)
    if !left.isEmpty && !tagUe then s.setPond p.val { s.pond p.val with maint := some (op, line, left) }
    else
      let s :=
        if tagUe then
          let (x, s) := s.fresh
          let (y, s) := s.fresh
          (s.tagLost p.val (if op ≤ 3 then l2Set line.toNat else Config.free x % 2048)).wayDisable p.val (Config.free y % 16)
        else s
      let s := (s.setFld (L2_MAINT.BUSY p.val) 0).setFld (L2_MAINT.DONE p.val) 1
      let s := s.setBit (L2_MAINT.ERR p.val) tagUe
      (s.setPond p.val { s.pond p.val with maint := none }).l2StopPoint p

/-- L2_CTL.EN written (R284, R286, R307). -/
def State.l2Enable (s : State) (p : Fin 68) (en : Bool) : State :=
  if en then
    let was := s.bit (L2_CTL.EN p.val)
    let s := s.setPond p.val { s.pond p.val with l2Stop := false }
    if was then s
    else
      let s := s.setFld (L2_CTL.EN p.val) 1
      let off := ((s.pond p.val).l2.filter (fun e => e.2.st.inWay && !s.wayOn p.val e.2.way)).map (·.1)
      (off.foldl (fun s l => (s.evict p.val l false).2) s).wayMin p.val
  else if s.bit (L2_CTL.EN p.val) then (s.setPond p.val { s.pond p.val with l2Stop := true }).l2StopPoint p
  else s

/-- POND_CTL.EN written (R301). -/
def State.pondEnable (s : State) (p : Fin 68) (en : Bool) : State :=
  if en then (s.setFld (POND_CTL.EN p.val) 1).setPond p.val { s.pond p.val with stopping := false }
  else if !s.bit (POND_CTL.EN p.val) then s
  else if s.pondBusy p then s.setPond p.val { s.pond p.val with stopping := true }
  else s.setFld (POND_CTL.EN p.val) 0

/-- PM_CTL.EN written (R302). A march runs only while EN reads 0 (R299). DESIGN CHOICE (assumption 123): the spec does not say what a write of 1
during a march does; it is ignored and sets CFG_REJECT. -/
def State.pmEnable (s : State) (p : Nat) (en : Bool) : State :=
  if en then
    if s.bit (MARCH_STAT.BUSY p) then s.setFld (POND_STAT.CFG_REJECT p) 1
    else (s.setFld (PM_CTL.EN p) 1).setPond p { s.pond p with pmStop := false }
  else if !s.bit (PM_CTL.EN p) then s
  else if s.bit (POND_CTL.EN p) then s.setFld (POND_STAT.CFG_REJECT p) 1
  else (s.setPond p { s.pond p with pmStop := true }).pmStopPoint p

/-- BASIN_CTL.EN written (Table 11-13). -/
def State.basinEnable (s : State) (b : Nat) (en : Bool) : State :=
  if en then
    ((s.setFld (BASIN_CTL.EN b) 1).setFld (BASIN_STAT.STATE b) 0).setBasin b { s.basin b with stopping := false }
  else if !s.bit (BASIN_CTL.EN b) then s
  else if s.basinBusy b then (s.setFld (BASIN_STAT.STATE b) 1).setBasin b { s.basin b with stopping := true }
  else (s.setFld (BASIN_CTL.EN b) 0).setFld (BASIN_STAT.STATE b) 2

end Sys2Proof.Machine
end

