-- ==== Sys2Proof/Machine/Crypto.lean ====
section
/-!
DEFINITION. The functions of chapter 14: SHA-256 (FIPS 180-4, R425), AES-CMAC under 128- and 256-bit keys (SP 800-38B, R423),
the key derivation of R418, and the verification of HSS/LMS signatures (RFC 8554, R408).
-/

namespace Sys2Proof.Machine

/-- The first `n` bytes as 32-bit words, most significant byte first. -/
def beWords : Nat → List Byte → List (BitVec 32)
  | 0, _ => []
  | n + 1, l => BitVec.ofNat 32 (beNat (slice l 0 4)) :: beWords n (l.drop 4)

/-- The largest `r` below 2^`n` above a start with r^`k` ≤ `x`, bit by bit from the top. -/
def rootBits (k x : Nat) : Nat → Nat → Nat
  | 0, r => r
  | n + 1, r => rootBits k x n (if (r + 2 ^ n) ^ k ≤ x then r + 2 ^ n else r)

/-- The first 32 bits of the fraction of the `k`-th root of a number below 16^`k` (FIPS 180-4, where the constants of SHA-256 come from). -/
def rootFraction (k p : Nat) : BitVec 32 := BitVec.ofNat 32 (rootBits k (p * 2 ^ (32 * k)) 36 0)

/-- The first 64 primes. -/
def shaPrimes : List Nat :=
  ((List.range 312).drop 2).filter (fun p => [2, 3, 5, 7, 11, 13, 17].all (fun q => p == q || p % q != 0))

/-- The constants of the rounds: from the cube roots of the first 64 primes. -/
def shaK : List (BitVec 32) := shaPrimes.map (rootFraction 3)

/-- The initial hash value: from the square roots of the first 8 primes. -/
def shaH0 : List (BitVec 32) := (shaPrimes.take 8).map (rootFraction 2)

/-- The message schedule, newest word first: `n` further words. -/
def shaSched : Nat → List (BitVec 32) → List (BitVec 32)
  | 0, w => w
  | n + 1, w =>
    let x := w.getD 14 0
    let y := w.getD 1 0
    let s0 := x.rotateRight 7 ^^^ x.rotateRight 18 ^^^ (x >>> 3)
    let s1 := y.rotateRight 17 ^^^ y.rotateRight 19 ^^^ (y >>> 10)
    shaSched n ((w.getD 15 0 + s0 + w.getD 6 0 + s1) :: w)

/-- One round on the eight working variables. -/
def shaRound (v : List (BitVec 32)) (kw : BitVec 32 × BitVec 32) : List (BitVec 32) :=
  match v with
  | [a, b, c, d, e, f, g, h] =>
    let s1 := e.rotateRight 6 ^^^ e.rotateRight 11 ^^^ e.rotateRight 25
    let t1 := h + s1 + ((e &&& f) ^^^ (~~~e &&& g)) + kw.1 + kw.2
    let s0 := a.rotateRight 2 ^^^ a.rotateRight 13 ^^^ a.rotateRight 22
    let t2 := s0 + ((a &&& b) ^^^ (a &&& c) ^^^ (b &&& c))
    [t1 + t2, a, b, c, d + t1, e, f, g]
  | _ => v

/-- One block into the hash value. -/
def shaBlock (h : List (BitVec 32)) (block : List Byte) : List (BitVec 32) :=
  let w := (shaSched 48 (beWords 16 block).reverse).reverse
  List.zipWith (· + ·) h ((List.zip shaK w).foldl shaRound h)

def shaBlocks : Nat → List (BitVec 32) → List Byte → List (BitVec 32)
  | 0, h, _ => h
  | n + 1, h, l => shaBlocks n (shaBlock h (l.take 64)) (l.drop 64)

/-- SHA-256 of bytes (FIPS 180-4). -/
def sha256 (m : List Byte) : List Byte :=
  let pad := (119 - m.length % 64) % 64
  let all := m ++ [0x80] ++ zeros pad ++ beBytes 8 (8 * m.length)
  (shaBlocks (all.length / 64) shaH0 all).flatMap (fun w => beBytes 4 w.toNat)

/-- Multiply by x in the field of AES. -/
def xtime (b : Byte) : Byte := if b.getLsbD 7 then (b <<< 1) ^^^ 0x1B else b <<< 1

/-- Product in the field of AES. -/
def gmul (a b : Byte) : Byte :=
  ((List.range 8).foldl (fun (acc : Byte × Byte) i =>
    (if b.getLsbD i then acc.1 ^^^ acc.2 else acc.1, xtime acc.2)) (0, a)).1

/-- The inverse in the field of AES: the 254th power. -/
def ginv (a : Byte) : Byte :=
  let sq (x : Byte) : Byte := gmul x x
  let a2 := sq a
  let a4 := sq a2
  let a8 := sq a4
  let a16 := sq a8
  let a32 := sq a16
  let a64 := sq a32
  gmul (sq a64) (gmul a64 (gmul a32 (gmul a16 (gmul a8 (gmul a4 a2)))))

/-- The S-box. -/
def subByte (a : Byte) : Byte :=
  let i := ginv a
  i ^^^ i.rotateLeft 1 ^^^ i.rotateLeft 2 ^^^ i.rotateLeft 3 ^^^ i.rotateLeft 4 ^^^ 0x63

def xorBytes (a b : List Byte) : List Byte := List.zipWith (· ^^^ ·) a b

/-- Key expansion, newest word last: `n` further words of a key of `nk` words. -/
def keyWords (nk : Nat) : Nat → List (List Byte) → Byte → List (List Byte)
  | 0, w, _ => w
  | n + 1, w, rcon =>
    let i := w.length
    let t := w.getLastD [0, 0, 0, 0]
    let (t, rcon) :=
      if i % nk = 0 then (xorBytes ((t.drop 1 ++ t.take 1).map subByte) [rcon, 0, 0, 0], xtime rcon)
      else if nk = 8 ∧ i % 8 = 4 then (t.map subByte, rcon)
      else (t, rcon)
    keyWords nk n (w ++ [xorBytes (w.getD (i - nk) [0, 0, 0, 0]) t]) rcon

/-- The round keys of a key of 16 or 32 bytes. -/
def roundKeys (key : List Byte) : List (List Byte) :=
  let nk := if key.length = 32 then 8 else 4
  let w := keyWords nk (4 * (nk + 7) - nk) ((List.range nk).map (fun i => slice key (4 * i) 4)) 1
  (List.range (nk + 7)).map (fun r => (w.drop (4 * r)).take 4 |>.flatten)

/-- The bytes of a block after ShiftRows. -/
def shiftRows (b : List Byte) : List Byte :=
  (List.range 16).map (fun i => b.getD ((i + 4 * (i % 4)) % 16) 0)

def mixColumn (b : List Byte) (c : Nat) : List Byte :=
  let x (i : Nat) : Byte := b.getD (4 * c + i % 4) 0
  (List.range 4).map (fun i => xtime (x i) ^^^ (xtime (x (i + 1)) ^^^ x (i + 1)) ^^^ x (i + 2) ^^^ x (i + 3))

/-- One middle round. -/
def aesRound (b rk : List Byte) : List Byte :=
  let b := shiftRows (b.map subByte)
  xorBytes ((List.range 4).flatMap (mixColumn b)) rk

/-- AES of one 16-byte block under expanded round keys. -/
def aesBlock (rks : List (List Byte)) (b : List Byte) : List Byte :=
  let mid := (rks.drop 1).dropLast
  let b := mid.foldl aesRound (xorBytes b (rks.headD []))
  xorBytes (shiftRows (b.map subByte)) (rks.getLastD [])

/-- Doubling of a CMAC subkey. -/
def cmacDouble (b : List Byte) : List Byte :=
  let v := 2 * beNat b
  let v := if v < 2 ^ 128 then v else (v - 2 ^ 128) ^^^ 0x87
  beBytes 16 v

def cmacBlocks (rks : List (List Byte)) : Nat → List Byte → List Byte → List Byte × List Byte
  | 0, c, m => (c, m)
  | n + 1, c, m => cmacBlocks rks n (aesBlock rks (xorBytes c (m.take 16))) (m.drop 16)

/-- AES-CMAC with a full 128-bit tag (R423). -/
def cmac (key m : List Byte) : List Byte :=
  let rks := roundKeys key
  let k1 := cmacDouble (aesBlock rks (zeros 16))
  let n := (m.length - 1) / 16
  let (c, last) := cmacBlocks rks n (zeros 16) m
  let x := if last.length = 16 then xorBytes last k1 else xorBytes (slice (last ++ [0x80]) 0 16) (cmacDouble k1)
  aesBlock rks (xorBytes c x)

/-- The key derivation of R418. -/
def pageKdf (base : List Byte) (page ctx : Nat) (long : Bool) : List Byte :=
  let label : List Byte := [0x46, 0x58, 0x4D, 0x50, 0x41, 0x47, 0x45, BitVec.ofNat 8 page]
  let k (i : Nat) : List Byte :=
    cmac base (beBytes 4 i ++ label ++ [0] ++ beBytes 4 ctx ++ beBytes 4 (if long then 256 else 128))
  if long then k 1 ++ k 2 else k 1

/-- An LM-OTS parameter set by type code: Winternitz width, chains and checksum shift (RFC 8554; R408 admits W4 and W8). -/
def otsParam (type : Nat) : Option (Nat × Nat × Nat) :=
  if type = 3 then some (4, 67, 4) else if type = 4 then some (8, 34, 0) else none

/-- The height of an LMS parameter set by type code (RFC 8554; R408 admits H10, H15 and H20). -/
def lmsHeight (type : Nat) : Option Nat :=
  if type = 6 then some 10 else if type = 7 then some 15 else if type = 8 then some 20 else none

/-- Coefficient `i` of `w` bits of a byte string. -/
def otsCoef (s : List Byte) (i w : Nat) : Nat :=
  ((s.getD (i * w / 8) 0).toNat / 2 ^ (8 - (w * (i % (8 / w)) + w))) % 2 ^ w

/-- Iterate a chain from step `j`, `n` times. -/
def otsChain (pre : List Byte) (i : Nat) : Nat → Nat → List Byte → List Byte
  | 0, _, t => t
  | n + 1, j, t => otsChain pre i n (j + 1) (sha256 (pre ++ beBytes 2 i ++ beBytes 1 j ++ t))

/-- The LM-OTS public key that a signature gives for a message (RFC 8554, algorithm 4b). -/
def otsCandidate (id : List Byte) (q w p ls : Nat) (c y msg : List Byte) : List Byte :=
  let pre := id ++ beBytes 4 q
  let h := sha256 (pre ++ [0x81, 0x81] ++ c ++ msg)
  let sum := ((List.range (256 / w)).map (fun i => 2 ^ w - 1 - otsCoef h i w)).sum
  let all := h ++ beBytes 2 (sum * 2 ^ ls)
  let z := (List.range p).flatMap (fun i =>
    let a := otsCoef all i w
    otsChain pre i (2 ^ w - 1 - a) a (slice y (32 * i) 32))
  sha256 (pre ++ [0x80, 0x80] ++ z)

/-- The root a Merkle path gives from a node. -/
def lmsRoot (id : List Byte) : List (List Byte) → Nat → List Byte → List Byte
  | [], _, t => t
  | p :: rest, node, t =>
    let pre := id ++ beBytes 4 (node / 2) ++ [0x83, 0x83]
    lmsRoot id rest (node / 2) (sha256 (pre ++ if node % 2 = 1 then p ++ t else t ++ p))

/-- Length of an LMS signature that begins `s`, from the type codes in it. -/
def lmsSigLen (s : List Byte) : Option Nat :=
  match otsParam (beNat (slice s 4 4)) with
  | none => none
  | some (_, p, _) =>
    match lmsHeight (beNat (slice s (40 + 32 * p) 4)) with
    | none => none
    | some h => some (44 + 32 * p + 32 * h)

/-- Verify an LMS signature under a 56-byte LMS public key (RFC 8554, algorithm 6a). -/
def lmsVerify (pub msg sig : List Byte) : Bool :=
  match otsParam (beNat (slice pub 4 4)), lmsHeight (beNat (slice pub 0 4)), lmsSigLen sig with
  | some (w, p, ls), some h, some n =>
    let q := beNat (slice sig 0 4)
    if sig.length ≠ n ∨ slice sig 4 4 ≠ slice pub 4 4 ∨ slice sig (40 + 32 * p) 4 ≠ slice pub 0 4 ∨ 2 ^ h ≤ q then false
    else
      let id := slice pub 8 16
      let k := otsCandidate id q w p ls (slice sig 8 32) (slice sig 40 (32 * p)) msg
      let leaf := sha256 (id ++ beBytes 4 (2 ^ h + q) ++ [0x82, 0x82] ++ k)
      let path := (List.range h).map (fun i => slice sig (44 + 32 * p + 32 * i) 32)
      lmsRoot id path (2 ^ h + q) leaf == slice pub 24 32
  | _, _, _ => false

/-- Verify an HSS signature of one or two levels (R408, RFC 8554 algorithm 8). -/
def hssVerify (pub msg sig : List Byte) : Bool :=
  let l := beNat (slice pub 0 4)
  let key := slice pub 4 56
  let rest := sig.drop 4
  if beNat (slice sig 0 4) + 1 ≠ l then false
  else if l = 1 then lmsVerify key msg rest
  else if l = 2 then
    match lmsSigLen rest with
    | none => false
    | some n =>
      let key1 := slice rest n 56
      lmsVerify key key1 (rest.take n) && lmsVerify key1 msg (rest.drop (n + 56))
  else false

end Sys2Proof.Machine
end

