-- ==== Sys2Proof/Machine/Sec.lean ====
section
/-!
DEFINITION. The security block (chapter 14): page keys and their use, the system secret, the TRNG, the SHA-256 engine, the
measurement log, attestation indices, and debug unlock.
-/

namespace Sys2Proof.Machine

/-- `n` bytes the spec leaves open (random bytes of the TRNG). -/
def State.freeBytes (s : State) (n : Nat) : List Byte × State :=
  let (c, s) := s.fresh
  (leBytes n (Config.free c), s)

def Page.empty : Nat := 0
def Page.deriving_ : Nat := 1
def Page.keyed : Nat := 2
def Page.zeroing : Nat := 3

def State.pageState (s : State) (k : Nat) : Nat := s.fld (SEC_PG_STAT.STATE k)

/-- The key of a KEYED page. -/
def State.pageKey (s : State) (k : Nat) : List Byte := Tab.get (fun _ => []) s.sec.keys k

def State.setPageKey (s : State) (k : Nat) (v : List Byte) : State :=
  { s with sec := { s.sec with keys := Tab.set (fun _ => []) s.sec.keys k v } }

/-- Is an operation of the CMAC engine on a page in progress (R420)? -/
def State.pageBusy (s : State) (k : Nat) : Bool :=
  s.cmp.busy.any (fun e => match e.2 with
    | none => false
    | some r => (r.desc.getD 2 0).toNat / 2 ^ 16 % 16 == k) ||
  (s.cmp.job.isSome && s.fld CMP_JOB_CFG.PAGE == k)

/-- The system secret as bytes, first word first and most significant byte first (R419). -/
def State.sysSecret (s : State) : List Byte := s.sec.secret.flatMap (fun w => beBytes 4 w.toNat)

/-- SEC_PG_CTL.EN written 1 (R420). -/
def State.pageEnable (s : State) (k : Nat) : State :=
  if s.bit (SEC_PG_CTL.EN k) then s
  else if s.bit (SEC_PG_CTL.KBASE k) && !s.bit SEC_STAT.SYS_VALID then s.setFld SEC_STAT.CFG_REJECT 1
  else (s.setFld (SEC_PG_CTL.EN k) 1).setFld (SEC_PG_STAT.STATE k) Page.deriving_

/-- SEC_PG_CTL.EN written 0 (R420). -/
def State.pageDisable (s : State) (k : Nat) : State :=
  if s.bit (SEC_PG_CTL.EN k) then s.setFld (SEC_PG_STAT.STATE k) Page.zeroing else s

/-- The KDF completes (R418, R424). -/
def State.pageDerived (s : State) (k : Nat) (parity : Bool) : State :=
  if s.pageState k ≠ Page.deriving_ then s
  else if parity then
    ((s.setFld (SEC_PG_STAT.STATE k) Page.empty).setFld (SEC_PG_CTL.EN k) 0).raise Flt.SEC_DP_PARITY
  else
    let base := if s.bit (SEC_PG_CTL.KBASE k) then s.sysSecret else slice Config.dus 0 32
    (s.setPageKey k (pageKdf base k (s.fld (SEC_PG_CTX.CTX k)) (s.bit (SEC_PG_CTL.KBITS k)))).setFld (SEC_PG_STAT.STATE k) Page.keyed

/-- The key of a disabled page is zeroed once no operation on the page runs (R420). -/
def State.pageZero (s : State) (k : Nat) : State :=
  if s.pageState k ≠ Page.zeroing || s.pageBusy k then s
  else ((s.setPageKey k []).setFld (SEC_PG_STAT.STATE k) Page.empty).setFld (SEC_PG_CTL.EN k) 0

/-- May a requester of Table 14-7 use a page (R422)? -/
def State.pageUsable (s : State) (k useBit : Nat) : Bool :=
  s.bit SEC_CTL.EN && !s.sec.stopping && s.pageState k == Page.keyed && Nat.testBit (s.fld (SEC_PG_OWN.USE k)) useBit

/-- A request refused DENIED (Table 14-12). -/
def State.pageDenied (s : State) (k : Nat) : State := s.addSat (SEC_PG_STAT.DENIED k) 1

/-- New operations of the engine wait while no reseed of the masks has arrived for 10 ms (R424). -/
def State.maskStale (s : State) : Bool := elapsed s.dt s.sec.lastSeed (usTicks 10000)

/-- SEC_KEYLOAD (R419, Table 14-8): words after the eighth are ignored until START. -/
def State.keyload (s : State) (v : Word32) : State :=
  if (upTo 16).any (fun k => s.bit (SEC_PG_CTL.EN k) && s.bit (SEC_PG_CTL.KBASE k)) then s.setFld SEC_STAT.CFG_REJECT 1
  else if 8 ≤ s.sec.secret.length then s
  else
    let w := s.sec.secret ++ [v]
    let s := { s with sec := { s.sec with secret := w } }
    let s := s.setFld SEC_KEYLD_CTL.WIDX w.length
    if w.length = 8 then s.setFld SEC_STAT.SYS_VALID 1 else s

/-- SEC_KEYLD_CTL.START and CLEAR (R419, R420): both leave no secret loaded. -/
def State.keyClear (s : State) : State :=
  let s := { s with sec := { s.sec with secret := [] } }
  (s.setFld SEC_KEYLD_CTL.WIDX 0).setFld SEC_STAT.SYS_VALID 0

/-- SEC_CTL.OTP_LOCK (R411). -/
def State.otpLocked (s : State) : State :=
  { s.setFld SEC_CTL.OTP_LOCK 1 with sec := { s.sec with otpLock := true } }

/-- Does the noise source run? -/
def State.rngUp (s : State) : Bool := s.bit SEC_RNG_CTL.EN && s.sec.rngBack.isNone && s.fld SEC_RNG_STAT.RESTARTS != 3

/-- Restart the noise source (R426). -/
def State.rngStart (s : State) : State := { s with sec := { s.sec with rngBack := some s.dt } }

/-- A restart ends after 2 ms; a failed one is counted and begun again, the third failed one kills the source (R426). -/
def State.rngBegun (s : State) (ok : Bool) : State :=
  match s.sec.rngBack with
  | none => s
  | some t =>
    if !elapsed s.dt t (usTicks 2000) then s
    else if ok then { s.setFld SEC_RNG_STAT.RESTARTS 0 with sec := { s.sec with rngBack := none } }
    else
      let s := s.addSat SEC_RNG_STAT.RESTARTS 1
      if s.fld SEC_RNG_STAT.RESTARTS = 3 then
        { s with sec := { s.sec with rngBack := none, rngReady := 0 } }.raise Flt.SEC_RNG_DEAD
      else s.rngStart

/-- Longest run of equal samples. -/
def longestRun (b : BitVec 1024) : Nat :=
  ((List.range 1024).foldl (fun (a : Nat × Nat) i =>
    let run := if i ≠ 0 ∧ b.getLsbD i = b.getLsbD (i - 1) then a.1 + 1 else 1
    (run, max a.2 run)) (0, 0)).2

/-- Do the samples of a window fail the repetition count test or the adaptive proportion test (R426)? -/
def healthFails (b : BitVec 1024) : Bool :=
  let same := ((List.range 1024).filter (fun i => b.getLsbD i == b.getLsbD 0)).length
  decide (32 ≤ longestRun b) || decide (624 ≤ same)

/-- A window of raw samples (R426): a good one gives 16 conditioned words, a bad one is discarded. -/
def State.rngWindow (s : State) (b : BitVec 1024) : State :=
  if !s.rngUp then s
  else if healthFails b then
    (((s.addSat SEC_RNG_STAT.HEALTH_FAIL 1).raise Flt.SEC_RNG_HEALTH).rngStart)
  else { s with sec := { s.sec with rngReady := 16 } }

/-- A read of SEC_RNG_DATA (R426). -/
def State.rngRead (s : State) : Word32 × State :=
  if s.sec.rngReady = 0 then (0, s.setFld SEC_RNG_STAT.UNDERRUN 1)
  else
    let (c, s) := s.fresh
    (BitVec.ofNat 32 (Config.free c), { s with sec := { s.sec with rngReady := s.sec.rngReady - 1 } })

/-- The mask expander is reseeded (R424); without a running source it waits. -/
def State.reseed (s : State) : State :=
  if s.rngUp then { s with sec := { s.sec with lastSeed := s.dt } } else s

/-- SEC_SHA_CTL.INIT (R425). -/
def State.shaStart (s : State) : State :=
  { s.setFld SEC_SHA_CTL.BUSY 0 with sec := { s.sec with shaMsg := [] } }

/-- SEC_SHA_DATA (R425). -/
def State.shaFeed (s : State) (v : Word32) : State :=
  if s.bit SEC_SHA_CTL.BUSY then s
  else { s with sec := { s.sec with shaMsg := s.sec.shaMsg ++ beBytes 4 v.toNat } }

/-- SEC_SHA_CTL.FINAL (R425): the last word holds LASTB bytes, 0 meaning 4. -/
def State.shaEnd (s : State) : State :=
  if s.bit SEC_SHA_CTL.BUSY then s
  else
    let l := s.fld SEC_SHA_CTL.LASTB
    let m := s.sec.shaMsg
    let m := if l = 0 then m else m.take (m.length - (4 - l))
    { s.setFld SEC_SHA_CTL.BUSY 1 with sec := { s.sec with shaMsg := m } }

/-- The engine finishes (R425, R424). -/
def State.shaFinish (s : State) (parity : Bool) : State :=
  if !s.bit SEC_SHA_CTL.BUSY then s
  else
    let s := s.setFld SEC_SHA_CTL.BUSY 0
    if parity then { s with sec := { s.sec with shaOut := [], shaMsg := [], shaIdx := 0 } }.raise Flt.SEC_DP_PARITY
    else { s.setFld SEC_SHA_CTL.DONE 1 with sec := { s.sec with shaOut := sha256 s.sec.shaMsg, shaIdx := 0 } }

/-- A read of SEC_SHA_DIGEST: H0 to H7 in turn (R425). -/
def State.shaRead (s : State) : Word32 × State :=
  (BitVec.ofNat 32 (beNat (slice s.sec.shaOut (4 * s.sec.shaIdx) 4)),
    { s with sec := { s.sec with shaIdx := (s.sec.shaIdx + 1) % 8 } })

/-- The bytes of a measurement log entry (Table 14-5). -/
def Measure.bytes (m : Measure) (idx : Nat) : List Byte :=
  leBytes 4 m.type ++ leBytes 4 idx ++ leBytes 8 m.dt.toNat ++ slice m.digest 0 32 ++ zeros 16

/-- Extend the measurement log (R413, R414). -/
def State.extendLog (s : State) (type : Nat) (digest : List Byte) : State :=
  let m : Measure := { type := type, dt := s.dt, digest := digest }
  let x := s.sec
  let full := decide (64 ≤ x.count)
  { s with sec := { x with
      log := if full then x.log else x.log ++ [m],
      running := sha256 (x.running ++ m.bytes x.count),
      count := x.count + 1,
      ovf := x.ovf || full } }

/-- Reserve the next block of attestation indices and take its first index (R416). -/
def State.reserveBlock (s : State) : Nat × State :=
  let b := s.fld SEC_SIG_IDX.BLOCKS
  (1024 * b, { s.setFld SEC_SIG_IDX.BLOCKS (b + 1) with sec := { s.sec with sigNext := some (1024 * b + 1) } })

/-- Certify a successor attestation key and make it current (R417). -/
def State.succeed (s : State) : State :=
  let g := s.fld SEC_SIG_IDX.KEYGEN
  let pub := slice (Config.attKey (g + 1)) 0 60
  let cert := pub ++ slice (Config.attSign g 1048575 pub) 0 5076
  let s := { s with sec := { s.sec with certs := s.sec.certs ++ [cert] } }
  ((s.extendLog 9 (sha256 pub)).setFld SEC_SIG_IDX.KEYGEN (g + 1)).setFld SEC_SIG_IDX.BLOCKS 0

/-- The index for the next quote (R416, R417); none when no block is left under the last key. -/
def State.takeIndex (s : State) : Option (Nat × State) :=
  match s.sec.sigNext with
  | some i => some (i, { s with sec := { s.sec with sigNext := if (i + 1) % 1024 = 0 then none else some (i + 1) } })
  | none =>
    if s.fld SEC_SIG_IDX.BLOCKS < 1023 then some s.reserveBlock
    else if s.fld SEC_SIG_IDX.KEYGEN < 15 then some s.succeed.reserveBlock
    else none

/-- The resume cell is written before an ordered reset and at D-SLEEP entry (R416). -/
def State.saveCell (s : State) : State := { s with sec := { s.sec with cell := s.sec.sigNext } }

/-- At start the resume cell is read and invalidated (R416). -/
def State.loadCell (s : State) : State := { s with sec := { s.sec with sigNext := s.sec.cell, cell := none } }

def State.slot (s : State) (k : Nat) : Slot := Tab.get (fun _ => { hash := [], prog := false, revoked := false }) s.sec.slots k

/-- Does a signature under a key whose hash an unrevoked, programmed slot holds verify (R408, R412, R427)? The signature
comes after the 60-byte public key it is made under. -/
def State.slotVerifies (s : State) (k : Nat) (msg sig : List Byte) : Bool :=
  let pub := slice sig 0 60
  let sl := s.slot k
  sl.prog && !sl.revoked && sha256 pub == sl.hash && hssVerify pub msg (sig.drop 60)

/-- A debug unlock (R427): every page and the system secret are cleared, the log extended, the port opened. -/
def State.debugOpen (s : State) (token : List Byte) : State :=
  let s := (upTo 16).foldl (fun s k => (s.pageDisable k).pageZero k) s
  (s.keyClear.extendLog 7 (sha256 token)).setFld SEC_STAT.DBG_OPEN 1

end Sys2Proof.Machine
end

