-- ==== Sys2Proof/Machine/Cmp.lean ====
section
/-!
DEFINITION. The compression engine (chapter 6): lanes and the request port (R172 to R180), jobs (R170, R171), fencing, and the
table group.
-/

namespace Sys2Proof.Machine

def laneErrCnt (k : Nat) : Fld := ⟨CMP_LANE.addr, 8 * k + 7, 8 * k + 2⟩
def laneFencedFld (k : Nat) : Fld := ⟨CMP_LANE.addr, 8 * k + 1, 8 * k + 1⟩

def State.laneFenced (s : State) (k : Nat) : Bool := s.bit (laneFencedFld k)

/-- Is a lane in service: enabled and not fenced? -/
def State.laneUp (s : State) (k : Nat) : Bool := Nat.testBit (s.fld CMP_CTL.LANE_EN) k && !s.laneFenced k

def State.laneBusy (s : State) (k : Nat) : Option CmpReq := Tab.get (fun _ => none) s.cmp.busy k

def State.setLane (s : State) (k : Nat) (r : Option CmpReq) : State :=
  { s with cmp := { s.cmp with busy := Tab.set (fun _ => none) s.cmp.busy k r } }

/-- Requests a lane holds, and its job. -/
def State.laneLoad (s : State) (k : Nat) : Nat :=
  (s.cmp.fifo.filter (fun e => e.1.val == k)).length + (if (s.laneBusy k).isSome then 1 else 0) +
  (match s.cmp.job with
   | some j => if j.lane.val = k then 1 else 0
   | none => 0)

/-- The lane in service with the fewest requests, the lowest-numbered of several (R174), leaving out one. -/
def State.pickLane (s : State) (but : Option Nat) : Option (Fin 4) :=
  ((List.finRange 4).filter (fun k => s.laneUp k.val && but != some k.val)).foldl (fun (best : Option (Fin 4)) k =>
    match best with
    | none => some k
    | some j => if s.laneLoad k.val < s.laneLoad j.val then some k else some j) none

/-- Does a valid STRONG region hold a block of 64 bytes (Table 02-5, R171)? -/
def State.strongAt (s : State) (a : Nat) : Bool :=
  a % 64 == 0 && match s.regionAt a with
    | none => false
    | some (_, r) => !r.code

/-- The table group at the CMP's commit point (Table 02-4, Table 02-5): while no lane compresses a tile. -/
def State.cmpPoint (s : State) : State :=
  if s.cmp.job.isSome then s
  else
    let s := s.applyStaged (fun a => decide (0xB00000 ≤ a ∧ a < 0xB10000))
    (s.commitGroup DEV_CFGMODE.IMM_CMP CMP_TBL.COMMIT [CMP_TBL.SEL, CMP_TBL_BASE_LO.BASE, CMP_TBL_BASE_HI.BASE]
      (fun s => decide (s.fld CMP_TBL.SEL ≤ 9) && s.strongAt (s.fld CMP_TBL_BASE_LO.BASE * 64 + s.fld CMP_TBL_BASE_HI.BASE * 2 ^ 32))).1

/-- Reasons of Table 06-9 and their statuses. -/
def cmpStatus (reason : Nat) : Nat :=
  if reason < 0x10 then 0
  else if reason ≤ 0x11 then 0x50
  else if reason ≤ 0x14 then 0x42
  else if reason ≤ 0x21 then 0x21
  else if reason = 0x22 then 0x30
  else if reason = 0x23 then 0x11
  else 0x42

/-- The fault bit of a reason (R175, Table 06-15). -/
def cmpFault (reason : Nat) : Option FaultBit :=
  match reason with
  | 0x10 => some Flt.CMP_AUTH
  | 0x11 => some Flt.CMP_POISON
  | 0x12 => some Flt.CMP_FORMAT
  | 0x13 => some Flt.CMP_FORMAT
  | 0x14 => some Flt.CMP_CRC
  | 0x20 => some Flt.CMP_REQ_BAD
  | 0x21 => some Flt.CMP_REQ_BAD
  | 0x22 => some Flt.CMP_REQ_BAD
  | 0x23 => some Flt.CMP_REQ_BAD
  | _ => none

/-- Count and report the end of a request or job (R175, R179, Tables 06-15 and 06-17, Table 14-12). -/
def State.cmpReport (s : State) (reason page : Nat) : State :=
  let s := match cmpFault reason with
    | none => s
    | some b => s.raise b
  let st := cmpStatus reason
  let s := if st = 0 then s.setPair CMP_CNT_D_LO.DELIVERED CMP_CNT_D_HI.DELIVERED (s.pair CMP_CNT_D_LO.DELIVERED CMP_CNT_D_HI.DELIVERED + 1)
    else if st = 0x50 ∨ st = 0x42 then s.addSat CMP_CNT_VMIS.DFAIL 1 else s
  if reason = 0x10 then s.addSat (SEC_PG_STAT.TAGMIS page) 1
  else if reason = 0x22 then s.pageDenied page else s

/-- A fault of a lane (R180): its bit in CMP_FAULT, its count, and LERR, whose class R escalates within the lane. -/
def State.laneFault (s : State) (k : Nat) (b : FaultBit) : State :=
  ((s.markBit b).addSat (laneErrCnt k) 1).raise (Flt.LANE_LERR k)

/-- The fields of a request descriptor (Table 06-7). -/
structure CmpDesc where
  src    : Nat
  dst    : Nat
  pitch  : Nat
  line0  : Nat
  nlines : Nat
  page   : Nat
  op     : Nat
  pat    : Nat
  tile   : Nat
  done   : Nat
  /-- every reserved bit is 0 and OP is defined -/
  formOk : Bool
  deriving DecidableEq, Repr

def readDesc (ws : List Word) : CmpDesc :=
  let d := ws.flatMap (fun w => leBytes 8 w.toNat)
  let dst := leAt d 8 4
  let l0 := leAt d 14 2
  let nl := leAt d 16 2
  let pg := leAt d 18 1
  let op := leAt d 19 1
  { src := leAt d 0 8, dst := dst % 2 ^ 19, pitch := leAt d 12 2, line0 := l0 % 1024, nlines := nl % 1024, page := pg % 16,
    op := op % 4, pat := leAt d 20 4, tile := leAt d 24 4, done := leAt d 28 4,
    formOk := decide (dst < 2 ^ 19 ∧ l0 < 1024 ∧ nl < 1024 ∧ pg < 16 ∧ (op = 1 ∨ op = 2)) }

/-- The completion word (Table 06-10). -/
def doneWord (dt : Word) (retried : Bool) (lane reason : Nat) : List Byte :=
  leBytes 2 (cmpStatus reason) ++ leBytes 1 reason ++ leBytes 1 (0x80 + lane + if retried then 4 else 0) ++ leBytes 4 dt.toNat

/-- Write the completion word and signal the pond's CMP event (R177, Table 06-8 step 6). -/
def State.cmpDone (s : State) (p : Fin 68) (done : Nat) (retried : Bool) (lane reason page : Nat) : State :=
  ((s.pmWrite p done (doneWord s.dt retried lane reason)).pondEvent p 0).cmpReport reason page

/-- Is a completion word defined (R173 step 1)? -/
def doneDefined (done : Nat) : Bool := done % 8 == 0 && decide (done < 2 ^ 19)

/-- Is a completion word defined and writable for a pond's DMA engine 0 (R173 step 1)? -/
def State.doneOk (s : State) (p done : Nat) : Bool := doneDefined done && s.pmAllowed p 17 done 8 2

/-- Engine 0's region descriptors refuse a write of the CMP (R295): PM_REGION. -/
def State.cmpRegion (s : State) (p off : Nat) : State := s.pondRaise Flt.POND_PM_REGION p off 17 1 1

/-- The delivered range of a request, once a header has given H and LB (R173); none when the lines do not lie within the
tile. -/
def delivered? (d : CmpDesc) (lb : Nat) : Option (Nat × Nat × Nat) :=
  let h := tileH lb
  let n := if d.nlines = 0 then h - d.line0 else d.nlines
  let pitch := if d.pitch = 0 then lb else d.pitch
  if d.line0 < h ∧ d.line0 + n ≤ h then some (n, pitch, (n - 1) * pitch + lb) else none

/-- May the delivered range be written: within 512 KiB and a writable region? -/
def State.rangeOk (s : State) (p : Nat) (d : CmpDesc) (len : Nat) : Bool :=
  d.dst % 8 == 0 && decide (d.dst + len ≤ pmSize) && s.pmAllowed p 17 d.dst len 2

/-- A request that failed with a header read: its known and writable range is zeroed, then the completion is written
(R175). -/
def State.cmpFail (s : State) (p : Fin 68) (d : CmpDesc) (lb : Option Nat) (lane reason : Nat) : State :=
  let s := match lb.bind (delivered? d) with
    | some (_, _, len) => if d.op = 1 && s.rangeOk p.val d len then s.pmWrite p d.dst (zeros len) else s
    | none => s
  s.cmpDone p d.done false lane reason d.page

/-- What reading and checking a block gave (Table 06-8 steps 2 to 5, before the CRC): the header, and the failing reason or
the tile. -/
structure BlkRead where
  hdr    : Option BlkHdr
  reason : Nat
  tile   : List Byte
  deriving DecidableEq, Repr

/-- Read a block under a page key: header, check-and-release, identity and decoding. None while DRAM cannot answer. -/
def State.readBlock (s : State) (src page pat tile : Nat) : Option BlkRead × State :=
  match s.masterBytes src 48 4 with
  | (none, s) => (none, s)
  | (some (hb, hp), s) =>
    match readHdr hb with
    | none => (some { hdr := none, reason := 0x13, tile := [] }, s)
    | some h =>
      let tl := if h.dyn then 136 else 0
      match s.masterBytes (src + 48) (tl + h.plen) 4 with
      | (none, s) => (none, s)
      | (some (b, bp), s) =>
        let tag := cmac (s.pageKey page) (slice hb 0 32 ++ b)
        let r (reason : Nat) (t : List Byte) : Option BlkRead × State := (some { hdr := some h, reason := reason, tile := t }, s)
        if hp.any id || bp.any id then r 0x11 []
        else if tag != slice hb 32 16 then r 0x10 []
        else if h.pat ≠ pat ∨ h.tile ≠ tile then r 0x12 []
        else match decodeTile h (b.take tl) (b.drop tl) with
          | none => r 0x13 []
          | some t => r 0 t

/-- Does a decoded tile fail its CRC on the `k`th decoding, given how many decodings err? -/
def crcFails (b : BlkRead) (errs k : Nat) : Bool :=
  decide (k ≤ errs) || (match b.hdr with
    | none => true
    | some h => crc32c b.tile != h.crc)

/-- The CRC check with its retry (R176): the reason, whether the data came from a second decoding, and the lane. -/
def State.crcCheck (s : State) (b : BlkRead) (lane errs : Nat) : Nat × Bool × Nat × State :=
  if !crcFails b errs 1 then (0, false, lane, s)
  else if !s.bit CMP_CTL.CRC_RETRY then (0x14, false, lane, s)
  else
    let other := ((s.pickLane (some lane)).map (·.val)).getD lane
    if crcFails b errs 2 then (0x14, false, other, s)
    else (0, true, other, s.laneFault lane Flt.CMP_LANE_ERR)

/-- Write the requested lines (Table 06-8 step 6). -/
def State.deliverLines (s : State) (p : Fin 68) (d : CmpDesc) (lb n pitch : Nat) (tile : List Byte) : State :=
  (List.range n).foldl (fun s i => s.pmWrite p (d.dst + i * pitch) (slice tile ((d.line0 + i) * lb) lb)) s

/-- A lane runs its request to the end (Table 06-8). None while DRAM cannot answer. -/
def State.cmpRun (s : State) (lane : Nat) (r : CmpReq) (errs : Nat) : Option State :=
  let d := readDesc r.desc
  let p := r.who.pond
  match s.readBlock d.src d.page d.pat d.tile with
  | (none, _) => none
  | (some b, s) =>
    match b.hdr with
    | none => some (s.cmpFail p d none lane b.reason)
    | some h =>
      if b.reason = 0x10 ∨ b.reason = 0x11 ∨ b.reason = 0x12 then some (s.cmpFail p d (some h.lb) lane b.reason)
      else match delivered? d h.lb with
        | none => some (s.cmpFail p d (some h.lb) lane 0x21)
        | some (n, pitch, len) =>
          if d.op = 1 && !s.rangeOk p.val d len then
            let inside := d.dst % 8 = 0 ∧ d.dst + len ≤ pmSize
            some ((if inside then s.cmpRegion p.val d.dst else s).cmpFail p d (some h.lb) lane 0x21)
          else if b.reason ≠ 0 then some (s.cmpFail p d (some h.lb) lane b.reason)
          else
            let (reason, retried, k, s) := s.crcCheck b lane errs
            if reason ≠ 0 then some (s.cmpFail p d (some h.lb) k reason)
            else
              let s := if d.op = 1 then s.deliverLines p d h.lb n pitch b.tile else s
              some (s.cmpDone p d.done retried k 0 d.page)

/-- Take waiting requests onto idle lanes (R174); a page is checked again at the start (Table 14-8). -/
def State.cmpPump (s : State) : Nat → State
  | 0 => s
  | n + 1 =>
    match s.cmp.fifo.find? (fun e => (s.laneBusy e.1.val).isNone) with
    | none => s
    | some (k, r) =>
      let i := s.cmp.fifo.findIdx (fun e => (s.laneBusy e.1.val).isNone)
      let s := { s with cmp := { s.cmp with fifo := s.cmp.fifo.eraseIdx i } }
      let d := readDesc r.desc
      if s.pageUsable d.page (2 + basinOf r.who.pond.val) then (s.setLane k.val (some r)).cmpPump n
      else (s.cmpFail r.who.pond d none k.val 0x22).cmpPump n

/-- The stopped state of the CMP (Table 06-11). -/
def State.cmpStopPoint (s : State) : State :=
  if s.cmp.stopping && s.cmp.fifo.isEmpty && s.cmp.busy.isEmpty && s.cmp.job.isNone then
    { s.setFld CMP_CTL.EN 0 with cmp := { s.cmp with stopping := false } }
  else s

/-- Lanes take what waits, and the engine stops if it can. -/
def State.cmpNext (s : State) : State := (s.cmpPump (s.cmp.fifo.length + 1)).cmpStopPoint

/-- A descriptor submitted by a strider (R172, R173, R178): false when the port is full. -/
def State.cmpSubmit (s : State) (w : StrId) (last : Word) : Bool × State :=
  let ws := portDesc (s.str w).cmpBuf last
  let d := readDesc ws
  let p := w.pond
  let clear (s : State) : State := s.setStr w { s.str w with cmpBuf := [] }
  if !s.doneOk p.val d.done then
    let s := clear s
    (true, (if doneDefined d.done then s.cmpRegion p.val d.done else s).raise Flt.CMP_REQ_BAD)
  else if !s.bit CMP_CTL.EN || s.cmp.stopping || (s.pickLane none).isNone then (true, (clear s).cmpFail p d none 0 0x24)
  else if !d.formOk then (true, (clear s).cmpFail p d none 0 0x20)
  else if d.src % 64 ≠ 0 ∨ 2 ^ 41 ≤ d.src ∨ d.dst % 8 ≠ 0 ∨ d.pitch % 8 ≠ 0 then (true, (clear s).cmpFail p d none 0 0x21)
  else if !s.pageUsable d.page (2 + basinOf p.val) then (true, (clear s).cmpFail p d none 0 0x22)
  else if 256 ≤ s.cmp.fifo.length then (false, s)
  else
    let s := clear s
    match s.pickLane none with
    | none => (true, s)
    | some k => (true, ({ s with cmp := { s.cmp with fifo := s.cmp.fifo ++ [(k, { who := w, desc := ws })] } } : State).cmpNext)

/-- A submission stalled for 2 µs on a full port (R178). -/
def State.cmpFull (s : State) (w : StrId) (last : Word) : State :=
  let d := readDesc (portDesc (s.str w).cmpBuf last)
  (s.setStr w { s.str w with cmpBuf := [] }).cmpFail w.pond d none 0 0x23

/-- A lane completes its request; it waits while the masks are stale (R424) or DRAM cannot answer. -/
def State.cmpComplete (s : State) (lane errs : Nat) : State :=
  match s.laneBusy lane with
  | none => s
  | some r =>
    if s.maskStale then s
    else match s.cmpRun lane r errs with
      | none => s
      | some s => (s.setLane lane none).cmpNext

/-- The job registers as they stand (Table 06-16). -/
def State.jobRegs (s : State) : JobCfg :=
  { src := (s.pair CMP_JOB_SRC_LO.SRC CMP_JOB_SRC_HI.SRC).toNat, dst := (s.pair CMP_JOB_DST_LO.DST CMP_JOB_DST_HI.DST).toNat,
    tsel := s.fld CMP_JOB_CFG.TSEL, page := s.fld CMP_JOB_CFG.PAGE, pred := s.fld CMP_JOB_CFG.PRED, bits := s.fld CMP_JOB_CFG.BITS,
    lb := s.fld CMP_JOB_CFG.LB, pat := s.fld CMP_JOB_PAT.PAT_ID, tile := s.fld CMP_JOB_TILE.TILE_NO }

/-- What the job in progress works on: the registers as they stood at its start (R40). -/
def State.jobNow (s : State) : JobCfg :=
  match s.cmp.job with
  | some j => j.cfg
  | none => s.jobRegs

/-- Report a job's end in CMP_JOB_RES (Table 06-16). -/
def State.jobEnd (s : State) (reason blen : Nat) : State :=
  let page := s.jobNow.page
  let s := { s with cmp := { s.cmp with job := none } }
  let s := (s.setFld CMP_JOB_RES.BUSY 0).setFld CMP_JOB_RES.DONE 1
  let s := ((s.setFld CMP_JOB_RES.BLEN blen).setFld CMP_JOB_RES.REASON reason).setFld CMP_JOB_RES.STATUS (cmpStatus reason)
  (s.cmpReport reason page).cmpPoint.cmpStopPoint

/-- The table mode of a COMPRESS job (R170). -/
def State.jobTable (s : State) : Nat := if s.jobNow.tsel = 15 then s.fld CMP_TBL.SEL else s.jobNow.tsel

/-- The preset table of a job in preset mode (R167). None while DRAM cannot answer. -/
def State.presetBytes (s : State) : Option (List Byte) × State :=
  if s.jobTable = 9 then
    match s.masterBytes (s.fld CMP_TBL_BASE_LO.BASE * 64 + s.fld CMP_TBL_BASE_HI.BASE * 2 ^ 32) 136 4 with
    | (none, s) => (none, s)
    | (some (b, _), s) => (some b, s)
  else (some [], s)

/-- Read the tile image of a COMPRESS job and its preset table (Table 06-6 step 1). Nothing is read while DRAM cannot answer. -/
def State.readImage (s : State) : Option (List Byte × Bool × List Byte) × State :=
  match s.masterBytes s.jobNow.src (tileH s.jobNow.lb * s.jobNow.lb) 4 with
  | (none, _) => (none, s)
  | (some (tile, ps), s') =>
    match s'.presetBytes with
    | (none, _) => (none, s)
    | (some pre, s') => (some (tile, ps.any id, pre), s')

/-- The refusal of a job by its checks (R171, R172): 0 is none. -/
def State.jobRefusal (s : State) (op use : Nat) : Nat :=
  let c := s.jobNow
  let own := s.pageUsable c.page use
  if op = 1 then
    if !lbOk c.lb || !(c.pred == 7 || predValid (elemBits c.bits) c.pred) || (decide (9 < c.tsel) && c.tsel != 15) then 0x20
    else if c.src % 8 ≠ 0 ∨ !s.strongAt c.dst then 0x21
    else if !own then 0x22 else 0
  else if c.src % 64 ≠ 0 ∨ 2 ^ 41 ≤ c.src ∨ (op = 2 ∧ (c.dst % 8 ≠ 0 ∨ 2 ^ 41 ≤ c.dst)) then 0x21
  else if !own then 0x22 else 0

/-- CMP_JOB_GO.OP written (R170, R174); while a job runs any write is ignored with CFG_REJECT (Table 06-11). A COMPRESS job reads its
tile image at once, or at its end when DRAM or the masks do not answer yet. -/
def State.jobStart (s : State) (op use : Nat) : State :=
  if s.bit CMP_JOB_RES.BUSY then s.setFld CMP_STAT.CFG_REJECT 1
  else if op = 0 then s
  else
    let s := s.setFld CMP_JOB_RES.DONE 0
    if !s.bit CMP_CTL.EN || s.cmp.stopping then s.jobEnd 0x24 0
    else match s.pickLane none with
      | none => s.jobEnd 0x24 0
      | some k =>
        let e := s.jobRefusal op use
        if e ≠ 0 then s.jobEnd e 0
        else
          let (img, s') := if op = 1 ∧ s.maskStale = false then s.readImage else (none, s)
          { s'.setFld CMP_JOB_RES.BUSY 1 with cmp := { s'.cmp with job := some { op := op, lane := k, cfg := s.jobRegs, image := img, use := use } } }

/-- How a tile was coded: predictor, static table or none for a dynamic one, its 136 bytes, and the payload. -/
structure Coded where
  pred    : Nat
  stab    : Nat
  table   : List Byte
  payload : List Byte
  deriving DecidableEq, Repr

/-- Code a tile with one predictor and a table given as lengths from the symbol counts; none when a symbol has no code. -/
def codeWith (b lb pred stab : Nat) (dyn : Bool) (lens : List Nat → List Nat) (tile : List Byte) : Option Coded :=
  let syms := unitSyms 0 (tileUnits b pred lb (tileH lb) tile)
  let l := lens (symCounts syms)
  (encodeSyms l syms).map (fun p => { pred := pred, stab := stab, table := if dyn then dynBytes l else [], payload := p })

/-- Length of a coded block in memory. -/
def Coded.len (c : Coded) : Nat := (48 + c.table.length + c.payload.length + 63) / 64 * 64

/-- Code a tile with one predictor, or with every valid one, keeping the shortest block (R170); ties go to the lower code. -/
def codeTile (b lb pred stab : Nat) (dyn : Bool) (lens : List Nat → List Nat) (tile : List Byte) : Option Coded :=
  if pred ≠ 7 then codeWith b lb pred stab dyn lens tile
  else
    ((List.range 5).filter (predValid b)).foldl (fun (best : Option Coded) k =>
      match best, codeWith b lb k stab dyn lens tile with
      | none, c => c
      | some x, some c => if c.len < x.len then some c else some x
      | some x, none => some x) none

/-- Write a block with its tag (R169, Table 06-6 steps 5 and 6). False when DRAM cannot answer. -/
def State.writeBlock (s : State) (dst page : Nat) (h : BlkHdr) (body : List Byte) : Bool × State :=
  let tag := cmac (s.pageKey page) (h.bytes ++ body)
  let blk := h.bytes ++ tag ++ body
  s.masterPut dst (blk ++ zeros (blockLen h - blk.length)) 0 4

/-- A COMPRESS job has written its block: counters and result (Table 06-6 step 6). -/
def State.blockDone (s : State) (h : BlkHdr) (reason : Nat) : State :=
  let s := s.setPair CMP_CNT_C_LO.COMPRESSED CMP_CNT_C_HI.COMPRESSED (s.pair CMP_CNT_C_LO.COMPRESSED CMP_CNT_C_HI.COMPRESSED + 1)
  let s := if h.raw then s.addWrap CMP_CNT_RAW.RAW 1 else s
  s.jobEnd reason (blockLen h)

/-- End a COMPRESS job by writing its block (Table 06-6 step 6). -/
def State.finishBlock (s : State) (h : BlkHdr) (body : List Byte) (reason : Nat) : State :=
  match s.writeBlock s.jobNow.dst s.jobNow.page h body with
  | (false, s) => s
  | (true, s) => s.blockDone h reason

/-- The header of a tile stored RAW. DESIGN CHOICE (assumption 121): its FALLBACK flag is 0, also where FBST was tried before. -/
def rawHdr (bits lb pat tile : Nat) (crc : Word32) (vfail : Bool) : BlkHdr :=
  { raw := true, dyn := false, fallback := false, vfail := vfail, pred := 0, bits := bits, stab := 0, lb := lb,
    plen := tileH lb * lb, crc := crc, pat := pat, tile := tile }

/-- Code a tile as the job registers say (Table 06-6): `pre` holds the preset table, `mism` verification mismatches occur, and `given`
is the dynamic table a lane built. The answer is the block's header, what follows it, and the reason; none when no code covers it. -/
def State.codeJob (s : State) (lane mism : Nat) (given : List Nat) (tile pre : List Byte) : Option (BlkHdr × List Byte × Nat) × State :=
  let lb := s.jobNow.lb
  let bits := s.jobNow.bits
  let want := s.jobNow.pred
  let b := elemBits bits
  let n := tileH lb * lb
  let mode := s.jobTable
  let fb := s.fld CMP_CTL.FBST
  let pat := s.jobNow.pat
  let tno := s.jobNow.tile
  let crc := crc32c tile
  let preset := dynLens pre
  let bad := mode == 9 && preset.isNone
  let s := if bad then s.raise Flt.CMP_PRESET_BAD else s
  let first :=
    if mode = 8 then codeTile b lb want 0 true (fun c => laneLens c given) tile
    else if mode = 9 ∧ !bad then codeTile b lb want 0 true (fun _ => preset.getD []) tile
    else
      let t := if bad then fb else mode
      codeTile b lb want t false (fun _ => staticTable t) tile
  let big (c : Option Coded) : Bool := match c with
    | none => true
    | some c => decide (n ≤ c.table.length + c.payload.length)
  let hdr (c : Coded) (f : Bool) : BlkHdr :=
    { raw := false, dyn := !c.table.isEmpty, fallback := f, vfail := false, pred := c.pred, bits := bits, stab := c.stab,
      lb := lb, plen := c.payload.length, crc := crc, pat := pat, tile := tno }
  let raw (v : Bool) : Option (BlkHdr × List Byte × Nat) := some (rawHdr bits lb pat tno crc v, tile, if v then 3 else 1)
  if big first then (raw false, s)
  else match first with
    | none => (none, s)
    | some c =>
      if mism = 0 then (some (hdr c bad, c.table ++ c.payload, if bad then 2 else 0), s)
      else
        let s := (s.addSat CMP_CNT_VMIS.VMIS 1).raise Flt.CMP_VMIS1
        let second := codeWith b lb c.pred fb false (fun _ => staticTable fb) tile
        if big second then (raw false, s)
        else match second with
          | none => (none, s)
          | some c =>
            if mism = 1 then (some (hdr c true, c.payload, 2), s)
            else (raw true, (s.addSat CMP_CNT_VMIS.VMIS 1).laneFault lane Flt.CMP_VMIS2)

/-- A COMPRESS job (Table 06-6): `mism` verification mismatches occur, and `given` is the dynamic table a lane built. -/
def State.jobCompress (s : State) (lane mism : Nat) (given : List Nat) : State :=
  let (img, s) := match s.cmp.job.bind (·.image) with
    | some x => (some x, s)
    | none => s.readImage
  match img with
  | none => s
  | some (tile, poisoned, pre) =>
    if poisoned then s.jobEnd 0x11 0
    else match s.codeJob lane mism given tile pre with
      | (none, s) => s
      | (some (h, body, reason), s) => s.finishBlock h body reason

/-- Read and check the block that the job registers name (Table 06-8 steps 2 to 5): the reason and the block. None while DRAM cannot
answer. -/
def State.checkBlock (s : State) (lane errs : Nat) : Option (Nat × BlkRead) × State :=
  match s.readBlock s.jobNow.src s.jobNow.page s.jobNow.pat s.jobNow.tile with
  | (none, s) => (none, s)
  | (some b, s) =>
    if b.reason ≠ 0 then (some (b.reason, b), s)
    else
      let (r, _, _, s) := s.crcCheck b lane errs
      (some (r, b), s)

/-- A DECOMPRESS or VERIFY job (Table 06-8 with the differences given after Table 06-16). -/
def State.jobDecompress (s : State) (op lane errs : Nat) : State :=
  match s.checkBlock lane errs with
  | (none, _) => s
  | (some (reason, b), s) =>
    let n := match b.hdr with
      | none => 0
      | some h => tileH h.lb * h.lb
    if op ≠ 2 then s.jobEnd reason 0
    else match s.masterPut s.jobNow.dst (if reason = 0 then b.tile else zeros n) 0 4 with
      | (false, _) => s
      | (true, s) => s.jobEnd reason 0

/-- A job completes (R170, R174); it waits while the masks are stale (R424). -/
def State.jobComplete (s : State) (mism : Nat) (given : List Nat) : State :=
  match s.cmp.job with
  | none => s
  | some j =>
    if s.maskStale then s
    else if j.op = 1 then s.jobCompress j.lane.val mism given
    else s.jobDecompress j.op j.lane.val mism

/-- A lane is fenced (R180): its requests go to the other lanes in their order, the one in progress first; with no lane left
they end with DISABLED. -/
def State.fenceLane (s : State) (k : Nat) : State :=
  let s := ((s.setFld (laneFencedFld k) 1).markBit Flt.CMP_LANE_DOWN)
  let s := { s with cmp := { s.cmp with laneOff := s.cmp.laneOff &&& ~~~(BitVec.ofNat 4 (2 ^ k)) } }
  let cur := s.laneBusy k
  let mine := (cur.toList) ++ (s.cmp.fifo.filter (fun e => e.1.val == k)).map (·.2)
  let s := s.setLane k none
  let s := { s with cmp := { s.cmp with fifo := s.cmp.fifo.filter (fun e => e.1.val != k) } }
  let s := match s.cmp.job with
    | some j =>
      if j.lane.val = k then
        match s.pickLane none with
        | some k' => { s with cmp := { s.cmp with job := some { j with lane := k' } } }
        | none => s.jobEnd 0x24 0
      else s
    | none => s
  let s := mine.foldl (fun s r =>
    match s.pickLane none with
    | some k' => { s with cmp := { s.cmp with fifo := s.cmp.fifo ++ [(k', r)] } }
    | none => s.cmpFail r.who.pond (readDesc r.desc) none k 0x24) s
  s.cmpNext

/-- CMP_CTL.EN written (R182, R180): 1 returns fenced lanes whose LANE_EN was cleared and set again. -/
def State.cmpEnable (s : State) (en : Bool) : State :=
  if en then
    let s := { s with cmp := { s.cmp with stopping := false } }
    if s.bit CMP_CTL.EN then s
    else
      let s := s.setFld CMP_CTL.EN 1
      (upTo 4).foldl (fun s k =>
        if s.laneFenced k && s.cmp.laneOff.getLsbD k && Nat.testBit (s.fld CMP_CTL.LANE_EN) k then
          { s.setFld (laneFencedFld k) 0 with cmp := { s.cmp with laneOff := s.cmp.laneOff &&& ~~~(BitVec.ofNat 4 (2 ^ k)) } }
        else s) s
  else if s.bit CMP_CTL.EN then { s with cmp := { s.cmp with stopping := true } }.cmpStopPoint
  else s

/-- LANE_EN bits written 0 are remembered for fenced lanes (R180). -/
def State.laneEnWritten (s : State) : State :=
  { s with cmp := { s.cmp with laneOff := s.cmp.laneOff ||| (~~~(BitVec.ofNat 4 (s.fld CMP_CTL.LANE_EN)) &&&
      BitVec.ofNat 4 ((upTo 4).foldl (fun n k => n + if s.laneFenced k then 2 ^ k else 0) 0)) } }

end Sys2Proof.Machine
end

