-- ==== Sys2Proof/Machine/Axes.lean ====
section
/-!
DEFINITION. Machine angle (R64 to R74): angle ports, axis trackers, their predictions and queries. Angles are held as
integers of 2^-32 revolution (the revolution count is taken modulo 2^32 where it is shown or compared, R64), velocities in
these units per tick, exactly.
-/

namespace Sys2Proof.Machine

/-- One revolution in fraction units. -/
def oneRev : Int := 2 ^ 32

/-- Nearest integer (a half goes up). -/
def ratRound (q : Rat) : Int := (q + 1 / 2).floor

/-- The integer nearest to a quotient. -/
def roundDiv (a : Int) (b : Nat) : Int := ratRound ((a : Rat) / (b : Rat))

def Meas.plc (m : Meas) : Plc := Sys2Proof.Machine.plc m.dt m.fine.val

/-- A difference of placement times in ticks. -/
def plcTicks (a b : Plc) : Rat := (plcDiff a b : Rat) / 8

/-- The 64-bit machine angle (R64). -/
def ma64 (x : Int) : Word := BitVec.ofInt 64 x

/-- Reading of a fraction of revolutions as the nearest multiple: the whole revolution nearest to an angle; exactly half way,
the one in the direction of motion (R66). -/
def nearestRev (ma : Int) (forward : Bool) : Int :=
  let q := ma / oneRev
  let r := ma % oneRev
  if r < 2 ^ 31 then q else if 2 ^ 31 < r then q + 1 else if forward then q + 1 else q

/-- The velocity in force: that of the newest measurement (R70). -/
def AxisSt.vel (a : AxisSt) : Rat :=
  match a.meas with
  | [] => 0
  | m :: _ => m.vel.getD 0

/-- The horizon of R71 in ticks; none is unlimited. -/
def horizon (accm : Nat) : Option Rat :=
  if accm = 0 then some 0 else if accm = 1 then some 3000000 else if accm = 2 then some 30000000 else none

/-- Velocity and acceleration as R71 limits them at `now`: an overdue count bounds the speed. -/
def AxisSt.limited (a : AxisSt) (cpr : Nat) (now : Plc) : Rat × Rat :=
  match a.meas with
  | [] => (0, 0)
  | m :: rest =>
    let v := m.vel.getD 0
    let acc := a.acc
    let since := plcTicks now m.plc
    let dte := match rest with
      | [] => 0
      | p :: _ => plcTicks m.plc p.plc
    if dte < since ∧ cpr ≠ 0 then
      let lim := ((oneRev : Rat) / cpr) / since
      let v' := if 0 < v then min v lim else if v < 0 then max v (-lim) else 0
      (v', if 0 < acc * v' then 0 else acc)
    else (v, acc)

/-- The model of R71 without its clamp: MA at `t` after the last measurement, exactly. -/
def AxisSt.model (a : AxisSt) (cpr accm : Nat) (now t : Plc) : Rat :=
  match a.meas with
  | [] => a.maHeld
  | m :: _ =>
    let (v, acc) := a.limited cpr now
    let d := plcTicks t m.plc
    let ta := match horizon accm with
      | none => d
      | some h => min d h
    (m.ma : Rat) + v * ta + acc * ta * ta / 2 + (v + acc * ta) * (d - ta)

/-- The prediction of R71, with the clamp of a time not after `now`. -/
def AxisSt.predict (a : AxisSt) (cpr accm : Nat) (now t : Plc) : Int :=
  match a.meas with
  | [] => a.maHeld
  | m :: _ =>
    let x := a.model cpr accm now t
    let x := if plcDiff t now ≤ 0 ∧ cpr ≠ 0 then
        let one := (oneRev : Rat) / cpr
        max ((m.ma : Rat) - one) (min ((m.ma : Rat) + one) x)
      else x
    x.floor

/-- Linear interpolation between the two bracketing measurements among the last 64 (R72). -/
def interpolate : List Meas → Plc → Option Int
  | b :: a :: rest, t =>
    if 0 ≤ plcDiff t a.plc then
      if plcDiff b.plc a.plc = 0 then some b.ma
      else some ((a.ma : Rat) + ((b.ma - a.ma : Int) : Rat) * plcTicks t a.plc / plcTicks b.plc a.plc).floor
    else interpolate (a :: rest) t
  | _, _ => none

/-- The tracker's estimate of MA now. -/
def State.maNow (s : State) (n : Nat) (now : Plc) : Int :=
  let a := s.axis n
  if s.fld (AX_STAT.STATE n) = 2 then a.predict (s.fld (AX_CPR.CPR n)) (s.fld (AX_CTL.ACCM n)) now now else a.maHeld

/-- MA at DT.f (R72). -/
def State.maAt (s : State) (n : Nat) (t : Plc) : Option Int :=
  let a := s.axis n
  match s.fld (AX_STAT.STATE n) with
  | 2 =>
    match a.meas with
    | [] => none
    | m :: _ =>
      if 0 ≤ plcDiff t m.plc then
        some (a.predict (s.fld (AX_CPR.CPR n)) (s.fld (AX_CTL.ACCM n)) (plc s.dt 0) t)
      else interpolate (a.meas.take 64) t
  | 3 => some a.maHeld
  | _ => none

/-- The answer of a tracker to "DT.f at MA" (R72). -/
inductive TrkAns where
  | future (t : Plc) | past | none
  deriving DecidableEq, Repr

/-- The least number of half fine ticks up to a bound at which a monotone test holds, by bisection of `k` bits. -/
def leastFrom (p : Nat → Bool) : Nat → Nat → Nat
  | 0, base => base
  | k + 1, base => if p (base + 2 ^ k - 1) then leastFrom p k base else leastFrom p k (base + 2 ^ k)

/-- DT.f at MA (R72): the first placement time after now at which the prediction reaches the target, to the nearest fine
tick. The prediction is monotone up to its turning point, which bounds the search, as do 2^40 ticks. -/
def State.dtAt (s : State) (n : Nat) (target : Word) : TrkAns :=
  let a := s.axis n
  let cpr := s.fld (AX_CPR.CPR n)
  let accm := s.fld (AX_CTL.ACCM n)
  let now := plc s.dt 0
  if s.fld (AX_STAT.STATE n) ≠ 2 then .none
  else match a.meas with
  | [] => .none
  | m :: _ =>
    let (v, acc) := a.limited cpr now
    if v = 0 then .none
    else
      let here := a.model cpr accm now now
      let dist : Rat := (((target - ma64 here.floor).toInt : Int) : Rat) - (here - here.floor)
      if (0 < v ∧ dist ≤ 0) ∨ (v < 0 ∧ 0 ≤ dist) then .past
      else
        let turn : Option Rat :=
          if acc * v < 0 then
            let tt := -v / acc
            match horizon accm with
            | none => some tt
            | some h => if tt ≤ h then some tt else none
          else none
        let elapsed := plcTicks now m.plc
        let bound : Rat := match turn with
          | none => 2 ^ 40
          | some tt => min (2 ^ 40) (tt - elapsed)
        -- offsets are counted in sixteenths of a tick: half fine ticks
        let maxK : Nat := (bound * 16).floor.toNat
        let at16 (k : Nat) : Rat := (elapsed + (k : Rat) / 16)
        let pos (k : Nat) : Rat :=
          let d := at16 k
          let ta := match horizon accm with
            | none => d
            | some h => min d h
          (m.ma : Rat) + v * ta + acc * ta * ta / 2 + (v + acc * ta) * (d - ta) - here
        let reached (k : Nat) : Bool :=
          let k := min k maxK
          if 0 < v then decide (dist ≤ pos k) else decide (pos k ≤ dist)
        if !reached maxK then .none
        else
          let half := leastFrom reached 45 0
          -- the crossing lies in the half fine tick that ends at `half`: the nearest fine tick
          let k := half / 2
          .future (now + BitVec.ofNat 67 (max 1 k))

/-- Publish an update (R70) of the position `ma`: on the interpolation grid, with velocity, direction, and OVERSPEED once per
excursion. -/
def State.publish (s : State) (n : Nat) (now : Plc) (ma : Int) : State :=
  let a := s.axis n
  let cpr := s.fld (AX_CPR.CPR n)
  let v : Rat := if s.fld (AX_STAT.STATE n) = 2 then (a.limited cpr now).1 else 0
  let steps : Nat := cpr * 2 ^ s.fld (AX_CTL.SHIFT n)
  let pos : Int := if steps = 0 then ma else (((ma * (steps : Int) / oneRev) : Int) * oneRev) / (steps : Int)
  let s := s.setPair (AX_POS_LO.V n) (AX_POS_HI.V n) (ma64 pos)
  let s := (s.setSFld (AX_VEL.V n) (ratRound (v * 65536))).setBit (AX_STAT.REV n) (decide (v < 0))
  let fast : Bool := decide (3000000000 * (max v (-v)) > 210 * (oneRev : Rat))
  let was := a.overspeed
  let s := s.setAxis n { s.axis n with overspeed := fast, updatedAt := now.tick, rev := ma / oneRev }
  if fast && !was then s.raise (Flt.AX_OVERSPEED n) else s

/-- The check of the axis commit group (Table 02-5, with the SHIFT encodings of Table 03-22). -/
def State.axisCheck (n : Nat) (s : State) : Bool :=
  decide (s.fld (AX_CPR.CPR n) ≠ 0 ∧ s.fld (AX_CPR.CPR n) * 2 ^ s.fld (AX_CTL.SHIFT n) ≤ 2 ^ 32 ∧ s.fld (AX_CTL.SHIFT n) ≤ 12)

/-- The count of the tracker's source in the sense of DIR. -/
def State.signedCount (s : State) (n : Nat) (c : Int) : Int := if s.bit (AX_CTL.DIR n) then -c else c

/-- The commit point of an axis group (R73): at the apply the velocity window restarts and MA is kept. -/
def State.axisPoint (s : State) (n : Nat) : State :=
  let ma := s.maNow n (plc s.dt 0)
  let dir := s.bit (AX_CTL.DIR n)
  let (s, applied) := s.commitGroup DEV_CFGMODE.IMM_AXIS (AX_CTL.COMMIT n)
    [AX_CPR.CPR n, AX_CTL.DIR n, AX_CTL.SHIFT n] (State.axisCheck n)
  if applied then
    let a := s.axis n
    let last := if dir == s.bit (AX_CTL.DIR n) then a.lastCount else -a.lastCount
    s.setAxis n { a with winCount := min 1 a.winCount, acc := 0, lastCount := last, baseCount := last, baseMa := ma, maHeld := ma }
  else s

/-- Has the source of a tracker an index (R66)? -/
def State.hasIndex (s : State) (n : Nat) : Bool :=
  !s.bit (AX_CTL.SRCT n) && s.fld (AP_CTL.MODE (s.fld (AX_CTL.SRCI n) % 8)) == 0

/-- An update of a tracker to the position `ma` (R70); a change of the published revolution is the commit point of an axis whose
source has no index (R43, R73, Table 02-4). -/
def State.update (s : State) (n : Nat) (ma : Int) : State :=
  let was := (s.axis n).rev
  let s := s.publish n (plc s.dt 0) ma
  if !s.hasIndex n && was != ma / oneRev then s.axisPoint n else s

/-- Is the write of COMMIT itself the commit point (R73)? -/
def State.axisNow (s : State) (n : Nat) : Bool := !s.bit (AX_CTL.EN n) || s.fld (AX_CPR.CPR n) == 0

/-- A write of 1 to AX_CTL.COMMIT (R44, R73). -/
def State.axisCommit (s : State) (n : Nat) : State :=
  let now := s.axisNow n
  let s := s.setFld (AX_CTL.COMMIT n) 1
  if now then s.axisPoint n else s

/-- A tracker is LOST, which its sticky bit says (Table 03-4). -/
def State.axisLost (s : State) (n : Nat) : State :=
  if s.bit (AX_CTL.EN n) then
    let ma := s.maNow n (plc s.dt 0)
    let s := s.markBit (Flt.AX_LOST n)
    (s.setFld (AX_STAT.STATE n) 4).setAxis n { s.axis n with srcLostAt := none, winCount := 0, acc := 0, maHeld := ma }
  else s

/-- AX_CTL.EN written (R69): enabling starts ACQUIRING with the source's count as it stands; disabling ends in DISABLED at
once. -/
def State.axisEnable (s : State) (n : Nat) (en : Bool) : State :=
  if en == s.bit (AX_CTL.EN n) then s
  else if en then
    let c : Int := if s.bit (AX_CTL.SRCT n) then 0 else s.signedCount n (s.sfld (AP_CNT.V (s.fld (AX_CTL.SRCI n) % 8)))
    ((s.setFld (AX_CTL.EN n) 1).setFld (AX_STAT.STATE n) 1).setAxis n
      { AxisSt.init with lastCount := c, lastChange := s.dt, lastReport := s.dt }
  else
    ((s.setFld (AX_CTL.EN n) 0).setFld (AX_STAT.STATE n) 0).setAxis n AxisSt.init

/-- Velocity and acceleration at a new measurement of angle `ma` (R70): over the last 2^VWIN intervals, or as many as were
made since enable, standstill or commit. -/
def AxisSt.derive (a : AxisSt) (vwin : Nat) (ma : Int) (t : Plc) : Option Rat × Rat :=
  let k := min (2 ^ vwin) a.winCount
  if k = 0 then (none, 0)
  else
    match a.meas[k - 1]? with
    | none => (none, 0)
    | some o =>
      let dtk := plcTicks t o.plc
      if dtk = 0 then ((match a.meas with | m :: _ => m.vel | [] => none), a.acc)
      else
        let v := ((ma - o.ma : Int) : Rat) / dtk
        let older := (a.meas.take k).reverse.find? (fun m => m.vel.isSome)
        match older with
        | none => (some v, 0)
        | some o' =>
          let d' := plcTicks t o'.plc
          (some v, if d' = 0 then 0 else (v - o'.vel.getD 0) / d')

/-- Store a measurement and publish its angle (R70). -/
def State.storeMeas (s : State) (n : Nat) (ma : Int) (t : Plc) : State :=
  let a := s.axis n
  let (v, acc) := a.derive (s.fld (AX_CTL.VWIN n)) ma t
  let m : Meas := { ma := ma, dt := t.tick, fine := Fin.ofNat 8 t.fine, vel := v }
  let s := s.setAxis n { a with meas := (m :: a.meas).take 130, winCount := min 129 (a.winCount + 1), acc := acc, maHeld := ma, started := true }
  s.update n ma

/-- The angle of a count by the tracker's base (R68). -/
def State.angleOf (s : State) (n : Nat) (c : Int) : Int :=
  let a := s.axis n
  let cpr := s.fld (AX_CPR.CPR n)
  if cpr = 0 then a.baseMa else a.baseMa + roundDiv ((c - a.baseCount) * oneRev) cpr

/-- A measurement of an enabled tracker at angle `ma` with source count `c` (R69, R70): in ACQUIRING it enters TRACKING, in
STANDSTILL the second one does. -/
def State.measure (s : State) (n : Nat) (c ma : Int) (t : Plc) : State :=
  let a := s.axis n
  let changed := c != a.lastCount
  let a := { a with lastCount := c, lastChange := if changed then s.dt else a.lastChange }
  let s := s.setAxis n a
  match s.fld (AX_STAT.STATE n) with
  | 2 =>
    s.storeMeas n ma t
  | 3 =>
    if !changed then s
    else
      let second := decide (1 ≤ a.winCount)
      let s := if second then s.setFld (AX_STAT.STATE n) 2 else s
      s.storeMeas n ma t
  | 1 => (s.setFld (AX_STAT.STATE n) 2).storeMeas n ma t
  | _ => s

/-- Does tracker `n` take angle port `m`? -/
def State.consumes (s : State) (n m : Nat) : Bool :=
  s.bit (AX_CTL.EN n) && !s.bit (AX_CTL.SRCT n) && s.fld (AX_CTL.SRCI n) == m

/-- A counted edge reaches a tracker: in mode A/B/Z nothing is measured before the first index (Table 03-3); while CPR is 0
nothing is measured (R73). -/
def State.edgeTo (s : State) (n m : Nat) (up : Bool) (t : Plc) : State :=
  let a := s.axis n
  let d : Int := if up == s.bit (AX_CTL.DIR n) then -1 else 1
  let c := a.lastCount + d
  let indexed := s.fld (AP_CTL.MODE m) == 0
  if s.fld (AX_CPR.CPR n) = 0 then s.setAxis n { a with lastCount := c, lastChange := s.dt }
  else if s.fld (AX_STAT.STATE n) = 1 then
    if indexed then s.setAxis n { a with lastCount := c, lastChange := s.dt }
    else
      -- revolution 0 is the one at enable: the count then held stands for it
      let cpr : Int := s.fld (AX_CPR.CPR n)
      let s := s.setAxis n { a with baseCount := a.lastCount / cpr * cpr, baseMa := 0 }
      s.measure n c (s.angleOf n c) t
  else s.measure n c (s.angleOf n c) t

/-- Filter lengths in ticks (Table 03-25). -/
def filterTicks (v : Nat) : Nat := [0, 15, 30, 60, 120, 240, 480, 960].getD v 0

/-- The placement time at the ball of an event that the filter passes now (R65). -/
def State.stamp (s : State) (m : Nat) (fine : Fin 8) : Plc :=
  plc s.dt fine.val - BitVec.ofNat 67 (8 * filterTicks (s.fld (AP_CTL.FILT m)))

/-- Is a port enabled in a quadrature mode? -/
def State.quadPort (s : State) (m : Nat) : Bool := s.bit (AP_CTL.EN m) && decide (s.fld (AP_CTL.MODE m) ≤ 1)

/-- What the quadrature inputs do (R65). The live levels of the pins after it are whatever they are. -/
def State.quadEdge (s : State) (m : Nat) (k : QuadKind) (fine : Fin 8) : State :=
  if !s.quadPort m then s
  else
    let (x, s) := s.fresh
    let s := s.setAport m { s.aport m with pins := BitVec.ofNat 3 (Config.free x) }
    match k with
    | .short => s
    | .illegal => s.raise (Flt.AP_QERR m)
    | _ =>
      let up := k == .up
      let t := s.stamp m fine
      let s := s.setSFld (AP_CNT.V m) (s.sfld (AP_CNT.V m) + (if up then 1 else -1))
      let s := match (s.aport m).lastEdge with
        | some (d, f) => if plcDiff t (plc d f.val) < 1200 then s.raise (Flt.AP_RATE m) else s
        | none => s
      let s := s.setAport m { s.aport m with lastEdge := some (t.tick, Fin.ofNat 8 t.fine) }
      (upTo 16).foldl (fun s n => if s.consumes n m then s.edgeTo n m up t else s) s

/-- An index reaches a tracker (R66, R74). -/
def State.indexTo (s : State) (n : Nat) (t : Plc) : State :=
  let a := s.axis n
  let cpr := s.fld (AX_CPR.CPR n)
  if cpr = 0 then s
  else match s.fld (AX_STAT.STATE n) with
  | 1 =>
    let s := s.setAxis n { a with baseCount := a.lastCount, baseMa := 0 }
    let s := (s.setFld (AX_STAT.STATE n) 2).storeMeas n 0 t
    s.axisPoint n
  | 0 | 4 => s
  | st =>
    let ma := s.maNow n t
    let rev := nearestRev ma (decide (0 ≤ a.vel))
    let whole := rev * oneRev
    let due := a.baseCount + roundDiv ((whole - a.baseMa) * cpr) (2 ^ 32)
    let diff := a.lastCount - due
    let top : Int := match a.meas with
      | m :: _ => if st = 2 then m.ma else a.maHeld
      | [] => a.maHeld
    let shift := whole - top
    let s := s.setAxis n { a with baseCount := a.lastCount, baseMa := whole, maHeld := whole,
                                  meas := a.meas.map (fun m => { m with ma := m.ma + shift }) }
    let s := s.publish n (plc s.dt 0) whole
    let s :=
      if diff ≠ 0 then
        let s := s.setSFld (AX_STAT.ZDIFF n) (max (-128) (min 127 diff))
        s.raiseAs (Flt.AX_ZMIS n) (if diff.natAbs ≤ 1 then Cls.c else Cls.r) 0 0 0
      else s
    s.axisPoint n

/-- An index edge of a port in mode A/B/Z (R66); in mode A/B the port ignores Z. -/
def State.portIndex (s : State) (m : Nat) (fine : Fin 8) : State :=
  if !(s.bit (AP_CTL.EN m) && s.fld (AP_CTL.MODE m) == 0) then s
  else
    let t := s.stamp m fine
    let s := s.setPair (AP_ZCAP_LO.V m) (AP_ZCAP_HI.V m) t.tick
    let s := s.captureEvent (m + 1) t.tick t.fine
    (upTo 16).foldl (fun s n => if s.consumes n m then s.indexTo n t else s) s

/-- A poll of an SSI port (R67): a line that is not high defers the frame once, then sets SSIERR. -/
def State.ssiPollOp (s : State) (m : Nat) (high : Bool) (fine : Fin 8) : State :=
  if !(s.bit (AP_CTL.EN m) && decide (2 ≤ s.fld (AP_CTL.MODE m))) then s
  else
    let p := s.aport m
    let p := { p with pins := if high then 2 else 0 }
    if high then s.setAport m { p with deferred := false, frameAt := some (s.dt, fine) }
    else if p.deferred then (s.setAport m { p with deferred := false }).raise (Flt.AP_SSIERR m)
    else s.setAport m { p with deferred := true }

/-- Gray code to binary. -/
def grayToBin : Nat → Nat → Nat
  | 0, g => g
  | k + 1, g => g ^^^ grayToBin k (g / 2)

/-- A sample of an absolute source reaches a tracker: its fraction fixes the angle, the revolution is the one nearest to the
tracker's own MA. -/
def State.absAngle (s : State) (n : Nat) (c : Int) (now : Plc) : Int :=
  let cpr := s.fld (AX_CPR.CPR n)
  let frac := roundDiv (c * oneRev) cpr
  if s.fld (AX_STAT.STATE n) = 1 then frac % oneRev
  else
    let ma := s.maNow n now
    frac + oneRev * roundDiv (ma - frac) (2 ^ 32)

/-- An SSI sample reaches a tracker (R67, R74): whether it was accepted. -/
def State.ssiTo (s : State) (n m v : Nat) (t : Plc) : State × Bool :=
  let cpr := s.fld (AX_CPR.CPR n)
  if cpr = 0 then (s, true)
  else if cpr ≤ v then (s.raise (Flt.AP_SSIERR m), false)
  else
    let c := s.signedCount n v
    let st := s.fld (AX_STAT.STATE n)
    let ma := s.absAngle n c t
    let a := s.axis n
    let off := (ma - s.maNow n t).natAbs
    if (st = 2 ∨ st = 3) ∧ 2 ^ 28 < off then
      let s := (s.raise (Flt.AP_JUMP m)).setAxis n { a with jumps := a.jumps + 1 }
      if 4 ≤ a.jumps + 1 then ((s.raise (Flt.AX_LOST n)).axisLost n, false) else (s, false)
    else
      let s := s.setAxis n { a with jumps := 0 }
      (s.measure n c ma t, true)

/-- A finished SSI frame (R67): Gray decoding, the single-turn value, the sample latch, then each consuming tracker. -/
def State.ssiDone (s : State) (m : Nat) (raw : Nat) : State :=
  match (s.aport m).frameAt with
  | none => s
  | some (d, f) =>
    if !(s.bit (AP_CTL.EN m) && decide (2 ≤ s.fld (AP_CTL.MODE m))) then s
    else
      let bits := s.fld (AP_CTL.SSI_BITS m)
      let w := raw % 2 ^ bits
      let b := if s.fld (AP_CTL.MODE m) = 3 then grayToBin bits w else w
      let v := b % 2 ^ s.fld (AP_CTL.SSI_ST m)
      let t := plc d f.val
      let s := s.setAport m { s.aport m with frameAt := none }
      let s := s.setPair (AP_ZCAP_LO.V m) (AP_ZCAP_HI.V m) d
      let s := s.captureEvent (m + 1) d f.val
      let (s, ok) := (upTo 16).foldl (fun (r : State × Bool) n =>
        if r.1.consumes n m then
          let (s, ok) := r.1.ssiTo n m v t
          (s, r.2 && ok)
        else r) (s, true)
      if ok then s.setFld (AP_CNT.V m) v else s

/-- An ANGLE record reaches a tracker (R68, R146): a count and the placement time at which the partner took it. -/
def State.angleTo (s : State) (n : Nat) (count : Int) (t : Plc) : State :=
  let a := s.axis n
  let cpr := s.fld (AX_CPR.CPR n)
  let s := s.setAxis n { a with lastReport := s.dt, srcLostAt := none }
  if cpr = 0 then s
  else
    let c := s.signedCount n count
    if s.fld (AX_STAT.STATE n) = 1 then
      let s := s.setAxis n { s.axis n with baseCount := c / (cpr : Int) * cpr, baseMa := 0 }
      s.measure n c (s.angleOf n c) t
    else s.measure n c (s.angleOf n c) t

/-- The update by prediction at a DT that is a multiple of 3,000 ticks (R70); also the commit point of the angle ports,
which hold no RWL field. -/
def State.trackerTick (s : State) (n : Nat) : State :=
  if s.dt.toNat % 3000 = 0 ∧ s.bit (AX_CTL.EN n) ∧ (s.fld (AX_STAT.STATE n) = 2 ∨ s.fld (AX_STAT.STATE n) = 3) then
    s.update n (s.maNow n (plc s.dt 0))
  else s

/-- No change of count for 100 ms (Table 03-3). -/
def State.standstill (s : State) (n : Nat) : State :=
  let a := s.axis n
  if s.fld (AX_STAT.STATE n) = 2 ∧ elapsed s.dt a.lastChange 300000000 then
    let ma := s.maNow n (plc s.dt 0)
    let s := (s.setFld (AX_STAT.STATE n) 3).setAxis n { a with maHeld := ma, acc := 0, winCount := 0 }
    s.update n ma
  else s

/-- The ANGLE source of a tracker is silent or its channel is down (R74). -/
def State.srcLost (s : State) (n : Nat) : State :=
  let a := s.axis n
  if a.srcLostAt.isSome then s
  else (s.setAxis n { a with srcLostAt := some s.dt }).raise (Flt.AX_SRCLOST n)

/-- Is a tracker fed by ANGLE frames, whether the shaft moves or rests (Table 03-4)? -/
def State.angleFed (s : State) (n : Nat) : Bool :=
  s.bit (AX_CTL.EN n) && s.bit (AX_CTL.SRCT n) && decide (1 ≤ s.fld (AX_STAT.STATE n) ∧ s.fld (AX_STAT.STATE n) ≤ 3)

/-- 100 µs without a report (R74). -/
def State.srcLostCheck (s : State) (n : Nat) : State :=
  if s.angleFed n && elapsed s.dt (s.axis n).lastReport 300000 then s.srcLost n else s

/-- SRCLOST unresolved for 1 ms (R74). -/
def State.srcLostEnd (s : State) (n : Nat) : State :=
  match (s.axis n).srcLostAt with
  | none => s
  | some t => if s.angleFed n && elapsed s.dt t 3000000 then (s.raise (Flt.AX_LOST n)).axisLost n else s

end Sys2Proof.Machine
end

