-- ==== Sys2Proof/Machine/Weirs.lean ====
section
/-!
DEFINITION. Actuation transactions and weirs (R83 to R114, R520): the ADT and DPT and their window, acceptance, conversion,
deadlines and late policies, launch decisions, VERIFY, trim learning, reports, slack and SPEED_LIMIT.
-/

namespace Sys2Proof.Machine

/-- The field of `w` bits from bit `lo` of a table entry. -/
def getE {n : Nat} (e : BitVec n) (f : Nat × Nat) : Nat := e.toNat / 2 ^ f.1 % 2 ^ f.2

/-- Overwrite that field. -/
def putE {n : Nat} (e : BitVec n) (f : Nat × Nat) (v : Nat) : BitVec n :=
  BitVec.ofNat n (e.toNat - getE e f * 2 ^ f.1 + v % 2 ^ f.2 * 2 ^ f.1)

/-- Two's complement reading of a field. -/
def getSE {n : Nat} (e : BitVec n) (f : Nat × Nat) : Int := signed f.2 (getE e f)

/-- Add to a counter field, saturating. -/
def incSat {n : Nat} (e : BitVec n) (f : Nat × Nat) : BitVec n := putE e f (min (getE e f + 1) (2 ^ f.2 - 1))

/-- Add to a counter field, wrapping. -/
def incWrap {n : Nat} (e : BitVec n) (f : Nat × Nat) : BitVec n := putE e f (getE e f + 1)

-- ADT entry (Table 04-2): low bit and width
def ADT.CHAN : Nat × Nat := (0, 7)
def ADT.VALID : Nat × Nat := (7, 1)
def ADT.PADDR : Nat × Nat := (8, 10)
def ADT.PROFILE : Nat × Nat := (18, 12)
def ADT.LEARN : Nat × Nat := (30, 1)
def ADT.TRIM : Nat × Nat := (32, 48)
def ADT.NOFLIGHT_CNT : Nat × Nat := (80, 16)
def ADT.VERIFY_CNT : Nat × Nat := (96, 32)
def ADT.LAST_FLIGHT : Nat × Nat := (128, 32)
def ADT.LAST_ERR : Nat × Nat := (160, 32)
def ADT.LATE_CNT : Nat × Nat := (192, 16)
def ADT.REISSUE_CNT : Nat × Nat := (208, 16)
def ADT.LAST_DS : Nat × Nat := (224, 32)

-- DPT entry (Table 04-3)
def DPT.VALID : Nat × Nat := (0, 1)
def DPT.LEARN_EN : Nat × Nat := (1, 1)
def DPT.DMODE : Nat × Nat := (8, 8)
def DPT.LEAD_ADJ : Nat × Nat := (32, 32)
def DPT.TRIM_LIM : Nat × Nat := (64, 32)
def DPT.FLIGHT_MIN : Nat × Nat := (96, 32)
def DPT.FLIGHT_MAX : Nat × Nat := (128, 32)
def DPT.MIN_GAP : Nat × Nat := (160, 32)
def DPT.BOOST_T : Nat × Nat := (192, 16)
def DPT.BOOST_LVL : Nat × Nat := (208, 8)
def DPT.HOLD_LVL : Nat × Nat := (216, 8)
def DPT.HOLD_T : Nat × Nat := (224, 16)
def DPT.RELEASE : Nat × Nat := (240, 8)
def DPT.USE_CNT : Nat × Nat := (256, 32)
def DPT.NOFLIGHT_CNT : Nat × Nat := (288, 32)
def DPT.LATE_CNT : Nat × Nat := (320, 32)
def DPT.TRIMSAT_CNT : Nat × Nat := (352, 32)

def State.adtE (s : State) (i : Nat) : BitVec 256 := Tab.get (fun _ => 0) s.adt.adt i
def State.dptE (s : State) (i : Nat) : BitVec 512 := Tab.get (fun _ => 0) s.adt.dpt i
def State.setAdtE (s : State) (i : Nat) (e : BitVec 256) : State :=
  { s with adt := { s.adt with adt := Tab.set (fun _ => 0) s.adt.adt i e } }
def State.setDptE (s : State) (i : Nat) (e : BitVec 512) : State :=
  { s with adt := { s.adt with dpt := Tab.set (fun _ => 0) s.adt.dpt i e } }
def State.adtBad (s : State) (i : Nat) : Bool := Tab.get (fun _ => false) s.adt.adtPoison i
def State.dptBad (s : State) (i : Nat) : Bool := Tab.get (fun _ => false) s.adt.dptPoison i

/-- Parse an ATX (Table 04-1). -/
def atxOf (l : List Byte) : Atx :=
  let w0 := leAt l 0 4
  let p := leAt l 16 2
  let rq := leAt l 22 2
  let b (w v : Nat) : BitVec w := BitVec.ofNat w v
  { actIdx := b 17 w0, tkind := Nat.testBit w0 17, axis := b 4 (w0 / 2 ^ 18), tfine := b 3 (w0 / 2 ^ 22), late := b 2 (w0 / 2 ^ 25),
    retry := b 2 (w0 / 2 ^ 27), report := Nat.testBit w0 29, pdef := Nat.testBit w0 30, target := b 64 (leAt l 4 8),
    lateWin := b 32 (leAt l 12 4), profile := b 12 p, holdT := b 16 (leAt l 18 2), boostLvl := b 8 (leAt l 20 1),
    holdLvl := b 8 (leAt l 21 1), rqQueue := b 6 rq, rqBasin := b 2 (rq / 64), rqUse := Nat.testBit rq 8, seq := b 32 (leAt l 24 4),
    rsv := b 44 (w0 / 2 ^ 31 + p / 2 ^ 12 * 2 + rq / 2 ^ 9 * 2 ^ 5 + leAt l 28 4 * 2 ^ 12) }

/-- The bytes of an ATX (Table 04-1). -/
def Atx.bytes (a : Atx) : List Byte :=
  let r := a.rsv.toNat
  let bit (v : Bool) (k : Nat) : Nat := if v then 2 ^ k else 0
  leBytes 4 (a.actIdx.toNat + bit a.tkind 17 + a.axis.toNat * 2 ^ 18 + a.tfine.toNat * 2 ^ 22 + a.late.toNat * 2 ^ 25 +
    a.retry.toNat * 2 ^ 27 + bit a.report 29 + bit a.pdef 30 + r % 2 * 2 ^ 31) ++
  leBytes 8 a.target.toNat ++ leBytes 4 a.lateWin.toNat ++ leBytes 2 (a.profile.toNat + r / 2 % 16 * 2 ^ 12) ++
  leBytes 2 a.holdT.toNat ++ leBytes 1 a.boostLvl.toNat ++ leBytes 1 a.holdLvl.toNat ++
  leBytes 2 (a.rqQueue.toNat + a.rqBasin.toNat * 64 + bit a.rqUse 8 + r / 32 % 128 * 2 ^ 9) ++ leBytes 4 a.seq.toNat ++
  leBytes 4 (r / 2 ^ 12)

/-- Nearest integer to a quotient, ties to even. -/
def roundEven (a : Int) (b : Nat) : Int :=
  let q := a / (b : Int)
  let r := a % (b : Int)
  if 2 * r < b then q else if (b : Int) < 2 * r then q + 1 else if q % 2 = 0 then q else q + 1

/-- A signed number of fine ticks as a displacement of placement times. -/
def plcOf (k : Int) : Plc := BitVec.ofInt 67 k

/-- Is a state of Table 04-7 final? -/
def XState.final (x : XState) : Bool := x == .verified || x == .late || x == .failed

/-- Launched and not final (R94). -/
def XState.flying (x : XState) : Bool := x == .launched || x == .delivered || x == .unconfirmed

/-- Channel latency in force (R140). -/
def State.lat (s : State) (n : Nat) : Int := s.fld (FC_LAT.LAT_OFFSET n) * 8 + s.fld (FC_LAT.LAT_FINE n)

/-- M and A in fine ticks (R92, Table 04-21): 10 ns is 240 fine ticks. -/
def State.marginM (s : State) : Int := s.fld WEIRG_MARGIN.MARGIN * 240
def State.advA (s : State) : Int := s.fld WEIRG_MARGIN.ADV * 24000

/-- The lead of an actuator with a profile (R92). -/
def State.leadOf (s : State) (n idx prof : Nat) : Int :=
  s.fld (WEIR_CTL.LEAD_BASE n) * 8 + getSE (s.dptE prof) DPT.LEAD_ADJ + roundEven (getSE (s.adtE idx) ADT.TRIM) 65536

/-- The latest-acceptable time of a record whose target time is known (R83). -/
def XRec.tlatOf (r : XRec) : Option Plc :=
  match r.conv with
  | .at t => some (t + plcOf r.atx.lateWin.toNat)
  | .held _ => none

/-- Drive start, aimed launch, window opening and deadline of an armed record (R92); none while held. -/
structure Placement where
  ds  : Plc
  tll : Plc
  wo  : Plc
  dll : Plc
  deriving DecidableEq, Repr

def State.placement (s : State) (n : Nat) (r : XRec) : Option Placement :=
  let mk (ds tlat : Plc) : Placement :=
    let tll := ds - plcOf (s.lat n) - plcOf s.marginM
    { ds := ds, tll := tll, wo := tll - plcOf s.advA, dll := tlat - plcOf r.lead - plcOf (s.lat n) }
  if r.state == .reissue then some (mk r.ds2 r.tlat)
  else match r.conv with
    | .at t => some (mk (t - plcOf r.lead) (t + plcOf r.atx.lateWin.toNat))
    | .held _ => none

/-- Replace a record of a weir. -/
def State.setRec (s : State) (n : Nat) (r : XRec) : State :=
  let w := s.weir n
  s.setWeir n { w with recs := w.recs.map (fun x => if x.id = r.id then r else x) }

/-- The record with an identity. -/
def State.recOf (s : State) (n id : Nat) : Option XRec := (s.weir n).recs.find? (fun r => r.id == id)

/-- Records in the arming window. -/
def State.armedCount (s : State) (n : Nat) : Nat := ((s.weir n).recs.filter (fun r => r.state == .armed)).length

/-- Publish the armed count (Table 04-17). -/
def State.pubArmed (s : State) (n : Nat) : State := s.setFld (WEIR_SLACK.ARMED n) (min 4095 (s.armedCount n))

/-- Open transaction journal entries of the device (Table 13-21). -/
def State.xjOpen (s : State) : Nat := s.weirs.foldl (fun k e => k + e.2.recs.length) 0

/-- Is transaction-journal admission open (R113, R386, Table 13-8)? -/
def State.xjAdmit (s : State) : Bool := decide (131072 < 1048576 - s.xjOpen) && !s.olReserve

/-- Add 1 to a 64-bit counter pair. -/
def State.inc64 (s : State) (lo hi : Fld) : State := s.setPair lo hi (s.pair lo hi + 1)

/-- The state of a weir (Table 04-16): STOPPING holds until it ends; else it follows the enable and the channel (R131). -/
def State.syncWeir (s : State) (n : Nat) : State :=
  let st := s.fld (FC_STAT.STATE n)
  let v :=
    if !s.bit (WEIR_CTL.EN n) then 0
    else if s.fld (WEIR_STAT.STATE n) = 2 then 2
    else if st = 6 then 4 else if st = 3 then 1 else 3
  s.setFld (WEIR_STAT.STATE n) v

/-- STOPPING ends when no transaction is open (Table 04-11). -/
def State.weirStopCheck (s : State) (n : Nat) : State :=
  if s.fld (WEIR_STAT.STATE n) = 2 && (s.weir n).recs.all (fun r => r.state.final) then
    (s.setFld (WEIR_CTL.EN n) 0).setFld (WEIR_STAT.STATE n) 0
  else s

/-- The flags byte of a report and of the journal (Table 04-9). -/
def XRec.flags (r : XRec) : Nat :=
  (if r.slipped then 1 else 0) + (if r.reissued then 2 else 0) + (if r.sentLate then 4 else 0) + (if r.notLearnt then 8 else 0)

/-- Status code of a final state. -/
def XRec.status (r : XRec) : Nat := if r.state == .late then 0x41 else if r.state == .failed then 0x42 else 0

/-- A transaction report (Table 04-9). -/
def XRec.report (r : XRec) : List Byte :=
  leBytes 6 r.task.toNat ++ leBytes 4 r.ordinal.toNat ++ leBytes 2 r.status ++ leBytes 1 r.reason ++ leBytes 1 r.flags ++
  leBytes 1 r.chan ++ leBytes 1 0 ++ leBytes 4 r.atx.seq.toNat ++ leBytes 4 r.atx.actIdx.toNat ++ leBytes 8 r.dtFinal.toNat

/-- Remove a record from its weir: the journal releases it (R101). -/
def State.dropRec (s : State) (n id : Nat) : State :=
  let w := s.weir n
  s.setWeir n { w with recs := w.recs.filter (fun r => r.id != id) }

/-- Post the report of a final record (R100, R101, Table 04-20): a record whose report no queue took stays in the journal. The
RPTQ fault occurs once per report. -/
def State.postReport (s : State) (n : Nat) (r : XRec) : State :=
  let first := r.reportDue.isNone
  let keep (s : State) : State :=
    let s := s.setRec n { r with reportDue := some (r.reportDue.getD s.dt) }
    match r.reportDue with
    | some t => if elapsed s.dt t (usTicks 1000) then s.raise (Flt.WEIR_RPTSTALL n) else s
    | none => s
  let post (b q : Nat) : State :=
    let (ok, s) := s.postMsg b q r.report
    if ok then s.dropRec n r.id else keep s
  if r.atx.rqUse then post r.atx.rqBasin.toNat r.atx.rqQueue.toNat
  else if s.bit WEIRG_REPQ.VALID then post (s.fld WEIRG_REPQ.BASIN) (s.fld WEIRG_REPQ.QUEUE)
  else keep (if first then s.raise Flt.WEIRG_RPTQ else s)

/-- A transaction reaches a final status (R98 to R102): counters, the journal entry and the report. -/
def State.finish (s : State) (n id : Nat) (st : XState) (reason : Nat) : State :=
  match s.recOf n id with
  | none => s
  | some r =>
    if r.state.final then s
    else
      let r := { r with state := st, reason := reason, dtFinal := s.dt, sentLate := r.sentLate || r.lateNo.isSome }
      let s := s.setRec n r
      let s :=
        if st == .late then
          let s := s.addWrap (WEIR_MISS.LATE n) 1
          let s := if s.adtBad r.atx.actIdx.toNat then s
                   else s.setAdtE r.atx.actIdx.toNat (incSat (s.adtE r.atx.actIdx.toNat) ADT.LATE_CNT)
          let s := if s.dptBad r.profile then s else s.setDptE r.profile (incWrap (s.dptE r.profile) DPT.LATE_CNT)
          if reason = 1 then s.setWeir n { s.weir n with neg := true } else s
        else if st == .failed then s.addWrap (WEIR_MISS.FAILED n) 1
        else s
      let s := if st == .verified then s.inc64 WEIRG_VER_LO.VERIFIED WEIRG_VER_HI.VERIFIED
               else s.inc64 WEIRG_BAD_LO.NOT_OK WEIRG_BAD_HI.NOT_OK
      let s := (s.pubArmed n).weirStopCheck n
      if st == .verified && !r.atx.report then s.dropRec n id else s.postReport n r

/-- An entry of the ADT or DPT was found poisoned after acceptance (Table 04-11). -/
def State.poisonedRec (s : State) (n id : Nat) : State := (s.finish n id .failed 0x22).raise (Flt.WEIR_ADTERR n)

/-- End every open transaction of a weir for which `p` holds. -/
def State.failRecs (s : State) (n reason : Nat) (p : XRec → Bool) : State :=
  (((s.weir n).recs.filter (fun r => !r.state.final && p r)).map (·.id)).foldl (fun s id => s.finish n id .failed reason) s

/-- The late policy of an ATX found late before its drive start is fixed (R97, Table 04-6). -/
def State.lateRec (s : State) (n id : Nat) : State :=
  match s.recOf n id with
  | none => s
  | some r =>
    let pol := if r.atx.late = 0 then s.fld (WEIR_CTL.LATE n) else r.atx.late.toNat - 1
    match pol with
    | 1 =>
      let w := s.weir n
      let r := { r with lateNo := some w.nextLate, tlat := (r.tlatOf.getD (plc s.dt 0)) }
      s.setWeir n { w with nextLate := w.nextLate + 1, recs := w.recs.map (fun (x : XRec) => if x.id = r.id then r else x) }
    | 2 => (s.finish n id .late 3).raise (Flt.WEIR_STOPLATE n)
    | _ => s.finish n id .late 1

/-- What a conversion of an armed ATX finds (R93). -/
inductive Found where
  | conv (c : Conv) | passed | axisLost
  deriving DecidableEq, Repr

/-- The conversion of an ATX (R93); `old` is the conversion in force. -/
def State.convOf (s : State) (a : Atx) (old : Option Conv) : Found :=
  if a.tkind then .conv (.at (plc a.target a.tfine.toNat))
  else
    let ax := a.axis.toNat
    let hold : Found :=
      match old with
      | some (.held d) => .conv (.held d)
      | _ => .conv (.held s.dt)
    if s.fld (AX_STAT.STATE ax) = 4 then .axisLost
    else match s.dtAt ax a.target with
      | .future t => .conv (.at t)
      | .none => hold
      | .past =>
        let t : AxisSt := s.axis ax
        let forward := decide (0 < t.vel)
        let behind := decide ((a.target - ma64 (s.maNow ax (plc s.dt 0))).toInt < 0)
        if forward && behind then .passed else hold

/-- Convert an armed ATX, with TRIM as it stands, and check its deadline (R93, R96). One found late under SEND_LATE is past every deadline
check and its drive start follows from its launch (Table 04-6): of its conversion, only a tracker gone LOST or a poisoned entry ends it. -/
def State.convertRec (s : State) (n id : Nat) : State :=
  match s.recOf n id with
  | none => s
  | some r =>
    let idx := r.atx.actIdx.toNat
    if r.state != .armed then s
    else if s.adtBad idx || s.dptBad r.profile then s.poisonedRec n id
    else
      match s.convOf r.atx (some r.conv) with
      | .axisLost => s.finish n id .failed 0x20
      | .passed => if r.lateNo.isSome then s else s.lateRec n id
      | .conv c =>
        if r.lateNo.isSome then s else
        let r := { r with conv := c, lead := s.leadOf n idx r.profile }
        let s := s.setRec n r
        match s.placement n r with
        | none => s
        | some p => if 0 < plcDiff (plc s.dt 0) p.dll then s.lateRec n id else s

/-- Convert every armed ATX of a weir that `p` selects. -/
def State.convertAll (s : State) (n : Nat) (p : XRec → Bool) : State :=
  (((s.weir n).recs.filter p).map (·.id)).foldl (fun s id => s.convertRec n id) s

/-- Magnitude of a tracker's acceleration against the gate (R105, R70): velocity units per 2^24 ticks. -/
def State.accOver (s : State) (ax : Nat) : Bool :=
  let a := (s.axis ax).acc * 2 ^ 40
  decide ((s.fld WEIRG_ACCGATE.GATE : Rat) < max a (-a))

/-- One acceleration sample for the launched transactions of an axis (R105). -/
def sampleAcc (t : Plc) (isOver : Bool) (r : XRec) : XRec :=
  if plcDiff t r.ds ≤ 0 then { r with accBad := if isOver then some t else none }
  else if r.accBad.isSome then r else { r with accBad := if isOver then some t else none }

/-- A tracker update as the weirs see it (R19, R93, R105): armed angle targets are converted again and launched ones sample
the acceleration. -/
def State.trackerFeeds (s : State) (ax : Nat) : State :=
  let isOver := s.accOver ax
  let t := plc s.dt 0
  let mine (r : XRec) : Bool := !r.atx.tkind && r.atx.axis.toNat == ax
  (s.weirs.map (·.1)).foldl (fun s n =>
    let w := s.weir n
    let s := s.setWeir n { w with recs := w.recs.map (fun r => if mine r && (r.state.flying || r.state == .reissue) then sampleAcc t isOver r else r) }
    s.convertAll n mine) s

/-- The check of the weir group (Table 02-5). -/
def State.weirCheck (n : Nat) (s : State) : Bool :=
  decide (s.fld (FC_LAT.LAT_OFFSET n) + s.fld (WEIR_CTL.LEAD_BASE n) ≤ 2 ^ 24 ∧ s.fld (WEIR_CTL.LATE n) ≤ 2)

/-- The commit point of a weir group (R43 to R46, R140): your commit first; the channel's own Lat at a later one. Armed ATX
are converted again. -/
def State.weirPoint (s : State) (n : Nat) : State :=
  let pend := s.bit (WEIR_CTL.COMMIT n)
  let (s, applied) := s.commitGroup DEV_CFGMODE.IMM_WEIR (WEIR_CTL.COMMIT n)
    [WEIR_CTL.LEAD_BASE n, WEIR_CTL.LATE n, FC_LAT.LAT_OFFSET n] (State.weirCheck n)
  let c := s.chan n
  let (s, auto) :=
    match c.latAuto with
    | some (o, f) =>
      if pend then (s, false)
      else
        let s := s.setChan n { c with latAuto := none }
        let s' := (s.setFld (FC_LAT.LAT_OFFSET n) o).setFld (FC_LAT.LAT_FINE n) f
        if State.weirCheck n s' then (s', true) else (s.setFld (WEIR_STAT.CFG_MISMATCH n) 1, false)
    | none => (s, false)
  if applied || auto then s.convertAll n (fun r => r.state == .armed) else s

/-- Checks 1 and 2 of Table 04-4; 0 when both pass. -/
def Atx.refusal (a : Atx) : Nat :=
  if a.rsv ≠ 0 then 9
  else if 2 ≤ a.retry.toNat ∨ (a.tkind = true ∧ a.axis ≠ 0) ∨ (a.tkind = false ∧ a.tfine ≠ 0) then 10
  else 0

/-- Checks 1 to 3 of Table 04-4, made by the ADT front end. -/
def State.frontRefusal (s : State) (a : Atx) : Nat :=
  let e := s.adtE a.actIdx.toNat
  if a.refusal ≠ 0 then a.refusal
  else if s.adtBad a.actIdx.toNat || getE e ADT.VALID == 0 || decide (95 < getE e ADT.CHAN) then 3
  else 0

/-- The profile of an ATX, from the ADT entry as read at the EMIT's arrival when PDEF is 1. -/
def Atx.profileOf (a : Atx) (adtLow : Word) : Nat := if a.pdef then getE adtLow ADT.PROFILE else a.profile.toNat

/-- Checks 4 to 8 of Table 04-4. -/
def State.weirRefusal (s : State) (n : Nat) (a : Atx) (adtLow : Word) : Nat :=
  let p := a.profileOf adtLow
  let ax := s.fld (AX_STAT.STATE a.axis.toNat)
  if s.bit SVC_STAT.SAFE then 8
  else if !s.bit (WEIR_CTL.EN n) || s.fld (WEIR_STAT.STATE n) == 2 then 7
  else if s.fld (FC_STAT.STATE n) == 6 then 6
  else if s.dptBad p || getE (s.dptE p) DPT.VALID == 0 then 4
  else if !a.tkind && (ax == 0 || ax == 4) then 5
  else 0

/-- Checks 9 and 10 of Table 04-4, those that wait (R89). -/
def State.waitRefusal (s : State) (n : Nat) : Nat :=
  if !s.xjAdmit then 2 else if 2048 ≤ s.armedCount n then 1 else 0

/-- Record a refusal made by a weir (R88, R110, R112). -/
def State.weirRefused (s : State) (n code : Nat) : State :=
  let s := (s.setFld (WEIR_STAT.LAST_REFUSE n) code).addWrap (WEIR_MISS.REFUSED n) 1
  if code = 1 ∨ code = 2 then
    let w := s.weir n
    s.setWeir n { w with neg := true, unclear := true, demand := w.demand + 1 }
  else s

/-- Accept an ATX (R17, R89, R91): journal it, arm it, and check its deadline at once (R96). -/
def State.acceptAtx (s : State) (n : Nat) (a : Atx) (adtLow : Word) (task : BitVec 48) (ordinal : Word32) : State :=
  let w := s.weir n
  let id := s.svc.xjNext
  let prof := a.profileOf adtLow
  let found := s.convOf a none
  let conv : Conv := match found with
    | .conv c => c
    | _ => .held s.dt
  let r : XRec :=
    { id := id, xid := none, atx := a, task := task, ordinal := ordinal, chan := n, paddr := getE adtLow ADT.PADDR, profile := prof,
      state := .armed, reason := 0, slipped := false, reissued := false, sentLate := false, notLearnt := false, dtAccept := s.dt,
      dtFinal := 0, order := w.nextOrd, conv := conv, lateNo := none, ds := 0, tlat := 0, ds2 := 0,
      lead := s.leadOf n a.actIdx.toNat prof, accBad := none, frame := none, reportDue := none }
  let s := s.setWeir n { w with recs := w.recs ++ [r], nextOrd := w.nextOrd + 1, demand := w.demand + 1 }
  let s := { s with svc := { s.svc with xjNext := id + 1 } }
  let s := (s.setFld XJ_HIGH.HIGH (max (s.fld XJ_HIGH.HIGH) s.xjOpen)).inc64 WEIRG_ACC_LO.ACCEPTED WEIRG_ACC_HI.ACCEPTED
  let s := s.pubArmed n
  match found with
  | .axisLost => s.finish n id .failed 0x20
  | .passed => s.lateRec n id
  | .conv _ =>
    match s.placement n r with
    | none => s
    | some p => if 0 < plcDiff (plc s.dt 0) p.dll then s.lateRec n id else s

/-- Close admission when the journal reaches its reserve, and open it again (R113, Table 04-20). -/
def State.admission (s : State) : State :=
  if s.xjAdmit then
    if !s.bit WEIRG_STAT.ADMIT_CLOSED && s.bit WEIRG_JRN.ADMIT_OPEN then s
    else (s.setFld WEIRG_STAT.ADMIT_CLOSED 0).setFld WEIRG_JRN.ADMIT_OPEN 1
  else if s.bit WEIRG_STAT.ADMIT_CLOSED then s
  else ((s.setFld WEIRG_STAT.ADMIT_CLOSED 1).setFld WEIRG_JRN.ADMIT_OPEN 0).raise Flt.WEIRG_ADMIT

/-- Order of launch (R94): re-issues by acceptance, late ATX in the order found late, then by TLL with ties in acceptance
order. -/
def State.launchBefore (s : State) (n : Nat) (a b : XRec) : Bool :=
  let rank (r : XRec) : Nat := if r.state == .reissue then 0 else if r.lateNo.isSome then 1 else 2
  if rank a ≠ rank b then decide (rank a < rank b)
  else match rank a with
    | 0 => decide (a.order < b.order)
    | 1 => decide (a.lateNo.getD 0 < b.lateNo.getD 0)
    | _ =>
      match s.placement n a, s.placement n b with
      | some p, some q =>
        let d := plcDiff p.tll q.tll
        decide (d < 0) || (decide (d = 0) && decide (a.order < b.order))
      | _, _ => decide (a.order < b.order)

/-- The first record in launch order among a list. -/
def State.firstRec (s : State) (n : Nat) : List XRec → Option XRec
  | [] => none
  | r :: t =>
    match s.firstRec n t with
    | none => some r
    | some q => some (if s.launchBefore n q r then q else r)

/-- May a record be launched at `tL` (R94): a re-issue or armed ATX whose window has opened, or a late one? -/
def State.launchable (s : State) (n : Nat) (tL : Plc) (r : XRec) : Bool :=
  if r.state == .reissue || (r.state == .armed && r.lateNo.isNone) then
    match s.placement n r with
    | none => false
    | some p => decide (0 ≤ plcDiff tL p.wo)
  else r.state == .armed && r.lateNo.isSome

/-- Does a drive start conflict with the actuator's last launch (R520)? -/
def conflicts (lastDs minGap : Nat) (ds : Plc) : Bool :=
  let gap := signed 32 (ds.tick.toNat % 2 ^ 32 + 2 ^ 32 - lastDs) * 8 + ds.fine
  lastDs != 0 && decide (-(minGap : Int) < gap ∧ gap < minGap)

/-- An ACT record (Table 05-12). -/
def actRecord (r : XRec) (xid : Word32) (ds : Plc) (late : Bool) (d : BitVec 512) : List Byte :=
  let pick (a b : Nat) : Nat := if a = 0 then b else a
  leBytes 2 (r.paddr % 1024 + ds.fine * 1024 + (if late then 8192 else 0) + (if r.reissued then 16384 else 0)) ++
  leBytes 6 ds.tick.toNat ++ leBytes 4 xid.toNat ++ leBytes 1 (getE d DPT.DMODE) ++
  leBytes 1 (pick r.atx.boostLvl.toNat (getE d DPT.BOOST_LVL)) ++ leBytes 1 (pick r.atx.holdLvl.toNat (getE d DPT.HOLD_LVL)) ++
  leBytes 1 (getE d DPT.RELEASE) ++ leBytes 2 (getE d DPT.BOOST_T) ++ leBytes 2 (pick r.atx.holdT.toNat (getE d DPT.HOLD_T)) ++
  leBytes 4 ((getE d DPT.FLIGHT_MAX + 7) / 8)

/-- Launch one record at `tL` in the frame with sequence number `seq` (R95, R520, R144): its ACT record, or none when it
ends here instead. -/
def State.launchRec (s : State) (n id : Nat) (tL : Plc) (seq : Nat) : Option (List Byte) × State :=
  match s.recOf n id with
  | none => (none, s)
  | some r =>
    let idx := r.atx.actIdx.toNat
    if s.adtBad idx || s.dptBad r.profile then (none, s.poisonedRec n id)
    else
      let lat := plcOf (s.lat n)
      let decide95 (r : XRec) : Option (Plc × Bool) :=
        if r.lateNo.isSome then some (tL + lat, false)
        else match s.placement n r with
          | none => none
          | some p =>
            if 0 < plcDiff tL p.dll then none
            else if plcDiff tL (p.ds - lat) ≤ 0 then some (p.ds, false)
            else some (tL + lat, true)
      match decide95 r with
      | none => (none, s.lateRec n id)
      | some (ds, slip) =>
        let d := s.dptE r.profile
        let e := s.adtE idx
        if conflicts (getE e ADT.LAST_DS) (getE d DPT.MIN_GAP) ds then (none, s.finish n id .failed 0x14)
        else
          let c := s.chan n
          let xid := r.xid.getD c.xidNext
          let s := if r.xid.isNone then s.setChan n { c with xidNext := c.xidNext + 1, xidCount := c.xidCount + 1 } else s
          let re := r.reissued || r.state == .reissue
          let late := r.lateNo.isSome
          let isOver := !r.atx.tkind && s.accOver r.atx.axis.toNat
          let tlat := if r.state == .reissue || late then r.tlat else r.tlatOf.getD 0
          let r' : XRec := { r with
            state := .launched, xid := some xid, ds := ds, tlat := tlat, slipped := r.slipped || slip, reissued := re,
            sentLate := r.sentLate || late, accBad := if isOver then some tL else none, frame := some seq }
          let s := s.setRec n r'
          let low := ds.tick.toNat % 2 ^ 32
          let s := s.setAdtE idx (putE e ADT.LAST_DS (if low = 0 then 1 else low))
          let s := s.setDptE r.profile (incWrap d DPT.USE_CNT)
          let w := s.weir n
          let s := s.setWeir n { w with lastXid := xid, lastDs := if dtGe ds.tick w.lastDs then ds.tick else w.lastDs }
          (some (actRecord r' xid ds late d), s.pubArmed n)

/-- Limits of R94 on transactions in flight and on those the partner has not yet fired. -/
def State.flightRoom (s : State) (n : Nat) (tL : Plc) (depth : Nat) : Bool :=
  let fl := (s.weir n).recs.filter (fun r => r.state.flying)
  decide (fl.length < 4096) && decide ((fl.filter (fun r => decide (0 < plcDiff r.ds tL))).length < depth)

/-- Take up to `k` records into a frame, in launch order; `fuel` bounds the records examined. -/
def State.packFrame (s : State) (n : Nat) (tL : Plc) (depth seq : Nat) : Nat → Nat → List (Nat × List Byte) → List (Nat × List Byte) × State
  | 0, _, acc => (acc, s)
  | fuel + 1, k, acc =>
    if k = 0 || !s.flightRoom n tL depth || s.bit SVC_STAT.SAFE then (acc, s)
    else match s.firstRec n ((s.weir n).recs.filter (s.launchable n tL)) with
      | none => (acc, s)
      | some r =>
        match s.launchRec n r.id tL seq with
        | (some b, s) => s.packFrame n tL depth seq fuel (k - 1) (acc ++ [(r.id, b)])
        | (none, s) => s.packFrame n tL depth seq fuel k acc

/-- The records a frame carried were acknowledged (Table 04-7). -/
def State.delivered (s : State) (n : Nat) (ids : List Nat) : State :=
  let w := s.weir n
  s.setWeir n { w with recs := w.recs.map (fun r => if ids.contains r.id && r.state == .launched then { r with state := .delivered } else r) }

/-- A record was dropped from a resend (R96, R128). -/
def State.unconfirmed (s : State) (n id : Nat) : State :=
  let w := s.weir n
  s.setWeir n { w with recs := w.recs.map (fun r => if r.id = id && r.state == .launched then { r with state := .unconfirmed } else r) }

/-- Drive start of a record as its ACT record carries it, extended to 64 bits nearest to now (R144). -/
def dsOfRecord (now : Word) (b : List Byte) : Plc :=
  let v := leAt b 2 6
  let base := now.toNat / 2 ^ 48 * 2 ^ 48 + v
  let t : Word := BitVec.ofNat 64 base
  let d := dtDiff t now
  let t := if (2 : Int) ^ 47 ≤ d then t - BitVec.ofNat 64 (2 ^ 48) else if d < -(2 : Int) ^ 47 then t + BitVec.ofNat 64 (2 ^ 48) else t
  plc t (leAt b 0 2 / 1024 % 8)

/-- The records of a frame that may still leave at `tL` (R96, R128); the others become UNCONFIRMED. -/
def State.resendFilter (s : State) (n : Nat) (tL : Plc) (recs : List (Nat × List Byte)) : List (Nat × List Byte) × State :=
  let recs := recs.filter (fun e => match s.recOf n e.1 with
    | some r => !r.state.final
    | none => false)
  let ok (e : Nat × List Byte) : Bool := decide (plcDiff tL (dsOfRecord s.dt e.2 - plcOf (s.lat n)) ≤ 0)
  (recs.filter ok, (recs.filter (fun e => !ok e)).foldl (fun s e => s.unconfirmed n e.1) s)

/-- Trim learning (R104): the new entry, the profile and whether the limit clipped. -/
def learn (f : Nat) (leadBase : Nat) (k : Nat) (e : BitVec 256) (d : BitVec 512) : BitVec 256 × BitVec 512 × Bool :=
  let trim := getSE e ADT.TRIM
  let err : Int := ((f : Int) - leadBase * 8 - getSE d DPT.LEAD_ADJ) * 65536 - trim
  let t := trim + roundEven err (2 ^ k)
  let lim : Int := getE d DPT.TRIM_LIM * 65536
  let clip := decide (lim < t ∨ t < -lim)
  let t' := if lim < t then lim else if t < -lim then -lim else t
  let e := putE (putE (putE e ADT.TRIM (t' % 2 ^ 48).toNat) ADT.LAST_FLIGHT f) ADT.LAST_ERR (roundEven err 65536 % 2 ^ 32).toNat
  (e, if clip then incWrap d DPT.TRIMSAT_CNT else d, clip)

/-- The gates of R104 and R105 for a flight `f` of a transaction. -/
def State.mayLearn (s : State) (n : Nat) (r : XRec) (f : Nat) : Bool :=
  let e := s.adtE r.atx.actIdx.toNat
  let d := s.dptE r.profile
  let gated := !r.atx.tkind && (match r.accBad with
    | none => false
    | some t => decide (plcDiff t (r.ds + plcOf f) ≤ 0) || decide (plcDiff t r.ds ≤ 0))
  s.fld (WEIR_CTL.KGAIN n) != 0 && getE e ADT.LEARN == 1 && getE d DPT.LEARN_EN == 1 &&
  decide (getE d DPT.FLIGHT_MIN ≤ f ∧ f ≤ getE d DPT.FLIGHT_MAX) && !r.sentLate && !r.reissued && !gated

/-- A VERIFY with a flight (Table 04-10, R104). -/
def State.verifyFlight (s : State) (n : Nat) (r : XRec) (f : Nat) : State :=
  let idx := r.atx.actIdx.toNat
  let ok := s.mayLearn n r f
  let s :=
    if ok then
      let (e, d, clip) := learn f (s.fld (WEIR_CTL.LEAD_BASE n)) (s.fld (WEIR_CTL.KGAIN n)) (s.adtE idx) (s.dptE r.profile)
      let s := (s.setAdtE idx e).setDptE r.profile d
      if clip then s.raise (Flt.WEIR_TRIMSAT n) else s
    else s.setRec n { r with notLearnt := true }
  let s := s.setAdtE idx (incWrap (s.adtE idx) ADT.VERIFY_CNT)
  if r.sentLate then s.finish n r.id .late 2
  else if plcDiff (r.ds + plcOf f) r.tlat ≤ 0 then s.finish n r.id .verified 0
  else s.finish n r.id .late 4

/-- A VERIFY with NO_FLIGHT (Table 04-10, R106). -/
def State.verifyNoFlight (s : State) (n : Nat) (r : XRec) : State :=
  let idx := r.atx.actIdx.toNat
  let d := s.dptE r.profile
  let s := s.setAdtE idx (incSat (s.adtE idx) ADT.NOFLIGHT_CNT)
  let s := s.setDptE r.profile (incWrap d DPT.NOFLIGHT_CNT)
  let lead := s.leadOf n idx r.profile
  let tv := plc s.dt 0
  let a := tv + plcOf (s.lat n + s.marginM)
  let b := r.ds + plcOf (getE d DPT.MIN_GAP)
  let ds2 := if 0 ≤ plcDiff a b then a else b
  if r.atx.retry = 1 ∧ !r.reissued ∧ r.state ≠ .reissue ∧ plcDiff (ds2 + plcOf lead) r.tlat ≤ 0 then
    let s := s.setAdtE idx (incSat (s.adtE idx) ADT.REISSUE_CNT)
    s.setRec n { r with state := .reissue, ds2 := ds2, lead := lead }
  else s.finish n r.id .failed 0x10

/-- One VERIFY record (R145, R103): false when it is a violation BAD_RECORD. -/
def State.verifyRecord (s : State) (n : Nat) (b : List Byte) : Bool × State :=
  let xid : Word32 := BitVec.ofNat 32 (leAt b 0 4)
  let o := leAt b 4 1
  let outcome := o % 4
  let dfault := leAt b 5 1
  let paddr := leAt b 6 2
  let flight := leAt b 8 4
  if 8 ≤ o ∨ 1024 ≤ paddr ∨ (dfault ≠ 0 ∧ outcome ≠ 2) ∨ (flight ≠ 0 ∧ outcome ≠ 0) then (false, s)
  else
    match (s.weir n).recs.find? (fun r => r.xid == some xid && !r.state.final) with
    | none =>
      let c := s.chan n
      if (c.xidNext - 1 - xid).toNat < min c.xidCount (2 ^ 31) then
        (true, if outcome = 0 then s.addWrap (WEIR_MISS.FAILED n) 1 else s)
      else (false, s)
    | some r =>
      if paddr ≠ r.paddr ∨ leAt b 12 4 ≠ r.ds.tick.toNat % 2 ^ 32 ∨ decide (o / 4 % 2 = 1) ≠ r.reissued then (false, s)
      else if s.adtBad r.atx.actIdx.toNat || s.dptBad r.profile then (true, s.poisonedRec n r.id)
      else match outcome with
        | 0 => (true, s.verifyFlight n r flight)
        | 1 => (true, s.verifyNoFlight n r)
        | 2 => (true, s.finish n r.id .failed 0x13)
        | _ => (true, s.finish n r.id .failed 0x15)

/-- The limit by which a launched transaction's VERIFY must arrive (Table 04-7). -/
def State.verifyLimit (s : State) (n : Nat) (r : XRec) : Plc :=
  r.ds + plcOf (getE (s.dptE r.profile) DPT.FLIGHT_MAX + s.lat n + s.fld WEIRG_TMO.VTMO * 24000)

/-- No VERIFY arrived by the limit (Table 04-7). -/
def State.verifyTimeout (s : State) (n id : Nat) : State :=
  match s.recOf n id with
  | none => s
  | some r =>
    if 0 < plcDiff (plc s.dt 0) (s.verifyLimit n r) then
      match r.state with
      | .delivered => s.finish n id .failed 0x11
      | .unconfirmed => s.finish n id .failed 0x12
      | _ => s
    else s

/-- An armed ATX that is not held and whose deadline has passed (R96). -/
def State.lateFound (s : State) (n id : Nat) : State :=
  match s.recOf n id with
  | none => s
  | some r =>
    if r.state != .armed || r.lateNo.isSome then s
    else match s.placement n r with
      | none => s
      | some p => if 0 < plcDiff (plc s.dt 0) p.dll then s.lateRec n id else s

/-- An ATX held longer than NONEMAX (R93). -/
def State.heldTimeout (s : State) (n id : Nat) : State :=
  match s.recOf n id with
  | none => s
  | some r =>
    match r.state, r.lateNo, r.conv with
    | .armed, none, .held since =>
      let m := s.fld WEIRG_TMO.NONEMAX
      if m ≠ 0 ∧ (3000000 * m : Int) < dtDiff s.dt since then s.finish n id .failed 0x21 else s
    | _, _, _ => s

/-- Refused report POSTs are tried again (R101). -/
def State.reportRetry (s : State) (n : Nat) : State :=
  ((s.weir n).recs.filter (fun r => r.state.final && r.reportDue.isSome)).foldl (fun s r => s.postReport n r) s

/-- The code on SPEEDLIM (R112). -/
def speedCode (rated rpm : Nat) : Nat :=
  if rated = 0 then 1
  else ((List.range 15).map (· + 1)).find? (fun c => decide (rated * (16 - c) ≤ rpm * 16)) |>.getD 15

/-- Registers of the weir global block. -/
def inWeirg (a : Nat) : Bool := decide (0x40000 ≤ a ∧ a < 0x50000)

/-- The commit point of the weir global block (Table 02-4): with a new RATED in force, the code of a limit that is raised follows (R112). -/
def State.weirgPoint (s : State) : State :=
  let s := s.applyStaged inWeirg
  if s.bit WEIRG_STAT.SPD_ACTIVE then
    s.setFld WEIRG_SPDREC.CODE (speedCode (s.fld WEIRG_SPDREQ.RATED) (s.fld WEIRG_SPDREC.REC_RPM))
  else s

/-- Insert a record at its place in launch order. -/
def State.insertLaunch (s : State) (n : Nat) (r : XRec) : List XRec → List XRec
  | [] => [r]
  | q :: t => if s.launchBefore n r q then r :: q :: t else q :: s.insertLaunch n r t

/-- Slack of a weir (R109) in fine ticks; none with no launchable armed ATX. 250 ns are 6,000 fine ticks. -/
def State.slackOf (s : State) (n : Nat) : Option Int :=
  let now := plc s.dt 0
  let rs := ((s.weir n).recs.filter (fun r => r.state == .armed)).foldl (fun l r => s.insertLaunch n r l) []
  (rs.foldl (fun (acc : Option Plc × Option Int) r =>
    match s.placement n r with
    | none => acc
    | some p =>
      let lo : Plc := match acc.1 with
        | none => now
        | some q => q + 6000
      let at_ : Plc := if 0 ≤ plcDiff lo p.wo then lo else p.wo
      let sl := plcDiff p.dll at_
      (some at_, some (match acc.2 with | none => sl | some m => min m sl))) (none, none)).2

/-- A slack in 64-tick units as WEIR_SLACK publishes it (Table 04-17). -/
def slackUnits (x : Int) : Int := max (-(2 : Int) ^ 19) (min (2 ^ 19 - 1) (x / 512))

/-- The slack evaluation (R109, R110), whose start is the commit point of the weir global block. -/
def State.slackEval (s : State) : State :=
  let s := s.weirgPoint
  let hyst : Int := s.fld WEIRG_SPEED.HYST * 24000
  let (s, worst) := (s.weirs.map (·.1)).foldl (fun (acc : State × Option (Int × Nat)) n =>
    let s := acc.1
    match s.slackOf n with
    | none => acc
    | some x =>
      let w := s.weir n
      let s := s.setWeir n { w with neg := w.neg || decide (x < 0), unclear := w.unclear || decide (x < hyst), worst := min w.worst x }
      let s := s.setSFld (WEIR_SLACK.SLACK n) (slackUnits x)
      (s, match acc.2 with
          | none => some (x, n)
          | some (y, m) => if x < y then some (x, n) else some (y, m))) (s, none)
  match worst with
  | none => s
  | some (x, n) => ((s.setSFld WEIRG_SLACKMIN.SLACK (slackUnits x)).setFld WEIRG_SLACKMIN.CH n).setFld WEIRG_STAT.WORST_CH n

/-- Put a recommendation in force with its source, and raise SPEED_LIMIT if it was not (R111, R112). -/
def State.speedRaise (s : State) (rpm src : Nat) : State :=
  let rpm := min 0xFFFF rpm
  let was := s.bit WEIRG_STAT.SPD_ACTIVE
  let code := speedCode (s.fld WEIRG_SPDREQ.RATED) rpm
  let s := (s.setFld WEIRG_SPDREC.REC_RPM rpm).setFld WEIRG_SPDREC.CODE code
  if was then s
  else
    let s := ((s.setFld WEIRG_SPDREC.SRC src).setFld WEIRG_STAT.SPD_ACTIVE 1).raise Flt.WEIRG_SPDLIM
    s.notice 1 (rpm + code * 2 ^ 16 + src * 2 ^ 20)

/-- Clear SPEED_LIMIT (R113). -/
def State.speedClear (s : State) : State :=
  if s.bit WEIRG_STAT.SPD_ACTIVE then
    ((((s.setFld WEIRG_SPDREC.REC_RPM 0).setFld WEIRG_SPDREC.CODE 0).setFld WEIRG_SPDREC.SRC 0).setFld WEIRG_STAT.SPD_ACTIVE 0).notice 2 0
  else s

/-- A write of WEIRG_SPDREQ (R111): a nonzero REQ raises SPEED_LIMIT with source 2, at the write; RATED waits for the commit
point. -/
def State.speedReq (s : State) (rated req : Nat) : State :=
  let s := if rated = s.fld WEIRG_SPDREQ.RATED then s else s.stage WEIRG_SPDREQ.RATED (some rated)
  let s := s.setFld WEIRG_SPDREQ.REQ req
  if req = 0 then s
  else s.speedRaise (if s.bit WEIRG_STAT.SPD_ACTIVE then min (s.fld WEIRG_SPDREC.REC_RPM) req else req) 2

/-- The least of two speeds, none being infinite. -/
def minSpeed : Option Rat → Option Rat → Option Rat
  | none, b => b
  | a, none => a
  | some a, some b => some (min a b)

/-- The speed a weir computes at the end of a negative revolution of `t` ticks (R112), in rpm. -/
def weirSpeed (w : WeirSt) (vcur : Rat) (t : Nat) : Option Rat :=
  let c : Rat := (t : Rat) / 750
  let lam : Rat := ((-w.worst : Int) : Rat) / 8
  let vr : Option Rat := if c < w.demand then some (vcur * c / w.demand) else none
  let vt : Option Rat := if 0 < lam then some (vcur * t / (t + lam)) else none
  (minSpeed vr vt).map (fun v => (((v * 15 / 16).floor : Int) : Rat))

/-- The speed of the axis of WEIRG_SPEED in rpm (R112). -/
def State.speedNow (s : State) : Rat :=
  let v := (s.axis (s.fld WEIRG_SPEED.AXIS)).vel
  max v (-v) * 180000000000 / (oneRev : Rat)

/-- The least of the speeds that the weirs with a negative revolution compute (R112). -/
def State.weirSpeeds (s : State) (vcur : Rat) (t : Nat) : Option Rat :=
  (upTo 96).foldl (fun m n =>
    let w := s.weir n
    if w.neg then minSpeed m (weirSpeed w vcur t) else m) none

/-- Close the revolution of one weir (R110): count it and begin the next. -/
def State.closeRev (s : State) (n : Nat) : State :=
  let w := s.weir n
  let negRevs := if w.neg then w.negRevs + 1 else 0
  let s := s.setWeir n { w with neg := false, unclear := false, demand := 0, worst := 0, negRevs := negRevs,
                                clearRevs := if w.unclear then 0 else min 256 (w.clearRevs + 1) }
  s.setFld (WEIR_STAT.NEGREV n) (min 7 negRevs)

/-- Publish which channels had a negative last revolution (Table 04-21). -/
def State.pubNeg (s : State) : State :=
  (upTo 3).foldl (fun s j =>
    s.setFld (WEIRG_NEG.NEG j) ((upTo 32).foldl (fun k i => if (s.weir (32 * j + i)).negRevs = 0 then k else k + 2 ^ i) 0)) s

/-- The recommendation of R112, `vw` being the least of the weirs' speeds. -/
def State.recommend (s : State) (vw : Option Rat) (vcur : Rat) : Nat :=
  let req := s.fld WEIRG_SPDREQ.REQ
  let inForce : Option Rat := if s.bit WEIRG_STAT.SPD_ACTIVE then some ((s.fld WEIRG_SPDREC.REC_RPM : Nat) : Rat) else none
  let all := minSpeed inForce (minSpeed vw (if req = 0 then none else some ((req : Nat) : Rat)))
  (match all with
   | some x => x.floor
   | none => (vcur * 15 / 16).floor).toNat

/-- A revolution change of the axis of WEIRG_SPEED (R110 to R113): close the revolution of every weir, decide clearing, then
raising. -/
def State.speedEval (s : State) : State :=
  let t := (s.dt - s.speed.lastChange).toNat
  let vcur := s.speedNow
  let vw := s.weirSpeeds vcur t
  let anyNeg := (upTo 96).any (fun n => (s.weir n).neg)
  let s := ((upTo 96).foldl State.closeRev s).pubNeg
  let calm := (upTo 96).all (fun n => decide (s.fld WEIRG_SPEED.CLR_REVS ≤ (s.weir n).clearRevs))
  let clr := s.speed.clrReq
  let s := { s with speed := { s.speed with lastChange := s.dt, clrReq := false } }.setFld WEIRG_CTL.SPD_CLR 0
  let s := if s.fld WEIRG_SPDREQ.REQ = 0 && (calm || clr) then s.speedClear else s
  let enough := (upTo 96).any (fun n => decide (s.fld WEIRG_SPEED.N ≤ (s.weir n).negRevs))
  let active := s.bit WEIRG_STAT.SPD_ACTIVE
  if (active && anyNeg) || (!active && enough) then s.speedRaise (s.recommend vw vcur) 1 else s

/-- Run `f`, and evaluate SPEED_LIMIT when it changed the revolution count that the axis of WEIRG_SPEED publishes (R110). -/
def State.withRevolution (s : State) (f : State → State) : State :=
  let ax := s.fld WEIRG_SPEED.AXIS
  let s' := f s
  if s'.fld (AX_POS_HI.V ax) = s.fld (AX_POS_HI.V ax) then s' else s'.speedEval

/-- A write of WEIR_CTL.EN (R107, Table 04-15). -/
def State.weirEnable (s : State) (n : Nat) (en : Bool) : State :=
  let was := s.bit (WEIR_CTL.EN n)
  if en && !was then
    if s.bit WEIRG_CTL.EN then (s.setFld (WEIR_CTL.EN n) 1).syncWeir n else s.setFld (WEIR_STAT.CFG_REJECT n) 1
  else if !en && was then
    let s := s.setFld (WEIR_STAT.STATE n) 2
    (s.failRecs n 0x31 (fun r => r.state == .armed || r.state == .reissue)).weirStopCheck n
  else s

/-- Is an index of the window defined (R114)? A selection that is not never comes into force. -/
def adtIndexOk (dpt : Bool) (i : Nat) : Bool := !dpt || decide (i ≤ 4095)

/-- A window READ (R114, R87): a poisoned entry reads as it is held. -/
def State.adtRead (s : State) : State :=
  if !s.bit ADT_CTL.EN || s.bit ADT_STAT.BUSY then s.setFld ADT_STAT.CFG_REJECT 1
  else
    let i := s.fld ADT_SEL.INDEX
    let dpt := s.bit ADT_SEL.TBL
    let v := if dpt then (s.dptE i).toNat else (s.adtE i).toNat
    let k := if dpt then 16 else 8
    { s with adt := { s.adt with buf := (upTo k).foldl (fun t j => Tab.set (fun _ => 0) t j (BitVec.ofNat 32 (v / 2 ^ (32 * j)))) s.adt.buf } }

/-- A window WRITE (R114, R87): a whole-entry write ends a poisoned state. -/
def State.adtWrite (s : State) : State :=
  if !s.bit ADT_CTL.EN || s.bit ADT_STAT.BUSY then s.setFld ADT_STAT.CFG_REJECT 1
  else
    let i := s.fld ADT_SEL.INDEX
    let dpt := s.bit ADT_SEL.TBL
    let mask := s.fld ADT_MASK.MASK
    let k := if dpt then 16 else 8
    let old := if dpt then (s.dptE i).toNat else (s.adtE i).toNat
    let word (j : Nat) : Nat := if Nat.testBit mask j then (Tab.get (fun _ => 0) s.adt.buf j).toNat else old / 2 ^ (32 * j) % 2 ^ 32
    let v := (upTo k).foldl (fun v j => v + word j * 2 ^ (32 * j)) 0
    let whole := (upTo k).all (fun j => Nat.testBit mask j)
    if dpt then
      let s := s.setDptE i (BitVec.ofNat 512 v)
      if whole then { s with adt := { s.adt with dptPoison := Tab.set (fun _ => false) s.adt.dptPoison i false } } else s
    else
      let s := s.setAdtE i (BitVec.ofNat 256 v)
      if whole then { s with adt := { s.adt with adtPoison := Tab.set (fun _ => false) s.adt.adtPoison i false } } else s

/-- Advance ADT_WIDX within the entry (R114). -/
def State.adtNext (s : State) : State :=
  s.setFld ADT_WIDX.WIDX ((s.fld ADT_WIDX.WIDX + 1) % (if s.bit ADT_SEL.TBL then 16 else 8))

/-- The buffer word at ADT_WIDX. -/
def State.adtData (s : State) : Word32 := Tab.get (fun _ => 0) s.adt.buf (s.fld ADT_WIDX.WIDX)

/-- A read or write of ADT_DATA (R114). An index above 7 with the ADT selected is undefined: no operation. -/
def State.adtAccess (s : State) (write : Option Word32) : State :=
  let w := s.fld ADT_WIDX.WIDX
  if !s.bit ADT_SEL.TBL && decide (7 < w) then s.setFld ADT_STAT.CFG_REJECT 1
  else match write with
    | none => s.adtNext
    | some v => { s with adt := { s.adt with buf := Tab.set (fun _ => 0) s.adt.buf w v } }.adtNext

/-- One scrub step (R87, Table 04-23): the pass goes through the 131,072 ADT entries, then the 4,096 DPT entries. -/
def State.adtScrub (s : State) (e : EccErr) : State :=
  if !s.bit ADT_CTL.SCRUB_EN then s
  else
    let i := s.fld ADT_SCRUB.POS
    let dpt := s.adt.scrubDpt
    let last := if dpt then 4095 else 131071
    let s := { s with adt := { s.adt with scrubDpt := if i = last then !dpt else dpt } }.setFld ADT_SCRUB.POS (if i = last then 0 else i + 1)
    match e with
    | .none => s
    | .ce => (s.addSat ADT_ECC.CE_CNT 1).raise Flt.ADT_CE
    | .ue =>
      let a := s.adt
      let a := if dpt then { a with dptPoison := Tab.set (fun _ => false) a.dptPoison i true }
               else { a with adtPoison := Tab.set (fun _ => false) a.adtPoison i true }
      ({ s with adt := a }.addSat ADT_ECC.UE_CNT 1).raise Flt.ADT_UE

end Sys2Proof.Machine
end

