-- ==== Sys2Proof/Machine/Channels.lean ====
section
/-!
DEFINITION. Field channels and the Edmus link (R115 to R155, R519): frames, sequencing, acknowledgement and resend, link-up,
retrain and DOWN, SYNC and latency, partner violations and quarantine, sense messages.
-/

namespace Sys2Proof.Machine

/-- The 16 header bytes of a frame (Table 05-2). -/
def frameHeader (f : Frame) : List Byte :=
  let bit (b : Bool) (k : Nat) : Nat := if b then 2 ^ k else 0
  leBytes 1 (f.type.toNat + 16 * f.ver.toNat) ++ leBytes 1 (bit f.ackv 0 + bit f.resent 1 + bit f.safe 2 + 8 * f.rsv1.toNat) ++
  leBytes 2 (f.len.toNat + 1024 * f.rsvLen.toNat) ++ leBytes 2 f.seq.toNat ++ leBytes 2 f.ackSeq.toNat ++ leBytes 2 f.route.toNat ++
  [f.epoch] ++ [f.rcnt] ++ leBytes 4 f.rsv12.toNat

/-- The CRC a frame should carry (R121). -/
def frameCrc (f : Frame) : Word32 := crc32c (frameHeader f ++ f.payload)

/-- Is a frame received whole: its CRC matches, and its payload is the LEN bytes of its header? -/
def frameGood (f : Frame) : Bool := f.crc == frameCrc f && f.payload.length == f.len.toNat

/-- States of Table 05-5. -/
def State.fcState (s : State) (n : Nat) : Nat := s.fld (FC_STAT.STATE n)

/-- Set the state of a channel; its weir follows (R131). -/
def State.setFc (s : State) (n st : Nat) : State := (s.setFld (FC_STAT.STATE n) st).syncWeir n

/-- Does the group PLL of a channel hold lock (R116)? -/
def State.groupLocked (s : State) (n : Nat) : Bool := Tab.get (fun _ => false) s.gplls (n / 8)

def State.setGroup (s : State) (g : Nat) (v : Bool) : State :=
  { s with gplls := Tab.set (fun _ => false) s.gplls g v }

/-- Does a channel exchange frames: from symbol lock on (Table 02-4)? -/
def State.fcSends (s : State) (n : Nat) : Bool :=
  match s.fcState n with
  | 2 | 3 | 5 | 6 => true
  | 4 => (s.chan n).inHello
  | _ => (s.chan n).txOpen

/-- Registers of a field channel and its weir. -/
def inFc (n : Nat) (a : Nat) : Bool := decide (FC_CTL.addr n ≤ a ∧ a < FC_CTL.addr n + 0x1000)

/-- A commit point of FC[n] and WEIR[n] (Table 02-4). -/
def State.fcPoint (s : State) (n : Nat) : State := (s.applyStaged (inFc n)).weirPoint n

/-- A write that stages a value while the channel sends no frames is itself the commit point (Table 02-4). -/
def State.fcWritten (s : State) (n : Nat) : State := if s.fcSends n then s else s.applyStaged (inFc n)

/-- Build a frame of the device on a channel with its acknowledgement (R122). -/
def State.mkFrame (s : State) (n type : Nat) (seq : BitVec 16) (rcnt : Nat) (resent : Bool) (payload : List Byte) : Frame :=
  let c := s.chan n
  let f : Frame :=
    { ver := 1, type := BitVec.ofNat 4 type, ackv := true, resent := resent, safe := s.bit SVC_STAT.SAFE, rsv1 := 0,
      len := BitVec.ofNat 10 payload.length, rsvLen := 0, seq := seq, ackSeq := c.rxNext - 1, route := 0,
      epoch := BitVec.ofNat 8 (s.fld (FC_STAT.EPOCH n)), rcnt := BitVec.ofNat 8 rcnt, rsv12 := 0, payload := payload, crc := 0 }
  { f with crc := frameCrc f }

/-- Put a frame on the link: it carries the acknowledgement due (R124). -/
def State.putFrame (s : State) (n : Nat) (f : Frame) : State :=
  let c := s.chan n
  (s.setChan n { c with ackDue := false, lastTx := s.dt }).emit (.frame n f)

/-- Send a whole frame; its end is a commit point (Table 02-4). -/
def State.sendFrame (s : State) (n type : Nat) (payload : List Byte) : State :=
  (s.putFrame n (s.mkFrame n type 0 0 false payload)).fcPoint n

/-- Records per DATA frame by FC_CTL.MAXREC (Table 05-22). -/
def maxrecOf (v : Nat) : Nat := [1, 2, 4, 8, 16, 21].getD v 1

/-- The records-per-frame limit (R133). -/
def State.recLimit (s : State) (n : Nat) : Nat :=
  let own := maxrecOf (s.fld (FC_CTL.MAXREC n))
  match (s.chan n).partner with
  | none => own
  | some p => min own p.maxRec

/-- SYNC period by code, in ticks (Table 05-22). -/
def syncTicks (v : Nat) : Nat := [375000, 750000, 3000000, 12000000].getD v 3000000

/-- The SYNC period in use (R133): the shorter of the two. -/
def State.syncPer (s : State) (n : Nat) : Nat :=
  let own := s.fld (FC_CTL.SYNC_PER n)
  syncTicks (match (s.chan n).partner with
    | none => own
    | some p => min own p.syncMax)

/-- The cause a channel's SAFE frames carry (R148, R136); none when there is no cause. -/
def State.safeCauseOf (s : State) (n : Nat) : Option Nat :=
  if s.fcState n = 6 then some 3
  else if s.svc.pfwAt.isSome then some 2
  else if s.bit SVC_STAT.SAFE then some 1
  else none

/-- The cause of a SAFE frame that is due: one every 2 µs while a cause lasts (R136, R148), once the group PLL has locked. -/
def State.safeDue (s : State) (n : Nat) : Option Nat :=
  match s.safeCauseOf n with
  | none => none
  | some k =>
    let due := match (s.chan n).lastSafe with
      | none => true
      | some t => elapsed s.dt t (usTicks 2)
    if due && s.groupLocked n && s.fcState n != 0 && s.fcState n != 7 then some k else none

/-- Has the scheduled time of a SYNC request passed (R129, R138, Table 05-6 step 6)? -/
def State.syncDue (s : State) (n : Nat) : Bool :=
  let c := s.chan n
  let per := if s.fcState n = 3 then s.syncPer n else usTicks 10
  (s.fcState n == 3 || (c.inHello && c.helloOk && s.fcState n != 5)) && s.bit TIME_STAT.FINE_LOCK &&
  (match c.lastSync with
   | none => true
   | some t => elapsed s.dt t per)

/-- Does a frame that goes before new DATA wait: SAFE, REJECT or SYNC (R129)? -/
def State.urgentWaits (s : State) (n : Nat) : Bool :=
  (s.safeDue n).isSome || !(s.chan n).rejects.isEmpty || s.syncDue n

/-- The frame in progress ends: a commit point (Table 02-4). -/
def State.endFrame (s : State) (n : Nat) : State :=
  if (s.chan n).txOpen then (s.setChan n { s.chan n with txOpen := false }).fcPoint n else s

/-- Can the channel accept a new DATA frame (R94, R129)? -/
def State.fcAccepts (s : State) (n : Nat) : Bool :=
  let c := s.chan n
  s.fcState n == 3 && c.resend.isEmpty && c.carry.isEmpty && c.rejects.isEmpty && decide (c.unacked.length < 32) && !c.txOpen

/-- Launch records in one DATA frame (R94, R129, R143): the frame stays open until its end is sent. -/
def State.weirLaunch (s : State) (n : Nat) (fine : Fin 8) (k : Nat) : State :=
  if !(s.fcAccepts n && s.bit TIME_STAT.FINE_LOCK) || s.urgentWaits n || s.fld (WEIR_STAT.STATE n) == 0 then s
  else
    let c := s.chan n
    let depth := match c.partner with
      | none => 0
      | some p => p.armedDepth
    let tL := plc s.dt fine.val
    let (recs, s) := s.packFrame n tL depth c.txNext.toNat 64 (min k (s.recLimit n)) []
    if recs.isEmpty then s
    else
      let c := s.chan n
      let f := s.mkFrame n 2 c.txNext recs.length false (recs.flatMap (·.2))
      let s := s.setChan n { c with
        txNext := c.txNext + 1, txOpen := true,
        unacked := c.unacked ++ [{ seq := c.txNext, recs := recs, sentAt := s.dt, resends := 0 }] }
      s.putFrame n f

/-- The channel begins to stop sending normal frames: everything queued on the link side is dropped. -/
def ChanSt.clearLink (c : ChanSt) : ChanSt :=
  { c with unacked := [], carry := [], resend := [], txOpen := false, ackDue := false, nakDue := false, rejects := [],
           attempt := none, inHello := false, helloOk := false, retryAt := none, inEpisode := false, quarAt := none, own := [], relock := false,
           syncOpen := [] }

/-- An attempt of Table 05-6 starts at step `hello` (4) or 1. -/
def State.startAttempt (s : State) (n : Nat) (hello : Bool) : State :=
  let c := s.chan n
  s.setChan n { c with
    attempt := some s.dt, retryAt := none, inHello := hello, helloOk := false, lastHello := none, syncGood := 0, syncOpen := [],
    newEpoch := if c.firstUp then BitVec.ofNat 8 (s.fld (FC_STAT.EPOCH n) + 1) else 0 }

/-- A fault of class R that belongs to the link-up or recovery of a channel. DESIGN CHOICE (assumption 116): what happens from its start
to UP or DOWN is one occurrence (R116, R135, R142, R154), so that its own bits do not escalate one another. -/
def State.linkFault (s : State) (n : Nat) (b : FaultBit) : State :=
  let s := s.raiseWithin b (s.chan n).own
  s.setChan n { s.chan n with own := (b.bit :: (s.chan n).own).dedup }

/-- Is a channel about to go DOWN by a fault of this command? -/
def State.goesDown (s : State) (n : Nat) : Bool := s.due.contains (.chanDown n)

/-- A retrain episode starts (R135): `failed` when its first attempt has failed already. The frame in progress is completed first. -/
def State.startEpisode (s : State) (n : Nat) (failed : Bool) : State :=
  if s.goesDown n then s else
  let s := (s.endFrame n).linkFault n (Flt.FC_RETRAIN n)
  let s := (s.setFc n 4).setFld (FC_STAT.RTR_TRY n) (if failed then 1 else 0)
  let c := s.chan n
  let s := s.setChan n { c with inEpisode := true, resend := [], quarAt := none, attempt := none, inHello := false, helloOk := false, syncBad := 0 }
  if failed then s.setChan n { s.chan n with retryAt := some (s.dt + BitVec.ofNat 64 (usTicks 100)) }
  else s.startAttempt n false

/-- The attempt in progress fails (R131, R135, R154). -/
def State.attemptFails (s : State) (n : Nat) : State :=
  let c := s.chan n
  let again := some (s.dt + BitVec.ofNat 64 (usTicks 100))
  let idle (s : State) : State :=
    s.setChan n { s.chan n with attempt := none, inHello := false, helloOk := false, syncOpen := [], retryAt := again }
  if s.fcState n = 5 then s.startEpisode n true
  else if c.inEpisode then
    let tries := s.fld (FC_STAT.RTR_TRY n) + 1
    let s := s.setFld (FC_STAT.RTR_TRY n) (min 3 tries)
    if 3 ≤ tries then
      (s.setChan n { s.chan n with attempt := none, inHello := false, retryAt := none }).raise (Flt.FC_DOWN n)
    else idle s
  else idle (s.setFc n 1)

/-- The attempt has lasted 1 ms (R131, R154). -/
def State.attemptTimeout (s : State) (n : Nat) : State :=
  match (s.chan n).attempt with
  | none => s
  | some t => if s.fcState n ≠ 5 ∧ elapsed s.dt t (usTicks 1000) then s.attemptFails n else s

/-- A quarantine that has not reached UP in 1 ms fails (R154). -/
def State.quarTimeout (s : State) (n : Nat) : State :=
  match (s.chan n).quarAt with
  | none => s
  | some t => if s.fcState n = 5 ∧ elapsed s.dt t (usTicks 1000) then s.attemptFails n else s

/-- A further attempt, 100 µs after a failed one (R131, R135), and after relock where the group PLL was lost (R116). -/
def State.retrainAttempt (s : State) (n : Nat) : State :=
  match (s.chan n).retryAt with
  | none => s
  | some t => if (s.fcState n = 1 ∨ s.fcState n = 4) ∧ dtGe s.dt t ∧ (s.chan n).relock = false then s.startAttempt n false else s

/-- FC_CTL.EN written 1 (R131); DOWN is left by a write of 0 first (R136). -/
def State.fcEnable (s : State) (n : Nat) : State :=
  if s.bit (FC_CTL.EN n) || s.fcState n == 6 then s
  else
    let c := s.chan n
    let s := s.setChan n { ChanSt.init with xidNext := c.xidNext, xidCount := c.xidCount, lastTx := s.dt, lastRx := s.dt, lastReject := c.lastReject }
    let s := if s.bit (FC_CTL.LAT_AUTO n) then s else s.setFld (FC_LAT.LAT_FINE n) 0
    let s := ((s.setFld (FC_CTL.EN n) 1).setFld (FC_STAT.RTR_TRY n) 0).setFld (FC_STAT.TCLASS n) 0
    (s.setFc n 1).startAttempt n false

/-- FC_CTL.EN written 0 (R137), which also leads a channel out of DOWN (R136). -/
def State.fcDisable (s : State) (n : Nat) : State :=
  if (!s.bit (FC_CTL.EN n) && s.fcState n != 6) || s.fcState n == 7 then s
  else if s.bit (WEIR_CTL.EN n) then s.setFld (FC_STAT.CFG_REJECT n) 1
  else
    let c := s.chan n
    let s := s.setChan n { c.clearLink with stopAt := some s.dt }
    (s.setFc n 7).fcPoint n

/-- The stopped state (R137), and the end of the group PLL's run (R116). -/
def State.fcStopped (s : State) (n : Nat) : State :=
  match (s.chan n).stopAt with
  | none => s
  | some t =>
    if s.fcState n = 7 ∧ elapsed s.dt t (usTicks 1) then
      let s := s.setChan n { s.chan n with stopAt := none }
      let s := (s.setFld (FC_CTL.EN n) 0).setFc n 0
      if (upTo 8).any (fun i => s.bit (FC_CTL.EN (n / 8 * 8 + i))) then s else s.setGroup (n / 8) false
    else s

/-- The group PLL locks (R116): its enabled channels transmit from now on. -/
def State.groupLock (s : State) (g : Nat) : State :=
  if (upTo 8).any (fun i => s.bit (FC_CTL.EN (8 * g + i))) then
    (upTo 8).foldl (fun s i => if (s.chan (8 * g + i)).relock then s.setChan (8 * g + i) { s.chan (8 * g + i) with relock := false } else s)
      (s.setGroup g true)
  else s

/-- What a loss of the group PLL does to one channel (R116, Table 05-19). -/
def State.pllHit (s : State) (n : Nat) : State :=
  if !s.bit (FC_CTL.EN n) then s
  else
    match s.fcState n with
    | 3 | 5 => (s.linkFault n (Flt.FC_PLL n)).startEpisode n false
    | 1 | 2 | 4 =>
      let s := s.linkFault n (Flt.FC_PLL n)
      let s := if (s.chan n).attempt.isSome then s.attemptFails n else s
      s.setChan n { s.chan n with relock := true }
    -- DOWN and STOPPING record the fault alone
    | _ => s.raiseActing (Flt.FC_PLL n) .r .r 0 0 0

/-- The group PLL loses lock (R116). -/
def State.groupLoss (s : State) (g : Nat) : State :=
  if Tab.get (fun _ => false) s.gplls g then (upTo 8).foldl (fun s i => s.pllHit (8 * g + i)) (s.setGroup g false) else s

/-- Symbol lock (Table 05-6 step 3). -/
def State.symbolLock (s : State) (n : Nat) : State :=
  let c := s.chan n
  if s.groupLocked n && c.attempt.isSome && !c.inHello && (s.fcState n == 1 || s.fcState n == 4) then
    let s := s.setChan n { c with inHello := true, lastHello := none }
    if s.fcState n = 1 then s.setFc n 2 else s
  else s

/-- Loss of symbol lock while UP (R119). -/
def State.symbolLoss (s : State) (n : Nat) : State := if s.fcState n = 3 then s.startEpisode n false else s

/-- The device's HELLO payload (Table 05-7). -/
def State.helloPayload (s : State) (n : Nat) : List Byte :=
  let c := s.chan n
  leBytes 2 0x21 ++ leBytes 1 1 ++ zeros 1 ++ leBytes 2 (c.rxNext - 1).toNat ++ leBytes 1 (if c.rxAny then 1 else 0) ++ [c.newEpoch] ++
  zeros 32 ++ leBytes 1 (s.fld DEV_POS.DEVICE) ++ leBytes 1 n ++ zeros 22

/-- Send a HELLO. -/
def State.sendHello (s : State) (n : Nat) : State :=
  let s := s.setChan n { s.chan n with lastHello := some s.dt }
  s.sendFrame n 1 (s.helloPayload n)

/-- A HELLO every 10 µs until the partner's is accepted (Table 05-6 step 4). -/
def State.helloTimer (s : State) (n : Nat) : State :=
  let c := s.chan n
  let due := match c.lastHello with
    | none => true
    | some t => elapsed s.dt t (usTicks 10)
  if c.inHello && !c.helloOk && due && !c.txOpen then s.sendHello n else s

/-- Parse a HELLO of a partner (Table 05-7). -/
def partnerOf (p : List Byte) : Partner :=
  { tclass := leAt p 3 1 % 4, armedDepth := leAt p 8 2, nAct := leAt p 10 2, proc := leAt p 12 2, maxRec := leAt p 14 1,
    syncMax := leAt p 15 1, nSense := leAt p 16 2, caps := BitVec.ofNat 8 (leAt p 18 1), psafe := leAt p 19 1,
    vendor := BitVec.ofNat 32 (leAt p 20 4), product := BitVec.ofNat 32 (leAt p 24 4), serial := BitVec.ofNat 64 (leAt p 28 8),
    fwRev := BitVec.ofNat 32 (leAt p 36 4), hello := slice p 0 64 }

/-- Why a partner HELLO is refused (R133, Table 05-8); 0 when it is accepted. -/
def State.helloRefusal (s : State) (n : Nat) (f : Frame) : Nat :=
  let p := f.payload
  let c := s.chan n
  let q := partnerOf p
  let reserved := decide (4 ≤ leAt p 3 1) || decide (2 ≤ leAt p 6 1) || decide (4 ≤ leAt p 18 1) || leNat ((p.drop 42).take 22) != 0
  if f.len ≠ 64 then 0x12
  else if leAt p 2 1 ≠ 1 ∨ leAt p 0 2 ≠ 0x22 then 0x10
  else if q.tclass = 0 ∨ s.fld (FC_CTL.TMIN n) < q.tclass then 0x11
  else if q.armedDepth = 0 ∨ q.nAct = 0 ∨ 1024 < q.nAct ∨ q.maxRec = 0 ∨ 21 < q.maxRec ∨ 3 < q.syncMax ∨ q.psafe = 0 ∨ 50 < q.psafe ∨
          leAt p 7 1 ≠ c.newEpoch.toNat ∨ reserved = true then 0x12
  else match c.accepted with
    | none => 0
    | some (v, pr, se) => if v = q.vendor ∧ pr = q.product ∧ se = q.serial then 0 else 0x13

/-- Queue a REJECT (R152, Table 05-18); it carries and clears the count of unanswered violations. DESIGN CHOICE (assumption 119): with no
offending frame (SILENCE) OFF_EPOCH and OFF_SEQ are 0. -/
def State.queueReject (s : State) (n reason : Nat) (off : Option Frame) (rec_ : Nat) : State :=
  let c := s.chan n
  let r : Reject :=
    { reason := reason, supp := min 255 c.suppressed,
      offType := match off with | none => 0xFF | some f => f.type.toNat + 16 * f.ver.toNat,
      offEpoch := match off with | none => 0 | some f => f.epoch.toNat,
      offSeq := match off with | none => 0 | some f => f.seq.toNat, offRec := rec_, dt := s.dt }
  s.setChan n { c with rejects := c.rejects ++ [r], lastReject := some s.dt, suppressed := 0 }

/-- A REJECT as sent (Table 05-18). -/
def Reject.bytes (r : Reject) : List Byte :=
  leBytes 1 r.reason ++ leBytes 1 r.supp ++ leBytes 1 r.offType ++ leBytes 1 r.offEpoch ++ leBytes 2 r.offSeq ++ leBytes 2 r.offRec ++
  leBytes 8 r.dt.toNat

/-- Send the REJECT that has waited longest. -/
def State.sendReject (s : State) (n : Nat) : State :=
  match (s.chan n).rejects with
  | [] => s
  | r :: rest => (s.setChan n { s.chan n with rejects := rest }).sendFrame n 10 r.bytes

/-- Quarantine (R153). -/
def State.quarantine (s : State) (n : Nat) : State :=
  let s := (s.endFrame n).linkFault n (Flt.FC_QUAR n)
  let s := (s.setFc n 5).startAttempt n true
  s.setChan n { s.chan n with quarAt := some s.dt, resend := [] }

/-- The FC_VIOL counter of a reason. -/
def violFld (n reason : Nat) : Fld := ⟨FC_VIOL.addr n, 4 * (reason - 1) + 3, 4 * (reason - 1)⟩

/-- A partner violation while UP (R150 to R153). -/
def State.violation (s : State) (n reason : Nat) (off : Option Frame) (rec_ : Nat) : State :=
  if s.fcState n ≠ 3 then s
  else
    let s := (s.addSat (violFld n reason) 1).raise ⟨0x7, n, reason - 1⟩
    let c := s.chan n
    let thr := s.fld (FC_CTL.QTHR n)
    let times := (s.dt :: c.violTimes).take thr
    let s := s.setChan n { c with violTimes := times }
    let win := 187500 * 2 ^ s.fld (FC_CTL.QWIN n)
    let full := match times.reverse with
      | t :: _ => decide (times.length = thr) && !elapsed s.dt t (win + 1)
      | [] => false
    if full then
      (s.queueReject n 9 off rec_).quarantine n
    else
      match c.lastReject with
      | some t =>
        if elapsed s.dt t (usTicks 1) then s.queueReject n reason off rec_
        else s.setChan n { s.chan n with suppressed := min 255 (c.suppressed + 1) }
      | none => s.queueReject n reason off rec_

/-- Records and payload length a type requires (Table 05-3): the record size, the range of RCNT, or the fixed payload. -/
inductive Shape where
  | records (size lo hi : Nat) | fixed (len : Nat) | open_
  deriving DecidableEq, Repr

def shapeOf (type : Nat) : Shape :=
  match type with
  | 0 | 3 | 4 => .fixed 0
  | 1 => .fixed 64
  | 5 => .fixed 48
  | 6 | 7 | 8 => .records 16 1 32
  | 9 => .fixed 24
  | _ => .open_

/-- Sequenced types a partner sends (R122). -/
def sequenced (type : Nat) : Bool := type == 7 || type == 8 || type == 9

/-- Steps 1 to 5 of R519: the reason of the first violation, 0 when there is none. -/
def State.headerFault (s : State) (n : Nat) (f : Frame) (overrun : Bool) : Nat :=
  let t := f.type.toNat
  if overrun ∨ 512 < f.len.toNat then 3
  else if f.ver ≠ 1 ∨ 12 ≤ t then 2
  else if t = 2 ∨ t = 10 ∨ t = 11 then 7
  else if f.rsv1 ≠ 0 ∨ f.rsvLen ≠ 0 ∨ f.route ≠ 0 ∨ f.rsv12 ≠ 0 ∨ (sequenced t = false ∧ f.seq ≠ 0) ∨
    (match shapeOf t with
     | .fixed k => decide (f.len.toNat ≠ k ∨ f.rcnt ≠ 0)
     | .records z lo hi => decide (f.len.toNat ≠ z * f.rcnt.toNat ∨ f.rcnt.toNat < lo ∨ hi < f.rcnt.toNat)
     | .open_ => false) = true then 8
  else if t ≠ 1 ∧ f.epoch.toNat ≠ s.fld (FC_STAT.EPOCH n) then 1
  else 0

/-- Step 6 of R519 (Table 05-4). -/
def State.seqFault (s : State) (n : Nat) (f : Frame) : Nat :=
  let d := (f.seq - (s.chan n).rxNext).toNat
  if !sequenced f.type.toNat then 0
  else if 32 ≤ d ∧ d ≤ 32767 then 1
  else if 32768 ≤ d ∧ d ≤ 65503 then 4
  else 0

/-- Step 7 of R519 (R126). -/
def State.ackFault (s : State) (n : Nat) (f : Frame) : Nat :=
  let d := (f.ackSeq - ((s.chan n).txNext - 1)).toNat
  if f.type ≠ 1 ∧ f.ackv = true ∧ 1 ≤ d ∧ d ≤ 32767 then 5 else 0

/-- The first violation of steps 1 to 7 of R519. -/
def State.frameFault (s : State) (n : Nat) (f : Frame) (overrun : Bool) : Nat :=
  let a := s.headerFault n f overrun
  if a ≠ 0 then a
  else if s.seqFault n f ≠ 0 then s.seqFault n f
  else s.ackFault n f

/-- Cumulative acknowledgement of frames up to `a` (R125, R126): what it covers is released, and the resend keeps only what
it does not cover (Table 05-19). -/
def State.takeAck (s : State) (n : Nat) (a : BitVec 16) : State :=
  let c := s.chan n
  match c.unacked with
  | [] => s
  | o :: _ =>
    let k := (a - o.seq).toNat + 1
    if c.unacked.length < k then s
    else
      let done := c.unacked.take k
      let keep := c.unacked.drop k
      let s := s.setChan n { c with unacked := keep, resend := c.resend.filter (fun q => keep.any (fun e => e.seq == q)) }
      s.delivered n (done.flatMap (fun e => e.recs.map (·.1)))

/-- Start a go-back-N resend from a frame (R125, R127): ignored while one is in progress for it; a frame resent 7 times has failed.
DESIGN CHOICE (assumption 118): the resend of a frame is in progress until the last frame of its go-back-N run has been sent. -/
def State.startResend (s : State) (n : Nat) (q : BitVec 16) : State :=
  let c := s.chan n
  match c.unacked.find? (fun e => e.seq == q) with
  | none => s
  | some e =>
    if c.resend ≠ [] ∧ (q - c.resendAt).toNat < 32 then s
    else if 7 ≤ e.resends then s.startEpisode n false
    else s.setChan n { c with resendAt := q, resend := (c.unacked.filter (fun x => decide ((x.seq - q).toNat < 32))).map (·.seq) }

/-- The resend timeout of the oldest unacknowledged frame (R125). -/
def State.resendTimeout (s : State) (n : Nat) : State :=
  match (s.chan n).unacked with
  | [] => s
  | e :: _ => if s.fcState n = 3 ∧ elapsed s.dt e.sentAt (usTicks (s.fld (FC_CTL.RESEND_TMO n))) then s.startResend n e.seq else s

/-- A NAK falls due, at most one each µs (R124). -/
def State.wantNak (s : State) (n : Nat) : State := s.setChan n { s.chan n with nakDue := true }

/-- A frame was damaged on the link (R121, R124). DESIGN CHOICE (assumption 117): outside UP, where sequenced frames are discarded, it prompts
no NAK. -/
def State.rxBad (s : State) (n : Nat) (k : BadFrame) : State :=
  match s.fcState n with
  | 0 | 1 | 6 | 7 => s
  | st =>
    let s := s.raise (Flt.FC_LINKERR n)
    if st = 3 ∧ k ≠ .abort then s.wantNak n else s

/-- End every launched transaction of a partner that kept no records (R134). -/
def State.recordsLost (s : State) (n : Nat) : State := s.failRecs n 0x12 (fun r => r.state.flying)

/-- Entering UP in a new epoch (Table 05-6 step 7, R134). The UP that ends a quarantine clears the violation times (R153). -/
def State.goUp (s : State) (n : Nat) : State :=
  let c := s.chan n
  let k := if !c.prevValid then 0
           else match c.unacked with
             | [] => 0
             | o :: _ => let d := (c.prevAck - o.seq).toNat + 1; if d ≤ c.unacked.length then d else 0
  let s := s.delivered n ((c.unacked.take k).flatMap (fun e => e.recs.map (·.1)))
  let left := c.unacked.drop k
  let s := s.setChan n { s.chan n with
    unacked := [], carry := left ++ c.carry, resend := [], rxNext := 0, rxAny := false, txNext := 0, attempt := none,
    inHello := false, helloOk := false, retryAt := none, inEpisode := false, quarAt := none, own := [], relock := false, firstUp := true,
    violTimes := if s.fcState n = 5 then [] else c.violTimes,
    lastRx := s.dt, silences := 0, syncBad := 0, ackDue := false, nakDue := false }
  let s := (s.setFld (FC_STAT.EPOCH n) c.newEpoch.toNat).setFc n 3
  s.recovered 0x7 n

/-- The partner's HELLO in an attempt (Table 05-6 step 5, R133, R134, R153); `answer` when it arrived while UP (R135). -/
def State.takeHello (s : State) (n : Nat) (f : Frame) (answer : Bool) : State :=
  let r := s.helloRefusal n f
  if r ≠ 0 then
    ((s.queueReject n r (some f) 0xFFFF).sendReject n |>.linkFault n (Flt.FC_HELLO_BAD n)).attemptFails n
  else
    let p := partnerOf f.payload
    let valid := leAt f.payload 6 1 % 2 == 1
    let c := s.chan n
    let s := s.setChan n { c with
      partner := some p, accepted := some (p.vendor, p.product, p.serial), helloOk := true, lastSync := none, syncGood := 0,
      -- step 6 takes Lat from its own exchanges; a quarantine runs no step 6
      delays := if s.fcState n = 5 then c.delays else [], prevAck := BitVec.ofNat 16 (leAt f.payload 4 2), prevValid := valid }
    let s := s.setFld (FC_STAT.TCLASS n) p.tclass
    let s := if c.firstUp && !valid then s.recordsLost n else s
    let s := if answer then s.sendHello n else s
    if s.fcState n = 5 then s.goUp n else s

/-- A partner HELLO while UP (R135): the first attempt of an episode begins at step 5. -/
def State.helloWhileUp (s : State) (n : Nat) (f : Frame) : State :=
  let s := s.startEpisode n false
  if s.fcState n ≠ 4 then s
  else
    let s := s.setChan n { s.chan n with inHello := true }
    s.takeHello n f true

/-- Measured Lat from the delays in use, in fine ticks (R139): D is the mean of the halves of the last 8 valid round trips. -/
def latFine (rtts : List Int) (recs proc : Nat) : Nat :=
  let k := rtts.length
  let sum := rtts.foldl (· + ·) 0
  let d : Int := if k = 0 then 0 else -((-sum) / (16 * (k : Int)))
  (d + 8 * (10 * (22 + 24 * recs) + proc)).toNat

/-- Filtered one-way delay in 1/8 fine tick. DESIGN CHOICE (assumption 120): the mean is rounded down. -/
def delayOf (rtts : List Int) : Int :=
  if rtts.isEmpty then 0 else rtts.foldl (· + ·) 0 / (2 * rtts.length)

/-- A missed or discarded SYNC exchange (R142). -/
def State.syncBad (s : State) (n : Nat) : State :=
  if s.fcState n ≠ 3 then s
  else
    let k := (s.chan n).syncBad + 1
    let s := s.setChan n { s.chan n with syncBad := k }
    if k = 16 then (s.linkFault n (Flt.FC_SYNCLOSS n)).startEpisode n false else s

/-- Send a SYNC REQ (R138, R139). -/
def State.sendSync (s : State) (n : Nat) (fine : Fin 8) : State :=
  let c := s.chan n
  let q := c.syncSeq + 1
  let body := leBytes 2 0x11 ++ zeros 2 ++ leBytes 4 q.toNat ++ leBytes 8 s.dt.toNat ++ zeros 16 ++ leBytes 2 fine.val ++ zeros 2 ++
    leBytes 4 ((c.ofsCorr.getD 0) % 2 ^ 32).toNat ++ leBytes 4 ((delayOf c.delays) % 2 ^ 32).toNat ++ zeros 4
  let s := s.setChan n { c with syncSeq := q, syncOpen := c.syncOpen ++ [(q, plc s.dt fine.val)], lastSync := some s.dt, ofsCorr := none }
  s.sendFrame n 5 body

/-- The SYNC period ends (R138, Table 05-6 step 6): the REQ leaves unless a frame is in progress or one of higher priority waits
(R129). -/
def State.syncReq (s : State) (n : Nat) (fine : Fin 8) : State :=
  if s.syncDue n && !(s.chan n).txOpen && (s.safeDue n).isNone && (s.chan n).rejects.isEmpty then s.sendSync n fine else s

/-- A RESP that has not arrived 20 µs after its REQ is missed (R138). -/
def State.syncMissed (s : State) (n : Nat) : State :=
  match (s.chan n).syncOpen with
  | [] => s
  | (_, t1) :: rest =>
    if 480000 ≤ plcDiff (plc s.dt 0) t1 then (s.setChan n { s.chan n with syncOpen := rest }).syncBad n else s

/-- A valid exchange changes Lat (R140): staged by the channel when it differs by 8 fine ticks or more. -/
def State.latUpdate (s : State) (n lat : Nat) : State :=
  let c := { s.chan n with latMeas := some lat }
  let s := s.setChan n c
  let diff := ((lat : Int) - s.lat n).natAbs
  if s.bit (FC_CTL.LAT_AUTO n) && decide (8 ≤ diff) then
    s.setChan n { c with latAuto := some (min (lat / 8) 0xFFFFF, lat % 8) }
  else s

/-- Does the payload of a SYNC RESP hold no reserved field and no undefined code (Table 05-9)? -/
def syncPayloadOk (p : List Byte) : Bool :=
  leAt p 0 2 == 0x12 && leAt p 2 2 == 0 && decide (leAt p 32 2 < 512) && leAt p 34 2 == 0 && leAt p 36 4 == 0 && leAt p 40 4 == 0 && leAt p 44 4 == 0

/-- A SYNC RESP arrives at its ingress stamp (R138, R139). DESIGN CHOICE (assumption 120): the best of the last 16 round trips is taken over
the exchange at hand and the 15 answered before it, discarded ones included. -/
def State.syncResp (s : State) (n : Nat) (p : List Byte) (fine : Fin 8) : State :=
  let c := s.chan n
  match c.syncOpen.find? (fun e => e.1.toNat == leAt p 4 4) with
  | none => s
  | some (q, t1) =>
      let fn := leAt p 32 2
      let t2 := plc (BitVec.ofNat 64 (leAt p 16 8)) (fn / 8 % 8)
      let t3 := plc (BitVec.ofNat 64 (leAt p 24 8)) (fn / 64 % 8)
      let t4 := plc s.dt fine.val
      let rtt := 8 * (plcDiff t4 t1 - plcDiff t3 t2)
      let seen := (rtt :: c.rtts).take 16
      let least := seen.foldl min rtt
      let s := s.setChan n { c with syncOpen := c.syncOpen.filter (fun e => e.1 != q), rtts := seen }
      if least + 384 < rtt then s.syncBad n
      else
        let theta := 8 * (plcDiff t2 t1 - plcDiff t4 t3) / 2
        let c := s.chan n
        let delays := (rtt :: c.delays).take 8
        let s := s.setChan n { c with delays := delays, ofsCorr := some theta, syncBad := 0, syncGood := c.syncGood + 1 }
        let proc := match c.partner with
          | none => 0
          | some p => p.proc
        let s := s.latUpdate n (latFine delays (s.recLimit n) proc)
        if (s.fcState n = 2 ∨ s.fcState n = 4) ∧ c.helloOk = true ∧ 4 ≤ c.syncGood + 1 then s.goUp n else s

/-- A 32-byte sense message (Table 05-15). -/
def senseMsg (kind chan : Nat) (a b c : List Byte) : List Byte :=
  leBytes 1 kind ++ leBytes 1 chan ++ zeros 6 ++ slice a 0 8 ++ slice b 0 8 ++ slice c 0 8

/-- Post a sense or status message (R147): refused messages wait to be tried again. -/
def State.postSense (s : State) (n : Nat) (m : SenseMsg) : State :=
  if !s.bit (FC_LAT.SQ_EN n) then s
  else
    let (ok, s) := s.postMsg (s.fld (FC_LAT.SQ_BASIN n)) (s.fld (FC_LAT.SQ_QUEUE n)) m.bytes
    if ok then s
    else if elapsed s.dt m.since (usTicks 100) then s.raise (Flt.FC_SENSE_DROP n)
    else s.setChan n { s.chan n with senseQ := (s.chan n).senseQ ++ [m] }

/-- Refused sense messages are tried again (R147). -/
def State.senseRetry (s : State) (n : Nat) : State :=
  let q := (s.chan n).senseQ
  q.foldl (fun s m => s.postSense n m) (s.setChan n { s.chan n with senseQ := [] })

/-- The records of a payload. -/
def recordsOf (p : List Byte) (k : Nat) : List (List Byte) := (List.range k).map (fun i => slice p (16 * i) 16)

/-- A SENSE record has no reserved field set and a defined KIND (Table 05-14). -/
def senseOk (b : List Byte) : Bool := decide (leAt b 2 1 ≤ 2) && leAt b 3 1 == 0 && decide (leAt b 4 1 < 8)

/-- An ANGLE record has no reserved field set (Table 05-14). -/
def angleOk (b : List Byte) : Bool := decide (leAt b 4 1 < 16) && leAt b 5 3 == 0

/-- Handle the records of a frame one by one (R519 step 8): the first failing one names one violation BAD_RECORD. -/
def State.eachRecord (s : State) (n : Nat) (f : Frame) (h : State → List Byte → Bool × State) : State :=
  let r := (recordsOf f.payload f.rcnt.toNat).foldl (fun (acc : State × Nat × Option Nat) b =>
    let (ok, s) := h acc.1 b
    (s, acc.2.1 + 1, if ok then acc.2.2 else some (acc.2.2.getD acc.2.1))) (s, 0, none)
  match r.2.2 with
  | none => r.1
  | some i => r.1.violation n 8 (some f) i

/-- An ANGLE record goes to every tracker sourced from the channel (R146), and through each to the weirs. -/
def State.angleRecord (s : State) (n : Nat) (b : List Byte) : Bool × State :=
  if !angleOk b then (false, s)
  else
    let t := plc (BitVec.ofNat 64 (leAt b 8 8)) (leAt b 4 1 % 8)
    (true, (upTo 16).foldl (fun s a =>
      if s.bit (AX_CTL.EN a) && s.bit (AX_CTL.SRCT a) && s.fld (AX_CTL.SRCI a) == n then (s.angleTo a (signed 32 (leAt b 0 4)) t).trackerFeeds a
      else s) s)

/-- What a frame accepted by the link carries (R139, R145 to R147). -/
def State.frameContent (s : State) (n : Nat) (f : Frame) (fine : Fin 8) : State :=
  match f.type.toNat with
  | 5 => if syncPayloadOk f.payload then s.syncResp n f.payload fine else s.violation n 8 (some f) 0xFFFF
  | 6 => s.withRevolution (fun s => s.eachRecord n f (fun s b => s.angleRecord n b))
  | 7 => s.eachRecord n f (fun s b => s.verifyRecord n b)
  | 8 => s.eachRecord n f (fun s b =>
      if senseOk b then (true, s.postSense n { since := s.dt, bytes := senseMsg 1 n b (b.drop 8) (leBytes 8 s.dt.toNat) }) else (false, s))
  | 9 =>
    if 32 ≤ leAt f.payload 0 1 ∨ leAt f.payload 1 1 ≠ 0 then s.violation n 8 (some f) 0xFFFF
    else
      let s := if leAt f.payload 0 1 / 2 % 16 ≠ 0 then s.raise (Flt.FC_PARTNER n) else s
      s.postSense n { since := s.dt, bytes := senseMsg 2 n f.payload (f.payload.drop 8) (f.payload.drop 16) }
  | _ => s

/-- The link layer of a frame with a good CRC while UP (R519, R123 to R127). -/
def State.linkUp (s : State) (n : Nat) (f : Frame) (fine : Fin 8) (overrun : Bool) : State :=
  let v := s.frameFault n f overrun
  if v ≠ 0 then s.violation n v (some f) 0xFFFF
  else
    let s := s.setChan n { s.chan n with lastRx := s.dt, silences := 0 }
    if f.type = 1 then s.helloWhileUp n f
    else
      let s := if f.ackv then s.takeAck n f.ackSeq else s
      let s := if f.type = 4 then s.startResend n (f.ackSeq + 1) else s
      if s.fcState n ≠ 3 then s
      else if !sequenced f.type.toNat then s.frameContent n f fine
      else
        let c := s.chan n
        let d := (f.seq - c.rxNext).toNat
        if d = 0 then
          (s.setChan n { c with rxNext := c.rxNext + 1, rxAny := true, ackDue := true }).frameContent n f fine
        else if d ≤ 31 then s.wantNak n
        else s.setChan n { c with ackDue := true }

/-- Reception of a frame in any state (R131, R136, R121). -/
def State.rxFrame (s : State) (n : Nat) (f : Frame) (fine : Fin 8) (overrun : Bool) : State :=
  match s.fcState n with
  | 0 | 1 | 6 | 7 => s
  | 3 => if overrun || frameGood f then s.linkUp n f fine overrun else s.rxBad n .crc
  | _ =>
    if overrun then s
    else if !frameGood f then s.rxBad n .crc
    else
      let c := s.chan n
      if f.type = 1 then (if c.inHello && !c.helloOk then s.takeHello n f false else s)
      else if f.type = 0 then (if s.frameFault n f false = 0 ∧ f.ackv = true then s.takeAck n f.ackSeq else s)
      else if f.type = 5 ∧ c.inHello = true ∧ f.ver = 1 ∧ f.len = 48 ∧ syncPayloadOk f.payload = true then s.syncResp n f.payload fine
      else s

/-- Silence while UP (R130). -/
def State.silence (s : State) (n : Nat) : State :=
  let c := s.chan n
  if s.fcState n = 3 ∧ elapsed s.dt c.lastRx (usTicks 40 * (c.silences + 1)) then
    (s.setChan n { c with silences := c.silences + 1 }).violation n 6 none 0xFFFF
  else s

/-- Does a NAK wait that may be sent now: at most one each µs (R124)? -/
def State.nakWaits (s : State) (n : Nat) : Bool :=
  (s.chan n).nakDue && (match (s.chan n).lastNak with
    | none => true
    | some t => elapsed s.dt t (usTicks 1))

/-- A keep-alive after 4 µs without sending (R130), in every state in which the channel exchanges frames, once nothing of higher
priority waits (R129). -/
def State.keepAlive (s : State) (n : Nat) : State :=
  let c := s.chan n
  let waits := c.txOpen || s.urgentWaits n ||
    (s.fcState n == 3 && (!c.resend.isEmpty || !c.carry.isEmpty || s.nakWaits n || c.ackDue))
  if s.fcSends n && s.fcState n != 6 && s.fcState n != 7 && elapsed s.dt c.lastTx (usTicks 4) && !waits then s.sendFrame n 0 [] else s

/-- Send one frame of a go-back-N resend (R125, R128). -/
def State.sendResend (s : State) (n : Nat) (q : BitVec 16) (rest : List (BitVec 16)) (fine : Fin 8) : State :=
  let s := s.setChan n { s.chan n with resend := rest }
  match (s.chan n).unacked.find? (fun e => e.seq == q) with
  | none => s
  | some e =>
    let (recs, s) := s.resendFilter n (plc s.dt fine.val) e.recs
    let c := s.chan n
    let e' := { e with recs := recs, sentAt := s.dt, resends := e.resends + 1 }
    let s := s.setChan n { c with unacked := c.unacked.map (fun x => if x.seq = q then e' else x) }
    (s.putFrame n (s.mkFrame n 2 q recs.length true (recs.flatMap (·.2)))).fcPoint n

/-- Send one frame of the previous epoch as a new frame, with the records that remain, even if none do (R128, R134). -/
def State.sendCarry (s : State) (n : Nat) (e : TxFrame) (rest : List TxFrame) (fine : Fin 8) : State :=
  let (recs, s) := s.resendFilter n (plc s.dt fine.val) e.recs
  let c := { s.chan n with carry := rest }
  let q := c.txNext
  let s := s.setChan n { c with txNext := q + 1, unacked := c.unacked ++ [{ seq := q, recs := recs, sentAt := s.dt, resends := 0 }] }
  (s.putFrame n (s.mkFrame n 2 q recs.length false (recs.flatMap (·.2)))).fcPoint n

/-- A SAFE frame (R148). -/
def State.sendSafe (s : State) (n cause : Nat) : State :=
  let s := s.setChan n { s.chan n with lastSafe := some s.dt }
  let s := if s.svc.firstSafe.isNone && cause != 3 then { s with svc := { s.svc with firstSafe := some s.dt } } else s
  s.sendFrame n 11 (leBytes 1 cause ++ zeros 7 ++ leBytes 8 s.dt.toNat)

/-- The channel's transmitter (R129): it ends the frame in progress, or sends its next frame by priority. New DATA, which goes before
NAK, ACK and IDLE, is the weir's own command. -/
def State.fcTransmit (s : State) (n : Nat) (fine : Fin 8) : State :=
  let c := s.chan n
  if c.txOpen then s.endFrame n
  else match s.safeDue n with
  | some k => s.sendSafe n k
  | none =>
    if !s.fcSends n || s.fcState n == 6 then s
    else if !c.rejects.isEmpty then s.sendReject n
    else if s.syncDue n then s.sendSync n fine
    else if s.fcState n ≠ 3 then s.keepAlive n
    else match c.resend, c.carry with
      | q :: rest, _ => s.sendResend n q rest fine
      | [], e :: rest => if c.unacked.length < 32 then s.sendCarry n e rest fine else s
      | [], [] =>
        if s.nakWaits n then (s.setChan n { c with nakDue := false, lastNak := some s.dt }).sendFrame n 4 []
        else if c.ackDue then s.sendFrame n 3 []
        else s.keepAlive n

/-- The timer of SAFE frames (R136, R148). -/
def State.safeTimer (s : State) (n : Nat) : State :=
  match s.safeDue n with
  | none => s
  | some k => if (s.chan n).txOpen then s else s.sendSafe n k

/-- The device enters the safe state, as a channel sees it (R148): the frame in progress is aborted with K30.7 and its resend is
abandoned; records of transactions that the safe state ends are not sent again. -/
def State.chanSafe (s : State) (n : Nat) : State :=
  match s.fcState n with
  | 0 | 6 | 7 => s
  | _ =>
    let c := s.chan n
    let s := s.setChan n { c with txOpen := false, resend := [], lastSafe := none }
    if c.txOpen then ((s.setChan n { s.chan n with lastTx := s.dt }).emit (.abort n)).fcPoint n else s

/-- The channel goes DOWN (R136, Table 04-11), from whatever state it is in. -/
def State.chanDown (s : State) (n : Nat) : State :=
  let s := s.markBit (Flt.FC_DOWN n)
  if s.fcState n = 6 then s
  else
    let s := s.setChan n { (s.chan n).clearLink with lastSafe := none, stopAt := none }
    let s := (s.setFld (FC_STAT.STATE n) 6).failRecs n 0x30 (fun _ => true)
    let s := s.syncWeir n
    (upTo 16).foldl (fun s a => if s.angleFed a && s.fld (AX_CTL.SRCI a) == n then s.srcLost a else s) s

/-- FC_CTL.VIOL_CLR (R150). -/
def State.violClear (s : State) (n : Nat) : State :=
  (upTo 8).foldl (fun s k => s.setFld (violFld n (k + 1)) 0) s

/-- LAT_DEV (Table 05-23): measured Lat minus Lat in force, in ticks, rounded toward zero, saturating at ±63. -/
def State.latDev (s : State) (n : Nat) : Int :=
  match (s.chan n).latMeas with
  | none => 0
  | some l => max (-63) (min 63 (((l : Int) - s.lat n).tdiv 8))

end Sys2Proof.Machine
end

