-- ==== Sys2Proof/Machine/Tier.lean ====
section
/-!
DEFINITION. Tier links (R458 to R468, R473): numbering, frames, sequencing and resend, link-up and retrain, fragments,
reassembly and routing. What messages mean is in TierMsgs.
-/

namespace Sys2Proof.Machine

def State.tierState (s : State) (t : Nat) : Nat := s.fld (TIER_STAT.STATE t)

def State.setTier (s : State) (t st : Nat) : State := s.setFld (TIER_STAT.STATE t) st

/-- Does a port face the manager (R458)? -/
def State.upPort (s : State) (t : Nat) : Bool := s.isWorker && t == 0

/-- The number of the device on a downstream port (Table 16-1); 64 is the position that holds no device. -/
def State.childNum (s : State) (t : Nat) : Nat := if s.isWorker then 9 + 7 * (s.tree.num - 1) + (t - 1) else 1 + t

/-- May a downstream port hold a worker (R458)? -/
def State.portAllowed (s : State) (t : Nat) : Bool := s.upPort t || (decide (s.tree.depth < 2) && decide (s.childNum t < 64))

/-- Registers of a tier port. -/
def inTier (t : Nat) (a : Nat) : Bool := decide (TIER_CTL.addr t ≤ a ∧ a < TIER_CTL.addr t + 0x1000)

/-- Does a port send frames? -/
def State.tierSends (s : State) (t : Nat) : Bool :=
  match s.tierState t with
  | 2 | 3 => true
  | 4 => (s.tport t).lock
  | _ => false

/-- The routes a port would have after the commit, as a mask. -/
def State.nextRoute (s : State) (t : Nat) : Nat :=
  if s.upPort t then 0 else s.nextVal (TIER_ROUTE_LO.ROUTE t) + s.nextVal (TIER_ROUTE_HI.ROUTE t) * 2 ^ 32

/-- The check of the TIER routing group (Table 02-5): no device is reached by two ports. -/
def State.routesOk (s : State) : Bool :=
  (upTo 8).all (fun t => (upTo 8).all (fun u => t == u || s.nextRoute t &&& s.nextRoute u == 0))

def State.routesStaged (s : State) : Bool :=
  (upTo 8).any (fun t => (s.stagedVal (TIER_ROUTE_LO.ROUTE t)).isSome || (s.stagedVal (TIER_ROUTE_HI.ROUTE t)).isSome)

/-- The commit of the routing group as port `t` meets it at a frame end (R44 to R46): ports that send no frames apply with
the first that does. -/
def State.routePoint (s : State) (t : Nat) : State :=
  let on := s.bit (TIER_CTL.COMMIT 0) || (s.bit DEV_CFGMODE.IMM_TIER && s.routesStaged)
  if !on then s
  else if !s.routesStaged then s.setFld (TIER_CTL.COMMIT 0) 0
  else if !s.routesOk then
    let s := (upTo 8).foldl (fun s u => (s.stage (TIER_ROUTE_LO.ROUTE u) none).stage (TIER_ROUTE_HI.ROUTE u) none) s
    (s.setFld (TIER_CTL.COMMIT 0) 0).setFld (TIER_STAT.CFG_MISMATCH 0) 1
  else
    let s := (upTo 8).foldl (fun s u =>
      if u = t ∨ !s.tierSends u then (s.apply (TIER_ROUTE_LO.ROUTE u)).apply (TIER_ROUTE_HI.ROUTE u) else s) s
    if s.routesStaged then s else s.setFld (TIER_CTL.COMMIT 0) 0

/-- The commit point of a port: the end of a frame it transmits (Table 02-4). -/
def State.tierPoint (s : State) (t : Nat) : State := (s.applyStaged (inTier t)).routePoint t

/-- TIER_CTL.COMMIT of TIER[0] written (R44): with no port sending frames the write is itself the commit point. -/
def State.routeCommit (s : State) : State :=
  let s := s.setFld (TIER_CTL.COMMIT 0) 1
  if (upTo 8).any s.tierSends then s else s.routePoint 0

/-- Build a frame of a port (R461, Table 16-3). -/
def State.mkTier (s : State) (t type : Nat) (seq route : BitVec 16) (resent : Bool) (payload : List Byte) : Frame :=
  let p := s.tport t
  let f : Frame :=
    { ver := 1, type := BitVec.ofNat 4 type, ackv := true, resent := resent, safe := s.bit SVC_STAT.SAFE, rsv1 := 0,
      len := BitVec.ofNat 10 payload.length, rsvLen := 0, seq := seq, ackSeq := p.rxNext - 1, route := route,
      epoch := p.epoch, rcnt := 0, rsv12 := 0, payload := payload, crc := 0 }
  { f with crc := frameCrc f }

/-- Send a frame; its end is a commit point. -/
def State.putTier (s : State) (t : Nat) (f : Frame) : State :=
  let p := s.tport t
  ((s.setTport t { p with ackDue := false, lastTx := s.dt }).emit (.tier t f)).tierPoint t

/-- The HELLO of a port (Table 16-6). -/
def State.tierHello (s : State) (t : Nat) : List Byte :=
  let p := s.tport t
  let up := s.upPort t
  leBytes 2 (if up then 0x32 else 0x31) ++ leBytes 1 1 ++ leBytes 1 (if s.isWorker then 1 else 0) ++ leBytes 2 (p.rxNext - 1).toNat ++
  leBytes 1 (if p.rxAny then 1 else 0) ++ [p.newEpoch] ++ leBytes 1 (if up then s.tree.num else s.childNum t) ++
  leBytes 1 (if up then s.tree.depth else s.tree.depth + 1) ++ leBytes 1 t ++ zeros 1 ++ leBytes 8 Config.serial.toNat ++
  leBytes 4 s.pwr.fwVer.toNat ++ zeros 40

def State.sendTierHello (s : State) (t : Nat) : State :=
  let s := s.setTport t { s.tport t with lastHello := some s.dt }
  s.putTier t (s.mkTier t 1 0 0 false (s.tierHello t))

/-- Start an attempt of link-up (R464): a port that still holds block lock goes to HELLO at once. -/
def State.tierAttempt (s : State) (t : Nat) : State :=
  let p := s.tport t
  let s := s.setTport t { p with
    attempt := some s.dt, retryAt := none, helloOk := false, lastHello := none, newEpoch := if p.firstUp then p.epoch + 1 else 0 }
  if p.lock && s.tierState t == 1 then s.setTier t 2 else s

/-- A retrain episode starts (R465). Messages in reassembly are kept: their fragments are sent again in the new epoch (R134). -/
def State.tierEpisode (s : State) (t : Nat) : State :=
  let s := s.raise (Flt.TIER_RETRAIN t)
  let s := (s.setTier t 4).setFld (TIER_STAT.RTR_TRY t) 0
  let s := s.setTport t { s.tport t with episode := some s.dt, resend := [] }
  s.tierAttempt t

/-- The attempt in progress fails (R464, R465). -/
def State.tierFails (s : State) (t : Nat) : State :=
  let p := s.tport t
  let idle (s : State) : State :=
    s.setTport t { s.tport t with attempt := none, helloOk := false, retryAt := some (s.dt + BitVec.ofNat 64 (usTicks 100)) }
  if p.episode.isSome then
    let tries := s.fld (TIER_STAT.RTR_TRY t) + 1
    let s := s.setFld (TIER_STAT.RTR_TRY t) (min 3 tries)
    if 3 ≤ tries then (s.setTport t { s.tport t with attempt := none, retryAt := none }).raise (Flt.TIER_DOWN t) else idle s
  else idle (s.setTier t 1)

/-- An attempt not UP within 500 µs fails (R464). -/
def State.tierTimeout (s : State) (t : Nat) : State :=
  match (s.tport t).attempt with
  | none => s
  | some a => if elapsed s.dt a (usTicks 500) then s.tierFails t else s

/-- A further attempt, 100 µs after a failed one. -/
def State.tierRetry (s : State) (t : Nat) : State :=
  match (s.tport t).retryAt with
  | none => s
  | some a => if (s.tierState t = 1 ∨ s.tierState t = 4) ∧ dtGe s.dt a then s.tierAttempt t else s

/-- TIER_CTL.EN written 1 (R465). -/
def State.tierOn (s : State) (t : Nat) : State :=
  if s.bit (TIER_CTL.EN t) && s.tierState t != 0 then s
  else if !s.portAllowed t then s.setFld (TIER_STAT.CFG_REJECT t) 1
  else
    let s := s.setTport t { TierPort.init with lastTx := s.dt, lastRx := s.dt, bootTries := (s.tport t).bootTries }
    let s := ((s.setFld (TIER_CTL.EN t) 1).setFld (TIER_STAT.RTR_TRY t) 0).setBit (TIER_STAT.UP_PORT t) (s.upPort t)
    (s.setTier t 1).tierAttempt t

/-- TIER_CTL.EN written 0 (R465): the port is DISABLED and drops what it held. -/
def State.tierOff (s : State) (t : Nat) : State :=
  ((s.setTport t { TierPort.init with peerSerial := (s.tport t).peerSerial, peerFw := (s.tport t).peerFw }).setFld (TIER_CTL.EN t) 0).setTier t 0

/-- Block lock gained (R460, R464). -/
def State.lockGained (s : State) (t : Nat) : State :=
  let p := s.tport t
  if p.lock || s.tierState t == 0 || s.tierState t == 5 then s
  else
    let s := s.setTport t { p with lock := true, lastHello := none }
    if p.attempt.isSome && s.tierState t == 1 then s.setTier t 2 else s

/-- Block lock lost (R460, R465). -/
def State.lockLost (s : State) (t : Nat) : State :=
  let s := s.setTport t { s.tport t with lock := false }
  match s.tierState t with
  | 3 => s.tierEpisode t
  | 2 => s.setTier t 1
  | _ => s

/-- A HELLO every 10 µs (R464); a child answers its parent's, and sends of itself only to restart a link. -/
def State.tierHelloTimer (s : State) (t : Nat) : State :=
  let p := s.tport t
  let due := match p.lastHello with
    | none => true
    | some a => elapsed s.dt a (usTicks 10)
  if (s.tierState t == 2 || (s.tierState t == 4 && p.lock && p.attempt.isSome)) && due && (!s.upPort t || p.helloOk || p.firstUp) then
    s.sendTierHello t
  else s

/-- Is a HELLO refused (R464)? -/
def State.tierRefuses (s : State) (t : Nat) (f : Frame) : Bool :=
  let b := f.payload
  let up := s.upPort t
  f.len != 64 || leAt b 2 1 != 1 || leAt b 0 2 != (if up then 0x31 else 0x32) || decide (2 < leAt b 9 1) || decide (63 < leAt b 8 1) ||
  decide (2 ≤ leAt b 6 1) || leAt b 11 1 != 0 || leNat ((b.drop 24).take 40) != 0 || decide (1 < leAt b 3 1) ||
  (!up && (leAt b 3 1 == 0 || leAt b 8 1 != s.childNum t || leAt b 7 1 != (s.tport t).newEpoch.toNat || !s.portAllowed t))

/-- The port reaches UP in a new epoch (R464, R134): frames the peer did not receive are sent again. -/
def State.tierUp (s : State) (t : Nat) : State :=
  let p := s.tport t
  let k := if !p.prevValid then 0
           else match p.unacked with
             | [] => 0
             | o :: _ => let d := (p.prevAck - o.seq).toNat + 1; if d ≤ p.unacked.length then d else 0
  let left := (p.unacked.drop k).map (fun e => (e.route, e.payload))
  let s := s.setTport t { p with
    unacked := [], carry := left ++ p.carry, resend := [], rxNext := 0, rxAny := false, txNext := 0, attempt := none,
    helloOk := false, retryAt := none, episode := none, firstUp := true, violTimes := [], lastRx := s.dt, ackDue := false,
    nakDue := false, epoch := p.newEpoch }
  let (c, s) := s.fresh
  let s := s.setFld (FF_ASYM.MEAS t) (Config.free c)
  let s := (s.setTier t 3).recovered 0xE t
  { s with due := s.due ++ [.joined t p.episode.isSome] }

/-- A HELLO in an attempt (R464); `answer` when it must be answered before UP. -/
def State.takeTierHello (s : State) (t : Nat) (f : Frame) (answer : Bool) : State :=
  if s.tierRefuses t f then s.tierFails t
  else
    let b := f.payload
    let up := s.upPort t
    let p := s.tport t
    let s := s.setTport t { p with
      helloOk := true, prevAck := BitVec.ofNat 16 (leAt b 4 2), prevValid := leAt b 6 1 == 1,
      newEpoch := if up then BitVec.ofNat 8 (leAt b 7 1) else p.newEpoch,
      peerSerial := BitVec.ofNat 64 (leAt b 12 8), peerFw := BitVec.ofNat 32 (leAt b 20 4) }
    let s :=
      if up then
        let num := leAt b 8 1
        let depth := leAt b 9 1
        let s := { s with tree := { s.tree with num := num, depth := depth } }
        let s := (s.setFld DEV_POS.DEVICE num).setFld DEV_POS.DEPTH depth
        s.setFld (TIER_STAT.PEER t) (if depth = 2 then 1 + (num - 9) / 7 else 0)
      else s.setFld (TIER_STAT.PEER t) (s.childNum t)
    let s := if up || answer then s.sendTierHello t else s
    s.tierUp t

/-- A tier violation (Table 16-3). DESIGN CHOICE (assumption 130): the violations counted are those since the port was last UP. -/
def State.tierViolation (s : State) (t : Nat) : State :=
  if s.tierState t ≠ 3 then s
  else
    let s := (s.addSat (TIER_STAT.VIOL t) 1).raise (Flt.TIER_VIOL t)
    let p := s.tport t
    let times := (s.dt :: p.violTimes).take 16
    let s := s.setTport t { p with violTimes := times }
    match times.reverse with
    | a :: _ => if times.length = 16 ∧ !elapsed s.dt a (usTicks 1000 + 1) then s.tierEpisode t else s
    | [] => s

/-- Does a firefly payload keep Table 03-7: KIND is REQ or RESP and the reserved bits are 0? -/
def syncGood (b : List Byte) : Bool :=
  (leAt b 0 2 == 1 || leAt b 0 2 == 2) && decide (leAt b 32 2 < 2 ^ 9) && leAt b 34 2 == 0

/-- Does a frame break a rule of R461 before sequencing? -/
def State.tierBad (s : State) (t : Nat) (f : Frame) : Bool :=
  let ty := f.type.toNat
  let known := decide (ty ≤ 5) || ty == 0xB
  let fixed := match ty with
    | 0 | 3 | 4 => f.len.toNat == 0
    | 1 => f.len.toNat == 64
    | 5 => f.len.toNat == 48
    | 0xB => f.len.toNat == 16
    | _ => decide (16 ≤ f.len.toNat ∧ f.len.toNat ≤ 512)
  let route := decide (4096 ≤ f.route.toNat) || ((ty == 0 || ty == 3 || ty == 4 || ty == 0xB) && f.route != 0)
  !known || f.ver != 1 || f.rsv1 != 0 || f.rsvLen != 0 || f.rsv12 != 0 || f.rcnt != 0 || !fixed || route ||
  (ty == 5 && !syncGood f.payload) || (ty != 2 && f.seq != 0) || (ty != 1 && f.epoch != (s.tport t).epoch) ||
  (ty == 2 && (let d := (f.seq - (s.tport t).rxNext).toNat; decide (32 ≤ d ∧ d ≤ 65503))) ||
  (ty != 1 && f.ackv && (let d := (f.ackSeq - ((s.tport t).txNext - 1)).toNat; decide (1 ≤ d ∧ d ≤ 32767)))

/-- A cumulative acknowledgement (R125, R126). -/
def State.tierAck (s : State) (t : Nat) (a : BitVec 16) : State :=
  let p := s.tport t
  match p.unacked with
  | [] => s
  | o :: _ =>
    let k := (a - o.seq).toNat + 1
    if p.unacked.length < k then s
    else
      let keep := p.unacked.drop k
      s.setTport t { p with unacked := keep, resend := p.resend.filter (fun q => keep.any (fun e => e.seq == q)) }

/-- Start a go-back-N resend (R125), as a field channel does; a frame resent 7 times has failed (R127). -/
def State.tierResend (s : State) (t : Nat) (q : BitVec 16) : State :=
  let p := s.tport t
  match p.unacked.find? (fun e => e.seq == q) with
  | none => s
  | some e =>
    if p.resend ≠ [] ∧ (q - p.resendAt).toNat < 32 then s
    else if 7 ≤ e.resends then s.tierEpisode t
    else s.setTport t { p with resendAt := q, resend := (p.unacked.filter (fun x => decide ((x.seq - q).toNat < 32))).map (·.seq) }

def State.tierResendTimeout (s : State) (t : Nat) : State :=
  match (s.tport t).unacked with
  | [] => s
  | e :: _ => if s.tierState t = 3 ∧ elapsed s.dt e.sentAt (usTicks (s.fld (TIER_CTL.RESEND_TMO t))) then s.tierResend t e.seq else s

/-- 40 µs without a valid frame (Table 16-3). -/
def State.tierSilence (s : State) (t : Nat) : State :=
  if s.tierState t = 3 ∧ elapsed s.dt (s.tport t).lastRx (usTicks 40) then s.tierEpisode t else s

/-- A damaged frame (R461, R121). -/
def State.tierRxBad (s : State) (t : Nat) (k : BadFrame) : State :=
  match s.tierState t with
  | 2 | 3 | 4 =>
    let s := s.raise (Flt.TIER_LINKERR t)
    if s.tierState t = 3 ∧ k ≠ .abort then s.setTport t { s.tport t with nakDue := true } else s
  | _ => s

/-- A message received whole by this device. -/
structure TierMsg where
  src    : Nat
  mtype  : Nat
  body   : List Byte
  poison : List Nat
  deriving DecidableEq, Repr

/-- Pass a fragment on toward its destination (R468). -/
def State.tierForward (s : State) (t : Nat) (route : BitVec 16) (payload : List Byte) : State :=
  let push (s : State) (u : Nat) : State := s.setTport u { s.tport u with relay := (s.tport u).relay ++ [(route, payload)] }
  -- notice 7 of a worker's own child (R490)
  let slept := s.isWorker && t != 0 && leAt payload 0 1 == 9 && leAt payload 25 1 == 0x20 && leAt payload 26 2 == 7 &&
    route.toNat / 64 % 64 == s.childNum t
  let s := if slept then { s with due := s.due ++ [.slept t] } else s
  match s.routePort (route.toNat % 64) with
  | some u => push s u
  | none => if s.isWorker then push s 0 else s.raise (Flt.TIER_ROUTE_DROP t)

/-- Poisoned words of a fragment (Table 16-4). -/
def maskWords (m off : Nat) : List Nat := (List.range 62).filterMap (fun i => if Nat.testBit m i then some (off / 8 + i) else none)

/-- A fragment for this device (R462): the whole message with its last one. DESIGN CHOICE (assumption 130): a header that Table 16-4 or 16-5
does not define counts as a violation too. -/
def State.takeFragment (s : State) (t : Nat) (f : Frame) : Option TierMsg × State :=
  let b := f.payload
  let src := f.route.toNat / 64 % 64
  let mtype := leAt b 0 1
  let first := leAt b 1 1 % 2 == 1
  let last := leAt b 1 1 / 2 % 2 == 1
  let id : BitVec 16 := BitVec.ofNat 16 (leAt b 2 2)
  let off := leAt b 4 4
  let mask := leAt b 8 8
  let body := b.drop 16
  let p := s.tport t
  let mine (x : Partial) : Bool := x.src == src && x.msgId == id
  let old := p.partials.find? mine
  let rest := p.partials.filter (fun x => !mine x)
  let bad := mtype = 0 ∨ 9 < mtype ∨ 4 ≤ leAt b 1 1 ∨ 2 ^ 62 ≤ mask ∨
    (match old with
     | none => decide (first = false ∨ off ≠ 0)
     | some x => decide (first = true ∨ off ≠ x.bytes.length ∨ x.mtype ≠ mtype)) = true
  if bad then (none, (s.setTport t { p with partials := rest }).tierViolation t)
  else
    let bytes := (match old with | none => [] | some x => x.bytes) ++ body
    let poison := (match old with | none => [] | some x => x.poison) ++ maskWords mask off
    if last then (some { src := src, mtype := mtype, body := bytes, poison := poison }, s.setTport t { p with partials := rest })
    else (none, s.setTport t { p with partials := rest ++ [{ src := src, msgId := id, mtype := mtype, bytes := bytes, poison := poison }] })

/-- A DATA frame accepted in order: consumed here or passed on (R468). -/
def State.tierData (s : State) (t : Nat) (f : Frame) : Option TierMsg × State :=
  if f.route.toNat % 64 = s.tree.num then s.takeFragment t f else (none, s.tierForward t f.route f.payload)

/-- A SAFE frame on a propagating port (R473). The frames that go on arriving in the safe state are one cause until 10 µs pass
without one. -/
def State.tierSafe (s : State) (t : Nat) : State :=
  if s.bit (TIER_CTL.SAFE_PROP t) then
    let new := match s.tree.safeSeen with
      | none => true
      | some a => elapsed s.dt a (usTicks 10)
    { s with tree := { s.tree with safeSeen := some s.dt },
             due := if new || !s.bit SVC_STAT.SAFE then s.due ++ [.safe 8 0xE t] else s.due }
  else s

/-- A frame with a good CRC on a port that is UP (R461, R465). -/
def State.tierLink (s : State) (t : Nat) (f : Frame) : Option TierMsg × State :=
  if s.tierBad t f then (none, s.tierViolation t)
  else if f.type = 1 then
    let s := s.tierEpisode t
    -- a child answers the HELLO of its parent, which restarts the link; a parent sends its own first
    (none, if s.tierState t = 4 ∧ s.upPort t then s.takeTierHello t f true else s)
  else
    let s := s.setTport t { s.tport t with lastRx := s.dt }
    let s := if f.ackv then s.tierAck t f.ackSeq else s
    let s := if f.type = 4 then s.tierResend t (f.ackSeq + 1) else s
    if s.tierState t ≠ 3 then (none, s)
    else if f.type = 0xB then (none, s.tierSafe t)
    else if f.type = 2 then
      let p := s.tport t
      let d := (f.seq - p.rxNext).toNat
      if d = 0 then (s.setTport t { p with rxNext := p.rxNext + 1, rxAny := true, ackDue := true }).tierData t f
      else if d ≤ 31 then (none, s.setTport t { p with nakDue := true })
      else (none, s.setTport t { p with ackDue := true })
    else (none, s)

/-- Reception of a frame in any state (R464, R465, Table 16-10). -/
def State.tierRx (s : State) (t : Nat) (f : Frame) : Option TierMsg × State :=
  match s.tierState t with
  | 3 => if frameGood f then s.tierLink t f else (none, s.tierRxBad t .crc)
  | 2 | 4 =>
    if !frameGood f then (none, s.tierRxBad t .crc)
    else if f.type = 0xB then (none, if s.tierState t = 4 then s.tierSafe t else s)
    else if f.type = 1 ∧ (s.tport t).attempt.isSome = true then (none, s.takeTierHello t f false)
    else (none, s)
  | _ => (none, s)

/-- Class of a message whose fragment is relayed (Table 16-5): a FAULT is of class 2 when the first record that the fragment holds
whole ends as D or S. -/
def fragClass (b : List Byte) : Nat :=
  let start := 16 + (32 - leAt b 4 4 % 32) % 32
  if leAt b 0 1 = 3 then (if 2 ≤ leAt b (start + 13) 1 / 4 % 4 then 2 else 4)
  else [0, 3, 3, 2, 4, 1, 5, 2, 2, 4].getD (leAt b 0 1) 5

/-- The next fragment of a message (R462). -/
def OutMsg.fragment (m : OutMsg) : List Byte × Bool :=
  let body := (m.body.drop m.sent).take 496
  let last := decide (m.body.length ≤ m.sent + 496)
  let mask := (m.poison.filterMap (fun w => if m.sent / 8 ≤ w ∧ w < m.sent / 8 + 62 then some (2 ^ (w - m.sent / 8)) else none)).sum
  (leBytes 1 m.mtype ++ leBytes 1 ((if m.sent = 0 then 1 else 0) + if last then 2 else 0) ++ leBytes 2 m.msgId.toNat ++
    leBytes 4 m.sent ++ leBytes 8 mask ++ body, last)

/-- The lowest class number of what waits. -/
def TierPort.nextClass (p : TierPort) : Option Nat :=
  let all := p.relay.map (fun e => fragClass e.2) ++ p.msgs.map (·.cls)
  match all with
  | [] => none
  | c :: rest => some (rest.foldl min c)

/-- Take the next fragment to send (R463). DEDUCED (assumption 130): a relayed fragment, which may be held for 1 µs at most (R462), goes before
an own message of the same class. -/
def TierPort.takeNext (p : TierPort) : Option ((BitVec 16 × List Byte) × TierPort) :=
  match p.carry with
  | e :: rest => some (e, { p with carry := rest })
  | [] =>
    match p.nextClass with
    | none => none
    | some c =>
      match p.relay.findIdx? (fun e => fragClass e.2 == c) with
      | some i => some (p.relay.getD i (0, []), { p with relay := p.relay.eraseIdx i })
      | none =>
        match p.msgs.findIdx? (fun m => m.cls == c) with
        | none => none
        | some i =>
          match p.msgs[i]? with
          | none => none
          | some m =>
            let (b, last) := m.fragment
            some ((m.route, b), { p with msgs := if last then p.msgs.eraseIdx i else p.msgs.set i { m with sent := m.sent + 496 } })

/-- Send one frame of a resend. -/
def State.tierSendResend (s : State) (t : Nat) (q : BitVec 16) (rest : List (BitVec 16)) : State :=
  let p := { s.tport t with resend := rest }
  let s := s.setTport t p
  match p.unacked.find? (fun e => e.seq == q) with
  | none => s
  | some e =>
    let e' := { e with sentAt := s.dt, resends := e.resends + 1 }
    let s := s.setTport t { p with unacked := p.unacked.map (fun x => if x.seq = q then e' else x) }
    (s.addSat (TIER_STAT.RESENDS t) 1).putTier t (s.mkTier t 2 q e.route true e.payload)

/-- Is a SAFE frame due on a port (R473)? One every 2 µs on a propagating port that is UP. -/
def State.tierSafeDue (s : State) (t : Nat) : Bool :=
  s.bit SVC_STAT.SAFE && s.tierState t == 3 && s.bit (TIER_CTL.SAFE_PROP t) &&
  (match (s.tport t).lastSafe with
   | none => true
   | some a => elapsed s.dt a (usTicks 2))

/-- Send a SAFE frame. -/
def State.putTierSafe (s : State) (t : Nat) : State :=
  let s := s.setTport t { s.tport t with lastSafe := some s.dt }
  s.putTier t (s.mkTier t 0xB 0 0 false (leBytes 1 (if s.svc.pfwAt.isSome then 2 else 1) ++ zeros 7 ++ leBytes 8 s.dt.toNat))

/-- A SAFE frame every 2 µs on each propagating port that is UP (R473). -/
def State.tierSafeTimer (s : State) : State :=
  (upTo 8).foldl (fun s t => if s.tierSafeDue t then s.putTierSafe t else s) s

/-- The transmitter (Table 16-3): a SAFE frame that is due, resends, DATA, NAK, ACK, and IDLE after 4 µs. A SYNC, sent at its own instant,
and a HELLO have their own commands. -/
def State.tierTransmit (s : State) (t : Nat) : State :=
  if s.tierState t ≠ 3 then s
  else if s.tierSafeDue t then s.putTierSafe t
  else
    let p := s.tport t
    match p.resend with
    | q :: rest => s.tierSendResend t q rest
    | [] =>
      match (if p.unacked.length < 32 then p.takeNext else none) with
      | some ((r, b), p) =>
        let q := p.txNext
        let s := s.setTport t { p with txNext := q + 1, unacked := p.unacked ++ [{ seq := q, route := r, payload := b, sentAt := s.dt, resends := 0 }] }
        s.putTier t (s.mkTier t 2 q r false b)
      | none =>
        let nakOk := match p.lastNak with
          | none => true
          | some a => elapsed s.dt a (usTicks 1)
        if p.nakDue && nakOk then
          let s := s.setTport t { p with nakDue := false, lastNak := some s.dt }
          s.putTier t (s.mkTier t 4 0 0 false [])
        else if p.ackDue then s.putTier t (s.mkTier t 3 0 0 false [])
        else if elapsed s.dt p.lastTx (usTicks 4) then s.putTier t (s.mkTier t 0 0 0 false [])
        else s

/-- A port goes DOWN (R465): it is fenced and drops what it held on the link. -/
def State.portDown (s : State) (t : Nat) : State :=
  let s := s.markBit (Flt.TIER_DOWN t)
  if s.tierState t = 0 then s
  else
    let p := s.tport t
    (s.setTport t { TierPort.init with peerSerial := p.peerSerial, peerFw := p.peerFw, lastTx := p.lastTx, firstUp := p.firstUp }).setTier t 5

end Sys2Proof.Machine
end

