-- ==== Sys2Proof/Machine/Reg.lean ====
section
/-!
DEFINITION. Reading a register: the stored value of each field, or the value that the block computes when it is read (the
windows, the summaries, the status bits that follow other state); the interrupt enables; and the pair latches of 64-bit
values (R31 to R36).
-/

namespace Sys2Proof.Machine

/-- The code of a block in a fault record and in the DEV summaries (Table 13-5). -/
def Blk.code : Blk → Nat
  | .dev => 0x0
  | .pwr => 0x1
  | .time => 0x2
  | .ax => 0x3
  | .ap => 0x4
  | .weirg => 0x5
  | .adt => 0x6
  | .fc => 0x7
  | .pond => 0x8
  | .basin => 0x9
  | .mc => 0xA
  | .cmp => 0xB
  | .sec => 0xC
  | .secPage => 0xC
  | .host => 0xD
  | .tier => 0xE
  | .svc => 0xF
  | .therm => 0x10

/-- The COMMIT fields of the units that report to a status register (Table 02-5). -/
def commitAt (a : Nat) : Option Fld :=
  match locate a with
  | some (.ax, i, _) => if a = AX_STAT.addr i then some (AX_CTL.COMMIT i) else none
  | some (.fc, i, _) => if a = WEIR_STAT.addr i then some (WEIR_CTL.COMMIT i) else none
  | some (.mc, i, _) => some (MC_SPARE.COMMIT i)
  | some (.cmp, _, _) => some CMP_TBL.COMMIT
  | some (.tier, i, _) => if i = 0 then some (TIER_CTL.COMMIT 0) else none
  | some (.pond, i, _) => some (PM_REGION_SEL.COMMIT i)
  | _ => none

/-- CFG_PENDING of a status register (R37, R39, Table 02-3): a staged value or a COMMIT waits. -/
def State.cfgPending (s : State) (a : Nat) : Bool :=
  s.staged.any (fun e => e.2.isSome && statusReg (e.1 / 32) (e.1 % 32) == a) ||
  (match commitAt a with
   | some c => s.bit c
   | none => false)

/-- The status registers with their block code. -/
def statusRegs : List (Nat × Nat) :=
  [(0, DEV_STAT.addr), (1, PWR_STAT.addr), (2, TIME_STAT.addr)] ++ (upTo 16).map (fun i => (3, AX_STAT.addr i)) ++
  (upTo 8).map (fun i => (4, AP_STAT.addr i)) ++ [(5, WEIRG_STAT.addr), (6, ADT_STAT.addr)] ++
  (upTo 96).flatMap (fun i => [(7, FC_STAT.addr i), (7, WEIR_STAT.addr i)]) ++ (upTo 68).map (fun i => (8, POND_STAT.addr i)) ++
  (upTo 4).map (fun i => (9, BASIN_STAT.addr i)) ++ (upTo 8).map (fun i => (0xA, MC_STAT.addr i)) ++
  [(0xB, CMP_STAT.addr), (0xC, SEC_STAT.addr), (0xD, HOST_STAT.addr)] ++ (upTo 8).map (fun i => (0xE, TIER_STAT.addr i)) ++
  [(0xF, SVC_STAT.addr), (0x10, THERM_STAT.addr)]

/-- The field of a fault bit in the FAULT_EN register of its block, for the blocks that have one. -/
def FaultBit.enFld (b : FaultBit) : Option Fld :=
  if b.blk ∈ [0x3, 0x4, 0x7, 0x8] ∨ (b.blk = 0xB ∧ b.inst ≠ 0) then none
  else some { b.fld with addr := b.fld.addr + 4 }

/-- The enables by class of a unit (`IE`). -/
def ieOf (blk inst : Nat) : Option Fld :=
  match blk with
  | 0x0 => some DEV_CTL.IE
  | 0x1 => some PWR_CTL.IE
  | 0x7 => some (FC_CTL.IE inst)
  | 0x8 => some (POND_CTL.IE inst)
  | 0x9 => some (BASIN_CTL.IE inst)
  | 0xA => some (MC_CTL.IE inst)
  | 0xB => some CMP_CTL.IE
  | 0xC => some SEC_CTL.IE
  | 0xD => some HOST_CTL.IE
  | 0xE => some (TIER_CTL.IE inst)
  | 0x10 => some THERM_CTL.IE
  | _ => none

/-- Is the interrupt of a fault bit enabled: by its own bit in FAULT_EN, or by its class in IE (assumption 40)? -/
def State.irqOn (s : State) (b : FaultBit) : Bool :=
  match b.blk with
  | 0x3 => Nat.testBit (s.fld (AX_CTL.IE b.inst)) b.bit
  | 0x4 => Nat.testBit (s.fld (AP_CTL.IE b.inst)) b.bit
  | _ =>
    if b.blk = 0x7 ∧ 32 ≤ b.bit then Nat.testBit (s.fld WEIRG_CTL.WIE) (b.bit - 32)
    else
      (match ieOf b.blk b.inst with
       | some f => Nat.testBit (s.fld f) b.row.cls.num
       | none => false) ||
      (match b.enFld with
       | some f => s.bit f
       | none => false)

/-- Bits of a summary by block code. -/
def sumBits (p : Nat → Bool) : Nat := (upTo 17).foldl (fun v k => if p k then v + 2 ^ k else v) 0

/-- DEV_IRQ_SUM.BLK. -/
def State.irqSum (s : State) : Nat :=
  sumBits (fun k => allUnits.any (fun u => u.1 == k && (unitBits u.1 u.2).any (fun b => s.bit b.fld && s.irqOn b)))

/-- Does some counting bit of a class read 1 (DEV_CLASS_SUM)? -/
def State.classSet (s : State) (c : Cls) : Bool :=
  allUnits.any (fun u => (unitBits u.1 u.2).any (fun b => b.row.counts && b.row.cls == c && s.bit b.fld))

def State.classSum (s : State) : Nat :=
  (if s.classSet .c then 1 else 0) + (if s.classSet .r then 2 else 0) + (if s.classSet .d then 4 else 0) +
  (if s.classSet .s then 8 else 0)

/-- DEV_CFG_SUM.PEND. -/
def State.cfgSum (s : State) : Nat := sumBits (fun k => statusRegs.any (fun r => r.1 == k && s.cfgPending r.2))

/-- Has the device built its journals (R495, Table 17-7)? Before that the counts of free entries read their reset value. -/
def State.journals (s : State) : Bool := s.pwr.phase == .ready || s.pwr.phase == .asleep || s.pwr.phase == .resuming

/-- The bound on the difference to the manager's DT: it grows by 100 ps a millisecond in HOLDOVER and LOST (R81). -/
def State.errBound (s : State) : Nat :=
  let b := s.fld FF_ERR.ERR_BOUND
  if 3 ≤ s.fld FF_STAT.STATE then min 0xFFFF (b + (s.dt - s.time.holdAt).toNat / 1250000) else b

/-- Filter entries in use, and those in a transient state (Table 11-16). -/
def State.sfUsed (s : State) (b : Nat) : Nat :=
  ((s.basin b).home.filter (fun e => decide (e.1 < 2 ^ 35) && e.2.holders != 0)).length

def State.sfBusy (s : State) (b : Nat) : Nat :=
  ((s.basin b).home.filter (fun e => decide (e.1 < 2 ^ 35) && e.2.holders != 0 && e.2.txn.isSome)).length

/-- Is a pond's spare slot unused (Table 13-21)? -/
def State.spareUnused (s : State) (p : Nat) : Bool :=
  (s.pond p).spareFor.isNone && !Nat.testBit (s.fld (POND_STAT.RETIRED p)) 16

/-- Active ponds of a basin. -/
def State.activePonds (s : State) (b : Nat) : List Nat :=
  (upTo 17).filterMap (fun r => if s.fld (POND_STAT.ROLE (17 * b + r)) = 0 then some (17 * b + r) else none)

/-- SVC_SPARES. -/
def State.spareCount (s : State) (b : Nat) : Nat := ((s.activePonds b).filter s.spareUnused).length
def State.tarnMask (s : State) : Nat :=
  (upTo 4).foldl (fun v b => if s.fld (POND_STAT.ROLE (17 * b + 16)) = 1 then v + 2 ^ b else v) 0

/-- Words of a list of bits. -/
def maskOf (n : Nat) (p : Nat → Bool) : Nat := (upTo n).foldl (fun v k => if p k then v + 2 ^ k else v) 0

/-- Is the device in service: READY and not in the safe state? `SAFE_N` and `STOPREQ_N` are high only then (Table 18-7). -/
def State.inService (s : State) : Bool := s.pwr.phase == .ready && s.bit PWR_STAT.READY && !s.bit SVC_STAT.SAFE

/-- The code on `SPEEDLIM[3:0]`: 0 in reset, before READY and while SPD_PIN_EN reads 0 (R112, Table 18-7). -/
def State.speedPins (s : State) : Nat :=
  if s.bit PWR_STAT.READY && s.bit WEIRG_CTL.SPD_PIN_EN then s.fld WEIRG_SPDREC.CODE else 0

/-- PIN_STAT.LEVEL: the outputs follow the state; the inputs are as last commanded. -/
def State.pinLevels (s : State) : Nat :=
  let up := if s.inService && s.pwr.testAt.isNone then 3 else 0
  up + 4 * s.speedPins + s.fld PIN_STAT.LEVEL / 64 * 64

/-- Does an instruction other than BYPASS and IDCODE stand in the JTAG instruction register? -/
def State.jtagActive (s : State) : Bool := s.fld JTAG_STAT.IR != 0xFF && s.fld JTAG_STAT.IR != 0x02

/-- Does any strider run? -/
def State.anyRuns (s : State) : Bool := s.striders.any (fun e => e.2.run == .running)

/-- Values the DEV, CLK/PWR, TIME and AXIS blocks compute at a read. -/
def State.readHead (s : State) (b : Blk) (i off lo : Nat) : Option Nat :=
  match b, off, lo with
  | .dev, 0x004, 26 => some (if s.bit SVC_STAT.SAFE then 2 else if s.bit PWR_STAT.READY then 1 else 0)
  | .dev, 0x018, 0 => some (Config.serial.toNat % 2 ^ 32)
  | .dev, 0x01C, 0 => some (Config.serial.toNat / 2 ^ 32)
  | .dev, 0x020, 6 => some s.tree.depth
  | .dev, 0x020, 0 => some s.tree.num
  | .dev, 0x040, 0 => some s.irqSum
  | .dev, 0x044, 0 => some s.classSum
  | .dev, 0x048, 0 => some s.cfgSum
  | .dev, 0x054, 0 => some (s.eclkMax / 100)
  | .dev, 0x05C, 0 => some s.sec.boots
  | .time, 0x004, 0 => some (if s.timeRuns then 1 else 0)
  | .time, 0x014, 0 => some (s.dt.toNat % 2 ^ 32)
  | .time, 0x018, 0 => some (s.dt.toNat / 2 ^ 32)
  | .time, 0x048, 8 => some s.tree.depth
  | .time, 0x050, 0 => some s.errBound
  | .ap, 0x004, 8 => some (s.aport i).pins.toNat
  | .pwr, 0x004, 26 => some (if 2 ≤ s.fld PWR_STAT.DSTATE then s.fld PWR_STAT.DSTATE else if s.anyRuns then 0 else 1)
  | _, _, _ => none

/-- Values the weirs, channels, ponds, basins and memory channels compute at a read. -/
def State.readMid (s : State) (b : Blk) (i off lo : Nat) : Option Nat :=
  match b, off, lo with
  | .weirg, 0x034, 31 => some (if s.xjAdmit then 1 else 0)
  | .weirg, 0x034, 0 => some (if s.journals then min 0xFFFF ((1048576 - s.xjOpen) / 1024) else 0)
  | .adt, 0x024, 0 => some s.adtData.toNat
  | .fc, 0x004, 0 => some ((s.latDev i) % 128).toNat
  | .pond, 0x044, 0 => some (Tab.get (fun _ => 0) (s.pond i).conflict (s.fld (PM_CONFLICT_SEL.MASTER i)))
  | .pond, 0x04C, 27 => some ((Tab.get (fun _ => []) (s.pond i).repaired (s.fld (MARCH_CTL.VSEL i))).filter (fun r => r != 999)).length
  | .pond, 0x04C, 20 => some (Tab.get (fun _ => 0) (s.pond i).failRow (s.fld (MARCH_CTL.VSEL i)))
  | .basin, 0x004, 22 => some (s.activePonds i).length
  | .basin, 0x028, 16 => some (s.sfUsed i)
  | .basin, 0x028, 8 => some (min 255 (s.sfBusy i))
  | .basin, 0x028, 5 => some (s.reservedUsed i)
  | .basin, 0x030, 24 => some (s.homeOpen i)
  | .basin, 0x030, 16 => some (min 255 (s.basin i).nacked.length)
  | .basin, 0x040, 31 => some (if (s.queue i (s.fld (DSP_QSEL.QUEUE i))).qen then 1 else 0)
  | .basin, 0x040, 29 => some (s.queue i (s.fld (DSP_QSEL.QUEUE i))).prio.toNat
  | .basin, 0x040, 26 => some (s.queue i (s.fld (DSP_QSEL.QUEUE i))).size.toNat
  | .basin, 0x040, 25 => some (if (s.queue i (s.fld (DSP_QSEL.QUEUE i))).mode then 1 else 0)
  | .basin, 0x044, 20 => some (s.queue i (s.fld (DSP_QSEL.QUEUE i))).entries.length
  | .basin, 0x044, 0 => some (s.queue i (s.fld (DSP_QSEL.QUEUE i))).refused
  | .basin, 0x048, 31 => some (if s.tjOpen i then 1 else 0)
  | .basin, 0x048, 0 => some (if s.journals then (65536 - (s.basin i).jrn.length) / 1024 else 0)
  | .mc, 0x030, 16 => some (Tab.get (fun _ => (0, 0)) (s.mc i).eyes (s.fld (MC_EYE.LANE i))).2
  | .mc, 0x030, 8 => some (Tab.get (fun _ => (0, 0)) (s.mc i).eyes (s.fld (MC_EYE.LANE i))).1
  | .mc, 0x04C, 28 => some (if s.rgnBusy then 1 else 0)
  | _, _, _ => none

/-- Accepted commands not completed, a broadcast once for each device still to answer (R444). -/
def State.acceptedCount (s : State) : Nat :=
  s.host.accepted.foldl (fun n c => if c.routed then n else n + c.devices.length) 0

/-- Values CMP, SEC, HOST, TIER and SVC compute at a read. -/
def State.readTail (s : State) (b : Blk) (i off lo : Nat) : Option Nat :=
  match b, off, lo with
  | .cmp, 0x004, 16 => some s.cmp.fifo.length
  | .cmp, 0x004, 12 => some (maskOf 4 (fun k => (s.laneBusy k).isSome || (s.cmp.job.any (fun j => j.lane.val == k))))
  | .cmp, 0x004, 8 => some (maskOf 4 s.laneFenced)
  | .sec, 0x004, 26 => some (if s.sec.otpLock then 1 else 0)
  | .sec, 0x004, 0 => some (maskOf 16 (fun k => s.bit (SEC_PG_CTL.EN k)))
  | .sec, 0x024, 31 => some (if 0 < s.sec.rngReady then 1 else 0)
  | .sec, 0x034, 8 => some (maskOf 4 (fun k => (s.slot k).revoked))
  | .sec, 0x034, 4 => some (maskOf 4 (fun k => (s.slot k).prog))
  | .sec, 0x038, 0 => some s.sec.arb
  | .host, 0x004, 25 => some (s.fld PWR_STAT.READY)
  | .host, 0x004, 15 => some (if s.host.pairs.any (fun e => e.2.any (·.err)) then 1 else 0)
  | .host, 0x004, 0 => some (min 8192 s.acceptedCount)
  | .tier, 0x004, 25 => some (if s.upPort i then 1 else 0)
  | .therm, 0x048, 0 => some s.pinLevels
  | .therm, 0x05C, 1 => some (s.fld SEC_STAT.DBG_OPEN)
  | .therm, 0x05C, 0 => some (if s.jtagActive then 1 else 0)
  | .svc, 0x044, 0 => some ((upTo 4).foldl (fun n b => n + (s.basin b).jrn.length) 0)
  | .svc, 0x058, 0 => some s.xjOpen
  | .svc, 0x060, 16 => some (s.olFree / 1024)
  | .svc, 0x078, 23 => some (min 256 s.svc.retired.length)
  | .svc, 0x07C, 20 => some s.tarnMask
  | .svc, 0x07C, 0 => some (s.spareCount 0)
  | .svc, 0x07C, 5 => some (s.spareCount 1)
  | .svc, 0x07C, 10 => some (s.spareCount 2)
  | .svc, 0x07C, 15 => some (s.spareCount 3)
  | _, _, _ => none

/-- The value a read returns for one field: WO fields read 0 (R41). -/
def State.fieldRead (s : State) (a : Nat) (d : FieldDef) : Nat :=
  if d.acc == .wo then 0
  else
    match locate a with
    | none => 0
    | some (b, i, off) =>
      let isStat := decide (d.lo = 29) && d.hi == 29 && statusReg a 29 == a
      if isStat then (if s.cfgPending a then 1 else 0)
      else
        match s.readHead b i off d.lo with
        | some v => v
        | none =>
          match s.readMid b i off d.lo with
          | some v => v
          | none =>
            match s.readTail b i off d.lo with
            | some v => v
            | none => s.fld ⟨a, d.hi, d.lo⟩

/-- The 32 bits of a register; an address that holds no register reads 0 (R32, R52). -/
def State.peek (s : State) (a : Nat) : Word32 :=
  BitVec.ofNat 32 ((fieldDefs a).foldl (fun v d => v + s.fieldRead a d % 2 ^ (d.hi + 1 - d.lo) * 2 ^ d.lo) 0)

/-- Is an address the low half of a 64-bit pair (R34)? -/
def isPairLo (a : Nat) : Bool :=
  match locate a with
  | none => false
  | some (b, _, off) =>
    match b with
    | .dev => off ∈ [0x018, 0x04C]
    | .pwr => off ∈ [0x020, 0x090]
    | .time => off ∈ [0x014, 0x01C, 0x034, 0x03C, 0x078]
    | .ax => off == 0x00C
    | .ap => off == 0x00C
    | .weirg => off ∈ [0x048, 0x050, 0x058]
    | .pond => off == 0x014
    | .basin => off == 0x018
    | .mc => off == 0x018
    | .cmp => off ∈ [0x018, 0x020, 0x028, 0x048, 0x050]
    | .host => off ∈ [0x010, 0x01C, 0x028, 0x034]
    | .tier => off == 0x010
    | .svc => off ∈ [0x01C, 0x038, 0x04C, 0x068]
    | _ => false

def isPairHi (a : Nat) : Bool := decide (4 ≤ a) && isPairLo (a - 4)

/-- A requester's pair latch: the high half read last, and the low half staged. -/
def State.latch (s : State) (who : Requester) : Word32 × Option Word32 := Tab.get (fun _ => (0, none)) s.latches (latchNo who)

def State.setLatch (s : State) (who : Requester) (v : Word32 × Option Word32) : State :=
  { s with latches := Tab.set (fun _ => (0, none)) s.latches (latchNo who) v }

end Sys2Proof.Machine
end

