-- ==== Sys2Proof/Machine/PwrOps.lean ====
section
/-!
DEFINITION. Clocks, voltage, temperature, pins and management interfaces (chapters 17 and 18): engine clocks and their limits,
adaptive voltage, PLLs, pond power gating, the conditions of D-NAP and D-SLEEP, sensors and throttling, the chain test,
SMBus and JTAG.
-/

namespace Sys2Proof.Machine

/-! ### Engine clocks and the core voltage (R480 to R483, R499) -/

/-- A limit of a basin's ECLK in MHz; none by default. -/
def limitOf (t : Tab Nat) (b : Nat) : Nat := Tab.get (fun _ => 0xFFFF) t b

/-- The ECLK a basin should run at: the lowest of ECLK_CTL and the limits of R516 and R499. -/
def State.eclkWanted (s : State) (b : Nat) : Nat :=
  min (s.fld (ECLK_CTL.MHZ b)) (min (limitOf s.pwr.thermLim b) (limitOf s.pwr.margLim b))

/-- The ECLK in force. -/
def State.eclk (s : State) (b : Nat) : Nat := s.fld (PLL_STAT.MHZ (3 + b))

/-- Write a voltage to the regulator (R499): 700 to 900 mV in steps of 5. -/
def State.writeVolt (s : State) (mv : Nat) : State :=
  let v := max 700 (min 900 (mv / 5 * 5))
  (s.setFld AVS_STAT.VREQ v).emit (.avs v)

/-- A step of voltage whose size the path monitors decide: a free value (R499 states no figure). -/
def State.voltStep (s : State) : Nat × State :=
  let (x, s) := s.fresh
  (5 * (Config.free x % 41), s)

/-- Carry a basin's clock to the frequency wanted: a lower one applies and the voltage follows; a higher one waits for the
voltage while AVS is on (R499). -/
def State.steerEclk (s : State) (b : Nat) : State :=
  let want := s.eclkWanted b
  let now := s.eclk b
  let drop := s.pwr.raise.filter (fun r => r.1 != b)
  if want < now then
    let s := { s with pwr := { s.pwr with raise := drop } }
    let s := s.setFld (PLL_STAT.MHZ (3 + b)) want
    if s.bit AVS_CTL.EN then
      let (d, s) := s.voltStep
      s.writeVolt (s.fld AVS_STAT.VREQ - d)
    else s
  else if now < want then
    if s.bit AVS_CTL.EN then
      let waits := s.pwr.raise.any (fun r => r.1 == b)
      let s := { s with pwr := { s.pwr with raise := drop ++ [(b, want)] } }
      if waits then s
      else
        let (d, s) := s.voltStep
        let s := s.writeVolt (s.fld AVS_STAT.VREQ + d)
        if s.pwr.nak.isSome then s else { s with pwr := { s.pwr with voltAt := some s.dt } }
    else s.setFld (PLL_STAT.MHZ (3 + b)) want
  else { s with pwr := { s.pwr with raise := drop } }

def State.steerAll (s : State) : State := (upTo 4).foldl State.steerEclk s

/-- SETTLE µs after the raise the waiting clocks rise (R499). -/
def State.avsSettled (s : State) : State :=
  match s.pwr.voltAt with
  | none => s
  | some t =>
    if elapsed s.dt t (usTicks (s.fld AVS_CTL.SETTLE)) then
      let l := s.pwr.raise
      let s := { s with pwr := { s.pwr with raise := [], voltAt := none } }
      l.foldl (fun s r => s.setFld (PLL_STAT.MHZ (3 + r.1)) (s.eclkWanted r.1)) s
    else s

/-- A regulator write was not acknowledged, or its retry after 100 µs was (R499). -/
def State.avsWrite (s : State) (ack : Bool) : State :=
  match s.pwr.nak with
  | none =>
    if ack || (s.pwr.raise.isEmpty && s.pwr.voltAt.isNone) then s
    else { s with pwr := { s.pwr with nak := some s.dt, voltAt := none } }.raise Flt.PWR_AVS_NAK
  | some t =>
    if !elapsed s.dt t (usTicks 100) then s
    else
      let s := s.emit (.avs (s.fld AVS_STAT.VREQ))
      if ack then { s with pwr := { s.pwr with nak := none, voltAt := some s.dt } }
      else { s with pwr := { s.pwr with nak := some s.dt } }.raise Flt.PWR_AVS_NAK

/-- A path monitor with low margin (R499). -/
def State.pathMargin (s : State) (b : Nat) : State :=
  let s := s.raise Flt.PWR_VMARGIN
  let lim := max 600 (s.eclk b - 100)
  let s := { s with pwr := { s.pwr with margLim := Tab.set (fun _ => 0xFFFF) s.pwr.margLim b lim } }
  let s := if lim < s.eclk b then s.setFld (PLL_STAT.MHZ (3 + b)) lim else s
  if s.bit AVS_CTL.EN then s.writeVolt (s.fld AVS_STAT.VREQ + 10) else s

/-- Registers of CLK/PWR, and of the other blocks whose commit point is the housekeeping tick (Table 02-4). -/
def inSlow (a : Nat) : Bool := decide (a < 0x20000) || decide (0xD00000 ≤ a)

/-- The commit point of DEV, CLK/PWR, SVC/JRN and THERM/PINS. -/
def State.slowPoint (s : State) : State := (s.applyStaged inSlow).steerAll

/-- A PLL loses lock (R482); PLL 0 is TBCLK. -/
def State.pllLost (s : State) (k : Nat) : State :=
  let s := (s.setFld (PLL_STAT.LOCK k) 0).addSat (PLL_STAT.LOSSES k) 1
  if k = 0 then { s with time := { s.time with tbclk := false } }.raise Flt.TIME_TBCLK_LOSS
  else s.raise Flt.PWR_PLL_UNLOCK

def State.pllLocked (s : State) (k : Nat) : State :=
  let s := if s.bit (PLL_STAT.RUN k) then s.setFld (PLL_STAT.LOCK k) 1 else s
  if k = 0 ∧ s.time.locked then { s with time := { s.time with tbclk := true } } else s

/-- Does a basin's engine clock run, locked? -/
def State.eclkOn (s : State) (b : Nat) : Bool := s.bit (PLL_STAT.LOCK (3 + b))

/-! ### Pond gating and the device states (R484 to R488) -/

def State.isGated (s : State) (p : Nat) : Bool := Nat.testBit (s.fld (pondGated p)) (p % 32)

/-- Are the striders of a pond all idle or waiting (R485)? -/
def State.pondQuiet (s : State) (p : Fin 68) : Bool := (pondStriders p).all (fun w => (s.str w).run != .running)

/-- Does a pond's L2 still hold a line, or await the end of a write-back? -/
def State.l2Held (s : State) (p : Nat) : Bool := (s.pond p).l2.any (fun e => e.2.st != .i)

/-- Clean and invalidate a pond's L2 and, once no line is left, power-gate it; its L1s are lost too (R485). -/
def State.gatePond (s : State) (p : Nat) : State :=
  if s.isGated p then s
  else
    let s := s.maintApply p 6 0
    if s.l2Held p then s
    else (s.setPond p { s.pond p with l1d := L1.init, l1i := L1.init }).setFld (pondGated p) (s.fld (pondGated p) + 2 ^ (p % 32))

/-- Clean and invalidate the L2 of every pond that has power. -/
def State.cleanPonds (s : State) : State :=
  (upTo 68).foldl (fun (s : State) p => if s.isGated p then s else s.maintApply p 6 0) s

/-- An idle pond power-gates when its policy says so; a tarn and a fenced pond always do. -/
def State.idleGate (s : State) (p : Fin 68) : State :=
  let policy := Nat.testBit (s.fld (POND_IDLE.PGATE (p.val / 32))) (p.val % 32) || s.fld (POND_STAT.ROLE p.val) != 0
  if policy && s.pondQuiet p then s.gatePond p.val else s

/-- Is a host command in progress, other than the request itself (R486)? -/
def State.commandRuns (s : State) : Bool :=
  s.host.accepted.any (fun c => c.started && (match c.wait with
    | .power _ => false
    | _ => true))

/-- Is a CMP or DMA request queued or in progress? -/
def State.enginesBusy (s : State) : Bool :=
  !s.cmp.fifo.isEmpty || (upTo 4).any (fun k => (s.laneBusy k).isSome) || s.cmp.job.isSome ||
  s.ponds.any (fun e => !e.2.dma0.isEmpty || !e.2.dma1.isEmpty)

def bitIf (p : Bool) (k : Nat) : Nat := if p then 2 ^ k else 0

/-- The conditions of D-NAP that fail, as bits of PWR_NAP_BLOCK.WHY (R486). -/
def State.napWhy (s : State) : Nat :=
  bitIf (s.xjOpen != 0) 0 + bitIf s.anyRuns 1 + bitIf s.enginesBusy 6

/-- The conditions of D-SLEEP that fail (R488). -/
def State.sleepWhy (s : State) : Nat :=
  s.napWhy +
  bitIf (s.striders.any (fun e => match e.2.run with | .waiting _ => true | _ => false)) 2 +
  bitIf (s.basins.any (fun e => e.2.queues.any (fun q => !q.2.entries.isEmpty))) 3 +
  bitIf ((upTo 96).any (fun n => s.bit (FC_CTL.EN n) || s.bit (WEIR_CTL.EN n))) 4 +
  bitIf ((upTo 16).any (fun n => s.bit (AX_CTL.EN n)) || (upTo 8).any (fun m => s.bit (AP_CTL.EN m))) 5 +
  bitIf (s.rgnBusy || s.mcs.any (fun e => e.2.mig.isSome)) 7 +
  bitIf (!s.isWorker && s.tree.workers.any (fun e => e.2.present && !e.2.asleep)) 8

/-- Refuse a request (R486). -/
def State.entryRefused (s : State) (why : Nat) : State :=
  { s.setFld PWR_NAP_BLOCK.WHY why with pwr := { s.pwr with request := 0 } }.raise Flt.PWR_ENTRY_ABORT

/-- Memory channels that serve enter self-refresh, or leave it (R352). -/
def State.selfRefresh (s : State) (on : Bool) : State :=
  (upTo 8).foldl (fun s c =>
    if on && (s.mcState c == 2 || s.mcState c == 3) then s.setFld (MC_STAT.STATE c) 4
    else if !on && s.mcState c == 4 then s.setFld (MC_STAT.STATE c) 2 else s) s

/-- The ECLK PLLs run or stop. -/
def State.eclkPlls (s : State) (on : Bool) : State :=
  (upTo 4).foldl (fun s b => (s.setBit (PLL_STAT.RUN (3 + b)) on).setBit (PLL_STAT.LOCK (3 + b)) on) s

/-- The device state (Table 17-2): D-RUN while a strider runs. -/
def State.dstate (s : State) : Nat := if 2 ≤ s.fld PWR_STAT.DSTATE then s.fld PWR_STAT.DSTATE else if s.anyRuns then 0 else 1

/-- Enter D-NAP (R486). -/
def State.napEnter (s : State) : State :=
  let s := (upTo 68).foldl State.gatePond s
  let s := (((s.eclkPlls false).setFld (PLL_STAT.RUN 7) 0).setFld (PLL_STAT.LOCK 7) 0).selfRefresh true
  { (s.setFld PWR_STAT.DSTATE 2).addWrap DSTATE_CNT.NAPS 1 with pwr := { s.pwr with request := 0, napSince := none } }

def State.napping (s : State) : Bool := s.fld PWR_STAT.DSTATE == 2

/-- Leave D-NAP (R487). -/
def State.napEnd (s : State) : State :=
  if s.napping then
    let s := (((s.eclkPlls true).setFld (PLL_STAT.RUN 7) 1).setFld (PLL_STAT.LOCK 7) 1).selfRefresh false
    s.setFld PWR_STAT.DSTATE 1
  else s

/-- Enter D-NAP once every L2 is clean (R485, R486). DEDUCED (assumption 131): while a write-back is under way the entry waits, and the
conditions are examined again. -/
def State.napTry (s : State) : State :=
  let s := s.cleanPonds
  if (upTo 68).any s.l2Held then s else s.napEnter

/-- The D-NAP conditions held for NAP_HOLD µs with NAP_AUTO (R486). -/
def State.napAuto (s : State) : State :=
  if !s.bit PWR_CTL.NAP_AUTO || s.fld PWR_STAT.DSTATE != 1 || s.pwr.phase != .ready then s
  else if s.napWhy ≠ 0 ∨ s.commandRuns then { s with pwr := { s.pwr with napSince := none } }
  else
    match s.pwr.napSince with
    | none => { s with pwr := { s.pwr with napSince := some s.dt } }
    | some t => if elapsed s.dt t (usTicks (s.fld PWR_CTL.NAP_HOLD)) then s.napTry else s

/-- The time at which D-NAP's conditions began to hold follows the state (R486). -/
def State.napWatch (s : State) : State :=
  if s.bit PWR_CTL.NAP_AUTO && s.fld PWR_STAT.DSTATE == 1 && s.napWhy == 0 && !s.commandRuns then
    (if s.pwr.napSince.isNone then { s with pwr := { s.pwr with napSince := some s.dt } } else s)
  else { s with pwr := { s.pwr with napSince := none } }

/-- Fields the resume area keeps: every field a write can change (Table 17-3), but for the HOST block, which the link going down
resets and the host sets up again (Table 17-3 step 3, Table 17-4 step 5, R431). -/
def writable (key : Nat) : Bool :=
  match keyField key with
  | none => false
  | some (f, _) =>
    match (fieldDefs f.addr).find? (fun d => d.lo == f.lo) with
    | none => false
    | some d => (d.acc == .rw || d.acc == .rws || d.acc == .rwl || d.acc == .rwi) && !decide (0xC00000 ≤ f.addr ∧ f.addr < 0xC80000)

/-- Begin the entry to D-SLEEP (Table 17-3 step 1): the resume area is written and the attestation cell saved. DEDUCED (assumption 131):
the caches, whose domain will lose power, are cleaned. -/
def State.sleepBegin (s : State) : State :=
  let s := s.napEnd.cleanPonds
  let s := { s with pwr := { s.pwr with request := 0, entryAt := some s.dt, saved := s.flds.filter (fun e => writable e.1) } }
  (s.setFld PWR_STAT.DSTATE 3).saveCell

/-- A pending request is examined at the housekeeping tick (R486, R488). -/
def State.powerTick (s : State) : State :=
  match s.pwr.request with
  | 1 =>
    if s.napWhy = 0 ∧ !s.commandRuns then (if s.napping then { s with pwr := { s.pwr with request := 0 } } else s.napTry)
    else s.entryRefused s.napWhy
  | 2 => if s.sleepWhy = 0 ∧ !s.commandRuns then s.sleepBegin else s.entryRefused s.sleepWhy
  | _ => s

/-- A wake event before the power is off abandons the entry (Table 17-8). -/
def State.entryAbandoned (s : State) : State :=
  { (s.setFld PWR_STAT.DSTATE 1).loadCell with pwr := { s.pwr with entryAt := none, saved := [], sleepNote := false } }.raise Flt.PWR_ENTRY_ABORT

/-! ### Sensors (R515, R516) -/

/-- The sensors that throttle a basin (Table 18-12). -/
def sensorsOf (b : Nat) : List Nat := [3 * b, 3 * b + 1, 3 * b + 2, 12, 13, 14, 15]

def sensorFld (k : Nat) : Fld := if k % 2 = 0 then THERM_SENSE.TEVEN (k / 2) else THERM_SENSE.TODD (k / 2)

/-- A sensor's reading in 1/16 °C. -/
def State.sensor (s : State) (k : Nat) : Int := s.sfld (sensorFld k)

/-- Is a reading inside −60 to +160 °C? -/
def sensorOk (t : Int) : Bool := decide (-960 ≤ t ∧ t ≤ 2560)

/-- Has a sensor of a basin reached a temperature in °C? -/
def State.basinHot (s : State) (b : Nat) (deg : Int) : Bool :=
  (sensorsOf b).any (fun k => sensorOk (s.sensor k) && decide (16 * deg ≤ s.sensor k))

def State.throttled (s : State) (b : Nat) : Bool := Nat.testBit (s.fld THERM_STAT.THR) b

/-- Basins whose sensors reach THROT become throttled; each episode sets THROTTLE once (R516). -/
def State.throttleStart (s : State) (b : Nat) : State :=
  if s.basinHot b (s.fld THERM_LIMIT.THROT) then
    let s := { s with pwr := { s.pwr with cooling := s.pwr.cooling &&& ~~~ BitVec.ofNat 4 (2 ^ b) } }
    if s.throttled b then s
    else (s.setFld THERM_STAT.THR (s.fld THERM_STAT.THR + 2 ^ b)).raise Flt.THERM_THROTTLE
  else s

/-- A measured value of which the spec states no figure: device power and die voltage are free values. -/
def State.measurePower (s : State) : State :=
  let (x, s) := s.fresh
  let (y, s) := s.fresh
  let s := s.setFld PWR_MEAS.POWER (Config.free x)
  let s := s.setFld PWR_MEAS.PEAK (max (s.fld PWR_MEAS.PEAK) (s.fld PWR_MEAS.POWER))
  s.setFld AVS_STAT.VMEAS (Config.free y)

/-- WARN, THROT and CRIT of one sample (R516). -/
def State.thresholds (s : State) (hot : Int) : State :=
  let warm := decide (16 * (s.fld THERM_LIMIT.WARN : Int) ≤ hot)
  let s := if warm && !s.pwr.warm then s.raise Flt.THERM_WARN else s
  let n := s.pwr.hotSamples + (if warm then 1 else 0)
  let s := if 36000000 ≤ n then { s.addSat THERM_AGE.HOURS 1 with pwr := { s.pwr with hotSamples := 0 } }
           else { s with pwr := { s.pwr with hotSamples := n } }
  let s := { s with pwr := { s.pwr with warm := warm } }
  let s := (upTo 4).foldl State.throttleStart s
  let m := s.pwr.thrSamples + (if s.fld THERM_STAT.THR = 0 then 0 else 1)
  let s := if 10000 ≤ m then { s.addSat THERM_TIME.THR_S 1 with pwr := { s.pwr with thrSamples := 0 } }
           else { s with pwr := { s.pwr with thrSamples := m } }
  let crit := decide (16 * (s.fld THERM_LIMIT.CRIT : Int) ≤ hot)
  let was := s.bit THERM_STAT.OVERT
  let s := s.setBit THERM_STAT.OVERT crit
  if crit && !was then
    let s := s.raise Flt.THERM_CRIT
    let s := { s with pwr := { s.pwr with thermLim := [(0, 600), (1, 600), (2, 600), (3, 600)] } }
    (s.setFld THERM_STAT.THR 15).steerAll
  else s

/-- The sensors are read (R515, R516): the answer says whether a sensor trips the device. -/
def State.sampleTemps (s : State) (ts : List (BitVec 16)) : Bool × State :=
  let l := (ts.take 16).zipIdx
  let s := l.foldl (fun s e => s.setFld (sensorFld e.2) e.1.toNat) s
  let good := l.filter (fun e => sensorOk e.1.toInt)
  let s := if good.length < l.length && !s.bit THERM_FAULT.SENSOR then s.raise Flt.THERM_SENSOR else s
  match good with
  | [] => (false, s.measurePower)
  | e :: rest =>
    let h := rest.foldl (fun a c => if a.1.toInt < c.1.toInt then c else a) e
    let s := ((s.setFld THERM_HOT.HOT h.1.toNat).setFld THERM_HOT.HSENS h.2).measurePower
    let s := if s.sfld THERM_TIME.PEAK < h.1.toInt then s.setFld THERM_TIME.PEAK h.1.toNat else s
    if 2240 ≤ h.1.toInt then (true, s.setFld THERM_AGE.TRIP 1) else (false, s.thresholds h.1.toInt)

/-- Every 1 ms each throttled basin moves by 100 MHz (R516). -/
def State.throttleMove (s : State) (b : Nat) : State :=
  if !s.throttled b then s
  else
    let cool := !s.basinHot b ((s.fld THERM_LIMIT.THROT : Int) - s.fld THERM_LIMIT.HYST)
    let up := cool || Nat.testBit s.pwr.cooling.toNat b
    let ctl := s.fld (ECLK_CTL.MHZ b)
    let now := min (limitOf s.pwr.thermLim b) ctl
    let lim := if up then now + 100 else max 600 (now - 100)
    let set (s : State) (v : Nat) : State :=
      { s with pwr := { s.pwr with thermLim := Tab.set (fun _ => 0xFFFF) s.pwr.thermLim b v } }
    let s := if cool then { s with pwr := { s.pwr with cooling := s.pwr.cooling ||| BitVec.ofNat 4 (2 ^ b) } } else s
    if up ∧ ctl ≤ lim then
      let s := { s with pwr := { s.pwr with cooling := s.pwr.cooling &&& ~~~ BitVec.ofNat 4 (2 ^ b) } }
      ((set s 0xFFFF).setFld THERM_STAT.THR (s.fld THERM_STAT.THR - 2 ^ b)).steerEclk b
    else (set s lim).steerEclk b

/-! ### Pins (R508, R509) -/

/-- Set an input level of PIN_STAT. -/
def State.setPin (s : State) (k : Nat) (v : Bool) : State :=
  let l := s.fld PIN_STAT.LEVEL
  if Nat.testBit l k == v then s else s.setFld PIN_STAT.LEVEL (if v then l + 2 ^ k else l - 2 ^ k)

def State.pinEdge (s : State) (k : Nat) : State := s.setFld PIN_EDGE.EDGE (s.fld PIN_EDGE.EDGE ||| 2 ^ k)

/-- ESTOP_N rises after `ns` nanoseconds low (R509): a pulse shorter than the filter is a glitch and no edge. -/
def State.estopRise (s : State) (ns : Nat) : State :=
  if ns < 100 * s.fld PIN_FILT.ESTOP_F then s.raise Flt.THERM_PIN_GLITCH else (s.setPin 7 true).pinEdge 3

/-- PIN_CTL.CHAIN_TEST (Table 18-15). -/
def State.chainStart (s : State) : State :=
  if (upTo 96).any (fun n => s.bit (WEIR_CTL.EN n)) then s.setFld THERM_STAT.CFG_REJECT 1
  else { s.setFld PIN_CTL.CHAIN_TEST 1 with pwr := { s.pwr with testAt := some s.dt } }

def State.chainStop (s : State) : State := { s.setFld PIN_CTL.CHAIN_TEST 0 with pwr := { s.pwr with testAt := none } }

def State.chainTimeout (s : State) : State :=
  match s.pwr.testAt with
  | none => s
  | some t => if elapsed s.dt t (usTicks 10000) then s.chainStop else s

/-! ### SMBus (R512) and JTAG (R514) -/

/-- A read transaction: NACKed in D-SLEEP but for code 0x00, and without a valid PEC where one is required or when the PEC
is wrong. -/
def State.smbRead (s : State) (code : Nat) (pec : Pec) (data : List Byte) : State :=
  match s.pwr.phase with
  | .held | .tripped => s
  | ph =>
    let off := ph == .asleep || s.fld PWR_STAT.DSTATE == 3
    if (off && code != 0) || pec == .bad || (s.bit SMB_CTL.PEC_REQ && pec != .good) then
      (s.addSat SMB_STAT.ERRS 1).emit .smbNack
    else (s.setFld SMB_STAT.LAST_CMD code).emit (.smb data)

/-- The state code of SMBus command 0x01. -/
def State.smbPhase (s : State) : Nat :=
  match s.pwr.phase with
  | .asleep => 3
  | .stopped => 4
  | .ready => if s.bit SVC_STAT.SAFE then 2 else 1
  | _ => if s.bit SVC_STAT.SAFE then 2 else 0

/-- Blocks with a class D or S bit at 1 (SMBus command 0x05). -/
def State.dsBlocks (s : State) : Nat :=
  sumBits (fun k => allUnits.any (fun u => u.1 == k && (unitBits u.1 u.2).any (fun b =>
    (b.row.cls == .d || b.row.cls == .s) && s.bit b.fld)))

/-- Is SMB_ALERT_N low? -/
def State.smbAlert (s : State) : Bool :=
  s.bit SVC_STAT.SAFE || s.bit THERM_FAULT.THROTTLE || s.bit THERM_FAULT.CRIT || s.bit THERM_FAULT.REGPAR

/-- The alert response: the device answers with its address while it pulls SMB_ALERT_N low. -/
def State.smbAnswer (s : State) : State :=
  match s.pwr.phase with
  | .held | .tripped | .asleep => s
  | _ => if s.smbAlert then s.emit (.smb (leBytes 1 (2 * s.fld SMB_CTL.ADDR))) else s

/-- ARP reassigns the address. -/
def State.smbAssign (s : State) (addr : BitVec 7) (pec : Pec) : State :=
  match s.pwr.phase with
  | .held | .tripped => s
  | ph =>
    if ph == .asleep || s.fld PWR_STAT.DSTATE == 3 || pec == .bad || (s.bit SMB_CTL.PEC_REQ && pec != .good) then
      (s.addSat SMB_STAT.ERRS 1).emit .smbNack
    else s.setFld SMB_CTL.ADDR addr.toNat

/-- A JTAG instruction: EXTEST, CLAMP and HIGHZ act only while RST_N is low, the debug instructions only while the port is
open; otherwise they act as BYPASS. -/
def State.jtagIr (s : State) (code : Nat) : State :=
  let low := s.pwr.phase == .held || s.pwr.phase == .tripped
  let ok := if code = 0 ∨ code = 3 ∨ code = 4 then low else if code = 0x10 ∨ code = 0x11 then s.bit SEC_STAT.DBG_OPEN else true
  s.setFld JTAG_STAT.IR (if ok then code else 0xFF)

end Sys2Proof.Machine
end

