-- ==== Sys2Proof/Machine/HostTab.lean ====
section
/-!
DEFINITION. Command packets (R439, R455): the header, the parameters each opcode defines, which targets it takes, how long its
result is, and the checks of Table 15-5.
-/

namespace Sys2Proof.Machine

/-- A header field group or parameter: its first byte, the bytes it spans, and the bits of them that a field uses. -/
structure ParamDef where
  off  : Nat
  len  : Nat
  mask : Nat
  deriving DecidableEq, Repr

/-- Which targets a command accepts (R442, Tables 15-7 to 15-11). -/
inductive Target where
  | manager | all | single
  deriving DecidableEq, Repr

/-- What an opcode defines. -/
structure CmdSpec where
  params : List ParamDef
  target : Target
  list   : Bool
  deriving DecidableEq, Repr

/-- A whole parameter of `n` bytes. -/
def whole (o n : Nat) : ParamDef := ⟨o, n, 2 ^ (8 * n) - 1⟩

def specAll (l : List ParamDef) : Option CmdSpec := some ⟨l, .all, false⟩
def specMgr (l : List ParamDef) : Option CmdSpec := some ⟨l, .manager, false⟩
def specList (l : List ParamDef) : Option CmdSpec := some ⟨l, .all, true⟩
def specOne (l : List ParamDef) : Option CmdSpec := some ⟨l, .single, false⟩

/-- Device, host and pattern commands (Tables 15-7 and 15-8, R478). -/
def cmdSpecA : Nat → Option CmdSpec
  | 0x0001 => specAll []
  | 0x0002 => specMgr []
  | 0x0003 => specAll [whole 0 1]
  | 0x0004 => specMgr [whole 0 1]
  | 0x0005 => specAll [whole 0 1, whole 1 1]
  | 0x0010 => specMgr [whole 0 1, whole 1 1, whole 2 2, ⟨4, 1, 3⟩, whole 5 1, whole 6 2, whole 8 8, whole 16 8]
  | 0x0011 => specMgr [whole 0 1]
  | 0x0012 => specMgr [⟨0, 1, 1⟩]
  | 0x0013 => specMgr [whole 0 1, ⟨1, 1, 3⟩]
  | 0x0101 => specAll [whole 0 4, whole 4 1, whole 5 1, whole 6 2, whole 8 4, whole 12 4, ⟨16, 1, 0xF7⟩, ⟨17, 7, 1⟩, whole 24 8,
                       whole 32 8, whole 40 8, whole 48 8]
  | 0x0102 => specAll [whole 0 4]
  | 0x0103 => specList []
  | 0x0104 => specAll [whole 0 4]
  | 0x0105 => specAll [whole 0 1, whole 1 7, whole 8 8]
  | _ => none

/-- Axis and channel commands (Table 15-8). -/
def cmdSpecB : Nat → Option CmdSpec
  | 0x0201 => specAll [whole 0 1, whole 1 1, whole 2 1, whole 3 1, whole 4 1, whole 5 1, ⟨6, 2, 1⟩, whole 8 4]
  | 0x0202 => specAll [whole 0 1, whole 1 1, whole 2 1, whole 3 1, whole 4 1, whole 5 1, whole 6 1, whole 7 1, ⟨8, 1, 1⟩]
  | 0x0203 => specAll [whole 0 1, whole 1 7, whole 8 8]
  | 0x0301 => specAll [whole 0 1, ⟨1, 1, 1⟩, whole 2 1, whole 3 1, whole 4 1, whole 5 1, whole 6 1, whole 7 1, whole 8 4, whole 12 1,
                       whole 13 1, ⟨14, 1, 7⟩, whole 15 1, whole 16 4]
  | 0x0302 => specAll [whole 0 1, whole 1 1]
  | 0x0303 => specAll [whole 0 1]
  | 0x0304 => specAll [whole 0 2, whole 2 2, whole 4 4, whole 8 8]
  | 0x0305 => specList [whole 0 2, whole 2 2, whole 4 4]
  | 0x0306 => specAll [whole 0 1]
  | 0x0307 => specAll [whole 0 1, whole 1 1, whole 2 1, whole 3 1, whole 4 2, whole 6 2, ⟨8, 1, 3⟩]
  | _ => none

/-- Task, memory and power commands (Table 15-9). The block of MEM.REGION is the 24 bytes its READ returns. -/
def cmdSpecC : Nat → Option CmdSpec
  | 0x0401 => specAll [whole 0 1, whole 1 1, whole 2 1, whole 3 1, whole 4 1, ⟨5, 1, 1⟩]
  | 0x0402 => specAll [whole 0 1, whole 1 7, whole 8 64]
  | 0x0403 => specAll [whole 0 1, whole 1 1]
  | 0x0404 => specAll [whole 0 2, whole 2 2]
  | 0x0405 => specAll [whole 0 1]
  | 0x0501 => specAll [whole 0 1, whole 1 3, whole 4 4, whole 8 4, whole 12 4, whole 16 1, whole 17 1, ⟨18, 6, 0x7F⟩]
  | 0x0502 => specAll [whole 0 1, whole 1 7, whole 8 8]
  | 0x0503 => specAll [whole 0 1, whole 1 1, ⟨2, 2, 3⟩, whole 4 2]
  | 0x0504 => specAll [whole 0 1, whole 1 1]
  | 0x0505 => specAll [whole 0 1, whole 1 1, whole 2 1, whole 3 1]
  | 0x0506 => specAll [whole 0 1, whole 1 1]
  | 0x0507 => specAll [whole 0 1, ⟨1, 1, 1⟩, whole 2 1]
  | 0x0801 => specAll [whole 0 8, whole 8 8]
  | 0x0802 => specAll [whole 0 2, whole 2 1]
  | 0x0803 => specAll []
  | _ => none

/-- Fault, security and expert commands (Tables 15-10 and 15-11). -/
def cmdSpecD : Nat → Option CmdSpec
  | 0x0601 => specAll [whole 0 1, whole 1 1, whole 2 2, whole 4 4]
  | 0x0602 => specAll []
  | 0x0603 => specAll []
  | 0x0604 => specList [whole 0 2, whole 2 2]
  | 0x0605 => specMgr [whole 0 8, whole 8 8, whole 16 8, whole 24 8]
  | 0x0606 => specMgr [⟨0, 8, 1⟩, whole 8 8]
  | 0x0607 => specList [whole 0 2, whole 2 2]
  | 0x0608 => specAll [whole 0 1, whole 1 1, whole 2 6, whole 8 4]
  | 0x0609 => specAll [whole 0 1, whole 1 1, ⟨2, 1, 7⟩, whole 3 1]
  | 0x0701 => specList []
  | 0x0702 => specAll [whole 0 1, ⟨1, 1, 15⟩, whole 2 2, whole 4 4]
  | 0x0703 => specMgr [whole 0 8, whole 8 32]
  | 0x0704 => specAll [whole 0 32]
  | 0x0705 => specList [whole 0 1, whole 1 1]
  | 0x0706 => specAll []
  | 0x0707 => specOne [whole 0 1, whole 1 7, whole 8 32, whole 40 8, whole 48 2]
  | 0x0708 => specAll [whole 0 2]
  | 0x0709 => specOne []
  | 0x070A => specOne [whole 0 8, whole 8 8, whole 16 8, whole 24 2]
  | 0x0F01 => specAll [whole 0 4, whole 4 2]
  | 0x0F02 => specAll [whole 0 8]
  | 0x0F03 => specAll [whole 0 8, whole 8 4]
  | 0x0F04 => specAll [whole 0 8, whole 8 24]
  | 0x0F10 => specAll []
  | 0x0F11 => specList [whole 0 2, whole 2 2, whole 4 2]
  | 0x0F12 => specMgr [⟨0, 8, 1⟩, whole 8 8, whole 16 4]
  | _ => none

/-- What the opcode of a command defines; none when the firmware does not implement it. -/
def cmdSpec (op : Nat) : Option CmdSpec :=
  (((cmdSpecA op).orElse (fun _ => cmdSpecB op)).orElse (fun _ => cmdSpecC op)).orElse (fun _ => cmdSpecD op)

/-- Length of the listed parameters. -/
def CmdSpec.base (c : CmdSpec) : Nat := c.params.foldl (fun n p => max n (p.off + p.len)) 0

/-- A parameter of `n` bytes. -/
def prm (p : List Byte) (o n : Nat) : Nat := leAt p o n

/-- Entry bytes of the ADT (0) and the DPT (1). -/
def entryLen (table : Nat) : Nat := if table = 0 then 32 else 64

/-- The length the opcode defines, with the variable part of CH.TABLE, EXP.WRREG and EXP.WRMEM. -/
def paramLen (op : Nat) (c : CmdSpec) (p : List Byte) : Nat :=
  match op with
  | 0x0304 => 16 + prm p 2 2 * entryLen (prm p 0 2)
  | 0x0F02 => 8 + 8 * prm p 0 8
  | 0x0F04 => 32 + prm p 8 24
  | _ => c.base

/-- A reserved bit of the listed parameters is set (R54). -/
def reservedSet (c : CmdSpec) (p : List Byte) : Bool :=
  let given := min p.length c.base
  (List.range given).any (fun i =>
    let used := match c.params.find? (fun d => decide (d.off ≤ i ∧ i < d.off + d.len)) with
      | some d => d.mask / 2 ^ (8 * (i - d.off)) % 256
      | none => 0
    (p.getD i 0).toNat &&& (255 - used) != 0)

/-- Is a value one that a register field takes: within its width and none its table calls undefined? -/
def fits (f : Fld) (v : Nat) : Bool :=
  decide (v < 2 ^ f.width) && !((fieldDefs f.addr).any (fun d => d.lo == f.lo && d.undefinedVal v))

/-- Ranges of the device, host, pattern and axis commands (Table 15-5, check 10). -/
def rangeA (op : Nat) (p : List Byte) : Bool :=
  let b (o : Nat) : Nat := prm p o 1
  match op with
  | 0x0003 => decide (1 ≤ b 0 ∧ b 0 ≤ 2)
  | 0x0004 => decide (b 0 < 64)
  | 0x0005 => decide (b 0 < 8 ∧ b 1 ≤ 1)
  | 0x0010 =>
    decide (1 ≤ b 0 ∧ b 0 ≤ 15 ∧ b 1 ≤ 61 ∧ 2 ≤ prm p 2 2 ∧ prm p 2 2 ≤ 4096 ∧ 1 ≤ b 5 ∧ prm p 8 8 % 4096 = 0 ∧ prm p 16 8 % 4096 = 0)
  | 0x0011 => decide (1 ≤ b 0 ∧ b 0 ≤ 15)
  | 0x0013 => decide (b 0 ≤ 2)
  | 0x0101 =>
    let bits := 2 ^ b 4
    decide (prm p 0 4 ≠ 0 ∧ b 4 ≤ 3 ∧ b 5 ≤ 15 ∧ 8 ≤ prm p 6 2 ∧ prm p 6 2 ≤ 4096 ∧ prm p 6 2 % 8 = 0 ∧ 1 ≤ prm p 8 4 ∧
      prm p 8 4 ≤ 131072 ∧ 1 ≤ prm p 12 4 ∧ prm p 40 8 % 64 = 0 ∧
      (b 16 % 8 ≤ 2 ∨ b 16 % 8 = 7 ∨ (b 16 % 8 = 3 ∧ bits = 1) ∨ (b 16 % 8 = 4 ∧ bits ≠ 1)) ∧
      (b 16 / 16 ≤ 8 ∨ b 16 / 16 = 15))
  | 0x0102 => decide (prm p 0 4 ≠ 0)
  | 0x0104 => decide (prm p 0 4 ≠ 0)
  | 0x0105 => fits CMP_TBL.SEL (b 0) && fits CMP_CTL.FBST (prm p 1 7) && decide (prm p 8 8 % 64 = 0)
  | 0x0201 =>
    decide (b 0 < 16 ∧ b 1 / 2 < (if b 1 % 2 = 0 then 8 else 96)) && fits (AX_CTL.ACCM 0) (b 2) && fits (AX_CTL.VWIN 0) (b 3) &&
    fits (AX_CTL.SHIFT 0) (b 4) && fits (AX_CTL.DIR 0) (b 5) && fits (AX_CPR.CPR 0) (prm p 8 4)
  | 0x0202 =>
    decide (b 0 < 8) && fits (AP_CTL.MODE 0) (b 1) && fits (AP_CTL.FILT 0) (b 2) && fits (AP_CTL.SSI_CLK 0) (b 3) &&
    fits (AP_CTL.SSI_BITS 0) (b 4) && !(decide (2 ≤ b 1) && b 4 == 0) && fits (AP_CTL.SSI_ST 0) (b 5) &&
    fits (AP_CTL.SSI_PER 0) (b 6) && fits (AP_CTL.SSI_DLY 0) (b 7)
  | 0x0203 => decide (b 0 < 16 ∧ prm p 1 7 ≤ 2)
  | _ => true

/-- First index and count of CH.TABLE and CH.TABLEREAD. -/
def tableRange (p : List Byte) : Bool :=
  let t := prm p 0 2
  decide (t ≤ 1 ∧ 1 ≤ prm p 2 2 ∧ prm p 2 2 ≤ (if t = 0 then 127 else 63) ∧ prm p 4 4 + prm p 2 2 ≤ (if t = 0 then 131072 else 4096))

/-- Ranges of the channel, task, memory and power commands. -/
def rangeB (op : Nat) (p : List Byte) : Bool :=
  let b (o : Nat) : Nat := prm p o 1
  match op with
  | 0x0301 =>
    decide (b 0 < 96) && fits (FC_CTL.MAXREC 0) (b 2) && fits (FC_CTL.TMIN 0) (b 3) && fits (FC_CTL.SYNC_PER 0) (b 4) &&
    fits (FC_CTL.RESEND_TMO 0) (b 5) && fits (FC_CTL.QTHR 0) (b 6) && fits (FC_CTL.QWIN 0) (b 7) &&
    fits (WEIR_CTL.LEAD_BASE 0) (prm p 8 4) && decide (b 12 ≤ 2) && fits (WEIR_CTL.KGAIN 0) (b 13) && decide (b 15 < 64) &&
    fits (FC_LAT.LAT_OFFSET 0) (prm p 16 4)
  | 0x0302 => decide ((b 0 < 96 ∨ b 0 = 255) ∧ b 1 ≤ 1)
  | 0x0303 => decide (b 0 < 96)
  | 0x0304 => tableRange p && decide (prm p 8 8 < 65536)
  | 0x0305 => tableRange p
  | 0x0306 => decide (b 0 < 96)
  | 0x0307 => decide (b 0 < 16) && fits WEIRG_SPEED.N (b 1) && fits WEIRG_SPEED.CLR_REVS (b 2) && fits WEIRG_SPEED.HYST (b 3)
  | 0x0401 => decide (b 0 < 4 ∧ b 1 < 64 ∧ b 2 ≤ 1 ∧ b 3 ≤ 3) && fits (DSP_QCFG.SIZE 0) (b 4)
  | 0x0402 => decide (b 0 < 4 ∧ prm p 1 7 < 64)
  | 0x0403 => decide (b 0 < 4) && fits (DSP_CTL.PLACE 0) (b 1)
  | 0x0404 => decide (prm p 0 2 < 68 ∨ prm p 0 2 = 0xFFFF) && fits (POND_CTL.TASK_MAX 0) (prm p 2 2)
  | 0x0405 => decide (b 0 < 4)
  | 0x0501 =>
    decide (1 ≤ b 0 ∧ b 0 ≤ 4 ∧ prm p 1 3 < 64) && fits (MC_RGN_BASE.BASE 0) (prm p 4 4) && fits (MC_RGN_LIMIT.LIMIT 0) (prm p 8 4) &&
    fits (MC_RGN_MAP.COFF 0) (prm p 12 4) && fits (MC_RGN_MAP.CH0 0) (b 16) && fits (MC_RGN_MAP.ILV 0) (b 17)
  | 0x0502 => decide ((b 0 < 68 ∨ b 0 = 255) ∧ 1 ≤ prm p 1 7 ∧ prm p 1 7 ≤ 6 ∧ prm p 8 8 < 2 ^ 41)
  | 0x0503 => decide (b 0 < 68) && fits (MARCH_CTL.ALG 0) (b 1)
  | 0x0504 => decide (b 0 < 8 ∧ (b 1 < 4 ∨ b 1 = 255))
  | 0x0505 => decide (b 0 < 8 ∧ 1 ≤ b 1 ∧ b 1 ≤ 2 ∧ b 2 < 4 ∧ b 3 < 4)
  | 0x0506 => decide ((b 0 = 0 ∧ b 1 < 8) ∨ (b 0 = 1 ∧ b 1 < 4))
  | 0x0507 => decide (b 0 < 8) && fits (MC_SCRUB.PERIOD 0) (b 2)
  | 0x0801 => decide (prm p 0 8 ≤ 3)
  | 0x0802 => decide ((prm p 0 2 < 68 ∨ prm p 0 2 = 0xFFFF) ∧ b 2 ≤ 1)
  | _ => true

/-- Instances of a block code that FLT.ACK takes (Table 13-5). -/
def ackInst (blk inst : Nat) : Bool :=
  match blk with
  | 0x3 => decide (inst < 16)
  | 0x4 => decide (inst < 8)
  | 0x7 => decide (inst < 96)
  | 0x8 => decide (inst < 68)
  | 0x9 => decide (inst < 4)
  | 0xA => decide (inst < 8)
  | 0xB => decide (inst ≤ 4)
  | 0xE => decide (inst < 8)
  | _ => decide (blk ≤ 0x10 ∧ inst = 0)

/-- Ranges of the fault, security and expert commands. -/
def rangeC (op : Nat) (p : List Byte) : Bool :=
  let b (o : Nat) : Nat := prm p o 1
  match op with
  | 0x0601 => ackInst (b 0) (prm p 2 2) && decide (b 1 = 0 ∨ (b 1 = 1 ∧ b 0 = 7))
  | 0x0604 => decide (prm p 2 2 ≤ 4096)
  | 0x0605 =>
    let n := prm p 0 8
    decide (n = 0 ∨ (n ∈ (List.range 11).map (fun i => 2 ^ (6 + i)) ∧ prm p 8 8 % 64 = 0))
  | 0x0606 => decide (prm p 8 8 % 65536 = 0)
  | 0x0607 => decide (prm p 0 2 ≤ 2 ∧ prm p 2 2 < 256)
  | 0x0608 => decide (b 0 = 0 ∨ (b 0 = 1 ∧ b 1 < 96))
  | 0x0609 => decide (b 1 < 16) && (List.range 4).all (fun k => b 3 / 4 ^ k % 4 != k)
  | 0x0702 => decide (b 0 < 16 ∧ prm p 2 2 < 64)
  | 0x0703 => decide (1 ≤ prm p 0 8 ∧ prm p 0 8 ≤ 2)
  | 0x0707 => decide (b 0 < 4 ∧ 1 ≤ prm p 1 7 ∧ prm p 1 7 ≤ 2 ∧ prm p 48 2 ≤ 16384)
  | 0x0708 => decide (1 ≤ prm p 0 2 ∧ prm p 0 2 ≤ 4096)
  | 0x070A => decide (prm p 8 8 < 4)
  | 0x0F01 => decide (prm p 0 4 % 4 = 0 ∧ prm p 0 4 < 2 ^ 24 ∧ 1 ≤ prm p 4 2 ∧ prm p 4 2 ≤ 1024)
  | 0x0F02 => decide (1 ≤ prm p 0 8 ∧ prm p 0 8 ≤ 511)
  | 0x0F03 => decide (prm p 0 8 % 8 = 0 ∧ prm p 8 4 % 8 = 0 ∧ prm p 8 4 ≤ 65536)
  | 0x0F04 => decide (prm p 8 24 ≤ 4064)
  | 0x0F11 => decide (prm p 0 2 ≤ 1)
  | _ => true

/-- Check 10: no parameter holds an undefined value or lies out of range. -/
def paramsInRange (op : Nat) (p : List Byte) : Bool := rangeA op p && rangeB op p && rangeC op p

/-- The certificate chain of the attestation key: the vendor's certificate, then those of its successors (R415, R417). -/
def State.chainBytes (s : State) : List Byte := Config.vendorCert ++ s.sec.certs.flatMap id

/-- Length of the result of a command that is no list (R440). A quote is followed by its chain. -/
def State.resultLen (s : State) (op : Nat) (p : List Byte) : Nat :=
  match op with
  | 0x0001 => 64
  | 0x0002 => 512
  | 0x0004 => 1600
  | 0x0012 => 64
  | 0x0101 => 16
  | 0x0104 => 16
  | 0x0203 => 48
  | 0x0303 => 96
  | 0x0306 => 32
  | 0x0307 => 8
  | 0x0402 => 8
  | 0x0405 => 524
  | 0x0501 => if prm p 0 1 = 1 then 24 else 0
  | 0x0503 => 8
  | 0x0504 => 4
  | 0x0506 => if prm p 0 1 = 0 then 184 else 16
  | 0x0601 => 4
  | 0x0608 => if prm p 0 1 = 0 then 128 else 64
  | 0x0704 => 5172 + s.chainBytes.length
  | 0x0706 => 4
  | 0x0708 => prm p 0 2
  | 0x0709 => 32
  | 0x0803 => 16
  | 0x0F01 => 4 * prm p 4 2
  | 0x0F02 => 4
  | 0x0F03 => prm p 8 4
  | 0x0F10 => 128
  | _ => 0

/-- Commands that run before READY (R445). -/
def beforeReady (op : Nat) : Bool :=
  op ∈ [0x0001, 0x0002, 0x0010, 0x0011, 0x0012, 0x0013, 0x0604, 0x0605, 0x0606, 0x0701]

/-- A packet as fetched (Table 15-3). -/
structure Packet where
  opcode : Nat
  flags  : Nat
  target : Nat
  tag    : Word32
  plen   : Nat
  rlen   : Nat
  paddr  : Nat
  raddr  : Nat
  entry  : List Byte
  params : Option (List Byte)
  deriving DecidableEq, Repr

def Packet.pind (p : Packet) : Bool := Nat.testBit p.flags 0
def Packet.rbuf (p : Packet) : Bool := Nat.testBit p.flags 1
def Packet.order (p : Packet) : Bool := Nat.testBit p.flags 2
def Packet.early (p : Packet) : Bool := Nat.testBit p.flags 3

/-- Read a packet: its parameters are the inline bytes, or those the host holds at PADDR. -/
def readPacket (r : List Byte) (far : Option (List Byte)) : Packet :=
  let plen := leAt r 8 2 % 8192
  let pind := leAt r 2 1 % 2 = 1
  { opcode := leAt r 0 2, flags := leAt r 2 1, target := leAt r 3 1, tag := BitVec.ofNat 32 (leAt r 4 4), plen := plen,
    rlen := leAt r 12 3, paddr := leAt r 16 8, raddr := leAt r 24 8, entry := r,
    params := if pind then far.map (fun b => slice b 0 plen) else some (slice (slice r 32 32) 0 (min plen 32)) }

/-- A reserved header field or flag is nonzero, or inline bytes stand where the header says there are none (Table 15-3). -/
def Packet.reserved (p : Packet) : Bool :=
  p.flags / 16 != 0 || leAt p.entry 8 2 / 8192 != 0 || leAt p.entry 10 2 != 0 || leAt p.entry 15 1 != 0 ||
  (!p.pind && p.paddr != 0) || (!p.rbuf && p.raddr != 0) ||
  ((p.entry.drop (if p.pind then 32 else 32 + p.plen)).any (· != 0))

/-- Devices present beside this one (R459); an asleep worker stays present (R490). -/
def State.presentDevices (s : State) : List Nat :=
  (s.tree.workers.filter (fun e => e.2.present)).map (·.1)

/-- Checks 1 to 10 of Table 15-5, in order: (0, 0) when every one passes. -/
def State.packetFault (s : State) (p : Packet) : Nat × Nat :=
  if 4096 < p.plen ∨ (!p.pind ∧ 32 < p.plen) ∨ (p.pind ∧ (p.paddr = 0 ∨ p.paddr % 8 ≠ 0)) ∨
     (p.rbuf ∧ (p.raddr = 0 ∨ p.raddr % 8 ≠ 0)) then (0x20, 1)
  else if 64 ≤ p.target ∧ p.target ≤ 0xFE then (0x20, 2)
  else match p.params with
  | none => (0x24, 1)
  | some b =>
    match cmdSpec p.opcode with
    | none => (0x22, 0)
    | some c =>
      if p.reserved || reservedSet c b then (0x21, 1)
      else if b.length < c.base ∨ b.length < paramLen p.opcode c b then (0x20, 3)
      else if (b.drop (paramLen p.opcode c b)).any (· != 0) then (0x22, 0)
      else if p.target ≠ 0xFF ∧ p.target ≠ 0 ∧ !s.presentDevices.contains p.target then (0x23, 0)
      else if (p.target = 0xFF ∧ c.target ≠ .all) ∨ (p.target ≠ 0 ∧ c.target = .manager) then (0x21, 6)
      else if !paramsInRange p.opcode b then (0x21, 3)
      else (0, 0)

/-- The block instance a command addresses: commands for one run one at a time (R443). -/
def unitsOf (op : Nat) (p : List Byte) : List (Nat × Nat) :=
  let b (o : Nat) : Nat := prm p o 1
  match op with
  | 0x0005 => [(0xE, b 0)]
  | 0x0101 | 0x0104 | 0x0105 => [(0xB, 0)]
  | 0x0201 | 0x0203 => [(0x3, b 0)]
  | 0x0202 => [(0x4, b 0)]
  | 0x0301 | 0x0303 | 0x0306 => [(0x7, b 0)]
  | 0x0302 => if b 0 = 255 then (upTo 96).map (fun n => (0x7, n)) else [(0x7, b 0)]
  | 0x0304 | 0x0305 => [(0x6, 0)]
  | 0x0307 => [(0x5, 0)]
  | 0x0401 | 0x0402 | 0x0403 | 0x0405 => [(0x9, b 0)]
  | 0x0404 | 0x0802 => if prm p 0 2 = 0xFFFF then (upTo 68).map (fun n => (0x8, n)) else [(0x8, prm p 0 2)]
  | 0x0501 => [(0xA, 0)]
  | 0x0502 => if b 0 = 255 then (upTo 68).map (fun n => (0x8, n)) else [(0x8, b 0)]
  | 0x0503 => [(0x8, b 0)]
  | 0x0504 | 0x0505 | 0x0507 => [(0xA, b 0)]
  | 0x0601 => [(b 0, prm p 2 2)]
  | 0x0606 | 0x0607 | 0x0609 => [(0xF, 0)]
  | 0x0702 | 0x0703 | 0x0707 => [(0xC, 0)]
  | 0x0801 => [(0x1, 0)]
  | _ => []

end Sys2Proof.Machine
end

