-- ==== Sys2Proof/Machine/HostOps.lean ====
section
/-!
DEFINITION. The host interface (R431 to R452): queue pairs, doorbells, arbitration rounds, admission, completions, coalescing,
resets of the HOST block, and the data port.
-/

namespace Sys2Proof.Machine

/-! ### Queues -/

def State.qpair (s : State) (q : Nat) : Option QPair := Tab.get (fun _ => none) s.host.pairs q

def State.setQpair (s : State) (q : Nat) (v : Option QPair) : State :=
  { s with host := { s.host with pairs := Tab.set (fun _ => none) s.host.pairs q v } }

/-- Count in HOST.STATS, saturating at 32 bits (command 0x0012). -/
def State.stat (s : State) (k : Nat) : State :=
  let v := Tab.get (fun _ => 0) s.host.stats k
  { s with host := { s.host with stats := Tab.set (fun _ => 0) s.host.stats k (min 0xFFFFFFFF (v + 1)) } }

/-- Keep the highest accepted count. -/
def State.statHigh (s : State) : State :=
  { s with host := { s.host with stats := Tab.set (fun _ => 0) s.host.stats 15 (max (Tab.get (fun _ => 0) s.host.stats 15) s.acceptedCount) } }

/-- Count a completion by its status. -/
def State.statStatus (s : State) (status : Nat) : State :=
  match status with
  | 0x20 => s.stat 2
  | 0x21 => s.stat 3
  | 0x22 => s.stat 4
  | 0x23 => s.stat 5
  | 0x24 => s.stat 6
  | 0x10 => s.stat 7
  | 0x30 => s.stat 8
  | _ => s

/-- A fault of the HOST block with its capture words (Table 15-18): master, access type, space and queue. -/
def State.hostRaise (s : State) (b : FaultBit) (addr master atype space queue : Nat) : State :=
  s.raiseAt b addr (master * 2 ^ 20 + atype * 2 ^ 17 + space * 2 ^ 16 + queue * 2 ^ 12) 0

/-- A new pair (R434, R435). -/
def newPair (sq cq size prio vector ccount ctime : Nat) : QPair :=
  { sqBase := sq, cqBase := cq, size := size, prio := prio, vector := vector, ccount := ccount, ctime := ctime, sqHead := 0,
    sqTail := 0, cqHead := 0, cqTail := 0, phase := true, err := false, deleting := false, unsent := 0, oldest := 0 }

/-- CQ entries written and not released. -/
def QPair.unreleased (p : QPair) : Nat := (p.cqTail + p.size - p.cqHead) % p.size

/-- Doorbell address in the HOST block. -/
def sqBell (q : Nat) : Nat := 0x100 + 8 * q
def cqBell (q : Nat) : Nat := 0x104 + 8 * q

/-- Capture master of a requester (Table 15-18). -/
def barMaster : Requester → Nat
  | .bar2 => 1
  | _ => 0

def State.bellBad (s : State) (who : Requester) (a : Nat) : State :=
  (s.stat 9).hostRaise Flt.HOST_DB_BAD a (barMaster who) 1 0 0

/-- A submission doorbell (R435, Table 15-16): the device leaves D-NAP for it (R487). -/
def State.sqDoorbell (s : State) (who : Requester) (q : Nat) (v : Nat) : State :=
  let s := s.napEnd
  match s.qpair q with
  | none => s.bellBad who (sqBell q)
  | some p =>
    if p.deleting || decide (p.size ≤ v) then s.bellBad who (sqBell q)
    else (s.setFld (SQ_TAIL.TAIL q) v).setQpair q (some { p with sqTail := v })

/-- A completion doorbell (R435, Table 15-16). -/
def State.cqDoorbell (s : State) (who : Requester) (q : Nat) (v : Nat) : State :=
  let s := s.napEnd
  match s.qpair q with
  | none => s.bellBad who (cqBell q)
  | some p =>
    if p.deleting || decide (p.size ≤ v) || decide (p.unreleased < (v + p.size - p.cqHead) % p.size) then s.bellBad who (cqBell q)
    else (s.setFld (CQ_HEAD.HEAD q) v).setQpair q (some { p with cqHead := v })

/-- Signal a queue's vector for the entries written since the last message (R438). -/
def State.signalQueue (s : State) (q : Nat) : State :=
  match s.qpair q with
  | none => s
  | some p => if p.unsent = 0 then s else (s.setQpair q (some { p with unsent := 0 })).msix p.vector

/-- The oldest entry not signalled has waited the coalescing time (R438). -/
def State.coalesce (s : State) (q : Nat) : State :=
  match s.qpair q with
  | none => s
  | some p => if 0 < p.unsent ∧ elapsed s.dt p.oldest (usTicks p.ctime) then s.signalQueue q else s

/-- What a CQ entry says (Table 15-4). -/
structure CqEntry where
  tag    : Word32
  status : Nat
  detail : Nat
  sqhd   : Nat
  device : Nat
  rbytes : Nat
  res    : List Byte
  deriving DecidableEq, Repr

def CqEntry.bytes (e : CqEntry) (q : Nat) (phase : Bool) : List Byte :=
  leBytes 4 e.tag.toNat ++ leBytes 2 e.status ++ leBytes 2 e.detail ++ leBytes 2 e.sqhd ++ leBytes 1 q ++ leBytes 1 e.device ++
  leBytes 4 (e.rbytes + if phase then 2 ^ 31 else 0) ++ slice e.res 0 16

/-- A completion that goes nowhere is counted (R431, R446). -/
def State.discarded (s : State) : State := s.stat 13

/-- Write a CQ entry and signal it (R435, R438, R446). -/
def State.putCq (s : State) (q : Nat) (e : CqEntry) : State :=
  match s.qpair q with
  | none => s.discarded
  | some p =>
    if p.err then s.discarded
    else
      let a := p.cqBase + 32 * p.cqTail
      if s.hostOk a 32 then
        let s := s.hostPut a (e.bytes q p.phase)
        let t := (p.cqTail + 1) % p.size
        let n := p.unsent + 1
        let s := s.setQpair q (some { p with cqTail := t, phase := if t = 0 then !p.phase else p.phase, unsent := n,
                                             oldest := if p.unsent = 0 then s.dt else p.oldest })
        if p.ccount ≤ n then s.signalQueue q else s
      else
        ((s.setQpair q (some { p with err := true })).discarded).hostRaise Flt.HOST_DMA a 4 1 0 q

/-! ### Completion -/

/-- Replace an accepted command. -/
def State.updCmd (s : State) (c : HostCmd) : State :=
  { s with host := { s.host with accepted := s.host.accepted.map (fun x => if x.order = c.order then c else x) } }

/-- A command as now held. -/
def State.cmdNow (s : State) (c : HostCmd) : HostCmd := (s.host.accepted.find? (fun x => x.order == c.order)).getD c

/-- A device of a command has answered: with the last one the command is complete. -/
def State.cmdAnswered (s : State) (c : HostCmd) (dev : Nat) : State :=
  let c := s.cmdNow c
  let left := c.devices.filter (· != dev)
  if left.isEmpty then { s with host := { s.host with accepted := s.host.accepted.filter (fun x => x.order != c.order) } }
  else s.updCmd { c with devices := left }

/-- The final entry of one device (R438, R440, R442): results of more than 16 bytes go to RADDR + DEVICE × RLEN first. -/
def State.postFinal (s : State) (c : HostCmd) (dev status detail : Nat) (res : List Byte) : State :=
  let s := s.stat 1
  let long := decide (16 < res.length)
  let a := c.raddr + (if c.target = 0xFF then dev * c.rlen else 0)
  let ok := !long || s.hostOk a res.length
  let live := decide (c.sq < 16) && (s.qpair c.sq).any (fun p => !p.err)
  let s := if long && ok && live then s.hostPut a res else s
  let status' := if ok then status else 0x24
  let s := s.statStatus status'
  let e : CqEntry :=
    { tag := c.tag, status := status', detail := if ok then detail else 2, sqhd := c.sqhd, device := dev,
      rbytes := if long && ok then res.length else 0, res := if long then [] else res }
  if c.sq < 16 then s.putCq c.sq e else s.discarded

/-- The REPLY of a worker (Table 16-5): status, detail, RBYTES, RES, then the result bytes. -/
def replyBody (status detail : Nat) (res : List Byte) : List Byte :=
  let long := decide (16 < res.length)
  leBytes 2 status ++ leBytes 2 detail ++ leBytes 4 (if long then res.length else 0) ++ (if long then zeros 16 ++ res else slice res 0 16)

/-- This device completes its part of a command; a worker's REPLY marks the poisoned words of a long result (R462). -/
def State.finishMarked (s : State) (c : HostCmd) (status detail : Nat) (res : List Byte) (poison : List Nat) : State :=
  let dev := s.tree.num
  let s := s.cmdAnswered c dev
  if c.routed then s.sendMsg 0 3 0x02 0 (replyBody status detail res) (poison.map (· + 3))
  else s.postFinal c dev status detail res

/-- This device completes its part of a command. -/
def State.finishCmd (s : State) (c : HostCmd) (status detail : Nat) (res : List Byte) : State := s.finishMarked c status detail res []

/-- Completion without a result. -/
def State.finishOk (s : State) (c : HostCmd) : State := s.finishCmd c 0 0 []

/-! ### Arbitration rounds (R436, R437, R443, R444, R446) -/

/-- Final entries still to be written to a queue. -/
def State.reservedFor (s : State) (q : Nat) : Nat :=
  s.host.accepted.foldl (fun n c => if c.sq = q ∧ !c.routed then n + c.devices.length else n) 0

/-- Complete a packet that is not accepted (R446); `bad` marks a malformed one. -/
def State.refusePacket (s : State) (q sqhd : Nat) (p : Packet) (status detail : Nat) (bad : Bool) (addr : Nat) : State :=
  let s := if bad then s.hostRaise Flt.HOST_PKT_BAD addr 2 0 0 q else s
  ((s.stat 1).statStatus status).putCq q { tag := p.tag, status := status, detail := detail, sqhd := sqhd, device := 0, rbytes := 0, res := [] }

/-- Accept a packet (R441, R443). -/
def State.acceptPacket (s : State) (q sqhd : Nat) (p : Packet) (devices : List Nat) : State :=
  let c : HostCmd :=
    { sq := q, order := s.host.nextOrder, sqhd := sqhd, opcode := p.opcode, rbuf := p.rbuf, ordered := p.order, target := p.target,
      tag := p.tag, rlen := p.rlen, raddr := p.raddr, params := p.params.getD [], started := false, sent := [], wait := .none,
      devices := devices, routed := false, head := p.entry.take 32 }
  let s := { s with host := { s.host with accepted := s.host.accepted ++ [c], nextOrder := s.host.nextOrder + 1 } }
  let s := (s.stat 0).statHigh
  if p.early then s.putCq q { tag := p.tag, status := 1, detail := 0, sqhd := sqhd, device := 0, rbytes := 0, res := [] } else s

/-- Admit a packet that passed every check (R444): the retry hint is firmware's estimate, a free value. -/
def State.admitPacket (s : State) (q sqhd : Nat) (p : Packet) : State :=
  let devices := if p.target = 0xFF then 0 :: s.presentDevices else [p.target]
  if 8192 < s.acceptedCount + devices.length then
    let (x, s) := s.fresh
    s.refusePacket q sqhd p 0x10 (1 + Config.free x % 65535) false 0
  else s.acceptPacket q sqhd p devices

/-- Fetch one entry of a queue (R436, R446): false when the queue gives no more this round. -/
def State.fetchOne (s : State) (q : Nat) (r : SqRead) : Bool × State :=
  match s.qpair q with
  | none => (false, s)
  | some qp =>
    let a := qp.sqBase + 64 * qp.sqHead
    if qp.err || qp.deleting || qp.sqHead == qp.sqTail then (false, s)
    else match r.entry with
    | none => (false, (s.setQpair q (some { qp with err := true })).hostRaise Flt.HOST_DMA a 2 0 0 q)
    | some b =>
      let p := readPacket (slice b 0 64) r.params
      let need := (if p.target = 0xFF then 1 + s.presentDevices.length else 1) + (if p.early then 1 else 0)
      if qp.size - 1 < qp.unreleased + s.reservedFor q + need then (false, s)
      else
        let h := (qp.sqHead + 1) % qp.size
        let s := s.setQpair q (some { qp with sqHead := h })
        let (status, detail) := s.packetFault p
        if status = 0 then (true, s.admitPacket q h p) else (true, s.refusePacket q h p status detail true a)

/-- Serve a queue: at most `n` entries, with what the host holds for it. -/
def State.serveQueue (q : Nat) : Nat → List SqRead → State → State
  | 0, _, s => s
  | _, [], s => s
  | n + 1, r :: rest, s =>
    if r.q.val = q then
      let (go, s) := s.fetchOne q r
      if go then State.serveQueue q n rest s else s
    else State.serveQueue q (n + 1) rest s

/-- Is a queue empty at the start of a round? -/
def State.queueEmpty (s : State) (q : Nat) : Bool :=
  match s.qpair q with
  | none => true
  | some p => p.sqHead == p.sqTail

/-- Created queues of a priority, in rotation after the one served last (R437). -/
def State.levelQueues (s : State) (prio : Nat) : List Nat :=
  let last := Tab.get (fun _ => 0) s.host.rotate prio
  let l := (upTo 16).filter (fun q => q != 0 && (s.qpair q).any (fun p => p.prio == prio))
  l.filter (fun q => decide (last < q)) ++ l.filter (fun q => decide (q ≤ last))

/-- Serve a level; the rotation goes on after the last queue that held entries. -/
def State.serveLevel (reads : List SqRead) (prio : Nat) (s : State) : State :=
  (s.levelQueues prio).foldl (fun (s : State) q =>
    if s.queueEmpty q then s
    else
      let s := State.serveQueue q 8 reads s
      { s with host := { s.host with rotate := Tab.set (fun _ => 0) s.host.rotate prio q } }) s

/-- Registers of the HOST block. -/
def inHost (a : Nat) : Bool := decide (0xC00000 ≤ a ∧ a < 0xC80000)

/-- Does firmware serve the host now? From step 5 of Table 17-7 on, and never on a worker (R22). -/
def State.hostServed (s : State) : Bool :=
  let stage := s.fld BOOT_STAGE.STAGE
  !s.isWorker && (s.pwr.phase == .ready || ((s.pwr.phase == .starting || s.pwr.phase == .stopped) && decide (3 ≤ stage ∧ stage < 0x0E)))

/-- An arbitration round (R437), the HOST commit point: what the host holds is as `io` says. A level is served only when the
queues of every higher level were empty as the round began. -/
def State.arbRound (s : State) (io : HostIo) : State :=
  let s := { s with host := { s.host with dmaBad := io.bad, headWord := io.head } }
  let s := s.applyStaged inHost
  if !s.bit HOST_CTL.EN || s.host.stopping || s.host.d3 || !s.hostServed then s
  else
    let levels := ([3, 2, 1, 0].filter (fun p => ((upTo 4).filter (fun h => decide (p < h))).all (fun h => (s.levelQueues h).all s.queueEmpty)))
    levels.foldl (fun (s : State) p => s.serveLevel io.reads p) (State.serveQueue 0 8 io.reads s)

/-! ### Enable, reset, masks and D3hot (R431, R433, R457) -/

/-- HOST_CTL.EN written (R434, R457): 1 makes the admin pair from AQ_BASE and AQ_CFG. -/
def State.hostEnable (s : State) (en : Bool) : State :=
  if en then
    if s.bit HOST_CTL.EN then s
    else
      let size := s.fld AQ_CFG.SIZE
      let base := s.fld AQ_BASE_HI.BASE * 2 ^ 32 + s.fld AQ_BASE_LO.BASE * 2 ^ 12
      let s := s.setFld HOST_CTL.EN 1
      let s := (s.setFld (SQ_TAIL.TAIL 0) 0).setFld (CQ_HEAD.HEAD 0) 0
      if size < 2 then s.setQpair 0 none
      else s.setQpair 0 (some (newPair base (base + (64 * size + 4095) / 4096 * 4096) size 3 0 1 0))
  else if s.bit HOST_CTL.EN then { s with host := { s.host with stopping := true } }
  else s

/-- The stopped state (R457): every accepted command of the host has completed. -/
def State.hostStopPoint (s : State) : State :=
  if s.host.stopping && s.host.accepted.all (fun c => c.routed || decide (16 ≤ c.sq)) then
    { s.setFld HOST_CTL.EN 0 with host := { s.host with stopping := false } }
  else s

/-- Reset of the HOST block (R431): registers, queues and fault log; commands accepted before it run on, their completions
discarded; so are those still held for D0. -/
def State.hostBlockReset (s : State) (linkDown : Bool) : State :=
  let was := s.bit HOST_CTL.EN
  let speed := s.fld HOST_STAT.SPEED
  let width := s.fld HOST_STAT.WIDTH
  let lost := (s.host.held.filter (fun e => decide (e.2.length = 32))).length
  let h := s.host
  let s := { s with
    flds := s.flds.filter (fun e => !inHost (e.1 / 32)), staged := s.staged.filter (fun e => !inHost (e.1 / 32)),
    host := { HostSt.init with
      accepted := h.accepted.map (fun c => if c.routed || decide (16 ≤ c.sq) then c else { c with sq := c.sq + 16 }),
      nextOrder := h.nextOrder, stats := h.stats, expOff := h.expOff, patterns := h.patterns, dmaBad := h.dmaBad,
      headWord := h.headWord } }
  let s := ((List.range lost).foldl (fun (s : State) _ => s.discarded) s).stat 14
  let s := if linkDown then s else (s.setFld HOST_STAT.SPEED speed).setFld HOST_STAT.WIDTH width
  if linkDown && was then s.raise Flt.HOST_LINK else s

/-- The host unmasks a vector; that MSI-X is enabled goes with it, since the table has no command for the configuration space. -/
def State.msixUnmask (s : State) (v : Nat) : State :=
  let s := { s with host := { s.host with msixOn := true, masked := Tab.set (fun _ => true) s.host.masked v false } }
  if Tab.get (fun _ => false) s.host.msixPend v && !s.host.d3 then (s.setPend v false).emit (.msix v) else s

/-- The function moves between D0 and D3hot (R431): writes and messages held go out in order. -/
def State.powerFunction (s : State) (d3 : Bool) : State :=
  if d3 then { s with host := { s.host with d3 := true } }
  else
    let held := s.host.held
    let s := { s with host := { s.host with d3 := false, held := [] } }
    let s := held.foldl (fun (s : State) e => s.emit (.host e.1 e.2)) s
    (upTo 64).foldl (fun (s : State) v =>
      if Tab.get (fun _ => false) s.host.msixPend v && !s.masked v then (s.setPend v false).emit (.msix v) else s) s

/-! ### The data port (R449 to R452) -/

def State.dpAddr (s : State) : Nat := (s.pair DP_ADDR_LO.ADDR DP_ADDR_HI.ADDR).toNat
def State.setDpAddr (s : State) (a : Nat) : State := s.setPair DP_ADDR_LO.ADDR DP_ADDR_HI.ADDR (BitVec.ofNat 64 a)

/-- Drop the prefetched data. -/
def State.dropPrefetch (s : State) : State := { s with host := { s.host with prefetch := [] } }

/-- Step to the next unit's address (R450). -/
def State.dpStep (s : State) : State :=
  match s.fld DP_CTL.INC with
  | 0 => s.setDpAddr (s.dpAddr + 4)
  | 1 => s.setDpAddr (s.dpAddr + s.fld DP_CTL.STRIDE)
  | _ => s

/-- What a device address reaches (R449, R25, R26). -/
inductive DevAddr where
  | dram (a : Nat) | pond (p : Fin 68) (off : Nat) | other
  deriving DecidableEq, Repr

def devAddr (a : Nat) : DevAddr :=
  if a < 2 ^ 41 then .dram a
  else
    let r := a - winHost
    if h : winHost ≤ a ∧ r / pmSize < 68 then .pond ⟨r / pmSize, h.2⟩ (r % pmSize) else .other

/-- A data-port fault (R449, R452). -/
def State.dpFault (s : State) (b : FaultBit) (k a atype : Nat) : State :=
  ((s.setFld DP_CTL.ERR 1).stat k).hostRaise b a 5 atype 1 0

/-- One 8-byte word as the port reads it: its bytes, and whether it is poisoned. -/
def State.portWord (s : State) (a master : Nat) : Nat × Bool × State :=
  match devAddr a with
  | .dram x =>
    match s.masterBytes (x / 8 * 8) 8 5 with
    | (none, s) => (0, false, s)
    | (some (b, ps), s) => (leNat b, ps.any (fun q => q), s)
  | .pond p off =>
    if s.pmAllowed p.val master (off / 8 * 8) 8 1 then (leNat (s.pmBytes p.val (off / 8 * 8) 8), s.pmPoisoned p.val (off / 8), s)
    else (0, false, s.pondRaise Flt.POND_PM_REGION p.val off master 0 1)
  | .other => (0, false, s)

/-- One read unit performed now (R449, R452): the value and whether it is poisoned. -/
def State.dpReadAt (s : State) (a : Nat) : Word32 × Bool × State :=
  if devAddr a = .other then (0, false, s.dpFault Flt.HOST_DP_RANGE 11 a 0)
  else
    let (w, bad, s) := s.portWord a 19
    if bad then (0xFFFFFFFF#32, true, s.dpFault Flt.HOST_DP_POISON 12 a 0)
    else (BitVec.ofNat 32 (w / 2 ^ (a % 8 / 4 * 32)), false, s)

/-- Read ahead up to 512 bytes of DP_ADDR (R451). -/
def State.dpPrefetch (s : State) (a : Nat) : State :=
  let (l, s) := (List.range 128).foldl (fun (acc : List (Nat × Word32 × Bool) × State) i =>
    let x := a + 4 * i
    if devAddr x = .other then acc
    else
      let (w, bad, s) := acc.2.portWord x 19
      (acc.1 ++ [(x, (if bad then 0xFFFFFFFF#32 else BitVec.ofNat 32 (w / 2 ^ (x % 8 / 4 * 32))), bad)], s)) ([], s)
  { s with host := { s.host with prefetch := l } }

/-- One read unit (R450, R451). -/
def State.dpReadUnit (s : State) : State :=
  let a := s.dpAddr / 4 * 4
  let s := { s with host := { s.host with lastDp := s.dt } }
  let pref := s.bit DP_CTL.PREF && s.fld DP_CTL.INC == 0
  let s := if pref && !s.host.prefetch.any (fun e => e.1 == a) then s.dpPrefetch a else s
  let (v, bad, s) :=
    match (if pref then s.host.prefetch.find? (fun e => e.1 == a) else none) with
    | some e => (e.2.1, e.2.2, if e.2.2 then s.dpFault Flt.HOST_DP_POISON 12 a 0 else s)
    | none => s.dpReadAt a
  (s.emit (.dpRead v (bad && s.bit HOST_CTL.EP_EN))).dpStep

/-- `n` read units of one TLP. -/
def State.dpRead : Nat → State → State
  | 0, s => s
  | n + 1, s => State.dpRead n s.dpReadUnit

/-- Write bytes at a device address under a mask as the port (R449). -/
def State.portWrite (s : State) (a master : Nat) (b : List (Option Byte)) : State :=
  match devAddr a with
  | .dram x =>
    let line := x / 64
    (s.masterWrite none line (List.replicate (x % 64) none ++ b ++ List.replicate (64 - x % 64 - b.length) none) 0 5).2
  | .pond p off =>
    if s.pmAllowed p.val master off b.length 2 then
      s.pmWriteMask p off b
    else s.pondRaise Flt.POND_PM_REGION p.val off master 1 1
  | .other => s

/-- The enabled bytes of a unit. -/
def unitBytes (u : BitVec 4 × Word32) : List (Option Byte) :=
  (List.range 4).map (fun i => if u.1.getLsbD i then some (BitVec.ofNat 8 (u.2.toNat / 256 ^ i)) else none)

/-- The write units of one TLP (R450, R452): two whole units of an aligned word that follow one another are one access. -/
def State.dpWriteN : Nat → List (BitVec 4 × Word32) → State → State
  | 0, _, s => s
  | _, [], s => s
  | n + 1, u :: rest, s =>
    let a := s.dpAddr / 4 * 4
    let bad := decide (devAddr a = .other)
    let s1 := s.dpStep
    let one (s : State) : State := if bad then s.dpFault Flt.HOST_DP_RANGE 11 a 1 else s.portWrite a 19 (unitBytes u)
    match rest with
    | [] => one s1
    | v :: rest' =>
      if a % 8 = 0 ∧ s1.dpAddr = a + 4 ∧ !bad then State.dpWriteN n rest' (s1.dpStep.portWrite a 19 (unitBytes u ++ unitBytes v))
      else State.dpWriteN n rest (one s1)

/-- A write TLP to the window (R450, R451). -/
def State.dpWrite (s : State) (units : List (BitVec 4 × Word32)) : State := (State.dpWriteN units.length units s).dropPrefetch

/-- DP_CTL written (R451, Table 15-16): undefined values are refused; the prefetch is discarded. -/
def State.dpCtl (s : State) (v : Word32) : State :=
  let stride := v.toNat / 2 ^ 16
  (writePlain s DP_CTL.addr v.toNat [] (fun lo _ => decide (lo = 16 ∧ (stride % 4 ≠ 0 ∨ stride = 0)))).dropPrefetch

/-- 10 µs without a read (R451). -/
def State.dpExpire (s : State) : State :=
  if elapsed s.dt s.host.lastDp (usTicks 10) then s.dropPrefetch else s

end Sys2Proof.Machine
end

