-- ==== Sys2Proof/Machine/Ucode.lean ====
section
/-!
DEFINITION. The control store and decode table as data: the fields of a microword (Table 09-2) and of a decode entry
(Table 09-7), the checks of a customer image (R262, R264, R265) and its loading (Table 09-10).
-/

namespace Sys2Proof.Machine

/-- Bits of a microword or of a decode entry. -/
def bitsFrom (v lo n : Nat) : Nat := v / 2 ^ lo % 2 ^ n

def MW.seq (w : Nat) : Nat := bitsFrom w 157 3
def MW.cond (w : Nat) : Nat := bitsFrom w 153 4
def MW.target (w : Nat) : Nat := bitsFrom w 140 13
def MW.alu (w : Nat) : Nat := bitsFrom w 134 6
def MW.srcA (w : Nat) : Nat := bitsFrom w 128 6
def MW.srcB (w : Nat) : Nat := bitsFrom w 122 6
def MW.dest (w : Nat) : Nat := bitsFrom w 117 5
def MW.mem (w : Nat) : Nat := bitsFrom w 114 3
def MW.msize (w : Nat) : Nat := bitsFrom w 112 2
def MW.msext (w : Nat) : Bool := bitsFrom w 111 1 == 1
def MW.imm (w : Nat) : Word := BitVec.ofNat 64 (bitsFrom w 47 64)
def MW.fmask (w : Nat) : Nat := bitsFrom w 43 4
def MW.ufl (w : Nat) : Bool := bitsFrom w 42 1 == 1
def MW.ten (w : Nat) : Bool := bitsFrom w 41 1 == 1
def MW.tcond (w : Nat) : Nat := bitsFrom w 37 4
def MW.tcode (w : Nat) : Nat := bitsFrom w 29 8
def MW.tcause (w : Nat) : Nat := bitsFrom w 26 3
def MW.ipt (w : Nat) : Bool := bitsFrom w 25 1 == 1

/-- May a source select stand in the customer region (Table 09-5)? -/
def srcOk (k : Nat) : Bool := decide (k ≤ 19 ∨ 32 ≤ k)

/-- The codes of a word that the sequencer checks again as it executes it (R262, R263). -/
def MW.codesOk (w : Nat) : Bool :=
  decide (MW.seq w ≤ 5) && MW.cond w != 15 && decide (MW.alu w ≤ 19) && srcOk (MW.srcA w) && srcOk (MW.srcB w) &&
  decide (MW.dest w ≤ 11) && decide (MW.mem w ≤ 2) && MW.tcond w != 15 && MW.tcause w == 0

/-- Is a customer microword accepted (R262)? -/
def MW.accepted (w : Nat) : Bool :=
  MW.codesOk w && (!(MW.seq w == 1 || MW.seq w == 2 || MW.seq w == 3) || decide (0x1800 ≤ MW.target w)) &&
  (!MW.ten w || decide (0x10 ≤ MW.tcode w)) && bitsFrom w 0 25 == 0 && !(MW.mem w == 1 && MW.dest w == 11)

def DE.dtver (e : Nat) : Nat := bitsFrom e 60 4
def DE.valid (e : Nat) : Bool := bitsFrom e 59 1 == 1
def DE.repok (e : Nat) : Bool := bitsFrom e 58 1 == 1
def DE.format (e : Nat) : Nat := bitsFrom e 54 4
def DE.wideok (e : Nat) : Bool := bitsFrom e 53 1 == 1
def DE.use (e : Nat) : Nat := bitsFrom e 48 4
def DE.xmax (e : Nat) : Nat := bitsFrom e 44 4
def DE.df (e : Nat) : Bool := bitsFrom e 43 1 == 1
def DE.sf (e : Nat) : Bool := bitsFrom e 42 1 == 1
def DE.entry (e : Nat) : Nat := bitsFrom e 29 13

/-- Is a decode entry accepted (R260 to R262)? -/
def DE.accepted (nwords e : Nat) : Bool :=
  decide (DE.format e ≤ 5) && (!DE.wideok e || DE.format e == 4) && bitsFrom e 52 1 == 0 && bitsFrom e 0 29 == 0 &&
  decide (0x1800 ≤ DE.entry e ∧ DE.entry e < 0x1800 + nwords)

/-- A customer image that passed its checks. -/
structure CxImage where
  slot    : Nat
  ver     : Word32
  words   : List Nat
  entries : List (Nat × Nat)
  deriving DecidableEq, Repr

/-- Why an image is refused: its layout, a higher format version, its key, its signature, its version, a word, an entry.
The spec numbers no reasons; the codes are the model's (assumption 41). -/
inductive ImgRefusal where
  | layout | version | key | signature | old | word | entry
  deriving DecidableEq, Repr

def ImgRefusal.code : ImgRefusal → Nat
  | .layout => 1 | .version => 2 | .key => 3 | .signature => 4 | .old => 5 | .word => 6 | .entry => 7

/-- No opcode appears twice. -/
def distinctKeys : List (Nat × Nat) → Bool
  | [] => true
  | e :: t => !(t.any (fun x => x.1 == e.1)) && distinctKeys t

/-- Check a customer image (R55, R262, R264, R265). -/
def State.checkImage (s : State) (img : List Byte) : ImgRefusal ⊕ CxImage :=
  let nw := leAt img 12 2
  let ne := leAt img 14 2
  let body := 80 + 20 * nw + 16 * ne
  let slot := leAt img 6 1
  let ents := (List.range ne).map (fun i => slice img (80 + 20 * nw + 16 * i) 16)
  let pub := slice img 16 60
  let sl := s.slot slot
  if img.length ≤ body ∨ leAt img 0 4 ≠ 0x7A51C0DE ∨ nw > 2048 ∨ ne > 64 ∨ slot > 3 ∨ leAt img 7 1 ≠ 0 ∨ leAt img 76 4 ≠ 0 then
    .inl .layout
  else if leAt img 4 1 > 1 ∨ leAt img 5 1 > 1 then .inl .version
  else if leAt img 4 1 ≠ 1 ∨ leAt img 5 1 ≠ 1 ∨ ents.any (fun e => decide (63 < leAt e 0 1 ∨ leAt e 1 7 ≠ 0)) then .inl .layout
  else if !sl.prog || sl.revoked || sha256 pub != sl.hash then .inl .key
  else if !hssVerify pub (img.take body) (img.drop body) then .inl .signature
  else if leAt img 8 4 < Tab.get (fun _ => 0) s.sec.slotCtr slot then .inl .old
  else
    let words := (List.range nw).map (fun i => leAt img (80 + 20 * i) 20)
    let entries := ents.map (fun e => (leAt e 0 1, leAt e 8 8))
    if !words.all MW.accepted then .inl .word
    else if entries.any (fun e => decide (1 < DE.dtver e.2)) then .inl .version
    else if !distinctKeys entries || entries.any (fun e => DE.dtver e.2 != 1 || !DE.accepted nw e.2) then .inl .entry
    else .inr { slot := slot, ver := BitVec.ofNat 32 (leAt img 8 4), words := words, entries := entries }

/-- A microword (R247): of the vendor region, decrypted from the vendor image with the microcode key (R266), or of the customer's. -/
def State.ucWord (s : State) (a : Nat) : Nat :=
  if a < 0x1800 then
    match s.ucode.vendor with
    | some img => (Config.vendorWord Config.ucKey img a).toNat
    | none => 0
  else (Tab.get (fun _ => 0) s.ucode.words a).toNat

def State.ucEntry (s : State) (op : Nat) : Nat := (Tab.get (fun _ => 0) s.ucode.entries op).toNat

/-- The customer words, and the 64 entries, as loaded: what the measurement log and EXP.UCINFO hash. -/
def State.ucWordBytes (s : State) : List Byte :=
  (List.range s.ucode.nwords).flatMap (fun i => leBytes 20 (s.ucWord (0x1800 + i)))
def State.ucEntryBytes (s : State) : List Byte := (List.range 64).flatMap (fun i => leBytes 8 (s.ucEntry i))

/-- Load the customer region and the decode table from the boot image's customer slot, all or nothing (R262, R267). -/
def State.loadUcode (s : State) : State :=
  let img := s.ucode.staged
  let none_ : UcodeSt := { UcodeSt.init with staged := img, vendor := s.ucode.vendor, booted := s.ucode.booted }
  if img.isEmpty then { s with ucode := none_ }.setFld DEV_UC_IMG.UC_IMG 0
  else
    match s.checkImage img with
    | .inl r =>
      let s := { s with ucode := { none_ with status := 2, reason := r.code } }.setFld DEV_UC_IMG.UC_IMG 0
      (s.raise Flt.SVC_UC_REFUSED).extendLog 6 (sha256 img)
    | .inr c =>
      let words := c.words.zipIdx.foldl (fun t e => Tab.set (fun _ => 0) t (0x1800 + e.2) (BitVec.ofNat 160 e.1)) []
      let ents := c.entries.foldl (fun t e => Tab.set (fun _ => 0) t e.1 (BitVec.ofNat 64 e.2)) []
      let u : UcodeSt :=
        { none_ with words := words, entries := ents, nwords := c.words.length, nent := c.entries.length, slot := c.slot, status := 1 }
      { s with ucode := u }.setFld DEV_UC_IMG.UC_IMG c.ver.toNat

/-- Write the vendor region of every store from a vendor image (Table 09-10 steps 1 and 2): a pond whose store does not read back is lost, and
replaced as chapter 13 states. -/
def State.loadVendor (s : State) (img : List Byte) (bad : List (Fin 68)) : State :=
  { s with ucode := { s.ucode with vendor := some img }, due := s.due ++ bad.map (fun p => .pondLost p.val) }

/-- The measurements of the microcode as loaded (Table 09-10 step 5): customer words and decode table. -/
def State.measureUcode (s : State) : State :=
  (s.extendLog 4 (sha256 s.ucWordBytes)).extendLog 5 (sha256 s.ucEntryBytes)

end Sys2Proof.Machine
end

