-- ==== Sys2Proof/Machine/Start.lean ====
section
/-!
DEFINITION. Resets and start-up: what each kind of reset keeps (Table 17-5, R481, R491 to R494), training (Table 12-3), the
retirement record (R401), the start of a manager or a worker up to READY (Tables 17-7 and 16-7), and the resume from
D-SLEEP (Table 17-4).
-/

namespace Sys2Proof.Machine

/-! ### What a reset keeps -/

/-- Registers of the always-on domain (R481), the live input pins, and the registers that show OTP, the ordering code among it, and
secure store. -/
def keptAlways (a : Nat) : Bool :=
  a == DEV_ID.addr ||
  a == PWR_AON_SCR.addr || a == THERM_AGE.addr || a == PIN_STAT.addr || a == PWR_WAKE_EN.addr || a == PWR_WAKE_SRC.addr ||
  a == PWR_WAKE_DT_LO.addr || a == PWR_WAKE_DT_HI.addr || a == SEC_SIG_IDX.addr

/-- Registers that a warm reset keeps beside these (Table 17-5, R33, R404, Table 02-11): MC, TIER, HOST, scratch, position
and versions, straps, fenced units. -/
def keptWarm (a : Nat) : Bool :=
  keptAlways a || decide (0xA00000 ≤ a ∧ a < 0xB00000) || decide (0xC00000 ≤ a ∧ a < 0xD00000) ||
  decide (0x30 ≤ a ∧ a < 0x40) || a == DEV_POS.addr || a == DEV_FW_VER.addr || a == DEV_UC_VER.addr || a == DEV_UC_IMG.addr ||
  a == STRAP.addr || a == RST_CAUSE.addr || decide (0x10038 ≤ a ∧ a < 0x10058)

/-- What OTP and the secure store keep through every reset (R406, R407). -/
def SecSt.durable (x : SecSt) : SecSt :=
  { SecSt.init with slots := x.slots, arb := x.arb, cell := x.cell, certs := x.certs, slotCtr := x.slotCtr, boots := x.boots }

/-- DT goes on through every reset but a power-on (R59, Table 17-5). -/
def TimeSt.carried (t : TimeSt) : TimeSt :=
  { TimeSt.init with dt := t.dt, fine := t.fine, aonFrac := t.aonFrac, tbclk := t.tbclk, locked := t.locked }

/-- Slots that spares stand in for. -/
def keptPonds (l : Tab PondSt) : Tab PondSt :=
  l.filterMap (fun e =>
    let x := { PondSt.init with spareFor := e.2.spareFor, repaired := e.2.repaired }
    if x = PondSt.init then none else some (e.1, x))

/-- The row repair maps hold until the next power-on reset (R300). -/
def keptRepairs (l : Tab PondSt) : Tab PondSt := keptPonds (l.map (fun e => (e.1, { e.2 with spareFor := none })))

/-- A device reset (Table 17-5): everything but the always-on domain. -/
def State.afterDevice (s : State) (phase : Phase) (cause : Nat) : State :=
  let r := { State.reset with
    flds := s.flds.filter (fun e => keptAlways (e.1 / 32)), time := s.time.carried, sec := s.sec.durable,
    ucode := { UcodeSt.init with staged := s.ucode.staged }, svc := { SvcSt.init with retired := s.svc.retired }, ponds := keptRepairs s.ponds,
    pwr := { PwrSt.init with phase := phase, start := s.pwr.start, hotSamples := s.pwr.hotSamples }, out := s.out,
    freeCtr := s.freeCtr, pending := s.pending }
  r.codeReset.setFld RST_CAUSE.LAST cause

/-- A power-on of VDD_AON (Table 17-5): the always-on domain too; only OTP, the secure store and the images remain. -/
def State.afterPowerOn (s : State) : State :=
  State.codeReset { State.reset with
    flds := s.flds.filter (fun e => decide (e.1 / 32 = SEC_SIG_IDX.addr ∨ e.1 / 32 = DEV_ID.addr)), sec := { s.sec.durable with cell := none },
    ucode := { UcodeSt.init with staged := s.ucode.staged }, svc := { SvcSt.init with retired := s.svc.retired },
    out := s.out, freeCtr := s.freeCtr, pending := s.pending }

/-! ### Buffered stores at a warm reset (Table 11-1) -/

/-- Entries of a pond's striders that were not performed within the 64 cycles are discarded and counted; how many remain is a
free value. -/
def State.lostStores (s : State) (p : Fin 68) : Nat × State :=
  let held := (pondStriders p).foldl (fun n w => n + (s.str w).sb.length + (s.str w).cb.length) 0
  if held = 0 then (0, s)
  else
    let (x, s) := s.fresh
    (Config.free x % (held + 1), s)

/-- The counts of discarded stores of every pond. -/
def State.allLost (s : State) : List (Nat × Nat) × State :=
  (List.finRange 68).foldl (fun r p =>
    let (n, s) := r.2.lostStores p
    (if n = 0 then r.1 else r.1 ++ [(p.val, n)], s)) ([], s)

/-- The fields of fenced ponds and basins, of their tarns and spares, which stay until a device reset (R404). -/
def fencedFlds : List Fld :=
  (upTo 68).flatMap (fun p => [POND_STAT.ROLE p, POND_STAT.LOGICAL p, POND_STAT.RETIRED p])

/-- Weirs keep what they last launched (Table 13-17, "since device reset"). -/
def keptWeirs (l : Tab WeirSt) : Tab WeirSt :=
  l.filterMap (fun e => if e.2.lastXid = 0 ∧ e.2.lastDs = 0 then none
                        else some (e.1, { WeirSt.init with lastXid := e.2.lastXid, lastDs := e.2.lastDs }))

def keptChans (l : Tab ChanSt) : Tab ChanSt :=
  l.filterMap (fun e => if e.2.xidNext = 0 ∧ e.2.xidCount = 0 then none
                        else some (e.1, { ChanSt.init with xidNext := e.2.xidNext, xidCount := e.2.xidCount }))

/-- A warm reset (Table 17-5). Every COMMIT is cleared (R51). DESIGN CHOICE (assumption 113): Table 17-5 keeps the HOST registers,
R27 disables BAR2 after every reset; the BAR2 mode follows R27. -/
def State.afterWarm (s : State) : State :=
  let (lost, s) := s.allLost
  let dbg := s.fld SEC_STAT.DBG_OPEN
  let locked (k : Nat) : Bool := s.bit (SEC_PG_OWN.LOCK k)
  let keep (key : Nat) : Bool :=
    keptWarm (key / 32) || (upTo 16).any (fun k => decide (key / 32 = SEC_PG_OWN.addr k) && locked k)
  let sec := { s.sec.durable with otpLock := s.sec.otpLock, log := s.sec.log, running := s.sec.running, count := s.sec.count,
                                  ovf := s.sec.ovf, sigNext := s.sec.sigNext }
  let r := { State.reset with
    flds := s.flds.filter (fun e => keep e.1), time := s.time.carried, gplls := s.gplls, sec := sec, mcs := s.mcs,
    pm := s.pm, pmPoison := s.pmPoison, dram := s.dram, ucode := s.ucode, host := s.host, tports := s.tports, tree := s.tree,
    weirs := keptWeirs s.weirs, chans := keptChans s.chans, ponds := keptPonds s.ponds,
    svc := { SvcSt.init with retired := s.svc.retired, rseq := s.svc.rseq, kept := s.svc.kept },
    pwr := { PwrSt.init with start := s.pwr.start, hotSamples := s.pwr.hotSamples, fwVer := s.pwr.fwVer, ucVer := s.pwr.ucVer,
                             secVer := s.pwr.secVer },
    out := s.out, freeCtr := s.freeCtr, pending := s.pending }
  let r := fencedFlds.foldl (fun r f => r.setFld f (s.fld f)) r
  let r := (upTo 4).foldl (fun r b => if s.fencedBasin b then r.setFld (BASIN_STAT.STATE b) 3 else r) r
  let r := lost.foldl (fun r e => (r.setFld (POND_STAT.LOST_STORES e.1) 1).setFld (POND_ACK.LOST_CNT e.1) (min 255 e.2)) r
  let r := r.setFld SEC_STAT.DBG_OPEN dbg
  let r := (upTo 8).foldl (fun r c => (r.setFld (MC_SPARE.COMMIT c) 0).setMc c { r.mc c with spareReq := false }) r
  let r := (r.setFld (TIER_CTL.COMMIT 0) 0).setFld HOST_STAT.BAR2 0
  (r.codeReset.setFld RST_CAUSE.LAST 4).addSat RST_CAUSE.WARM_CNT 1

/-! ### Training and the retirement record -/

/-- The eyes a lane trained to: free values at or above MIN_EYE on a rank that passes, with one lane below it on a rank that
fails (R349). -/
def State.laneEye (s : State) (least : Nat) (low : Bool) : Nat × State :=
  let (x, s) := s.fresh
  (if low then Config.free x % least else least + Config.free x % (65 - min 64 least), s)

def State.trainRank (s : State) (c r : Nat) (fails : Bool) : State :=
  let least := s.fld (MC_TRAIN.MIN_EYE c)
  let (k, s) := s.fresh
  (upTo 10).foldl (fun s l =>
    let low := fails && decide (Config.free k % 10 = l)
    let (rd, s) := s.laneEye least low
    let (wr, s) := s.laneEye least low
    let m := s.mc c
    s.setMc c { m with eyes := Tab.set (fun _ => (0, 0)) m.eyes (10 * r + l) (rd, wr) }) s

/-- Start-up training of one channel (R345, R348, R349). -/
def State.trainChannel (s : State) (c : Nat) (d : DimmCfg) : State :=
  let s := s.setMc c { McSt.init with serials := d.serials }
  let s := ((s.setFld (MC_CFG.DIMMS c) d.dimms.toNat).setFld (MC_CFG.WIDTH c) d.width.toNat).setFld (MC_CFG.DENS c) d.dens.toNat
  let s := s.setFld (MC_CFG.SPEED c) (min (s.fld (MC_CFG.SPEED c)) d.speedBin.toNat)
  let s := (s.setFld (MC_RANK.PRESENT c) d.present.toNat).setFld (MC_RANK.TRAIN_FAIL c) (d.present &&& d.trainFail).toNat
  let s := if d.ignored then s.setFld (MC_STAT.CFG_REJECT c) 1 else s
  let s := ((upTo 4).filter (fun r => Nat.testBit d.present.toNat r)).foldl
    (fun s r => s.trainRank c r (Nat.testBit d.trainFail.toNat r)) s
  let s := (s.setFld (MC_TEMP.TRAIN_T c) d.temp.toNat).setFld (MC_TEMP.CUR_T c) d.temp.toNat
  s.setFld (MC_STAT.STATE c) (if d.present &&& ~~~ d.trainFail = 0 then 0 else 2)

/-- A slot is retired and the spare slot takes over if it may (R8, R382). -/
def State.retireSlot (s : State) (p slot : Nat) : State :=
  let r := s.fld (POND_STAT.RETIRED p)
  let s := if Nat.testBit r slot then s else s.setFld (POND_STAT.RETIRED p) (r + 2 ^ slot)
  if slot < 16 ∧ s.bit (POND_CTL.SPARE_EN p) ∧ s.spareUnused p then s.setPond p { s.pond p with spareFor := some slot } else s

/-- A pond is fenced and the tarn of its basin, if it is still unused, takes its place (Table 13-7 step 2). -/
def State.fencePond (s : State) (p : Nat) : State :=
  let t := 17 * basinOf p + 16
  let lg := s.fld (POND_STAT.LOGICAL p)
  let s := s.setFld (POND_STAT.ROLE p) 2
  if p ≠ t ∧ s.fld (POND_STAT.ROLE t) = 1 then (s.setFld (POND_STAT.ROLE t) 0).setFld (POND_STAT.LOGICAL t) lg else s

/-- The serial of the DIMM that holds a rank. -/
def serialOf (c : StartCfg) (ch r : Nat) : Option Word := (c.dimms[ch]?).bind (fun d => d.serials[r]?)

/-- The retirement record is applied before READY (R401). -/
def State.applyRecord (s : State) (c : StartCfg) : State :=
  let keep := s.svc.retired.filter (fun e => match e.1 with
    | .rank ch r serial => serialOf c ch r == some serial
    | _ => true)
  let s := { s with svc := { s.svc with retired := keep } }
  keep.foldl (fun s e => match e.1 with
    | .slot p k => s.retireSlot p k
    | .pond p => s.fencePond p
    | .rank ch r _ =>
      (s.setFld (MC_RANK.RETIRED ch) (s.fld (MC_RANK.RETIRED ch) ||| 2 ^ r)).setFld (MC_RANK.SPARE ch) (2 ^ r)) s

/-! ### Start-up -/

/-- The interrupt enables of every block are set to all four classes (R374). -/
def State.enableIrqs (s : State) : State :=
  let units := allUnits
  let s := units.foldl (fun s u => match ieOf u.1 u.2 with
    | some f => s.setFld f 15
    | none => s) s
  let s := units.foldl (fun s u => (unitBits u.1 u.2).foldl (fun s b => match b.enFld with
    | some f => s.setFld f 1
    | none => s) s) s
  let s := (upTo 16).foldl (fun s n => s.setFld (AX_CTL.IE n) 15) s
  ((upTo 8).foldl (fun s n => s.setFld (AP_CTL.IE n) 15) s).setFld WEIRG_CTL.WIE 31

/-- A region of the configuration block as an entry (Table 12-14). -/
def regionEntry (r : RegionCfg) : Region :=
  let m := r.map.toNat
  let a := r.attr.toNat
  { valid := true, base := r.base, limit := r.limit, mir := Nat.testBit m 22, ilv := BitVec.ofNat 2 (m / 2 ^ 20),
    ch0 := BitVec.ofNat 3 (m / 2 ^ 17), coff := BitVec.ofNat 17 m, cache := Nat.testBit a 6, owner := BitVec.ofNat 2 (a / 16),
    shared := Nat.testBit a 3, init := Nat.testBit a 2, code := Nat.testBit a 1 }

/-- The region table is written from the configuration block, entry by entry, through MC0 (R353, R354, R496): whether every
WRITE was taken, and the state; a refused one leaves its index and condition in MC_RGN_SEL. -/
def State.writeRegions (s : State) : List (RegionCfg × Nat) → Bool × State
  | [] => (true, s)
  | (r, i) :: rest =>
    let e := regionEntry r
    if 64 ≤ i then (false, s)
    else if s.rgnRefusal e ≠ 0 then (false, (s.setFld (MC_RGN_SEL.INDEX 0) i).setFld (MC_RGN_SEL.ERR 0) (s.rgnRefusal e))
    else (s.setRegion i e).writeRegions rest

/-- The journals are placed in the first region that may hold them (R386); an address the spec leaves to firmware. -/
def State.placeJournals (s : State) : State :=
  let fits (r : Region) : Bool := r.valid && r.mir && !r.code && !r.init && !r.cache && r.shared
  match s.dram.regions.find? (fun e => fits e.2) with
  | none => s
  | some e =>
    let b := e.2.first
    (s.setPair TJ_BASE_LO.BASE TJ_BASE_HI.BASE (BitVec.ofNat 64 b)).setPair XJ_BASE_LO.BASE XJ_BASE_HI.BASE
      (BitVec.ofNat 64 (b + 136 * 2 ^ 20 + 64 * 2 ^ 20))

/-- A start that stops before READY (R498). -/
def State.stopStart (s : State) (code : Nat) : State :=
  { s.setFld BOOT_STAGE.FAIL code with pwr := { s.pwr with phase := .stopped } }

/-- A failure for which the spec names no code: any nonzero one. -/
def State.stopUnnamed (s : State) : State :=
  let (x, s) := s.fresh
  s.stopStart (1 + Config.free x % 255)

/-- The PCI Express link is up at a speed and width the spec leaves to the host; a worker's does not train (R22, Table 01-5). -/
def State.linkTrained (s : State) : State :=
  if s.isWorker then s
  else (s.setFld HOST_STAT.SPEED (1 + Config.hostSpeed % 4)).setFld HOST_STAT.WIDTH ([1, 4, 8].getD (Config.hostWidth % 3) 1)

/-- Firmware runs: from step 5 of Table 17-7 to the point where READY waits for FILL. -/
def State.startFirmware (s : State) (c : StartCfg) : State :=
  let s := ((s.setFld DEV_FW_VER.FW_VER c.fwVer.toNat).setFld DEV_UC_VER.UC_VER c.ucVer.toNat).setFld BOOT_STAGE.STAGE 3
  let s := { s with pwr := { s.pwr with fwVer := c.fwVer, ucVer := c.ucVer, secVer := c.secVer } }
  let s : State := c.digests.foldl (fun (s : State) d => s.extendLog d.1 d.2) s
  if !c.vendorOk then s.stopUnnamed
  else
  let s := (c.dimms.take 8).zipIdx.foldl (fun (s : State) d => s.trainChannel d.2 d.1) s
  let s := (((s.loadVendor (Config.bootVendor s.ucode.booted) c.readBack).loadUcode).measureUcode).otpLocked
  let s := (List.finRange 68).foldl (fun (s : State) p => s.startMarch p ((c.march.find? (fun e => e.1 == p)).map (·.2) |>.getD [])) s
  let s := s.setFld BOOT_STAGE.STAGE 4
  if s.mcState 0 = 0 ∨ s.mcState 1 = 0 then s.stopUnnamed
  else
    let s := s.applyRecord c
    match s.writeRegions c.regions.zipIdx with
    | (false, s) => s.stopUnnamed
    | (true, s) =>
      let s := ((s.placeJournals.enableIrqs).setFld SVC_STAT.STANDBY 1).setFld BOOT_STAGE.STAGE 5
      let s := s.linkTrained
      if s.fld STRAP.ROLE = 2 then s
      else ((upTo 8).filter (fun t => s.portAllowed t && !s.upPort t)).foldl State.tierOn s

/-- EXTEST, CLAMP or HIGHZ in force when RST_N rises gives way to BYPASS (R514, Table 18-17). -/
def State.jtagRise (s : State) : State :=
  if s.fld JTAG_STAT.IR ∈ [0, 3, 4] then s.setFld JTAG_STAT.IR 0xFF else s

/-- Boot ROM starts (Table 17-7 steps 1 to 4): PLLs lock, OTP and the resume cell are read, the image is verified. A worker
trains TP0 and waits for its image (R497). -/
def State.startRom (s : State) (role boot : Nat) (c : StartCfg) : State :=
  let s := { s.jtagRise with pwr := { s.pwr with phase := .starting, start := some c }, time := { s.time with tbclk := true, locked := true } }
  let s := ((s.setFld STRAP.ROLE role).setFld STRAP.BOOT boot).setFld BOOT_STAGE.STAGE 2
  let s := s.setFld PIN_STAT.LEVEL (s.fld PIN_STAT.LEVEL % 2 ^ 10 + 2 ^ 10 * role + 2 ^ 12 * boot)
  let s := (s.setFld DEV_POS.ROLE role).setFineLock true
  let s := { s with sec := { s.sec with sigNext := none } }.loadCell
  if role = 3 then (s.setFld BOOT_STAGE.STAGE 0x0E).stopStart 0
  else if boot = 3 then s.stopStart 0
  else if role = 1 then (if c.fail = 0 then s.tierOn 0 else s.stopStart c.fail.toNat)
  else
    let s := s.setBit BOOT_STAGE.SLOT c.slot
    if c.fail ≠ 0 then s.stopStart c.fail.toNat
    else if c.secVer < s.sec.arb then s.stopUnnamed
    else
      let img := Config.bootImage c.slot s.ucode.staged
      { s with ucode := { s.ucode with booted := img } }.startFirmware c

/-- A full start without a rise of RST_N, after a device reset from inside (R491): the straps are not sampled again. -/
def State.restart (s : State) (role boot : Nat) : State :=
  match s.pwr.start with
  | none => s
  | some c => s.startRom role boot c

/-- Firmware's part of a warm start (R492): neither training nor FILL. -/
def State.startWarm (s : State) : State :=
  match s.pwr.start with
  | none => s
  | some c =>
    let s := ((s.setFineLock true).applyRecord c).placeJournals
    s.enableIrqs.setFld BOOT_STAGE.STAGE 5

/-- READY (Table 17-7 step 8). -/
def State.goReady (s : State) : State :=
  if s.pwr.phase != .starting || s.fld BOOT_STAGE.STAGE != 5 || s.rgnBusy then s
  else
    let s := { s with pwr := { s.pwr with phase := .ready }, sec := { s.sec with boots := s.sec.boots + 1 } }
    let s := ((s.setFld PWR_STAT.READY 1).setFld DEV_CTL.CFG_LOCK 1).setFld BOOT_STAGE.STAGE 0x0F
    (s.setPair DEV_READY_DT_LO.DT DEV_READY_DT_HI.DT s.dt).notice 0 3

/-! ### D-SLEEP -/

/-- A wake event: 0 WAKE_N, 1 the timer, 2 a tier port whose detector is armed (R489, Table 17-8). -/
def State.wakeEvent (s : State) (k : Nat) : State :=
  if !Nat.testBit (s.fld PWR_WAKE_EN.EN) k then s
  else if s.pwr.phase == .asleep then
    let s := s.setFld PWR_WAKE_SRC.SRC (s.fld PWR_WAKE_SRC.SRC ||| 2 ^ k)
    { s.setFld PWR_STAT.DSTATE 4 with pwr := { s.pwr with phase := .resuming } }
  else if s.pwr.entryAt.isSome then s.entryAbandoned
  else s

/-- DT as the always-on clock carried it is loaded, recorded in WAKE_DT, and counts on TBCLK again (R63, Table 03-1 step 4). -/
def State.wakeLoad (s : State) : State :=
  if s.time.tbclk then s
  else { s.setPair WAKE_DT_LO.V WAKE_DT_HI.V s.dt with time := { s.time with tbclk := true } }

/-- State that the switched-off domains lose: striders, caches, pond memory, tables on chip, journals in use. -/
def State.afterSleep (s : State) : State :=
  let kept (e : Nat × Nat) : Bool := keptAlways (e.1 / 32) || (match s.pwr.saved.find? (fun x => x.1 == e.1) with
    | some _ => true
    | none => decide (e.1 / 32 = DEV_POS.addr ∨ e.1 / 32 = STRAP.addr ∨ e.1 / 32 = DSTATE_CNT.addr ∨ e.1 / 32 = RST_CAUSE.addr ∨
        e.1 / 32 = WAKE_DT_LO.addr ∨ e.1 / 32 = WAKE_DT_HI.addr ∨ e.1 / 32 = SLEEP_DT_LO.addr ∨ e.1 / 32 = SLEEP_DT_HI.addr ∨ e.1 / 32 = PWR_RESUME_LO.addr ∨ e.1 / 32 = PWR_RESUME_HI.addr ∨
        e.1 / 32 = DEV_FW_VER.addr ∨ e.1 / 32 = DEV_UC_VER.addr ∨ e.1 / 32 = DEV_UC_IMG.addr ∨
        (0xA00000 ≤ e.1 / 32 ∧ e.1 / 32 < 0xB00000)))
  let qs (b : Nat × BasinSt) : Nat × BasinSt :=
    (b.1, { BasinSt.init with queues := b.2.queues, nextTask := b.2.nextTask })
  { State.reset with
    flds := s.flds.filter kept, time := s.time.carried, mcs := s.mcs, dram := s.dram, ucode := s.ucode,
    basins := s.basins.map qs, sec := s.sec.durable, tree := { s.tree with safeSeen := none },
    weirs := keptWeirs s.weirs, chans := keptChans s.chans, ponds := keptRepairs s.ponds,
    tports := s.tports.map (fun e => (e.1, { TierPort.init with armed := e.2.armed })),
    host := { HostSt.init with nextOrder := s.host.nextOrder, expOff := s.host.expOff, patterns := s.host.patterns },
    svc := { SvcSt.init with retired := s.svc.retired, rseq := s.svc.rseq, kept := s.svc.kept },
    pwr := { s.pwr with phase := .ready, saved := [], request := 0, sleepNote := false }, out := s.out, freeCtr := s.freeCtr, pending := s.pending }

/-- Pages come back by their enables: those with KBASE 0 derive again, the others are EMPTY (R489). -/
def State.pagesBack (s : State) : State :=
  (upTo 16).foldl (fun s k =>
    if !s.bit (SEC_PG_CTL.EN k) then s
    else
      let s := s.setFld (SEC_PG_CTL.EN k) 0
      if s.bit (SEC_PG_CTL.KBASE k) then s else s.pageEnable k) s

/-- The measurement log is rebuilt from the images in use (R489). -/
def State.rebuildLog (s : State) : State :=
  let l := (s.pwr.start.map (·.digests)).getD []
  (l.foldl (fun s d => s.extendLog d.1 d.2) s).measureUcode

/-- Restoration completes (Table 17-4 steps 3 to 5), or fails and the device makes a full start, DRAM lost (R489). -/
def State.resumeEnd (s : State) (ok : Bool) : State :=
  if s.pwr.phase != .resuming then s
  else if ok then
    let dbg := s.fld SEC_STAT.DBG_OPEN
    let s := ((s.wakeLoad.afterSleep.setFld SEC_STAT.DBG_OPEN dbg).setFineLock true).selfRefresh false
    let s := s.pagesBack.loadCell.rebuildLog.otpLocked
    let s := match s.pwr.start with
      | some c => s.applyRecord c
      | none => s
    let s := (s.placeJournals.setFld PWR_STAT.DSTATE 1).setFld RST_CAUSE.LAST 5
    let s := (((s.setFld PWR_STAT.RESUMED 1).setFld PWR_STAT.READY 1).setFld BOOT_STAGE.STAGE 0x0F).setFld DEV_CTL.CFG_LOCK 1
    let s := (upTo 4).foldl (fun (s : State) b => s.setFld (PLL_STAT.MHZ (3 + b)) (s.eclkWanted b)) s.linkTrained
    let s := (s.setPair DEV_READY_DT_LO.DT DEV_READY_DT_HI.DT s.dt).notice 0 3
    (upTo 8).foldl (fun s t => if s.bit (TIER_CTL.EN t) then (s.setFld (TIER_CTL.EN t) 0).tierOn t else s) s
  else
    let role := s.fld STRAP.ROLE
    let boot := s.fld STRAP.BOOT
    let r := s.afterDevice .starting (s.fld RST_CAUSE.LAST)
    (r.restart role boot).raise Flt.PWR_RESUME_FAIL

/-! ### Block reset (R494, R51) -/

/-- The registers of an instance. -/
def instRegs (blk inst : Nat) : Nat × Nat :=
  match blk with
  | 0x3 => (AX_CTL.addr inst, AX_CTL.addr inst + 0x20)
  | 0x4 => (AP_CTL.addr inst, AP_CTL.addr inst + 0x20)
  | 0x7 => (FC_CTL.addr inst, FC_CTL.addr inst + 0x1000)
  | 0xE => (TIER_CTL.addr inst, TIER_CTL.addr inst + 0x1000)
  | _ => (0, 0)

/-- The instance's registers return to reset and its staged values and COMMITs are discarded. -/
def State.wipeRegs (s : State) (lo hi : Nat) : State :=
  let mine (k : Nat) : Bool := decide (lo ≤ k / 32 ∧ k / 32 < hi)
  { s with flds := s.flds.filter (fun e => !mine e.1), staged := s.staged.filter (fun e => !mine e.1) }

def State.blockReset (s : State) (blk inst : Nat) : State :=
  let reject := s.setFld PWR_STAT.CFG_REJECT 1
  let (lo, hi) := instRegs blk inst
  match blk with
  | 0x3 =>
    if 16 ≤ inst ∨ s.bit (AX_CTL.EN inst) then reject else (s.wipeRegs lo hi).setAxis inst AxisSt.init
  | 0x4 =>
    if 8 ≤ inst ∨ s.bit (AP_CTL.EN inst) then reject
    else (s.wipeRegs lo hi).setAport inst { PortSt.init with pins := (s.aport inst).pins }
  | 0x7 =>
    if 96 ≤ inst ∨ s.bit (FC_CTL.EN inst) ∨ s.bit (WEIR_CTL.EN inst) then reject
    else ((s.wipeRegs lo hi).setChan inst { ChanSt.init with xidNext := (s.chan inst).xidNext, xidCount := (s.chan inst).xidCount }).setWeir
      inst { WeirSt.init with lastXid := (s.weir inst).lastXid, lastDs := (s.weir inst).lastDs }
  | 0xB =>
    let k := inst - 1
    if inst = 0 ∨ 4 < inst ∨ Nat.testBit (s.fld CMP_CTL.LANE_EN) k then reject
    else
      let s := { s with flds := s.flds.filter (fun e => !decide (e.1 / 32 = CMP_LANE.addr ∧ 8 * k ≤ e.1 % 32 ∧ e.1 % 32 < 8 * (k + 1))) }
      { s with cmp := { s.cmp with laneOff := s.cmp.laneOff &&& ~~~ BitVec.ofNat 4 (2 ^ k) } }
  | 0xE =>
    if 8 ≤ inst ∨ s.bit (TIER_CTL.EN inst) then reject else (s.wipeRegs lo hi).setTport inst TierPort.init
  | _ => reject

end Sys2Proof.Machine
end

