-- ==== Sys2Proof/Machine/Router.lean ====
section
/-!
DEFINITION. Register accesses from a requester (R34 to R51, R404, R453): what a write does to each register, field by field
with its access class, and the behaviour of the fields that have one of their own; reads, with the registers that a read
advances; the pairs of 64-bit values.
-/

namespace Sys2Proof.Machine

/-- No value is undefined beside those of the field tables. -/
def plain (_ _ : Nat) : Bool := false

/-- The fault bits that stand in a register. -/
def faultBitsOf (a : Nat) : List FaultBit :=
  match locate a with
  | none => []
  | some (b, i, _) =>
    let units := match b with
      | .cmp => [(0xB, 0), (0xB, 1), (0xB, 2), (0xB, 3), (0xB, 4)]
      | _ => [(b.code, i)]
    (units.flatMap (fun (u : Nat × Nat) => unitBits u.1 u.2)).filter (fun f => f.fld.addr == a)

/-- The bookkeeping of the fault bits that a write has acknowledged (R373); `s₀` is the state before it. -/
def State.ackWritten (s s₀ : State) (a : Nat) : State :=
  ((faultBitsOf a).filter (fun b => s₀.bit b.fld && !s.bit b.fld)).foldl (fun (s : State) b => s.acked b) s

/-- Bit `k` of a value written. -/
def wbit (v k : Nat) : Bool := Nat.testBit v k

/-- The bits from `lo` of a value written. -/
def wfld (v lo w : Nat) : Nat := v / 2 ^ lo % 2 ^ w

/-- An enable written with a value that differs from what it reads. -/
def State.enWrite (s : State) (f : Fld) (en : Bool) (h : State → State) : State :=
  if en == s.bit f then s else h s

/-- A commit group of a kind has staged values or a COMMIT pending in some instance (R50). -/
def State.groupPending (s : State) (p : Blk → Bool) (commits : List Fld) : Bool :=
  commits.any s.bit ||
  s.staged.any (fun e => e.2.isSome &&
    (match locate (e.1 / 32), keyField e.1 with
     | some (b, _, _), some (_, g) => g && p b
     | _, _ => false))

/-- The instances' COMMIT fields by IMMED bit of DEV_CFGMODE (Table 02-5, Table 02-6), with the block of the group. -/
def groupKinds : List (Nat × Blk × List Fld) :=
  [(0, .ax, (upTo 16).map AX_CTL.COMMIT), (1, .fc, (upTo 96).map WEIR_CTL.COMMIT), (2, .mc, (upTo 8).map MC_SPARE.COMMIT),
   (3, .cmp, [CMP_TBL.COMMIT]), (4, .tier, [TIER_CTL.COMMIT 0]), (5, .pond, (upTo 68).map PM_REGION_SEL.COMMIT)]

/-- A write of DEV_CFGMODE (R50). -/
def State.writeCfgmode (s : State) (v : Nat) : State :=
  groupKinds.foldl (fun (s : State) k =>
    let f : Fld := ⟨DEV_CFGMODE.addr, k.1, k.1⟩
    if wbit v k.1 == s.bit f then s
    else if s.groupPending (fun b => b == k.2.1) k.2.2 then s.setFld DEV_STAT.CFG_REJECT 1
    else s.setBit f (wbit v k.1)) s

/-! ### The blocks -/

/-- TIME (chapter 3). -/
def State.writeTime (s : State) (a v : Nat) : State :=
  if a = TIME_CTL.addr then s.writeTimeCtl (wbit v 0) (wbit v 2) (wbit v 1)
  else if a = DT_SLEW.addr then s.writeDtSlew (BitVec.ofNat 32 v)
  else
    let t := writePlain s a v [] plain
    if a = FF_CTL.addr ∧ s.bit FF_CTL.FF_EN ∧ !t.bit FF_CTL.FF_EN then t.ffDisable else t

/-- An axis group written while its commit point is the write itself (R49, R73). -/
def State.axisWritten (s : State) (n : Nat) : State :=
  if s.bit DEV_CFGMODE.IMM_AXIS && s.axisNow n then s.axisPoint n else s

/-- Axis trackers: a source index beyond its kind's last is undefined. -/
def State.writeAxis (s : State) (n a v : Nat) : State :=
  if a = AX_CTL.addr n then
    let t := writePlain s a v [0, 1] (fun lo c => lo == 13 && decide ((if wbit v 12 then 96 else 8) ≤ c))
    let t := if wbit v 1 then t.axisCommit n else t.axisWritten n
    t.axisEnable n (wbit v 0)
  else (writePlain s a v [] plain).axisWritten n

/-- AP_CTL.EN written (R65): an enabled port counts from zero. -/
def State.portEnable (s : State) (m : Nat) (en : Bool) : State :=
  s.enWrite (AP_CTL.EN m) en (fun s =>
    let s := s.setAport m { PortSt.init with pins := (s.aport m).pins }
    let s := if en then s.setFld (AP_CNT.V m) 0 else s
    s.setBit (AP_CTL.EN m) en)

/-- Angle ports: a frame length of 0 is undefined in an SSI mode. -/
def State.writePort (s : State) (m a v : Nat) : State :=
  if a = AP_CTL.addr m then
    (writePlain s a v [0] (fun lo c => lo == 9 && c == 0 && decide (2 ≤ wfld v 1 2))).portEnable m (wbit v 0)
  else writePlain s a v [] plain

/-- WEIRG_CTL.EN written (R38): it reads 1 until every WEIR_CTL.EN reads 0. -/
def State.weirgEnable (s : State) (en : Bool) : State :=
  if en then
    let s := { s with speed := { s.speed with stopping := false } }
    s.setFld WEIRG_CTL.EN 1
  else if s.bit WEIRG_CTL.EN then { s with speed := { s.speed with stopping := true } }
  else s

/-- The stopped state of the WEIR global block. -/
def State.weirgStopPoint (s : State) : State :=
  if s.speed.stopping && (upTo 96).all (fun n => !s.bit (WEIR_CTL.EN n)) then
    { s with speed := { s.speed with stopping := false } }.setFld WEIRG_CTL.EN 0
  else s

/-- WEIRG_CTL.SPD_CLR (R113): it reads 1 until the revolution change that acts on it. -/
def State.spdClr (s : State) : State := { s with speed := { s.speed with clrReq := true } }.setFld WEIRG_CTL.SPD_CLR 1

/-- The WEIR global block. -/
def State.writeWeirg (s : State) (a v : Nat) : State :=
  if a = WEIRG_CTL.addr then
    let t := writePlain s a v [0, 2] plain
    let t := if wbit v 2 then t.spdClr else t
    t.enWrite WEIRG_CTL.EN (wbit v 0) (fun t => t.weirgEnable (wbit v 0))
  else if a = WEIRG_SPDREQ.addr then s.speedReq (v / 2 ^ 16) (v % 2 ^ 16)
  else writePlain s a v [] plain

/-- The ADT/DPT window (R114): a write of ADT_SEL that would select a DPT entry above 4,095 is no operation, and so is a word index
above 7 with the ADT. -/
def State.writeAdt (s : State) (a v : Nat) : State :=
  if a = ADT_OP.addr then
    match v % 4 with
    | 1 => s.adtRead
    | 2 => s.adtWrite
    | 3 => s.setFld ADT_STAT.CFG_REJECT 1
    | _ => s
  else if a = ADT_DATA.addr then s.adtAccess (some (BitVec.ofNat 32 v))
  else if a = ADT_SEL.addr then writePlain s a v [] (fun _ _ => !adtIndexOk (wbit v 31) (v % 2 ^ 17))
  else if a = ADT_WIDX.addr then writePlain s a v [] (fun _ c => !s.bit ADT_SEL.TBL && decide (7 < c))
  else writePlain s a v [] plain

/-- WEIR_CTL.COMMIT written (R44): while the channel sends no frames the write is itself the commit point (Table 02-4). -/
def State.weirCommit (s : State) (n : Nat) : State :=
  let s := s.setFld (WEIR_CTL.COMMIT n) 1
  if s.fcSends n then s else s.weirPoint n

/-- A weir group written in IMMED mode while the channel sends no frames (R49). -/
def State.weirWritten (s : State) (n : Nat) : State :=
  if s.bit DEV_CFGMODE.IMM_WEIR && !s.fcSends n then s.weirPoint n else s

/-- Field channels and weirs (chapters 4 and 5). While LAT_AUTO reads 1 the channel writes Lat and a write is ignored
(R140). -/
def State.writeFc (s : State) (n a v : Nat) : State :=
  if a = FC_CTL.addr n then
    let t := writePlain s a v [0, 28] plain
    let t := if wbit v 28 then t.violClear n else t
    -- with LAT_AUTO at 0, LAT_FINE reads 0 (R140)
    let t := if t.bit (FC_CTL.LAT_AUTO n) then t else t.setFld (FC_LAT.LAT_FINE n) 0
    (if wbit v 0 then t.fcEnable n else t.fcDisable n).fcWritten n
  else if a = FC_LAT.addr n then
    let held := s.bit (FC_CTL.LAT_AUTO n)
    let t := writePlain s a v (if held then [(FC_LAT.LAT_OFFSET n).lo] else []) plain
    let t := if held && v % 2 ^ 20 != s.fld (FC_LAT.LAT_OFFSET n) then t.setFld (WEIR_STAT.CFG_REJECT n) 1 else t
    (t.fcWritten n).weirWritten n
  else if a = WEIR_CTL.addr n then
    let t := writePlain s a v [0, 1] plain
    let t := if wbit v 1 then t.weirCommit n else t.weirWritten n
    (t.enWrite (WEIR_CTL.EN n) (wbit v 0) (fun t => t.weirEnable n (wbit v 0))).fcWritten n
  else (writePlain s a v [] plain).fcWritten n

/-- A maintenance operation written to L2_MAINT (R283, Table 10-2). -/
def State.maintOp (s : State) (p op : Nat) (ahi : BitVec 3) : State :=
  if op = 0 then s
  else if 6 < op ∨ s.bit (L2_MAINT.BUSY p) then s.setFld (POND_STAT.CFG_REJECT p) 1
  else (s.setFld (L2_MAINT.AHI p) ahi.toNat).maintStart p op (s.maintAddr p ahi)

/-- POND registers of a pond that is not fenced (chapter 10). -/
def State.writePondReg (s : State) (p : Fin 68) (a v : Nat) : State :=
  let n := p.val
  if a = POND_CTL.addr n then
    let t := (writePlain s a v [0] plain).apply (POND_CTL.TASK_MAX n)
    t.enWrite (POND_CTL.EN n) (wbit v 0) (fun t => t.pondEnable p (wbit v 0))
  else if a = POND_ACK.addr n then if wbit v 31 then s.rearm 0x8 n else s
  else if a = L2_CTL.addr n then
    (writePlain s a v [0] plain).enWrite (L2_CTL.EN n) (wbit v 0) (fun t => t.l2Enable p (wbit v 0))
  else if a = L2_WAYOFF.addr n then
    if s.bit (L2_CTL.EN n) && (s.fld (L2_WAYOFF.AUTO n) &&& v / 2 ^ 16) != 0 then
      (writePlain s a v [16] plain).setFld (POND_STAT.CFG_REJECT n) 1
    else writePlain s a v [] plain
  else if a = L2_MAINT.addr n then
    if v % 16 ≠ 0 && s.bit (L2_MAINT.BUSY n) then s.setFld (POND_STAT.CFG_REJECT n) 1
    else (writePlain s a v [] plain).maintOp n (v % 16) (BitVec.ofNat 3 (wfld v 8 3))
  else if a = PM_CTL.addr n then
    (writePlain s a v [0] plain).enWrite (PM_CTL.EN n) (wbit v 0) (fun t => t.pmEnable n (wbit v 0))
  else if a = PM_REGION_SEL.addr n then
    s.writeRegionSel n (BitVec.ofNat 5 (wfld v 8 5)) (BitVec.ofNat 3 v) (wbit v 15)
  else if a = PM_REGION_BASE.addr n ∨ a = PM_REGION_LIMIT.addr n then
    let t := writePlain s a v [] plain
    if t.bit DEV_CFGMODE.IMM_PMREG then t.descPoint n else t
  else if a = PM_CONFLICT_SEL.addr n then
    let t := writePlain s a v [31] plain
    if wbit v 31 then t.clearConflict n else t
  else if a = MARCH_CTL.addr n then
    let t := writePlain s a v [0] plain
    if wbit v 0 then t.marchBegin n else t
  else writePlain s a v [] plain

/-- A write to a fenced unit (R404): acknowledgements and REARM, beside what `also` lets through. -/
def State.writeFenced (s : State) (blk i a v ackAddr faultAddr rejectAddr : Nat) : State :=
  if a = ackAddr then (if wbit v 31 then s.rearm blk i else s)
  else if a = faultAddr then writePlain s a v [] plain
  else s.setFld ⟨rejectAddr, 30, 30⟩ 1

/-- POND registers (R404, R337). -/
def State.writePond (s : State) (who : Requester) (p : Fin 68) (a v : Nat) : State :=
  let n := p.val
  if s.fld (POND_STAT.ROLE n) = 2 ∧ ¬ (a = L2_MAINT.addr n ∧ who = .svc) then
    s.writeFenced 0x8 n a v (POND_ACK.addr n) (POND_FAULT.addr n) (POND_STAT.addr n)
  else s.writePondReg p a v

/-- Configured entries of a basin's queues, with queue `q` taken as holding `size` (R343). -/
def State.queueEntries (s : State) (b q size : Nat) : Nat :=
  (upTo 64).foldl (fun n k =>
    if k = q then n + 16 * 2 ^ size
    else if (s.queue b k).qen then n + 16 * 2 ^ (s.queue b k).size.toNat else n) 0

/-- A write of DSP_QCFG for the queue selected (R343): QEN acts first; SIZE and MODE change only while the queue is disabled
and empty; PRIO at the commit point between two dispatches, which is the write. -/
def State.writeQcfg (s : State) (b v : Nat) : State :=
  let q := s.fld (DSP_QSEL.QUEUE b)
  let reject (s : State) : State := s.setFld (BASIN_STAT.CFG_REJECT b) 1
  let en := wbit v 31
  let x := s.queue b q
  let size := wfld v 26 3
  let mode := wbit v 25
  let newSize := if (en && x.qen) || !x.entries.isEmpty then x.size.toNat else size
  if en && !x.qen && decide (8192 < s.queueEntries b q newSize) then reject s
  else
    let x := { x with qen := en, prio := BitVec.ofNat 2 (wfld v 29 2) }
    if size = x.size.toNat ∧ mode = x.mode then s.setQueue b q x
    else if !x.entries.isEmpty || ((s.queue b q).qen && en) then reject (s.setQueue b q x)
    else s.setQueue b q { x with size := BitVec.ofNat 3 size, mode := mode }

/-- BASIN registers (chapter 11, R404). -/
def State.writeBasin (s : State) (b a v : Nat) : State :=
  if s.fencedBasin b then
    s.writeFenced 0x9 b a v (BASIN_ACK.addr b) (BASIN_FAULT.addr b) (BASIN_STAT.addr b)
  else if a = BASIN_CTL.addr b then
    (writePlain s a v [0] plain).enWrite (BASIN_CTL.EN b) (wbit v 0) (fun t => t.basinEnable b (wbit v 0))
  else if a = BASIN_ACK.addr b then if wbit v 31 then s.rearm 0x9 b else s
  else if a = DSP_QCFG.addr b then s.writeQcfg b v
  else writePlain s a v [] plain

/-- An operation written to MC_RGN_SEL (R353). -/
def State.rgnOp (s : State) (c op idx : Nat) : State :=
  match op with
  | 0 => s
  | 1 => s.rgnRead c idx
  | 2 => s.rgnWrite c idx
  | 3 => s.rgnInvalidate c idx
  | 4 => s.rgnRebind c idx
  | _ => s.setFld (MC_STAT.CFG_REJECT c) 1

/-- MC registers (chapter 12, R404): a channel DOWN takes acknowledgements and REARM alone. MC_RETRAIN.PERIOD is RO in MC2 to MC7. -/
def State.writeMc (s : State) (c a v : Nat) : State :=
  if s.mcState c = 5 then
    s.writeFenced 0xA c a v (MC_ACK.addr c) (MC_FAULT.addr c) (MC_STAT.addr c)
  else if a = MC_CTL.addr c then
    (writePlain s a v [0] plain).enWrite (MC_CTL.EN c) (wbit v 0) (fun t => t.mcEnable c (wbit v 0))
  else if a = MC_ACK.addr c then if wbit v 31 then s.rearm 0xA c else s
  else if a = MC_RANK.addr c then
    let sp := wfld v 4 4
    let multi := !(sp ∈ [0, 1, 2, 4, 8])
    if s.bit (MC_CTL.EN c) && wfld v 12 4 != 0 then
      (writePlain s a v [12] (fun lo _ => lo == 4 && multi)).setFld (MC_STAT.CFG_REJECT c) 1
    else writePlain s a v [] (fun lo _ => lo == 4 && multi)
  else if a = MC_TRAIN.addr c then
    let t := writePlain s a v [0] plain
    if wbit v 0 then t.trainStart c else t
  else if a = MC_RGN_SEL.addr c then (writePlain s a v [] plain).rgnOp c (wfld v 29 3) (v % 64)
  else if a = MC_RETRAIN.addr c then if 2 ≤ c then s else writePlain s a v [] plain
  else writePlain s a v [] plain

/-- The requester's bit of SEC_PG_OWN.USE for jobs (Table 14-7); a strider has none: bit 6 is past the field. -/
def jobUse : Requester → Nat
  | .bar2 => 1
  | .strider _ => 6
  | _ => 0

/-- A CMP table group in IMMED mode, at the write when no job compresses (R49). -/
def State.cmpWritten (s : State) : State := if s.bit DEV_CFGMODE.IMM_CMP then s.cmpPoint else s

/-- CMP registers (chapter 6).  -/
def State.writeCmp (s : State) (who : Requester) (a v : Nat) : State :=
  if a = CMP_CTL.addr then
    let t := (writePlain s a v [0] plain).laneEnWritten
    let t := t.enWrite CMP_CTL.EN (wbit v 0) (fun t => t.cmpEnable (wbit v 0))
    t.cmpPoint
  else if a = CMP_TBL.addr then
    let t := writePlain s a v [0] plain
    if wbit v 0 then (t.setFld CMP_TBL.COMMIT 1).cmpPoint else t.cmpWritten
  else if a = CMP_JOB_GO.addr then s.jobStart (v % 4) (jobUse who)
  else (writePlain s a v [] plain).cmpWritten

/-- SEC_SHA_CTL written: LASTB is stored, DONE cleared by 1, INIT and FINAL act (R425). -/
def State.writeShaCtl (s : State) (v : Nat) : State :=
  let t := writePlain s SEC_SHA_CTL.addr v [0, 1] plain
  let t := if wbit v 0 then t.shaStart else t
  if wbit v 1 then t.shaEnd else t

/-- SEC_CTL.EN written (R408, Table 14-9): 0 reads back 1 until no operation runs. -/
def State.secEnable (s : State) (en : Bool) : State :=
  if en then { s with sec := { s.sec with stopping := false } }.setFld SEC_CTL.EN 1
  else if s.bit SEC_CTL.EN then { s with sec := { s.sec with stopping := true } }
  else s

/-- The stopped state of SEC: no operation on a page and no digest runs. -/
def State.secStopPoint (s : State) : State :=
  if s.sec.stopping && !s.bit SEC_SHA_CTL.BUSY && (upTo 16).all (fun k => !s.pageBusy k) then
    { s with sec := { s.sec with stopping := false } }.setFld SEC_CTL.EN 0
  else s

/-- Does a requester reach a register of SEC (R423, R425): never a strider; the digest engine and page 0 only the service
complex. -/
def secMay (who : Requester) (a : Nat) : Bool :=
  match who with
  | .strider _ => false
  | .svc => true
  | _ =>
    !(a == SEC_SHA_CTL.addr || a == SEC_SHA_DATA.addr || decide (SEC_PG_CTL.addr 0 ≤ a ∧ a < SEC_PG_CTL.addr 1))

/-- SEC registers (chapter 14). -/
def State.writeSec (s : State) (who : Requester) (a v : Nat) : State :=
  if !secMay who a then s.setFld SEC_STAT.CFG_REJECT 1
  else if a = SEC_CTL.addr then
    let t := writePlain s a v [0, 1] plain
    let t := if wbit v 1 then t.otpLocked else t
    t.enWrite SEC_CTL.EN (wbit v 0) (fun t => t.secEnable (wbit v 0))
  else if a = SEC_KEYLOAD.addr then s.keyload (BitVec.ofNat 32 v)
  else if a = SEC_KEYLD_CTL.addr then if v % 4 = 0 then s else s.keyClear
  else if a = SEC_RNG_CTL.addr then
    let was := s.bit SEC_RNG_CTL.EN
    let t := writePlain s a v [1] plain
    if wbit v 1 || (!was && t.bit SEC_RNG_CTL.EN) then t.rngStart else t
  else if a = SEC_SHA_CTL.addr then s.writeShaCtl v
  else if a = SEC_SHA_DATA.addr then s.shaFeed (BitVec.ofNat 32 v)
  else writePlain s a v [] plain

/-- Page registers: on page 0 KBASE, KBITS and USE are fixed; USE is fixed once LOCK reads 1 (R420, R422). -/
def State.writePage (s : State) (who : Requester) (k a v : Nat) : State :=
  if !secMay who a then s.setFld SEC_STAT.CFG_REJECT 1
  else if a = SEC_PG_CTL.addr k then
    let t := if k = 0 then
        (if wfld v 1 2 = 1 then s else s.setFld SEC_STAT.CFG_REJECT 1)
      else writePlain s a v [0] plain
    t.enWrite (SEC_PG_CTL.EN k) (wbit v 0) (fun t => if wbit v 0 then t.pageEnable k else t.pageDisable k)
  else if a = SEC_PG_OWN.addr k then
    if (k = 0 ∨ s.bit (SEC_PG_OWN.LOCK k)) ∧ v % 64 ≠ s.fld (SEC_PG_OWN.USE k) then
      (writePlain s a v [0] plain).setFld SEC_STAT.CFG_REJECT 1
    else writePlain s a v [] plain
  else writePlain s a v [] plain

/-- HOST registers (chapter 15, R457). -/
def State.writeHost (s : State) (who : Requester) (a v : Nat) : State :=
  let off := a - HOST_CTL.addr
  match who with
  | .strider _ => s.setFld HOST_STAT.CFG_REJECT 1
  | _ =>
    if a = HOST_CTL.addr then
      (writePlain s a v [0] plain).enWrite HOST_CTL.EN (wbit v 0) (fun t => t.hostEnable (wbit v 0))
    else if a = HOST_ACK.addr then if wbit v 31 then s.rearm 0xD 0 else s
    else if a = DP_CTL.addr then s.dpCtl (BitVec.ofNat 32 v)
    else if a = DP_ADDR_LO.addr ∨ a = DP_ADDR_HI.addr then (writePlain s a v [] plain).dropPrefetch
    else if 0x100 ≤ off ∧ off < 0x180 then
      if off % 8 = 0 then s.sqDoorbell who ((off - 0x100) / 8) (v % 4096)
      else s.cqDoorbell who ((off - 0x100) / 8) (v % 4096)
    else writePlain s a v [] plain

/-- TIER registers (chapter 16): the routing group is that of TIER[0]; TIER_ROUTE of TIER[0] of a worker reads 0. -/
def State.writeTier (s : State) (t a v : Nat) : State :=
  if a = TIER_CTL.addr t then
    let u := writePlain s a v [0, 1] plain
    let u := if t = 0 ∧ wbit v 1 then u.routeCommit else u
    u.enWrite (TIER_CTL.EN t) (wbit v 0) (fun u => if wbit v 0 then u.tierOn t else u.tierOff t)
  else if a = TIER_ROUTE_LO.addr t ∨ a = TIER_ROUTE_HI.addr t then
    if t = 0 && s.isWorker then s
    else
      let u := writePlain s a v [] plain
      if u.bit DEV_CFGMODE.IMM_TIER && !(upTo 8).any u.tierSends then u.routePoint 0 else u
  else writePlain s a v [] plain

/-- SVC registers (chapter 13). -/
def State.writeSvc (s : State) (a v : Nat) : State :=
  if a = SVC_FLTCTL.addr then
    let t := writePlain s a v [0] plain
    if wbit v 0 then { t with due := t.due ++ [.safe 2 0 0] } else t
  else if a = TAIL_BASE_LO.addr then writePlain s a (v / 65536 * 65536) [] plain
  else if a = SVC_BASINMAP.addr then writePlain s a v [] (fun lo c => c == lo / 2)
  else writePlain s a v [] plain

/-- A D-state request (R486, R488): it is examined at the next housekeeping tick. -/
def State.pwrRequest (s : State) (target : Nat) : State :=
  if target = 0 then s
  else if target = 3 then s.setFld PWR_STAT.CFG_REJECT 1
  else { s with pwr := { s.pwr with request := target } }

/-- RST_CTL.KIND written (R492). -/
def State.rstKind (s : State) (kind : Nat) : State :=
  if kind = 0 then s
  else if kind = 3 then s.setFld PWR_STAT.CFG_REJECT 1
  else { s with due := s.due ++ [.reset kind] }

/-- CLK/PWR registers (chapter 17): ECLK values are multiples of 100 from 600 to the maximum of the ordering code (R4, R483). -/
def State.writePwr (s : State) (a v : Nat) : State :=
  if a = PWR_REQ.addr then s.pwrRequest (v % 4)
  else if a = RST_CTL.addr then
    let t := writePlain s a v [2] plain
    let t := if wbit v 2 then t.blockReset (t.fld RST_CTL.BLK) (t.fld RST_CTL.INST) else t
    t.rstKind (v % 4)
  else if (upTo 4).any (fun b => a == ECLK_CTL.addr b) then
    writePlain s a v [] (fun _ c => decide (c < 600 ∨ s.eclkMax < c ∨ c % 100 ≠ 0))
  else writePlain s a v [] plain

/-- THERM and PINS registers (chapter 18): WARN ≤ THROT ≤ CRIT ≤ 130. -/
def State.writeTherm (s : State) (a v : Nat) : State :=
  if a = THERM_LIMIT.addr then
    let ok := decide (wfld v 24 8 ≤ wfld v 16 8 ∧ wfld v 16 8 ≤ wfld v 8 8 ∧ wfld v 8 8 ≤ 130)
    writePlain s a v [] (fun lo c => (lo != 0 && !ok) || (lo == 0 && c == 0))
  else if a = PIN_CTL.addr then if wbit v 0 then s.chainStart else s
  else if a = PIN_FILT.addr then
    writePlain s a v [] (fun lo c => c == 0 || (lo == 0 && decide (50 < c)))
  else writePlain s a v [] plain

/-- A register write that has reached its block, by block. -/
def State.routeWrite (s : State) (who : Requester) (a v : Nat) : State :=
  match locate a with
  | none => s
  | some (b, i, _) =>
    match b with
    | .dev =>
      if a = DEV_CFGMODE.addr then
        (match who with
         | .bar2 | .svc => s.writeCfgmode v
         | _ => s)
      else writePlain s a v [] plain
    | .pwr => s.writePwr a v
    | .time => s.writeTime a v
    | .ax => s.writeAxis i a v
    | .ap => s.writePort i a v
    | .weirg => s.writeWeirg a v
    | .adt => s.writeAdt a v
    | .fc => s.writeFc i a v
    | .pond => if h : i < 68 then s.writePond who ⟨i, h⟩ a v else s
    | .basin => s.writeBasin i a v
    | .mc => s.writeMc i a v
    | .cmp => s.writeCmp who a v
    | .sec => s.writeSec who a v
    | .secPage => s.writePage who i a v
    | .host => s.writeHost who a v
    | .tier => s.writeTier i a v
    | .svc => s.writeSvc a v
    | .therm => s.writeTherm a v

/-- A write of one register, and the acknowledgements it makes. -/
def State.writeReg (s : State) (who : Requester) (a v : Nat) : State := (s.routeWrite who a v).ackWritten s a

/-! ### Accesses of a requester -/

/-- Registers that the BAR0 path reaches (Table 15-2). -/
def inBar0 (a : Nat) : Bool :=
  let off := a - HOST_CTL.addr
  decide (HOST_CTL.addr ≤ a) && (decide (off < 0x40) || decide (0x100 ≤ off ∧ off < 0x180))

/-- A refused BAR2 access (R453). -/
def State.bar2Off (s : State) (a atype : Nat) : State := (s.stat 10).hostRaise Flt.HOST_BAR2_OFF a 1 atype 0 0

/-- May a requester's access proceed (R432, R453)? A worker's PCI Express is held in reset: no host access reaches it (R22, R27). Refused BAR2 accesses are reported. `w` says a write. -/
def State.mayAccess (s : State) (who : Requester) (a : Nat) (w : Bool) : Bool × State :=
  match who with
  | .bar0 => if s.isWorker then (false, s) else (inBar0 a, s.napEnd)
  | .bar2 =>
    if s.isWorker then (false, s) else
    let m := s.fld HOST_STAT.BAR2
    if m = 2 ∨ (m = 1 ∧ w = false) then (true, s.napEnd) else (false, s.bar2Off a (if w then 1 else 0))
  | _ => (true, s)

/-- The low half of a pair staged (R36). -/
def State.stageLow (s : State) (who : Requester) (v : Word32) : State := s.setLatch who ((s.latch who).1, some v)

/-- The low half of a pair as a part of the one write that the high half makes: its fields by their access classes, with no
commit point of its own (R36). A half that its block does not let through for another reason is left to the block. -/
def State.writeHalf (s : State) (who : Requester) (a v : Nat) : State :=
  if a = TAIL_BASE_LO.addr then writePlain s a (v / 65536 * 65536) [] plain
  else if a = TIER_ROUTE_LO.addr 0 && s.isWorker then s
  else match who, locate a with
    | .strider _, some (.host, _, _) => s
    | _, _ => writePlain s a v [] plain

/-- The high half written: both halves are committed as one write (R36), the low half in place when the high half meets its
block's commit point (R45, R49). -/
def State.commitPair (s : State) (who : Requester) (a v : Nat) : State :=
  match (s.latch who).2 with
  | none => s.writeReg who a v
  | some l => ((s.setLatch who ((s.latch who).1, none)).writeHalf who (a - 4) l.toNat).writeReg who a v

/-- What a register read before a BAR2 write is kept, for a read-modify-write of firmware that the write meets (R29). -/
def State.noteBar2 (s : State) (who : Requester) (a : Nat) : State :=
  if who = .bar2 then { s with host := { s.host with bar2Old := some (a, s.peek a, s.dt) } } else s

/-- A 32-bit register write of a requester (R34, R36, R453): unaligned ones, and those to an address that holds no
register, are ignored. -/
def State.regWrite (s : State) (who : Requester) (a : Nat) (v : Word32) : State :=
  let (ok, s) := s.mayAccess who a true
  if !ok || a % 4 != 0 || !isRegister a then s
  else if isPairLo a then s.stageLow who v
  else
  let s := s.noteBar2 who a
  if isPairHi a then s.commitPair who a v.toNat
  else s.writeReg who a v.toNat

/-- A write narrower than 32 bits is ignored and rejected by its block (R34). -/
def State.narrowWrite (s : State) (a : Nat) : State :=
  if isRegister (a / 4 * 4) then s.reject (a / 4 * 4) 31 else s

/-- A 32-bit register read of a requester (R34, R35, R41): the value, and what the read advances. -/
def State.regRead (s : State) (who : Requester) (a : Nat) : Word32 × State :=
  let (ok, s) := s.mayAccess who a false
  if !ok || a % 4 != 0 then (0, s)
  else if isPairLo a then
    let l := s.latch who
    (s.peek a, s.setLatch who (s.peek (a + 4), l.2))
  else if isPairHi a then ((s.latch who).1, s)
  else if a = SEC_RNG_DATA.addr then s.rngRead
  else if a = SEC_SHA_DIGEST.addr then s.shaRead
  else if a = ADT_DATA.addr then (s.peek a, s.adtAccess none)
  else (s.peek a, s)

end Sys2Proof.Machine
end

