-- ==== Sys2Proof/Machine/StrMem.lean ====
section
/-!
DEFINITION. Memory as a strider sees it (chapters 10 and 11): the address classes, loads with forwarding from its own two
store buffers, stores into the buffers and their drains, atomic operations, line maintenance, and device space.
-/

namespace Sys2Proof.Machine

/-- What an access of a strider gives: a value, a wait (the instruction has not completed and is tried again), or a trap with
its cause and TVAL. -/
inductive MemRes where
  | ok (bytes : List Byte)
  | wait
  | trap (cause tval : Nat)
  deriving DecidableEq, Repr

/-- Trap causes (Table 07-13). -/
def Cause.illegal : Nat := 1
def Cause.cxundef : Nat := 2
def Cause.align : Nat := 3
def Cause.access : Nat := 4
def Cause.poison : Nat := 5
def Cause.devErr : Nat := 6
def Cause.fp : Nat := 7
def Cause.divz : Nat := 8
def Cause.loop : Nat := 9
def Cause.ordinal : Nat := 10
def Cause.brk : Nat := 11
def Cause.soft : Nat := 12
def Cause.ucode : Nat := 13

/-- Address classes of a strider (Table 10-1). -/
inductive AClass where
  | cached | uncached
  | own (off : Nat)
  /-- a request port: 0 the CMP's, 1 and 2 those of the DMA engines, with the offset in it -/
  | port (k off : Nat)
  | reg (a : Nat)
  | bad
  deriving DecidableEq, Repr

/-- First address of device space, and of the register window (R320). -/
def devBase : Nat := 0xFFFFFF0000000000
def regWindow : Nat := 0xFFFFFF1000000000

/-- The class of an address (R270, R284, R320, R323, R355). -/
def State.addrClass (s : State) (w : StrId) (a : Nat) : AClass :=
  if a < 2 ^ 41 then
    match s.regionAt a with
    | none => .bad
    | some (_, r) =>
      if !r.shared && r.owner.toNat != basinOf w.pond.val then .bad
      else if r.cache && s.bit (L2_CTL.EN w.pond.val) then .cached
      else .uncached
  else if winP ≤ a ∧ a < winP + pmSize then .own (a - winP)
  else if devBase ≤ a ∧ a < devBase + 0x20 then .port 0 (a - devBase)
  else if devBase + 0x40 ≤ a ∧ a < devBase + 0x60 then .port 1 (a - devBase - 0x40)
  else if devBase + 0x60 ≤ a ∧ a < devBase + 0x80 then .port 2 (a - devBase - 0x60)
  else if regWindow ≤ a ∧ a < regWindow + 2 ^ 24 then .reg (a - regWindow)
  else .bad

/-- The parts of an access at a 64-byte boundary (R191). -/
def accParts (a n : Nat) : List (Nat × Nat) :=
  if a % 64 + n ≤ 64 then [(a, n)]
  else
    let k := 64 - a % 64
    if n ≤ k + 64 then [(a, k), ((a + k) % 2 ^ 64, n - k)]
    else [(a, k), ((a + k) % 2 ^ 64, 64), ((a + k + 64) % 2 ^ 64, n - k - 64)]

/-- The natural alignment of a device-space access (R191), that of its registers for a pair (DEDUCED, assumption 126): the trap of one that
breaks it. -/
def alignTrap (a n : Nat) (dev : Bool) : Option (Nat × Nat) :=
  if devBase ≤ a && dev && a % (min n 8) != 0 then some (Cause.align, a) else none

/-- The trap of one part before it is accessed: its class and permission (R191, R201, R293); `perm` is what pond memory must grant, `dev`
says device space is allowed. -/
def State.partTrap (s : State) (w : StrId) (a n : Nat) (perm : BitVec 4) (dev : Bool) : Option (Nat × Nat) :=
  match s.addrClass w a with
    | .bad => some (Cause.access, a)
    | .own off => if s.pmAllowed w.pond.val w.slot.val off n perm then none else some (Cause.access, a)
    | .port _ _ | .reg _ => if dev then none else some (Cause.access, a)
    | _ => none

/-- The first trap among the parts, lower addresses first. -/
def State.firstTrap (s : State) (w : StrId) (perm : BitVec 4) (dev : Bool) : List (Nat × Nat) → Option (Nat × Nat)
  | [] => none
  | q :: t =>
    match s.partTrap w q.1 q.2 perm dev with
    | some x => some x
    | none => s.firstTrap w perm dev t

/-- The trap of an access that reads nothing: alignment, then its parts (R201). -/
def State.accTrap (s : State) (w : StrId) (a n : Nat) (perm : BitVec 4) (dev : Bool) : Option (Nat × Nat) :=
  match alignTrap a n dev with
  | some x => some x
  | none => s.firstTrap w perm dev (accParts a n)

/-! ### The buffers (R310, R312, R313) -/

/-- The byte an entry holds for an address. -/
def BufEntry.byteAt (e : BufEntry) (a : Nat) : Option Byte :=
  if e.addr ≤ a ∧ a < e.addr + 64 then e.data.getD (a - e.addr) none else none

/-- The newest byte a strider's buffers hold for an address: the combining buffer first, since a store that overlaps it drains
it before entering the store buffer. -/
def StrSt.bufByte (t : StrSt) (a : Nat) : Option Byte :=
  match t.cb.findSome? (fun e => e.byteAt a) with
  | some b => some b
  | none => t.sb.reverse.findSome? (fun e => e.byteAt a)

/-- Does an entry hold bytes of a range? -/
def BufEntry.overlaps (e : BufEntry) (a n : Nat) : Bool := (List.range n).any (fun i => (e.byteAt (a + i)).isSome)

/-- Write bytes over those of an entry. -/
def BufEntry.merge (e : BufEntry) (a : Nat) (b : List Byte) : BufEntry :=
  { e with data := (List.range 64).map (fun i =>
      let k := e.addr + i
      if a ≤ k ∧ k < a + b.length then b[k - a]? else e.data.getD i none) }

/-- A new entry for the line of an address. -/
def newEntry (a : Nat) (b : List Byte) : BufEntry :=
  BufEntry.merge { addr := a / 64 * 64, data := List.replicate 64 none, dev := decide (devBase ≤ a) } a b

/-- The first byte that an entry holds. -/
def BufEntry.first (e : BufEntry) : Nat := e.addr + (e.data.findIdx (·.isSome)) % 64

/-- A pond's stop on its ring. -/
def stopOf (w : StrId) : Fin 17 := Fin.ofNat 17 w.pond.val

/-- A store to a register (R34): narrow ones are rejected, wide ones made as 32-bit writes in order of address. -/
def State.regStore (s : State) (who : Requester) (a : Nat) (b : List Byte) : State :=
  if b.length < 4 then s.narrowWrite a
  else (upTo (b.length / 4)).foldl (fun (s : State) i => s.regWrite who (a + 4 * i) (BitVec.ofNat 32 (leAt b (4 * i) 4))) s

/-- An uncached write to a line that the pond's disabled L2 still holds (R285). -/
def State.staleRisk (s : State) (p line : Nat) : State :=
  if (s.l2 p line).st == .i then s else s.setFld (POND_STAT.STALE_RISK p) 1

/-- Perform an entry of the store buffer (R308): false while it cannot be. -/
def State.performEntry (s : State) (w : StrId) (e : BufEntry) : Bool × State :=
  let p := w.pond.val
  let line := e.addr / 64
  match s.addrClass w e.addr with
  | .own off => (true, s.pmWriteMask w.pond off e.data)
  | .cached =>
    match s.acquire p line true with
    | (true, s) => (true, s.l2Store p line e.data 0 (some w.slot.val))
    | (false, s) => (false, s)
  | .uncached => (s.staleRisk p line).masterWrite (some (stopOf w)) line e.data 0 (basinOf p)
  | .reg r => (true, (byteRuns r e.data).foldl (fun (s : State) q => s.regStore (.strider w) q.1 q.2) s)
  | _ => if e.addr < 2 ^ 41 then s.masterWrite (some (stopOf w)) line e.data 0 (basinOf p) else (true, s)

/-- Perform an entry of the combining buffer (R313): the line leaves every L2 of the basin, or this pond's when shared. -/
def State.performNt (s : State) (w : StrId) (e : BufEntry) : Bool × State :=
  let p := w.pond.val
  let line := e.addr / 64
  match s.addrClass w e.addr with
  | .own off => (true, s.pmWriteMask w.pond off e.data)
  | .cached =>
    if s.coherentIn (basinOf p) line then s.masterWrite none line e.data 0 (basinOf p)
    else if !s.dramTakes e.addr then (false, s)
    else
      let l := s.l2 p line
      let s := s.setL2 p line { l with st := .i }
      if l.st == .m then (true, s.dramWriteFull line (mergeBytes l.data e.data) (poisonAfter true l.poison 0 e.data) (basinOf p))
      else (true, s.dramWrite line e.data 0 (basinOf p))
  | _ => s.performEntry w e

/-- Drain the oldest entry of the store buffer. -/
def State.drainOne (s : State) (w : StrId) : Bool × State :=
  match (s.str w).sb with
  | [] => (true, s)
  | e :: rest =>
    match s.performEntry w e with
    | (true, s) => (true, s.setStr w { s.str w with sb := rest })
    | (false, s) => (false, s)

/-- Drain the store buffer, oldest first; at most `n` entries. -/
def State.drainSb (w : StrId) : Nat → State → Bool × State
  | 0, s => ((s.str w).sb.isEmpty, s)
  | n + 1, s =>
    if (s.str w).sb.isEmpty then (true, s)
    else match s.drainOne w with
      | (true, s) => State.drainSb w n s
      | (false, s) => (false, s)

/-- Drain one entry of the combining buffer. -/
def State.drainNt (s : State) (w : StrId) (i : Nat) : Bool × State :=
  match (s.str w).cb[i]? with
  | none => (true, s)
  | some e =>
    match s.performNt w e with
    | (true, s) => (true, s.setStr w { s.str w with cb := (s.str w).cb.eraseIdx i })
    | (false, s) => (false, s)

/-- Drain the combining buffer. -/
def State.drainCb (w : StrId) : Nat → State → Bool × State
  | 0, s => ((s.str w).cb.isEmpty, s)
  | n + 1, s =>
    if (s.str w).cb.isEmpty then (true, s)
    else match s.drainNt w 0 with
      | (true, s) => State.drainCb w n s
      | (false, s) => (false, s)

/-- Drain the store buffer (Table 11-1). -/
def State.drainStores (s : State) (w : StrId) : Bool × State := State.drainSb w 8 s

/-- Drain both buffers (FENCE.ALL, Table 11-1). -/
def State.drainAll (s : State) (w : StrId) : Bool × State :=
  match s.drainStores w with
  | (true, s) => State.drainCb w 4 s
  | (false, s) => (false, s)

/-- Drain the entries of the combining buffer that hold bytes of a range. -/
def State.drainOver (w : StrId) (a n : Nat) : Nat → State → Bool × State
  | 0, s => (true, s)
  | k + 1, s =>
    match (s.str w).cb.findIdx? (fun e => e.overlaps a n) with
    | none => (true, s)
    | some i =>
      match s.drainNt w i with
      | (true, s) => State.drainOver w a n k s
      | (false, s) => (false, s)

/-- Drain the store buffer, oldest first, until it holds no byte of a range. -/
def State.drainUnder (w : StrId) (a n : Nat) : Nat → State → Bool × State
  | 0, s => (!(s.str w).sb.any (fun e => e.overlaps a n), s)
  | k + 1, s =>
    if !(s.str w).sb.any (fun e => e.overlaps a n) then (true, s)
    else match s.drainOne w with
      | (true, s) => State.drainUnder w a n k s
      | (false, s) => (false, s)

/-- Make room for `n` new entries in the store buffer (R312). -/
def State.roomSb (w : StrId) (n : Nat) : Nat → State → Bool × State
  | 0, s => (decide ((s.str w).sb.length + n ≤ 8), s)
  | k + 1, s =>
    if (s.str w).sb.length + n ≤ 8 then (true, s)
    else match s.drainOne w with
      | (true, s) => State.roomSb w n k s
      | (false, s) => (false, s)

/-- Make room for `n` new entries in the combining buffer (R313): which entry drains is open, and the oldest is taken. -/
def State.roomCb (w : StrId) (n : Nat) : Nat → State → Bool × State
  | 0, s => (decide ((s.str w).cb.length + n ≤ 4), s)
  | k + 1, s =>
    if (s.str w).cb.length + n ≤ 4 then (true, s)
    else match s.drainNt w 0 with
      | (true, s) => State.roomCb w n k s
      | (false, s) => (false, s)

/-- Put bytes of one line into the store buffer: only the youngest entry merges (R312). -/
def StrSt.putSb (t : StrSt) (a : Nat) (b : List Byte) : StrSt :=
  match t.sb.getLast? with
  | some e => if e.addr == a / 64 * 64 then { t with sb := t.sb.dropLast ++ [e.merge a b] } else { t with sb := t.sb ++ [newEntry a b] }
  | none => { t with sb := [newEntry a b] }

/-- Put bytes of one line into the combining buffer: any entry that holds the line merges (R313). -/
def StrSt.putCb (t : StrSt) (a : Nat) (b : List Byte) : StrSt :=
  if t.cb.any (fun e => e.addr == a / 64 * 64) then
    { t with cb := t.cb.map (fun e => if e.addr == a / 64 * 64 then e.merge a b else e) }
  else { t with cb := t.cb ++ [newEntry a b] }

/-! ### Loads -/

/-- Bytes of a register window access (R34): part of a register, one register, or two in order of address. -/
def State.regBytes (s : State) (who : Requester) (a n : Nat) : List Byte × State :=
  let word (s : State) (a : Nat) : List Byte × State :=
    let (v, s) := s.regRead who a
    (leBytes 4 v.toNat, s)
  if n < 4 then
    let (l, s) := word s (a / 4 * 4)
    (slice l (a % 4) n, s)
  else if n = 4 then word s a
  else
    let (l, s) := word s a
    let (h, s) := word s (a + 4)
    let lo := l ++ h
    if n = 8 then (lo, s)
    else
      let (l, s) := word s (a + 8)
      let (h, s) := word s (a + 12)
      (lo ++ l ++ h, s)

/-- The bytes that memory holds for a part of an access, with the poison bits of its line's words; none while it waits. -/
def State.memPart (s : State) (w : StrId) (a n : Nat) : Option (List Byte × BitVec 8) × State :=
  let p := w.pond.val
  let line := a / 64
  match s.addrClass w a with
  | .own off =>
    let base := off / 64 * 8
    (some (s.pmBytes p off n, BitVec.ofNat 8 (maskOf 8 (fun k => s.pmPoisoned p (base + k)))), s)
  | .cached =>
    match s.l1dLine w line with
    | (some (d, x), s) => (some (slice d (a % 64) n, x), s)
    | (none, s) => (none, s)
  | .uncached =>
    match s.masterRead (some (stopOf w)) line (basinOf p) with
    | (some (d, x), s) => (some (slice d (a % 64) n, x), s)
    | (none, s) => (none, s)
  | .port _ _ => (some (zeros n, 0), s)
  | .reg r =>
    let (l, s) := s.regBytes (.strider w) r n
    (some (l, 0), s)
  | .bad => (some (zeros n, 0), s)

/-- A part with the strider's own buffered bytes over it (R310); POISON when a word taken from memory is poisoned. -/
def State.loadPart (s : State) (w : StrId) (a n : Nat) : MemRes × State :=
  match s.memPart w a n with
  | (none, s) => (.wait, s)
  | (some (d, x), s) =>
    let t := s.str w
    let own (i : Nat) : Option Byte := if devBase ≤ a then none else t.bufByte (a + i)
    if (List.range n).any (fun i => (own i).isNone && x.getLsbD ((a + i) % 64 / 8)) then (.trap Cause.poison a, s)
    else (.ok ((List.range n).map (fun i => (own i).getD (d.getD i 0))), s)

/-- Load the parts in order of address: the causes of a part come before those of the next (R201). A part of device space, where a read may
act, is read once the parts after it are known to be allowed. -/
def State.loadParts (w : StrId) (dev : Bool) : List (Nat × Nat) → State → MemRes × State
  | [], s => (.ok [], s)
  | q :: t, s =>
    match s.firstTrap w 1 dev (if devBase ≤ q.1 then q :: t else [q]) with
    | some (c, v) => (.trap c v, s)
    | none =>
      match s.loadPart w q.1 q.2 with
      | (.ok b, s) =>
        match State.loadParts w dev t s with
        | (.ok c, s) => (.ok (b ++ c), s)
        | x => x
      | x => x

/-- Before a device-space access the store buffer is drained (Table 11-1). -/
def State.deviceFirst (s : State) (w : StrId) (a : Nat) : Bool × State := if devBase ≤ a then s.drainStores w else (true, s)

/-- A load of `n` bytes (R191, R201, R310). -/
def State.load (s : State) (w : StrId) (a n : Nat) (dev : Bool) : MemRes × State :=
  match alignTrap a n dev with
  | some (c, v) => (.trap c v, s)
  | none =>
    match s.deviceFirst w a with
    | (true, s) => State.loadParts w dev (accParts a n) s
    | (false, s) => (.wait, s)

/-- A load that device space answers with an error (Table 07-13): the other causes come first (R201), and nothing is read. -/
def State.loadRefused (s : State) (w : StrId) (a n : Nat) : MemRes × State :=
  match s.accTrap w a n 1 true with
  | some (c, v) => (.trap c v, s)
  | none =>
    match s.drainStores w with
    | (true, s) => (.trap Cause.devErr a, s)
    | (false, s) => (.wait, s)

/-! ### Stores -/

/-- What a store to a request port does (R172, R296): four 8-byte stores fill the port's buffer, and the last submits it;
a store of another size is ignored. A full port makes the strider wait: `some`. -/
def State.portStore (s : State) (w : StrId) (k off : Nat) (b : List Byte) : Option Wait × State :=
  if b.length ≠ 8 then (none, s)
  else
    let v : Word := BitVec.ofNat 64 (leNat b)
    let j := off / 8
    let t := s.str w
    if k = 0 then
      if j < 3 then (none, s.setStr w { t with cmpBuf := Tab.set (fun _ => 0) t.cmpBuf j v })
      else
        match s.cmpSubmit w v with
        | (true, s) => (none, s)
        | (false, s) =>
          (some (.cmpFull s.dt), s.setStr w { s.str w with cmpBuf := Tab.set (fun _ => 0) (s.str w).cmpBuf 3 v })
    else
      let e := k - 1
      if j < 3 then (none, s.setStr w { t with dmaBuf := Tab.set (fun _ => 0) t.dmaBuf (4 * e + j) v })
      else
        match s.dmaSubmit w e v with
        | (true, s) => (none, s)
        | (false, s) =>
          (some (.dmaFull e s.dt), s.setStr w { s.str w with dmaBuf := Tab.set (fun _ => 0) (s.str w).dmaBuf (4 * e + 3) v })

/-- A store's bytes enter a buffer; an ordinary one updates the strider's L1D line too (R272). -/
def State.putStore (s : State) (w : StrId) (nt : Bool) (q : Nat × List Byte) : State :=
  if nt then s.setStr w ((s.str w).putCb q.1 q.2)
  else
    let s := s.setStr w ((s.str w).putSb q.1 q.2)
    if s.addrClass w q.1 == .cached then s.l1dStore w (q.1 / 64) (newEntry q.1 q.2).data else s

/-- New entries that the parts of an ordinary store need: the first may merge into the youngest (R312). -/
def StrSt.newSb (t : StrSt) (parts : List (Nat × List Byte)) : Nat :=
  match parts, t.sb.getLast? with
  | q :: _, some e => if e.addr == q.1 / 64 * 64 then parts.length - 1 else parts.length
  | _, _ => parts.length

/-- New entries that the parts of an NT store need: each may merge into any that holds its line (R313). -/
def StrSt.newCb (t : StrSt) (parts : List (Nat × List Byte)) : Nat :=
  (parts.filter (fun q => !t.cb.any (fun e => e.addr == q.1 / 64 * 64))).length

/-- The buffer part of a store: what the other buffer holds of its bytes, which is older, leaves first, so that a byte stands in one of them
only (R310); room is made for every part, then all of them enter (R312, R313). -/
def State.bufferStore (s : State) (w : StrId) (nt : Bool) (parts : List (Nat × List Byte)) : Bool × State :=
  let clash (s : State) (q : Nat × List Byte) : Bool × State :=
    if nt then State.drainUnder w q.1 q.2.length 8 s else State.drainOver w q.1 q.2.length 4 s
  let put (s : State) : State := parts.foldl (fun (s : State) q => s.putStore w nt q) s
  match parts.foldl (fun (x : Bool × State) q => if x.1 then clash x.2 q else x) (true, s) with
  | (false, s) => (false, s)
  | (true, s) =>
    if nt then
      match State.roomCb w ((s.str w).newCb parts) 4 s with
      | (true, s) =>
        match State.roomCb w ((s.str w).newCb parts) 4 s with
        | (true, s) => (true, put s)
        | (false, s) => (false, s)
      | (false, s) => (false, s)
    else
      match State.roomSb w ((s.str w).newSb parts) 8 s with
      | (true, s) => (true, put s)
      | (false, s) => (false, s)

/-- Cut bytes into the parts of an access. -/
def cutParts (b : List Byte) : List (Nat × Nat) → List (Nat × List Byte)
  | [] => []
  | q :: t => (q.1, b.take q.2) :: cutParts (b.drop q.2) t

/-- What a store gives: completion, with the wait of a full port, or a wait or trap as a load. -/
inductive StRes where
  | done (port : Option Wait)
  | wait
  | trap (cause tval : Nat)
  deriving DecidableEq, Repr

/-- A store (R191, R272, R312, R313, R320). A device-space store drains the store buffer first; one to a register enters it then (R312) and
NT does not send it another way (DEDUCED, assumption 127), one to a request port is taken or refused by the port at once. -/
def State.store (s : State) (w : StrId) (a : Nat) (b : List Byte) (nt dev : Bool) : StRes × State :=
  let parts := cutParts b (accParts a b.length)
  match s.accTrap w a b.length 2 dev with
  | some (c, v) => (.trap c v, s)
  | none =>
    match s.addrClass w a with
    | .port k off =>
      match s.drainStores w with
      | (true, s) =>
        let (p, s) := s.portStore w k off b
        (.done p, s)
      | (false, s) => (.wait, s)
    | .reg _ =>
      match s.drainStores w with
      | (true, s) => (.done none, parts.foldl (fun (s : State) q => s.putStore w false q) s)
      | (false, s) => (.wait, s)
    | _ =>
      match s.bufferStore w nt parts with
      | (true, s) => (.done none, s)
      | (false, s) => (.wait, s)

/-! ### Atomic operations and maintenance -/

/-- The new value of an AMO (Table 07-9); none: nothing is stored. -/
def amoNew (x : Nat) (old b c : Word) : Option Word :=
  match x with
  | 0 => some b
  | 1 => some (old + b)
  | 2 => some (old &&& b)
  | 3 => some (old ||| b)
  | 4 => some (old ^^^ b)
  | 5 => some (if old.toInt ≤ b.toInt then old else b)
  | 6 => some (if old.toInt ≤ b.toInt then b else old)
  | _ => if old = c then some b else none

/-- The masked line that holds 8 bytes at an offset. -/
def wordMask (o : Nat) (v : Word) : List (Option Byte) :=
  (List.range 64).map (fun i => if o ≤ i ∧ i < o + 8 then some (BitVec.ofNat 8 (v.toNat / 2 ^ (8 * (i - o)))) else none)

/-- An AMO (R191, R316, R319): the old value, after the older stores and after the strider's own NT stores of the word. -/
def State.amo (s : State) (w : StrId) (a x : Nat) (b c : Word) : MemRes × State :=
  let p := w.pond.val
  let line := a / 64
  if a % 8 ≠ 0 then (.trap Cause.align a, s)
  else
    let cls := s.addrClass w a
    let cacheable := match s.regionAt a with
      | some (_, r) => r.cache
      | none => false
    let ok := match cls with
      | .cached => true
      | .uncached => cacheable
      | .own off => s.pmAllowed p w.slot.val off 8 11
      | _ => false
    if !ok then (.trap Cause.access a, s)
    else
      match s.drainStores w with
      | (false, s) => (.wait, s)
      | (true, s) =>
        match State.drainOver w a 8 4 s with
        | (false, s) => (.wait, s)
        | (true, s) =>
          match cls with
          | .own off =>
            if s.pmPoisoned p (off / 8) then (.trap Cause.poison a, s)
            else
              let old := s.pmBytes p off 8
              match amoNew x (BitVec.ofNat 64 (leNat old)) b c with
              | some v => (.ok old, s.pmWrite w.pond off (leBytes 8 v.toNat))
              | none => (.ok old, s)
          | .cached =>
            match s.acquire p line true with
            | (false, s) => (.wait, s)
            | (true, s) =>
              let l := s.l2 p line
              if l.poison.getLsbD (a % 64 / 8) then (.trap Cause.poison a, s)
              else
                let old := slice l.data (a % 64) 8
                match amoNew x (BitVec.ofNat 64 (leNat old)) b c with
                | some v => (.ok old, s.l2Store p line (wordMask (a % 64) v) 0 none)
                | none => (.ok old, s)
          | _ =>
            match s.masterRead (some (stopOf w)) line (basinOf p) with
            | (none, s) => (.wait, s)
            | (some (d, m), s) =>
              if m.getLsbD (a % 64 / 8) then (.trap Cause.poison a, s)
              else
                let old := slice d (a % 64) 8
                match amoNew x (BitVec.ofNat 64 (leNat old)) b c with
                | some v =>
                  match (s.staleRisk p line).masterWrite (some (stopOf w)) line (wordMask (a % 64) v) 0 (basinOf p) with
                  | (true, s) => (.ok old, s)
                  | (false, s) => (.wait, s)
                | none => (.ok old, s)

/-- The L1D line of an address leaves a strider's own L1D; of the L1I every line does (R279). -/
def State.dropOwnL1d (s : State) (w : StrId) (line : Nat) : State :=
  let x := s.pond w.pond.val
  s.setPond w.pond.val { x with l1d := x.l1d.keep (fun k l => !(k == w.slot.val && l == line)) }

def State.dropOwnL1i (s : State) (w : StrId) : State :=
  let x := s.pond w.pond.val
  s.setPond w.pond.val { x with l1i := x.l1i.keep (fun k _ => k != w.slot.val) }

/-- Is an address in a cacheable DRAM region that the strider may access (R280)? -/
def State.cmoAllowed (s : State) (w : StrId) (a : Nat) : Bool :=
  match s.regionAt a with
  | some (_, r) => decide (a < 2 ^ 41) && r.cache && s.addrClass w a != .bad
  | none => false

/-- CMO (R279 to R281, Table 12-6): operations 1 to 3 drain the older stores first and complete once the line stands as Table 10-2 states and
its write-back is acknowledged. An invalidate of a line that holds a poisoned word raises POISON; cleans carry the mark to memory. -/
def State.cmo (s : State) (w : StrId) (x : Nat) (a : Nat) : MemRes × State :=
  let p := w.pond.val
  let line := a / 64
  if !s.cmoAllowed w a then (.trap Cause.access a, s)
  else if x = 0 then (.ok [], s.dropOwnL1d w line)
  else
    match s.drainStores w with
    | (false, s) => (.wait, s)
    | (true, s) =>
      let l := s.l2 p line
      if x = 2 ∧ l.st ≠ .i ∧ l.poison ≠ 0 then (.trap Cause.poison a, s)
      else if l.st.transient || s.lineHeld p line then (.wait, s)
      else
        let s := s.maintLine p line x
        (if s.maintOpen p x line then .wait else .ok [], s)

/-! ### Errors that an access meets -/

/-- The error of a pond-memory word (R292). -/
def State.pmError (s : State) (p off master atype : Nat) (e : MemErr) : State :=
  match e with
  | .pmCe => s.pondRaise Flt.POND_PM_CE p off master atype 1
  | .pmUe => (s.setPmPoison p (off / 8) true).pondRaise Flt.POND_PM_UE p off master atype 1
  | _ => s

/-- The error of a DRAM word read by a master of Table 12-9 (R359). -/
def State.mcError (s : State) (a master : Nat) (e : MemErr) : State :=
  match e with
  | .mcCe => s.mcCorrected a master 0
  | .mcUe both =>
    match s.regionAt a with
    | some (_, r) =>
      let (c, o) := s.dramAt r a
      s.mcUncorrectable r a c o (BitVec.ofNat 8 (2 ^ (a % 64 / 8))) both master 0
    | none => s
  | _ => s

/-- The error of a pond's L2 as it is looked up for a line (R276, R277). The tag of a set fails whether or not it holds the line. -/
def State.l2Error (s : State) (p a master atype : Nat) (e : MemErr) : State :=
  let line := a / 64
  let l := s.l2 p line
  match e with
  | .l2Ce => if l.st.inWay then s.wayCorrected p l.way line else s
  | .l2Ue =>
    if l.st.inWay then
      let s := s.setL2 p line { l with poison := l.poison ||| BitVec.ofNat 8 (2 ^ (a % 64 / 8)) }
      (s.pondRaise Flt.POND_L2_UE p a master atype 0).wayDisable p l.way
    else s
  | .l2TagUe way => (s.tagLost p (l2Set line)).wayDisable p way.val
  | _ => s

/-- The error that an access of a strider at an address meets (R273, R276, R292, R359), `l1` saying that it looks in the L1D first. It fits the
place that answers the access: an error of a memory that is not read is none. -/
def State.memError (s : State) (w : StrId) (a atype : Nat) (l1 : Bool) (e : MemErr) : State :=
  let p := w.pond.val
  let line := a / 64
  match s.addrClass w a with
  | .own off => s.pmError p off w.slot.val atype e
  | .uncached => s.mcError a (basinOf p) e
  | .cached =>
    if l1 && ((s.pond p).l1d.wayOf w.slot.val line).isSome then
      if e = .l1Par then (s.dropOwnL1d w line).pondRaise Flt.POND_L1_PAR p a w.slot.val atype 0 else s
    else if (s.l2 p line).st == .i then (s.l2Error p a w.slot.val atype e).mcError a (basinOf p) e
    else s.l2Error p a w.slot.val atype e
  | _ => s

/-- The error that the oldest request of a DMA engine meets at the start of its source (R292, R359). -/
def State.dmaError (s : State) (p : Fin 68) (e : Fin 2) (err : MemErr) : State :=
  match (s.pond p.val).dma e.val with
  | [] => s
  | r :: _ =>
    let src := (r.desc.getD 0 0).toNat
    if winP ≤ src then s.pmError p.val (src - winP) (17 + e.val) 0 err
    else s.mcError src (s.dmaMaster p.val src) err

/-- The error that a read at DP_ADDR meets (R292, R359). -/
def State.dpError (s : State) (e : MemErr) : State :=
  match devAddr (s.dpAddr / 4 * 4) with
  | .dram x => s.mcError x 5 e
  | .pond p off => s.pmError p.val off 19 0 e
  | .other => s

/-! ### Instruction fetch (R271, R293) -/

/-- What the fetch of an instruction's bytes gives. -/
inductive Fetch where
  | ok | wait
  | trap (cause tval : Nat)
  deriving DecidableEq, Repr

/-- Is some 8-byte word of a part of a line poisoned? -/
def poisonIn (a n : Nat) (x : BitVec 8) : Bool := (List.range n).any (fun i => x.getLsbD ((a + i) % 64 / 8))

/-- The fetch of one part: from the L1I for cacheable DRAM, where a line that it does not hold must come first. -/
def State.fetchPart (s : State) (w : StrId) (a n : Nat) : Fetch :=
  let poison (x : BitVec 8) : Fetch := if poisonIn a n x then .trap Cause.poison a else .ok
  match s.addrClass w a with
  | .cached =>
    match (s.pond w.pond.val).l1i.find w.slot.val (a / 64) with
    | some l => poison l.poison
    | none => .wait
  | .uncached =>
    match (s.masterRead (some (stopOf w)) (a / 64) (basinOf w.pond.val)).1 with
    | some d => poison d.2
    | none => .wait
  | .own off =>
    if !s.pmAllowed w.pond.val w.slot.val off n 4 then .trap Cause.access a
    else if s.pmAnyPoison w.pond.val off n then .trap Cause.poison a
    else .ok
  | _ => .trap Cause.access a

/-- The fetch of the `n` bytes at an address: the lower part first (R201). -/
def State.fetchParts (s : State) (w : StrId) : List (Nat × Nat) → Fetch
  | [] => .ok
  | q :: t =>
    match s.fetchPart w q.1 q.2 with
    | .ok => s.fetchParts w t
    | x => x

/-- The fetch of an instruction of `n` bytes at the PC. One that goes on from a microcode interruptible point has been fetched (R257). -/
def State.fetchCheck (s : State) (w : StrId) (n : Nat) : Fetch :=
  let t := s.str w
  if t.uc.any (fun u => u.ready && u.addr == t.pc) then .ok else s.fetchParts w (accParts t.pc.toNat n)

/-- The lines of an instruction that the L1I does not hold are filled. -/
def State.fetchLines (s : State) (w : StrId) (n : Nat) : State :=
  (accParts (s.str w).pc.toNat n).foldl (fun (s : State) q =>
    if s.addrClass w q.1 == .cached then s.l1iFetch w (q.1 / 64) else s) s

/-- The fetch of an instruction, with the fills it needs. -/
def State.fetch (s : State) (w : StrId) (n : Nat) : Fetch × State :=
  match s.fetchCheck w n with
  | .wait =>
    let s := s.fetchLines w n
    (s.fetchCheck w n, s)
  | x => (x, s)

end Sys2Proof.Machine
end

