-- ==== Sys2Proof/Machine/StrCore.lean ====
section
/-!
DEFINITION. How a strider runs one instruction (chapter 7): when it runs at all, its fetch, the legality of prefixes (R185, R187), the
repeat prefix (R197 to R199), completion with the loop comparison (R194, R196), traps (R200 to R204), abandonment at the
time limit (R215) and the pipeline checks (R380, R381).
-/

namespace Sys2Proof.Machine

/-- A strider by its place in the table of striders. -/
def strOf (k : Nat) : StrId := ⟨Fin.ofNat 68 (k / 17), Fin.ofNat 17 (k % 17)⟩

/-- What an instruction's own effect gives. -/
inductive Res where
  /-- it completes and execution goes on at the next instruction -/
  | next (s : State)
  /-- it completes and execution goes on at an address -/
  | jump (pc : Word) (s : State)
  /-- it completes without the loop comparison (TRET, R194) -/
  | goto_ (pc : Word) (s : State)
  /-- a trap whose TPC is the instruction (Table 07-13); `uip` after an interruptible point -/
  | trap (cause : Nat) (tval : Word) (uip : Bool) (s : State)
  /-- a trap whose TPC is the next instruction -/
  | trapNext (cause : Nat) (tval : Word) (s : State)
  /-- it has not completed and is issued again -/
  | stall (s : State)
  /-- it goes on as a wait of the strider, which completes it -/
  | wait (k : Wait) (s : State)
  /-- the strider's task is over -/
  | over_ (s : State)
  deriving Repr

/-- Ticks of run time (R214). -/
def State.runTime (s : State) (w : StrId) : Nat :=
  let t := s.str w
  let waiting := match t.waitAt with
    | some a => (s.dt - a).toNat
    | none => 0
  (s.dt - t.dtStart).toNat - t.waited - waiting

/-- Has the run time reached the task's limit (R215)? -/
def State.timeUp (s : State) (w : StrId) : Bool := decide (usTicks (s.str w).limit ≤ s.runTime w)

/-- Does a strider execute: it runs a task and its basin's engine clock runs? -/
def State.executes (s : State) (w : StrId) : Bool :=
  (s.str w).run == .running && s.eclkOn (basinOfStr w) && !s.isGated w.pond

/-- The loop comparison (R194) at a next PC: innermost first, `n` levels at most. -/
def loopEnd : Nat → Word → StrSt → Word × StrSt
  | 0, pc, t => (pc, t)
  | n + 1, pc, t =>
    let ld := pswLd t.psw
    if ld = 0 ∨ t.ler (ld - 1) ≠ pc then (pc, t)
    else if 1 < (t.lcr (ld - 1)).toNat then
      (t.lsr (ld - 1), { t with lc := Tab.set (fun _ => 0) t.lc (ld - 1) (t.lcr (ld - 1) - 1) })
    else loopEnd n pc { t with lc := Tab.set (fun _ => 0) t.lc (ld - 1) 0, psw := pswSetLd t.psw (ld - 1) }

/-- Older stores complete, then the task is abandoned (R215): a waiting EMIT leaves its weir. -/
def State.leaveWeir (s : State) (w : StrId) : State :=
  match (s.str w).run with
  | .waiting (.emit _ n _ _ _ _) =>
    let x := s.weir n
    s.setWeir n { x with waiters := x.waiters.filter (fun v => v != w) }
  | _ => s

/-- Abandon the task of a strider at an instruction boundary (R215): older stores complete, then the task ends; it waits for those that
cannot be performed now. -/
def State.abandonTask (s : State) (w : StrId) (reason : Nat) : State :=
  match s.drainAll w with
  | (true, s) => (s.leaveWeir w).abandon w reason
  | (false, s) =>
    let s := s.leaveWeir w
    s.setStr w { s.str w with run := .waiting (.ending reason), waitAt := none }

/-- A halt that waited for the refresh of a microword is taken (R216, Table 09-12). -/
def State.haltPoint (s : State) (w : StrId) : State :=
  let t := s.str w
  if t.haltDue then (s.setStr w { t with haltDue := false }).abandonTask w 4 else s

/-- An instruction that began in task mode or not completes at a next PC. A resume record that TRET chose is used up (R258). -/
def State.complete (s : State) (w : StrId) (task : Bool) (pc : Word) : State :=
  let t := s.str w
  let (pc, t) := if task then loopEnd 4 pc t else (pc, t)
  (s.setStr w { t with pc := pc, uc := t.uc.filter (fun u => !u.ready) }).haltPoint w

/-- Take a trap (R200): the store buffer drains first, and until it has the instruction has not completed. In handler mode the
task is abandoned with DOUBLE_TRAP (R204). TPSW takes PSW, with UIP set after an interruptible point (R256); the record of the instruction is
then kept for TRET (R258). -/
def State.takeTrap (s : State) (w : StrId) (cause : Nat) (tval tpc : Word) (uip : Bool) : State :=
  let (ok, s) := s.drainStores w
  if !ok then s
  else
    let t := s.str w
    if pswH t.psw then s.abandonTask w 2
    else
      let psw := if uip then pswSetUip t.psw true else t.psw
      let uc := if uip then (t.uc.filter (fun u => u.ready)).map (fun u => { u with stack := [], ready := false })
        else t.uc.filter (fun u => !u.ready)
      State.haltPoint (s.setStr w { t with
        uc := uc, tpc := tpc, tpsw := psw, tcause := BitVec.ofNat 32 cause, tval := tval, psw := pswSetH psw true,
        pc := t.tbase / 256 * 256 + BitVec.ofNat 64 (16 * cause) }) w

/-- An instruction, or one iteration of a repeated one, completes: `next` is the address after it (R197). -/
def State.iterate (s : State) (w : StrId) (rep task : Bool) (next : Word) : State :=
  if rep then
    let u := s.str w
    let rc := u.rc - 1
    let s := s.setStr w { u with rc := rc, uc := u.uc.filter (fun x => !x.ready) }
    if rc = 0 then s.complete w task next else s.haltPoint w
  else s.complete w task next

/-- The outcome of one execution of an instruction's effect, as Res gives it; `next` is the address after it. -/
def State.outcome (s₀ : State) (w : StrId) (rep : Bool) (next : Word) (r : Res) : State :=
  let t := s₀.str w
  let task := !pswH t.psw
  match r with
  | .next s => s.iterate w rep task next
  | .jump pc s => s.complete w task pc
  | .goto_ pc s => (s.setStr w { s.str w with pc := pc }).haltPoint w
  | .trap cause tval uip s => s.takeTrap w cause tval t.pc uip
  | .trapNext cause tval s => s.takeTrap w cause tval next false
  | .stall s => s
  | .wait k s => (s.setStr w { s.str w with run := .waiting k }).iterate w rep task next
  | .over_ s => s

/-- An uncorrectable microword: a fault once, and the strider stalls until firmware has rewritten the word (R251). -/
def State.csStall (s : State) (w : StrId) (n : Nat) : State :=
  let x := s.pond w.pond.val
  let s := if x.csBad.contains n then s
    else (s.setPond w.pond.val { x with csBad := x.csBad ++ [n] }).pondRaise Flt.POND_CS_UE w.pond n 21 2 1
  s.setStr w { s.str w with run := .waiting .csWord }

/-- An instruction of R192 runs from vendor microcode: it may meet an error in one of its microwords (R251). -/
def State.micro (s : State) (w : StrId) (p : Pfx) (k : State → Res) : Res :=
  match p.err with
  | .csCe n => k (if n.val < 0x1800 then s.pondRaise Flt.POND_CS_CE w.pond n.val 21 2 1 else s)
  | .csUe n => if n.val < 0x1800 then .stall (s.csStall w n.val) else k s
  | _ => k s

/-- A parity error of the L1I (R273): the line leaves it, and is fetched from the L2 again. -/
def State.l1iParity (s : State) (w : StrId) : State :=
  let a := (s.str w).pc.toNat
  let x := s.pond w.pond.val
  if s.addrClass w a == .cached && (x.l1i.wayOf w.slot.val (a / 64)).isSome then
    (s.setPond w.pond.val { x with l1i := x.l1i.keep (fun k l => !(k == w.slot.val && l == a / 64)) }).pondRaise Flt.POND_L1_PAR w.pond a w.slot 2 0
  else s

/-- A persistent pipeline error retires the strider (R381); a retry that succeeds is counted (R380). -/
def State.pipeline (s : State) (w : StrId) (e : PipeErr) : Bool × State :=
  match e with
  | .none | .csCe _ | .csUe _ => (true, s)
  | .l1iPar => (true, s.l1iParity w)
  | .retried _ => (true, s.pondRaise Flt.POND_RETRY w.pond 0 w.slot 0 0)
  | .persistent =>
    let r := s.fld (POND_STAT.RETIRED w.pond)
    let s := if Nat.testBit r w.slot then s else s.setFld (POND_STAT.RETIRED w.pond) (r + 2 ^ w.slot.val)
    let s := s.pondRaise Flt.POND_STRIDER_RETIRED w.pond 0 w.slot 0 0
    (false, { s with due := s.due ++ [.striderRetired w.pond w.slot] })

/-- Is a strider retired by a persistent error although it executes nothing: it waits in its task (Table 07-19)? -/
def State.failsWaiting (s : State) (w : StrId) (p : Pfx) : Bool :=
  p.err == .persistent && (match (s.str w).run with
    | .waiting _ => true
    | _ => false)

/-- One instruction of a strider. `len` is its length, at most 15 bytes; `bad` says an operand or prefix is illegal (R187, R188); `body` is
its effect. Its fetch comes first (R201). With REP one iteration is made (R197); with RC 0 none is, and execution goes on at the next
instruction. -/
def State.instr (s : State) (w : StrId) (p : Pfx) (len : Nat) (bad : Bool) (body : State → Res) : State :=
  if !s.executes w then (if s.failsWaiting w p then (s.pipeline w p.err).2 else s)
  else if s.timeUp w then s.abandonTask w 1
  else
    let (ok, s) := s.pipeline w p.err
    if !ok then s
    else
      match s.fetch w (min len 15) with
      | (.wait, s) => s
      | (.trap c v, s) => s.takeTrap w c (BitVec.ofNat 64 v) (s.str w).pc false
      | (.ok, s) =>
        let t := s.str w
        let next := t.pc + BitVec.ofNat 64 len
        if bad || decide (15 < len) then s.takeTrap w Cause.illegal p.raw t.pc false
        else if p.rep && t.rc = 0 then s.complete w (!pswH t.psw) next
        else s.outcome w p.rep next (body s)

/-- Prefix legality of an instruction outside CX (Table 07-4, R198). -/
def badPfx (p : Pfx) (rep nt wide : Bool) : Bool := (p.rep && !rep) || (p.nt && !nt) || (p.wide && !wide)

/-- A waiting strider runs again: the time it waited is not run time (R214). -/
def State.resume (s : State) (w : StrId) : State :=
  let t := s.str w
  let k := match t.waitAt with
    | some a => (s.dt - a).toNat
    | none => 0
  s.setStr w { t with run := .running, waited := t.waited + k, waitAt := none, woken := false }

/-- The end of an output or of a wait that writes a result: Xd, and Z when it is refused (R208, R217). -/
def State.writeResult (s : State) (w : StrId) (d : RegNo) (v : Word) (z : Bool) : State :=
  let t := (s.str w).setX d v
  s.setStr w { t with psw := pswSetZ t.psw z }

/-- An output completes (R208): its ordinal is used. -/
def State.outputDone (s : State) (w : StrId) (d : RegNo) (v : Word) (refused : Bool) : State :=
  let s := s.writeResult w d v refused
  s.setStr w { s.str w with oord := (s.str w).oord + 1 }

end Sys2Proof.Machine
end

