-- ==== Sys2Proof/Machine/Conseq.lean ====
section
/-!
DEFINITION. What the loss of a unit brings with it (chapter 13): a strider retired (Table 13-6), a pond lost (Table 13-7), a
basin lost (Table 13-14), and the replays that follow (R392); a memory channel, tracker or angle port lost (Table 13-2); a
tier port down (R474, R476); and the failover of the service complex (R403).
-/

namespace Sys2Proof.Machine

/-- Active ponds of the device (R385): those of basins that are not fenced. -/
def State.devicePonds (s : State) : Nat :=
  (upTo 4).foldl (fun k b => if s.fencedBasin b then k else k + (s.activePonds b).length) 0

/-- Service firmware asks for a lower speed (R385): `before` and `after` count the device's active ponds. -/
def State.slowFor (s : State) (before after : Nat) : State :=
  if before = 0 then s else s.speedReq (s.fld WEIRG_SPDREQ.RATED) (s.speedNow * after / before).floor.toNat

/-- The unfinished tasks of a strider set that no replay awaits yet: neither pending nor ended. -/
def State.liveTasks (s : State) (b : Nat) (p : StrId → Bool) : List (BitVec 48) :=
  (s.basin b).jrn.filterMap (fun j =>
    if !j.pending && p j.phys && !(s.basin b).ends.any (fun e => e.1 == j.taskId) then some j.taskId else none)

/-- Halt a strider whose unit is lost (R216, R383): one that ended by abandonment is not replayed; its end message is kept. -/
def State.haltStr (s : State) (w : StrId) : State :=
  let t := s.str w
  let s := s.leaveWeir w
  let s := match t.run with
    | .waiting (.taskEnd _ reason _) =>
      if reason = 0 then s else s.endOrphan (basinOfStr w) (t.taskId.setWidth 48) reason
    | .waiting (.ending reason) =>
      ((s.taskRecord (basinOfStr w) reason (t.taskId.toNat % 2 ^ 48)).addSat TJ_REPLAY.ABANDONED 1).endOrphan (basinOfStr w)
        (t.taskId.setWidth 48) reason
    | _ => s
  match (s.str w).run with
  | .retired => s
  | _ => s.setStr w { StrSt.init with run := .halted, cmpBuf := t.cmpBuf, dmaBuf := t.dmaBuf }

/-- Fields that firmware copies to the tarn (Table 13-7 step 3). -/
def tarnFlds : List (Nat → Fld) :=
  [POND_CTL.TASK_MAX, POND_CTL.IE, POND_CTL.SPARE_EN, POND_CTL.EN, L2_CTL.WTHR, L2_CTL.AWD_EN, L2_CTL.EN, L2_WAYOFF.OFF,
   PM_CTL.CNT_EN, PM_CTL.HWIN_EN, PM_CTL.EN]

/-- The memories and engines of a pond hold nothing any more. -/
def State.emptyPond (s : State) (p : Nat) : State :=
  let x := s.pond p
  let s := s.setPond p { x with l2 := [], dma0 := [], dma1 := [], maint := none, l2Stop := false, stopping := false, pmStop := false,
                                wayBusy := [], l1d := L1.init, l1i := L1.init, l2Lru := [], march := none }
  { s with pm := s.pm.filter (fun c => c.1 / pmSize != p),
           pmPoison := s.pmPoison.filter (fun (e : Nat × Bool) => e.1 / (pmSize / 8) != p) }

/-- A pond is lost (R383, Table 13-7): its striders halt, its L2 is cleaned and invalidated or its lines declared lost (R337),
it is fenced, and the tarn takes its place if it is unused; else the basin runs with fewer ponds (R385). -/
def State.pondLost (s : State) (p : Fin 68) : State :=
  let b := basinOf p.val
  let role := s.fld (POND_STAT.ROLE p)
  if role = 2 ∨ s.fencedBasin b then s
  else
    let before := s.devicePonds
    let s := s.markBit (Flt.POND_POND_LOST p)
    let s := (pondStriders p).foldl (fun (s : State) w => (s.drainAll w).2.haltStr w) s
    let s := s.maintApply p 6 0
    let s := (s.pond p).l2.foldl (fun (s : State) e => s.loseLine b (Fin.ofNat 17 (p.val - 17 * b)) e.1) s
    let t := 17 * b + 16
    let taken := decide (p.val ≠ t) && s.fld (POND_STAT.ROLE t) == 1
    let desc := (s.pond p).desc
    let s := (s.fencePond p).emptyPond p
    let s := if role = 0 then
        if taken then
          let s := tarnFlds.foldl (fun s f => s.setFld (f t) (s.fld (f p))) s
          ((s.setPond t { s.pond t with desc := desc }).showDesc t).wakePond t
        else s.slowFor before s.devicePonds
      else s
    let s := { s with svc := { s.svc with tarnDue := s.svc.tarnDue.filter (fun (e : Nat × Word) => e.1 != p.val) ++ [(p.val, s.dt)] } }
    s.addRetired (.pond p.val)

/-- The tasks of a lost pond are replayed once its L2 is clean or declared lost (Table 13-7 step 4): a task whose journal entry
is poisoned is abandoned with JOURNAL_LOST (R391). -/
def State.replayOf (s : State) (b : Nat) (poisoned : List (BitVec 48)) (id : BitVec 48) : State :=
  if poisoned.contains id then
    let s := s.taskRecord b 5 id.toNat
    let s := (s.addSat TJ_REPLAY.ABANDONED 1).addSat JRN_LOST.TASK 1
    (s.endOrphan b id 5).raiseAt Flt.SVC_JRN_LOST 0 0 1
  else s.makePending b id

def State.tarnReplay (s : State) (p : Fin 68) (poisoned : List (BitVec 48)) : State :=
  if s.svc.tarnDue.any (fun (e : Nat × Word) => e.1 == p.val) then
    let b := basinOf p.val
    let s := { s with svc := { s.svc with tarnDue := s.svc.tarnDue.filter (fun (e : Nat × Word) => e.1 != p.val) } }
    (s.liveTasks b (fun w => w.pond == p)).foldl (fun (s : State) id => s.replayOf b poisoned id) s
  else s

/-- A strider is retired (R382, Table 13-6): at most the entries that can be performed leave its buffers, how many is free;
the spare slot takes over with the retired slot's region descriptors and its task, or the pond is lost. -/
def State.striderRetired (s : State) (p : Fin 68) (slot : Fin 17) : State :=
  let w : StrId := ⟨p, slot⟩
  let b := basinOf p.val
  let t := s.str w
  if t.run = .retired ∨ s.fld (POND_STAT.ROLE p) ≠ 0 then s
  else
    let (n, s) := s.fresh
    let s := (drainSb w (Config.free n) s).2
    let s := if (s.str w).sb = [] then (drainCb w (Config.free (n + 1)) s).2 else s
    let live := s.liveTasks b (fun v => v == w)
    let s := s.haltStr w
    let usable := decide (slot.val < 16) && s.bit (POND_CTL.SPARE_EN p) && s.spareUnused p
    let s := s.retireSlot p slot
    let s := s.setStr w { StrSt.init with run := .retired }
    let s := s.addRetired (.slot p.val slot.val)
    if usable then
      let x := s.pond p
      let s := s.setPond p { x with desc := (upTo 8).foldl (fun t k =>
        let d := s.pmDesc p slot k
        Tab.set descReset t (8 * 16 + k) d) x.desc }
      let s := s.showDesc p.val
      let spare : StrId := ⟨p, 16⟩
      live.foldl (fun (s : State) id =>
        let s := s.makePending b id
        match s.jrnOf b id with
        | some j => if j.pending && (s.str spare).run == .idle && !(s.basin b).ends.any (fun e => e.1 == id) then s.startReplay spare j else s
        | none => s) s
    else s.pondLost p

/-! ### Basin loss (Table 13-14) -/

/-- The regions that a lost basin owned are bound to its adoptive basin (Table 13-14 step 3). -/
def State.rebindAll (s : State) (b b' : Nat) : State :=
  (upTo 64).foldl (fun s i =>
    let r := s.region i
    if r.valid && !r.shared && r.cache && r.owner.toNat == b then s.setRegion i { r with owner := BitVec.ofNat 2 b' } else s) s

/-- The largest size code up to `k` with which the entries of basin `b`'s queues stay within 8,192 (R343). -/
def State.fittingSize (s : State) (b q : Nat) : Nat → Option Nat
  | 0 => if s.queueEntries b q 0 ≤ 8192 then some 0 else none
  | k + 1 => if s.queueEntries b q (k + 1) ≤ 8192 then some (k + 1) else s.fittingSize b q k

/-- Queue `q` of the adoptive basin is enabled if it was disabled (Table 13-14 step 3). -/
def State.adoptQueue (s : State) (b b' q : Nat) : State :=
  let x := s.queue b q
  let y := s.queue b' q
  if x.qen && !y.qen then
    match s.fittingSize b' q x.size.toNat with
    | some k => s.setQueue b' q { y with qen := true, prio := x.prio, mode := x.mode, size := BitVec.ofNat 3 k }
    | none => s
  else s

/-- A basin is lost (R340, R394, Table 13-14 steps 1 to 3). -/
def State.basinLost (s : State) (b : Fin 4) : State :=
  if s.fencedBasin b then s
  else
    let before := s.devicePonds
    let ponds := (List.finRange 68).filter (fun p => basinOf p.val == b.val)
    let s := s.setFld (BASIN_STAT.STATE b) 3
    let s := ponds.foldl (fun (s : State) p => ((pondStriders p).foldl State.haltStr s).emptyPond p) s
    let x := s.basin b
    let s := s.setBasin b { x with home := [], flights := [], nacked := [], stopping := false, lostAt := some s.dt }
    let s := { s with svc := { s.svc with tarnDue := s.svc.tarnDue.filter (fun (e : Nat × Word) => basinOf e.1 != b.val) } }
    let s := s.slowFor before s.devicePonds
    match s.adoptive b with
    | none => s
    | some b' => (upTo 64).foldl (fun s q => s.adoptQueue b b' q) (s.rebindAll b b')

/-- A task of a lost basin goes on in the adoptive one: its pin is dropped (Table 13-12). -/
def moveTask (j : TaskJrn) : TaskJrn :=
  { j with pending := true, desc := patch j.desc 7 [BitVec.ofNat 8 (leAt j.desc 7 1 - leAt j.desc 7 1 / 2 % 2 * 2)] }

/-- Re-post the journalled entries of a lost basin's queue in their order while the adoptive queue takes them (Table 13-14
step 4): in a queue of the other mode they are dropped, and the answer counts them. -/
def State.repost (b b' q : Nat) : Nat → State → Nat × State
  | 0, s => (0, s)
  | n + 1, s =>
    let x := s.queue b q
    match x.entries with
    | [] => (0, s)
    | e :: rest =>
      if e.taken.isSome then State.repost b b' q n (s.setQueue b q { x with entries := rest })
      else
        let y := s.queue b' q
        if !y.qen || y.mode != x.mode then
          let (k, s) := State.repost b b' q n (s.setQueue b q { x with entries := rest })
          (k + 1, s)
        else if y.capacity ≤ y.entries.length then (0, s)
        else State.repost b b' q n ((s.setQueue b q { x with entries := rest }).enqueue b' q e.bytes)

/-- Re-post what a lost basin's queues still hold; entries that no queue of the same mode takes are dropped. -/
def State.repostAll (s : State) (b : Nat) : State :=
  match s.adoptive b with
  | none => s
  | some b' =>
    let (k, s) := (upTo 64).foldl (fun (a : Nat × State) q =>
      let n := (a.2.queue b q).entries.length
      if n = 0 then a
      else
        let (k, s) := State.repost b b' q n a.2
        (a.1 + k, s)) (0, s)
    if k = 0 then s else s.raiseAt Flt.SVC_QUEUE_DROP 0 0 k

/-- BASIN_REPLAY (R394, Table 13-14 step 4): the unfinished tasks are replayed in the adoptive basin, those with a poisoned
journal entry abandoned (R391), then the queue journal is re-posted. -/
def State.basinReplay (s : State) (b : Nat) (poisoned : List (BitVec 48)) : State :=
  match (s.basin b).lostAt, s.adoptive b with
  | some _, some b' =>
    if !s.fencedBasin b then s
    else
      let x := s.basin b
      let s := s.setBasin b { x with jrn := [], ends := [], lostAt := none }
      let y := s.basin b'
      let s := s.setBasin b' { y with jrn := y.jrn ++ x.jrn.map (fun j => if x.ends.any (fun e => e.1 == j.taskId) then j else moveTask j),
                                      ends := y.ends ++ x.ends }
      let s := x.jrn.foldl (fun (s : State) j =>
        if x.ends.any (fun e => e.1 == j.taskId) then s else s.replayOf b' poisoned j.taskId) s
      s.repostAll b
  | _, _ => s

/-! ### Other units -/

/-- A memory channel goes DOWN (R368, Table 12-10); with MC0 and MC1 both DOWN the safe state follows (R396). -/
def State.mcDown (s : State) (c : Nat) : State :=
  let s := s.markBit (Flt.MC_CH_DOWN c)
  let x := s.mc c
  let s := s.setMc c { x with mig := none, spareReq := false, stopping := false }
  let s := s.setFld (MC_STAT.STATE c) 5
  if c ≤ 1 ∧ s.fld (MC_STAT.STATE 0) = 5 ∧ s.fld (MC_STAT.STATE 1) = 5 then { s with due := s.due ++ [.safe 6 0xF 0] } else s

/-- An angle port is lost: every tracker that takes it is lost (Table 13-2). -/
def State.portLost (s : State) (m : Nat) : State :=
  (upTo 16).foldl (fun s n => if s.bit (AX_CTL.EN n) && s.fld (AX_CTL.SRCT n) == 0 && s.fld (AX_CTL.SRCI n) == m then s.axisLost n else s) s

/-- Worker numbers behind a downstream port of the manager (Table 16-1). -/
def behind (t : Nat) : List Nat := (1 + t) :: ((upTo 7).map (fun u => 9 + 7 * t + u)).filter (fun d => decide (d ≤ 63))

/-- The record of a worker as the manager knows it. -/
def Worker.init : Worker :=
  { present := false, asleep := false, ready := false, safe := false, lost := false, port := 0, summary := none, failed := 0 }

def State.worker (s : State) (d : Nat) : Worker := Tab.get (fun _ => Worker.init) s.tree.workers d

def State.setWorker (s : State) (d : Nat) (v : Worker) : State :=
  { s with tree := { s.tree with workers := Tab.set (fun _ => Worker.init) s.tree.workers d v } }

/-- Service firmware gives a device a route through a port, or takes its route away (R468): one commit of the routing group. -/
def State.setRoute (s : State) (d : Nat) (t : Option Nat) : State :=
  let f (p : Nat) : Fld := if d < 32 then TIER_ROUTE_LO.ROUTE p else TIER_ROUTE_HI.ROUTE p
  let s := (upTo 8).foldl (fun s p =>
    let v := s.nextVal (f p)
    let on := Nat.testBit v (d % 32)
    let want := t == some p
    if on == want then s else s.stage (f p) (some (if want then v + 2 ^ (d % 32) else v - 2 ^ (d % 32)))) s
  if s.routesStaged then s.routeCommit else s

/-- A notice that the manager writes about another device (R454, R474, R477). -/
def State.noticeFor (s : State) (dev inst detail : Nat) : State :=
  let (r, s) := s.numberRecord { dt := s.dt, device := dev, block := 0x20, inst := inst, bit := 0xFF, cls := 0, final := 0,
                                 esc := false, ovf := false, rseq := 0, addr := 0, info := 0, detail := detail }
  let s := { s with svc := { s.svc with kept := (r :: s.svc.kept).take 4096 } }
  s.logBytes r.bytes

/-- A worker is lost (R474): it leaves the topology and the route masks, its outstanding commands complete FAULTED with
WORKER_LOST, the ATX open at its last summary are counted as FAILED with reason 0x34 (R25, R475), and notice 5 reports that count. -/
def State.workerLost (s : State) (d : Nat) : State :=
  let w := s.worker d
  if !w.present then s
  else
    let opened := match w.summary with
      | some b => leAt b 12 4
      | none => 0
    let s := s.setWorker d { w with present := false, ready := false, lost := true, failed := opened }
    let s := s.setRoute d none
    let s := s.host.accepted.foldl (fun (s : State) c =>
      let c := s.cmdNow c
      if c.devices.contains d then (s.cmdAnswered c d).postFinal c d 0x0040 0x0003 [] else s) s
    s.noticeFor d 5 opened

def State.workersLost (s : State) (ds : List Nat) : State := ds.foldl State.workerLost s

end Sys2Proof.Machine
end

