-- ==== Sys2Proof/Machine/StrOut.lean ====
section
/-!
DEFINITION. The outputs of a task, EMIT, POST and COMMIT (R208 to R211, R88 to R90, R390), RECV (R209), the waits (R217 to
R222) and TASKEND (R212): what each does when it is issued, and how a waiting one ends.
-/

namespace Sys2Proof.Machine

/-- The task a strider runs. -/
def StrSt.task (t : StrSt) : BitVec 48 := t.taskId.setWidth 48

/-- A trap or a stall of a memory access as an instruction's outcome; `k` goes on with the bytes loaded. -/
def MemRes.andThen (r : MemRes × State) (k : List Byte → State → Res) : Res :=
  match r with
  | (.ok b, s) => k b s
  | (.wait, s) => .stall s
  | (.trap c v, s) => .trap c (BitVec.ofNat 64 v) false s

/-- Read the buffer of an output (R191, R208, R316): 8-byte alignment; every older store of both buffers is performed first. -/
def State.readBuffer (s : State) (w : StrId) (a n : Nat) (k : List Byte → State → Res) : Res :=
  if a % 8 ≠ 0 then .trap Cause.align (BitVec.ofNat 64 a) false s
  else
    match s.drainAll w with
    | (true, s) => MemRes.andThen (s.load w a n false) k
    | (false, s) => .stall s

/-- An output whose ordinal would be 0xFFFF_FFFF raises ORDINAL (R211); a duplicate completes with the recorded result (R388). -/
def State.output (s : State) (w : StrId) (f : FmtB) (n : Nat) (k : List Byte → State → Res) : Res :=
  let t := s.str w
  if t.oord = 0xFFFFFFFF then .trap Cause.ordinal (t.oord.setWidth 64) false s
  else s.readBuffer w (t.xr f.a).toNat n (fun b s =>
    match s.duplicate (basinOfStr w) t.task t.oord with
    | (some v, s) => .next (s.outputDone w f.d v false)
    | (none, s) => k b s)

/-- A receiver accepts an output: an output-log record is written and the output completes (R388, R208). -/
def State.accepted (s : State) (w : StrId) (d : RegNo) (kind : Nat) (v : Word) : State :=
  let t := s.str w
  (s.logOutput (basinOfStr w) t.task t.oord kind v).outputDone w d v false

/-! ### EMIT (R88, R89) -/

/-- A weir accepts an ATX and the EMIT completes. -/
def State.emitAccept (s : State) (w : StrId) (n : Nat) (a : Atx) (adtLow : Word) (d : RegNo) : State :=
  let t := s.str w
  (s.acceptAtx n a adtLow t.task t.oord).accepted w d 1 0

def State.emitIssue (s : State) (w : StrId) (f : FmtB) : Res :=
  s.output w f 32 (fun b s =>
    let a := atxOf b
    let front := s.frontRefusal a
    if front ≠ 0 then .next ((s.setFld WEIRG_STAT.LAST_REFUSE front).outputDone w f.d (BitVec.ofNat 64 front) true)
    else
      let e := s.adtE a.actIdx.toNat
      let n := getE e ADT.CHAN
      let low : Word := e.setWidth 64
      let code := s.weirRefusal n a low
      if code ≠ 0 then .next ((s.weirRefused n code).outputDone w f.d (BitVec.ofNat 64 code) true)
      else
        let x := s.weir n
        if s.waitRefusal n = 0 ∧ x.waiters = [] then .next (s.emitAccept w n a low f.d)
        else
          .wait (.emit a n low s.dt (if s.waitRefusal n = 0 then 1 else s.waitRefusal n) f.d) (s.setWeir n { x with waiters := x.waiters ++ [w] }))

/-- A waiting EMIT ends: it leaves its weir's list and the strider goes on. -/
def State.emitLeaves (s : State) (w : StrId) : State := (s.leaveWeir w).resume w

/-- Refuse a waiting EMIT with a code of its weir. -/
def State.emitRefuse (s : State) (w : StrId) (n code : Nat) (d : RegNo) : State :=
  ((s.emitLeaves w).weirRefused n code).outputDone w d (BitVec.ofNat 64 code) true

/-- Checks 4 to 8 of a waiting EMIT are repeated (R89); the check of 9 and 10 that failed last is remembered. -/
def State.emitRecheck (s : State) (w : StrId) : State :=
  match (s.str w).run with
  | .waiting (.emit a n low since code d) =>
    let bad := s.weirRefusal n a low
    if bad ≠ 0 then s.emitRefuse w n bad d
    else
      let c := s.waitRefusal n
      if c = 0 ∨ c = code then s else s.setStr w { s.str w with run := .waiting (.emit a n low since c d) }
  | _ => s

/-- The oldest waiting EMIT of a weir is accepted when checks 9 and 10 both pass (R89). -/
def State.emitServe (s : State) (n : Nat) : State :=
  match (s.weir n).waiters with
  | [] => s
  | w :: _ =>
    match (s.str w).run with
    | .waiting (.emit a m low _ _ d) =>
      if s.weirRefusal m a low = 0 ∧ s.waitRefusal m = 0 then (s.emitLeaves w).emitAccept w m a low d else s.emitRecheck w
    | _ => s

/-- EMIT_WAIT_MAX units of 10 ns, 30 ticks each, after its arrival a waiting EMIT is refused with the check that failed last (R89). -/
def State.emitTimeout (s : State) (w : StrId) : State :=
  match (s.str w).run with
  | .waiting (.emit _ n _ since code d) =>
    if elapsed s.dt since (30 * s.fld WEIRG_EMITWAIT.EMIT_WAIT_MAX) then s.emitRefuse w n code d else s
  | _ => s

/-! ### POST (R208) -/

/-- The check of a task's POST: with the output log at its reserve a MSG queue takes nothing (R386). -/
def State.taskPostCheck (s : State) (b q : Nat) (bytes : List Byte) : PostRes :=
  match s.postCheck b q bytes false with
  | .ok => if s.olReserve && !(s.queue b q).mode then .full else .ok
  | r => r

/-- Basin and queue of a POST's Xb, with the message network's redirection (Table 13-14). -/
def State.postTarget (s : State) (x : Word) : Nat × Nat := (s.deliverTo (x.toNat / 64 % 4), x.toNat % 64)

def State.postRefuse (s : State) (w : StrId) (b q : Nat) (code : Nat) (d : RegNo) : State :=
  (s.countRefused b q).outputDone w d (BitVec.ofNat 64 code) true

def State.postIssue (s : State) (w : StrId) (f : FmtB) : Res :=
  s.output w f 64 (fun b s =>
    let x := (s.str w).xr f.b
    if x.toNat / 256 ≠ 0 then .next (s.outputDone w f.d 2 true)
    else
      let (tb, q) := s.postTarget x
      match s.taskPostCheck tb q b with
      | .ok => .next ((s.enqueue tb q b).accepted w f.d 2 0)
      | .full => .wait (.post (x.toNat % 256) b s.dt f.d) s
      | r => .next (s.postRefuse w tb q r.code f.d))

/-- A waiting POST is tried again: it completes, is refused, or goes on waiting; `late` says that its 2 µs have passed. -/
def State.postRetry (s : State) (w : StrId) (late : Bool) : State :=
  match (s.str w).run with
  | .waiting (.post x bytes _ d) =>
    let (b, q) := s.postTarget (BitVec.ofNat 64 x)
    match s.taskPostCheck b q bytes with
    | .ok => ((s.enqueue b q bytes).resume w).accepted w d 2 0
    | .full => if late then (s.resume w).postRefuse w b q 1 d else s
    | r => (s.resume w).postRefuse w b q r.code d
  | _ => s

def State.postTimeout (s : State) (w : StrId) : State :=
  match (s.str w).run with
  | .waiting (.post _ _ since _) => if elapsed s.dt since (usTicks 2) then s.postRetry w true else s
  | _ => s

/-! ### COMMIT (R390) -/

/-- The state page header of an address (Table 13-10), if the page is one: a valid STRONG region, `SPMAGIC` and `SPFMT` 1. -/
def State.pageHeader (s : State) (w : StrId) (a : Nat) : Option (List Byte) :=
  if a % 64 ≠ 0 ∨ a % 4096 = 0 ∨ 2 ^ 41 ≤ a then none
  else match s.regionAt a with
    | none => none
    | some (_, r) =>
      if !r.code || s.addrClass w a == .bad then none
      else
        let h := (s.masterRead none (a / 4096 * 64) (basinOf w.pond.val)).1
        match h with
        | none => none
        | some (b, poison) => if leAt b 0 4 = 0x53500001 ∧ leAt b 4 2 = 1 ∧ poison &&& 0x1F = 0 then some b else none

/-- The header after a COMMIT. -/
def headerAfter (h : List Byte) (task : BitVec 48) (ord : Word32) (line : Nat) (dt : Word) : List Byte :=
  slice h 0 8 ++ leBytes 8 (leAt h 8 8 + 1) ++ leBytes 6 task.toNat ++ zeros 2 ++ leBytes 4 ord.toNat ++ leBytes 4 line ++ leBytes 8 dt.toNat ++
  zeros 24

/-- One block write of a COMMIT: the L2s of the basin, or the issuing pond's, lose the line. -/
def State.commitWrite (s : State) (w : StrId) (a : Nat) (b : List Byte) : Bool × State :=
  s.performNt w { addr := a, data := b.map some, dev := false }

/-- Apply a COMMIT with its source bytes (R390). -/
def State.commitApply (s : State) (w : StrId) (dst : Nat) (bytes : List Byte) (d : RegNo) : Res :=
  match s.pageHeader w dst with
  | none => .next (s.outputDone w d 1 true)
  | some h =>
    if s.olReserve then .next (s.outputDone w d 2 true)
    else
      let t := s.str w
      match s.commitWrite w dst bytes with
      | (false, s) => .stall s
      | (true, s) =>
        let h' := headerAfter h t.task t.oord (dst % 4096 / 64) s.dt
        match s.commitWrite w (dst / 4096 * 4096) h' with
        | (false, s) => .stall s
        | (true, s) => .next (s.accepted w d 3 (BitVec.ofNat 64 (leAt h' 8 8)))

/-- COMMIT: `busy` says that another COMMIT holds the page. -/
def State.commitIssue (s : State) (w : StrId) (f : FmtB) (busy : Bool) : Res :=
  s.output w f 64 (fun b s =>
    let src := (s.str w).xr f.a
    let dst := (s.str w).xr f.b
    match s.pageHeader w dst.toNat with
    | none => .next (s.outputDone w f.d 1 true)
    | some _ =>
      if s.olReserve then .next (s.outputDone w f.d 2 true)
      else if busy then .wait (.commit src dst s.dt f.d) s
      else s.commitApply w dst.toNat b f.d)

/-- The page is free: a waiting COMMIT goes on. -/
def State.commitResume (s : State) (w : StrId) : State :=
  match (s.str w).run with
  | .waiting (.commit src dst _ d) =>
    match s.load w src.toNat 64 false with
    | (.ok b, s) =>
      match s.commitApply w dst.toNat b d with
      | .next s => s.resume w
      | .stall s => s
      | _ => s
    | (_, s) => s
  | _ => s

/-- After 2 µs a COMMIT that still finds the page held is refused BUSY. -/
def State.commitTimeout (s : State) (w : StrId) : State :=
  match (s.str w).run with
  | .waiting (.commit _ _ since d) =>
    if elapsed s.dt since (usTicks 2) then (s.resume w).outputDone w d 3 true else s
  | _ => s

/-! ### RECV (R209) -/

/-- The oldest untaken entry of a queue, with its place. -/
def firstUntaken : Nat → List QEntry → Option (Nat × QEntry)
  | _, [] => none
  | k, e :: t => if e.taken.isNone then some (k, e) else firstUntaken (k + 1) t

/-- Does a selector name an enabled MSG queue of the strider's own basin? -/
def State.ownQueue (s : State) (w : StrId) (x : Nat) : Bool :=
  let q := s.queue (basinOfStr w) (x % 64)
  decide (x / 64 = basinOfStr w) && q.qen && !q.mode

/-- Store the entry into the buffer, and take it with `take`. -/
def State.recvInto (s : State) (w : StrId) (f : FmtB) (bytes : List Byte) (take : State → State) : Res :=
  let a := ((s.str w).xr f.a).toNat
  if a % 8 ≠ 0 then .trap Cause.align (BitVec.ofNat 64 a) false s
  else
    match s.store w a bytes false false with
    | (.done _, s) => .next ((take s).writeResult w f.d 0 false)
    | (.wait, s) => .stall s
    | (.trap c v, s) => .trap c (BitVec.ofNat 64 v) false s

def State.recvIssue (s : State) (w : StrId) (f : FmtB) : Res :=
  let b := basinOfStr w
  let x := ((s.str w).xr f.b).toNat
  let id := (s.str w).task
  if !s.ownQueue w x then .next (s.writeResult w f.d 2 true)
  else
    let q := x % 64
    let held := (s.taskOf w).bind (fun j => (j.recv[j.returned]?).bind (fun e => if e.1 = q then some e.2 else none))
    match held with
    | some bytes => s.recvInto w f bytes (fun s => s.updJrn b id (fun j => { j with returned := j.returned + 1 }))
    | none =>
      match firstUntaken 0 (s.queue b q).entries with
      | none => .next (s.writeResult w f.d 1 true)
      | some (k, e) =>
        s.recvInto w f e.bytes (fun s =>
          let y := s.queue b q
          let s := s.setQueue b q { y with entries := y.entries.set k { e with taken := some id } }
          s.updJrn b id (fun j => { j with recv := j.recv ++ [(q, e.bytes)], returned := j.returned + 1 }))

/-! ### Waits (R217 to R222) -/

/-- Every wait first drains both buffers (R217). -/
def State.afterDrain (s : State) (w : StrId) (k : State → Res) : Res :=
  match s.drainAll w with
  | (true, s) => k s
  | (false, s) => .stall s

/-- The wait begins: its time is not run time (R214). -/
def State.beginWait (s : State) (w : StrId) (k : Wait) : Res :=
  .wait k (s.setStr w { s.str w with waitAt := some s.dt })

/-- A wait that ends at issue. -/
def State.waitNow (s : State) (w : StrId) (d : RegNo) (code : Nat) : Res :=
  .next (s.writeResult w d (BitVec.ofNat 64 code) (code != 0))

/-- Is MA at or ahead of a target (R64, R218)? -/
def State.maReached (s : State) (n : Nat) (target : Word) : Bool :=
  decide (0 ≤ (ma64 (s.maNow n (plc s.dt 0)) - target).toInt)

/-- Is a tracker DISABLED or LOST? -/
def State.axisGone (s : State) (n : Nat) : Bool := s.fld (AX_STAT.STATE n) == 0 || s.fld (AX_STAT.STATE n) == 4

/-- Does a tracker track, so that a wait on it can complete (R218)? -/
def State.axisTracks (s : State) (n : Nat) : Bool := s.fld (AX_STAT.STATE n) == 2

def deadlinePassed (now deadline : Word) : Bool := deadline != 0 && dtGe now deadline

def State.waitaIssue (s : State) (w : StrId) (f : FmtC) : Res :=
  s.afterDrain w (fun s =>
    let t := s.str w
    let a := (t.xr f.a).toNat
    let target := t.xr f.b
    let deadline := t.xr f.c
    if 16 ≤ a then s.waitNow w f.d 3
    else if s.axisGone a then s.waitNow w f.d 2
    else if s.axisTracks a && s.maReached a target then s.waitNow w f.d 0
    else if deadlinePassed s.dt deadline then s.waitNow w f.d 1
    else s.beginWait w (.waita a target deadline f.d))

def State.waittIssue (s : State) (w : StrId) (f : FmtB) : Res :=
  s.afterDrain w (fun s =>
    let target := (s.str w).xr f.a
    if dtGe s.dt target then s.waitNow w f.d 0 else s.beginWait w (.waitt target f.d))

/-- A WAITQ selector (R220): a queue, an event, or undefined. -/
inductive QSel where
  | queue (q : Nat)
  | event (e : Nat)
  | bad
  deriving DecidableEq, Repr

def State.qsel (s : State) (w : StrId) (x : Nat) : QSel :=
  if x < 256 then (if s.ownQueue w x then .queue (x % 64) else .bad)
  else if x - 256 < 4 then .event (x - 256)
  else .bad

/-- Has the awaited entry or event come? -/
def State.qselReady (s : State) (w : StrId) (k : QSel) : Bool :=
  match k with
  | .queue q => (firstUntaken 0 (s.queue (basinOfStr w) q).entries).isSome
  | .event e => (s.str w).evlatch.getLsbD e
  | .bad => false

/-- WAITQ clears the latch bit as it completes (R220). -/
def State.takeEvent (s : State) (w : StrId) (k : QSel) : State :=
  match k with
  | .event e =>
    let t := s.str w
    s.setStr w { t with evlatch := t.evlatch &&& ~~~(BitVec.ofNat 32 (2 ^ e)) }
  | _ => s

def State.waitqIssue (s : State) (w : StrId) (f : FmtB) : Res :=
  s.afterDrain w (fun s =>
    let t := s.str w
    let sel := t.xr f.a
    let deadline := t.xr f.b
    let k := s.qsel w sel.toNat
    if k = .bad then s.waitNow w f.d 3
    else if s.qselReady w k then (s.takeEvent w k).waitNow w f.d 0
    else if deadlinePassed s.dt deadline then s.waitNow w f.d 1
    else s.beginWait w (.waitq sel deadline f.d))

def State.sleepIssue (s : State) (w : StrId) (f : FmtA) : Res :=
  s.afterDrain w (fun s =>
    let wake := (s.str w).xr f.r
    if deadlinePassed s.dt wake || (s.str w).evlatch != 0 then .next s else s.beginWait w (.sleep wake))

/-- A wait ends with a code; the pond wakes if it was power-gated (R223). -/
def State.endWait (s : State) (w : StrId) (d : RegNo) (code : Nat) : State :=
  ((s.napEnd.wakePond w.pond).resume w).writeResult w d (BitVec.ofNat 64 code) (code != 0)

/-- The code that a WAITA of a tracker no longer tracking ends with (R218): a target reached in the update that lost it gives 0 (Table
07-19). -/
def State.goneCode (s : State) (a : Nat) (target : Word) : Nat :=
  if s.fld (AX_STAT.STATE a) = 4 ∧ s.maReached a target then 0 else 2

/-- May a waiting strider complete: its basin's clock runs or can be started (D-NAP ends for a wake, R487)? -/
def State.canWake (s : State) (w : StrId) : Bool := s.eclkOn (basinOfStr w) || s.napping

/-- A WAITA ends (R218). -/
def State.waitaEnd (s : State) (w : StrId) : State :=
  match (s.str w).run with
  | .waiting (.waita a target _ d) =>
    if !s.canWake w then s
    else if s.axisGone a then s.endWait w d (s.goneCode a target)
    else if s.axisTracks a && s.maReached a target then s.endWait w d 0
    else s
  | _ => s

def State.waittEnd (s : State) (w : StrId) : State :=
  match (s.str w).run with
  | .waiting (.waitt target d) => if s.canWake w && dtGe s.dt target then s.endWait w d 0 else s
  | _ => s

/-- A WAITQ ends (R220): an entry that came wakes every strider that waits for it (Table 07-19). -/
def State.waitqEnd (s : State) (w : StrId) : State :=
  match (s.str w).run with
  | .waiting (.waitq sel _ d) =>
    let k := s.qsel w sel.toNat
    if !s.canWake w then s
    else if (s.str w).woken then s.endWait w d 0
    else if k = .bad then s.endWait w d 3
    else if s.qselReady w k then (s.takeEvent w k).endWait w d 0
    else s
  | _ => s

def State.sleepEnd (s : State) (w : StrId) : State :=
  match (s.str w).run with
  | .waiting (.sleep wake) =>
    if s.canWake w && (deadlinePassed s.dt wake || (s.str w).evlatch != 0) then (s.napEnd.wakePond w.pond).resume w else s
  | _ => s

/-- A deadline passes first (R217): a target or event reached at the same DT wins (Table 07-19). -/
def State.waitLate (s : State) (w : StrId) : State :=
  match (s.str w).run with
  | .waiting (.waita a target deadline d) =>
    if !(s.canWake w && deadlinePassed s.dt deadline) then s
    else if s.axisGone a then s.endWait w d (s.goneCode a target)
    else if s.axisTracks a && s.maReached a target then s.endWait w d 0
    else s.endWait w d 1
  | .waiting (.waitq sel deadline d) =>
    let k := s.qsel w sel.toNat
    if !(s.canWake w && deadlinePassed s.dt deadline) then s
    else if (s.str w).woken then s.endWait w d 0
    else if s.qselReady w k then (s.takeEvent w k).endWait w d 0
    else s.endWait w d 1
  | _ => s

/-! ### TASKEND (R212) -/

def State.taskendIssue (s : State) (w : StrId) (f : FmtA) : Res :=
  s.afterDrain w (fun s =>
    let t := s.str w
    .over_ ((s.setStr w { t with psw := pswSetLd t.psw 0 }).endTask w 0 ((t.xr f.r).setWidth 16)))

/-- A refused end message is tried again 1 µs after it was refused last (R212), those of tasks without a strider with it. -/
def State.endRetry (s : State) (w : StrId) : State :=
  let s := s.retryEnds (basinOfStr w)
  match (s.str w).run with
  | .waiting (.taskEnd code reason since) => if elapsed s.dt since (usTicks 1) then s.endTask w reason code else s
  | _ => s

end Sys2Proof.Machine
end

