-- ==== Sys2Proof/Machine/Safe.lean ====
section
/-!
DEFINITION. The safe state (Table 13-15), the tail report (R399, R400, R472), a tier port down (R474, R476), the failover of the
service complex (R403), and the resets ordered from inside (R492).
-/

namespace Sys2Proof.Machine

/-! ### The tail report (Table 13-17) -/

/-- Open transactions of a channel that are launched and not final. -/
def WeirSt.flying (w : WeirSt) : List XRec := w.recs.filter (fun r => r.state.flying)

/-- The least XID among open transactions; 0 when none has one. -/
def lowestXid (l : List XRec) : Nat :=
  match l.filterMap (fun r => r.xid.map BitVec.toNat) with
  | [] => 0
  | x :: xs => xs.foldl min x

/-- A channel summary of the tail report. -/
def State.tailChannel (s : State) (n : Nat) : List Byte :=
  let w := s.weir n
  leBytes 1 n ++ leBytes 1 (s.fcState n) ++ zeros 2 ++ leBytes 4 (s.armedCount n) ++ leBytes 4 w.flying.length ++
  leBytes 4 (lowestXid (w.recs.filter (fun r => !r.state.final))) ++ leBytes 4 w.lastXid.toNat ++ leBytes 8 w.lastDs.toNat ++ zeros 4

/-- The state code of a detail record. -/
def XState.detail (x : XState) : Nat :=
  match x with
  | .launched => 1
  | .delivered => 2
  | .unconfirmed => 3
  | .reissue => 4
  | _ => 0

/-- A detail record of the tail report. -/
def XRec.detail (r : XRec) (n : Nat) : List Byte :=
  leBytes 4 ((r.xid.map BitVec.toNat).getD 0) ++ leBytes 4 r.atx.seq.toNat ++
  leBytes 4 (r.atx.actIdx.toNat + 2 ^ 17 * n + 2 ^ 24 * r.state.detail) ++ leBytes 4 (r.ds.tick.toNat % 2 ^ 32)

/-- Transactions of the device that are not final. -/
def State.openCount (s : State) : Nat :=
  (upTo 96).foldl (fun k n => k + ((s.weir n).recs.filter (fun r => !r.state.final)).length) 0

/-- The header of a tail report. -/
def State.tailHeader (s : State) (flags len : Nat) (pfw : Word) (nd opened : Nat) : List Byte :=
  leBytes 1 1 ++ leBytes 1 s.tree.num ++ leBytes 2 flags ++ leBytes 4 len ++ leBytes 8 pfw.toNat ++
  leBytes 8 ((s.svc.firstSafe).getD (s.pair SVC_SAFE_DT_LO.DT SVC_SAFE_DT_HI.DT)).toNat ++
  leBytes 8 (s.pair WEIRG_ACC_LO.ACCEPTED WEIRG_ACC_HI.ACCEPTED).toNat ++
  leBytes 8 (s.pair WEIRG_VER_LO.VERIFIED WEIRG_VER_HI.VERIFIED).toNat ++
  leBytes 8 (s.pair WEIRG_BAD_LO.NOT_OK WEIRG_BAD_HI.NOT_OK).toNat ++ leBytes 4 opened ++ leBytes 4 nd ++ zeros 8

/-- A whole tail report from the weirs' records as they stand, with `COMPLETE` 0. `before` is FLAGS bit 2. -/
def State.tailReport (s : State) (pfw : Word) (before : Bool) : List Byte :=
  let all := (upTo 96).flatMap (fun n => (s.weir n).flying.map (fun r => r.detail n))
  let det := all.take 3900
  let flags := (if 3900 < all.length then 2 else 0) + (if before then 4 else 0)
  s.tailHeader flags (3136 + 16 * det.length) pfw det.length s.openCount ++ (upTo 96).flatMap s.tailChannel ++ det.flatten

/-- Was a report truncated? -/
def tailTrunc (r : List Byte) : Bool := leAt r 2 1 / 2 % 2 == 1

/-- A report cut to more than the detail holds sets TAIL_TRUNC (R400). -/
def State.tailChecked (s : State) (r : List Byte) : State := if tailTrunc r then s.raise Flt.SVC_TAIL_TRUNC else s

/-- The tail buffer of the host, if it is set up (R399). -/
def State.tailBase (s : State) : Option Nat :=
  let a := (s.pair TAIL_BASE_LO.BASE TAIL_BASE_HI.BASE).toNat / 65536 * 65536
  if s.bit TAIL_CTL.EN && a != 0 then some a else none

/-- The mandatory part of a report: header with `COMPLETE` 0 and the channel summaries. -/
def mandatory (r : List Byte) : List Byte := patch (r.take 3136) 4 (leBytes 4 3136)

/-- A report with `COMPLETE` 1. -/
def completed (r : List Byte) : List Byte := patch r 2 (leBytes 1 (leAt r 2 1 / 2 * 2 + 1))

/-- Write the mandatory part of a device's report into host memory (R399, R472). -/
def State.putMandatory (s : State) (dev : Nat) (r : List Byte) : State :=
  match s.tailBase with
  | none => s
  | some a => s.hostPut (a + dev * 65536) (mandatory r)

/-- Write the details of a device's report and then its complete header, and signal vector 63 (R399, R433). -/
def State.putComplete (s : State) (dev : Nat) (r : List Byte) : State :=
  match s.tailBase with
  | none => s
  | some a =>
    let s := if 3136 < r.length then s.hostPut (a + dev * 65536 + 3136) (r.drop 3136) else s
    (s.hostPut (a + dev * 65536) ((completed r).take 3136)).msix 63

/-- The device's own report is done: TAIL_STAT (Table 13-21). -/
def State.tailStat (s : State) (r : List Byte) : State :=
  ((s.setFld TAIL_STAT.VALID 1).setBit TAIL_STAT.TRUNC (tailTrunc r)).setFld TAIL_STAT.NDETAIL (leAt r 52 4)

/-- Is the port toward the manager UP? -/
def State.uplinkUp (s : State) : Bool := s.isWorker && s.tierState 0 == 3

/-- Hold a report until it is completed or sent. -/
def State.holdTail (s : State) (r : Option (List Byte)) : State := { s with tree := { s.tree with heldTail := r } }

/-- The report is begun (Table 13-16 step 4): the mandatory part goes to the host, or the whole message up the tree (R472). A
worker without an uplink keeps what it holds (R476). -/
def State.tailBegin (s : State) (r : List Byte) : State :=
  let s := s.tailChecked r
  if s.isWorker then
    if s.uplinkUp then (s.holdTail (some r)).sendMsg 0 1 0x05 0 r []
    else if s.tree.heldTail.isNone then s.holdTail (some r) else s
  else if s.tailBase.isSome then (s.holdTail (some r)).putMandatory 0 r
  else s

/-- The report is completed (Table 13-16 step 5), with the DT of the first SAFE frame as it is now known. -/
def State.tailFinish (s : State) : State :=
  match s.tree.heldTail with
  | none => s
  | some r =>
    let dtSafe := (s.svc.firstSafe).getD (s.pair SVC_SAFE_DT_LO.DT SVC_SAFE_DT_HI.DT)
    let r := patch r 16 (leBytes 8 dtSafe.toNat)
    if s.isWorker then (if s.uplinkUp then (s.holdTail none).tailStat r else s.tailStat r)
    else ((s.holdTail none).putComplete 0 r).tailStat r

/-! ### Entering and leaving the safe state -/

/-- The record of a cause other than a fault bit (R396). -/
def State.causeRecord (s : State) (cause : Nat) : State :=
  if cause = 1 ∨ cause = 3 then s
  else
    s.recordNow { dt := s.dt, device := s.tree.num, block := if cause = 4 ∨ cause = 5 then 0x10 else 0x0F, inst := 0, bit := 0xFF, cls := 3,
                  final := 3, esc := false, ovf := false, rseq := 0, addr := 0, info := 0, detail := cause }

/-- Striders halt and their tasks are abandoned with end reason SAFE (Table 13-15 step 3); so are those that wait for a replay.
A strider that already ends its task goes on with that; one that waits for a microword is halted at the next point after the refresh
(Table 09-12). -/
def State.abandonAll (s : State) : State :=
  let ws := (List.finRange 68).flatMap (fun p => (pondStriders p).filter (fun w => match (s.str w).run with
    | .waiting (.taskEnd ..) | .waiting (.ending _) => false
    | .running | .waiting _ => true
    | _ => false))
  let s := ws.foldl (fun (s : State) w =>
    if (s.str w).run = .waiting .csWord then s.setStr w { s.str w with haltDue := true } else s.abandonTask w 4) s
  let s := { s with svc := { s.svc with tarnDue := [] } }
  (upTo 4).foldl (fun s b =>
    (s.basin b).jrn.foldl (fun (s : State) j =>
      let held := (List.finRange 68).any (fun p => (pondStriders p).any (fun w => s.occupied w && (s.str w).taskId == j.taskId.setWidth 64))
      if held || (s.basin b).ends.any (fun e => e.1 == j.taskId) then s
      else ((s.taskRecord b 4 j.taskId.toNat).addSat TJ_REPLAY.ABANDONED 1).endOrphan b j.taskId 4) s) s

/-- Enter the safe state (R396, Table 13-15). A cause that arrives in the safe state is only logged; but PFW_N and ESTOP_N in one cycle
are recorded as cause 5 (Table 18-17). -/
def State.enterSafe (s : State) (cause block inst : Nat) : State :=
  if s.bit SVC_STAT.SAFE then
    let both := cause == 5 && s.fld SVC_SAFE.CAUSE == 4 && s.pair SVC_SAFE_DT_LO.DT SVC_SAFE_DT_HI.DT == s.dt
    let s := if both then s.setFld SVC_SAFE.CAUSE 5 else s
    (s.setFld SVC_FLTCTL.SAFE_REQ 0).causeRecord cause
  else
    let s := s.napEnd
    let s := (s.setFld SVC_STAT.SAFE 1).setFld SVC_FLTCTL.SAFE_REQ 0
    let fault := decide (cause = 1 ∨ cause = 3)
    let s := (s.setFld SVC_SAFE.CAUSE cause).setFld SVC_SAFE.BLOCK (if fault then block else 0)
    let s := s.setFld SVC_SAFE.INST (if fault then inst else 0)
    let s := (s.setPair SVC_SAFE_DT_LO.DT SVC_SAFE_DT_HI.DT s.dt).chainStop
    let s := { s with svc := { s.svc with firstSafe := none } }
    let s := s.captureEvent 12 s.dt s.time.fine
    let s := (upTo 96).foldl (fun s n => s.chanSafe n) s
    let s := s.abandonAll
    let s := (upTo 96).foldl (fun s n => s.failRecs n 0x32 (fun _ => true)) s
    s.causeRecord cause

/-- May FLT.RESUME leave the safe state (R398, R473)? -/
def State.mayResume (s : State) : Bool :=
  let lv := s.fld PIN_STAT.LEVEL
  Nat.testBit lv 6 && Nat.testBit lv 7 && !s.classSet .s && (upTo 2).any (fun c => s.fld (MC_STAT.STATE c) != 5 && s.fld (MC_STAT.STATE c) != 0) &&
  (match s.tree.safeSeen with
   | none => true
   | some t => elapsed s.dt t (usTicks 10))

/-- Leave the safe state (R398): the pins are released, the SAFE frames stop and dispatch resumes. -/
def State.leaveSafe (s : State) : State :=
  let s := s.setFld SVC_STAT.SAFE 0
  let s := { s with svc := { s.svc with pfwAt := none, firstSafe := none } }
  s.notice 4 0

/-! ### Ports, failover and resets -/

/-- A tier port goes DOWN: the manager loses the workers behind it (R474), a worker without its uplink enters the safe state and
holds its report (R476), and a worker's own child leaves its route masks. -/
def State.tierDown (s : State) (t : Nat) : State :=
  if s.upPort t then
    let was := s.tierState t
    let recs := ((s.tport t).msgs.filter (fun m => m.mtype == 3 || m.mtype == 9)).map (fun m => (m.mtype, m.body))
    let s := s.portDown t
    let s := { s with tree := { s.tree with heldRecs := s.tree.heldRecs ++ recs } }
    if was = 0 then s
    else
      let s := if s.tree.heldTail.isNone then s.holdTail (some (s.tailReport 0 true)) else s
      { s with due := s.due ++ [.safe 7 0xF 0] }
  else
    let s := s.portDown t
    let d := s.childNum t
    if s.isWorker then (s.setWorker d { s.worker d with present := false }).setRoute d none else s.workersLost (behind t)

/-- Complete every accepted command but one order number for each device that has not answered. -/
def State.completeAll (s : State) (status detail : Nat) : State :=
  s.host.accepted.foldl (fun (s : State) c =>
    (s.cmdNow c).devices.foldl (fun (s : State) d =>
      let c := s.cmdNow c
      if c.routed then s.finishCmd c status detail [] else (s.cmdAnswered c d).postFinal c d status detail []) s) s

/-- SVC-A is replaced by SVC-B (R403); without a standby the fault is of class S. -/
def State.failover (s : State) : State :=
  if s.bit SVC_STAT.STANDBY then
    let s := s.completeAll 0x0040 0x0001
    let s := (s.setFld SVC_STAT.ACTIVE 1).setFld SVC_STAT.STANDBY 0
    let s := s.raise Flt.SVC_NO_STANDBY
    { s with due := s.due.filter (fun d => d != .failover) }
  else { s with due := s.due ++ [.safe 1 0xF 0] }

/-- The first part of an ordered reset (R492): safe state, tail report of every open ATX, every L2 cleaned and invalidated, and
the accepted commands aborted. -/
def State.resetBegin (s : State) (kind : Nat) : State :=
  let r := s.tailReport 0 (s.bit SVC_STAT.SAFE)
  let s := s.tailChecked r
  let s := s.enterSafe 2 0xF 0
  let s := (upTo 96).foldl (fun s n => s.safeTimer n) s
  let dtSafe := (s.svc.firstSafe).getD (s.pair SVC_SAFE_DT_LO.DT SVC_SAFE_DT_HI.DT)
  let r := patch r 16 (leBytes 8 dtSafe.toNat)
  let s := if s.isWorker then (if s.uplinkUp then (s.sendMsg 0 1 0x05 0 r []).tailStat r else s)
    else if s.tailBase.isSome then ((s.putMandatory 0 r).putComplete 0 r).tailStat r else s
  let s := (List.finRange 68).foldl (fun (s : State) p => s.maintApply p 6 0) s
  let s := s.completeAll 0x0013 0x0001
  { s with due := s.due ++ [.reset (kind + 10)] }

/-- A worker's messages have left before its reset takes place. -/
def State.uplinkDrained (s : State) : Bool :=
  !s.uplinkUp || ((s.tport 0).msgs.isEmpty && (s.tport 0).unacked.isEmpty && (s.tport 0).resend.isEmpty)

/-- The reset itself (R491, R492, Table 17-5). -/
def State.resetNow (s : State) (kind : Nat) : State :=
  if kind = 1 then
    let a := s.fld SVC_STAT.ACTIVE
    let b := s.fld SVC_STAT.STANDBY
    ((s.afterWarm.setFld SVC_STAT.ACTIVE a).setFld SVC_STAT.STANDBY b).startWarm
  else
    let role := s.fld STRAP.ROLE
    let boot := s.fld STRAP.BOOT
    (s.afterDevice .starting 2).restart role boot

end Sys2Proof.Machine
end

