-- ==== Sys2Proof/Machine/HostRun.lean ====
section
/-!
DEFINITION. How firmware runs accepted commands (R440, R443, R445, R469): which one starts next, what it writes through the
registers (R28, R48), and what a command that has started waits for.
-/

namespace Sys2Proof.Machine

/-! ### Firmware's register writes -/

/-- A read of a register by firmware that a BAR2 write of the same cycle has overtaken (R29): what the register held before it. DESIGN
CHOICE (assumption 125): the two interleave only within one cycle, and which of the two outcomes of R29 comes is then a free value. -/
def State.overtaken (s : State) (a : Nat) : Option Word32 × State :=
  match s.host.bar2Old with
  | none => (none, s)
  | some (b, old, t) =>
    if b = a ∧ t = s.dt then
      let (x, s) := s.fresh
      (if Config.free x % 2 = 1 then some old else none, s)
    else (none, s)

/-- A read-modify-write by service firmware (R28, R29): the fields given take their values, the others that a write can change keep
what the register reads, and write-1 bits are written 0. The fields name one register. -/
def State.svcWrite (s : State) (a : Nat) (l : List (Fld × Nat)) : State :=
  let (old, s) := s.overtaken a
  let v := (fieldDefs a).foldl (fun (v : Nat) d =>
    let x := match l.find? (fun e => e.1.lo == d.lo) with
      | some e => e.2
      | none =>
        match d.acc with
        | .rw | .rwi | .rws | .rwl => (old.map (fun o => o.toNat / 2 ^ d.lo)).getD (s.fieldRead a d)
        | _ => 0
    v + x % 2 ^ (d.hi + 1 - d.lo) * 2 ^ d.lo) 0
  s.writeReg .svc a v

/-- Write one field. -/
def State.svcSet (s : State) (f : Fld) (v : Nat) : State := s.svcWrite f.addr [(f, v)]

/-- The values of register fields as a list of 32-bit words. -/
def State.peeks (s : State) (l : List Nat) : List Byte := l.flatMap (fun a => leBytes 4 (s.peek a).toNat)

/-- The status bits of R48. -/
def mismatchAt (a : Nat) : Fld := ⟨a, 31, 31⟩
def rejectAt (a : Nat) : Fld := ⟨a, 30, 30⟩

/-- Firmware first clears the status bits of the blocks it configures (R48). -/
def State.clearCfg (s : State) (regs : List Nat) : State :=
  regs.foldl (fun (s : State) a => (s.setFld (mismatchAt a) 0).setFld (rejectAt a) 0) s

/-- How a configuration ended (R48): status and detail. -/
def State.cfgResult (s : State) (regs : List Nat) : Nat × Nat :=
  if regs.any (fun a => s.bit (rejectAt a)) then (0x21, 4)
  else if regs.any (fun a => s.bit (mismatchAt a)) then (0x21, 5)
  else (0, 0)

/-! ### Starting a command -/

/-- A broadcast PWR.STATE to D-SLEEP is performed at depth 2 first, then at depth 1, then on the manager (R490). -/
def HostCmd.mayStartOn (c : HostCmd) (d : Nat) : Bool :=
  let depth (d : Nat) : Nat := if d = 0 then 0 else if d ≤ 8 then 1 else 2
  !(c.opcode == 0x0801 && c.target == 0xFF && prm c.params 0 1 == 3) || c.devices.all (fun e => decide (depth e ≤ depth d))

/-- Is this device's part of a command still to be started? -/
def State.mine (s : State) (c : HostCmd) : Bool :=
  c.devices.contains s.tree.num && c.wait == .none && (c.routed || c.mayStartOn s.tree.num)

/-- A command with ORDER starts only when every earlier command of its queue has completed (R443). -/
def State.orderOk (s : State) (c : HostCmd) : Bool :=
  !c.ordered || c.routed || !s.host.accepted.any (fun x => decide (x.order < c.order) && x.sq == c.sq && !x.routed)

/-- The commands that run on one block instance run one at a time (R443). -/
def State.unitFree (s : State) (c : HostCmd) : Bool :=
  let us := unitsOf c.opcode c.params
  !s.host.accepted.any (fun x =>
    x.order != c.order && x.wait != .none && x.devices.contains s.tree.num && (unitsOf x.opcode x.params).any (fun u => us.contains u))

/-- The CMD message of a command for a worker (Table 16-5): its header with TARGET set, then its parameters. -/
def HostCmd.message (c : HostCmd) (d : Nat) : List Byte := patch c.head 3 [BitVec.ofNat 8 d] ++ c.params

/-- The workers to which a command is still to be sent and may be. -/
def State.unsent (s : State) (c : HostCmd) : List Nat :=
  if c.routed then [] else c.devices.filter (fun d => d != s.tree.num && !c.sent.contains d && c.mayStartOn d)

/-- Does `EXP_OFF` refuse a command (R453)? -/
def State.expRefused (s : State) (c : HostCmd) : Bool :=
  s.host.expOff && (c.opcode == 0x0F02 || c.opcode == 0x0F04 || c.opcode == 0x0F12)

/-- Send a command to the workers it names (R469), to each once. -/
def State.startCmd (s : State) (c : HostCmd) : State :=
  let ds := s.unsent c
  if c.started && ds.isEmpty then s
  else
    let s := s.updCmd { c with started := true, sent := c.sent ++ ds }
    ds.foldl (fun (s : State) d =>
      if s.expRefused c then (s.cmdAnswered c d).postFinal (s.cmdNow c) d 0x30 1 [] else
      match s.routePort d with
      | some t => s.sendMsg t 3 0x01 d (c.message d) []
      | none => s) s

/-- Send the commands for workers that may start (R443, R469): in queue order for each device. -/
def State.routeCommands (s : State) : State :=
  s.host.accepted.foldl (fun (s : State) c =>
    let c := s.cmdNow c
    let others := s.unsent c
    let earlier := s.host.accepted.any (fun x =>
      decide (x.order < c.order) && x.sq == c.sq && !x.started && x.devices.any (fun d => others.contains d))
    if !others.isEmpty && !earlier && (c.started || s.orderOk c) then s.startCmd c else s) s

/-- Does the result of a command fit where it is to go (R440)? A list always does. -/
def State.resultFits (s : State) (c : HostCmd) : Bool :=
  let n := s.resultLen c.opcode c.params
  (cmdSpec c.opcode).any (·.list) || decide (n ≤ 16) || (c.rbuf && decide (n ≤ c.rlen))

/-- Is the command one that the safe state refuses (R445)? -/
def unsafeCmd (c : HostCmd) : Bool := (c.opcode == 0x0302 && prm c.params 1 1 == 1) || c.opcode == 0x0402

/-- Run the first command of a queue that this device has still to start, if it is of the opcode named and may start (R443): a
result that does not fit, a device not READY and the safe state complete it without execution (R440, R445). -/
def State.runCmd (s : State) (q op : Nat) (f : State → HostCmd → State) : State :=
  match s.host.accepted.find? (fun c => c.sq % 16 == q && s.mine c) with
  | none => s
  | some c =>
    if c.opcode ≠ op ∨ !s.orderOk c ∨ !s.unitFree c then s
    else
      let s := s.startCmd c
      let c := s.cmdNow c
      if !s.resultFits c then s.finishCmd c 0x21 2 (leBytes 4 (s.resultLen op c.params))
      else if s.pwr.phase ≠ .ready ∧ !beforeReady op then s.finishCmd c 0x12 0 []
      else if s.bit SVC_STAT.SAFE && unsafeCmd c then s.finishCmd c 0x40 2 []
      else if s.expRefused c then s.finishCmd c 0x30 1 []
      else f s c

/-- A list result: as many whole items as fit, in `RLEN` bytes or in `RES` (R440). -/
def State.finishList (s : State) (c : HostCmd) (item : Nat) (items : List (List Byte)) : State :=
  let room := if c.rbuf then max c.rlen 16 else 16
  s.finishCmd c 0 0 ((items.take (room / item)).flatMap id)

/-- The command has started and waits. -/
def State.waitCmd (s : State) (c : HostCmd) (k : HostWait) : State := s.updCmd { s.cmdNow c with started := true, wait := k }

/-- The command waits for the commits of the blocks it wrote (R48). -/
def State.awaitCommit (s : State) (c : HostCmd) (regs : List Nat) : State := s.waitCmd c (.commit regs)

/-! ### What waiting commands wait for -/

/-- The result of a command that ends after its commits (CH.SPEED; the others have none). -/
def State.commitResult (s : State) (c : HostCmd) : List Byte :=
  if c.opcode = 0x0307 then s.peeks [WEIRG_SPDREC.REC_RPM.addr, WEIRG_STAT.SPD_ACTIVE.addr] else []

/-- Spare rows in use, two bits for each bank (MEM.MARCH). -/
def State.spareRows (s : State) (p : Nat) : Nat :=
  (upTo 16).foldl (fun (v : Nat) k => v + s.sparesUsed p k * 4 ^ k) 0

/-- Start the retrain of a rank (R351). -/
def State.retrainRank (s : State) (c r : Nat) : State := s.svcWrite (MC_TRAIN.START c).addr [(MC_TRAIN.RANK c, r), (MC_TRAIN.START c, 1)]

/-- Does a tier port stand where DEV.PORT wants it (R478)? -/
def State.portReached (s : State) (t : Nat) (en : Bool) : Bool := s.tierState t == (if en then 3 else 0)

/-- The fields of a page that SEC.PAGE writes; its enable stays (R420, R421). -/
def State.pageFields (s : State) (p : List Byte) : State :=
  let k := prm p 0 1
  let f := prm p 1 1
  let s := s.svcSet (SEC_PG_CTX.CTX k) (prm p 4 4)
  let s := s.svcWrite (SEC_PG_CTL.addr k) [(SEC_PG_CTL.EN k, s.fld (SEC_PG_CTL.EN k)), (SEC_PG_CTL.KBITS k, f / 2 % 2), (SEC_PG_CTL.KBASE k, f / 4 % 2)]
  s.svcWrite (SEC_PG_OWN.addr k) [(SEC_PG_OWN.USE k, prm p 2 2), (SEC_PG_OWN.LOCK k, f / 8 % 2)]

/-- One command that waits on this device. -/
def State.serveWait (s : State) (c : HostCmd) : State :=
  match c.wait with
  | .none | .routed _ | .queue _ => s
  | .commit regs =>
    if regs.any (fun a => s.cfgPending a) then s
    else
      let r := s.cfgResult regs
      s.finishCmd c r.1 r.2 (if r.1 = 0 then s.commitResult c else [])
  | .region k =>
    if s.rgnBusy then s
    else
      let e := s.fld (MC_RGN_SEL.ERR k)
      if e = 0 then s.finishOk c else s.finishCmd c 0x21 (0x10 + e) []
  | .maint ponds => if ponds.any (fun p => (s.pond p).maint.isSome) then s else s.finishOk c
  | .march p =>
    if s.bit (MARCH_STAT.BUSY p) then s
    else s.finishCmd c 0 0 (s.peeks [(MARCH_STAT.BUSY p).addr] ++ leBytes 4 (s.spareRows p))
  | .retrain k ranks failed =>
    if s.bit (MC_TRAIN.BUSY k) then s
    else
      match ranks with
      | [] => s.finishCmd c 0 0 (leBytes 4 failed)
      | r :: rest =>
        let failed := if s.bit (MC_TRAIN.FAIL k) then failed + 2 ^ r else failed
        match rest with
        | [] => s.finishCmd c 0 0 (leBytes 4 failed)
        | r' :: _ => (s.retrainRank k r').waitCmd c (.retrain k rest failed)
  | .channels ns en =>
    if en || ns.any (fun n => s.bit (WEIR_CTL.EN n) || s.bit (FC_CTL.EN n)) then
      -- a weir that has stopped lets its channel be disabled (R137)
      ns.foldl (fun (s : State) n =>
        if s.fld (WEIR_STAT.STATE n) = 0 ∧ s.bit (FC_CTL.EN n) ∧ s.fcState n ≠ 6 then s.svcSet (FC_CTL.EN n) 0 else s) s
    else s.finishOk c
  | .port t en _ => if s.portReached t en then s.finishOk c else s
  | .page k =>
    if s.pageState k = Page.deriving_ ∨ s.pageState k = Page.zeroing then s
    else
      let s := if prm c.params 1 1 % 2 = 0 then s.pageFields c.params else s
      let r := s.cfgResult [SEC_STAT.CFG_REJECT.addr]
      s.finishCmd c r.1 r.2 []
  | .power target =>
    if s.pwr.request ≠ 0 ∨ s.pwr.entryAt.isSome then s
    else if s.fld PWR_STAT.DSTATE = target then s.finishOk c
    else s.finishCmd c 0x11 1 []
  | .spare k =>
    if s.bit (MC_SPARE.COMMIT k) then s
    else
      let r := s.cfgResult [(MC_STAT.CFG_REJECT k).addr]
      s.finishCmd c r.1 r.2 []

/-- Serve every command that waits on this device. -/
def State.hostWaits (s : State) : State :=
  s.host.accepted.foldl (fun (s : State) c =>
    let c := s.cmdNow c
    if c.devices.contains s.tree.num && s.host.accepted.any (fun x => x.order == c.order) then s.serveWait c else s) s

/-- Deleted queues whose fetched commands have completed are gone, and the HOST.QDELETE that waits for it completes. -/
def State.reapQueues (s : State) : State :=
  (s.host.pairs.map (·.1)).foldl (fun (s : State) q =>
    match s.qpair q with
    | some p =>
      let mine := s.host.accepted.filter (fun c => c.wait == .queue q)
      let others := s.host.accepted.any (fun c => c.sq == q && !c.routed && c.wait != .queue q)
      if p.deleting && !others then (mine.foldl (fun (s : State) c => s.finishOk c) s).setQpair q none else s
    | none => s) s

end Sys2Proof.Machine
end

