-- ==== Sys2Proof/Machine/TierMsgs.lean ====
section
/-!
DEFINITION. What the messages of the tree mean (R466, R467, R469 to R472, R476, R477, R490): boot and join, commands and
replies, records, summaries and tail reports; and the end of an entry to D-SLEEP.
-/

namespace Sys2Proof.Machine

/-! ### Boot and join (Table 16-7) -/

/-- The system secret as SECRET carries it: most significant word first. -/
def State.secretBytes (s : State) : List Byte := s.sec.secret.flatMap (fun w => beBytes 4 w.toNat)

/-- SECRET for one device (Table 16-5): load, or clear. -/
def State.sendSecret (s : State) (d : Nat) (load : Bool) : State :=
  match s.routePort d with
  | some t => s.sendMsg t 2 0x08 d (if load then 1#8 :: s.secretBytes else 2#8 :: zeros 32) []
  | none => s

/-- Firmware loads 32 bytes as the system secret (R467): the measurement log is extended with type 8. -/
def State.loadSecret (s : State) (b : List Byte) : State :=
  if (upTo 16).any (fun k => s.bit (SEC_PG_CTL.EN k) && s.bit (SEC_PG_CTL.KBASE k)) then s.setFld SEC_STAT.CFG_REJECT 1
  else
    let s := (upTo 8).foldl (fun (s : State) k => s.keyload (BitVec.ofNat 32 (beNat (slice b (4 * k) 4)))) s.keyClear
    s.extendLog 8 (zeros 32)

/-- May the device push its image to a child (Table 16-7)? The manager from the start of its firmware, a worker once READY. -/
def State.mayPush (s : State) : Bool :=
  s.pwr.phase == .ready || (!s.isWorker && s.pwr.phase == .starting && decide (3 ≤ s.fld BOOT_STAGE.STAGE))

/-- The image that the device booted itself (R466). -/
def State.ownImage (s : State) : List Byte := s.ucode.booted

/-- Push the image to the child on a port: a BOOT message. -/
def State.pushBoot (s : State) (t : Nat) : State :=
  let s := s.setTport t { s.tport t with bootTries := (s.tport t).bootTries + 1 }
  s.sendMsg t 5 0x06 (s.childNum t) s.ownImage []

/-- Children in boot ROM whose push has not begun. -/
def State.bootPushes (s : State) : State :=
  if !s.mayPush then s
  else (upTo 8).foldl (fun (s : State) t =>
    let p := s.tport t
    if !s.upPort t && s.tierState t == 3 && p.peerFw == 0 && p.bootTries == 0 then s.pushBoot t else s) s

/-- The firmware of a child joins (R459, R466, R468), for the first time or after a push: it is present, has a route, and is sent the
system secret. -/
def State.childJoins (s : State) (t : Nat) : State :=
  let d := s.childNum t
  let w := s.worker d
  let tries := (s.tport t).bootTries
  let s := s.setTport t { s.tport t with bootTries := 0 }
  if w.present && !w.asleep && tries == 0 then s
  else
    let s := s.setWorker d { w with present := true, asleep := false, port := t }
    let s := s.setRoute d (some t)
    if s.bit SEC_STAT.SYS_VALID then s.sendSecret d true else s

/-- The journal summary (Table 16-8). -/
def State.summaryBody (s : State) : List Byte :=
  leBytes 8 s.dt.toNat ++ leBytes 4 s.tree.sumSeq.toNat ++ leBytes 4 s.openCount ++
  leBytes 8 (s.pair WEIRG_ACC_LO.ACCEPTED WEIRG_ACC_HI.ACCEPTED).toNat ++
  leBytes 8 (s.pair WEIRG_VER_LO.VERIFIED WEIRG_VER_HI.VERIFIED).toNat ++
  leBytes 8 (s.pair WEIRG_BAD_LO.NOT_OK WEIRG_BAD_HI.NOT_OK).toNat ++ zeros 24 ++
  (upTo 96).flatMap (fun n =>
    let w := s.weir n
    leBytes 4 (s.armedCount n) ++ leBytes 4 w.flying.length ++ leBytes 4 (lowestXid (w.recs.filter (fun r => !r.state.final))) ++
      leBytes 4 w.lastXid.toNat)

/-- Send a SUMMARY (R471). -/
def State.sendSummary (s : State) : State :=
  let s := { s with tree := { s.tree with sumSeq := s.tree.sumSeq + 1, lastSum := s.dt } }
  s.sendMsg 0 4 0x04 0 s.summaryBody []

/-- The uplink of a worker is UP again after it had gone DOWN (R477): held tail report, held records and a new SUMMARY. -/
def State.rejoin (s : State) : State :=
  let tail := s.tree.heldTail
  let recs := s.tree.heldRecs
  let s := { s with tree := { s.tree with heldTail := none, heldRecs := [] } }
  let s := match tail with
    | some r => (s.sendMsg 0 1 0x05 0 r []).tailStat r
    | none => s
  let s := recs.foldl (fun (s : State) e =>
    s.sendMsg 0 (if e.1 = 3 ∧ 2 ≤ leAt e.2 13 1 / 4 % 4 then 2 else 4) e.1 0 e.2 []) s
  if tail.isSome then s.sendSummary else s

/-- A port has reached UP (R466, R477): a worker's uplink after a loss, a child's firmware, or boot ROM at a further HELLO. -/
def State.portJoined (s : State) (t : Nat) (retrain : Bool) : State :=
  if s.upPort t then (if retrain then s else s.rejoin)
  else if (s.tport t).peerFw != 0 then s.childJoins t
  else if (s.tport t).bootTries = 0 then s
  else s.raise (Flt.TIER_BOOT_FAIL t)

/-- Notice 7 of a child (R490): it stays present, asleep, and its port is disabled with its detector armed. -/
def State.childSlept (s : State) (t : Nat) : State :=
  let d := s.childNum t
  let s := s.setWorker d { s.worker d with present := true, asleep := true, ready := false }
  let s := s.tierOff t
  s.setTport t { s.tport t with armed := true }

/-- A worker's boot ROM holds a whole image (Table 16-7 steps 2 to 4): it verifies it, answers BOOTSTAT, and with code 0 starts
firmware and restarts the link with a HELLO. -/
def State.takeBoot (s : State) (image : List Byte) : State :=
  if !s.isWorker || s.pwr.phase != .starting || s.fld BOOT_STAGE.STAGE != 2 then s
  else
    let code := Config.bootCode image
    let s := s.sendMsg 0 2 0x07 (s.fld (TIER_STAT.PEER 0)) (leBytes 4 code) []
    if code % 2 ^ 32 ≠ 0 then s
    else match s.pwr.start with
      | none => s
      | some c =>
        let s := { s with ucode := { s.ucode with booted := image, staged := Config.bootCustomer image } }
        ((s.startFirmware c).setTier 0 1).tierAttempt 0

/-- BOOTSTAT from a child (R466): on a failure code the parent pushes once more; a second one sets BOOT_FAIL. -/
def State.takeBootstat (s : State) (t code : Nat) : State :=
  if code = 0 then s
  else if (s.tport t).bootTries ≤ 1 then s.pushBoot t
  else s.raise (Flt.TIER_BOOT_FAIL t)

/-! ### Commands and replies (R469) -/

/-- A CMD message: the worker accepts the command. -/
def State.takeCmd (s : State) (body : List Byte) : State :=
  if !s.isWorker then s
  else
    let p := readPacket (slice body 0 64) (some (body.drop 32))
    let c : HostCmd :=
      { sq := 0, order := s.host.nextOrder, sqhd := 0, opcode := p.opcode, rbuf := p.rbuf, ordered := p.order, target := p.target,
        tag := p.tag, rlen := p.rlen, raddr := p.raddr, params := slice (body.drop 32) 0 p.plen, started := false, sent := [],
        wait := .none, devices := [s.tree.num], routed := true, head := slice body 0 32 }
    { s with host := { s.host with accepted := s.host.accepted ++ [c], nextOrder := s.host.nextOrder + 1 } }

/-- The result bytes of a REPLY with its poisoned words as R452 writes them, and whether there is one. -/
def replyResult (body : List Byte) (poison : List Nat) : List Byte × Bool :=
  let n := leAt body 4 4
  if n = 0 then (slice body 8 16, false)
  else
    let ws := (poison.filter (fun i => decide (3 ≤ i ∧ 8 * i < 24 + n))).map (· - 3)
    (ws.foldl (fun b i => (patch b (8 * i) (List.replicate 8 0xFF#8)).take n) (slice body 24 n), !ws.isEmpty)

/-- A REPLY message: the manager completes the oldest command that it sent to that worker and that it still awaits. -/
def State.takeReply (s : State) (src : Nat) (body : List Byte) (poison : List Nat) : State :=
  if s.isWorker then s
  else match s.host.accepted.find? (fun c => !c.routed && c.sent.contains src && c.devices.contains src) with
    | none => s
    | some c =>
      let (res, bad) := replyResult body poison
      let s := if bad then s.hostRaise Flt.HOST_DP_POISON c.raddr 4 1 0 c.sq else s
      (s.cmdAnswered c src).postFinal c src (leAt body 0 2) (leAt body 2 2) res

/-! ### Records, summaries, tail reports -/

/-- The manager learns of a depth-2 worker by its first message. -/
def State.learn (s : State) (t src : Nat) : State :=
  if s.isWorker || src ≤ 8 || (s.worker src).present then s
  else (s.setWorker src { s.worker src with present := true, asleep := false, port := t }).setRoute src (some t)

/-- One record of a worker (R454, R470), which the manager writes to the host log as its own. A class S record says that the
worker is in the safe state; a port of a depth-1 worker gone DOWN loses the workers behind it (R474). -/
def State.takeRecord (s : State) (src : Nat) (r : List Byte) : State :=
  let s := s.logBytes r
  let final := leAt r 13 1 / 4 % 4
  let block := leAt r 9 1
  let inst := leAt r 10 2
  if block = 0x20 then s
  else
    let s := if final = 3 then s.setWorker src { s.worker src with safe := true } else s
    if block = 0xE ∧ leAt r 12 1 = 5 ∧ 2 ≤ final ∧ 1 ≤ src ∧ src ≤ 8 ∧ 1 ≤ inst ∧ inst ≤ 7 then s.workerLost (9 + 7 * (src - 1) + (inst - 1))
    else s

/-- Notice 6 for a lost worker whose account is settled (R477): detail 1 says that none is available. Its own account replaces the
manager's (R475). -/
def State.rejoined (s : State) (src detail : Nat) : State :=
  if (s.worker src).lost then (s.setWorker src { s.worker src with lost := false, failed := 0 }).noticeFor src 6 detail else s

/-- A notice of a worker (R454, R477, R490). -/
def State.takeNotice (s : State) (t src : Nat) (r : List Byte) : State :=
  let s := s.logBytes r
  if leAt r 9 1 ≠ 0x20 then s
  else match leAt r 10 2 with
    | 3 => (s.setWorker src { s.worker src with ready := true, asleep := false }).rejoined src 1
    | 4 => s.setWorker src { s.worker src with safe := false }
    | 7 => if src = s.childNum t then s.childSlept t else s.setWorker src { s.worker src with asleep := true, ready := false }
    | _ => s

/-- A TAIL message so far, of which `had` bytes were there before (R472): the mandatory part is written when it is whole, the rest and `COMPLETE` with the last
fragment; a lost worker has then rejoined (R477). -/
def State.takeTail (s : State) (src had : Nat) (bytes : List Byte) (whole : Bool) : State :=
  let s := if had < 3136 ∧ 3136 ≤ bytes.length then s.putMandatory src bytes else s
  if whole then (s.putComplete src bytes).rejoined src 0 else s

/-- The records of a message, 32 bytes each. -/
def State.takeRecords (s : State) (f : State → List Byte → State) (b : List Byte) : State :=
  (upTo (b.length / 32)).foldl (fun (s : State) k => f s (slice b (32 * k) 32)) s

/-- A message received whole on port `t`: one that goes down acts on a worker, one that goes up on the manager, BOOTSTAT on
the parent. -/
def State.tierMessage (s : State) (t : Nat) (m : TierMsg) : State :=
  let down := s.upPort t
  let mgr := !s.isWorker
  match m.mtype with
  | 1 => if down then s.takeCmd m.body else s
  | 2 => if mgr then (s.learn t m.src).takeReply m.src m.body m.poison else s
  | 3 => if mgr then (s.learn t m.src).takeRecords (fun s r => s.takeRecord m.src r) m.body else s
  | 4 => if mgr then let s := s.learn t m.src; s.setWorker m.src { s.worker m.src with summary := some m.body } else s
  | 6 => if down then s.takeBoot m.body else s
  | 7 => if down then s else s.takeBootstat t (leAt m.body 0 4)
  | 8 =>
    if !down then s
    else match leAt m.body 0 1 with
      | 1 => s.loadSecret (m.body.drop 1)
      | 2 => s.keyClear
      | _ => s
  | 9 => if mgr then (s.learn t m.src).takeRecords (fun s r => s.takeNotice t m.src r) m.body else s
  | _ => s

/-- The bytes of a message in reassembly. -/
def State.partialBytes (s : State) (t src : Nat) (id : BitVec 16) : List Byte :=
  match (s.tport t).partials.find? (fun x => x.src == src && x.msgId == id) with
  | some x => x.bytes
  | none => []

/-- A frame received on a tier port, and what a message that it completes means. -/
def State.tierIn (s : State) (t : Nat) (f : Frame) : State :=
  let src := f.route.toNat / 64 % 64
  let id := BitVec.ofNat 16 (leAt f.payload 2 2)
  let had := (s.partialBytes t src id).length
  let (m, s) := s.tierRx t f
  match m with
  | some m =>
    if m.mtype = 5 then
      (if s.isWorker then s else (s.learn t m.src).takeTail m.src had m.body true)
    else s.tierMessage t m
  | none =>
    if !s.isWorker && f.type == 2 && f.route.toNat % 64 == s.tree.num && leAt f.payload 0 1 == 5 then
      s.takeTail src had (s.partialBytes t src id) false
    else s

/-- Is a frame one of a message of this type for this device? -/
def State.forMe (s : State) (mtype : Nat) (f : Frame) : Bool :=
  f.type == 2 && f.route.toNat % 64 == s.tree.num && leAt f.payload 0 1 == mtype

/-- The summary period has passed on a READY worker whose uplink is UP (R471). -/
def State.summaryDue (s : State) : Bool :=
  s.isWorker && s.pwr.phase == .ready && s.tierState 0 == 3 && elapsed s.dt s.tree.lastSum (usTicks (1000 * s.fld (TIER_CTL.SUM_PER 0)))

/-! ### The end of an entry to D-SLEEP (Table 17-3 steps 2 to 4) -/

/-- The PWR.STATE commands that asked for D-SLEEP complete. -/
def State.sleepDone (s : State) : State :=
  s.host.accepted.foldl (fun (s : State) c =>
    let c := s.cmdNow c
    if c.wait == .power 3 && s.host.accepted.any (fun x => x.order == c.order) then s.finishOk c else s) s

/-- A worker's ports are disabled; the detectors of its uplink and of the ports to sleeping children are armed. -/
def State.sleepPorts (s : State) : State :=
  (upTo 8).foldl (fun s t =>
    let s := if s.bit (TIER_CTL.EN t) then s.tierOff t else s
    if s.upPort t || (s.worker (s.childNum t)).asleep then s.setTport t { s.tport t with armed := true } else s) s

/-- Power goes off (Table 17-3 step 4). -/
def State.darken (s : State) : State :=
  let s := s.setPair SLEEP_DT_LO.V SLEEP_DT_HI.V s.dt
  let s := match s.dram.regions.find? (fun e => e.2.valid && e.2.code) with
    | some e => s.setPair PWR_RESUME_LO.ADDR PWR_RESUME_HI.ADDR (BitVec.ofNat 64 e.2.first)
    | none => s
  let s := s.addWrap DSTATE_CNT.SLEEPS 1
  { s with pwr := { s.pwr with phase := .asleep, entryAt := none, sleepNote := false }, time := { s.time with tbclk := false } }

/-- Steps 2 to 4, once the caches are clean: a worker sends notice 7, which must have left before its ports are disabled; the manager's link goes down. -/
def State.sleepOff (s : State) : State :=
  match s.pwr.entryAt with
  | none => s
  | some _ =>
    if (upTo 68).any s.l2Held then s else
    let s := (s.selfRefresh true).sleepDone
    if !s.isWorker then ((s.setFld HOST_STAT.SPEED 0).sleepPorts).darken
    else
      let s := if s.pwr.sleepNote then s else { s.notice 7 0 with pwr := { s.pwr with sleepNote := true } }
      if s.uplinkDrained then (s.sleepPorts).darken else s

end Sys2Proof.Machine
end

