-- ==== Sys2Proof/Machine/Ops.lean ====
section
/-!
DEFINITION. How a command ends: the consequences of faults are carried out, and everything that waits and may now go on goes on.
`run` is the frame of a command's meaning.
-/

namespace Sys2Proof.Machine

/-- Carry out one consequence (Table 13-2, Table 13-15, R492). The second part of a reset waits until the worker's messages have
left. -/
def State.carryOut (s : State) (d : Due) : State :=
  match d with
  | .pondLost p => if h : p < 68 then s.pondLost ⟨p, h⟩ else s
  | .striderRetired p k => if h : p < 68 ∧ k < 17 then s.striderRetired ⟨p, h.1⟩ ⟨k, h.2⟩ else s
  | .basinLost b => if h : b < 4 then s.basinLost ⟨b, h⟩ else s
  | .chanDown n => s.chanDown n
  | .mcDown c => s.mcDown c
  | .laneFenced k => s.fenceLane k
  | .axisLost n => s.axisLost n
  | .portLost m => s.portLost m
  | .tierDown t => s.tierDown t
  | .failover => s.failover
  | .safe cause block inst => s.enterSafe cause block inst
  | .fault blk inst bit addr info detail => s.raiseAt ⟨blk, inst, bit⟩ addr info detail
  | .joined t retrain => s.portJoined t retrain
  | .slept t => s.childSlept t
  | .reset k =>
    if k < 10 then s.resetBegin k
    else if s.uplinkDrained then s.resetNow (k - 10)
    else { s with due := s.due ++ [d] }

/-- Is every consequence left a reset that must still wait? -/
def State.dueWaits (s : State) : Bool :=
  s.due.all (fun d => match d with
    | .reset k => decide (10 ≤ k) && !s.uplinkDrained
    | _ => false)

/-- Carry out the consequences in rounds, oldest first: those that a consequence brings come in the next round. -/
def State.drain : Nat → State → State
  | 0, s => s
  | n + 1, s =>
    if s.dueWaits then s
    else State.drain n (s.due.foldl (fun (s : State) d => s.carryOut d) { s with due := [] })

/-- A strider whose store to a full port waits submits it again (R172, R178, R296). -/
def State.portRetry (s : State) (w : StrId) : State :=
  match (s.str w).run with
  | .waiting (.cmpFull _) =>
    match s.cmpSubmit w (Tab.get (fun _ => 0) (s.str w).cmpBuf 3) with
    | (true, s) => s.resume w
    | (false, s) => s
  | .waiting (.dmaFull e _) =>
    match s.dmaSubmit w e (Tab.get (fun _ => 0) (s.str w).dmaBuf (4 * e + 3)) with
    | (true, s) => s.resume w
    | (false, s) => s
  | _ => s

/-- What waits in a strider is tried again: an EMIT's refusals (R89), a POST (R208), a store to a full port, an abandonment (R215). -/
def State.retryStr (s : State) (w : StrId) : State :=
  match (s.str w).run with
  | .waiting (.emit ..) => s.emitRecheck w
  | .waiting (.post ..) => s.postRetry w false
  | .waiting (.cmpFull _) => s.portRetry w
  | .waiting (.dmaFull ..) => s.portRetry w
  | .waiting (.ending reason) => s.abandonTask w reason
  | _ => s

def State.retryStriders (s : State) : State :=
  (s.striders.map (·.1)).foldl (fun (s : State) k => s.retryStr (strOf k)) s

/-- D-NAP ends when something needs DRAM, a strider runs, a fault of class R or above comes or the safe state is entered (R487):
`s₀` is the state before the command. -/
def State.napCheck (s s₀ : State) : State :=
  if s.napping then
    (if s.bit SVC_STAT.SAFE || s.anyRuns || s.basins != s₀.basins || s.dram != s₀.dram ||
        s.fld SVC_CNT_R.COUNT != s₀.fld SVC_CNT_R.COUNT || s.fld SVC_CNT_DS.D != s₀.fld SVC_CNT_DS.D ||
        s.fld SVC_CNT_DS.S != s₀.fld SVC_CNT_DS.S then s.napEnd else s)
  else s

/-- The queues of a lost basin take no entries: what the message network or a re-post has left there goes on to the adoptive
basin once the replay has been made (R394). -/
def State.sweepFenced (s : State) : State :=
  (upTo 4).foldl (fun (s : State) b =>
    if s.fencedBasin b && (s.basin b).lostAt.isNone && (s.basin b).queues.any (fun q => !q.2.entries.isEmpty) then s.repostAll b else s) s

/-- The device after a command's own effect: consequences, units that reach their stopped state, waits that end, host commands
that may start or have completed, journal admission and the D-NAP conditions. -/
def settle (s₀ s : State) : State :=
  let s := s.drain 16
  let s := s.weirgStopPoint.secStopPoint
  let s := s.retryStriders.sweepFenced
  let s := s.admission.bootPushes
  let s := ((s.hostWaits.reapQueues).routeCommands).hostStopPoint
  let s := s.drain 16
  (s.napCheck s₀).napWatch

/-- Do the units of the device work? Held in reset, asleep or tripped only the always-on domain does (R481, R493, R516). -/
def State.powered (s : State) : Bool :=
  !(s.pwr.phase == .held || s.pwr.phase == .asleep || s.pwr.phase == .tripped)

/-- A command whose effect on the device is `f`: without power nothing happens. -/
def run (s : State) (f : State → State) : Host.Outcome State Fault Refusal :=
  if s.powered then .next (settle s (f s)) else .next s

/-- A command that acts whatever the power state: reset and wake inputs, SMBus and JTAG. -/
def runAlways (s : State) (f : State → State) : Host.Outcome State Fault Refusal := .next (settle s (f s))

end Sys2Proof.Machine
end

