-- ==== Sys2Proof/Machine/Clock.lean ====
section
/-!
DEFINITION. What passes while no command waits: one tick of TBCLK, or one always-on cycle while TBCLK is off.
-/

namespace Sys2Proof.Machine

/-- One cycle of the always-on clock: DT advances by AON_CAL.TICKS / 1,024 ticks, with a 16-bit fraction (R63). A DT that has not begun
(R59) or is frozen (R60) stays. -/
def State.aonTick (s : State) : State :=
  if s.time.locked && s.bit TIME_CTL.EN then
    let a := s.time.aonFrac + 64 * s.fld AON_CAL.TICKS
    { s with time := { s.time with dt := s.time.dt + BitVec.ofNat 64 (a / 2 ^ 16), aonFrac := a % 2 ^ 16 } }
  else s

/-- Does the always-on accumulator carry DT (R63, Table 17-5)? -/
def State.aonCarries (s : State) : Bool :=
  match s.pwr.phase with
  | .held | .asleep | .tripped => true
  | .resuming => !s.time.tbclk
  | _ => false

/-- One tick on an empty queue (R57, R63; DESIGN CHOICE, assumption 1). The first always-on edge of a resume stands for the one after the
PLL has relocked (Table 03-1 step 4). -/
def tick (s : State) : State :=
  if s.aonCarries then
    if s.pwr.phase == .resuming then s.aonTick.wakeLoad else s.aonTick
  else s.dtTick

end Sys2Proof.Machine
end

