-- ==== Sys2Proof/Machine/CmdAx.lean ====
section
/-!
DEFINITION. Axis and channel commands of the command interface (Table 15-8).
-/

namespace Sys2Proof.Machine

/-- How a configuration that no commit point follows ended (R48). -/
def State.finishCfg (s : State) (c : HostCmd) (regs : List Nat) : State :=
  let r := s.cfgResult regs
  s.finishCmd c r.1 r.2 []

/-! ### Axis commands -/

/-- AX.CONFIG: a tracker that is to be disabled is disabled first, one that is to be enabled last (R28, R69, R73). -/
def State.axConfig (s : State) (c : HostCmd) : State :=
  let p := c.params
  let n := prm p 0 1
  let st := [(AX_STAT.CFG_REJECT n).addr]
  let en := prm p 6 1 == 1
  let s := s.clearCfg st
  let s := if en then s else s.svcSet (AX_CTL.EN n) 0
  let s := s.svcSet (AX_CPR.CPR n) (prm p 8 4)
  let s := s.svcWrite (AX_CTL.addr n) [(AX_CTL.SRCT n, prm p 1 1 % 2), (AX_CTL.SRCI n, prm p 1 1 / 2), (AX_CTL.ACCM n, prm p 2 1),
    (AX_CTL.VWIN n, prm p 3 1), (AX_CTL.SHIFT n, prm p 4 1), (AX_CTL.DIR n, prm p 5 1), (AX_CTL.COMMIT n, 1)]
  let s := if en && !s.bit (AX_CTL.EN n) then s.svcSet (AX_CTL.EN n) 1 else s
  s.awaitCommit c st

/-- AX.PORT. -/
def State.axPort (s : State) (c : HostCmd) : State :=
  let p := c.params
  let m := prm p 0 1
  let st := [(AP_STAT.CFG_REJECT m).addr]
  let en := prm p 8 1 == 1
  let s := s.clearCfg st
  let s := if en then s else s.svcSet (AP_CTL.EN m) 0
  let s := s.svcWrite (AP_CTL.addr m) [(AP_CTL.MODE m, prm p 1 1), (AP_CTL.FILT m, prm p 2 1), (AP_CTL.SSI_CLK m, prm p 3 1),
    (AP_CTL.SSI_BITS m, prm p 4 1), (AP_CTL.SSI_ST m, prm p 5 1), (AP_CTL.SSI_PER m, prm p 6 1), (AP_CTL.SSI_DLY m, prm p 7 1)]
  let s := if en && !s.bit (AP_CTL.EN m) then s.svcSet (AP_CTL.EN m) 1 else s
  s.finishCfg c st

/-- The answer of AX.QUERY: its code, fine ticks and value. -/
def State.axAnswer (s : State) (n kind : Nat) (v : Word) : Nat × Nat × Word :=
  match kind with
  | 1 =>
    match s.maAt n (plc v 0) with
    | some ma => (0, 0, ma64 ma)
    | none => (2, 0, 0)
  | 2 =>
    match s.dtAt n v with
    | .future t => (0, t.fine, t.tick)
    | .past => (1, 0, 0)
    | .none => (2, 0, 0)
  | _ => (0, 0, 0)

/-- AX.QUERY (R70, R72). -/
def State.axQuery (s : State) (c : HostCmd) : State :=
  let n := prm c.params 0 1
  let a := s.axAnswer n (prm c.params 1 7) (BitVec.ofNat 64 (prm c.params 8 8))
  let acc := ratRound ((s.axis n).acc * 2 ^ 40)
  s.finishCmd c 0 0 (leBytes 1 (s.fld (AX_STAT.STATE n)) ++ leBytes 1 a.1 ++ leBytes 1 a.2.1 ++ zeros 5 ++
    leBytes 8 (s.pair (AX_POS_LO.V n) (AX_POS_HI.V n)).toNat ++ leBytes 8 (s.axis n).updatedAt.toNat ++ leBytes 4 (s.fld (AX_VEL.V n)) ++
    leBytes 4 (BitVec.ofInt 32 acc).toNat ++ leBytes 8 a.2.2.toNat ++ zeros 8)

/-! ### Channel commands -/

/-- CH.CONFIG (R140): the weir's commit comes last. -/
def State.chConfig (s : State) (c : HostCmd) : State :=
  let p := c.params
  let n := prm p 0 1
  let st := [(FC_STAT.CFG_REJECT n).addr, (WEIR_STAT.CFG_REJECT n).addr]
  let auto := prm p 1 1
  let s := s.clearCfg st
  let s := s.svcWrite (FC_CTL.addr n) [(FC_CTL.LAT_AUTO n, auto), (FC_CTL.MAXREC n, prm p 2 1), (FC_CTL.TMIN n, prm p 3 1),
    (FC_CTL.SYNC_PER n, prm p 4 1), (FC_CTL.RESEND_TMO n, prm p 5 1), (FC_CTL.QTHR n, prm p 6 1), (FC_CTL.QWIN n, prm p 7 1)]
  let sq := [(FC_LAT.SQ_EN n, prm p 14 1 % 2), (FC_LAT.SQ_BASIN n, prm p 14 1 / 2 % 4), (FC_LAT.SQ_QUEUE n, prm p 15 1)]
  let s := if auto = 0 then s.svcWrite (FC_LAT.addr n) (sq ++ [(FC_LAT.LAT_OFFSET n, prm p 16 4)]) else s.svcWrite (FC_LAT.addr n) sq
  let s := s.svcWrite (WEIR_CTL.addr n) [(WEIR_CTL.LEAD_BASE n, prm p 8 4), (WEIR_CTL.LATE n, prm p 12 1), (WEIR_CTL.KGAIN n, prm p 13 1),
    (WEIR_CTL.COMMIT n, 1)]
  s.awaitCommit c st

/-- CH.ENABLE: enabling sets the weirs' common enable too (R26), then the channel, then its weir; disabling begins with the weir (R137). -/
def State.chEnable (s : State) (c : HostCmd) : State :=
  let p := c.params
  let ns := if prm p 0 1 = 255 then upTo 96 else [prm p 0 1]
  let st := WEIRG_STAT.CFG_REJECT.addr :: ns.flatMap (fun n => [(FC_STAT.CFG_REJECT n).addr, (WEIR_STAT.CFG_REJECT n).addr])
  let s := s.clearCfg st
  if prm p 1 1 = 1 then
    let s := if s.bit WEIRG_CTL.EN then s else s.svcSet WEIRG_CTL.EN 1
    let s := ns.foldl (fun (s : State) n => (s.svcSet (FC_CTL.EN n) 1).svcSet (WEIR_CTL.EN n) 1) s
    s.finishCfg c st
  else
    let s := ns.foldl (fun (s : State) n => s.svcSet (WEIR_CTL.EN n) 0) s
    s.waitCmd c (.channels ns false)

/-- CH.PARTNER. -/
def State.chPartner (s : State) (c : HostCmd) : State :=
  let n := prm c.params 0 1
  let x := s.chan n
  let hello := (x.partner.map (fun (p : Partner) => p.hello)).getD []
  let least := match x.rtts with
    | [] => 0
    | r :: rs => rs.foldl min r
  s.finishCmd c 0 0 (slice hello 0 64 ++ leBytes 1 (s.fcState n) ++ leBytes 1 (s.fld (FC_STAT.TCLASS n)) ++ leBytes 1 (s.fld (FC_STAT.EPOCH n)) ++
    zeros 1 ++ leBytes 4 (BitVec.ofInt 32 (delayOf x.rtts)).toNat ++ leBytes 4 (BitVec.ofInt 32 (s.lat n)).toNat ++
    leBytes 4 (BitVec.ofInt 32 least).toNat ++ zeros 16)

/-- Name an entry of the ADT window. -/
def State.adtSelect (s : State) (tbl index : Nat) : State :=
  ((s.setFld ADT_SEL.TBL tbl).setFld ADT_SEL.INDEX index).setFld ADT_WIDX.WIDX 0

/-- CH.TABLE: each entry is one window WRITE (R86, R114). -/
def State.chTable (s : State) (c : HostCmd) : State :=
  let p := c.params
  let t := prm p 0 2
  let k := entryLen t
  let st := [ADT_STAT.CFG_REJECT.addr]
  let s := (s.clearCfg st).setFld ADT_MASK.MASK (prm p 8 8)
  let s := (upTo (prm p 2 2)).foldl (fun (s : State) i =>
    let s := s.adtSelect t (prm p 4 4 + i)
    let e := slice p (16 + i * k) k
    let s := { s with adt := { s.adt with buf := (upTo (k / 4)).foldl (fun b j =>
      Tab.set (fun _ => 0) b j (BitVec.ofNat 32 (leAt e (4 * j) 4))) s.adt.buf } }
    s.adtWrite) s
  s.finishCfg c st

/-- CH.TABLEREAD: a window READ for each entry that the result takes. -/
def State.chTableread (s : State) (c : HostCmd) : State :=
  let p := c.params
  let t := prm p 0 2
  let k := entryLen t
  let room := (if c.rbuf then max c.rlen 16 else 16) / k
  let (items, s) := (upTo (min room (prm p 2 2))).foldl (fun (a : List (List Byte) × State) i =>
    let s := (a.2.adtSelect t (prm p 4 4 + i)).adtRead
    (a.1 ++ [(upTo (k / 4)).flatMap (fun j => leBytes 4 (Tab.get (fun _ => 0) s.adt.buf j).toNat)], s)) ([], s)
  s.finishList c k items

/-- CH.STATS. -/
def State.chStats (s : State) (c : HostCmd) : State :=
  let n := prm c.params 0 1
  s.finishCmd c 0 0 (s.peeks [FC_STAT.addr n, FC_FAULT.addr n, FC_VIOL.addr n, FC_LAT.addr n, WEIR_STAT.addr n, WEIR_SLACK.addr n,
    WEIR_MISS.addr n] ++ zeros 4)

/-- CH.SPEED (R111 to R113). -/
def State.chSpeed (s : State) (c : HostCmd) : State :=
  let p := c.params
  let st := [WEIRG_STAT.CFG_REJECT.addr]
  let s := s.clearCfg st
  let s := s.svcWrite WEIRG_SPEED.AXIS.addr [(WEIRG_SPEED.AXIS, prm p 0 1), (WEIRG_SPEED.N, prm p 1 1), (WEIRG_SPEED.CLR_REVS, prm p 2 1),
    (WEIRG_SPEED.HYST, prm p 3 1)]
  let s := s.svcWrite WEIRG_CTL.EN.addr [(WEIRG_CTL.SPD_CLR, prm p 8 1 % 2), (WEIRG_CTL.SPD_PIN_EN, prm p 8 1 / 2 % 2)]
  let s := s.svcWrite WEIRG_SPDREQ.REQ.addr [(WEIRG_SPDREQ.RATED, prm p 4 2), (WEIRG_SPDREQ.REQ, prm p 6 2)]
  s.awaitCommit c st

/-- AX.CONFIG (R73). -/
def execAxConfig (q : Fin 16) (s : State) : Host.Outcome State Fault Refusal :=
  run s (fun s => s.runCmd q 0x0201 (fun s c => s.axConfig c))

/-- AX.PORT. -/
def execAxPort (q : Fin 16) (s : State) : Host.Outcome State Fault Refusal :=
  run s (fun s => s.runCmd q 0x0202 (fun s c => s.axPort c))

/-- AX.QUERY (R70, R72). -/
def execAxQuery (q : Fin 16) (s : State) : Host.Outcome State Fault Refusal :=
  run s (fun s => s.runCmd q 0x0203 (fun s c => s.axQuery c))

/-- CH.CONFIG. -/
def execChConfig (q : Fin 16) (s : State) : Host.Outcome State Fault Refusal :=
  run s (fun s => s.runCmd q 0x0301 (fun s c => s.chConfig c))

/-- CH.ENABLE (R137). -/
def execChEnable (q : Fin 16) (s : State) : Host.Outcome State Fault Refusal :=
  run s (fun s => s.runCmd q 0x0302 (fun s c => s.chEnable c))

/-- CH.PARTNER. -/
def execChPartner (q : Fin 16) (s : State) : Host.Outcome State Fault Refusal :=
  run s (fun s => s.runCmd q 0x0303 (fun s c => s.chPartner c))

/-- CH.TABLE (R86). -/
def execChTable (q : Fin 16) (s : State) : Host.Outcome State Fault Refusal :=
  run s (fun s => s.runCmd q 0x0304 (fun s c => s.chTable c))

/-- CH.TABLEREAD. -/
def execChTableread (q : Fin 16) (s : State) : Host.Outcome State Fault Refusal :=
  run s (fun s => s.runCmd q 0x0305 (fun s c => s.chTableread c))

/-- CH.STATS. -/
def execChStats (q : Fin 16) (s : State) : Host.Outcome State Fault Refusal :=
  run s (fun s => s.runCmd q 0x0306 (fun s c => s.chStats c))

/-- CH.SPEED (R111). -/
def execChSpeed (q : Fin 16) (s : State) : Host.Outcome State Fault Refusal :=
  run s (fun s => s.runCmd q 0x0307 (fun s c => s.chSpeed c))

end Sys2Proof.Machine
end

