-- ==== Sys2Proof/Machine/CmdChan.lean ====
section
/-!
DEFINITION. The commands of the field channels (chapter 5).
-/

namespace Sys2Proof.Machine

/-- A write of 1 to FC_CTL.EN (R131). -/
def execFcEnable (n : Fin 96) (s : State) : Host.Outcome State Fault Refusal :=
  run s (fun s => (s.fcEnable n).fcWritten n)

/-- A write of 0 to FC_CTL.EN (R137). -/
def execFcDisable (n : Fin 96) (s : State) : Host.Outcome State Fault Refusal :=
  run s (fun s => (s.fcDisable n).fcWritten n)

/-- A stopping channel has sent idle sets for 1 µs (R137). -/
def execFcStopComplete (n : Fin 96) (s : State) : Host.Outcome State Fault Refusal := run s (fun s => s.fcStopped n)

/-- A write of 1 to FC_CTL.VIOL_CLR (R150). -/
def execFcViolClr (n : Fin 96) (s : State) : Host.Outcome State Fault Refusal := run s (fun s => (s.violClear n).fcWritten n)

/-- A group PLL locks (R116). -/
def execGroupPllLock (g : Fin 12) (s : State) : Host.Outcome State Fault Refusal := run s (fun s => s.groupLock g)

/-- A group PLL loses lock (R116). -/
def execGroupPllLoss (g : Fin 12) (s : State) : Host.Outcome State Fault Refusal := run s (fun s => s.groupLoss g)

/-- The receiver gains symbol lock (R131). -/
def execSymbolLock (n : Fin 96) (s : State) : Host.Outcome State Fault Refusal := run s (fun s => s.symbolLock n)

/-- The receiver loses symbol lock (R119). -/
def execSymbolLockLoss (n : Fin 96) (s : State) : Host.Outcome State Fault Refusal := run s (fun s => s.symbolLoss n)

/-- A HELLO is due in HELLO (R131). -/
def execHelloTimer (n : Fin 96) (s : State) : Host.Outcome State Fault Refusal := run s (fun s => s.helloTimer n)

/-- An attempt not UP by 1 ms (R131). -/
def execLinkupAttemptTimeout (n : Fin 96) (s : State) : Host.Outcome State Fault Refusal := run s (fun s => s.attemptTimeout n)

/-- A further attempt 100 µs after a failed one (R135). -/
def execRetrainAttempt (n : Fin 96) (s : State) : Host.Outcome State Fault Refusal := run s (fun s => s.retrainAttempt n)

/-- A frame of one type arrives; a command that names another type than its frame has does nothing. -/
def State.rxOfType (s : State) (n : Fin 96) (f : Frame) (fine : Fin 8) (type : BitVec 4) : State :=
  if f.type = type then s.rxFrame n f fine false else s

/-- A partner's HELLO frame (R133). -/
def execFcRxHello (n : Fin 96) (f : Frame) (s : State) : Host.Outcome State Fault Refusal := run s (fun s => s.rxOfType n f 0 1)

/-- A partner's IDLE frame (R130). -/
def execFcRxIdle (n : Fin 96) (f : Frame) (s : State) : Host.Outcome State Fault Refusal := run s (fun s => s.rxOfType n f 0 0)

/-- A partner's ACK frame (R126). -/
def execFcRxAck (n : Fin 96) (f : Frame) (s : State) : Host.Outcome State Fault Refusal := run s (fun s => s.rxOfType n f 0 3)

/-- A partner's NAK frame (R125). -/
def execFcRxNak (n : Fin 96) (f : Frame) (s : State) : Host.Outcome State Fault Refusal := run s (fun s => s.rxOfType n f 0 4)

/-- A partner's SYNC frame, stamped at its ingress (R139). -/
def execFcRxSync (n : Fin 96) (f : Frame) (fine : Fin 8) (s : State) : Host.Outcome State Fault Refusal :=
  run s (fun s => s.rxOfType n f fine 5)

/-- A partner's ANGLE frame (R146). -/
def execFcRxAngle (n : Fin 96) (f : Frame) (s : State) : Host.Outcome State Fault Refusal := run s (fun s => s.rxOfType n f 0 6)

/-- A partner's VERIFY frame (R145). -/
def execFcRxVerify (n : Fin 96) (f : Frame) (s : State) : Host.Outcome State Fault Refusal := run s (fun s => s.rxOfType n f 0 7)

/-- A partner's SENSE frame (R147). -/
def execFcRxSense (n : Fin 96) (f : Frame) (s : State) : Host.Outcome State Fault Refusal := run s (fun s => s.rxOfType n f 0 8)

/-- A partner's STATUS frame (R147). -/
def execFcRxStatus (n : Fin 96) (f : Frame) (s : State) : Host.Outcome State Fault Refusal := run s (fun s => s.rxOfType n f 0 9)

/-- Refused sense messages are posted again (R147). -/
def execSensePostRetry (n : Fin 96) (s : State) : Host.Outcome State Fault Refusal := run s (fun s => s.senseRetry n)

/-- A frame was damaged on the link (R121). -/
def execFcRxBadFrame (n : Fin 96) (k : BadFrame) (s : State) : Host.Outcome State Fault Refusal := run s (fun s => s.rxBad n k)

/-- A frame that breaks a rule of R519; `overrun` says that more payload followed than 512 bytes. -/
def execFcRxViolation (n : Fin 96) (f : Frame) (overrun : Bool) (s : State) : Host.Outcome State Fault Refusal :=
  run s (fun s => s.rxFrame n f 0 overrun)

/-- A quarantine not UP after 1 ms (R154). -/
def execQuarantineTimeout (n : Fin 96) (s : State) : Host.Outcome State Fault Refusal := run s (fun s => s.quarTimeout n)

/-- The channel ends the frame in progress or sends its next one (R129). -/
def execFcTxFrame (n : Fin 96) (fine : Fin 8) (s : State) : Host.Outcome State Fault Refusal := run s (fun s => s.fcTransmit n fine)

/-- The oldest unacknowledged frame has timed out (R125). -/
def execResendTimeout (n : Fin 96) (s : State) : Host.Outcome State Fault Refusal := run s (fun s => s.resendTimeout n)

/-- 4 µs without sending (R130). -/
def execIdleKeepalive (n : Fin 96) (s : State) : Host.Outcome State Fault Refusal := run s (fun s => s.keepAlive n)

/-- 40 µs without a valid frame (R130). -/
def execSilence (n : Fin 96) (s : State) : Host.Outcome State Fault Refusal := run s (fun s => s.silence n)

/-- A SYNC exchange starts (R138). -/
def execSyncPeriod (n : Fin 96) (fine : Fin 8) (s : State) : Host.Outcome State Fault Refusal := run s (fun s => s.syncReq n fine)

/-- A RESP has not come within 20 µs (R138). -/
def execSyncRespMissed (n : Fin 96) (s : State) : Host.Outcome State Fault Refusal := run s (fun s => s.syncMissed n)

/-- A SAFE frame is due (R148). -/
def execSafeFrameTimer (n : Fin 96) (s : State) : Host.Outcome State Fault Refusal := run s (fun s => s.safeTimer n)

end Sys2Proof.Machine
end

