-- ==== Sys2Proof/Machine/CmdCoh.lean ====
section
/-!
DEFINITION. The messages of the mere rings, each as a command, and the basin commands (chapter 11). A request reaches its home as it is
sent; answers stay in flight until their command delivers them.
-/

namespace Sys2Proof.Machine

/-- May the L2 at a stop send a request for a line itself: it works, and the line belongs to the basin's coherent regions? -/
def State.l2Works (s : State) (b : Nat) (r : Fin 17) (line : Nat) : Bool :=
  let p := stopPond b r.val
  !s.fencedBasin b && s.fld (POND_STAT.ROLE p) != 2 && !s.isGated p && s.bit (L2_CTL.EN p) && s.coherentIn b line && s.dramServes (64 * line)

/-- A miss (Table 11-6, state I): a way is taken and the request leaves. -/
def State.l2Miss (s : State) (b : Nat) (r : Fin 17) (line : Nat) (store : Bool) : State :=
  let p := stopPond b r.val
  if s.l2Works b r line && (s.l2 p line).st == .i && !s.lineHeld p line then
    match s.takeWay p line with
    | (none, s) => s
    | (some w, s) =>
      (s.setL2 p line { st := if store then .imd else .isd, way := w, data := zeros 64, poison := 0 }).l2Send b r line
        (if store then .getm else .gets)
  else s

/-- An uncached request of a master arrives at the home of a basin-coherent line (R324). -/
def State.homeUncached (s : State) (b : Nat) (r : Option (Fin 17)) (line : Nat) (req : HomeReq) : State :=
  if s.fencedBasin b || !s.coherentIn b line || !s.dramServes (64 * line) then s
  else s.homeRequest b line { who := r, req := req, ticket := none }

/-- A snoop of kind `k` passes a stop, having passed those before it: each adds its answer to the combined response (R325). -/
def State.snoopAt (s : State) (b : Nat) (r : Fin 17) (line : Nat) (k : Snoop) : State :=
  match (s.homeLine b line).txn with
  | some t =>
    if t.busy.snoop == k && t.busy != .f then
      ((List.finRange 17).filter (fun q => decide (q ≤ r))).foldl (fun (s : State) q => s.addAnswer b line q) s
    else s
  | none => s

/-- MSG of the refused request a requester holds for a line; 31 for none (Table 11-15). -/
def State.nackedCode (s : State) (b : Nat) (r : Option (Fin 17)) (line : Nat) : Nat :=
  match (s.basin b).nacked.find? (fun n => n.msg.who == r && n.line.toNat == line) with
  | some n => n.msg.req.code
  | none => 31

/-- SNPF reaches a stop (R336). -/
def State.flushOne (s : State) (b : Nat) (r : Fin 17) (set : Nat) : State :=
  let key := flushKey set
  match (s.homeLine b key).txn with
  | some t =>
    if (Tab.get (fun _ => none) t.answers r.val).isSome then s
    else
      let s := (s.deliverBefore b r t.seq (s.basin b).flights.length).flushStop b r.val set
      let h := s.homeLine b key
      s.setHome b key { h with txn := some { t with answers := Tab.set (fun _ => none) t.answers r.val (some .ackI) } }
  | none => s

/-- SNPF passes a stop, having passed those before it (R325, R336). -/
def State.flushAt (s : State) (b : Nat) (r : Fin 17) (set : Nat) : State :=
  ((List.finRange 17).filter (fun q => decide (q ≤ r))).foldl (fun (s : State) q => s.flushOne b q set) s

/-- An uncorrectable error in a filter set: the flush of the set begins (R336). -/
def State.filterLost (s : State) (b set : Nat) : State :=
  let key := flushKey set
  let s := s.raiseAt (Flt.BASIN_SF_UE b) 0 (ringInfo 17 31) 0
  if (s.homeLine b key).txn.isSome then s
  else
    let m : HomeMsg := { who := none, req := .ucrd, ticket := none }
    s.setHome b key { s.homeLine b key with txn := some { busy := .f, msg := m, answers := [], seq := (s.basin b).nextSeq } }

/-- A load misses in the L2 at a stop: GETS (Table 11-6). -/
def execGets (b : Fin 4) (r : Fin 17) (line : LineNo) (resends : Nat)
    (s : State) : Host.Outcome State Fault Refusal :=
  run s (fun s => s.overRing b resends r.val 0 line.toNat (fun s => s.l2Miss b r line.toNat false))

/-- A store misses: GETM. -/
def execGetm (b : Fin 4) (r : Fin 17) (line : LineNo) (resends : Nat)
    (s : State) : Host.Outcome State Fault Refusal :=
  run s (fun s => s.overRing b resends r.val 1 line.toNat (fun s => s.l2Miss b r line.toNat true))

/-- A store to a line in S: UPG. -/
def execUpg (b : Fin 4) (r : Fin 17) (line : LineNo) (resends : Nat)
    (s : State) : Host.Outcome State Fault Refusal :=
  run s (fun s => s.overRing b resends r.val 2 line.toNat (fun s =>
    let p := stopPond b r.val
    let l := s.l2 p line.toNat
    if s.l2Works b r line.toNat && l.st == .s then (s.setL2 p line.toNat { l with st := .smg }).l2Send b r line.toNat .upg else s))

/-- A line in M is written back: PUTM, with KEEP for a clean (R279, R327). -/
def execPutm (b : Fin 4) (r : Fin 17) (line : LineNo) (keep : Bool) (resends : Nat)
    (s : State) : Host.Outcome State Fault Refusal :=
  run s (fun s => s.overRing b resends r.val 3 line.toNat (fun s =>
    let p := stopPond b r.val
    let l := s.l2 p line.toNat
    if s.l2Works b r line.toNat && l.st == .m && decide (s.wbLines p < 8) then
      (s.setL2 p line.toNat { l with st := .mia keep }).l2Send b r line.toNat (.putm l.data l.poison keep)
    else s))

/-- A clean line leaves the L2: PUTC (R330). -/
def execPutc (b : Fin 4) (r : Fin 17) (line : LineNo) (resends : Nat)
    (s : State) : Host.Outcome State Fault Refusal :=
  run s (fun s => s.overRing b resends r.val 4 line.toNat (fun s =>
    let p := stopPond b r.val
    let l := s.l2 p line.toNat
    if s.l2Works b r line.toNat && (l.st == .s || l.st == .e) then (s.setL2 p line.toNat { l with st := .i }).removeHolder b line.toNat r
    else s))

/-- An uncached read arrives at the home: UCRD (R324). -/
def execUcrd (b : Fin 4) (r : Option (Fin 17)) (line : LineNo) (resends : Nat)
    (s : State) : Host.Outcome State Fault Refusal :=
  run s (fun s => s.overRing b resends (ringStop r) 5 line.toNat (fun s => s.homeUncached b r line.toNat .ucrd))

/-- An uncached or NT write arrives at the home: UCWR with its byte mask (R324). -/
def execUcwr (b : Fin 4) (r : Option (Fin 17)) (line : LineNo) (bytes : List (Option Byte)) (poison : BitVec 8) (resends : Nat)
    (s : State) : Host.Outcome State Fault Refusal :=
  run s (fun s => s.overRing b resends (ringStop r) 6 line.toNat (fun s => if bytes.length = 64 then s.homeUncached b r line.toNat (.ucwr bytes poison) else s))

/-- A combined response returns to the home; `resends` hops were sent again (R325, R331). -/
def execCombinedResponse (b : Fin 4) (line : LineNo) (resends : Nat) (s : State) : Host.Outcome State Fault Refusal :=
  run s (fun s => s.overRing b resends 17 31 line.toNat (fun s => s.combined b line.toNat))

/-- SNPS passes a stop. -/
def execSnps (b : Fin 4) (r : Fin 17) (line : LineNo) (resends : Nat)
    (s : State) : Host.Outcome State Fault Refusal :=
  run s (fun s => s.overRing b resends r.val 7 line.toNat (fun s => s.snoopAt b r line.toNat .s))

/-- SNPI passes a stop. -/
def execSnpi (b : Fin 4) (r : Fin 17) (line : LineNo) (resends : Nat)
    (s : State) : Host.Outcome State Fault Refusal :=
  run s (fun s => s.overRing b resends r.val 8 line.toNat (fun s => s.snoopAt b r line.toNat .i))

/-- SNPD passes a stop. -/
def execSnpd (b : Fin 4) (r : Fin 17) (line : LineNo) (resends : Nat)
    (s : State) : Host.Outcome State Fault Refusal :=
  run s (fun s => s.overRing b resends r.val 9 line.toNat (fun s => s.snoopAt b r line.toNat .d))

/-- SNPF passes a stop (R336). -/
def execSnpf (b : Fin 4) (r : Fin 17) (set : BitVec 11) (resends : Nat)
    (s : State) : Host.Outcome State Fault Refusal :=
  run s (fun s => s.overRing b resends r.val 10 0 (fun s => s.flushAt b r set.toNat))

/-- The message arrives at an L2 if it is the next one in flight to it (Table 11-7, R325). -/
def execDataS (b : Fin 4) (r : Fin 17) (line : LineNo) (resends : Nat)
    (s : State) : Host.Outcome State Fault Refusal :=
  run s (fun s => s.overRing b resends r.val 14 line.toNat (fun s => s.arrive b (some r) line.toNat .dataS))

/-- The message arrives at an L2 if it is the next one in flight to it (Table 11-7, R325). -/
def execDataE (b : Fin 4) (r : Fin 17) (line : LineNo) (resends : Nat)
    (s : State) : Host.Outcome State Fault Refusal :=
  run s (fun s => s.overRing b resends r.val 15 line.toNat (fun s => s.arrive b (some r) line.toNat .dataE))

/-- The message arrives at an L2 if it is the next one in flight to it (Table 11-7, R325). -/
def execDataM (b : Fin 4) (r : Fin 17) (line : LineNo) (resends : Nat)
    (s : State) : Host.Outcome State Fault Refusal :=
  run s (fun s => s.overRing b resends r.val 16 line.toNat (fun s => s.arrive b (some r) line.toNat .dataM))

/-- The message arrives at an L2 if it is the next one in flight to it (Table 11-7, R325). -/
def execGrant (b : Fin 4) (r : Fin 17) (line : LineNo) (resends : Nat)
    (s : State) : Host.Outcome State Fault Refusal :=
  run s (fun s => s.overRing b resends r.val 17 line.toNat (fun s => s.arrive b (some r) line.toNat .grant))

/-- The message arrives at an L2 if it is the next one in flight to it (Table 11-7, R325). -/
def execWback (b : Fin 4) (r : Fin 17) (line : LineNo) (resends : Nat)
    (s : State) : Host.Outcome State Fault Refusal :=
  run s (fun s => s.overRing b resends r.val 20 line.toNat (fun s => s.arrive b (some r) line.toNat .wback))

/-- The message arrives at an L2 if it is the next one in flight to it (Table 11-7, R325). -/
def execWbackStale (b : Fin 4) (r : Fin 17) (line : LineNo) (resends : Nat)
    (s : State) : Host.Outcome State Fault Refusal :=
  run s (fun s => s.overRing b resends r.val 21 line.toNat (fun s => s.arrive b (some r) line.toNat .stale))

/-- A NACK arrives at its requester (R335). -/
def execNack (b : Fin 4) (r : Option (Fin 17)) (line : LineNo) (resends : Nat)
    (s : State) : Host.Outcome State Fault Refusal :=
  run s (fun s => s.overRing b resends (ringStop r) 22 line.toNat (fun s => s.arrive b r line.toNat .nack))

/-- A refused request is sent again after its backoff (R335). -/
def execNackResend (b : Fin 4) (r : Option (Fin 17)) (line : LineNo) (resends : Nat)
    (s : State) : Host.Outcome State Fault Refusal :=
  run s (fun s => s.overRing b resends (ringStop r) (s.nackedCode b r line.toNat) line.toNat (fun s => s.resendNacked b r line.toNat))

/-- Uncached read data arrives at its master. -/
def execUdata (b : Fin 4) (r : Option (Fin 17)) (line : LineNo) (resends : Nat)
    (s : State) : Host.Outcome State Fault Refusal :=
  run s (fun s => s.overRing b resends (ringStop r) 18 line.toNat (fun s => s.arrive b r line.toNat .udata))

/-- CMP: an uncached write is complete. -/
def execUcwrComplete (b : Fin 4) (r : Option (Fin 17)) (line : LineNo) (resends : Nat)
    (s : State) : Host.Outcome State Fault Refusal :=
  run s (fun s => s.overRing b resends (ringStop r) 19 line.toNat (fun s => s.arrive b r line.toNat .cmp))

/-- The background scrub rereads a filter set (R333, R336). -/
def execSfScrubStep (b : Fin 4) (set : BitVec 11) (e : EccErr) (s : State) : Host.Outcome State Fault Refusal :=
  run s (fun s =>
    if s.fencedBasin b || !s.bit (SF_CTL.SCRUB_EN b) then s
    else match e with
      | .none => s
      | .ce => s.raiseAt (Flt.BASIN_SF_CE b) 0 (ringInfo 17 31) 0
      | .ue => s.filterLost b set.toNat)

/-- The tasks of a lost basin go on in its adoptive basin (R394); `poisoned` names those whose outputs lie in poisoned journal
entries. -/
def execBasinReplay (b : Fin 4) (poisoned : List (BitVec 48)) (s : State) : Host.Outcome State Fault Refusal :=
  run s (fun s => s.basinReplay b poisoned)

/-- A write of BASIN_CTL.EN (Table 11-13). -/
def execBasinCtlEn (b : Fin 4) (en : Bool) (s : State) : Host.Outcome State Fault Refusal :=
  run s (fun s =>
    if s.fencedBasin b then s.setFld (BASIN_STAT.CFG_REJECT b) 1
    else s.enWrite (BASIN_CTL.EN b) en (fun s => s.basinEnable b en))

end Sys2Proof.Machine
end

