-- ==== Sys2Proof/Machine/CmdDev.lean ====
section
/-!
DEFINITION. Device, host and pattern commands of the command interface (Tables 15-7 and 15-8, R478). Each row runs the first startable
command of its queue.
-/

namespace Sys2Proof.Machine

/-! ### Device commands (Table 15-7, R478) -/

/-- The state of this device (Table 15-13). -/
def State.stateCode (s : State) : Nat := if s.pwr.phase != .ready then 0 else if s.bit SVC_STAT.SAFE then 2 else 1

/-- The result of DEV.INFO (Table 15-13). -/
def State.devInfo (s : State) : List Byte :=
  leBytes 1 1 ++ leBytes 1 s.tree.num ++ leBytes 1 (if s.isWorker then 1 else 0) ++ leBytes 1 s.tree.depth ++
  leBytes 1 (s.fld DEV_ID.SILREV) ++ leBytes 1 (s.fld DEV_CFGMODE.MAP_REV) ++ leBytes 1 (s.fld DEV_ID.CODE) ++ leBytes 1 s.stateCode ++
  leBytes 8 Config.serial.toNat ++ leBytes 4 (s.fld DEV_FW_VER.FW_VER) ++ leBytes 4 (s.fld DEV_UC_VER.UC_VER) ++
  leBytes 4 (s.fld DEV_UC_IMG.UC_IMG) ++ leBytes 1 (s.fld SEC_ARB.COUNT) ++
  leBytes 1 (if s.isWorker then 0 else 1 + s.presentDevices.length) ++ zeros 2 ++ leBytes 8 s.dt.toNat ++ zeros 24

/-- A worker's parent and the port it hangs on (Table 16-1). -/
def parentOf (d : Nat) : Nat × Nat := if d ≤ 8 then (0, d - 1) else (1 + (d - 9) / 7, 1 + (d - 9) % 7)

/-- The state of a worker as its manager knows it. -/
def Worker.stateCode (w : Worker) : Nat := if w.asleep then 3 else if w.safe then 2 else if w.ready then 1 else 0

/-- The result of DEV.TOPO: 8 bytes for each device; those of an absent one are 0. -/
def State.topology (s : State) : List Byte :=
  (leBytes 1 1 ++ zeros 3 ++ leBytes 1 s.stateCode ++ zeros 3) ++
  (upTo 63).flatMap (fun k =>
    let d := k + 1
    let w := s.worker d
    if !w.present then zeros 8
    else leBytes 1 1 ++ leBytes 1 (if d ≤ 8 then 1 else 2) ++ leBytes 1 (parentOf d).1 ++ leBytes 1 (parentOf d).2 ++
      leBytes 1 w.stateCode ++ zeros 3)

/-- DEV.RESET: the entry is written before the reset begins (R492). -/
def State.devReset (s : State) (c : HostCmd) : State :=
  let s := s.finishOk c
  { s with due := s.due ++ [.reset (prm c.params 0 1)] }

/-- DEV.SUMMARY: the last summary of a worker. -/
def State.devSummary (s : State) (c : HostCmd) : State :=
  match (s.worker (prm c.params 0 1)).summary with
  | some b => s.finishCmd c 0 0 (slice b 0 1600)
  | none => s.finishCmd c 0x42 0x11 []

/-- DEV.PORT: a port that is to be enabled and is not goes through DISABLED (R465). -/
def State.devPort (s : State) (c : HostCmd) : State :=
  let t := prm c.params 0 1
  let en := prm c.params 1 1 == 1
  let s :=
    if !en then s.svcSet (TIER_CTL.EN t) 0
    else if s.tierState t = 0 ∨ s.tierState t = 5 then (s.svcSet (TIER_CTL.EN t) 0).svcSet (TIER_CTL.EN t) 1
    else s
  s.waitCmd c (.port t en s.dt)

/-! ### Host commands -/

/-- HOST.QCREATE (R434). -/
def State.qCreate (s : State) (c : HostCmd) : State :=
  let p := c.params
  let q := prm p 0 1
  if (s.qpair q).isSome then s.finishCmd c 0x21 7 []
  else
    let s := (s.setFld (SQ_TAIL.TAIL q) 0).setFld (CQ_HEAD.HEAD q) 0
    let s := s.setQpair q (some (newPair (prm p 8 8) (prm p 16 8) (prm p 2 2) (prm p 4 1) (prm p 1 1) (prm p 5 1) (prm p 6 2)))
    s.finishOk c

/-- HOST.QDELETE: fetching stops at once; the fetched commands complete first. -/
def State.qDelete (s : State) (c : HostCmd) : State :=
  let q := prm c.params 0 1
  match s.qpair q with
  | none => s.finishCmd c 0x42 0x11 []
  | some p => (s.setQpair q (some { p with deleting := true })).waitCmd c (.queue q)

/-- HOST.STATS. -/
def State.hostStats (s : State) (c : HostCmd) : State :=
  let r := (upTo 16).flatMap (fun k => leBytes 4 (Tab.get (fun _ => 0) s.host.stats k))
  let s := if prm c.params 0 1 = 1 then { s with host := { s.host with stats := [] } } else s
  s.finishCmd c 0 0 r

/-- HOST.LOCK (R453). -/
def State.hostLock (s : State) (c : HostCmd) : State :=
  if s.bit HOST_STAT.BAR2_LOCKED then s.finishCmd c 0x30 1 []
  else
    let s := (s.setFld HOST_STAT.BAR2 (prm c.params 0 1)).setBit HOST_STAT.BAR2_LOCKED (Nat.testBit (prm c.params 1 1) 0)
    let s := if Nat.testBit (prm c.params 1 1) 1 then { s with host := { s.host with expOff := true } } else s
    s.finishOk c

/-! ### Pattern commands (Table 15-8, R156 to R159) -/

/-- A row of the source: its elements beyond N are 0. -/
def patRow (src : List Byte) (pitch bits row : Nat) : List Byte :=
  let n := (bits + 7) / 8
  let r := slice src (row * pitch) n
  if bits % 8 = 0 then r else r.take (n - 1) ++ [BitVec.ofNat 8 (leAt r (n - 1) 1 % 2 ^ (bits % 8))]

/-- The tile image of band `t` and stripe `k` (R157); `bits` is the length of a row. -/
def patTile (src : List Byte) (pitch bits rows lb t k : Nat) : List Byte :=
  (upTo (tileH lb)).flatMap (fun j =>
    let row := t * tileH lb + j
    if rows ≤ row then zeros lb else slice (patRow src pitch bits row) (k * lb) lb)

/-- Loading a pattern in progress: the next free address, tile addresses, RAW and VFAIL blocks, and the status and detail that ended it. -/
structure PatRun where
  next   : Nat
  tiles  : List Nat
  raws   : Nat
  vfails : Nat
  status : Nat
  detail : Nat
  deriving DecidableEq, Repr

/-- One tile of a PAT.LOAD: a COMPRESS job that firmware runs. None while DRAM cannot answer. -/
def State.patJob (tile : List Byte) (no stop : Nat) (r : PatRun) (s : State) : Option PatRun × State :=
  let ended (status detail : Nat) : PatRun := { r with status := status, detail := detail }
  let s := (s.setPair CMP_JOB_DST_LO.DST CMP_JOB_DST_HI.DST (BitVec.ofNat 64 r.next)).setFld CMP_JOB_TILE.TILE_NO no
  match s.pickLane none with
  | none => (some (ended (cmpStatus 0x24) 0x124), s)
  | some lane =>
    let e := if !s.bit CMP_CTL.EN || s.cmp.stopping then 0x24 else s.jobRefusal 1 0
    if e ≠ 0 then (some (ended (cmpStatus e) (0x100 + e)), s)
    else match s.presetBytes with
      | (none, s) => (none, s)
      | (some pre, s) =>
        match s.codeJob lane.val 0 [] tile pre with
        | (none, s) => (none, s)
        | (some (h, body, reason), s) =>
          if stop < r.next + blockLen h then (some (ended 0x42 0x10), s)
          else match s.writeBlock r.next s.jobNow.page h body with
            | (false, s) => (none, s)
            | (true, s) =>
              (some { r with next := r.next + blockLen h, tiles := r.tiles ++ [r.next], raws := r.raws + if h.raw then 1 else 0,
                             vfails := r.vfails + if h.vfail then 1 else 0 }, s.blockDone h reason)

/-- The tiles of a PAT.LOAD in order, until one ends it. -/
def State.patTiles (f : Nat → List Byte) (stop : Nat) : List Nat → PatRun → State → Option PatRun × State
  | [], r, s => (some r, s)
  | k :: ks, r, s =>
    if r.status ≠ 0 then (some r, s)
    else match s.patJob (f k) k stop r with
      | (none, s) => (none, s)
      | (some r, s) => State.patTiles f stop ks r s

/-- The pattern descriptor (Table 06-1). -/
def patDesc (p : List Byte) (stripes bands tab : Nat) : List Byte :=
  leBytes 4 (prm p 0 4) ++ leBytes 1 (prm p 4 1) ++ leBytes 1 (prm p 5 1) ++ leBytes 2 (prm p 6 2) ++ leBytes 4 (prm p 8 4) ++
  leBytes 4 (prm p 12 4) ++ leBytes 2 (tileH (prm p 6 2)) ++ leBytes 4 stripes ++ leBytes 4 bands ++ zeros 6 ++ leBytes 8 tab ++ zeros 24

/-- PAT.LOAD with the rows as read: the area holds the descriptor, the tile table and the blocks, in that order. None while DRAM cannot
answer. -/
def State.patLoadRun (s : State) (c : HostCmd) (src : List Byte) : Option State :=
  let p := c.params
  let pat := prm p 0 4
  let lb := prm p 6 2
  let bits := prm p 8 4 * 2 ^ prm p 4 1
  let rows := prm p 12 4
  let stripes := (bits + 8 * lb - 1) / (8 * lb)
  let bands := (rows + tileH lb - 1) / tileH lb
  let dst := prm p 40 8
  let stop := dst + prm p 48 8
  let first := (dst + 64 + 8 * (stripes * bands) + 63) / 64 * 64
  let (x, s) := s.fresh
  let s := s.setPair CMP_JOB_SRC_LO.SRC CMP_JOB_SRC_HI.SRC (BitVec.ofNat 64 (8 * (Config.free x % 2 ^ 38)))
  let s := ((s.setFld CMP_JOB_CFG.LB lb).setFld CMP_JOB_CFG.BITS (prm p 4 1)).setFld CMP_JOB_CFG.PAGE (prm p 5 1)
  let s := (s.setFld CMP_JOB_CFG.PRED (prm p 16 1 % 8)).setFld CMP_JOB_CFG.TSEL (prm p 16 1 / 16)
  let s := s.setFld CMP_JOB_PAT.PAT_ID pat
  if stop < first then some (s.finishCmd c 0x42 0x10 [])
  else
    let tile (k : Nat) : List Byte := patTile src (prm p 32 8) bits rows lb (k / stripes) (k % stripes)
    match s.patTiles tile stop (upTo (stripes * bands)) { next := first, tiles := [], raws := 0, vfails := 0, status := 0, detail := 0 } with
    | (none, _) => none
    | (some r, s) =>
      if r.status ≠ 0 then some (s.finishCmd c r.status r.detail [])
      else match s.masterPut dst (patDesc p stripes bands (dst + 64) ++ r.tiles.flatMap (leBytes 8)) 0 6 with
        | (false, _) => none
        | (true, s) =>
          let s := { s with host := { s.host with patterns := s.host.patterns ++ [(pat, dst, r.tiles.length, r.next - dst)] } }
          some (s.finishCmd c 0 0 (leBytes 8 dst ++ leBytes 4 (r.next - dst) ++ leBytes 2 r.raws ++ leBytes 2 r.vfails))

/-- Does an area of DRAM overlap that of a loaded pattern, or of a retired one that some task dispatched before its drop may still
read (R159)? -/
def State.areaHeld (s : State) (a len : Nat) : Bool :=
  let meets (b n : Nat) : Bool := decide (a < b + n ∧ b < a + len)
  s.host.patterns.any (fun e => meets e.2.1 e.2.2.2) ||
  s.host.dropped.any (fun e => meets e.1 e.2.1 && e.2.2.any (fun t => (s.jrnOf t.1 t.2).isSome))

/-- PAT.LOAD: `rows` is what host memory holds from the source address on. DESIGN CHOICE (assumption 122): an area that holds a pattern
which R159 does not let firmware change is out of range. -/
def State.patLoad (s : State) (c : HostCmd) (rows : List Byte) : State :=
  let p := c.params
  let n := (prm p 12 4 - 1) * prm p 32 8 + (prm p 8 4 * 2 ^ prm p 4 1 + 7) / 8
  if s.host.patterns.any (fun e => e.1 == prm p 0 4) then s.finishCmd c 0x21 7 []
  else if s.areaHeld (prm p 40 8) (prm p 48 8) then s.finishCmd c 0x21 3 []
  else if s.bit CMP_JOB_RES.BUSY then s.finishCmd c 0x11 1 []
  else if prm p 17 1 = 0 then
    if s.hostOk (prm p 24 8) n then (s.patLoadRun c (slice rows 0 n)).getD s else s.finishCmd c 0x24 1 []
  else match s.masterBytes (prm p 24 8) n 6 with
    | (none, _) => s
    | (some (b, ps), t) => if ps.any id then t.finishCmd c 0x50 0x111 [] else (t.patLoadRun c b).getD s

/-- The tasks in the task journals that have been dispatched, by basin. -/
def State.dispatched (s : State) : List (Nat × BitVec 48) :=
  (upTo 4).flatMap (fun b => (s.basin b).jrn.map (fun j => (b, j.taskId)))

/-- PAT.DROP (R159): the pattern is retired at once; its area stays held while a task dispatched before the drop remains. -/
def State.patDrop (s : State) (c : HostCmd) : State :=
  let pat := prm c.params 0 4
  match s.host.patterns.find? (fun e => e.1 == pat) with
  | some e =>
    { s with host := { s.host with patterns := s.host.patterns.filter (fun e => e.1 != pat),
                                   dropped := s.host.dropped ++ [(e.2.1, e.2.2.2, s.dispatched)] } }.finishOk c
  | none => s.finishCmd c 0x42 0x11 []

/-- PAT.LIST. -/
def State.patList (s : State) (c : HostCmd) : State :=
  s.finishList c 24 (s.host.patterns.map (fun e => leBytes 8 e.1 ++ leBytes 8 e.2.1 ++ leBytes 4 e.2.2.1 ++ leBytes 4 e.2.2.2))

/-- One tile of a PAT.VERIFY: a VERIFY job on the block at `a`; the reason. None while DRAM cannot answer. -/
def State.verifyTile (s : State) (a no : Nat) : Option Nat × State :=
  let s := (s.setPair CMP_JOB_SRC_LO.SRC CMP_JOB_SRC_HI.SRC (BitVec.ofNat 64 a)).setFld CMP_JOB_TILE.TILE_NO no
  match s.pickLane none with
  | none => (some 0x24, s)
  | some lane =>
    let e := if !s.bit CMP_CTL.EN || s.cmp.stopping then 0x24 else s.jobRefusal 3 0
    if e ≠ 0 then (some e, s.jobEnd e 0)
    else match s.checkBlock lane.val 0 with
      | (none, s) => (none, s)
      | (some (r, _), s) => (some r, s.jobEnd r 0)

/-- The tiles of a PAT.VERIFY in order: failures, and the first failing tile with its reason. -/
def State.verifyTiles : List (Nat × Nat) → Nat × Nat × Nat → State → Option (Nat × Nat × Nat) × State
  | [], r, s => (some r, s)
  | e :: es, r, s =>
    match s.verifyTile e.1 e.2 with
    | (none, s) => (none, s)
    | (some 0, s) => State.verifyTiles es r s
    | (some (k + 1), s) => State.verifyTiles es (if r.1 = 0 then (1, e.2, k + 1) else (r.1 + 1, r.2)) s

/-- PAT.VERIFY: a VERIFY job on every tile. -/
def State.patVerify (s : State) (c : HostCmd) : State :=
  match s.host.patterns.find? (fun e => e.1 == prm c.params 0 4) with
  | none => s.finishCmd c 0x42 0x11 []
  | some (pat, dst, n, _) =>
    if s.bit CMP_JOB_RES.BUSY then s.finishCmd c 0x11 1 []
    else match s.masterBytes dst (64 + 8 * n) 6 with
      | (none, _) => s
      | (some (b, _), t) =>
        let t := (t.setFld CMP_JOB_PAT.PAT_ID pat).setFld CMP_JOB_CFG.PAGE (leAt b 5 1 % 16)
        match t.verifyTiles ((upTo n).map (fun k => (leAt b (64 + 8 * k) 8, k))) (0, 0, 0) with
        | (none, _) => s
        | (some r, t) => t.finishCmd c 0 0 (leBytes 4 n ++ leBytes 4 r.1 ++ leBytes 4 r.2.1 ++ leBytes 4 r.2.2)

/-- PAT.TABLE: the CMP table group (R170, R48). -/
def State.patTable (s : State) (c : HostCmd) : State :=
  let p := c.params
  let st := [CMP_STAT.CFG_REJECT.addr]
  let s := (s.clearCfg st).svcSet CMP_CTL.FBST (prm p 1 7)
  let s := (s.svcSet CMP_TBL_BASE_LO.BASE (prm p 8 8 / 64 % 2 ^ 26)).svcSet CMP_TBL_BASE_HI.BASE (prm p 8 8 / 2 ^ 32)
  let s := s.svcWrite CMP_TBL.SEL.addr [(CMP_TBL.SEL, prm p 0 1), (CMP_TBL.COMMIT, 1)]
  s.awaitCommit c st

/-- DEV.INFO. -/
def execDevInfo (q : Fin 16) (s : State) : Host.Outcome State Fault Refusal :=
  run s (fun s => s.runCmd q 0x0001 (fun s c => s.finishCmd c 0 0 s.devInfo))

/-- DEV.TOPO. -/
def execDevTopo (q : Fin 16) (s : State) : Host.Outcome State Fault Refusal :=
  run s (fun s => s.runCmd q 0x0002 (fun s c => s.finishCmd c 0 0 s.topology))

/-- DEV.RESET (R492). -/
def execDevReset (q : Fin 16) (s : State) : Host.Outcome State Fault Refusal :=
  run s (fun s => s.runCmd q 0x0003 (fun s c => s.devReset c))

/-- DEV.SUMMARY (R471, R478). -/
def execDevSummary (q : Fin 16) (s : State) : Host.Outcome State Fault Refusal :=
  run s (fun s => s.runCmd q 0x0004 (fun s c => s.devSummary c))

/-- DEV.PORT (R478). -/
def execDevPort (q : Fin 16) (s : State) : Host.Outcome State Fault Refusal :=
  run s (fun s => s.runCmd q 0x0005 (fun s c => s.devPort c))

/-- HOST.QCREATE (R434). -/
def execHostQcreate (q : Fin 16) (s : State) : Host.Outcome State Fault Refusal :=
  run s (fun s => s.runCmd q 0x0010 (fun s c => s.qCreate c))

/-- HOST.QDELETE (R434). -/
def execHostQdelete (q : Fin 16) (s : State) : Host.Outcome State Fault Refusal :=
  run s (fun s => s.runCmd q 0x0011 (fun s c => s.qDelete c))

/-- HOST.STATS. -/
def execHostStats (q : Fin 16) (s : State) : Host.Outcome State Fault Refusal :=
  run s (fun s => s.runCmd q 0x0012 (fun s c => s.hostStats c))

/-- HOST.LOCK (R453). -/
def execHostLock (q : Fin 16) (s : State) : Host.Outcome State Fault Refusal :=
  run s (fun s => s.runCmd q 0x0013 (fun s c => s.hostLock c))

/-- PAT.LOAD (R159, R170): `rows` is what host memory holds from the source address on. -/
def execPatLoad (q : Fin 16) (rows : List Byte) (s : State) : Host.Outcome State Fault Refusal :=
  run s (fun s => s.runCmd q 0x0101 (fun s c => s.patLoad c rows))

/-- PAT.DROP (R159). -/
def execPatDrop (q : Fin 16) (s : State) : Host.Outcome State Fault Refusal :=
  run s (fun s => s.runCmd q 0x0102 (fun s c => s.patDrop c))

/-- PAT.LIST. -/
def execPatList (q : Fin 16) (s : State) : Host.Outcome State Fault Refusal :=
  run s (fun s => s.runCmd q 0x0103 (fun s c => s.patList c))

/-- PAT.VERIFY. -/
def execPatVerify (q : Fin 16) (s : State) : Host.Outcome State Fault Refusal :=
  run s (fun s => s.runCmd q 0x0104 (fun s c => s.patVerify c))

/-- PAT.TABLE (R48). -/
def execPatTable (q : Fin 16) (s : State) : Host.Outcome State Fault Refusal :=
  run s (fun s => s.runCmd q 0x0105 (fun s c => s.patTable c))

end Sys2Proof.Machine
end

