-- ==== Sys2Proof/Machine/CmdReg.lean ====
section
/-!
DEFINITION. The register commands (chapter 2).
-/

namespace Sys2Proof.Machine

/-- A register write of 2^size bytes (R34 to R42): one not aligned to its own size is ignored, one narrower than 32 bits is
ignored and rejected by its block. A 64-bit write is two of these commands, the lower address first. -/
def execRegWrite (who : Requester) (addr : BitVec 24) (size : Fin 3) (v : Word32) (s : State) : Host.Outcome State Fault Refusal :=
  run s (fun s =>
    if addr.toNat % 2 ^ size.val != 0 then s
    else if size.val < 2 then
      let (ok, s) := s.mayAccess who addr.toNat true
      if ok then s.narrowWrite addr.toNat else s
    else s.regWrite who addr.toNat v)

/-- A read of the low half of a pair, which latches the high half (R35). -/
def execPairLoRead (who : Requester) (addr : BitVec 24) (s : State) : Host.Outcome State Fault Refusal :=
  run s (fun s =>
    let (v, s) := s.regRead who addr.toNat
    if isPairLo addr.toNat then s.emit (.read addr.toNat v) else s)

/-- A write of the low half of a pair, which is staged (R36). -/
def execPairLoWrite (who : Requester) (addr : BitVec 24) (v : Word32) (s : State) : Host.Outcome State Fault Refusal :=
  run s (fun s => if isPairLo addr.toNat then s.regWrite who addr.toNat v else s)

/-- A write of the high half of a pair, which commits both (R36). -/
def execPairHiWrite (who : Requester) (addr : BitVec 24) (v : Word32) (s : State) : Host.Outcome State Fault Refusal :=
  run s (fun s => if isPairHi addr.toNat then s.regWrite who addr.toNat v else s)

/-- A block does not answer an access within 10 µs (Table 02-9): the read returns 0, the write is discarded. -/
def execRegTmo (addr : BitVec 24) (s : State) : Host.Outcome State Fault Refusal :=
  run s (fun s => if isRegister addr.toNat then s.raise Flt.DEV_REG_TMO else s)

/-- A write of DEV_CFGMODE by service firmware (R50). -/
def execDevCfgmodeWrite (v : Word32) (s : State) : Host.Outcome State Fault Refusal :=
  run s (fun s => s.regWrite .svc DEV_CFGMODE.addr v)

/-- The fault register that FAULT_ACK names: block code and instance of Table 13-5; instance 128 + n of block 0x7 is the weir's. Lane k of the CMP is instance k + 1. -/
def ackAddr (blk inst : Nat) : Option Nat :=
  if blk = 0x7 ∧ 128 ≤ inst ∧ inst < 224 then some (FaultBit.fld ⟨0x7, inst - 128, 32⟩).addr
  else if blk = 0xB ∧ 1 ≤ inst ∧ inst ≤ 4 then some CMP_LANE.addr
  else if ackInst blk inst then some (FaultBit.fld ⟨blk, inst, 0⟩).addr
  else none

/-- Fault bits of an instance are acknowledged by writing 1 to them (R373). -/
def execFaultAck (blk : Byte) (inst : Byte) (bits : Word32) (s : State) : Host.Outcome State Fault Refusal :=
  run s (fun s =>
    match ackAddr blk.toNat inst.toNat with
    | some a => s.regWrite .svc a bits
    | none => s)

end Sys2Proof.Machine
end

