-- ==== Sys2Proof/Machine/CmdFlt.lean ====
section
/-!
DEFINITION. The fault, security and expert commands of the host (Tables 15-10 and 15-11).
-/

namespace Sys2Proof.Machine

/-! ### Fault commands -/

/-- FLT.ACK (R373). -/
def State.fltAck (s : State) (c : HostCmd) : State :=
  let p := c.params
  match ackAddr (prm p 0 1) (if prm p 1 1 = 1 then 128 + prm p 2 2 else prm p 2 2) with
  | none => s.finishCmd c 0x21 3 []
  | some a =>
    let s := s.writeReg .svc a (prm p 4 4)
    s.finishCmd c 0 0 (s.peeks [a])

/-- FLT.SAFE (R396). -/
def State.fltSafe (s : State) (c : HostCmd) : State :=
  State.finishOk { s with due := s.due ++ [.safe 2 0 0] } c

/-- FLT.RESUME (R398): outside the safe state it has nothing to do. -/
def State.fltResume (s : State) (c : HostCmd) : State :=
  if !s.bit SVC_STAT.SAFE then s.finishOk c
  else if s.mayResume then s.leaveSafe.finishOk c
  else s.finishCmd c 0x40 0 []

/-- The records kept from RSEQ `first` on, oldest first (R379). -/
def State.recordsFrom (s : State) (first n : Nat) : List Record :=
  (s.svc.kept.reverse.filter (fun r => decide ((r.rseq + 65536 - first) % 65536 < 32768))).take n

/-- FLT.LOGBUF (R454): it starts a new log, or stops the log. -/
def State.fltLogbuf (s : State) (c : HostCmd) : State :=
  let p := c.params
  let n := prm p 0 8
  let l : Option LogBuf :=
    if n = 0 then none
    else some { n := n, base := prm p 8 8, head := prm p 16 8, tail := prm p 24 8, count := 0, seen := 0 }
  State.finishOk { s with host := { s.host with log := l } } c

/-- FLT.TAILBUF (R399). -/
def State.fltTailbuf (s : State) (c : HostCmd) : State :=
  let p := c.params
  let s := s.setPair TAIL_BASE_LO.BASE TAIL_BASE_HI.BASE (BitVec.ofNat 64 (prm p 8 8))
  (s.svcSet TAIL_CTL.EN (prm p 0 8 % 2)).finishOk c

/-- An entry of the retirement record as FLT.RECORD gives it. -/
def retiredBytes (e : Retired × Word) : List Byte :=
  (match e.1 with
   | .slot p k => [1#8, BitVec.ofNat 8 p, BitVec.ofNat 8 k, 0#8] ++ zeros 4
   | .pond p => [2#8, BitVec.ofNat 8 p, 0#8, 0#8] ++ zeros 4
   | .rank ch r serial => [3#8, BitVec.ofNat 8 ch, BitVec.ofNat 8 r, 0#8] ++ leBytes 4 serial.toNat) ++ leBytes 8 e.2.toNat

/-- Is an entry of the retirement record one of a strider or a pond? -/
def Retired.inPond (e : Retired) : Bool :=
  match e with
  | .rank _ _ _ => false
  | _ => true

/-- FLT.RECORD (R401, R402): a change acts at the next start. -/
def State.fltRecord (s : State) (c : HostCmd) : State :=
  let i := prm c.params 2 2
  let put (s : State) (l : List (Retired × Word)) : State := { s with svc := { s.svc with retired := l } }
  match prm c.params 0 2 with
  | 0 => s.finishList c 16 (s.svc.retired.map retiredBytes)
  | 1 => (put s (s.svc.retired.filter (fun e => !e.1.inPond))).finishOk c
  | _ =>
    if i < s.svc.retired.length then (put s (s.svc.retired.eraseIdx i)).finishOk c else s.finishCmd c 0x42 0x11 []

/-- The output-log index of a record of a task's chain; 0xFFFF_FFFF where there is none (Table 13-9). -/
def logIndex (j : TaskJrn) (r : Option LogRec) : Nat :=
  match r with
  | some r => Config.logIndex j.taskId.toNat r.ordinal.toNat % 4194304
  | none => 0xFFFFFFFF

/-- A task journal entry (Table 13-9) of basin `b`. -/
def TaskJrn.bytes (j : TaskJrn) (b : Nat) : List Byte :=
  slice j.desc 0 64 ++ leBytes 8 j.dtDispatch.toNat ++ leBytes 2 (j.strider % 1024 + 1024 * b) ++ leBytes 1 j.replays ++
  leBytes 1 (if j.pending then 2 else 1) ++ leBytes 4 j.log.length ++ leBytes 4 j.recv.length ++ leBytes 4 (logIndex j j.log.head?) ++
  leBytes 4 (logIndex j j.log.getLast?) ++ leBytes 4 (logIndex j (j.log[j.cursor]?)) ++ zeros 32

/-- A transaction journal entry (R391, Table 13-11): its state is 0 until a final status that needs a report is written. -/
def XRec.bytes (r : XRec) : List Byte :=
  let final := r.reportDue.isSome
  let code := match r.state with
    | .verified => 5
    | .late => 6
    | .failed => 7
    | _ => 0
  slice r.atx.bytes 0 32 ++ leBytes 6 r.task.toNat ++ zeros 2 ++ leBytes 4 r.ordinal.toNat ++ leBytes 1 r.chan ++
  (if final then leBytes 1 code ++ leBytes 1 r.reason ++ leBytes 1 r.flags else zeros 3) ++
  leBytes 8 r.dtAccept.toNat ++ (if final then leBytes 8 r.dtFinal.toNat else zeros 8)

/-- FLT.JOURNAL (R391, Table 13-9). -/
def State.fltJournal (s : State) (c : HostCmd) : State :=
  let p := c.params
  let found : Option (List Byte) :=
    if prm p 0 1 = 0 then
      (upTo 4).findSome? (fun b => ((s.basin b).jrn.find? (fun j => j.taskId.toNat == prm p 2 6)).map (fun (j : TaskJrn) => j.bytes b))
    else ((s.weir (prm p 1 1)).recs.find? (fun r => r.xid == some (BitVec.ofNat 32 (prm p 8 4)))).map XRec.bytes
  match found with
  | some b => s.finishCmd c 0 0 b
  | none => s.finishCmd c 0x42 0x11 []

/-- FLT.CTL. -/
def State.fltCtl (s : State) (c : HostCmd) : State :=
  let p := c.params
  let f := prm p 2 1
  let m := prm p 3 1
  let s := s.svcWrite SVC_FLTCTL.addr [(SVC_FLTCTL.R_HOLD, prm p 0 1), (SVC_FLTCTL.REPLAY_MAX, prm p 1 1),
    (SVC_FLTCTL.ESTOP_SAFE, f % 2), (SVC_FLTCTL.R_AUTO, f / 2 % 2), (SVC_FLTCTL.C_AUTO, f / 4 % 2)]
  let s := s.svcWrite SVC_BASINMAP.addr [(SVC_BASINMAP.ADOPT0, m % 4), (SVC_BASINMAP.ADOPT1, m / 4 % 4),
    (SVC_BASINMAP.ADOPT2, m / 16 % 4), (SVC_BASINMAP.ADOPT3, m / 64)]
  s.finishOk c

/-! ### Security commands -/

/-- The certificates of the chain, the vendor's first. -/
def State.certList (s : State) : List (List Byte) := Config.vendorCert :: s.sec.certs

/-- Whole items that fit in `n` bytes. -/
def wholeItems : Nat → List (List Byte) → List Byte
  | _, [] => []
  | n, x :: xs => if x.length ≤ n then x ++ wholeItems (n - x.length) xs else []

/-- SEC.INFO: the fixed part, then the certificates that fit whole. -/
def State.secInfo (s : State) (c : HostCmd) : State :=
  let room := if c.rbuf then max c.rlen 16 else 16
  let fixed := leBytes 8 Config.serial.toNat ++ leBytes 1 (maskOf 4 (fun k => (s.slot k).prog)) ++
    leBytes 1 (maskOf 4 (fun k => (s.slot k).revoked)) ++ leBytes 2 s.sec.arb ++ leBytes 2 (s.fld SEC_SIG_IDX.KEYGEN) ++
    leBytes 2 (s.fld SEC_SIG_IDX.BLOCKS)
  s.finishCmd c 0 0 (fixed ++ wholeItems (room - 16) s.certList)

/-- SEC.PAGE (R420, R421): a page that is to be disabled takes its other fields once it is. -/
def State.secPage (s : State) (c : HostCmd) : State :=
  let p := c.params
  let k := prm p 0 1
  let en := prm p 1 1 % 2
  if k = 0 then s.finishCmd c 0x30 2 []
  else if s.bit (SEC_PG_OWN.LOCK k) ∧ prm p 2 2 ≠ s.fld (SEC_PG_OWN.USE k) then s.finishCmd c 0x30 1 []
  else
    let s := s.clearCfg [SEC_STAT.CFG_REJECT.addr]
    let s := if en = 0 then (if s.bit (SEC_PG_CTL.EN k) then s.svcSet (SEC_PG_CTL.EN k) 0 else s)
      else (s.pageFields p).svcSet (SEC_PG_CTL.EN k) 1
    s.waitCmd c (.page k)

/-- SEC.SYSKEY (R419, R467): the workers present get the same. -/
def State.secSyskey (s : State) (c : HostCmd) : State :=
  let load := decide (prm c.params 0 8 = 1)
  let st := [SEC_STAT.CFG_REJECT.addr]
  let s := s.clearCfg st
  let s := if load then s.loadSecret (slice c.params 8 32) else s.keyClear
  let r := s.cfgResult st
  if r.1 ≠ 0 then s.finishCmd c r.1 r.2 []
  else (s.presentDevices.foldl (fun (s : State) d => if d = s.tree.num then s else s.sendSecret d load) s).finishOk c

/-- Bytes 0 to 95 of a quote (Table 14-6). -/
def State.quote (s : State) (nonce : List Byte) : List Byte :=
  leBytes 4 0x41545331 ++ leBytes 4 (s.sec.count % 2 ^ 31 + (if s.sec.ovf then 2 ^ 31 else 0)) ++ leBytes 8 Config.serial.toNat ++
  slice nonce 0 32 ++ slice s.sec.running 0 32 ++ leBytes 8 s.dt.toNat ++ leBytes 4 s.sec.boots ++ leBytes 1 s.sec.arb ++
  leBytes 1 (s.fld SEC_SIG_IDX.KEYGEN) ++ zeros 2

/-- SEC.ATTEST (R415 to R417). -/
def State.secAttest (s : State) (c : HostCmd) : State :=
  match s.takeIndex with
  | none => s.finishCmd c 0x22 0 []
  | some (i, s) =>
    let q := s.quote c.params
    s.finishCmd c 0 0 (q ++ slice (Config.attSign (s.fld SEC_SIG_IDX.KEYGEN) i q) 0 5076 ++ s.chainBytes)

/-- SEC.LOG (R415). -/
def State.secLog (s : State) (c : HostCmd) : State :=
  let l := s.sec.log.zipIdx.map (fun (e : Measure × Nat) => e.1.bytes e.2)
  s.finishList c 64 ((l.drop (prm c.params 0 1)).take (prm c.params 1 1))

/-- SEC.ROLLFWD (R410). -/
def State.secRollfwd (s : State) (c : HostCmd) : State :=
  let n := max s.sec.arb (min s.pwr.secVer 64)
  let s := { s with sec := { s.sec with arb := n } }
  s.finishCmd c 0 0 (leBytes 4 n)

def State.setSlot (s : State) (k : Nat) (v : Slot) : State :=
  { s with sec := { s.sec with slots := Tab.set (fun _ => { hash := [], prog := false, revoked := false }) s.sec.slots k v } }

/-- What a revocation signs (R412): "REVOKE0" and the slot digit, then the serial. -/
def revokeText (k : Nat) : List Byte :=
  [0x52#8, 0x45#8, 0x56#8, 0x4F#8, 0x4B#8, 0x45#8, 0x30#8, BitVec.ofNat 8 (0x30 + k)] ++ leBytes 8 Config.serial.toNat

/-- SEC.SLOT (R412): `sig` is what host memory holds where the command says. -/
def State.secSlot (s : State) (c : HostCmd) (sig : List Byte) : State :=
  let p := c.params
  let k := prm p 0 1
  let n := prm p 48 2
  let sl := s.slot k
  if prm p 1 7 = 1 then
    if sl.prog then s.finishCmd c 0x50 1 []
    else (s.setSlot k { hash := slice p 8 32, prog := true, revoked := false }).finishOk c
  else if !s.hostOk (prm p 40 8) n then s.finishCmd c 0x24 1 []
  else if sl.prog && (upTo 4).any (fun j => s.slotVerifies j (revokeText k) (sig.take n)) then
    (s.setSlot k { sl with revoked := true }).finishOk c
  else s.finishCmd c 0x50 1 []

/-- SEC.RANDOM (R426). -/
def State.secRandom (s : State) (c : HostCmd) : State :=
  let (b, s) := s.freeBytes (prm c.params 0 2)
  s.finishCmd c 0 0 b

/-- SEC.DBGCHAL (R427). -/
def State.secDbgchal (s : State) (c : HostCmd) : State :=
  let (b, s) := s.freeBytes 32
  State.finishCmd { s with sec := { s.sec with chal := some (b, s.dt) } } c 0 0 b

/-- SEC.DBGUNLOCK (R427): the token is the challenge, the serial and the expiry DT, signed under the slot's key. -/
def State.secDbgunlock (s : State) (c : HostCmd) (sig : List Byte) : State :=
  let p := c.params
  let n := prm p 24 2
  if !s.hostOk (prm p 16 8) n then s.finishCmd c 0x24 1 []
  else match s.sec.chal with
    | none => s.finishCmd c 0x50 1 []
    | some (ch, since) =>
      let token := ch ++ leBytes 8 Config.serial.toNat ++ leBytes 8 (prm p 0 8)
      if elapsed s.dt since (usTicks 60000000) || dtGe s.dt (BitVec.ofNat 64 (prm p 0 8)) || !s.slotVerifies (prm p 8 8) token (sig.take n) then
        s.finishCmd c 0x50 1 []
      else (s.debugOpen token).finishOk c

/-! ### Expert commands -/

/-- EXP.RDREG (R34, R35): the registers are read one after the other. -/
def State.expRdreg (s : State) (c : HostCmd) : State :=
  let a := prm c.params 0 4
  let r := (upTo (prm c.params 4 2)).foldl (fun (r : List Byte × State) i =>
    let (v, s) := r.2.regRead .svc (a + 4 * i)
    (r.1 ++ leBytes 4 v.toNat, s)) ([], s)
  r.2.finishCmd c 0 0 r.1

/-- EXP.WRREG (R30). -/
def State.expWrreg (s : State) (c : HostCmd) : State :=
  let p := c.params
  let n := prm p 0 8
  let s := (upTo n).foldl (fun (s : State) i => s.regWrite .svc (prm p (8 + 8 * i) 4) (BitVec.ofNat 32 (prm p (12 + 8 * i) 4))) s
  s.finishCmd c 0 0 (leBytes 4 n)

/-- EXP.RDMEM (R452): a poisoned word reads as ones; a worker's REPLY carries it marked. -/
def State.expRdmem (s : State) (c : HostCmd) : State :=
  let s := s.napEnd
  let a := prm c.params 0 8
  let n := prm c.params 8 4 / 8
  if (upTo n).any (fun i => decide (devAddr (a + 8 * i) = .other)) then s.finishCmd c 0x21 3 []
  else
    let r := (upTo n).foldl (fun (r : List Byte × List Nat × State) i =>
      let (w, bad, s) := r.2.2.portWord (a + 8 * i) 19
      let s := if bad && !c.routed then s.dpFault Flt.HOST_DP_POISON 12 (a + 8 * i) 0 else s
      (r.1 ++ leBytes 8 (if bad && !c.routed then 2 ^ 64 - 1 else w), (if bad then r.2.1 ++ [i] else r.2.1), s)) ([], [], s)
    r.2.2.finishMarked c 0 0 r.1 r.2.1

/-- Write bytes at a device address in pieces that end at 8-byte words. -/
def State.expPut : Nat → Nat → List Byte → State → State
  | 0, _, _, s => s
  | n + 1, a, b, s =>
    if b.isEmpty then s
    else
      let k := 8 - a % 8
      State.expPut n (a + k) (b.drop k) (s.portWrite a 19 ((b.take k).map some))

/-- EXP.WRMEM. -/
def State.expWrmem (s : State) (c : HostCmd) : State :=
  let s := s.napEnd
  let a := prm c.params 0 8
  let n := prm c.params 8 24
  if (upTo n).any (fun i => decide (devAddr (a + i) = .other)) then s.finishCmd c 0x21 3 []
  else (State.expPut (n / 8 + 2) a (slice c.params 32 n) s).finishOk c

/-- The hash of the vendor words as loaded: that of the type 3 measurement of the start. -/
def State.vendorHash (s : State) : List Byte :=
  match s.sec.log.find? (fun m => m.type == 3) with
  | some m => slice m.digest 0 32
  | none => zeros 32

/-- EXP.UCINFO (R268). -/
def State.ucInfo (s : State) : List Byte :=
  let u := s.ucode
  leBytes 4 s.pwr.ucVer.toNat ++ leBytes 4 (s.fld DEV_UC_IMG.UC_IMG) ++ leBytes 2 u.slot ++ leBytes 2 u.nwords ++ leBytes 2 u.nent ++
  leBytes 1 u.status ++ leBytes 1 u.reason ++ leBytes 1 1 ++ zeros 15 ++ s.vendorHash ++ sha256 s.ucWordBytes ++ sha256 s.ucEntryBytes

/-- EXP.UCREAD (R268): words by number in the control store, or decode entries by opcode. -/
def State.expUcread (s : State) (c : HostCmd) : State :=
  let first := prm c.params 2 2
  let n := prm c.params 4 2
  if prm c.params 0 2 = 0 then
    if first < 0x1800 then s.finishCmd c 0x30 0 []
    else if 0x2000 < first + n then s.finishCmd c 0x21 3 []
    else s.finishList c 20 ((upTo n).map (fun i => leBytes 20 (s.ucWord (first + i))))
  else if 64 < first + n then s.finishCmd c 0x21 3 []
  else s.finishList c 8 ((upTo n).map (fun i => leBytes 8 (s.ucEntry (first + i))))

/-- EXP.UCSTAGE (R268): `image` is what host memory holds where the command says. -/
def State.expUcstage (s : State) (c : HostCmd) (image : List Byte) : State :=
  let p := c.params
  let n := prm p 16 4
  let img := slice image 0 n
  if !s.hostOk (prm p 8 8) n then s.finishCmd c 0x24 1 []
  else match s.checkImage img with
    | .inl r =>
      match r with
      | .version => s.finishCmd c 0x22 0 []
      | .key | .signature | .old => s.finishCmd c 0x50 1 []
      | _ => s.finishCmd c 0x21 3 []
    | .inr x =>
      let s := { s with ucode := { s.ucode with staged := img } }
      let s := if prm p 0 8 % 2 = 1 then
          { s with sec := { s.sec with slotCtr := Tab.set (fun _ => 0) s.sec.slotCtr x.slot x.ver.toNat } }
        else s
      s.finishOk c

/-- FLT.ACK (R373). -/
def execFltAck (q : Fin 16) (s : State) : Host.Outcome State Fault Refusal :=
  run s (fun s => s.runCmd q 0x0601 (fun s c => s.fltAck c))

/-- FLT.SAFE (R396). -/
def execFltSafe (q : Fin 16) (s : State) : Host.Outcome State Fault Refusal :=
  run s (fun s => s.runCmd q 0x0602 (fun s c => s.fltSafe c))

/-- FLT.RESUME (R398). -/
def execFltResume (q : Fin 16) (s : State) : Host.Outcome State Fault Refusal :=
  run s (fun s => s.runCmd q 0x0603 (fun s c => s.fltResume c))

/-- FLT.LOG (R379). -/
def execFltLog (q : Fin 16) (s : State) : Host.Outcome State Fault Refusal :=
  run s (fun s => s.runCmd q 0x0604 (fun s c => s.finishList c 32 ((s.recordsFrom (prm c.params 0 2) (prm c.params 2 2)).map Record.bytes)))

/-- FLT.LOGBUF (R454). -/
def execFltLogbuf (q : Fin 16) (s : State) : Host.Outcome State Fault Refusal :=
  run s (fun s => s.runCmd q 0x0605 (fun s c => s.fltLogbuf c))

/-- FLT.TAILBUF (R399). -/
def execFltTailbuf (q : Fin 16) (s : State) : Host.Outcome State Fault Refusal :=
  run s (fun s => s.runCmd q 0x0606 (fun s c => s.fltTailbuf c))

/-- FLT.RECORD (R401). -/
def execFltRecord (q : Fin 16) (s : State) : Host.Outcome State Fault Refusal :=
  run s (fun s => s.runCmd q 0x0607 (fun s c => s.fltRecord c))

/-- FLT.JOURNAL (R391). -/
def execFltJournal (q : Fin 16) (s : State) : Host.Outcome State Fault Refusal :=
  run s (fun s => s.runCmd q 0x0608 (fun s c => s.fltJournal c))

/-- FLT.CTL. -/
def execFltCtl (q : Fin 16) (s : State) : Host.Outcome State Fault Refusal :=
  run s (fun s => s.runCmd q 0x0609 (fun s c => s.fltCtl c))

/-- SEC.INFO. -/
def execSecInfo (q : Fin 16) (s : State) : Host.Outcome State Fault Refusal :=
  run s (fun s => s.runCmd q 0x0701 (fun s c => s.secInfo c))

/-- SEC.PAGE (R420). -/
def execSecPage (q : Fin 16) (s : State) : Host.Outcome State Fault Refusal :=
  run s (fun s => s.runCmd q 0x0702 (fun s c => s.secPage c))

/-- SEC.SYSKEY (R419). -/
def execSecSyskey (q : Fin 16) (s : State) : Host.Outcome State Fault Refusal :=
  run s (fun s => s.runCmd q 0x0703 (fun s c => s.secSyskey c))

/-- SEC.ATTEST (R415). -/
def execSecAttest (q : Fin 16) (s : State) : Host.Outcome State Fault Refusal :=
  run s (fun s => s.runCmd q 0x0704 (fun s c => s.secAttest c))

/-- SEC.LOG (R415). -/
def execSecLog (q : Fin 16) (s : State) : Host.Outcome State Fault Refusal :=
  run s (fun s => s.runCmd q 0x0705 (fun s c => s.secLog c))

/-- SEC.ROLLFWD (R410). -/
def execSecRollfwd (q : Fin 16) (s : State) : Host.Outcome State Fault Refusal :=
  run s (fun s => s.runCmd q 0x0706 (fun s c => s.secRollfwd c))

/-- SEC.SLOT (R412). -/
def execSecSlot (q : Fin 16) (sig : List Byte) (s : State) : Host.Outcome State Fault Refusal :=
  run s (fun s => s.runCmd q 0x0707 (fun s c => s.secSlot c sig))

/-- SEC.RANDOM (R426). -/
def execSecRandom (q : Fin 16) (s : State) : Host.Outcome State Fault Refusal :=
  run s (fun s => s.runCmd q 0x0708 (fun s c => s.secRandom c))

/-- SEC.DBGCHAL (R427). -/
def execSecDbgchal (q : Fin 16) (s : State) : Host.Outcome State Fault Refusal :=
  run s (fun s => s.runCmd q 0x0709 (fun s c => s.secDbgchal c))

/-- SEC.DBGUNLOCK (R427). -/
def execSecDbgunlock (q : Fin 16) (sig : List Byte) (s : State) : Host.Outcome State Fault Refusal :=
  run s (fun s => s.runCmd q 0x070A (fun s c => s.secDbgunlock c sig))

/-- EXP.RDREG (R34). -/
def execExpRdreg (q : Fin 16) (s : State) : Host.Outcome State Fault Refusal :=
  run s (fun s => s.runCmd q 0x0F01 (fun s c => s.expRdreg c))

/-- EXP.WRREG (R30). -/
def execExpWrreg (q : Fin 16) (s : State) : Host.Outcome State Fault Refusal :=
  run s (fun s => s.runCmd q 0x0F02 (fun s c => s.expWrreg c))

/-- EXP.RDMEM (R452). -/
def execExpRdmem (q : Fin 16) (s : State) : Host.Outcome State Fault Refusal :=
  run s (fun s => s.runCmd q 0x0F03 (fun s c => s.expRdmem c))

/-- EXP.WRMEM. -/
def execExpWrmem (q : Fin 16) (s : State) : Host.Outcome State Fault Refusal :=
  run s (fun s => s.runCmd q 0x0F04 (fun s c => s.expWrmem c))

/-- EXP.UCINFO (R268). -/
def execExpUcinfo (q : Fin 16) (s : State) : Host.Outcome State Fault Refusal :=
  run s (fun s => s.runCmd q 0x0F10 (fun s c => s.finishCmd c 0 0 s.ucInfo))

/-- EXP.UCREAD (R268). -/
def execExpUcread (q : Fin 16) (s : State) : Host.Outcome State Fault Refusal :=
  run s (fun s => s.runCmd q 0x0F11 (fun s c => s.expUcread c))

/-- EXP.UCSTAGE (R268). -/
def execExpUcstage (q : Fin 16) (image : List Byte) (s : State) : Host.Outcome State Fault Refusal :=
  run s (fun s => s.runCmd q 0x0F12 (fun s c => s.expUcstage c image))

end Sys2Proof.Machine
end

