-- ==== Sys2Proof/Machine/CmdHost.lean ====
section
/-!
DEFINITION. The host block: queues, doorbells, MSI-X, D3hot and the data port (chapter 15). A worker's PCI Express is held in
reset, so nothing of the host reaches it (R22, Table 01-5).
-/

namespace Sys2Proof.Machine

/-- A DEV.PORT of queue `q` whose port has not reached its state 5 ms after the start completes FAILED (R478). -/
def State.portTimeouts (s : State) (q : Nat) : State :=
  s.host.accepted.foldl (fun (s : State) c =>
    match c.wait with
    | .port t en since =>
      if c.sq % 16 = q ∧ elapsed s.dt since (usTicks 5000) ∧ s.portReached t en = false then s.finishCmd c 0x42 0 [] else s
    | _ => s) s

/-- A write of HOST_CTL.EN by a requester (R457). -/
def State.hostCtlEn (s : State) (who : Requester) (en : Bool) : State :=
  let (ok, s) := s.mayAccess who HOST_CTL.addr true
  if !ok then s
  else match who with
    | .strider _ => s.setFld HOST_STAT.CFG_REJECT 1
    | _ => s.enWrite HOST_CTL.EN en (fun s => s.hostEnable en)

/-- An arbitration round (R437), with what host memory holds then. -/
def execHostArbRound (io : HostIo) (s : State) : Host.Outcome State Fault Refusal := run s (fun s => s.arbRound io)

/-- A submission doorbell is written (R435). -/
def execSqTail (who : Requester) (q : Fin 16) (v : BitVec 12) (s : State) : Host.Outcome State Fault Refusal :=
  run s (fun s => s.regWrite who (SQ_TAIL.addr q) (v.setWidth 32))

/-- A completion doorbell is written (R435). -/
def execCqHead (who : Requester) (q : Fin 16) (v : BitVec 12) (s : State) : Host.Outcome State Fault Refusal :=
  run s (fun s => s.regWrite who (CQ_HEAD.addr q) (v.setWidth 32))

/-- The coalescing time of a queue has passed (R438). -/
def execCqCoalesceTimeout (q : Fin 16) (s : State) : Host.Outcome State Fault Refusal := run s (fun s => s.coalesce q)

/-- A write of HOST_CTL.EN (R434, R457). -/
def execHostCtlEn (who : Requester) (en : Bool) (s : State) : Host.Outcome State Fault Refusal :=
  run s (fun s => s.hostCtlEn who en)

/-- A reset of the HOST block: FLR, hot reset, or the link going down (R431). -/
def execHostReset (linkDown : Bool) (s : State) : Host.Outcome State Fault Refusal := run s (fun s => if s.isWorker then s else s.hostBlockReset linkDown)

/-- The host unmasks a vector (R433). -/
def execMsixUnmask (v : Fin 64) (s : State) : Host.Outcome State Fault Refusal := run s (fun s => if s.isWorker then s else s.msixUnmask v)

/-- The function enters D3hot or returns to D0 (R431). -/
def execD3hot (d3 : Bool) (s : State) : Host.Outcome State Fault Refusal := run s (fun s => if s.isWorker then s else s.powerFunction d3)

/-- DP_ADDR is written, low half first (R36, R450). -/
def execDpAddrWrite (who : Requester) (v : Word) (s : State) : Host.Outcome State Fault Refusal :=
  run s (fun s => (s.regWrite who DP_ADDR_LO.addr (v.setWidth 32)).regWrite who DP_ADDR_HI.addr ((v >>> 32).setWidth 32))

/-- DP_CTL is written (R451). -/
def execDpCtlWrite (who : Requester) (v : Word32) (s : State) : Host.Outcome State Fault Refusal :=
  run s (fun s => s.regWrite who DP_CTL.addr v)

/-- A write TLP to the DP_DATA window (R450): its units with their byte enables. -/
def execDpDataWrite (units : List (BitVec 4 × Word32)) (s : State) : Host.Outcome State Fault Refusal :=
  run s (fun s => if s.isWorker then s else s.napEnd.dpWrite units)

/-- A read TLP of `n` units to the DP_DATA window (R450), with the error that its first access meets. -/
def execDpDataRead (n : Nat) (e : MemErr) (s : State) : Host.Outcome State Fault Refusal :=
  run s (fun s => if s.isWorker then s else State.dpRead n (s.napEnd.dpError e))

/-- 10 µs without a data-port read (R451). -/
def execDpPrefetchExpire (s : State) : Host.Outcome State Fault Refusal := run s (fun s => s.dpExpire)

/-- 5 ms after the start of a DEV.PORT (R478). -/
def execDevPortTimeout (q : Fin 16) (s : State) : Host.Outcome State Fault Refusal := run s (fun s => s.portTimeouts q)

end Sys2Proof.Machine
end

