-- ==== Sys2Proof/Machine/CmdMc.lean ====
section
/-!
DEFINITION. The commands of the memory channels and the region table (chapter 12).
-/

namespace Sys2Proof.Machine

/-- A register write to a memory channel: one that is DOWN refuses it (R404). -/
def State.onMc (s : State) (c : Nat) (f : State → State) : State :=
  if s.mcState c = 5 then s.setFld (MC_STAT.CFG_REJECT c) 1 else f s

/-- A write of MC_RGN_SEL: the entry selected, and its operation (R353). -/
def State.rgnCommand (s : State) (c op : Nat) (idx : BitVec 6) : State :=
  s.onMc c (fun s => (s.setFld (MC_RGN_SEL.INDEX c) idx.toNat).rgnOp c op idx.toNat)

/-- A write of MC_CTL.EN (Table 12-10). -/
def execMcCtlEn (c : Fin 8) (en : Bool) (s : State) : Host.Outcome State Fault Refusal :=
  run s (fun s => s.onMc c (fun s => s.enWrite (MC_CTL.EN c) en (fun s => s.mcEnable c en)))

/-- A refresh interval boundary, the commit point of the channel (R352). -/
def execMcRefresh (c : Fin 8) (s : State) : Host.Outcome State Fault Refusal := run s (fun s => s.mcCommitPoint c)

/-- The patrol scrub reads the next block, or with `map` the next block of a valid map (R360, R363). -/
def execMcScrubStep (c : Fin 8) (e : EccErr) (map : Bool) (s : State) : Host.Outcome State Fault Refusal :=
  run s (fun s => s.scrubStep c e map)

/-- The periodic retrain of one rank (R350); `low` says that a lane stayed below MIN_EYE. -/
def execMcPeriodicRetrain (c : Fin 8) (low : Bool) (s : State) : Host.Outcome State Fault Refusal :=
  run s (fun s => s.periodicRetrain c low)

/-- The DIMM temperatures are read (R351). -/
def execMcTempRead (c : Fin 8) (t : BitVec 8) (s : State) : Host.Outcome State Fault Refusal := run s (fun s => s.tempRead c t)

/-- A write of 1 to MC_TRAIN.START (R351). -/
def execMcTrainStart (c : Fin 8) (s : State) : Host.Outcome State Fault Refusal :=
  run s (fun s => s.onMc c (fun s => s.trainStart c))

/-- A commanded retrain ends with the read and write eyes of the lanes (R351). -/
def execMcRetrainDone (c : Fin 8) (eyes : List (BitVec 8 × BitVec 8)) (s : State) : Host.Outcome State Fault Refusal :=
  run s (fun s => s.trainDone c eyes)

/-- A write of 1 to MC_SPARE.COMMIT (R44, R367). -/
def execMcSpareCommit (c : Fin 8) (s : State) : Host.Outcome State Fault Refusal :=
  run s (fun s => s.onMc c (fun s => s.setFld (MC_SPARE.COMMIT c) 1))

/-- The next block of a migration is copied (R367). -/
def execMigrationStep (c : Fin 8) (e : EccErr) (s : State) : Host.Outcome State Fault Refusal := run s (fun s => s.migrateStep c e)

/-- MC_RGN_SEL.OP 1 (R353). -/
def execMcRgnRead (c : Fin 8) (idx : BitVec 6) (s : State) : Host.Outcome State Fault Refusal :=
  run s (fun s => s.rgnCommand c 1 idx)

/-- MC_RGN_SEL.OP 2 (R353, R354). -/
def execMcRgnWrite (c : Fin 8) (idx : BitVec 6) (s : State) : Host.Outcome State Fault Refusal :=
  run s (fun s => s.rgnCommand c 2 idx)

/-- MC_RGN_SEL.OP 3 (R353). -/
def execMcRgnInvalidate (c : Fin 8) (idx : BitVec 6) (s : State) : Host.Outcome State Fault Refusal :=
  run s (fun s => s.rgnCommand c 3 idx)

/-- MC_RGN_SEL.OP 4 (R353). -/
def execMcRgnRebind (c : Fin 8) (idx : BitVec 6) (s : State) : Host.Outcome State Fault Refusal :=
  run s (fun s => s.rgnCommand c 4 idx)

/-- FILL, or the clearing of a valid map, completes (R360, R361). -/
def execRegionInitDone (s : State) : Host.Outcome State Fault Refusal := run s (fun s => s.fillDone)

end Sys2Proof.Machine
end

