-- ==== Sys2Proof/Machine/CmdPond.lean ====
section
/-!
DEFINITION. The commands of the compression engine, the pond DMA engines, the L2s and pond memory (chapters 6 and 10).
-/

namespace Sys2Proof.Machine

/-! ### Compression engine (chapter 6) -/

/-- CMP_JOB_GO.OP 1 written by service firmware (R170). -/
def execCmpJobCompress (s : State) : Host.Outcome State Fault Refusal := run s (fun s => s.jobStart 1 (jobUse .svc))

/-- CMP_JOB_GO.OP 2 (R170). -/
def execCmpJobDecompress (s : State) : Host.Outcome State Fault Refusal := run s (fun s => s.jobStart 2 (jobUse .svc))

/-- CMP_JOB_GO.OP 3 (R170). -/
def execCmpJobVerify (s : State) : Host.Outcome State Fault Refusal := run s (fun s => s.jobStart 3 (jobUse .svc))

/-- The job ends: `mism` verification mismatches, and the dynamic table that the coder built (R170). -/
def execCmpJobDone (mism : Fin 3) (dyn : List Nat) (s : State) : Host.Outcome State Fault Refusal :=
  run s (fun s => s.jobComplete mism dyn)

/-- A write of 1 to CMP_TBL.COMMIT (R44). -/
def execCmpTblCommit (s : State) : Host.Outcome State Fault Refusal := run s (fun s => (s.setFld CMP_TBL.COMMIT 1).cmpPoint)

/-- The store of the last word of a descriptor to a request port: port 0 is the CMP's, 1 and 2 those of the pond DMA engines
(R172, R296). -/
def State.submitTo (s : State) (w : StrId) (k : Nat) (v : Word) : State :=
  if !s.executes w then s
  else match s.drainStores w with
    | (false, s) => s
    | (true, s) =>
      match s.portStore w k 24 (leBytes 8 v.toNat) with
      | (none, s) => s
      | (some q, s) => s.setStr w { s.str w with run := .waiting q }

/-- A strider writes the last word of a descriptor to the CMP request port (R172). -/
def execCmpRequestSubmit (w : StrId) (v : Word) (s : State) : Host.Outcome State Fault Refusal := run s (fun s => s.submitTo w 0 v)

/-- A lane completes its request (R173 to R177). -/
def execCmpRequestComplete (lane : Fin 4) (crcErr : Fin 3) (s : State) : Host.Outcome State Fault Refusal :=
  run s (fun s => s.cmpComplete lane crcErr)

/-- A submission has waited 2 µs for a full port (R178). -/
def execCmpPortFullTimeout (w : StrId) (s : State) : Host.Outcome State Fault Refusal :=
  run s (fun s =>
    match (s.str w).run with
    | .waiting (.cmpFull t) =>
      if elapsed s.dt t (usTicks 2) then (s.cmpFull w (Tab.get (fun _ => 0) (s.str w).cmpBuf 3)).resume w else s
    | _ => s)

/-- A write of CMP_CTL.EN (R182). -/
def execCmpCtlEn (en : Bool) (s : State) : Host.Outcome State Fault Refusal :=
  run s (fun s => (s.enWrite CMP_CTL.EN en (fun s => s.cmpEnable en)).cmpPoint)

/-! ### Pond DMA, L2 and pond memory (chapter 10) -/

/-- A strider writes the last word of a descriptor to a DMA port (R296). -/
def execDmaRequestSubmit (w : StrId) (e : Fin 2) (v : Word) (s : State) : Host.Outcome State Fault Refusal :=
  run s (fun s => s.submitTo w (e.val + 1) v)

/-- The oldest request of a DMA engine completes (R297). -/
def execDmaRequestComplete (p : Fin 68) (e : Fin 2) (err : MemErr) (s : State) : Host.Outcome State Fault Refusal :=
  run s (fun s => (s.dmaError p e err).dmaComplete p e)

/-- A submission has waited 2 µs for a full engine (R296). -/
def execDmaFullTimeout (w : StrId) (s : State) : Host.Outcome State Fault Refusal :=
  run s (fun s =>
    match (s.str w).run with
    | .waiting (.dmaFull e t) =>
      if elapsed s.dt t (usTicks 2) then (s.dmaBusy w e (Tab.get (fun _ => 0) (s.str w).dmaBuf (4 * e + 3))).resume w else s
    | _ => s)

/-- A register write to a pond: one that is fenced refuses it (R404). -/
def State.onPond (s : State) (p : Fin 68) (f : State → State) : State :=
  if s.fld (POND_STAT.ROLE p) = 2 then s.setFld (POND_STAT.CFG_REJECT p) 1 else f s

/-- L2_MAINT.OP 1: clean by address (R281, R283). -/
def execL2Clean (p : Fin 68) (ahi : BitVec 3) (s : State) : Host.Outcome State Fault Refusal :=
  run s (fun s => s.onPond p (fun s => s.maintOp p 1 ahi))

/-- L2_MAINT.OP 2: invalidate by address (R281, R283). -/
def execL2Invalidate (p : Fin 68) (ahi : BitVec 3) (s : State) : Host.Outcome State Fault Refusal :=
  run s (fun s => s.onPond p (fun s => s.maintOp p 2 ahi))

/-- L2_MAINT.OP 3: clean and invalidate by address (R281, R283). -/
def execL2CleanInvalidate (p : Fin 68) (ahi : BitVec 3) (s : State) : Host.Outcome State Fault Refusal :=
  run s (fun s => s.onPond p (fun s => s.maintOp p 3 ahi))

/-- L2_MAINT.OP 4: clean all (R281, R283). -/
def execL2CleanAll (p : Fin 68) (s : State) : Host.Outcome State Fault Refusal :=
  run s (fun s => s.onPond p (fun s => s.maintOp p 4 0))

/-- L2_MAINT.OP 5: invalidate all (R281, R283). -/
def execL2InvalidateAll (p : Fin 68) (s : State) : Host.Outcome State Fault Refusal :=
  run s (fun s => s.onPond p (fun s => s.maintOp p 5 0))

/-- L2_MAINT.OP 6: clean and invalidate all (R281, R283). -/
def execL2CleanInvalidateAll (p : Fin 68) (s : State) : Host.Outcome State Fault Refusal :=
  run s (fun s => s.onPond p (fun s => s.maintOp p 6 0))

/-- A maintenance operation ends; `tagUe` says it met an uncorrectable tag (R283). -/
def execL2MaintDone (p : Fin 68) (tagUe : Bool) (s : State) : Host.Outcome State Fault Refusal :=
  run s (fun s => s.maintEnd p tagUe)

/-- A write of L2_CTL.EN (R284, R286). -/
def execL2CtlEn (p : Fin 68) (en : Bool) (s : State) : Host.Outcome State Fault Refusal :=
  run s (fun s => s.onPond p (fun s => s.enWrite (L2_CTL.EN p) en (fun s => s.l2Enable p en)))

/-- The L2 reaches its stopped state (R284). -/
def execL2Stopped (p : Fin 68) (s : State) : Host.Outcome State Fault Refusal := run s (fun s => s.l2StopPoint p)

/-- A new window of corrected-error counts (R277). -/
def execL2CeWindow (p : Fin 68) (s : State) : Host.Outcome State Fault Refusal := run s (fun s => s.ceWindow p)

/-- An automatic way disable ends (R277). -/
def execWayDisableDone (p : Fin 68) (s : State) : Host.Outcome State Fault Refusal := run s (fun s => s.wayDone p)

/-- A write of POND_CTL.EN (R301). -/
def execPondCtlEn (p : Fin 68) (en : Bool) (s : State) : Host.Outcome State Fault Refusal :=
  run s (fun s => s.onPond p (fun s => s.enWrite (POND_CTL.EN p) en (fun s => s.pondEnable p en)))

/-- A write of PM_CTL.EN (R302). -/
def execPmCtlEn (p : Fin 68) (en : Bool) (s : State) : Host.Outcome State Fault Refusal :=
  run s (fun s => s.onPond p (fun s => s.enWrite (PM_CTL.EN p) en (fun s => s.pmEnable p en)))

/-- A write of PM_REGION_SEL (R294, Table 10-14). -/
def execPmRegionCommit (p : Fin 68) (master : BitVec 5) (desc : BitVec 3) (commit : Bool)
    (s : State) : Host.Outcome State Fault Refusal :=
  run s (fun s => s.onPond p (fun s => s.writeRegionSel p master desc commit))

/-- A write of 1 to PM_CONFLICT_SEL.CLR (R298). -/
def execPmConflictClr (p : Fin 68) (s : State) : Host.Outcome State Fault Refusal :=
  run s (fun s => s.onPond p (fun s => s.clearConflict p))

/-- A write of 1 to POND_ACK.REARM (R305). -/
def execPondRearm (p : Fin 68) (s : State) : Host.Outcome State Fault Refusal := run s (fun s => s.rearm 0x8 p)

/-- A write of 1 to MARCH_CTL.START (R299). -/
def execMarchStart (p : Fin 68) (s : State) : Host.Outcome State Fault Refusal :=
  run s (fun s => s.onPond p (fun s => s.marchBegin p))

/-- The march ends with the failing rows it met, and the words it could not correct (R299, R300). -/
def execMarchDone (p : Fin 68) (bad : List (Fin 16 × Fin 130)) (ue : List (Fin 16 × Fin 4096)) (s : State) : Host.Outcome State Fault Refusal :=
  run s (fun s => s.marchEnd p bad ue)

end Sys2Proof.Machine
end

