-- ==== Sys2Proof/Machine/CmdPwr.lean ====
section
/-!
DEFINITION. Power states, clocks, resets, pins, temperature, SMBus and JTAG (chapters 17 and 18).
-/

namespace Sys2Proof.Machine

/-! ### What the rows of power, reset and pins do -/

/-- PERST_N moves (R431, R491, R493): a fall is a device reset on a manager with PERST_DEV, else a reset of the HOST block whose
link goes down. -/
def State.perst (s : State) (low : Bool) : State :=
  let on := s.powered
  let s := s.setPin 9 !low
  if !low || !on then s
  else if s.bit PWR_CTL.PERST_DEV && !s.isWorker then
    (s.afterDevice .starting 3).restart (s.fld STRAP.ROLE) (s.fld STRAP.BOOT)
  else s.hostBlockReset true

/-- WAKE_N falls (R489, R509). -/
def State.wakePinFall (s : State) : State :=
  let s := s.setPin 8 false
  (if s.powered then s.pinEdge 4 else s).wakeEvent 0

/-- The wake timer (R489). -/
def State.wakeTimer (s : State) : State :=
  let t := s.pair PWR_WAKE_DT_LO.DT PWR_WAKE_DT_HI.DT
  if t ≠ 0 ∧ dtGe s.dt t then s.wakeEvent 1 else s

/-- The DTs at which a waiting strider is known to wake (R223). -/
def State.knownWakes (s : State) (w : StrId) : List Word :=
  match (s.str w).run with
  | .waiting (.waitt t _) => [t]
  | .waiting (.sleep t) => [t]
  | .waiting (.waitq _ deadline _) => [deadline]
  | .waiting (.waita n target deadline _) =>
    (match s.dtAt n target with
     | .future t => [t.tick]
     | _ => []) ++ [deadline]
  | _ => []

/-- A pond with a known event starts waking ahead of it by its restart time, 18 µs from D-NAP and 3 µs from power gating (R223,
R487). -/
def State.earlyWake (s : State) (p : Fin 68) : State :=
  let lead := if s.napping then usTicks 18 else usTicks 3
  let due (t : Word) : Bool := decide (0 < dtDiff t s.dt ∧ dtDiff t s.dt ≤ lead)
  if s.isGated p.val && (pondStriders p).any (fun w => (s.knownWakes w).any due) then s.napEnd.wakePond p.val else s

/-- The sensors are read; at 140 °C the device trips and stays as in reset (R515, R516). -/
def State.thermSample (s : State) (ts : List (BitVec 16)) : State :=
  let (trip, s) := s.sampleTemps ts
  if trip then { s with pwr := { s.pwr with phase := .tripped } } else s

/-- RST_N rises (R496, R497): it starts a device that is held in reset. -/
def State.rstRise (s : State) (role boot : BitVec 2) (c : StartCfg) : State :=
  if s.pwr.phase = .held ∨ (s.pwr.phase = .starting ∧ s.fld BOOT_STAGE.STAGE = 1) then s.startRom role.toNat boot.toNat c else s

/-- PWR_REQ.TARGET = 1 (R486). -/
def execPwrReqNap (s : State) : Host.Outcome State Fault Refusal := run s (fun s => s.pwrRequest 1)

/-- PWR_REQ.TARGET = 2 (R488). -/
def execPwrReqSleep (s : State) : Host.Outcome State Fault Refusal := run s (fun s => s.pwrRequest 2)

/-- The D-NAP conditions have held for NAP_HOLD µs (R486). -/
def execNapAutoHold (s : State) : Host.Outcome State Fault Refusal := run s (fun s => s.napAuto)

/-- Power goes off at the end of a D-SLEEP entry (R488, Table 17-3). -/
def execDSleepPowerOff (s : State) : Host.Outcome State Fault Refusal := run s (fun s => s.sleepOff)

/-- WAKE_N falls (R489). -/
def execWakeNFall (s : State) : Host.Outcome State Fault Refusal := runAlways s (fun s => s.wakePinFall)

/-- DT has reached PWR_WAKE_DT (R489). -/
def execWakeTimer (s : State) : Host.Outcome State Fault Refusal := runAlways s (fun s => s.wakeTimer)

/-- Activity on a tier port whose detector is armed (R489). -/
def execTierActivityWake (t : Fin 8) (s : State) : Host.Outcome State Fault Refusal :=
  runAlways s (fun s => if (s.tport t).armed then s.wakeEvent 2 else s)

/-- Restoration ends (R489, Table 17-4). -/
def execResumeReady (ok : Bool) (s : State) : Host.Outcome State Fault Refusal := run s (fun s => s.resumeEnd ok)

/-- An idle pond power-gates (R485). -/
def execPondPowerGate (p : Fin 68) (s : State) : Host.Outcome State Fault Refusal := run s (fun s => s.idleGate p)

/-- A pond wakes ahead of a known event (R223). -/
def execPondEarlyWake (p : Fin 68) (s : State) : Host.Outcome State Fault Refusal := run s (fun s => s.earlyWake p)

/-- A PLL loses lock (R482). -/
def execPllLockLoss (k : Fin 8) (s : State) : Host.Outcome State Fault Refusal := run s (fun s => s.pllLost k)

/-- A PLL locks again (R482). -/
def execPllRelock (k : Fin 8) (s : State) : Host.Outcome State Fault Refusal := run s (fun s => s.pllLocked k)

/-- A regulator write is acknowledged or not (R499). -/
def execAvsWriteRetry (ack : Bool) (s : State) : Host.Outcome State Fault Refusal := run s (fun s => s.avsWrite ack)

/-- SETTLE µs after a raise of the voltage (R499). -/
def execAvsSettle (s : State) : Host.Outcome State Fault Refusal := run s (fun s => s.avsSettled)

/-- A path monitor reports low margin (R499). -/
def execVmargin (b : Fin 4) (s : State) : Host.Outcome State Fault Refusal := run s (fun s => s.pathMargin b)

/-- RST_CTL.BLK_GO written with BLK and INST (R494). -/
def execBlkGo (blk : Byte) (inst : BitVec 16) (s : State) : Host.Outcome State Fault Refusal :=
  run s (fun s => s.writeReg .svc RST_CTL.addr (blk.toNat * 2 ^ 24 + inst.toNat * 2 ^ 8 + 4))

/-- RST_CTL.KIND written (R492). -/
def execRstCtlKind (kind : BitVec 2) (s : State) : Host.Outcome State Fault Refusal := run s (fun s => s.rstKind kind.toNat)

/-- RST_N falls (R491, R493). -/
def execRstNFall (s : State) : Host.Outcome State Fault Refusal := runAlways s (fun s => s.afterDevice .held 1)

/-- RST_N rises (R496, R497). -/
def execRstNRise (role boot : BitVec 2) (c : StartCfg) (s : State) : Host.Outcome State Fault Refusal :=
  runAlways s (fun s => s.rstRise role boot c)

/-- VDD_AON rises (R491). -/
def execPowerOn (s : State) : Host.Outcome State Fault Refusal := runAlways s (fun s => s.afterPowerOn)

/-- PERST_N moves (R491). -/
def execPerstN (low : Bool) (s : State) : Host.Outcome State Fault Refusal := runAlways s (fun s => s.perst low)

/-- FILL completes (R496, Table 17-7 step 8). -/
def execReady (s : State) : Host.Outcome State Fault Refusal := run s (fun s => s.goReady)

/-- A rail leaves its range (R505). -/
def execUndervoltage (s : State) : Host.Outcome State Fault Refusal := run s (fun s => s.raise Flt.PWR_UV)

/-- The sensors are read (R515, R516). -/
def execThermSample (ts : List (BitVec 16)) (s : State) : Host.Outcome State Fault Refusal := run s (fun s => s.thermSample ts)

/-- Throttled basins move by 100 MHz (R516). -/
def execThrottleStep (s : State) : Host.Outcome State Fault Refusal :=
  run s (fun s => (upTo 4).foldl (fun (s : State) b => s.throttleMove b) s)

/-- PIN_CTL.CHAIN_TEST written 1 (R508, Table 18-15). -/
def execChainTest (s : State) : Host.Outcome State Fault Refusal := run s (fun s => s.chainStart)

/-- 10 ms after the start of the chain test (Table 18-15). -/
def execChainTestEnd (s : State) : Host.Outcome State Fault Refusal := run s (fun s => s.chainTimeout)

/-- SMBus 0x00 (R512, Table 18-10). -/
def execSmbBootStage (pec : Pec) (s : State) : Host.Outcome State Fault Refusal :=
  runAlways s (fun s => s.smbRead 0x00 pec (leBytes 1 (s.fld BOOT_STAGE.STAGE) ++ leBytes 1 (s.fld BOOT_STAGE.FAIL)))

/-- SMBus 0x01 (Table 18-10). -/
def execSmbState (pec : Pec) (s : State) : Host.Outcome State Fault Refusal :=
  runAlways s (fun s => s.smbRead 0x01 pec (leBytes 2 (s.smbPhase + 8 * s.tree.num)))

/-- SMBus 0x02 (Table 18-10). -/
def execSmbTj (pec : Pec) (s : State) : Host.Outcome State Fault Refusal :=
  runAlways s (fun s => s.smbRead 0x02 pec (leBytes 2 (s.fld THERM_HOT.HOT)))

/-- SMBus 0x03 (Table 18-10). -/
def execSmbPower (pec : Pec) (s : State) : Host.Outcome State Fault Refusal :=
  runAlways s (fun s => s.smbRead 0x03 pec (leBytes 2 (s.fld PWR_MEAS.POWER)))

/-- SMBus 0x04 (Table 18-10). -/
def execSmbSerial (pec : Pec) (s : State) : Host.Outcome State Fault Refusal :=
  runAlways s (fun s => s.smbRead 0x04 pec (leBytes 8 Config.serial.toNat))

/-- SMBus 0x05 (Table 18-10). -/
def execSmbClassDs (pec : Pec) (s : State) : Host.Outcome State Fault Refusal :=
  runAlways s (fun s => s.smbRead 0x05 pec (leBytes 4 s.dsBlocks))

/-- SMBus 0x06 (Table 18-10). -/
def execSmbMcTemp (pec : Pec) (s : State) : Host.Outcome State Fault Refusal :=
  runAlways s (fun s => s.smbRead 0x06 pec ((upTo 8).flatMap (fun c => leBytes 1 (s.fld (MC_TEMP.CUR_T c)))))

/-- SMBus 0x10 to 0x17 (Table 18-10). -/
def execSmbThermSense (k : Fin 8) (pec : Pec) (s : State) : Host.Outcome State Fault Refusal :=
  runAlways s (fun s => s.smbRead (0x10 + k) pec (s.peeks [THERM_SENSE.addr k]))

/-- SMBus ARP assigns an address (R512). -/
def execSmbArp (addr : BitVec 7) (pec : Pec) (s : State) : Host.Outcome State Fault Refusal :=
  runAlways s (fun s => s.smbAssign addr pec)

/-- The Alert Response Address is read (R512). -/
def execSmbAlertResponse (s : State) : Host.Outcome State Fault Refusal := runAlways s (fun s => s.smbAnswer)

/-- JTAG EXTEST (R514, Table 18-11). -/
def execExtest (s : State) : Host.Outcome State Fault Refusal := runAlways s (fun s => s.jtagIr 0x00)

/-- JTAG SAMPLE/PRELOAD (R514, Table 18-11). -/
def execSamplePreload (s : State) : Host.Outcome State Fault Refusal := runAlways s (fun s => s.jtagIr 0x01)

/-- JTAG IDCODE: the ID register is selected (R514, Table 18-11). -/
def execIdcode (s : State) : Host.Outcome State Fault Refusal := runAlways s (fun s => (s.jtagIr 2).emit (.jtag 0x310249AB#32))

/-- JTAG CLAMP (R514, Table 18-11). -/
def execClamp (s : State) : Host.Outcome State Fault Refusal := runAlways s (fun s => s.jtagIr 0x03)

/-- JTAG HIGHZ (R514, Table 18-11). -/
def execHighz (s : State) : Host.Outcome State Fault Refusal := runAlways s (fun s => s.jtagIr 0x04)

/-- JTAG DBG_PORT (R514, Table 18-11). -/
def execDbgPort (s : State) : Host.Outcome State Fault Refusal := runAlways s (fun s => s.jtagIr 0x10)

/-- JTAG MBIST (R514, Table 18-11). -/
def execMbist (s : State) : Host.Outcome State Fault Refusal := runAlways s (fun s => s.jtagIr 0x11)

/-- JTAG BYPASS (R514, Table 18-11). -/
def execBypass (s : State) : Host.Outcome State Fault Refusal := runAlways s (fun s => s.jtagIr 0xFF)

end Sys2Proof.Machine
end

