-- ==== Sys2Proof/Machine/CmdSec.lean ====
section
/-!
DEFINITION. The commands of the security block (chapter 14).
-/

namespace Sys2Proof.Machine

/-- A register access to SEC by a requester that may not reach it is refused (R423, R425). -/
def State.onSec (s : State) (who : Requester) (a : Nat) (f : State → State) : State :=
  let (ok, s) := s.mayAccess who a true
  if !ok then s
  else if !secMay who a then s.setFld SEC_STAT.CFG_REJECT 1
  else f s

/-- A write of 1 to SEC_PG_CTL.EN (R420). -/
def execSecPageEnable (who : Requester) (k : Fin 16) (s : State) : Host.Outcome State Fault Refusal :=
  run s (fun s => s.onSec who (SEC_PG_CTL.addr k) (fun s => s.enWrite (SEC_PG_CTL.EN k) true (fun s => s.pageEnable k)))

/-- A write of 0 to SEC_PG_CTL.EN (R420). -/
def execSecPageDisable (who : Requester) (k : Fin 16) (s : State) : Host.Outcome State Fault Refusal :=
  run s (fun s => s.onSec who (SEC_PG_CTL.addr k) (fun s => s.enWrite (SEC_PG_CTL.EN k) false (fun s => s.pageDisable k)))

/-- The KDF completes (R418); `parity` is a parity error of its data path (R424). -/
def execPageKeyDerived (k : Fin 16) (parity : Bool) (s : State) : Host.Outcome State Fault Refusal :=
  run s (fun s => s.pageDerived k parity)

/-- The operations on a disabled page are done and its key is zeroed (R420). -/
def execPageZeroed (k : Fin 16) (s : State) : Host.Outcome State Fault Refusal := run s (fun s => s.pageZero k)

/-- A write of SEC_KEYLOAD (R419). -/
def execSecKeyload (who : Requester) (v : Word32) (s : State) : Host.Outcome State Fault Refusal :=
  run s (fun s => s.onSec who SEC_KEYLOAD.addr (fun s => s.keyload v))

/-- A write of 1 to SEC_KEYLD_CTL.START (R419). -/
def execSecKeyloadStart (who : Requester) (s : State) : Host.Outcome State Fault Refusal :=
  run s (fun s => s.onSec who SEC_KEYLD_CTL.addr (fun s => s.keyClear))

/-- A write of 1 to SEC_KEYLD_CTL.CLEAR (R420). -/
def execSecKeyloadClear (who : Requester) (s : State) : Host.Outcome State Fault Refusal :=
  run s (fun s => s.onSec who SEC_KEYLD_CTL.addr (fun s => s.keyClear))

/-- A write of 1 to SEC_CTL.OTP_LOCK (R411). -/
def execOtpLock (who : Requester) (s : State) : Host.Outcome State Fault Refusal :=
  run s (fun s => s.onSec who SEC_CTL.addr (fun s => s.otpLocked))

/-- A write of 1 to SEC_RNG_CTL.RESTART (R426). -/
def execRngRestart (who : Requester) (s : State) : Host.Outcome State Fault Refusal :=
  run s (fun s => s.onSec who SEC_RNG_CTL.addr (fun s => s.rngStart))

/-- A restart of the noise source ends (R426). -/
def execRngRestartDone (ok : Bool) (s : State) : Host.Outcome State Fault Refusal := run s (fun s => s.rngBegun ok)

/-- A read of SEC_RNG_DATA (R426). -/
def execRngDataRead (who : Requester) (s : State) : Host.Outcome State Fault Refusal :=
  run s (fun s =>
    let (v, s) := s.regRead who SEC_RNG_DATA.addr
    s.emit (.read SEC_RNG_DATA.addr v))

/-- A window of raw samples completes its health tests (R426). -/
def execRngHealthTest (samples : BitVec 1024) (s : State) : Host.Outcome State Fault Refusal := run s (fun s => s.rngWindow samples)

/-- The mask expander is reseeded (R424). -/
def execMaskReseed (s : State) : Host.Outcome State Fault Refusal := run s (fun s => s.reseed)

/-- A write of SEC_SHA_CTL with INIT = 1 (R425). -/
def execShaInit (who : Requester) (lastb : BitVec 2) (s : State) : Host.Outcome State Fault Refusal :=
  run s (fun s => s.onSec who SEC_SHA_CTL.addr (fun s => s.writeShaCtl (1 + 16 * lastb.toNat)))

/-- A write of SEC_SHA_DATA (R425). -/
def execShaData (who : Requester) (v : Word32) (s : State) : Host.Outcome State Fault Refusal :=
  run s (fun s => s.onSec who SEC_SHA_DATA.addr (fun s => s.shaFeed v))

/-- A write of SEC_SHA_CTL with FINAL = 1 (R425). -/
def execShaFinal (who : Requester) (lastb : BitVec 2) (s : State) : Host.Outcome State Fault Refusal :=
  run s (fun s => s.onSec who SEC_SHA_CTL.addr (fun s => s.writeShaCtl (2 + 16 * lastb.toNat)))

/-- The digest engine finishes (R425). -/
def execShaDone (parity : Bool) (s : State) : Host.Outcome State Fault Refusal := run s (fun s => s.shaFinish parity)

/-- A read of SEC_SHA_DIGEST (R425). -/
def execShaDigestRead (who : Requester) (s : State) : Host.Outcome State Fault Refusal :=
  run s (fun s =>
    let (v, s) := s.regRead who SEC_SHA_DIGEST.addr
    s.emit (.read SEC_SHA_DIGEST.addr v))

end Sys2Proof.Machine
end

