-- ==== Sys2Proof/Machine/CmdSvc.lean ====
section
/-!
DEFINITION. The commands of the service complex: housekeeping, acknowledgement, replay, failover, and the pins that enter the safe state
(chapter 13).
-/

namespace Sys2Proof.Machine

/-! ### Housekeeping and acknowledgement -/

/-- Does service firmware run: READY, or in the part of start-up that firmware makes? -/
def State.fwRuns (s : State) : Bool := s.pwr.phase == .ready || (s.pwr.phase == .starting && decide (3 ≤ s.fld BOOT_STAGE.STAGE))

/-- The fault bit an entry of the acknowledgement list names. -/
def AckDue.bitOf (a : AckDue) : FaultBit := ⟨a.blk, a.inst, a.bit⟩

/-- Does service firmware acknowledge a bit at all (R373)? -/
def AckDue.byFirmware (a : AckDue) : Bool :=
  a.bitOf.row.counts && !(a.blk == 0xF && (a.bit == 5 || a.bit == 3))

/-- At the tick firmware acknowledges class D bits, and the class C bits whose interrupt is masked (Table 13-3). -/
def State.tickAcks (s : State) : State :=
  s.svc.acks.foldl (fun (s : State) a =>
    if a.byFirmware && (a.cls == 2 || (a.cls == 0 && s.bit SVC_FLTCTL.C_AUTO && !s.irqOn a.bitOf)) then s.ack a.bitOf else s) s

/-- The fault bits of a unit that its own checks set, with the capture word (R377; R339 and R341 for a basin; R406, R407). -/
def selfChecked (blk inst : Nat) : List (FaultBit × Nat) :=
  match blk with
  | 0x0 => [(Flt.DEV_REGPAR, 0)]
  | 0x1 => [(Flt.PWR_REGPAR, 0)]
  | 0x2 => [(Flt.TIME_REGPAR, 0)]
  | 0x5 => [(Flt.WEIRG_REGPAR, 0)]
  | 0x6 => [(Flt.ADT_REGPAR, 0)]
  | 0x7 => [(Flt.FC_REGPAR inst, 0), (Flt.WEIR_REGPAR inst, 0)]
  | 0x8 => [(Flt.POND_REGPAR inst, 0)]
  | 0x9 => [(Flt.BASIN_REGPAR inst, ringInfo 17 31), (Flt.BASIN_HOME_DEAD inst, ringInfo 17 31), (Flt.BASIN_JRN_ERR inst, ringInfo 18 31)]
  | 0xA => [(Flt.MC_REGPAR inst, 0), (Flt.MC_CMD_ERR inst, 0)]
  | 0xB => [(Flt.CMP_REGPAR, 0)]
  | 0xC => [(Flt.SEC_REGPAR, 0), (Flt.SEC_OTP_UE, 0), (Flt.SEC_OTP_CE, 0), (Flt.SEC_STORE_LOST, 0), (Flt.SEC_STORE_ERR, 0)]
  | 0xD => [(Flt.HOST_REGPAR, 0)]
  | 0xE => [(Flt.TIER_REGPAR inst, 0)]
  | 0xF => [(Flt.SVC_REGPAR, 0)]
  | 0x10 => [(Flt.THERM_REGPAR, 0)]
  | _ => []

/-- A transaction record is lost with its journal copy (R391): it ends FAILED with reason 0x33, and its report names the channel and no
identity. -/
def State.recordLost (s : State) (n id : Nat) : State :=
  match s.recOf n id with
  | none => s
  | some r =>
    if r.state.final then s
    else
      let s := s.setRec n { r with task := 0, ordinal := 0, atx := atxOf (zeros 32), slipped := false, reissued := false, sentLate := false,
                                   notLearnt := false, lateNo := none }
      ((s.finish n id .failed 0x33).addSat JRN_LOST.TXN 1).raiseAt Flt.SVC_JRN_LOST 0 0 1

/-- A fault that a block's own checks have found (DESIGN CHOICE, log 129: it comes with a housekeeping tick). A record that its journal copy
restores goes on as it was. -/
def State.selfFault (s : State) (f : SelfFault) : State :=
  match f with
  | .bit blk inst b =>
    if allUnits.contains (blk.val, inst.val) then
      ((selfChecked blk.val inst.val).filter (fun e => e.1.bit == b.val)).foldl (fun (s : State) e =>
        (if e.1 == Flt.SEC_OTP_CE then s.addSat SEC_OTP_STAT.CE_CNT 1 else s).raiseAt e.1 0 e.2 0) s
    else s
  | .xrec ch id lost => if lost then s.recordLost ch.val id else s

/-- The housekeeping tick: it counts, writes the records of classes C and R in order (R379), acknowledges, is the commit point of the
slow blocks (Table 02-4), and examines a pending device-state request. -/
def State.houseTick (s : State) : State :=
  if !s.fwRuns then s
  else
    let s := s.addWrap SVC_HB.TICKS 1
    let rs := s.svc.waiting
    let s := { s with svc := { s.svc with waiting := [] } }
    let s := rs.foldl (fun (s : State) r =>
      let (r, s) := s.numberRecord r
      s.writeRecord r) s
    -- a worker's firmware enables an uplink that has gone DOWN again (R465, R477)
    let s := if s.upPort 0 && s.tierState 0 == 5 then (s.tierOff 0).tierOn 0 else s
    (s.tickAcks.slowPoint).powerTick

/-- The entry of the acknowledgement list for a bit. -/
def State.ackDue (s : State) (blk inst bit : Byte) : Option AckDue :=
  s.svc.acks.find? (fun a => a.blk == blk.toNat && a.inst == inst.toNat && a.bit == bit.toNat)

/-! ### Failover and pins -/

/-- A lockstep mismatch in SVC-A (R403). -/
def State.mismatchA (s : State) : State :=
  if s.bit SVC_STAT.STANDBY then (s.raise Flt.SVC_LOCKSTEP).failover
  else s.raiseAs Flt.SVC_LOCKSTEP .s 0 0 0

/-- A filtered fall of PFW_N (R399, Table 13-16): the report is taken from the records as they stand, then the safe state is entered. -/
def State.powerFail (s : State) : State :=
  let before := s.bit SVC_STAT.SAFE
  let r := s.tailReport s.dt before
  let s := { s with svc := { s.svc with pfwAt := some s.dt } }
  let s := (s.enterSafe 5 0 0).setFld SVC_STAT.PFW 1
  let s := (upTo 96).foldl (fun s n => s.safeTimer n) s
  let dtSafe := (s.svc.firstSafe).getD (s.pair SVC_SAFE_DT_LO.DT SVC_SAFE_DT_HI.DT)
  -- a boot push stops (Table 16-10)
  let s := (upTo 8).foldl (fun (s : State) t =>
    s.setTport t { s.tport t with msgs := (s.tport t).msgs.filter (fun m => m.mtype != 6) }) s
  s.tailBegin (patch r 16 (leBytes 8 dtSafe.toNat))

/-- Level of an input of PIN_STAT. -/
def State.pinHigh (s : State) (k : Nat) : Bool := Nat.testBit (s.fld PIN_STAT.LEVEL) k

/-- The housekeeping tick (R374), with what the blocks' own checks have found since the last. -/
def execHousekeepingTick (found : List SelfFault) (s : State) : Host.Outcome State Fault Refusal :=
  run s (fun s => (found.foldl State.selfFault s).houseTick)

/-- Service firmware acknowledges a class C bit whose interrupt is enabled (Table 13-3). -/
def execCAutoAck (blk : Byte) (inst : Byte) (bit : Byte) (s : State) : Host.Outcome State Fault Refusal :=
  run s (fun s =>
    match s.ackDue blk inst bit with
    | some a =>
      if s.fwRuns && a.byFirmware && a.cls == 0 && s.bit SVC_FLTCTL.C_AUTO && s.irqOn a.bitOf then s.ack a.bitOf else s
    | none => s)

/-- With R_AUTO firmware acknowledges a class R bit R_HOLD ms after its recovery (R373). -/
def execRAutoAck (blk : Byte) (inst : Byte) (bit : Byte) (s : State) : Host.Outcome State Fault Refusal :=
  run s (fun s =>
    match s.ackDue blk inst bit with
    | some a =>
      match a.at_ with
      | some t =>
        if s.fwRuns && a.byFirmware && a.cls == 1 && s.bit SVC_FLTCTL.R_AUTO &&
            elapsed s.dt t (usTicks (1000 * s.fld SVC_FLTCTL.R_HOLD)) then s.ack a.bitOf else s
      | none => s
    | none => s)

/-- The tasks of a lost pond are replayed (R383, Table 13-7 step 4). -/
def execTarnReplay (p : Fin 68) (poisoned : List (BitVec 48)) (s : State) : Host.Outcome State Fault Refusal :=
  run s (fun s => s.tarnReplay p poisoned)

/-- A lockstep mismatch in SVC-A (R403). -/
def execSvcFailover (s : State) : Host.Outcome State Fault Refusal := run s (fun s => s.mismatchA)

/-- A filtered fall of ESTOP_N (R396). -/
def execEstopNFall (s : State) : Host.Outcome State Fault Refusal :=
  run s (fun s =>
    if !s.pinHigh 7 then s
    else
      let s := ((s.setPin 7 false).pinEdge 2).captureEvent 10 s.dt s.time.fine
      if s.bit SVC_FLTCTL.ESTOP_SAFE then s.enterSafe 4 0 0 else s)

/-- ESTOP_N rises after `ns` nanoseconds (R509). -/
def execEstopNRise (ns : Nat) (s : State) : Host.Outcome State Fault Refusal := run s (fun s => s.estopRise ns)

/-- A filtered fall of PFW_N (R399). -/
def execPfwNFall (s : State) : Host.Outcome State Fault Refusal :=
  run s (fun s =>
    if !s.pinHigh 6 then s
    else (((s.setPin 6 false).pinEdge 0).captureEvent 9 s.dt s.time.fine).powerFail)

/-- PFW_N rises without a loss of power (R399). -/
def execPfwNRise (s : State) : Host.Outcome State Fault Refusal :=
  run s (fun s => if s.pinHigh 6 then s else (s.setPin 6 true).pinEdge 1)

/-- The details of the tail report and its complete header are written (Table 13-16 step 5). -/
def execTailReportComplete (s : State) : Host.Outcome State Fault Refusal :=
  run s (fun s => if s.svc.pfwAt.isSome then s.tailFinish else s)

/-- A write of 1 to SVC_FLTCTL.SAFE_REQ (R396). -/
def execSafeReq (s : State) : Host.Outcome State Fault Refusal := run s (fun s => { s with due := s.due ++ [.safe 2 0 0] })

end Sys2Proof.Machine
end

