-- ==== Sys2Proof/Machine/CmdTask.lean ====
section
/-!
DEFINITION. Task, memory and power commands of the command interface (Table 15-9).
-/

namespace Sys2Proof.Machine

/-! ### Task commands -/

/-- Run `f` with the queue window of a basin at queue `q`; the window's selection is kept. -/
def State.withQueue (s : State) (b q : Nat) (f : State → State) : State :=
  let old := s.fld (DSP_QSEL.QUEUE b)
  (f (s.setFld (DSP_QSEL.QUEUE b) q)).setFld (DSP_QSEL.QUEUE b) old

/-- TASK.QCONFIG (R343): a queue that is to be enabled and is not takes its fields while still disabled. -/
def State.taskQconfig (s : State) (c : HostCmd) : State :=
  let p := c.params
  let b := prm p 0 1
  let q := prm p 1 1
  let st := [(BASIN_STAT.CFG_REJECT b).addr]
  let s := s.clearCfg st
  let en := prm p 5 1
  let put (en : Nat) (s : State) : State := s.svcWrite (DSP_QCFG.addr b) [(DSP_QCFG.QEN b, en), (DSP_QCFG.PRIO b, prm p 3 1),
    (DSP_QCFG.SIZE b, prm p 4 1), (DSP_QCFG.MODE b, prm p 2 1)]
  let s := s.withQueue b q (fun s => if en = 1 ∧ !(s.queue b q).qen then put 1 (put 0 s) else put en s)
  let r := s.cfgResult st
  s.finishCmd c r.1 r.2 []

/-- TASK.POST (R208, R343): the entry goes where the message network delivers it, or is refused at once. -/
def State.taskPost (s : State) (c : HostCmd) : State :=
  let p := c.params
  let b := s.deliverTo (prm p 0 1)
  let q := prm p 1 7
  let bytes := slice p 8 64
  match s.postCheck b q bytes false with
  | .ok =>
    let s := s.enqueue b q bytes
    let id := match (s.queue b q).entries.getLast? with
      | some e => if (s.queue b q).mode then leAt e.bytes 0 6 else 0
      | none => 0
    s.finishCmd c 0 0 (leBytes 8 id)
  | r => (s.countRefused b q).finishCmd c 0x42 r.code []

/-- Ponds that a command with 0xFFFF or 0xFF names: every one that is not fenced. -/
def State.livePonds (s : State) : List Nat := (upTo 68).filter (fun p => s.fld (POND_STAT.ROLE p) != 2)

/-- TASK.LIMIT. -/
def State.taskLimit (s : State) (c : HostCmd) : State :=
  let p := prm c.params 0 2
  let ps := if p = 0xFFFF then s.livePonds else [p]
  let st := ps.map (fun p => (POND_STAT.CFG_REJECT p).addr)
  let s := ps.foldl (fun (s : State) p => s.svcSet (POND_CTL.TASK_MAX p) (prm c.params 2 2)) (s.clearCfg st)
  let r := s.cfgResult st
  s.finishCmd c r.1 r.2 []

/-- The result of TASK.STATUS: both words of every queue as its window shows them, then the dispatcher's own. -/
def State.taskStatus (s : State) (b : Nat) : List Byte :=
  (upTo 64).flatMap (fun q => (s.setFld (DSP_QSEL.QUEUE b) q).peeks [DSP_QCFG.addr b, DSP_QSTAT.addr b]) ++
  s.peeks [DSP_JRN.addr b, DSP_CNT.addr b, BASIN_STAT.addr b]

/-! ### Memory commands -/

/-- Load the region window of MC0 from a MEM.REGION packet. -/
def State.regionWindow (s : State) (p : List Byte) : State :=
  let f := prm p 18 1
  let s := ((s.setFld (MC_RGN_BASE.BASE 0) (prm p 4 4)).setFld (MC_RGN_LIMIT.LIMIT 0) (prm p 8 4)).setFld (MC_RGN_MAP.COFF 0) (prm p 12 4)
  let s := ((s.setFld (MC_RGN_MAP.CH0 0) (prm p 16 1)).setFld (MC_RGN_MAP.ILV 0) (prm p 17 1)).setFld (MC_RGN_MAP.MIR 0) (f % 2)
  let s := ((s.setFld (MC_RGN_ATTR.CODE 0) (f / 2 % 2)).setFld (MC_RGN_ATTR.INIT 0) (f / 4 % 2)).setFld (MC_RGN_ATTR.SHARED 0) (f / 8 % 2)
  (s.setFld (MC_RGN_ATTR.OWNER 0) (f / 16 % 4)).setFld (MC_RGN_ATTR.CACHE 0) (f / 64 % 2)

/-- The result of a MEM.REGION READ. -/
def State.regionBytes (s : State) (index : Nat) : List Byte :=
  let b (f : Nat → Fld) (k : Nat) : Nat := s.fld (f 0) * 2 ^ k
  leBytes 1 1 ++ leBytes 3 index ++ leBytes 4 (b MC_RGN_BASE.BASE 0) ++ leBytes 4 (b MC_RGN_LIMIT.LIMIT 0) ++ leBytes 4 (b MC_RGN_MAP.COFF 0) ++
  leBytes 1 (b MC_RGN_MAP.CH0 0) ++ leBytes 1 (b MC_RGN_MAP.ILV 0) ++
  leBytes 1 (b MC_RGN_MAP.MIR 0 + b MC_RGN_ATTR.CODE 1 + b MC_RGN_ATTR.INIT 2 + b MC_RGN_ATTR.SHARED 3 + b MC_RGN_ATTR.OWNER 4 +
    b MC_RGN_ATTR.CACHE 6 + b MC_RGN_ATTR.VALID 7) ++ zeros 5

/-- MEM.REGION (R353, R354), through the window of MC0. -/
def State.memRegion (s : State) (c : HostCmd) : State :=
  let p := c.params
  let op := prm p 0 1
  let i := prm p 1 3
  if s.rgnBusy then s.finishCmd c 0x11 1 []
  else
    let s := s.napEnd.setFld (MC_RGN_SEL.INDEX 0) i
    if op = 1 then
      let s := s.rgnRead 0 i
      s.finishCmd c 0 0 (s.regionBytes i)
    else ((s.regionWindow p).rgnOp 0 op i).waitCmd c (.region 0)

/-- MEM.CACHE (R279 to R283). -/
def State.memCache (s : State) (c : HostCmd) : State :=
  let p := c.params
  let n := prm p 0 1
  let ps := if n = 255 then s.livePonds else [n]
  if ps.any (fun p => s.fld (POND_STAT.ROLE p) == 2) then s.finishCmd c 0x21 4 []
  else if ps.any (fun p => s.bit (L2_MAINT.BUSY p)) then s.finishCmd c 0x11 1 []
  else
    let line := prm p 8 8 / 64
    let s := ps.foldl (fun (s : State) n =>
      let s := (s.setFld (L2_MAINT_ADDR.ADDR n) line).setFld (L2_MAINT.AHI n) (line / 2 ^ 32)
      s.maintStart n (prm p 1 7) line) s.napEnd
    s.waitCmd c (.maint ps)

/-- MEM.MARCH (R299, R300). -/
def State.memMarch (s : State) (c : HostCmd) : State :=
  let p := c.params
  let n := prm p 0 1
  let st := [(POND_STAT.CFG_REJECT n).addr]
  if s.bit (PM_CTL.EN n) || s.bit (MARCH_STAT.BUSY n) then s.finishCmd c 0x11 1 []
  else
    let s := (s.clearCfg st).svcWrite (MARCH_CTL.addr n) [(MARCH_CTL.ALG n, prm p 1 1), (MARCH_CTL.PRESERVE n, prm p 2 1 % 2),
      (MARCH_CTL.REPAIR n, prm p 2 1 / 2 % 2), (MARCH_CTL.BANKS n, prm p 4 2), (MARCH_CTL.START n, 1)]
    let r := s.cfgResult st
    if r.1 ≠ 0 then s.finishCmd c r.1 r.2 [] else s.waitCmd c (.march n)

/-- Ranks of a channel in service: present, and neither spare nor retired. -/
def State.ranksInService (s : State) (c : Nat) : List Nat :=
  (upTo 4).filter (fun r => Nat.testBit (s.fld (MC_RANK.PRESENT c)) r && !Nat.testBit (s.fld (MC_RANK.SPARE c)) r &&
    !Nat.testBit (s.fld (MC_RANK.RETIRED c)) r)

/-- MEM.RETRAIN (R351): one rank after the other. -/
def State.memRetrain (s : State) (c : HostCmd) : State :=
  let n := prm c.params 0 1
  let ranks := if prm c.params 1 1 = 255 then s.ranksInService n else [prm c.params 1 1]
  if s.bit (MC_TRAIN.BUSY n) then s.finishCmd c 0x11 1 []
  else match ranks with
    | [] => s.finishCmd c 0 0 (leBytes 4 0)
    | r :: _ => (s.napEnd.retrainRank n r).waitCmd c (.retrain n ranks 0)

/-- MEM.SPARE (R366, R367). -/
def State.memSpare (s : State) (c : HostCmd) : State :=
  let p := c.params
  let n := prm p 0 1
  let st := [(MC_STAT.CFG_REJECT n).addr]
  let s := s.clearCfg st
  if prm p 1 1 = 1 then
    let s := s.svcSet (MC_RANK.SPARE n) (2 ^ prm p 3 1)
    let r := s.cfgResult st
    s.finishCmd c r.1 r.2 []
  else if s.bit (MC_MIG.BUSY n) then s.finishCmd c 0x11 1 []
  else (s.svcWrite (MC_SPARE.addr n) [(MC_SPARE.SRC n, prm p 2 1), (MC_SPARE.TGT n, prm p 3 1), (MC_SPARE.COMMIT n, 1)]).waitCmd c (.spare n)

/-- The result of MEM.STATS. -/
def State.memStats (s : State) (kind n : Nat) : List Byte :=
  if kind = 0 then
    s.peeks [MC_STAT.addr n, MC_RANK.addr n, MC_ECC.addr n, MC_TEMP.addr n, MC_SCRUB_POS.addr n, MC_MIG.addr n] ++
    (upTo 40).flatMap (fun l => (s.setFld (MC_EYE.LANE n) l).peeks [MC_EYE.addr n])
  else s.peeks [SF_STAT.addr n, SF_NACK_CNT.addr n, HOME_TRK.addr n, RING_STAT.addr n]

/-- MEM.SCRUB (R363). -/
def State.memScrub (s : State) (c : HostCmd) : State :=
  let n := prm c.params 0 1
  let st := [(MC_STAT.CFG_REJECT n).addr]
  let s := (s.clearCfg st).svcSet (MC_CTL.SCRUB_EN n) (prm c.params 1 1)
  (s.svcSet (MC_SCRUB.PERIOD n) (prm c.params 2 1)).awaitCommit c st

/-! ### Power commands -/

/-- PWR.STATE (R486, R488): D-RUN and D-IDLE follow the striders, and end D-NAP; the others are requests. -/
def State.pwrState (s : State) (c : HostCmd) : State :=
  let target := prm c.params 0 8
  if target ≤ 1 then s.napEnd.finishOk c
  else if s.pwr.request ≠ 0 ∨ s.pwr.entryAt.isSome then s.finishCmd c 0x11 1 []
  else
    let s := if target = 3 then s.setPair PWR_WAKE_DT_LO.DT PWR_WAKE_DT_HI.DT (BitVec.ofNat 64 (prm c.params 8 8)) else s
    (s.pwrRequest (target - 1)).waitCmd c (.power target)

/-- PWR.POND (R485). -/
def State.pwrPond (s : State) (c : HostCmd) : State :=
  let n := prm c.params 0 2
  let on := prm c.params 2 1 == 1
  let one (s : State) (p : Nat) : State :=
    let v := s.fld (POND_IDLE.PGATE (p / 32))
    let was := Nat.testBit v (p % 32)
    if was == on then s else s.setFld (POND_IDLE.PGATE (p / 32)) (if on then v + 2 ^ (p % 32) else v - 2 ^ (p % 32))
  (if n = 0xFFFF then (upTo 68).foldl one s else one s n).finishOk c

/-- The result of PWR.STATUS; ECLK is that of basin 0. -/
def State.pwrStatus (s : State) : List Byte :=
  leBytes 2 s.dstate ++ leBytes 2 (s.eclk 0) ++ leBytes 2 (s.fld AVS_STAT.VMEAS) ++ leBytes 2 (s.fld PWR_MEAS.POWER) ++
  leBytes 2 (s.fld THERM_HOT.HOT) ++ zeros 6

/-- TASK.QCONFIG (R343). -/
def execTaskQconfig (q : Fin 16) (s : State) : Host.Outcome State Fault Refusal :=
  run s (fun s => s.runCmd q 0x0401 (fun s c => s.taskQconfig c))

/-- TASK.POST (R208). -/
def execTaskPost (q : Fin 16) (s : State) : Host.Outcome State Fault Refusal :=
  run s (fun s => s.runCmd q 0x0402 (fun s c => s.taskPost c))

/-- TASK.PLACE. -/
def execTaskPlace (q : Fin 16) (s : State) : Host.Outcome State Fault Refusal :=
  run s (fun s => s.runCmd q 0x0403 (fun s c => (s.svcSet (DSP_CTL.PLACE (prm c.params 0 1)) (prm c.params 1 1)).finishOk c))

/-- TASK.LIMIT (R214). -/
def execTaskLimit (q : Fin 16) (s : State) : Host.Outcome State Fault Refusal :=
  run s (fun s => s.runCmd q 0x0404 (fun s c => s.taskLimit c))

/-- TASK.STATUS. -/
def execTaskStatus (q : Fin 16) (s : State) : Host.Outcome State Fault Refusal :=
  run s (fun s => s.runCmd q 0x0405 (fun s c => s.finishCmd c 0 0 (s.taskStatus (prm c.params 0 1))))

/-- MEM.REGION (R353). -/
def execMemRegion (q : Fin 16) (s : State) : Host.Outcome State Fault Refusal :=
  run s (fun s => s.runCmd q 0x0501 (fun s c => s.memRegion c))

/-- MEM.CACHE (R283). -/
def execMemCache (q : Fin 16) (s : State) : Host.Outcome State Fault Refusal :=
  run s (fun s => s.runCmd q 0x0502 (fun s c => s.memCache c))

/-- MEM.MARCH (R299). -/
def execMemMarch (q : Fin 16) (s : State) : Host.Outcome State Fault Refusal :=
  run s (fun s => s.runCmd q 0x0503 (fun s c => s.memMarch c))

/-- MEM.RETRAIN (R351). -/
def execMemRetrain (q : Fin 16) (s : State) : Host.Outcome State Fault Refusal :=
  run s (fun s => s.runCmd q 0x0504 (fun s c => s.memRetrain c))

/-- MEM.SPARE (R367). -/
def execMemSpare (q : Fin 16) (s : State) : Host.Outcome State Fault Refusal :=
  run s (fun s => s.runCmd q 0x0505 (fun s c => s.memSpare c))

/-- MEM.STATS. -/
def execMemStats (q : Fin 16) (s : State) : Host.Outcome State Fault Refusal :=
  run s (fun s => s.runCmd q 0x0506 (fun s c => s.finishCmd c 0 0 (s.memStats (prm c.params 0 1) (prm c.params 1 1))))

/-- MEM.SCRUB (R363). -/
def execMemScrub (q : Fin 16) (s : State) : Host.Outcome State Fault Refusal :=
  run s (fun s => s.runCmd q 0x0507 (fun s c => s.memScrub c))

/-- PWR.STATE (R486, R488). -/
def execPwrState (q : Fin 16) (s : State) : Host.Outcome State Fault Refusal :=
  run s (fun s => s.runCmd q 0x0801 (fun s c => s.pwrState c))

/-- PWR.POND (R485). -/
def execPwrPond (q : Fin 16) (s : State) : Host.Outcome State Fault Refusal :=
  run s (fun s => s.runCmd q 0x0802 (fun s c => s.pwrPond c))

/-- PWR.STATUS. -/
def execPwrStatus (q : Fin 16) (s : State) : Host.Outcome State Fault Refusal :=
  run s (fun s => s.runCmd q 0x0803 (fun s c => s.finishCmd c 0 0 s.pwrStatus))

end Sys2Proof.Machine
end

