-- ==== Sys2Proof/Machine/CmdTier.lean ====
section
/-!
DEFINITION. The tier links and the messages of the tree (chapter 16).
-/

namespace Sys2Proof.Machine

/-- A HELLO frame is received (R464, R465). -/
def execTierRxHello (t : Fin 8) (f : Frame) (s : State) : Host.Outcome State Fault Refusal :=
  run s (fun s => if f.type = 1 then s.tierIn t f else s)

/-- An ACK frame is received (R461, R125). -/
def execTierRxAck (t : Fin 8) (f : Frame) (s : State) : Host.Outcome State Fault Refusal :=
  run s (fun s => if f.type = 3 then s.tierIn t f else s)

/-- A NAK frame is received (R461, R126). -/
def execTierRxNak (t : Fin 8) (f : Frame) (s : State) : Host.Outcome State Fault Refusal :=
  run s (fun s => if f.type = 4 then s.tierIn t f else s)

/-- An IDLE frame is received (R461). -/
def execTierRxIdle (t : Fin 8) (f : Frame) (s : State) : Host.Outcome State Fault Refusal :=
  run s (fun s => if f.type = 0 then s.tierIn t f else s)

/-- A SAFE frame is received (R473). -/
def execTierRxSafe (t : Fin 8) (f : Frame) (s : State) : Host.Outcome State Fault Refusal :=
  run s (fun s => if f.type = 11 then s.tierIn t f else s)

/-- A frame with a bad CRC, a code error or an abort is received (R461, R121). -/
def execTierRxBadFrame (t : Fin 8) (k : BadFrame) (s : State) : Host.Outcome State Fault Refusal := run s (fun s => s.tierRxBad t k)

/-- A frame that may break a rule of Table 16-3 is received: any frame, checked as every frame is. -/
def execTierViolation (t : Fin 8) (f : Frame) (s : State) : Host.Outcome State Fault Refusal := run s (fun s => s.tierIn t f)

/-- A DATA frame for another device is received and passed on (R468). -/
def execTierRoute (t : Fin 8) (f : Frame) (s : State) : Host.Outcome State Fault Refusal :=
  run s (fun s => if f.type = 2 ∧ f.route.toNat % 64 ≠ s.tree.num then s.tierIn t f else s)

/-- A write of TIER_CTL.COMMIT of TIER[0] (R44, R46). -/
def execTierRouteCommit (s : State) : Host.Outcome State Fault Refusal := run s (fun s => s.routeCommit)

/-- The oldest unacknowledged frame has waited RESEND_TMO (R125). -/
def execTierResendTimeout (t : Fin 8) (s : State) : Host.Outcome State Fault Refusal := run s (fun s => s.tierResendTimeout t)

/-- No valid frame for 40 µs (Table 16-3). -/
def execTierSilence (t : Fin 8) (s : State) : Host.Outcome State Fault Refusal := run s (fun s => s.tierSilence t)

/-- The transmitter sends its next frame (Table 16-3, R463). -/
def execTierTxFrame (t : Fin 8) (s : State) : Host.Outcome State Fault Refusal := run s (fun s => s.tierTransmit t)

/-- The HELLO timer of link-up (R464). -/
def execTierHelloTimer (t : Fin 8) (s : State) : Host.Outcome State Fault Refusal := run s (fun s => s.tierHelloTimer t)

/-- An attempt that is not UP in time fails (R464, R465). -/
def execTierAttemptTimeout (t : Fin 8) (s : State) : Host.Outcome State Fault Refusal := run s (fun s => s.tierTimeout t)

/-- The SAFE frame timer (R473). -/
def execTierSafeFrameTimer (s : State) : Host.Outcome State Fault Refusal := run s (fun s => s.tierSafeTimer)

/-- The next attempt starts (R465). -/
def execTierRetrainAttempt (t : Fin 8) (s : State) : Host.Outcome State Fault Refusal := run s (fun s => s.tierRetry t)

/-- A write of TIER_CTL.EN (R465). -/
def execTierEnable (t : Fin 8) (en : Bool) (s : State) : Host.Outcome State Fault Refusal :=
  run s (fun s => s.enWrite (TIER_CTL.EN t) en (fun s => if en then s.tierOn t else s.tierOff t))

/-- The receiver gains block lock (R460). -/
def execBlockLock (t : Fin 8) (s : State) : Host.Outcome State Fault Refusal := run s (fun s => s.lockGained t)

/-- The receiver loses block lock (R460). -/
def execBlockLockLoss (t : Fin 8) (s : State) : Host.Outcome State Fault Refusal := run s (fun s => s.lockLost t)

/-- A fragment of a CMD message for this device (R469). -/
def execCmd (t : Fin 8) (f : Frame) (s : State) : Host.Outcome State Fault Refusal :=
  run s (fun s => if s.forMe 1 f then s.tierIn t f else s)

/-- A fragment of a REPLY message (R469). -/
def execReply (t : Fin 8) (f : Frame) (s : State) : Host.Outcome State Fault Refusal :=
  run s (fun s => if s.forMe 2 f then s.tierIn t f else s)

/-- A fragment of a FAULT message (R470). -/
def execFault (t : Fin 8) (f : Frame) (s : State) : Host.Outcome State Fault Refusal :=
  run s (fun s => if s.forMe 3 f then s.tierIn t f else s)

/-- A fragment of a SUMMARY message (R471). -/
def execSummary (t : Fin 8) (f : Frame) (s : State) : Host.Outcome State Fault Refusal :=
  run s (fun s => if s.forMe 4 f then s.tierIn t f else s)

/-- A fragment of a TAIL message (R472). -/
def execTail (t : Fin 8) (f : Frame) (s : State) : Host.Outcome State Fault Refusal :=
  run s (fun s => if s.forMe 5 f then s.tierIn t f else s)

/-- A fragment of a BOOT message (R466). -/
def execBoot (t : Fin 8) (f : Frame) (s : State) : Host.Outcome State Fault Refusal :=
  run s (fun s => if s.forMe 6 f then s.tierIn t f else s)

/-- A BOOTSTAT message (R466). -/
def execBootstat (t : Fin 8) (f : Frame) (s : State) : Host.Outcome State Fault Refusal :=
  run s (fun s => if s.forMe 7 f then s.tierIn t f else s)

/-- A SECRET message (R467). -/
def execSecret (t : Fin 8) (f : Frame) (s : State) : Host.Outcome State Fault Refusal :=
  run s (fun s => if s.forMe 8 f then s.tierIn t f else s)

/-- A NOTICE message (R470). -/
def execNotice (t : Fin 8) (f : Frame) (s : State) : Host.Outcome State Fault Refusal :=
  run s (fun s => if s.forMe 9 f then s.tierIn t f else s)

/-- The summary period has passed (R471). -/
def execSummaryTimer (s : State) : Host.Outcome State Fault Refusal := run s (fun s => if s.summaryDue then s.sendSummary else s)

end Sys2Proof.Machine
end

