-- ==== Sys2Proof/Machine/Firefly.lean ====
section
/-!
DEFINITION. The messages of firefly sync (R76 to R78, R80): the SYNC frames with which workers, relays and the manager exchange their
times. The servo that uses the answers stands in TimeOps.
-/

namespace Sys2Proof.Machine

/-- The 48 bytes of a firefly payload (Table 03-7). -/
def ffBytes (p : FfPayload) : List Byte :=
  let signed (x : Int) : List Byte := leBytes 4 (BitVec.ofInt 32 x).toNat
  leBytes 2 p.kind.toNat ++ [p.origin, p.target] ++ leBytes 4 p.exchSeq.toNat ++ leBytes 8 p.t1.toNat ++ leBytes 8 p.t2.toNat ++
  leBytes 8 p.t3.toNat ++ leBytes 2 (p.fine1.toNat + 8 * p.fine2.toNat + 64 * p.fine3.toNat) ++ zeros 2 ++ signed p.corrUp ++
  signed p.corrDn ++ signed p.asym

/-- A SYNC frame leaves a port that is UP, its times in place before the CRC-32C is computed (R77, R78); ROUTE names the destination and
the source (Table 16-3). A frame that cannot leave is lost: it is never resent. -/
def State.putSync (s : State) (t dst src : Nat) (p : FfPayload) : State :=
  if s.tierState t = 3 then s.putTier t (s.mkTier t 5 0 (BitVec.ofNat 16 (dst % 64 + 64 * (src % 64))) false (ffBytes p)) else s

/-- A payload whose KIND is neither REQ nor RESP is a violation of its port (Table 03-7). -/
def State.ffKind (s : State) (t : Nat) (p : FfPayload) (f : State → State) : State :=
  if p.kind = 1 ∨ p.kind = 2 then f s else s.tierViolation t

/-- A worker sends a firefly REQ (R77, R78, R80); an exchange still open was missed. -/
def State.ffSend (s : State) (fine : Fin 8) : State :=
  if s.isWorker && s.bit FF_CTL.FF_EN && s.timeRuns &&
     decide (s.dt.toNat % 3000000 = s.fld DEV_POS.DEVICE * 45000) then
    let s := if s.time.ffOpen.isSome then s.ffMiss else s
    let q := s.time.ffSeq
    let p : FfPayload := { kind := 1, origin := BitVec.ofNat 8 (s.fld DEV_POS.DEVICE), target := 0, exchSeq := q, t1 := s.dt,
                           t2 := 0, t3 := 0, fine1 := BitVec.ofNat 3 fine.val, fine2 := 0, fine3 := 0, corrUp := 0, corrDn := 0,
                           asym := s.asymTerm 0 }
    State.putSync { s with time := { s.time with ffOpen := some (s.dt, fine, q), ffSeq := q + 1 } } 0 0 (s.fld DEV_POS.DEVICE) p
  else s

/-- The RESP to a REQ (R77, R80): the manager's times, and the total of the asymmetry terms less its own port's. -/
def State.ffResp (s : State) (port : Nat) (p : FfPayload) (fineIn : Fin 8) (turn : Nat) (fineOut : Fin 8) : FfPayload :=
  { p with kind := 2, t2 := s.dt, t3 := s.dt + BitVec.ofNat 64 turn, fine2 := BitVec.ofNat 3 fineIn.val,
           fine3 := BitVec.ofNat 3 fineOut.val, asym := p.asym - s.asymTerm port }

/-- The manager answers a REQ with a RESP `turn` ticks later (R77). -/
def State.ffAnswer (s : State) (port : Fin 8) (p : FfPayload) (fineIn : Fin 8) (turn : Nat) (fineOut : Fin 8) : State :=
  s.ffKind port.val p (fun s =>
    if s.isWorker || p.kind != 1 then s
    else s.putSync port.val p.origin.toNat 0 (s.ffResp port.val p fineIn turn fineOut))

/-- A depth-1 worker relays a firefly frame with ROUTE unchanged (R76, R80): a REQ upward through TP0, a RESP down to its worker. -/
def State.ffForward (s : State) (inPort : Fin 8) (p : FfPayload) (residence : Int) : State :=
  s.ffKind inPort.val p (fun s =>
    if !s.isWorker || s.fld DEV_POS.DEPTH != 1 then s
    else if inPort.val ≠ 0 then
      s.putSync 0 0 p.origin.toNat { p with corrUp := p.corrUp + residence, asym := p.asym + s.asymTerm 0 - s.asymTerm inPort.val }
    else
      match s.routePort p.origin.toNat with
      | none => s
      | some t => s.putSync t p.origin.toNat 0 { p with corrDn := p.corrDn + residence })

end Sys2Proof.Machine
end

