-- ==== Sys2Proof/Machine/CmdTime.lean ====
section
/-!
DEFINITION. The commands of the time base, the firefly, the angle ports and the axis trackers (chapter 3).
-/

namespace Sys2Proof.Machine

/-- A write of TIME_CTL (R60). -/
def execTimeCtlEn (en load aonCal : Bool) (s : State) : Host.Outcome State Fault Refusal :=
  run s (fun s => s.writeTimeCtl en load aonCal)

/-- A write of DT_SLEW (R61). -/
def execDtSlew (v : BitVec 32) (s : State) : Host.Outcome State Fault Refusal := run s (fun s => s.writeDtSlew v)

/-- A calibration window of the always-on oscillator ends with a tick count (R62). -/
def execAonCalWindow (count : Nat) (s : State) : Host.Outcome State Fault Refusal := run s (fun s => s.aonWindow count)

/-- The TIME commit point (Table 02-4). -/
def execTimeCommitPoint (s : State) : Host.Outcome State Fault Refusal := run s (fun s => s.timePoint)

/-- TBCLK or its reference is lost (R482). -/
def execTbclkLoss (s : State) : Host.Outcome State Fault Refusal := run s (fun s => if s.time.tbclk then s.pllLost 0 else s)

/-- The interpolator loses lock (R57): placements are held until it regains it. -/
def execFineUnlock (s : State) : Host.Outcome State Fault Refusal :=
  run s (fun s => if s.bit TIME_STAT.FINE_LOCK then (s.setFineLock false).raise Flt.TIME_FINE_UNLOCK else s)

/-- The interpolator regains lock (R57). -/
def execFineRelock (s : State) : Host.Outcome State Fault Refusal := run s (fun s => if s.time.tbclk then s.setFineLock true else s)

/-- A worker sends its firefly REQ (R77, R78). -/
def execFfReqSend (fine : Fin 8) (s : State) : Host.Outcome State Fault Refusal := run s (fun s => s.ffSend fine)

/-- The manager answers a firefly REQ (R77). -/
def execFfRxReq (port : Fin 8) (p : FfPayload) (fineIn : Fin 8) (turn : Nat) (fineOut : Fin 8)
    (s : State) : Host.Outcome State Fault Refusal :=
  run s (fun s => s.ffAnswer port p fineIn turn fineOut)

/-- A worker relays a firefly frame (R76, R80). -/
def execFfRelay (inPort : Fin 8) (p : FfPayload) (residence : Int) (s : State) : Host.Outcome State Fault Refusal :=
  run s (fun s => s.ffForward inPort p residence)

/-- A worker receives a RESP (R79, R81, R82). -/
def execFfRxResp (p : FfPayload) (fine : Fin 8) (s : State) : Host.Outcome State Fault Refusal :=
  run s (fun s => s.ffKind 0 p (fun s => s.ffReceive p fine))

/-- HOLDOVER has lasted longer than HOLD_MAX (R81). -/
def execHoldoverTimeout (s : State) : Host.Outcome State Fault Refusal := run s (fun s => s.ffHoldover)

/-- A write of 1 to CAP_CTL.ARM (Table 03-20). -/
def execCapArm (s : State) : Host.Outcome State Fault Refusal := run s (fun s => s.setFld CAP_CTL.ARM 1)

/-- Run `f` on the trackers: each tracker that changed feeds the weirs, and a new revolution of the axis of WEIRG_SPEED is evaluated
(R19, R93, R105, R110). -/
def State.feedAll (s : State) (f : State → State) : State :=
  s.withRevolution (fun s =>
    let t := f s
    (upTo 16).foldl (fun (u : State) n => if t.axis n == s.axis n then u else u.trackerFeeds n) t)

/-- A write of AX_CTL.EN (R69). -/
def execTrackerEnable (n : Fin 16) (en : Bool) (s : State) : Host.Outcome State Fault Refusal :=
  run s (fun s => s.feedAll (fun s => s.axisEnable n en))

/-- A write of 1 to AX_CTL.COMMIT (R73). -/
def execAxCommit (n : Fin 16) (s : State) : Host.Outcome State Fault Refusal := run s (fun s => s.feedAll (fun s => s.axisCommit n))

/-- A quadrature edge at an angle port (R65). -/
def execApQuadEdge (m : Fin 8) (k : QuadKind) (fine : Fin 8) (s : State) : Host.Outcome State Fault Refusal :=
  run s (fun s => s.feedAll (fun s => s.quadEdge m k fine))

/-- An index edge at an angle port (R66). -/
def execApIndex (m : Fin 8) (fine : Fin 8) (s : State) : Host.Outcome State Fault Refusal :=
  run s (fun s => s.feedAll (fun s => s.portIndex m fine))

/-- A poll of an SSI port (R67). -/
def execSsiPoll (m : Fin 8) (dataHigh : Bool) (fine : Fin 8) (s : State) : Host.Outcome State Fault Refusal :=
  run s (fun s => s.feedAll (fun s => s.ssiPollOp m dataHigh fine))

/-- An SSI frame is complete (R67). -/
def execSsiFrameDone (m : Fin 8) (raw : BitVec 31) (s : State) : Host.Outcome State Fault Refusal :=
  run s (fun s => s.feedAll (fun s => s.ssiDone m raw.toNat))

/-- The update by prediction (R70), which the weirs see (R93). -/
def execTrackerUpdate (n : Fin 16) (s : State) : Host.Outcome State Fault Refusal :=
  run s (fun s =>
    s.withRevolution (fun s =>
      let t := s.trackerTick n
      if s.dt.toNat % 3000 = 0 ∧ s.bit (AX_CTL.EN n) then t.trackerFeeds n else t))

/-- The count has not changed for 100 ms (Table 03-3). -/
def execStandstillTimeout (n : Fin 16) (s : State) : Host.Outcome State Fault Refusal :=
  run s (fun s => s.feedAll (fun s => s.standstill n))

/-- 100 µs without an ANGLE report (R74). -/
def execSrclostTimeout (n : Fin 16) (s : State) : Host.Outcome State Fault Refusal :=
  run s (fun s => s.feedAll (fun s => s.srcLostCheck n))

/-- SRCLOST has stayed unresolved for 1 ms (R74). -/
def execSrclostLost (n : Fin 16) (s : State) : Host.Outcome State Fault Refusal :=
  run s (fun s => s.feedAll (fun s => s.srcLostEnd n))

end Sys2Proof.Machine
end

