-- ==== Sys2Proof/Machine/CmdWeir.lean ====
section
/-!
DEFINITION. The commands of the weirs, of SPEED_LIMIT and of the actuator tables (chapter 4).
-/

namespace Sys2Proof.Machine

/-- The weir launches in one DATA frame up to `k` records whose windows have opened (R94, R95, R143). -/
def execWeirLaunch (n : Fin 96) (fine : Fin 8) (k : Nat) (s : State) : Host.Outcome State Fault Refusal :=
  run s (fun s => s.weirLaunch n fine k)

/-- An armed ATX whose deadline has passed is found late (R96). -/
def execAtxLateFound (n : Fin 96) (xid : Nat) (s : State) : Host.Outcome State Fault Refusal := run s (fun s => s.lateFound n xid)

/-- An ATX held longer than NONEMAX (R93). -/
def execAtxHeldTimeout (n : Fin 96) (xid : Nat) (s : State) : Host.Outcome State Fault Refusal :=
  run s (fun s => s.heldTimeout n xid)

/-- No VERIFY arrived by the limit (R98). -/
def execVerifyTimeout (n : Fin 96) (xid : Nat) (s : State) : Host.Outcome State Fault Refusal :=
  run s (fun s => s.verifyTimeout n xid)

/-- Refused reports are posted again (R101). -/
def execReportRetry (n : Fin 96) (s : State) : Host.Outcome State Fault Refusal := run s (fun s => s.reportRetry n)

/-- The slack evaluation of every weir (R109). -/
def execSlackEvaluation (s : State) : Host.Outcome State Fault Refusal := run s (fun s => s.slackEval)

/-- A write of WEIR_CTL.EN (R107). -/
def execWeirEnable (n : Fin 96) (en : Bool) (s : State) : Host.Outcome State Fault Refusal :=
  run s (fun s => (s.weirEnable n en).fcWritten n)

/-- A write of 1 to WEIRG_CTL.SPD_CLR (R113). -/
def execSpdClr (s : State) : Host.Outcome State Fault Refusal := run s (fun s => s.spdClr)

/-- A write of WEIRG_SPDREQ (R111). -/
def execSpdreqWrite (rated : BitVec 16) (req : BitVec 16) (s : State) : Host.Outcome State Fault Refusal :=
  run s (fun s => s.speedReq rated.toNat req.toNat)

/-- A write of 1 to WEIR_CTL.COMMIT (R44). -/
def execWeirCommit (n : Fin 96) (s : State) : Host.Outcome State Fault Refusal := run s (fun s => s.weirCommit n)

/-- ADT_OP 1: the window reads an entry (R114). -/
def execAdtOpRead (s : State) : Host.Outcome State Fault Refusal := run s (fun s => s.adtRead)

/-- ADT_OP 2: the window writes an entry (R114). -/
def execAdtOpWrite (s : State) : Host.Outcome State Fault Refusal := run s (fun s => s.adtWrite)

/-- An access of ADT_DATA: a write, or a read that answers the word (R114). -/
def execAdtDataAccess (write : Option Word32) (s : State) : Host.Outcome State Fault Refusal :=
  run s (fun s =>
    match write with
    | some v => s.adtAccess (some v)
    | none => (s.emit (.read ADT_DATA.addr s.adtData)).adtAccess none)

/-- A step of the ADT scrub pass (R87). -/
def execAdtScrubStep (err : EccErr) (s : State) : Host.Outcome State Fault Refusal := run s (fun s => s.adtScrub err)

end Sys2Proof.Machine
end

