-- ==== Sys2Proof/Machine/StrCtl.lean ====
section
/-!
DEFINITION. Control and system instructions of a strider (Table 07-7): traps and returns, barriers, jumps and hardware loops, cache
maintenance, system registers, and what no table defines.
-/

namespace Sys2Proof.Machine

/-! ### Traps -/

/-- NOP (Table 07-7). -/
def execNop (w : StrId) (p : Pfx) (s : State) : Host.Outcome State Fault Refusal :=
  run s (fun s => s.instr w p 1 (badPfx p false false false) (fun s => .next s))

/-- BRK: trap BRK with TVAL 0 (Table 07-13). -/
def execBrk (w : StrId) (p : Pfx) (s : State) : Host.Outcome State Fault Refusal :=
  run s (fun s => s.instr w p 1 (badPfx p false false false) (fun s => .trapNext Cause.brk 0 s))

/-- TRAP: trap SOFT with the operand byte in TVAL. -/
def execTrap (w : StrId) (p : Pfx) (f : FmtA) (s : State) : Host.Outcome State Fault Refusal :=
  run s (fun s => s.instr w p 2 (badPfx p false false false) (fun s => .trapNext Cause.soft (BitVec.ofNat 64 (fmtAByte f)) s))

/-- The bits of PSW that a write can set (Table 07-3): a write of 5 to 7 to LD is ignored. -/
def pswWrite (old v : Word32) : Word32 :=
  let p := pswPut old 0x88F v
  if pswLd v ≤ 4 then pswSetLd p (pswLd v) else p

/-- The return from a trap (R203, R258): PSW is TPSW, and execution goes on at TPC; with UIP the instruction there resumes from the
resume record if the record is for it, else UIP is cleared. -/
def State.tretOp (s : State) (w : StrId) : Res :=
  let t := s.str w
  let psw := pswWrite t.psw t.tpsw
  let resumes := pswUip psw && t.uc.any (fun u => u.addr == t.tpc)
  let t := if resumes then { t with psw := psw, uc := t.uc.map (fun u => { u with ready := true }) }
    else { t with psw := pswSetUip psw false, uc := [] }
  .goto_ t.tpc (s.setStr w t)

/-- TRET: ACCESS in task mode. The spec names neither an address nor a register number for its TVAL there: a free value. -/
def execTret (w : StrId) (p : Pfx) (s : State) : Host.Outcome State Fault Refusal :=
  run s (fun s => s.instr w p 1 (badPfx p false false false) (fun s => s.micro w p (fun s =>
    if pswH (s.str w).psw then s.tretOp w
    else
      let (x, s) := s.fresh
      .trap Cause.access (BitVec.ofNat 64 (Config.free x)) false s)))

/-! ### Barriers (R315) -/

/-- Drain the store buffer until it holds no device-space store. -/
def State.drainDev (w : StrId) : Nat → State → Bool × State
  | 0, s => (!(s.str w).sb.any (·.dev), s)
  | n + 1, s =>
    if !(s.str w).sb.any (·.dev) then (true, s)
    else match s.drainOne w with
      | (true, s) => State.drainDev w n s
      | (false, s) => (false, s)

/-- A barrier completes once its buffers have drained. -/
def barrier (r : Bool × State) : Res := if r.1 then .next r.2 else .stall r.2

/-- FENCE.SL waits until every store-buffer entry is performed. -/
def execFenceSl (w : StrId) (p : Pfx) (s : State) : Host.Outcome State Fault Refusal :=
  run s (fun s => s.instr w p 1 (badPfx p false false false) (fun s => barrier (s.drainStores w)))

/-- FENCE.N waits until every combining-buffer entry is performed. -/
def execFenceN (w : StrId) (p : Pfx) (s : State) : Host.Outcome State Fault Refusal :=
  run s (fun s => s.instr w p 1 (badPfx p false false false) (fun s => barrier (State.drainCb w 4 s)))

/-- FENCE.IO waits until every older device-space store is performed. -/
def execFenceIo (w : StrId) (p : Pfx) (s : State) : Host.Outcome State Fault Refusal :=
  run s (fun s => s.instr w p 1 (badPfx p false false false) (fun s => barrier (State.drainDev w 8 s)))

/-- FENCE.ALL waits for both buffers. -/
def execFenceAll (w : StrId) (p : Pfx) (s : State) : Host.Outcome State Fault Refusal :=
  run s (fun s => s.instr w p 1 (badPfx p false false false) (fun s => barrier (s.drainAll w)))

/-! ### Jumps -/

/-- J: PC + disp32. -/
def execJ (w : StrId) (p : Pfx) (disp : Word32) (s : State) : Host.Outcome State Fault Refusal :=
  run s (fun s => s.instr w p 5 (badPfx p false false false) (fun s => .jump ((s.str w).pc + disp32 disp) s))

/-- LK takes the next address, the instruction being `len` bytes long. -/
def State.link (s : State) (w : StrId) (len : Nat) : State :=
  let t := s.str w
  s.setStr w { t with lk := t.pc + BitVec.ofNat 64 len }

/-- CALL: LK ← next, then PC + disp32. -/
def execCall (w : StrId) (p : Pfx) (disp : Word32) (s : State) : Host.Outcome State Fault Refusal :=
  run s (fun s => s.instr w p 5 (badPfx p false false false) (fun s => .jump ((s.str w).pc + disp32 disp) (s.link w 5)))

/-- JR: the address in Xa. -/
def execJr (w : StrId) (p : Pfx) (f : FmtA) (s : State) : Host.Outcome State Fault Refusal :=
  run s (fun s => s.instr w p 2 (badPfx p false false false || f.x != 0) (fun s => .jump ((s.str w).xr f.r) s))

/-- CALLR: LK ← next, then the address in Xa. -/
def execCallr (w : StrId) (p : Pfx) (f : FmtA) (s : State) : Host.Outcome State Fault Refusal :=
  run s (fun s => s.instr w p 2 (badPfx p false false false || f.x != 0) (fun s => .jump ((s.str w).xr f.r) (s.link w 2)))

/-- RET: the address in LK. -/
def execRet (w : StrId) (p : Pfx) (s : State) : Host.Outcome State Fault Refusal :=
  run s (fun s => s.instr w p 1 (badPfx p false false false) (fun s => .jump (s.str w).lk s))

/-- BR: PC + disp32 if the condition holds (R189). -/
def execBr (w : StrId) (p : Pfx) (f : FmtK) (s : State) : Host.Outcome State Fault Refusal :=
  run s (fun s => s.instr w p 6 (badPfx p false false false || f.z != 0 || f.cond == 15) (fun s =>
    let t := s.str w
    if condHolds t.psw f.cond.toNat then .jump (t.pc + disp32 f.disp) s else .next s))

/-! ### Hardware loops (R193, R195) -/

/-- Push a loop after an instruction of `len` bytes. -/
def State.pushLoop (s : State) (w : StrId) (len : Nat) (count : Word) (span : BitVec 16) : Res :=
  let t := s.str w
  let ld := pswLd t.psw
  let next := t.pc + BitVec.ofNat 64 len
  let last := next + span.setWidth 64
  if 4 ≤ ld then .trap Cause.loop (BitVec.ofNat 64 ld) false s
  else if count = 0 then .jump last s
  else
    .next (s.setStr w { t with
      ls := Tab.set (fun _ => 0) t.ls ld next, le := Tab.set (fun _ => 0) t.le ld last,
      lc := Tab.set (fun _ => 0) t.lc ld count, psw := pswSetLd t.psw (ld + 1) })

/-- LOOP with the count in Xa. -/
def execLoop (w : StrId) (p : Pfx) (f : FmtL) (s : State) : Host.Outcome State Fault Refusal :=
  run s (fun s => s.instr w p 4 (badPfx p false false false || f.z != 0 || f.len == 0) (fun s =>
    s.pushLoop w 4 ((s.str w).xr f.a) f.len))

/-- LOOPI with the count imm16. -/
def execLoopi (w : StrId) (p : Pfx) (f : FmtLI) (s : State) : Host.Outcome State Fault Refusal :=
  run s (fun s => s.instr w p 5 (badPfx p false false false || f.len == 0) (fun s => s.pushLoop w 5 (f.count.setWidth 64) f.len))

/-- LPOP: LOOP with LD = 0. -/
def execLpop (w : StrId) (p : Pfx) (s : State) : Host.Outcome State Fault Refusal :=
  run s (fun s => s.instr w p 1 (badPfx p false false false) (fun s =>
    let t := s.str w
    let ld := pswLd t.psw
    if ld = 0 then .trap Cause.loop 0 false s else .next (s.setStr w { t with psw := pswSetLd t.psw (ld - 1) })))

/-! ### Cache maintenance (R280) -/

/-- CMO: x = 4 empties the strider's L1I, and raises ACCESS with a ≠ 0. With x = 1 to 3 an uncorrectable tag of the line's set raises POISON,
and the operation does nothing else. -/
def execCmo (w : StrId) (p : Pfx) (f : FmtA) (e : MemErr) (s : State) : Host.Outcome State Fault Refusal :=
  run s (fun s => s.instr w p 2 (badPfx p false false false || decide (4 < f.x.toNat)) (fun s => s.micro w p (fun s =>
    let a := (s.str w).xr f.r
    if f.x = 4 then (if zeroReg f.r then .next (s.dropOwnL1i w) else .trap Cause.access a false s)
    else if !(s.cmoAllowed w a.toNat) || f.x = 0 then MemRes.andThen (s.cmo w f.x.toNat a.toNat) (fun _ s => .next s)
    else
      match e with
      | .l2TagUe _ => .trap Cause.poison a false (s.l2Error w.pond.val a.toNat w.slot.val 7 e)
      | .l2Ce | .l2Ue => MemRes.andThen ((s.l2Error w.pond.val a.toNat w.slot.val 7 e).cmo w f.x.toNat a.toNat) (fun _ s => .next s)
      | _ => MemRes.andThen (s.cmo w f.x.toNat a.toNat) (fun _ s => .next s))))

/-! ### System registers (R184, Table 07-2) -/

/-- RUNLEFT: the run time left in µs, rounded down. -/
def State.runLeft (s : State) (w : StrId) : Word := BitVec.ofNat 64 (((s.str w).limit * usTicks 1 - s.runTime w) / usTicks 1)

/-- A register of the loop file by its number less 0x010. -/
def StrSt.loopReg (t : StrSt) (k : Nat) : Word := if k < 4 then t.lsr k else if k < 8 then t.ler (k - 4) else t.lcr (k - 8)

/-- Write a register of the loop file. -/
def StrSt.setLoopReg (t : StrSt) (k : Nat) (v : Word) : StrSt :=
  if k < 4 then { t with ls := Tab.set (fun _ => 0) t.ls k v }
  else if k < 8 then { t with le := Tab.set (fun _ => 0) t.le (k - 4) v }
  else { t with lc := Tab.set (fun _ => 0) t.lc (k - 8) v }

/-- Is a system register number listed? -/
def sysListed (n : Nat) : Bool := decide (n ≤ 4 ∨ (8 ≤ n ∧ n ≤ 11) ∨ (0x10 ≤ n ∧ n ≤ 0x1B) ∨ (0x20 ≤ n ∧ n ≤ 0x24))

/-- The value of a listed system register. -/
def State.sysRead (s : State) (w : StrId) (n : Nat) : Word :=
  let t := s.str w
  match n with
  | 0x000 => t.psw.setWidth 64
  | 0x001 => t.fcsr.setWidth 64
  | 0x002 => t.lk
  | 0x003 => t.rc
  | 0x004 => t.tbase
  | 0x008 => t.tpc
  | 0x009 => t.tpsw.setWidth 64
  | 0x00A => t.tcause.setWidth 64
  | 0x00B => t.tval
  | 0x020 => (t.taskId.setWidth 48).setWidth 64
  | 0x021 => t.oord.setWidth 64
  | 0x022 => BitVec.ofNat 64 (s.logicalStr w % 2 ^ 10 + w.pond.val * 2 ^ 10 + w.slot.val * 2 ^ 17)
  | 0x023 => s.runLeft w
  | 0x024 => t.evlatch.setWidth 64
  | _ => t.loopReg (n - 0x10)

/-- May task mode read a system register? -/
def taskReads (n : Nat) : Bool := !decide (8 ≤ n ∧ n ≤ 11)

/-- May a mode write a system register? -/
def sysWrites (h : Bool) (n : Nat) : Bool :=
  decide (n ≤ 3 ∨ (0x10 ≤ n ∧ n ≤ 0x1B) ∨ n = 0x24) || (h && (n == 4 || n == 8 || n == 9))

/-- The write of a system register that the mode may write; bits that FCSR and TBASE do not hold are ignored (R202, R234). -/
def StrSt.sysWrite (t : StrSt) (n : Nat) (v : Word) : StrSt :=
  let v32 : Word32 := v.setWidth 32
  match n with
  | 0x000 => { t with psw := if pswH t.psw then pswWrite t.psw v32 else pswPut t.psw 0xF v32 }
  | 0x001 => { t with fcsr := v32 &&& 0x1F1F3F }
  | 0x002 => { t with lk := v }
  | 0x003 => { t with rc := v }
  | 0x004 => { t with tbase := v / 256 * 256 }
  | 0x008 => { t with tpc := v }
  | 0x009 => { t with tpsw := v32 }
  | 0x024 => { t with evlatch := t.evlatch &&& ~~~v32 }
  | _ => t.setLoopReg (n - 0x10) v

/-- MFS. -/
def execMfs (w : StrId) (p : Pfx) (f : FmtY) (s : State) : Host.Outcome State Fault Refusal :=
  run s (fun s => s.instr w p 3 (badPfx p false false false || !sysListed f.n.toNat) (fun s =>
    if pswH (s.str w).psw || taskReads f.n.toNat then .next (s.setX w f.r (s.sysRead w f.n.toNat))
    else .trap Cause.access (f.n.setWidth 64) false s))

/-- MTS: a write of FCSR with RM 5 to 7 raises ILLEGAL (R234). -/
def execMts (w : StrId) (p : Pfx) (f : FmtY) (s : State) : Host.Outcome State Fault Refusal :=
  run s (fun s => s.instr w p 3 (badPfx p false false false || !sysListed f.n.toNat) (fun s =>
    let t := s.str w
    let v := t.xr f.r
    if !sysWrites (pswH t.psw) f.n.toNat then .trap Cause.access (f.n.setWidth 64) false s
    else if f.n = 1 ∧ 5 ≤ v.toNat / 2 ^ 16 % 8 then .trap Cause.illegal p.raw false s
    else .next (s.setStr w (t.sysWrite f.n.toNat v))))

/-- RDT: DT, or DT with its fine ticks. -/
def execRdt (w : StrId) (p : Pfx) (f : FmtA) (s : State) : Host.Outcome State Fault Refusal :=
  run s (fun s => s.instr w p 2 (badPfx p false false false || decide (1 < f.x.toNat)) (fun s =>
    .next (s.setX w f.r (if f.x = 0 then s.dt else s.dt * 8 + BitVec.ofNat 64 s.time.fine))))

/-! ### What no table defines -/

/-- Is an opcode one of the tables (R190)? -/
def opcodeDefined (op : Nat) : Bool :=
  decide (op ≤ 0x26 ∨ (0x28 ≤ op ∧ op ≤ 0x38) ∨ (0x3A ≤ op ∧ op ≤ 0x3E) ∨ (0x40 ≤ op ∧ op ≤ 0x42) ∨ (0x50 ≤ op ∧ op ≤ 0x58))

/-- Does the CX prefix stand before the opcode: the byte after the prefixes that `p` names is 0xEF? -/
def cxPrefixed (p : Pfx) : Bool := decide (p.raw.toNat / 2 ^ (8 * prefixLen p) % 256 = 0xEF)

/-- An undefined opcode raises ILLEGAL; so do an opcode above 0x3F with CX, and a prefix sequence that no table defines, of which `op` is
the byte that breaks it (R185, R187). -/
def execUndefinedOpcode (w : StrId) (p : Pfx) (op : Byte) (s : State) : Host.Outcome State Fault Refusal :=
  run s (fun s =>
    if (if cxPrefixed p then decide (op.toNat ≤ 0x3F) else opcodeDefined op.toNat) then s
    else s.instr w { p with rep := false } (prefixLen p + 1) true (fun s => .next s))

/-- A fetch from a forbidden or poisoned address (R201, R270): priority 1, before anything is known of the instruction. What stands at the PC
is fetched as for the longest instruction; `poison` says that the code itself was found uncorrectable. -/
def execInstructionFetchFault (w : StrId) (p : Pfx) (poison : Bool) (s : State) : Host.Outcome State Fault Refusal :=
  run s (fun s => s.instr w { p with rep := false } 15 false (fun s =>
    if poison then .trap Cause.poison (s.str w).pc false s else .stall s))

end Sys2Proof.Machine
end

