-- ==== Sys2Proof/Machine/StrInt.lean ====
section
/-!
DEFINITION. Integer instructions of a strider (Table 07-8): every one can be repeated (R198).
-/

namespace Sys2Proof.Machine

/-- The end of an integer instruction: Xd, and the flags when F is 1. -/
def State.intDone (s : State) (w : StrId) (d : RegNo) (r : Word) (f : Bool) (fl : Flags) : Res :=
  let t := (s.str w).setX d r
  .next (s.setStr w (if f then t.flags fl else t))

/-- The effect of a two-operand instruction in format B with an F bit. -/
def State.intB (s : State) (w : StrId) (f : FmtB) (op : Word → Word → Word) (fl : Word → Word → Flags) : Res :=
  let a := (s.str w).xr f.a
  let b := (s.str w).xr f.b
  s.intDone w f.d (op a b) f.x (fl a b)

/-- The effect of an instruction in format I with an F bit. -/
def State.intI (s : State) (w : StrId) (p : Pfx) (f : FmtI) (op : Word → Word → Word) (fl : Word → Word → Flags) : Res :=
  let a := (s.str w).xr f.a
  let b := immOf p f.imm
  s.intDone w f.d (op a b) (f.x.getLsbD 0) (fl a b)

/-- Length and legality shared by format B. -/
def State.fmtB (s : State) (w : StrId) (p : Pfx) (bad : Bool) (body : State → Res) : State :=
  s.instr w p (prefixLen p + 3) (badPfx p true false false || bad) body

/-- Format C. -/
def State.fmtC (s : State) (w : StrId) (p : Pfx) (bad : Bool) (body : State → Res) : State :=
  s.instr w p (prefixLen p + 4) (badPfx p true false false || bad) body

/-- Format I; the x codes of an instruction with an F bit are 0 and 1. -/
def State.fmtI (s : State) (w : StrId) (p : Pfx) (bad : Bool) (body : State → Res) : State :=
  s.instr w p (prefixLen p + 1 + lenI p) (badPfx p true false true || bad) body

/-- ADD. -/
def execAdd (w : StrId) (p : Pfx) (f : FmtB) (s : State) : Host.Outcome State Fault Refusal :=
  run s (fun s => s.fmtB w p false (fun s => s.intB w f (· + ·) flagsAdd))

/-- SUB. -/
def execSub (w : StrId) (p : Pfx) (f : FmtB) (s : State) : Host.Outcome State Fault Refusal :=
  run s (fun s => s.fmtB w p false (fun s => s.intB w f (· - ·) flagsSub))

/-- AND. -/
def execAnd (w : StrId) (p : Pfx) (f : FmtB) (s : State) : Host.Outcome State Fault Refusal :=
  run s (fun s => s.fmtB w p false (fun s => s.intB w f (· &&& ·) (fun a b => flagsLogic (a &&& b))))

/-- OR. -/
def execOr (w : StrId) (p : Pfx) (f : FmtB) (s : State) : Host.Outcome State Fault Refusal :=
  run s (fun s => s.fmtB w p false (fun s => s.intB w f (· ||| ·) (fun a b => flagsLogic (a ||| b))))

/-- XOR. -/
def execXor (w : StrId) (p : Pfx) (f : FmtB) (s : State) : Host.Outcome State Fault Refusal :=
  run s (fun s => s.fmtB w p false (fun s => s.intB w f (· ^^^ ·) (fun a b => flagsLogic (a ^^^ b))))

/-- A shift by Xb[5:0]. -/
def State.shiftB (s : State) (w : StrId) (f : FmtB) (k : Shift) : Res :=
  s.intB w f (fun a b => shiftBy k a (b.toNat % 64)) (fun a b => flagsShift k a (b.toNat % 64))

/-- SHL. -/
def execShl (w : StrId) (p : Pfx) (f : FmtB) (s : State) : Host.Outcome State Fault Refusal :=
  run s (fun s => s.fmtB w p false (fun s => s.shiftB w f .shl))

/-- SHR. -/
def execShr (w : StrId) (p : Pfx) (f : FmtB) (s : State) : Host.Outcome State Fault Refusal :=
  run s (fun s => s.fmtB w p false (fun s => s.shiftB w f .shr))

/-- SAR. -/
def execSar (w : StrId) (p : Pfx) (f : FmtB) (s : State) : Host.Outcome State Fault Refusal :=
  run s (fun s => s.fmtB w p false (fun s => s.shiftB w f .sar))

/-- The high half of the signed product (R227). -/
def mulHigh (a b : Word) : Word := BitVec.ofInt 64 (a.toInt * b.toInt / 2 ^ 64)

/-- The high half of the unsigned product. -/
def mulHighU (a b : Word) : Word := BitVec.ofNat 64 (a.toNat * b.toNat / 2 ^ 64)

/-- MUL. -/
def execMul (w : StrId) (p : Pfx) (f : FmtB) (s : State) : Host.Outcome State Fault Refusal :=
  run s (fun s => s.fmtB w p false (fun s => s.intB w f (· * ·) (fun a b => flagsLogic (a * b))))

/-- MULH. -/
def execMulh (w : StrId) (p : Pfx) (f : FmtB) (s : State) : Host.Outcome State Fault Refusal :=
  run s (fun s => s.fmtB w p false (fun s => s.intB w f mulHigh (fun a b => flagsLogic (mulHigh a b))))

/-- MULHU. -/
def execMulhu (w : StrId) (p : Pfx) (f : FmtB) (s : State) : Host.Outcome State Fault Refusal :=
  run s (fun s => s.fmtB w p false (fun s => s.intB w f mulHighU (fun a b => flagsLogic (mulHighU a b))))

/-- The divide group (R228, R229): DIVZ for a zero divisor. -/
def State.divB (s : State) (w : StrId) (f : FmtB) (op : Word → Word → Word) : Res :=
  if (s.str w).xr f.b = 0 then .trap Cause.divz 0 false s else s.intB w f op (fun a b => flagsLogic (op a b))

/-- The signed quotient, truncated toward zero; −2^63 by −1 gives −2^63. -/
def divS (a b : Word) : Word := BitVec.ofInt 64 (a.toInt.tdiv b.toInt)

/-- The remainder that goes with it. -/
def remS (a b : Word) : Word := BitVec.ofInt 64 (a.toInt.tmod b.toInt)

def divU (a b : Word) : Word := BitVec.ofNat 64 (a.toNat / b.toNat)

def remU (a b : Word) : Word := BitVec.ofNat 64 (a.toNat % b.toNat)

/-- DIV. -/
def execDiv (w : StrId) (p : Pfx) (f : FmtB) (s : State) : Host.Outcome State Fault Refusal :=
  run s (fun s => s.fmtB w p false (fun s => s.micro w p (fun s => s.divB w f divS)))

/-- DIVU. -/
def execDivu (w : StrId) (p : Pfx) (f : FmtB) (s : State) : Host.Outcome State Fault Refusal :=
  run s (fun s => s.fmtB w p false (fun s => s.micro w p (fun s => s.divB w f divU)))

/-- REM. -/
def execRem (w : StrId) (p : Pfx) (f : FmtB) (s : State) : Host.Outcome State Fault Refusal :=
  run s (fun s => s.fmtB w p false (fun s => s.micro w p (fun s => s.divB w f remS)))

/-- REMU. -/
def execRemu (w : StrId) (p : Pfx) (f : FmtB) (s : State) : Host.Outcome State Fault Refusal :=
  run s (fun s => s.fmtB w p false (fun s => s.micro w p (fun s => s.divB w f remU)))

/-- CMP: the flags of Xa − Xb. -/
def execCmp (w : StrId) (p : Pfx) (f : FmtB) (s : State) : Host.Outcome State Fault Refusal :=
  run s (fun s => s.fmtB w p (!zeroReg f.d || f.x) (fun s =>
    let t := s.str w
    .next (s.setStr w (t.flags (flagsSub (t.xr f.a) (t.xr f.b))))))

/-- TST: the flags of Xa AND Xb. -/
def execTst (w : StrId) (p : Pfx) (f : FmtB) (s : State) : Host.Outcome State Fault Refusal :=
  run s (fun s => s.fmtB w p (!zeroReg f.d || f.x) (fun s =>
    let t := s.str w
    .next (s.setStr w (t.flags (flagsLogic (t.xr f.a &&& t.xr f.b))))))

/-- Is Xa below Xb, signed or unsigned? -/
def below (unsigned_ : Bool) (a b : Word) : Bool := if unsigned_ then decide (a.toNat < b.toNat) else decide (a.toInt < b.toInt)

/-- MIN: signed with x = 0, unsigned with x = 1. -/
def execMin (w : StrId) (p : Pfx) (f : FmtB) (s : State) : Host.Outcome State Fault Refusal :=
  run s (fun s => s.fmtB w p false (fun s =>
    let t := s.str w
    .next (s.setX w f.d (if below f.x (t.xr f.a) (t.xr f.b) then t.xr f.a else t.xr f.b))))

/-- MAX. -/
def execMax (w : StrId) (p : Pfx) (f : FmtB) (s : State) : Host.Outcome State Fault Refusal :=
  run s (fun s => s.fmtB w p false (fun s =>
    let t := s.str w
    .next (s.setX w f.d (if below f.x (t.xr f.a) (t.xr f.b) then t.xr f.b else t.xr f.a))))

/-- Leading zeros of a word. -/
def leadingZeros (a : Word) : Nat := if a = 0 then 64 else 63 - a.toNat.log2

/-- One bits of a word. -/
def onesIn (a : Word) : Nat := (List.range 64).countP (fun i => a.getLsbD i)

/-- CLZ. -/
def execClz (w : StrId) (p : Pfx) (f : FmtB) (s : State) : Host.Outcome State Fault Refusal :=
  run s (fun s => s.fmtB w p (!zeroReg f.b || f.x) (fun s => .next (s.setX w f.d (BitVec.ofNat 64 (leadingZeros ((s.str w).xr f.a))))))

/-- POPC. -/
def execPopc (w : StrId) (p : Pfx) (f : FmtB) (s : State) : Host.Outcome State Fault Refusal :=
  run s (fun s => s.fmtB w p (!zeroReg f.b || f.x) (fun s => .next (s.setX w f.d (BitVec.ofNat 64 (onesIn ((s.str w).xr f.a))))))

/-- SEL: the condition stands in x. -/
def execSel (w : StrId) (p : Pfx) (f : FmtC) (s : State) : Host.Outcome State Fault Refusal :=
  run s (fun s => s.fmtC w p (!zeroReg f.c || f.x == 15) (fun s =>
    let t := s.str w
    .next (s.setX w f.d (if condHolds t.psw f.x.toNat then t.xr f.a else t.xr f.b))))

/-! ### Immediate forms -/

/-- ADDI. -/
def execAddi (w : StrId) (p : Pfx) (f : FmtI) (s : State) : Host.Outcome State Fault Refusal :=
  run s (fun s => s.fmtI w p (decide (1 < f.x.toNat)) (fun s => s.intI w p f (· + ·) flagsAdd))

/-- ANDI. -/
def execAndi (w : StrId) (p : Pfx) (f : FmtI) (s : State) : Host.Outcome State Fault Refusal :=
  run s (fun s => s.fmtI w p (decide (1 < f.x.toNat)) (fun s => s.intI w p f (· &&& ·) (fun a b => flagsLogic (a &&& b))))

/-- ORI. -/
def execOri (w : StrId) (p : Pfx) (f : FmtI) (s : State) : Host.Outcome State Fault Refusal :=
  run s (fun s => s.fmtI w p (decide (1 < f.x.toNat)) (fun s => s.intI w p f (· ||| ·) (fun a b => flagsLogic (a ||| b))))

/-- XORI. -/
def execXori (w : StrId) (p : Pfx) (f : FmtI) (s : State) : Host.Outcome State Fault Refusal :=
  run s (fun s => s.fmtI w p (decide (1 < f.x.toNat)) (fun s => s.intI w p f (· ^^^ ·) (fun a b => flagsLogic (a ^^^ b))))

/-- The shift that x[2:1] of SHI names; 3 is undefined. -/
def shiKind (x : BitVec 6) : Shift := if x.toNat / 2 % 4 = 0 then .shl else if x.toNat / 2 % 4 = 1 then .shr else .sar

/-- SHI: the count is the immediate, 0 to 63. -/
def execShi (w : StrId) (p : Pfx) (f : FmtI) (s : State) : Host.Outcome State Fault Refusal :=
  run s (fun s => s.fmtI w p (decide (5 < f.x.toNat) || decide (63 < (immOf p f.imm).toNat)) (fun s =>
    s.intI w p f (fun a b => shiftBy (shiKind f.x) a b.toNat) (fun a b => flagsShift (shiKind f.x) a b.toNat)))

/-- CMPI: the flags of Xa − imm. -/
def execCmpi (w : StrId) (p : Pfx) (f : FmtI) (s : State) : Host.Outcome State Fault Refusal :=
  run s (fun s => s.fmtI w p (!zeroReg f.d || f.x != 0) (fun s =>
    let t := s.str w
    .next (s.setStr w (t.flags (flagsSub (t.xr f.a) (immOf p f.imm))))))

/-- MOVI. -/
def execMovi (w : StrId) (p : Pfx) (f : FmtI) (s : State) : Host.Outcome State Fault Refusal :=
  run s (fun s => s.fmtI w p (!zeroReg f.a || f.x != 0) (fun s => .next (s.setX w f.d (immOf p f.imm))))

/-- MULI. -/
def execMuli (w : StrId) (p : Pfx) (f : FmtI) (s : State) : Host.Outcome State Fault Refusal :=
  run s (fun s => s.fmtI w p (decide (1 < f.x.toNat)) (fun s => s.intI w p f (· * ·) (fun a b => flagsLogic (a * b))))

end Sys2Proof.Machine
end

