-- ==== Sys2Proof/Machine/StrCx.lean ====
section
/-!
DEFINITION. Customer instructions: the decode-table checks (R260), the microword engine (R252 to R259, R263) and the errors of the
control store (R251).
-/

namespace Sys2Proof.Machine

/-- The operand fields of a CX instruction. -/
structure CxOps where
  d   : RegNo
  a   : RegNo
  b   : RegNo
  c   : RegNo
  x   : Nat
  imm : Word

/-- Operand bytes of a decode-table format. -/
def cxLen (fmt : Nat) (wide : Bool) : Nat :=
  match fmt with
  | 0 => 0
  | 1 => 1
  | 2 => 2
  | 3 => 3
  | 4 => if wide then 10 else 6
  | _ => 4

/-- A register number in a field. -/
def regAt (v lo : Nat) : RegNo := Fin.ofNat 32 (v / 2 ^ lo)

/-- The operands of a format (Table 07-5); the field of format A serves as d and as a. -/
def cxFields (fmt : Nat) (wide : Bool) (l : List Byte) : CxOps :=
  let v := leNat (slice l 0 (cxLen fmt wide))
  match fmt with
  | 0 => { d := 0, a := 0, b := 0, c := 0, x := 0, imm := 0 }
  | 1 => { d := regAt v 0, a := regAt v 0, b := 0, c := 0, x := bitsFrom v 5 3, imm := 0 }
  | 2 => { d := regAt v 0, a := regAt v 5, b := regAt v 10, c := 0, x := bitsFrom v 15 1, imm := 0 }
  | 3 => { d := regAt v 0, a := regAt v 5, b := regAt v 10, c := regAt v 15, x := bitsFrom v 20 4, imm := 0 }
  | 4 =>
    { d := regAt v 0, a := regAt v 5, b := 0, c := 0, x := bitsFrom v 10 6,
      imm := if wide then BitVec.ofNat 64 (bitsFrom v 16 64) else disp32 (BitVec.ofNat 32 (bitsFrom v 16 32)) }
  | _ =>
    { d := regAt v 0, a := regAt v 5, b := 0, c := 0, x := bitsFrom v 10 6, imm := disp16 (BitVec.ofNat 16 (bitsFrom v 16 16)) }

/-- The checks of Table 09-7 that raise ILLEGAL. -/
def cxBad (e : Nat) (p : Pfx) (o : CxOps) : Bool :=
  let u (k : Nat) : Bool := Nat.testBit (DE.use e) k
  (p.rep && !DE.repok e) || (p.wide && !DE.wideok e) || decide (5 < DE.format e) || decide (DE.xmax e < o.x) ||
  (if DE.format e = 1 then !(u 3 || u 2) && !zeroReg o.d
   else (!u 3 && !zeroReg o.d) || (!u 2 && !zeroReg o.a)) ||
  (!u 1 && !zeroReg o.b) || (!u 0 && !zeroReg o.c)

/-- A microcoded instruction in execution: the next microword, the micro-registers, and what it holds until its commit (R255): the
register files as it sees them, its stores, oldest first, and the PSW flags that are to take the micro-flags; and the microword of which
the fetch meets an error. -/
structure Mic where
  upc    : Nat
  mt     : List Word
  mdr    : Word
  fl     : Flags
  stack  : List Nat
  x      : Tab Word
  f      : Tab Word
  stores : List (Nat × List Byte)
  fmask  : Nat
  bad    : Option (Bool × Nat)

def flagsBits (f : Flags) : BitVec 4 := (pswFlags 0 f).setWidth 4

def bitsFlags (b : BitVec 4) : Flags := { z := b.getLsbD 0, n := b.getLsbD 1, c := b.getLsbD 2, v := b.getLsbD 3 }

/-- A register as the instruction sees it. -/
def Mic.reg (m : Mic) (file : Bool) (r : RegNo) : Word :=
  if file then Tab.get (fun _ => 0) m.f r.val else if r.val = 0 then 0 else Tab.get (fun _ => 0) m.x r.val

def Mic.setReg (m : Mic) (file : Bool) (r : RegNo) (v : Word) : Mic :=
  if file then { m with f := Tab.set (fun _ => 0) m.f r.val v }
  else if r.val = 0 then m else { m with x := Tab.set (fun _ => 0) m.x r.val v }

/-- A source of the ALU (Table 09-5). -/
def Mic.source (m : Mic) (s : State) (w : StrId) (e : Nat) (o : CxOps) (next : Word) (word k : Nat) : Word :=
  match k with
  | 0 => 0
  | 1 => MW.imm word
  | 2 => m.reg (DE.df e) o.d
  | 3 => m.reg (DE.sf e) o.a
  | 4 => m.reg (DE.sf e) o.b
  | 5 => m.reg (DE.sf e) o.c
  | 14 => m.mdr
  | 15 => (s.str w).pc
  | 16 => next
  | 17 => s.dt
  | 18 => o.imm
  | 19 => BitVec.ofNat 64 o.x
  | _ => if k < 14 then m.mt.getD (k - 6) 0 else m.reg false (Fin.ofNat 32 k)

/-- The ALU (Table 09-4): the result and the micro-flags it gives. -/
def microAlu (op : Nat) (a b : Word) : Word × Flags :=
  let lg (r : Word) : Word × Flags := (r, flagsLogic r)
  match op with
  | 0 => lg a
  | 1 => lg b
  | 2 => (a + b, flagsAdd a b)
  | 3 => (a - b, flagsSub a b)
  | 4 => lg (a &&& b)
  | 5 => lg (a ||| b)
  | 6 => lg (a ^^^ b)
  | 7 => (shiftBy .shl a (b.toNat % 64), flagsShift .shl a (b.toNat % 64))
  | 8 => (shiftBy .shr a (b.toNat % 64), flagsShift .shr a (b.toNat % 64))
  | 9 => (shiftBy .sar a (b.toNat % 64), flagsShift .sar a (b.toNat % 64))
  | 10 => lg (a * b)
  | 11 => lg (mulHigh a b)
  | 12 => lg (mulHighU a b)
  | 13 => lg (if below false a b then a else b)
  | 14 => lg (if below false a b then b else a)
  | 15 => lg (if below true a b then a else b)
  | 16 => lg (if below true a b then b else a)
  | 17 => lg (BitVec.ofNat 64 (leadingZeros a))
  | 18 => lg (BitVec.ofNat 64 (onesIn a))
  | _ => lg (a &&& ~~~b)

/-- Does a condition hold on the micro-flags? -/
def microCond (f : Flags) (c : Nat) : Bool := condHolds (pswFlags 0 f) c

/-- The access of a microword: a value for MDR, a wait or a trap. -/
inductive MicMem where
  | ok (m : Mic) (s : State)
  | wait (s : State)
  | trap (cause : Nat) (tval : Word) (s : State)

/-- A LOAD (R254, R255): the bytes of the instruction's own held stores come before everything else. -/
def Mic.load (m : Mic) (s : State) (w : StrId) (a n : Nat) (sext : Bool) : MicMem :=
  let t := s.str w
  let held := m.stores.foldl (fun (t : StrSt) q =>
    (cutParts q.2 (accParts q.1 q.2.length)).foldl (fun (t : StrSt) r => t.putCb r.1 r.2) t) t
  let (r, s) := (s.setStr w held).load w a n false
  let s := s.setStr w { s.str w with cb := t.cb }
  match r with
  | .ok b =>
    let v : Word := if sext then BitVec.ofInt 64 (signed (8 * n) (leNat b)) else BitVec.ofNat 64 (leNat b)
    .ok { m with mdr := v } s
  | .wait => .wait s
  | .trap c v => .trap c (BitVec.ofNat 64 v) s

/-- A STORE is held; all its checks are made now. -/
def Mic.store (m : Mic) (s : State) (w : StrId) (a n : Nat) (mdr : Word) : MicMem :=
  match s.firstTrap w 2 false (accParts a n) with
  | some (c, v) => .trap c (BitVec.ofNat 64 v) s
  | none =>
    if 16 ≤ m.stores.length then .trap Cause.ucode 0x05 s
    else .ok { m with stores := m.stores ++ [(a, leBytes n mdr.toNat)] } s

/-- The PSW bits that FMASK names: its bits are V, C, N, Z from the lowest (Table 09-2), those of PSW Z, N, C, V (Table 07-3). -/
def fmaskBits (f : Nat) : Nat := sumBits (fun k => decide (k < 4) && Nat.testBit f (3 - k))

/-- A commit (R255): registers, flags and stores take effect together; false while the buffers cannot take every store, when nothing takes
effect but the drain of older ones. -/
def Mic.commit (m : Mic) (s : State) (w : StrId) : Bool × State :=
  let r := m.stores.foldl (fun (x : Bool × State) q =>
    if x.1 then
      match x.2.store w q.1 q.2 false false with
      | (.done none, s) => (true, s)
      | (_, s) => (false, s)
    else x) (true, s)
  if r.1 then
    let s := r.2
    let t := s.str w
    let mask := BitVec.ofNat 32 (fmaskBits m.fmask)
    (true, s.setStr w { t with x := m.x, f := m.f, psw := pswPut t.psw mask (pswFlags 0 m.fl) })
  else (false, (s.drainStores w).2)

/-- The destination of the ALU result (Table 09-6). -/
def Mic.dest (m : Mic) (e : Nat) (o : CxOps) (k : Nat) (v : Word) : Mic :=
  match k with
  | 0 => m
  | 1 => m.setReg (DE.df e) o.d v
  | 2 => m.setReg (DE.sf e) o.a v
  | 11 => { m with mdr := v }
  | _ => { m with mt := m.mt.set (k - 3) v }

/-- The next microword: a hardware code of Table 09-8, or an address; END gives none. -/
def Mic.seqNext (m : Mic) (word : Nat) : Nat ⊕ Option (Nat × List Nat) :=
  let plus : Nat ⊕ Option (Nat × List Nat) := if 0x1FFF ≤ m.upc then .inl 0x04 else .inr (some (m.upc + 1, m.stack))
  match MW.seq word with
  | 0 => plus
  | 1 => .inr (some (MW.target word, m.stack))
  | 2 => if microCond m.fl (MW.cond word) then .inr (some (MW.target word, m.stack)) else plus
  | 3 => if 4 ≤ m.stack.length then .inl 0x02 else .inr (some (MW.target word, (m.upc + 1) :: m.stack))
  | 4 =>
    match m.stack with
    | [] => .inl 0x03
    | a :: t => if 0x2000 ≤ a then .inl 0x04 else .inr (some (a, t))
  | _ => .inr none

/-- Run microwords until the instruction ends, traps, waits, or passes an interruptible point, where the command ends (R257) and a halt is
taken. `n` is how many may still run before code 0x01. A bad word stalls the strider before it executes it (R251): what was held since the
last commit is made again after the refresh. -/
def runMicro (w : StrId) (e : Nat) (o : CxOps) (next : Word) (uip : Bool) : Nat → Mic → State → Res
  | 0, _, s => .trap Cause.ucode 0x01 uip s
  | n + 1, m, s =>
    let ue := (s.pond w.pond.val).csBad.contains m.upc || m.bad == some (true, m.upc)
    if ue then .stall (s.csStall w m.upc)
    else
    let ce := m.bad == some (false, m.upc)
    let s := if ce then s.pondRaise Flt.POND_CS_CE w.pond m.upc 21 2 1 else s
    let m := if ce then { m with bad := none } else m
    let word := s.ucWord m.upc
    if !MW.codesOk word then .trap Cause.ucode 0x00 uip s
    else
      let r := microAlu (MW.alu word) (m.source s w e o next word (MW.srcA word)) (m.source s w e o next word (MW.srcB word))
      let m₀ := m
      let m := if MW.ufl word then { m with fl := r.2 } else m
      if MW.ten word && microCond m.fl (MW.tcond word) then .trap Cause.ucode (BitVec.ofNat 64 (MW.tcode word)) uip s
      else
        let size := 2 ^ MW.msize word
        let acc := match MW.mem word with
          | 0 => MicMem.ok m s
          | 1 => m.load s w r.1.toNat size (MW.msext word)
          | _ => m.store s w r.1.toNat size m₀.mdr
        match acc with
        | .wait s => .stall s
        | .trap c v s => .trap c v uip s
        | .ok m s =>
          let m := m.dest e o (MW.dest word) r.1
          let m := { m with fmask := m.fmask ||| MW.fmask word }
          match m.seqNext word with
          | .inl code => .trap Cause.ucode (BitVec.ofNat 64 code) uip s
          | .inr none =>
            match m.commit s w with
            | (true, s) => .next s
            | (false, s) => .stall s
          | .inr (some (a, st)) =>
            if MW.ipt word then
              match m.commit s w with
              | (true, s) =>
                let t := s.str w
                let rec_ : UcSave := { addr := t.pc, upc := a, mt := m.mt, mdr := m.mdr, flags := flagsBits m.fl, stack := st,
                                       ready := true }
                .stall ((s.setStr w { t with uc := rec_ :: t.uc.filter (fun u => !u.ready) }).haltPoint w)
              | (false, s) => .stall s
            else runMicro w e o next uip n { m with upc := a, stack := st } s

/-- The microword error that an instruction's prefixes name. -/
def microBad (e : PipeErr) : Option (Bool × Nat) :=
  match e with
  | .csCe n => some (false, n.val)
  | .csUe n => some (true, n.val)
  | _ => none

/-- The effect of a CX instruction: from its start, or from the interruptible point that it has passed. -/
def State.cxRun (s : State) (w : StrId) (e : Nat) (o : CxOps) (next : Word) (bad : Option (Bool × Nat)) : Res :=
  let t := s.str w
  match t.uc.find? (fun u => u.ready && u.addr == t.pc) with
  | some u =>
    runMicro w e o next true 65536
      { upc := u.upc, mt := u.mt, mdr := u.mdr, fl := bitsFlags u.flags, stack := u.stack, x := t.x, f := t.f, stores := [], fmask := 0, bad := bad } s
  | none =>
    runMicro w e o next false 65536
      { upc := DE.entry e, mt := List.replicate 8 0, mdr := 0, fl := ⟨false, false, false, false⟩, stack := [], x := t.x, f := t.f,
        stores := [], fmask := 0, bad := bad } s

/-- CX_INSTRUCTION: `op` is the CX opcode, `ops` the operand bytes. -/
def execCxInstruction (w : StrId) (p : Pfx) (op : Fin 64) (ops : List Byte) (s : State) : Host.Outcome State Fault Refusal :=
  run s (fun s =>
    let e := s.ucEntry op.val
    if p.nt then s.instr w p (prefixLen p + 2) true (fun s => .stall s)
    else if !DE.valid e then s.instr w { p with rep := false } (prefixLen p + 2) false (fun s => .trap Cause.cxundef (BitVec.ofNat 64 op.val) false s)
    else
      let o := cxFields (DE.format e) p.wide ops
      let len := prefixLen p + 2 + cxLen (DE.format e) p.wide
      s.instr w p len (cxBad e p o) (fun s => s.cxRun w e o ((s.str w).pc + BitVec.ofNat 64 len) (microBad p.err)))

/-- Firmware has rewritten the bad words in a pond's store: the striders that wait for them go on (R251). -/
def execCsWordRefresh (p : Fin 68) (s : State) : Host.Outcome State Fault Refusal :=
  run s (fun s => (List.finRange 17).foldl (fun (s : State) k =>
    match (s.str ⟨p, k⟩).run with
    | .waiting .csWord => s.resume ⟨p, k⟩
    | _ => s) (s.setPond p.val { s.pond p.val with csBad := [] }))

/-- The background pass finds an error in a word of a pond's store, or none (R251); which word it is, the command does not say. A bad one stalls
the striders that fetch it. -/
def execCsBackgroundPass (p : Fin 68) (e : EccErr) (s : State) : Host.Outcome State Fault Refusal :=
  run s (fun s => match e with
    | .none => s
    | .ce =>
      let (k, s) := s.fresh
      s.pondRaise Flt.POND_CS_CE p (Config.free k % 8192) 21 2 1
    | .ue =>
      let (k, s) := s.fresh
      let n := Config.free k % 8192
      let x := s.pond p.val
      if x.csBad.contains n then s else (s.setPond p.val { x with csBad := x.csBad ++ [n] }).pondRaise Flt.POND_CS_UE p n 21 2 1)

end Sys2Proof.Machine
end

