-- ==== Sys2Proof/Machine/Float.lean ====
section
/-!
DEFINITION. The floating-point arithmetic of the striders (R231 to R246): IEEE 754 operations on binary32 and binary64 by
exact integer arithmetic and one rounding, with the NaN, flush and flag rules of chapter 08.
-/

namespace Sys2Proof.Machine

/-- A binary format: precision in bits and exponent field width. -/
structure FFmt where
  p     : Nat
  ebits : Nat
  deriving DecidableEq, Repr

def FFmt.s : FFmt := ⟨24, 8⟩
def FFmt.d : FFmt := ⟨53, 11⟩

/-- All ones in the exponent field. -/
def FFmt.emask (f : FFmt) : Nat := 2 ^ f.ebits - 1
/-- Exponent of the least significant bit of a subnormal number. -/
def FFmt.qmin (f : FFmt) : Int := 2 - (2 ^ (f.ebits - 1) : Nat) - ((f.p - 1 : Nat) : Int)
def FFmt.signBit (f : FFmt) : Nat := 2 ^ (f.p - 1 + f.ebits)
def FFmt.infBits (f : FFmt) : Nat := f.emask * 2 ^ (f.p - 1)
/-- The largest finite number M (Table 08-7). -/
def FFmt.maxBits (f : FFmt) : Nat := f.infBits - 1
/-- The default NaN (R239). -/
def FFmt.nanBits (f : FFmt) : Nat := f.infBits + 2 ^ (f.p - 2)

/-- An operand taken apart. A finite value is `m * 2 ^ e`. -/
inductive FVal where
  | nan (bits : Nat) (signalling : Bool)
  | inf (sign : Bool)
  | fin (sign : Bool) (m : Nat) (e : Int)
  deriving DecidableEq, Repr

/-- Take the bits of a number apart. -/
def FFmt.unpack (f : FFmt) (bits : Nat) : FVal :=
  let sign := decide (bits / f.signBit % 2 = 1)
  let ex := bits / 2 ^ (f.p - 1) % 2 ^ f.ebits
  let frac := bits % 2 ^ (f.p - 1)
  if ex = f.emask then
    if frac = 0 then .inf sign else .nan bits (decide (frac < 2 ^ (f.p - 2)))
  else if ex = 0 then .fin sign frac f.qmin
  else .fin sign (frac + 2 ^ (f.p - 1)) (f.qmin + (ex - 1 : Nat))

/-- A subnormal number that is not zero. -/
def FFmt.isSub (f : FFmt) (bits : Nat) : Bool :=
  bits / 2 ^ (f.p - 1) % 2 ^ f.ebits = 0 && bits % 2 ^ (f.p - 1) ≠ 0

/-- The flags of FCSR [5:0] (Table 08-3). -/
structure FFlags where
  id : Bool := false
  nv : Bool := false
  dz : Bool := false
  ovf : Bool := false
  uf : Bool := false
  nx : Bool := false
  deriving DecidableEq, Repr

/-- The flags in the bit order of FCSR [5:0]. -/
def FFlags.bits (f : FFlags) : Nat :=
  f.id.toNat * 32 + f.nv.toNat * 16 + f.dz.toNat * 8 + f.ovf.toNat * 4 + f.uf.toNat * 2 + f.nx.toNat

/-- The controls of FCSR that an operation reads (R233): rounding direction, FTZ, DAZ and the UF trap enable. -/
structure FCtl where
  rm  : Nat
  ftz : Bool
  daz : Bool
  ufEn : Bool
  deriving DecidableEq, Repr

/-- A result: its bits and the flags raised. -/
structure FRes where
  val   : Nat
  flags : FFlags
  deriving DecidableEq, Repr

/-- Round `m * 2 ^ e` to a multiple of `2 ^ q`: the multiple and whether it was inexact. Directions: 0 RNE, 1 RTZ, 2 RDN,
3 RUP, 4 RMM. -/
def roundAt (rm : Nat) (sign : Bool) (m : Nat) (e q : Int) : Nat × Bool :=
  if q ≤ e then (m * 2 ^ (e - q).toNat, false)
  else
    let k := (q - e).toNat
    let r := m % 2 ^ k
    let v := m / 2 ^ k
    let half := 2 ^ (k - 1)
    let up := match rm with
      | 0 => decide (half < r) || (decide (r = half) && decide (v % 2 = 1))
      | 1 => false
      | 2 => sign && decide (r ≠ 0)
      | 3 => !sign && decide (r ≠ 0)
      | _ => decide (half ≤ r)
    (if up then v + 1 else v, decide (r ≠ 0))

/-- Number of bits of a nonzero number. -/
def bitLen (m : Nat) : Nat := if m = 0 then 0 else Nat.log2 m + 1

/-- Round the exact nonzero value `m * 2 ^ e` (with `sticky` for a nonzero part below) to the format (R235, R236, R244). -/
def FFmt.pack (f : FFmt) (c : FCtl) (flushes : Bool) (sign : Bool) (m0 : Nat) (e0 : Int) (sticky : Bool) (fl : FFlags) :
    FRes :=
  let sb := if sign then f.signBit else 0
  let m := m0 * 2 ^ (f.p + 3) + sticky.toNat
  let e := e0 - (f.p + 3 : Nat)
  let qu := e + bitLen m - f.p
  let ru := roundAt c.rm sign m e qu
  let tiny := decide ((bitLen ru.1 : Int) + qu ≤ f.qmin + (f.p - 1 : Nat))
  let top : Int := f.qmin + (f.emask - 2 : Nat) + f.p
  if top < (bitLen ru.1 : Int) + qu then
    let toInf := match c.rm with
      | 0 => true | 1 => false | 2 => sign | 3 => !sign | _ => true
    ⟨sb + (if toInf then f.infBits else f.maxBits), { fl with ovf := true, nx := true }⟩
  else
    let q := max qu f.qmin
    let r := roundAt c.rm sign m e q
    if tiny && flushes && c.ftz then ⟨sb, { fl with uf := true, nx := true }⟩
    else
      let val := if r.1 < 2 ^ (f.p - 1) then r.1 else (q - f.qmin).toNat * 2 ^ (f.p - 1) + r.1
      ⟨sb + val, { fl with nx := fl.nx || r.2, uf := fl.uf || (tiny && (r.2 || c.ufEn)) }⟩

/-- An operand read under DAZ (R243): the bits used, and whether it was flushed. -/
def FFmt.daz (f : FFmt) (c : FCtl) (bits : Nat) : Nat × Bool :=
  if c.daz && f.isSub bits then (bits / f.signBit % 2 * f.signBit, true) else (bits, false)

/-- A NaN made quiet (R239). -/
def FFmt.quiet (f : FFmt) (bits : Nat) : Nat :=
  if bits / 2 ^ (f.p - 2) % 2 = 1 then bits else bits + 2 ^ (f.p - 2)

/-- The first NaN among the operands, quieted (R239). -/
def FFmt.firstNan (f : FFmt) : List FVal → Option Nat
  | [] => none
  | .nan b _ :: _ => some (f.quiet b)
  | _ :: t => f.firstNan t

/-- Some operand is a signalling NaN. -/
def anySignalling : List FVal → Bool
  | [] => false
  | .nan _ s :: t => s || anySignalling t
  | _ :: t => anySignalling t

def FFmt.zero (f : FFmt) (sign : Bool) : Nat := if sign then f.signBit else 0
def FFmt.inf (f : FFmt) (sign : Bool) : Nat := f.zero sign + f.infBits

/-- The exact sum of two finite values as a signed integer times a power of two. -/
def exactSum (s1 : Bool) (m1 : Nat) (e1 : Int) (s2 : Bool) (m2 : Nat) (e2 : Int) : Int × Int :=
  let e := min e1 e2
  let i1 : Int := (m1 * 2 ^ (e1 - e).toNat : Nat)
  let i2 : Int := (m2 * 2 ^ (e2 - e).toNat : Nat)
  ((if s1 then -i1 else i1) + (if s2 then -i2 else i2), e)

/-- Pack an exact sum; an exact zero takes the sign of R237. -/
def FFmt.packSum (f : FFmt) (c : FCtl) (s1 s2 : Bool) (v : Int × Int) (fl : FFlags) : FRes :=
  if v.1 = 0 then ⟨f.zero (if s1 = s2 then s1 else decide (c.rm = 2)), fl⟩
  else f.pack c true (decide (v.1 < 0)) v.1.natAbs v.2 false fl

/-- Addition of `a` and `b`, the second with its sign changed when `neg` (R235, R237). -/
def FFmt.addSub (f : FFmt) (c : FCtl) (neg : Bool) (a b : FVal) (fl : FFlags) : FRes :=
  match f.firstNan [a, b] with
  | some n => ⟨n, { fl with nv := fl.nv || anySignalling [a, b] }⟩
  | none =>
    match a, b with
    | .inf s1, .inf s2 => if s1 = (s2 != neg) then ⟨f.inf s1, fl⟩ else ⟨f.nanBits, { fl with nv := true }⟩
    | .inf s1, _ => ⟨f.inf s1, fl⟩
    | _, .inf s2 => ⟨f.inf (s2 != neg), fl⟩
    | .fin s1 m1 e1, .fin s2 m2 e2 =>
      f.packSum c s1 (s2 != neg) (exactSum s1 m1 e1 (s2 != neg) m2 e2) fl
    | _, _ => ⟨f.nanBits, fl⟩

/-- Multiplication. -/
def FFmt.mul (f : FFmt) (c : FCtl) (a b : FVal) (fl : FFlags) : FRes :=
  match f.firstNan [a, b] with
  | some n => ⟨n, { fl with nv := fl.nv || anySignalling [a, b] }⟩
  | none =>
    match a, b with
    | .inf s1, .inf s2 => ⟨f.inf (s1 != s2), fl⟩
    | .inf s1, .fin s2 m _ => if m = 0 then ⟨f.nanBits, { fl with nv := true }⟩ else ⟨f.inf (s1 != s2), fl⟩
    | .fin s1 m _, .inf s2 => if m = 0 then ⟨f.nanBits, { fl with nv := true }⟩ else ⟨f.inf (s1 != s2), fl⟩
    | .fin s1 m1 e1, .fin s2 m2 e2 =>
      if m1 * m2 = 0 then ⟨f.zero (s1 != s2), fl⟩ else f.pack c true (s1 != s2) (m1 * m2) (e1 + e2) false fl
    | _, _ => ⟨f.nanBits, fl⟩

/-- Division. -/
def FFmt.div (f : FFmt) (c : FCtl) (a b : FVal) (fl : FFlags) : FRes :=
  match f.firstNan [a, b] with
  | some n => ⟨n, { fl with nv := fl.nv || anySignalling [a, b] }⟩
  | none =>
    match a, b with
    | .inf _, .inf _ => ⟨f.nanBits, { fl with nv := true }⟩
    | .inf s1, .fin s2 _ _ => ⟨f.inf (s1 != s2), fl⟩
    | .fin s1 _ _, .inf s2 => ⟨f.zero (s1 != s2), fl⟩
    | .fin s1 m1 e1, .fin s2 m2 e2 =>
      if m2 = 0 then
        if m1 = 0 then ⟨f.nanBits, { fl with nv := true }⟩ else ⟨f.inf (s1 != s2), { fl with dz := true }⟩
      else if m1 = 0 then ⟨f.zero (s1 != s2), fl⟩
      else
        let k := 2 * f.p + 4
        let n := m1 * 2 ^ k
        f.pack c true (s1 != s2) (n / m2) (e1 - e2 - (k : Nat)) (decide (n % m2 ≠ 0)) fl
    | _, _ => ⟨f.nanBits, fl⟩

/-- The integer square root, bit by bit from bit `i - 1` down. -/
def isqrt (n : Nat) : Nat → Nat → Nat
  | 0, r => r
  | i + 1, r => if (r + 2 ^ i) * (r + 2 ^ i) ≤ n then isqrt n i (r + 2 ^ i) else isqrt n i r

/-- Square root. -/
def FFmt.sqrt (f : FFmt) (c : FCtl) (a : FVal) (fl : FFlags) : FRes :=
  match a with
  | .nan b s => ⟨f.quiet b, { fl with nv := fl.nv || s }⟩
  | .inf true => ⟨f.nanBits, { fl with nv := true }⟩
  | .inf false => ⟨f.inf false, fl⟩
  | .fin s m e =>
    if m = 0 then ⟨f.zero s, fl⟩
    else if s then ⟨f.nanBits, { fl with nv := true }⟩
    else
      let k := 2 * f.p + 6 + (e - (2 * f.p + 6 : Nat)) % 2
      let n := m * 2 ^ k.toNat
      let r := isqrt n (bitLen n / 2 + 1) 0
      f.pack c true false r ((e - k) / 2) (decide (r * r ≠ n)) fl

/-- Fused multiply and add; `np` negates the product and `nc` the addend before the single rounding (Table 08-2). -/
def FFmt.fma (f : FFmt) (c : FCtl) (np nc : Bool) (a b d : FVal) (fl : FFlags) : FRes :=
  let bad := match a, b with
    | .inf _, .fin _ m _ => decide (m = 0)
    | .fin _ m _, .inf _ => decide (m = 0)
    | _, _ => false
  let fl := { fl with nv := fl.nv || bad || anySignalling [a, b, d] }
  match f.firstNan [a, b, d] with
  | some n => ⟨n, fl⟩
  | none =>
    if bad then ⟨f.nanBits, fl⟩
    else
      let psign := match a, b with
        | .inf s1, .inf s2 => (s1 != s2) != np
        | .inf s1, .fin s2 _ _ => (s1 != s2) != np
        | .fin s1 _ _, .inf s2 => (s1 != s2) != np
        | .fin s1 _ _, .fin s2 _ _ => (s1 != s2) != np
        | _, _ => false
      match a, b, d with
      | .fin _ m1 e1, .fin _ m2 e2, .fin s3 m3 e3 =>
        f.packSum c psign (s3 != nc) (exactSum psign (m1 * m2) (e1 + e2) (s3 != nc) m3 e3) fl
      | .fin _ _ _, .fin _ _ _, .inf s3 => ⟨f.inf (s3 != nc), fl⟩
      | _, _, .inf s3 => if (s3 != nc) = psign then ⟨f.inf psign, fl⟩ else ⟨f.nanBits, { fl with nv := true }⟩
      | _, _, _ => ⟨f.inf psign, fl⟩

/-- Order of two numbers that are not NaN, with −0 below +0 when `zeros`. -/
def fLess (zeros : Bool) : FVal → FVal → Bool
  | .inf s1, .inf s2 => s1 && !s2
  | .inf s1, _ => s1
  | _, .inf s2 => !s2
  | .fin s1 m1 e1, .fin s2 m2 e2 =>
    let v := exactSum s1 m1 e1 (!s2) m2 e2
    if v.1 = 0 then zeros && s1 && !s2 else decide (v.1 < 0)
  | _, _ => false

/-- minimumNumber and maximumNumber (R240). -/
def FFmt.minMax (f : FFmt) (isMax : Bool) (abits bbits : Nat) (a b : FVal) (fl : FFlags) : FRes :=
  let fl := { fl with nv := fl.nv || anySignalling [a, b] }
  match a, b with
  | .nan n _, .nan _ _ => ⟨f.quiet n, fl⟩
  | .nan _ _, _ => ⟨bbits, fl⟩
  | _, .nan _ _ => ⟨abits, fl⟩
  | _, _ => ⟨if isMax then (if fLess true a b then bbits else abits) else (if fLess true b a then bbits else abits), fl⟩

/-- FOP of codes 0 to 11 (Table 07-9); `none` for the undefined codes. -/
def FFmt.fop (f : FFmt) (c : FCtl) (x : Nat) (a b d : Nat) : Option FRes :=
  let a' := f.daz c a
  let b' := f.daz c b
  let d' := f.daz c d
  let va := f.unpack a'.1
  let vb := f.unpack b'.1
  let vd := f.unpack d'.1
  let f1 : FFlags := { id := a'.2 }
  let f2 : FFlags := { id := a'.2 || b'.2 }
  let f3 : FFlags := { id := a'.2 || b'.2 || d'.2 }
  match x with
  | 0 => some (f.addSub c false va vb f2)
  | 1 => some (f.addSub c true va vb f2)
  | 2 => some (f.mul c va vb f2)
  | 3 => some (f.div c va vb f2)
  | 4 => some (f.sqrt c va f1)
  | 5 => some (f.minMax false a'.1 b'.1 va vb f2)
  | 6 => some (f.minMax true a'.1 b'.1 va vb f2)
  | 7 => some (f.fma c false false va vb vd f3)
  | 8 => some (f.fma c false true va vb vd f3)
  | 9 => some (f.fma c true false va vb vd f3)
  | 10 => some ⟨a % f.signBit, {}⟩
  | 11 => some ⟨if a / f.signBit % 2 = 1 then a - f.signBit else a + f.signBit, {}⟩
  | _ => none

/-- The outcome of a compare: Z, N, C, V (R240) and flags. -/
structure FCmpRes where
  z : Bool
  n : Bool
  c : Bool
  v : Bool
  flags : FFlags
  deriving DecidableEq, Repr

/-- FCMP (R240). -/
def FFmt.cmp (f : FFmt) (c : FCtl) (a b : Nat) : FCmpRes :=
  let a' := f.daz c a
  let b' := f.daz c b
  let va := f.unpack a'.1
  let vb := f.unpack b'.1
  let fl : FFlags := { id := a'.2 || b'.2, nv := anySignalling [va, vb] }
  match f.firstNan [va, vb] with
  | some _ => ⟨false, false, true, true, fl⟩
  | none =>
    let lt := fLess false va vb
    let gt := fLess false vb va
    ⟨!lt && !gt, lt, false, false, fl⟩

/-- FCVT S→D (R239, R242). -/
def cvtSD (c : FCtl) (a : Nat) : FRes :=
  let a' := FFmt.s.daz c a
  let fl : FFlags := { id := a'.2 }
  match FFmt.s.unpack a'.1 with
  | .nan b s => ⟨FFmt.d.zero (decide (b / 2 ^ 31 = 1)) + FFmt.d.infBits + 2 ^ 51 + b % 2 ^ 22 * 2 ^ 29,
      { fl with nv := s }⟩
  | .inf s => ⟨FFmt.d.inf s, fl⟩
  | .fin s m e => if m = 0 then ⟨FFmt.d.zero s, fl⟩ else FFmt.d.pack { c with ufEn := false } false s m e false fl

/-- FCVT D→S (R239, R242, R244). -/
def cvtDS (c : FCtl) (a : Nat) : FRes :=
  let a' := FFmt.d.daz c a
  let fl : FFlags := { id := a'.2 }
  match FFmt.d.unpack a'.1 with
  | .nan b s => ⟨FFmt.s.zero (decide (b / 2 ^ 63 = 1)) + FFmt.s.infBits + 2 ^ 22 + b / 2 ^ 29 % 2 ^ 22,
      { fl with nv := s }⟩
  | .inf s => ⟨FFmt.s.inf s, fl⟩
  | .fin s m e => if m = 0 then ⟨FFmt.s.zero s, fl⟩ else FFmt.s.pack c true s m e false fl

/-- FCVT to a 64-bit integer (R241, Table 08-5); the result as 64 bits. -/
def FFmt.toInt (f : FFmt) (c : FCtl) (signed : Bool) (a : Nat) : FRes :=
  let a' := f.daz c a
  let fl : FFlags := { id := a'.2 }
  let hi := if signed then 2 ^ 63 - 1 else 2 ^ 64 - 1
  let lo := if signed then 2 ^ 63 else 0
  match f.unpack a'.1 with
  | .nan _ _ => ⟨hi, { fl with nv := true }⟩
  | .inf s => ⟨if s then lo else hi, { fl with nv := true }⟩
  | .fin s m e =>
    let r := roundAt c.rm s m e 0
    if s then
      if signed then
        if 2 ^ 63 < r.1 then ⟨lo, { fl with nv := true }⟩ else ⟨(2 ^ 64 - r.1) % 2 ^ 64, { fl with nx := r.2 }⟩
      else if r.1 = 0 then ⟨0, { fl with nx := r.2 }⟩ else ⟨0, { fl with nv := true }⟩
    else if hi < r.1 then ⟨hi, { fl with nv := true }⟩ else ⟨r.1, { fl with nx := r.2 }⟩

/-- FCVT from a 64-bit integer (R242). -/
def FFmt.ofInt (f : FFmt) (c : FCtl) (signed : Bool) (a : Nat) : FRes :=
  if a = 0 then ⟨0, {}⟩
  else if signed && decide (2 ^ 63 ≤ a) then f.pack c false true (2 ^ 64 - a) 0 false {}
  else f.pack c false false a 0 false {}

/-- FCVT of codes 0 to 9 (Table 07-9): the source as 64 bits; `none` for the undefined codes. -/
def fcvt (c : FCtl) (x : Nat) (a : Nat) : Option FRes :=
  match x with
  | 0 => some (cvtSD c (a % 2 ^ 32))
  | 1 => some (cvtDS c a)
  | 2 => some (FFmt.s.toInt c true (a % 2 ^ 32))
  | 3 => some (FFmt.d.toInt c true a)
  | 4 => some (FFmt.s.toInt c false (a % 2 ^ 32))
  | 5 => some (FFmt.d.toInt c false a)
  | 6 => some (FFmt.s.ofInt c true a)
  | 7 => some (FFmt.d.ofInt c true a)
  | 8 => some (FFmt.s.ofInt c false a)
  | 9 => some (FFmt.d.ofInt c false a)
  | _ => none

end Sys2Proof.Machine
end

