-- ==== Sys2Proof/Machine/StrLd.lean ====
section
/-!
DEFINITION. Loads, stores, atomic operations and floating-point instructions of a strider (Tables 07-9 and 07-10, chapter 8), and
the drains of its buffers.
-/

namespace Sys2Proof.Machine

/-! ### Memory instructions -/

/-- Bytes of an access by the size code x[1:0]. -/
def sizeOf2 (x : Nat) : Nat := 2 ^ (x % 4)

/-- Length and legality of format M; `nt` says NT applies. -/
def State.fmtM (s : State) (w : StrId) (p : Pfx) (nt bad : Bool) (body : State → Res) : State :=
  s.instr w p (prefixLen p + 5) (badPfx p true nt false || bad) body

/-- The address of a format M instruction, whose U bit is x[3] (Table 07-10). -/
def State.addrM (s : State) (w : StrId) (f : FmtM) : Word := memAddr ((s.str w).xr f.a) (disp16 f.disp) (f.x.getLsbD 3)

/-- Post-modification of the base with U = 1, once the access is complete (R199); `base` is the base as read. -/
def State.postInc (s : State) (w : StrId) (a : RegNo) (base disp : Word) (u : Bool) : State :=
  if u then s.setX w a (base + disp) else s

/-- A load: `k` puts the bytes loaded into the destination. A store to device space is posted (R320): no answer to it reaches the strider. -/
def State.loadM (s : State) (w : StrId) (f : FmtM) (n : Nat) (e : MemErr) (k : State → List Byte → State) : Res :=
  let base := (s.str w).xr f.a
  let a := s.addrM w f
  let r := if e = .devErr ∧ devBase ≤ a.toNat then s.loadRefused w a.toNat n else (s.memError w a.toNat 0 true e).load w a.toNat n true
  MemRes.andThen r (fun b s =>
    .next ((k s b).postInc w f.a base (disp16 f.disp) (f.x.getLsbD 3)))

/-- A stored result as an instruction's outcome: `k` is what completion does beside. -/
def storeThen (r : StRes × State) (k : State → State) : Res :=
  match r with
  | (.done none, s) => .next (k s)
  | (.done (some q), s) => .wait q (k s)
  | (.wait, s) => .stall s
  | (.trap c v, s) => .trap c (BitVec.ofNat 64 v) false s

/-- A store of bytes in format M. -/
def State.storeM (s : State) (w : StrId) (p : Pfx) (f : FmtM) (b : List Byte) : Res :=
  let base := (s.str w).xr f.a
  storeThen (s.store w (s.addrM w f).toNat b p.nt true) (fun s => s.postInc w f.a base (disp16 f.disp) (f.x.getLsbD 3))

/-- The value loaded: zero-extended, or sign-extended with x[2]. -/
def loaded (f : FmtM) (b : List Byte) : Word :=
  if f.x.getLsbD 2 then BitVec.ofInt 64 (signed (8 * b.length) (leNat b)) else BitVec.ofNat 64 (leNat b)

/-- The register rule of an updating load (Table 07-10). -/
def badUpdate (f : FmtM) : Bool := f.x.getLsbD 3 && f.d == f.a && !zeroReg f.d

/-- LD: with U, d = a with d ≠ 0 is illegal (Table 07-10). -/
def execLd (w : StrId) (p : Pfx) (f : FmtM) (e : MemErr) (s : State) : Host.Outcome State Fault Refusal :=
  run s (fun s => s.fmtM w p false (decide (16 ≤ f.x.toNat) || badUpdate f) (fun s =>
    s.loadM w f (sizeOf2 f.x.toNat) e (fun s b => s.setX w f.d (loaded f b))))

/-- ST. -/
def execSt (w : StrId) (p : Pfx) (f : FmtM) (s : State) : Host.Outcome State Fault Refusal :=
  run s (fun s => s.fmtM w p true (decide (16 ≤ f.x.toNat) || f.x.getLsbD 2) (fun s =>
    s.storeM w p f (leBytes (sizeOf2 f.x.toNat) ((s.str w).xr f.d).toNat)))

/-- LDF: size 4 or 8; with U, d = a with d ≠ 0 is illegal (Table 07-10). -/
def execLdf (w : StrId) (p : Pfx) (f : FmtM) (e : MemErr) (s : State) : Host.Outcome State Fault Refusal :=
  run s (fun s => s.fmtM w p false (decide (16 ≤ f.x.toNat) || decide (f.x.toNat % 4 < 2) || badUpdate f) (fun s =>
    s.loadM w f (sizeOf2 f.x.toNat) e (fun s b => s.setF w f.d (loaded f b))))

/-- STF: size 4 or 8. -/
def execStf (w : StrId) (p : Pfx) (f : FmtM) (s : State) : Host.Outcome State Fault Refusal :=
  run s (fun s => s.fmtM w p true (decide (16 ≤ f.x.toNat) || f.x.getLsbD 2 || decide (f.x.toNat % 4 < 2)) (fun s =>
    s.storeM w p f (leBytes (sizeOf2 f.x.toNat) ((s.str w).fr f.d).toNat)))

/-- A pair's register rule: d even; and x[1:0] = 3. -/
def badPair (f : FmtM) : Bool := f.d.val % 2 == 1 || decide (16 ≤ f.x.toNat) || decide (f.x.toNat % 4 ≠ 3)

/-- LDP: 8-byte alignment (R191). -/
def execLdp (w : StrId) (p : Pfx) (f : FmtM) (e : MemErr) (s : State) : Host.Outcome State Fault Refusal :=
  run s (fun s => s.fmtM w p false (badPair f || badUpdate f) (fun s =>
    let a := s.addrM w f
    if a.toNat % 8 ≠ 0 then .trap Cause.align a false s
    else
      s.loadM w f 16 e (fun s b =>
        (s.setX w f.d (BitVec.ofNat 64 (leAt b 0 8))).setX w (nextReg f.d) (BitVec.ofNat 64 (leAt b 8 8)))))

/-- STP. -/
def execStp (w : StrId) (p : Pfx) (f : FmtM) (s : State) : Host.Outcome State Fault Refusal :=
  run s (fun s => s.fmtM w p true (badPair f || f.x.getLsbD 2) (fun s =>
    let a := s.addrM w f
    if a.toNat % 8 ≠ 0 then .trap Cause.align a false s
    else
      s.storeM w p f (leBytes 8 ((s.str w).xr f.d).toNat ++ leBytes 8 ((s.str w).xr (nextReg f.d)).toNat)))

/-- AMO (R319): c is used by CAS alone. -/
def execAmo (w : StrId) (p : Pfx) (f : FmtC) (e : MemErr) (s : State) : Host.Outcome State Fault Refusal :=
  run s (fun s => s.fmtC w p (decide (8 ≤ f.x.toNat) || (f.x != 7 && !zeroReg f.c)) (fun s => s.micro w p (fun s =>
    let t := s.str w
    MemRes.andThen ((s.memError w (t.xr f.a).toNat 3 false e).amo w (t.xr f.a).toNat f.x.toNat (t.xr f.b) (t.xr f.c)) (fun b s =>
      .next (s.setX w f.d (BitVec.ofNat 64 (leNat b)))))))

/-- STI: the U bit is x[2]; WIDE only with size 8. -/
def execSti (w : StrId) (p : Pfx) (f : FmtS) (s : State) : Host.Outcome State Fault Refusal :=
  run s (fun s =>
    s.instr w p (prefixLen p + 1 + lenS p)
      (badPfx p true true true || decide (8 ≤ f.x.toNat) || (p.wide && decide (f.x.toNat % 4 ≠ 3))) (fun s =>
      let base := (s.str w).xr f.a
      let u := f.x.getLsbD 2
      let a := memAddr base (disp16 f.disp) u
      storeThen (s.store w a.toNat (leBytes (sizeOf2 f.x.toNat) (immOf p f.imm).toNat) p.nt true)
        (fun s => s.postInc w f.a base (disp16 f.disp) u)))

/-! ### Floating point (R231 to R245) -/

/-- The controls that FCSR gives an operation (R233). -/
def fctl (fcsr : Word32) : FCtl :=
  { rm := fcsr.toNat / 2 ^ 16 % 8, ftz := fcsr.getLsbD 19, daz := fcsr.getLsbD 20, ufEn := fcsr.getLsbD 9 }

/-- An operation with its flags computed (R245): an enabled flag traps with every flag in TVAL; else the flags are gathered in FCSR
and `k` writes the result. -/
def State.fpDone (s : State) (w : StrId) (fl : FFlags) (k : State → State) : Res :=
  let t := s.str w
  let b := fl.bits
  if b % 32 &&& (t.fcsr.toNat / 2 ^ 8 % 32) ≠ 0 then .trap Cause.fp (BitVec.ofNat 64 b) false s
  else .next (k (s.setStr w { t with fcsr := t.fcsr ||| BitVec.ofNat 32 b }))

/-- The bits of a binary32 or binary64 operand. -/
def fpBits (f : FFmt) (v : Word) : Nat := if f = FFmt.s then v.toNat % 2 ^ 32 else v.toNat

/-- Fields of an FOP: SQRT, ABS and NEG read Fa alone, the fused forms Fc too (R232). -/
def badFop (f : FmtC) : Bool :=
  let x := f.x.toNat
  decide (12 ≤ x) || ((x == 4 || x == 10 || x == 11) && !zeroReg f.b) || (!(decide (7 ≤ x ∧ x ≤ 9)) && !zeroReg f.c)

/-- An FOP of a format. -/
def State.fopOp (s : State) (w : StrId) (f : FmtC) (m : FFmt) : Res :=
  let t := s.str w
  match m.fop (fctl t.fcsr) f.x.toNat (fpBits m (t.fr f.a)) (fpBits m (t.fr f.b)) (fpBits m (t.fr f.c)) with
  | none => .next s
  | some r => s.fpDone w r.flags (fun s => s.setF w f.d (BitVec.ofNat 64 r.val))

/-- FOP.S. -/
def execFopS (w : StrId) (p : Pfx) (f : FmtC) (s : State) : Host.Outcome State Fault Refusal :=
  run s (fun s => s.fmtC w p (badFop f) (fun s => s.fopOp w f FFmt.s))

/-- FOP.D. -/
def execFopD (w : StrId) (p : Pfx) (f : FmtC) (s : State) : Host.Outcome State Fault Refusal :=
  run s (fun s => s.fmtC w p (badFop f) (fun s => s.fopOp w f FFmt.d))

/-- FCMP: binary32 with x = 0, binary64 with x = 1 (R240). -/
def execFcmp (w : StrId) (p : Pfx) (f : FmtB) (s : State) : Host.Outcome State Fault Refusal :=
  run s (fun s => s.fmtB w p (!zeroReg f.d) (fun s =>
    let t := s.str w
    let m := if f.x then FFmt.d else FFmt.s
    let r := m.cmp (fctl t.fcsr) (fpBits m (t.fr f.a)) (fpBits m (t.fr f.b))
    s.fpDone w r.flags (fun s => s.setStr w ((s.str w).flags { z := r.z, n := r.n, c := r.c, v := r.v }))))

/-- The source of an FCVT as 64 bits (R232). -/
def fcvtSource (t : StrSt) (f : FmtC) : Nat :=
  let x := f.x.toNat
  if 6 ≤ x then (t.xr f.a).toNat else if x = 0 ∨ x = 2 ∨ x = 4 then (t.fr f.a).toNat % 2 ^ 32 else (t.fr f.a).toNat

/-- FCVT: codes 2 to 5 write Xd. -/
def execFcvt (w : StrId) (p : Pfx) (f : FmtC) (s : State) : Host.Outcome State Fault Refusal :=
  run s (fun s => s.fmtC w p (decide (10 ≤ f.x.toNat) || !zeroReg f.b || !zeroReg f.c) (fun s =>
    let t := s.str w
    match fcvt (fctl t.fcsr) f.x.toNat (fcvtSource t f) with
    | none => .next s
    | some r =>
      s.fpDone w r.flags (fun s =>
        if 2 ≤ f.x.toNat ∧ f.x.toNat ≤ 5 then s.setX w f.d (BitVec.ofNat 64 r.val) else s.setF w f.d (BitVec.ofNat 64 r.val))))

/-- FMOV. -/
def execFmov (w : StrId) (p : Pfx) (f : FmtC) (s : State) : Host.Outcome State Fault Refusal :=
  run s (fun s => s.fmtC w p (decide (3 ≤ f.x.toNat) || !zeroReg f.b || !zeroReg f.c) (fun s =>
    let t := s.str w
    .next (if f.x = 0 then s.setF w f.d (t.fr f.a) else if f.x = 1 then s.setF w f.d (t.xr f.a) else s.setX w f.d (t.fr f.a))))

/-! ### Buffers -/

/-- The oldest store-buffer entry is performed (R312), with the error that its access meets; one whose memory does not answer stays. -/
def execSbEntryDrain (w : StrId) (e : MemErr) (s : State) : Host.Outcome State Fault Refusal :=
  run s (fun s =>
    match (s.str w).sb with
    | [] => s
    | b :: _ => ((s.memError w b.first 1 false e).drainOne w).2)

/-- A combining-buffer entry drains (R313), with the error that its access meets. -/
def execCbEntryDrain (w : StrId) (i : Fin 4) (e : MemErr) (s : State) : Host.Outcome State Fault Refusal :=
  run s (fun s =>
    match (s.str w).cb[i.val]? with
    | none => s
    | some b => ((s.memError w b.first 1 false e).drainNt w i.val).2)

end Sys2Proof.Machine
end

