-- ==== Sys2Proof/Machine/StrTask.lean ====
section
/-!
DEFINITION. Outputs, waits and task control (Tables 07-15 and 07-17, R207 to R222): EMIT, POST, COMMIT, RECV, TASKEND, the WAIT
instructions and SLEEP, with the events that complete them, and the dispatch and abandonment of tasks.
-/

namespace Sys2Proof.Machine

/-! ### Outputs -/

/-- An output in format B. -/
def State.outB (s : State) (w : StrId) (p : Pfx) (bad : Bool) (body : State → Res) : State :=
  s.instr w p 3 (badPfx p false false false || bad) body

/-- EMIT: b = 0, x = 0. -/
def execEmit (w : StrId) (p : Pfx) (f : FmtB) (s : State) : Host.Outcome State Fault Refusal :=
  run s (fun s => s.outB w p (!zeroReg f.b || f.x) (fun s => s.micro w p (fun s => s.emitIssue w f)))

/-- The oldest EMIT that waits at a weir is accepted once journal admission and a free window entry both pass (R89). -/
def execEmitStallAccept (n : Fin 96) (s : State) : Host.Outcome State Fault Refusal := run s (fun s => s.emitServe n.val)

/-- EMIT_WAIT_MAX has passed (R89). -/
def execEmitWaitTimeout (w : StrId) (s : State) : Host.Outcome State Fault Refusal := run s (fun s => s.emitTimeout w)

/-- POST: x = 0. -/
def execPost (w : StrId) (p : Pfx) (f : FmtB) (s : State) : Host.Outcome State Fault Refusal :=
  run s (fun s => s.outB w p f.x (fun s => s.micro w p (fun s => s.postIssue w f)))

/-- A POST that found no space within 2 µs (R208). -/
def execPostWaitTimeout (w : StrId) (s : State) : Host.Outcome State Fault Refusal := run s (fun s => s.postTimeout w)

/-- COMMIT: x = 0; `busy` says that another COMMIT holds the page (R390). One that waits goes on when it no longer does. -/
def execCommit (w : StrId) (p : Pfx) (f : FmtB) (busy : Bool) (s : State) : Host.Outcome State Fault Refusal :=
  run s (fun s =>
    match (s.str w).run with
    | .waiting (.commit ..) => if busy then s else s.commitResume w
    | _ => s.outB w p f.x (fun s => s.micro w p (fun s => s.commitIssue w f busy)))

/-- A COMMIT still blocked after 2 µs (R390). -/
def execCommitBusyTimeout (w : StrId) (s : State) : Host.Outcome State Fault Refusal := run s (fun s => s.commitTimeout w)

/-- RECV: x = 0 (R209). -/
def execRecv (w : StrId) (p : Pfx) (f : FmtB) (s : State) : Host.Outcome State Fault Refusal :=
  run s (fun s => s.outB w p f.x (fun s => s.micro w p (fun s => s.recvIssue w f)))

/-! ### The end of a task -/

/-- TASKEND: x = 0 (R212). -/
def execTaskend (w : StrId) (p : Pfx) (f : FmtA) (s : State) : Host.Outcome State Fault Refusal :=
  run s (fun s => s.instr w p 2 (badPfx p false false false || f.x != 0) (fun s => s.micro w p (fun s => s.taskendIssue w f)))

/-- A refused end message is tried again (R212). -/
def execEndMsgRetry (w : StrId) (s : State) : Host.Outcome State Fault Refusal := run s (fun s => s.endRetry w)

/-- Run time has reached the limit: the task is abandoned at the boundary at which its strider stands (R215). -/
def execTaskAbandon (w : StrId) (s : State) : Host.Outcome State Fault Refusal :=
  run s (fun s => if (s.str w).run = .running ∧ s.timeUp w then s.abandonTask w 1 else s)

/-- The dispatcher starts a task on an idle strider (R207, R343, R392); a dispatch ends D-NAP (R487). -/
def execTaskDispatch (b : Fin 4) (q : Fin 64) (w : StrId) (s : State) : Host.Outcome State Fault Refusal :=
  run s (fun s =>
    if s.napping then
      let t := s.napEnd.dispatch b.val q.val w
      if (t.str w).run = .running then t else s
    else s.dispatch b.val q.val w)

/-! ### Waits -/

/-- WAITA: x = 0 (R218). -/
def execWaita (w : StrId) (p : Pfx) (f : FmtC) (s : State) : Host.Outcome State Fault Refusal :=
  run s (fun s => s.instr w p 4 (badPfx p false false false || f.x != 0) (fun s => s.micro w p (fun s => s.waitaIssue w f)))

/-- WAITT: b = 0, x = 0 (R219). -/
def execWaitt (w : StrId) (p : Pfx) (f : FmtB) (s : State) : Host.Outcome State Fault Refusal :=
  run s (fun s => s.outB w p (!zeroReg f.b || f.x) (fun s => s.micro w p (fun s => s.waittIssue w f)))

/-- WAITQ: x = 0 (R220). -/
def execWaitq (w : StrId) (p : Pfx) (f : FmtB) (s : State) : Host.Outcome State Fault Refusal :=
  run s (fun s => s.outB w p f.x (fun s => s.micro w p (fun s => s.waitqIssue w f)))

/-- SLEEP: x = 0 (R221). -/
def execSleep (w : StrId) (p : Pfx) (f : FmtA) (s : State) : Host.Outcome State Fault Refusal :=
  run s (fun s => s.instr w p 2 (badPfx p false false false || f.x != 0) (fun s => s.micro w p (fun s => s.sleepIssue w f)))

/-- The tracker's estimate reaches the target of a WAITA (R218). -/
def execWaitaComplete (w : StrId) (s : State) : Host.Outcome State Fault Refusal := run s (fun s => s.waitaEnd w)

/-- DT reaches the target of a WAITT (R219). -/
def execWaittComplete (w : StrId) (s : State) : Host.Outcome State Fault Refusal := run s (fun s => s.waittEnd w)

/-- The entry or event of a WAITQ has come (R220). -/
def execWaitqComplete (w : StrId) (s : State) : Host.Outcome State Fault Refusal := run s (fun s => s.waitqEnd w)

/-- A sleeping strider wakes (R221). -/
def execSleepComplete (w : StrId) (s : State) : Host.Outcome State Fault Refusal := run s (fun s => s.sleepEnd w)

/-- The deadline of a WAITA or WAITQ passes first (R217). -/
def execWaitDeadline (w : StrId) (s : State) : Host.Outcome State Fault Refusal := run s (fun s => s.waitLate w)

end Sys2Proof.Machine
end

