-- ==== Sys2Proof/Machine/Dispatch.lean ====
section
/-!
DEFINITION. The dispatcher: one arm for each command, each one call of its meaning.
-/

namespace Sys2Proof.Machine

def exec (i : Instr) (s : State) : Host.Outcome State Fault Refusal :=
  match i with
  | .nop w p => Sys2Proof.Machine.execNop w p s
  | .brk w p => Sys2Proof.Machine.execBrk w p s
  | .trap w p f => Sys2Proof.Machine.execTrap w p f s
  | .tret w p => Sys2Proof.Machine.execTret w p s
  | .fenceSl w p => Sys2Proof.Machine.execFenceSl w p s
  | .fenceN w p => Sys2Proof.Machine.execFenceN w p s
  | .fenceIo w p => Sys2Proof.Machine.execFenceIo w p s
  | .fenceAll w p => Sys2Proof.Machine.execFenceAll w p s
  | .j w p disp => Sys2Proof.Machine.execJ w p disp s
  | .call w p disp => Sys2Proof.Machine.execCall w p disp s
  | .jr w p f => Sys2Proof.Machine.execJr w p f s
  | .callr w p f => Sys2Proof.Machine.execCallr w p f s
  | .ret w p => Sys2Proof.Machine.execRet w p s
  | .br w p f => Sys2Proof.Machine.execBr w p f s
  | .loop w p f => Sys2Proof.Machine.execLoop w p f s
  | .loopi w p f => Sys2Proof.Machine.execLoopi w p f s
  | .lpop w p => Sys2Proof.Machine.execLpop w p s
  | .cmo w p f e => Sys2Proof.Machine.execCmo w p f e s
  | .mfs w p f => Sys2Proof.Machine.execMfs w p f s
  | .mts w p f => Sys2Proof.Machine.execMts w p f s
  | .rdt w p f => Sys2Proof.Machine.execRdt w p f s
  | .add w p f => Sys2Proof.Machine.execAdd w p f s
  | .sub w p f => Sys2Proof.Machine.execSub w p f s
  | .and w p f => Sys2Proof.Machine.execAnd w p f s
  | .or w p f => Sys2Proof.Machine.execOr w p f s
  | .xor w p f => Sys2Proof.Machine.execXor w p f s
  | .shl w p f => Sys2Proof.Machine.execShl w p f s
  | .shr w p f => Sys2Proof.Machine.execShr w p f s
  | .sar w p f => Sys2Proof.Machine.execSar w p f s
  | .mul w p f => Sys2Proof.Machine.execMul w p f s
  | .mulh w p f => Sys2Proof.Machine.execMulh w p f s
  | .mulhu w p f => Sys2Proof.Machine.execMulhu w p f s
  | .div w p f => Sys2Proof.Machine.execDiv w p f s
  | .divu w p f => Sys2Proof.Machine.execDivu w p f s
  | .rem w p f => Sys2Proof.Machine.execRem w p f s
  | .remu w p f => Sys2Proof.Machine.execRemu w p f s
  | .cmp w p f => Sys2Proof.Machine.execCmp w p f s
  | .tst w p f => Sys2Proof.Machine.execTst w p f s
  | .min w p f => Sys2Proof.Machine.execMin w p f s
  | .max w p f => Sys2Proof.Machine.execMax w p f s
  | .clz w p f => Sys2Proof.Machine.execClz w p f s
  | .popc w p f => Sys2Proof.Machine.execPopc w p f s
  | .sel w p f => Sys2Proof.Machine.execSel w p f s
  | .addi w p f => Sys2Proof.Machine.execAddi w p f s
  | .andi w p f => Sys2Proof.Machine.execAndi w p f s
  | .ori w p f => Sys2Proof.Machine.execOri w p f s
  | .xori w p f => Sys2Proof.Machine.execXori w p f s
  | .shi w p f => Sys2Proof.Machine.execShi w p f s
  | .cmpi w p f => Sys2Proof.Machine.execCmpi w p f s
  | .movi w p f => Sys2Proof.Machine.execMovi w p f s
  | .muli w p f => Sys2Proof.Machine.execMuli w p f s
  | .ld w p f e => Sys2Proof.Machine.execLd w p f e s
  | .st w p f => Sys2Proof.Machine.execSt w p f s
  | .ldf w p f e => Sys2Proof.Machine.execLdf w p f e s
  | .stf w p f => Sys2Proof.Machine.execStf w p f s
  | .ldp w p f e => Sys2Proof.Machine.execLdp w p f e s
  | .stp w p f => Sys2Proof.Machine.execStp w p f s
  | .amo w p f e => Sys2Proof.Machine.execAmo w p f e s
  | .sti w p f => Sys2Proof.Machine.execSti w p f s
  | .fopS w p f => Sys2Proof.Machine.execFopS w p f s
  | .fopD w p f => Sys2Proof.Machine.execFopD w p f s
  | .fcmp w p f => Sys2Proof.Machine.execFcmp w p f s
  | .fcvt w p f => Sys2Proof.Machine.execFcvt w p f s
  | .fmov w p f => Sys2Proof.Machine.execFmov w p f s
  | .emit w p f => Sys2Proof.Machine.execEmit w p f s
  | .emitStallAccept n => Sys2Proof.Machine.execEmitStallAccept n s
  | .emitWaitTimeout w => Sys2Proof.Machine.execEmitWaitTimeout w s
  | .post w p f => Sys2Proof.Machine.execPost w p f s
  | .postWaitTimeout w => Sys2Proof.Machine.execPostWaitTimeout w s
  | .commit w p f busy => Sys2Proof.Machine.execCommit w p f busy s
  | .commitBusyTimeout w => Sys2Proof.Machine.execCommitBusyTimeout w s
  | .recv w p f => Sys2Proof.Machine.execRecv w p f s
  | .taskend w p f => Sys2Proof.Machine.execTaskend w p f s
  | .endMsgRetry w => Sys2Proof.Machine.execEndMsgRetry w s
  | .waita w p f => Sys2Proof.Machine.execWaita w p f s
  | .waitt w p f => Sys2Proof.Machine.execWaitt w p f s
  | .waitq w p f => Sys2Proof.Machine.execWaitq w p f s
  | .sleep w p f => Sys2Proof.Machine.execSleep w p f s
  | .waitaComplete w => Sys2Proof.Machine.execWaitaComplete w s
  | .waittComplete w => Sys2Proof.Machine.execWaittComplete w s
  | .waitqComplete w => Sys2Proof.Machine.execWaitqComplete w s
  | .sleepComplete w => Sys2Proof.Machine.execSleepComplete w s
  | .waitDeadline w => Sys2Proof.Machine.execWaitDeadline w s
  | .cxInstruction w p op ops => Sys2Proof.Machine.execCxInstruction w p op ops s
  | .taskAbandon w => Sys2Proof.Machine.execTaskAbandon w s
  | .taskDispatch b q w => Sys2Proof.Machine.execTaskDispatch b q w s
  | .sbEntryDrain w e => Sys2Proof.Machine.execSbEntryDrain w e s
  | .cbEntryDrain w idx e => Sys2Proof.Machine.execCbEntryDrain w idx e s
  | .weirLaunch n fine k => Sys2Proof.Machine.execWeirLaunch n fine k s
  | .atxLateFound n xid => Sys2Proof.Machine.execAtxLateFound n xid s
  | .atxHeldTimeout n xid => Sys2Proof.Machine.execAtxHeldTimeout n xid s
  | .verifyTimeout n xid => Sys2Proof.Machine.execVerifyTimeout n xid s
  | .reportRetry n => Sys2Proof.Machine.execReportRetry n s
  | .slackEvaluation => Sys2Proof.Machine.execSlackEvaluation s
  | .weirEnable n en => Sys2Proof.Machine.execWeirEnable n en s
  | .spdClr => Sys2Proof.Machine.execSpdClr s
  | .spdreqWrite rated req => Sys2Proof.Machine.execSpdreqWrite rated req s
  | .fcEnable n => Sys2Proof.Machine.execFcEnable n s
  | .fcDisable n => Sys2Proof.Machine.execFcDisable n s
  | .fcStopComplete n => Sys2Proof.Machine.execFcStopComplete n s
  | .fcViolClr n => Sys2Proof.Machine.execFcViolClr n s
  | .groupPllLock g => Sys2Proof.Machine.execGroupPllLock g s
  | .groupPllLoss g => Sys2Proof.Machine.execGroupPllLoss g s
  | .symbolLock n => Sys2Proof.Machine.execSymbolLock n s
  | .symbolLockLoss n => Sys2Proof.Machine.execSymbolLockLoss n s
  | .helloTimer n => Sys2Proof.Machine.execHelloTimer n s
  | .linkupAttemptTimeout n => Sys2Proof.Machine.execLinkupAttemptTimeout n s
  | .retrainAttempt n => Sys2Proof.Machine.execRetrainAttempt n s
  | .fcRxHello n f => Sys2Proof.Machine.execFcRxHello n f s
  | .fcRxIdle n f => Sys2Proof.Machine.execFcRxIdle n f s
  | .fcRxAck n f => Sys2Proof.Machine.execFcRxAck n f s
  | .fcRxNak n f => Sys2Proof.Machine.execFcRxNak n f s
  | .fcRxSync n f fine => Sys2Proof.Machine.execFcRxSync n f fine s
  | .fcRxAngle n f => Sys2Proof.Machine.execFcRxAngle n f s
  | .fcRxVerify n f => Sys2Proof.Machine.execFcRxVerify n f s
  | .fcRxSense n f => Sys2Proof.Machine.execFcRxSense n f s
  | .fcRxStatus n f => Sys2Proof.Machine.execFcRxStatus n f s
  | .sensePostRetry n => Sys2Proof.Machine.execSensePostRetry n s
  | .fcRxBadFrame n k => Sys2Proof.Machine.execFcRxBadFrame n k s
  | .fcRxViolation n f overrun => Sys2Proof.Machine.execFcRxViolation n f overrun s
  | .quarantineTimeout n => Sys2Proof.Machine.execQuarantineTimeout n s
  | .fcTxFrame n fine => Sys2Proof.Machine.execFcTxFrame n fine s
  | .resendTimeout n => Sys2Proof.Machine.execResendTimeout n s
  | .idleKeepalive n => Sys2Proof.Machine.execIdleKeepalive n s
  | .silence n => Sys2Proof.Machine.execSilence n s
  | .syncPeriod n fine => Sys2Proof.Machine.execSyncPeriod n fine s
  | .syncRespMissed n => Sys2Proof.Machine.execSyncRespMissed n s
  | .safeFrameTimer n => Sys2Proof.Machine.execSafeFrameTimer n s
  | .timeCtlEn en load aonCal => Sys2Proof.Machine.execTimeCtlEn en load aonCal s
  | .dtSlew v => Sys2Proof.Machine.execDtSlew v s
  | .aonCalWindow count => Sys2Proof.Machine.execAonCalWindow count s
  | .ffReqSend fine => Sys2Proof.Machine.execFfReqSend fine s
  | .ffRxReq port p fineIn turn fineOut => Sys2Proof.Machine.execFfRxReq port p fineIn turn fineOut s
  | .ffRelay inPort p residence => Sys2Proof.Machine.execFfRelay inPort p residence s
  | .ffRxResp p fine => Sys2Proof.Machine.execFfRxResp p fine s
  | .holdoverTimeout => Sys2Proof.Machine.execHoldoverTimeout s
  | .capArm => Sys2Proof.Machine.execCapArm s
  | .trackerEnable n en => Sys2Proof.Machine.execTrackerEnable n en s
  | .axCommit n => Sys2Proof.Machine.execAxCommit n s
  | .apQuadEdge m k fine => Sys2Proof.Machine.execApQuadEdge m k fine s
  | .apIndex m fine => Sys2Proof.Machine.execApIndex m fine s
  | .ssiPoll m dataHigh fine => Sys2Proof.Machine.execSsiPoll m dataHigh fine s
  | .ssiFrameDone m raw => Sys2Proof.Machine.execSsiFrameDone m raw s
  | .trackerUpdate n => Sys2Proof.Machine.execTrackerUpdate n s
  | .standstillTimeout n => Sys2Proof.Machine.execStandstillTimeout n s
  | .srclostTimeout n => Sys2Proof.Machine.execSrclostTimeout n s
  | .srclostLost n => Sys2Proof.Machine.execSrclostLost n s
  | .regWrite who addr size v => Sys2Proof.Machine.execRegWrite who addr size v s
  | .pairLoRead who addr => Sys2Proof.Machine.execPairLoRead who addr s
  | .pairLoWrite who addr v => Sys2Proof.Machine.execPairLoWrite who addr v s
  | .pairHiWrite who addr v => Sys2Proof.Machine.execPairHiWrite who addr v s
  | .regTmo addr => Sys2Proof.Machine.execRegTmo addr s
  | .devCfgmodeWrite v => Sys2Proof.Machine.execDevCfgmodeWrite v s
  | .weirCommit n => Sys2Proof.Machine.execWeirCommit n s
  | .faultAck blk inst bits => Sys2Proof.Machine.execFaultAck blk inst bits s
  | .adtOpRead => Sys2Proof.Machine.execAdtOpRead s
  | .adtOpWrite => Sys2Proof.Machine.execAdtOpWrite s
  | .adtDataAccess write => Sys2Proof.Machine.execAdtDataAccess write s
  | .adtScrubStep err => Sys2Proof.Machine.execAdtScrubStep err s
  | .cmpJobCompress => Sys2Proof.Machine.execCmpJobCompress s
  | .cmpJobDecompress => Sys2Proof.Machine.execCmpJobDecompress s
  | .cmpJobVerify => Sys2Proof.Machine.execCmpJobVerify s
  | .cmpJobDone mism dyn => Sys2Proof.Machine.execCmpJobDone mism dyn s
  | .cmpTblCommit => Sys2Proof.Machine.execCmpTblCommit s
  | .cmpRequestSubmit w v => Sys2Proof.Machine.execCmpRequestSubmit w v s
  | .cmpPortFullTimeout w => Sys2Proof.Machine.execCmpPortFullTimeout w s
  | .cmpRequestComplete lane crcErr => Sys2Proof.Machine.execCmpRequestComplete lane crcErr s
  | .dmaRequestSubmit w e v => Sys2Proof.Machine.execDmaRequestSubmit w e v s
  | .dmaFullTimeout w => Sys2Proof.Machine.execDmaFullTimeout w s
  | .dmaRequestComplete p e err => Sys2Proof.Machine.execDmaRequestComplete p e err s
  | .l2Clean p ahi => Sys2Proof.Machine.execL2Clean p ahi s
  | .l2Invalidate p ahi => Sys2Proof.Machine.execL2Invalidate p ahi s
  | .l2CleanInvalidate p ahi => Sys2Proof.Machine.execL2CleanInvalidate p ahi s
  | .l2CleanAll p => Sys2Proof.Machine.execL2CleanAll p s
  | .l2InvalidateAll p => Sys2Proof.Machine.execL2InvalidateAll p s
  | .l2CleanInvalidateAll p => Sys2Proof.Machine.execL2CleanInvalidateAll p s
  | .l2MaintDone p tagUe => Sys2Proof.Machine.execL2MaintDone p tagUe s
  | .l2CtlEn p en => Sys2Proof.Machine.execL2CtlEn p en s
  | .l2Stopped p => Sys2Proof.Machine.execL2Stopped p s
  | .l2CeWindow p => Sys2Proof.Machine.execL2CeWindow p s
  | .pondCtlEn p en => Sys2Proof.Machine.execPondCtlEn p en s
  | .pmCtlEn p en => Sys2Proof.Machine.execPmCtlEn p en s
  | .pmRegionCommit p master desc commit => Sys2Proof.Machine.execPmRegionCommit p master desc commit s
  | .pmConflictClr p => Sys2Proof.Machine.execPmConflictClr p s
  | .pondRearm p => Sys2Proof.Machine.execPondRearm p s
  | .marchStart p => Sys2Proof.Machine.execMarchStart p s
  | .marchDone p bad ue => Sys2Proof.Machine.execMarchDone p bad ue s
  | .gets b r line resends => Sys2Proof.Machine.execGets b r line resends s
  | .getm b r line resends => Sys2Proof.Machine.execGetm b r line resends s
  | .upg b r line resends => Sys2Proof.Machine.execUpg b r line resends s
  | .putm b r line keep resends => Sys2Proof.Machine.execPutm b r line keep resends s
  | .putc b r line resends => Sys2Proof.Machine.execPutc b r line resends s
  | .ucrd b r line resends => Sys2Proof.Machine.execUcrd b r line resends s
  | .ucwr b r line bytes poison resends => Sys2Proof.Machine.execUcwr b r line bytes poison resends s
  | .combinedResponse b line resends => Sys2Proof.Machine.execCombinedResponse b line resends s
  | .snps b r line resends => Sys2Proof.Machine.execSnps b r line resends s
  | .snpi b r line resends => Sys2Proof.Machine.execSnpi b r line resends s
  | .snpd b r line resends => Sys2Proof.Machine.execSnpd b r line resends s
  | .snpf b r set resends => Sys2Proof.Machine.execSnpf b r set resends s
  | .dataS b r line resends => Sys2Proof.Machine.execDataS b r line resends s
  | .dataE b r line resends => Sys2Proof.Machine.execDataE b r line resends s
  | .dataM b r line resends => Sys2Proof.Machine.execDataM b r line resends s
  | .grant b r line resends => Sys2Proof.Machine.execGrant b r line resends s
  | .wback b r line resends => Sys2Proof.Machine.execWback b r line resends s
  | .wbackStale b r line resends => Sys2Proof.Machine.execWbackStale b r line resends s
  | .nack b r line resends => Sys2Proof.Machine.execNack b r line resends s
  | .nackResend b r line resends => Sys2Proof.Machine.execNackResend b r line resends s
  | .udata b r line resends => Sys2Proof.Machine.execUdata b r line resends s
  | .ucwrComplete b r line resends => Sys2Proof.Machine.execUcwrComplete b r line resends s
  | .sfScrubStep b set e => Sys2Proof.Machine.execSfScrubStep b set e s
  | .basinReplay b poisoned => Sys2Proof.Machine.execBasinReplay b poisoned s
  | .mcRefresh c => Sys2Proof.Machine.execMcRefresh c s
  | .mcScrubStep c e map => Sys2Proof.Machine.execMcScrubStep c e map s
  | .mcPeriodicRetrain c low => Sys2Proof.Machine.execMcPeriodicRetrain c low s
  | .mcTempRead c t => Sys2Proof.Machine.execMcTempRead c t s
  | .mcTrainStart c => Sys2Proof.Machine.execMcTrainStart c s
  | .mcRetrainDone c eyes => Sys2Proof.Machine.execMcRetrainDone c eyes s
  | .mcSpareCommit c => Sys2Proof.Machine.execMcSpareCommit c s
  | .migrationStep c e => Sys2Proof.Machine.execMigrationStep c e s
  | .mcRgnRead c idx => Sys2Proof.Machine.execMcRgnRead c idx s
  | .mcRgnWrite c idx => Sys2Proof.Machine.execMcRgnWrite c idx s
  | .mcRgnInvalidate c idx => Sys2Proof.Machine.execMcRgnInvalidate c idx s
  | .mcRgnRebind c idx => Sys2Proof.Machine.execMcRgnRebind c idx s
  | .regionInitDone => Sys2Proof.Machine.execRegionInitDone s
  | .housekeepingTick found => Sys2Proof.Machine.execHousekeepingTick found s
  | .cAutoAck blk inst bit => Sys2Proof.Machine.execCAutoAck blk inst bit s
  | .rAutoAck blk inst bit => Sys2Proof.Machine.execRAutoAck blk inst bit s
  | .tarnReplay p poisoned => Sys2Proof.Machine.execTarnReplay p poisoned s
  | .csWordRefresh p => Sys2Proof.Machine.execCsWordRefresh p s
  | .csBackgroundPass p e => Sys2Proof.Machine.execCsBackgroundPass p e s
  | .svcFailover => Sys2Proof.Machine.execSvcFailover s
  | .estopNFall => Sys2Proof.Machine.execEstopNFall s
  | .pfwNFall => Sys2Proof.Machine.execPfwNFall s
  | .pfwNRise => Sys2Proof.Machine.execPfwNRise s
  | .tailReportComplete => Sys2Proof.Machine.execTailReportComplete s
  | .safeReq => Sys2Proof.Machine.execSafeReq s
  | .secPageEnable who k => Sys2Proof.Machine.execSecPageEnable who k s
  | .secPageDisable who k => Sys2Proof.Machine.execSecPageDisable who k s
  | .pageKeyDerived k parity => Sys2Proof.Machine.execPageKeyDerived k parity s
  | .pageZeroed k => Sys2Proof.Machine.execPageZeroed k s
  | .secKeyload who v => Sys2Proof.Machine.execSecKeyload who v s
  | .secKeyloadStart who => Sys2Proof.Machine.execSecKeyloadStart who s
  | .secKeyloadClear who => Sys2Proof.Machine.execSecKeyloadClear who s
  | .otpLock who => Sys2Proof.Machine.execOtpLock who s
  | .rngRestart who => Sys2Proof.Machine.execRngRestart who s
  | .rngRestartDone ok => Sys2Proof.Machine.execRngRestartDone ok s
  | .rngDataRead who => Sys2Proof.Machine.execRngDataRead who s
  | .maskReseed => Sys2Proof.Machine.execMaskReseed s
  | .shaInit who lastb => Sys2Proof.Machine.execShaInit who lastb s
  | .shaData who v => Sys2Proof.Machine.execShaData who v s
  | .shaFinal who lastb => Sys2Proof.Machine.execShaFinal who lastb s
  | .shaDone parity => Sys2Proof.Machine.execShaDone parity s
  | .hostArbRound io => Sys2Proof.Machine.execHostArbRound io s
  | .sqTail who q v => Sys2Proof.Machine.execSqTail who q v s
  | .cqHead who q v => Sys2Proof.Machine.execCqHead who q v s
  | .cqCoalesceTimeout q => Sys2Proof.Machine.execCqCoalesceTimeout q s
  | .hostCtlEn who en => Sys2Proof.Machine.execHostCtlEn who en s
  | .hostReset linkDown => Sys2Proof.Machine.execHostReset linkDown s
  | .dpAddrWrite who v => Sys2Proof.Machine.execDpAddrWrite who v s
  | .dpCtlWrite who v => Sys2Proof.Machine.execDpCtlWrite who v s
  | .dpDataWrite units => Sys2Proof.Machine.execDpDataWrite units s
  | .dpDataRead n e => Sys2Proof.Machine.execDpDataRead n e s
  | .dpPrefetchExpire => Sys2Proof.Machine.execDpPrefetchExpire s
  | .devInfo q => Sys2Proof.Machine.execDevInfo q s
  | .devTopo q => Sys2Proof.Machine.execDevTopo q s
  | .devReset q => Sys2Proof.Machine.execDevReset q s
  | .devSummary q => Sys2Proof.Machine.execDevSummary q s
  | .devPort q => Sys2Proof.Machine.execDevPort q s
  | .hostQcreate q => Sys2Proof.Machine.execHostQcreate q s
  | .hostQdelete q => Sys2Proof.Machine.execHostQdelete q s
  | .hostStats q => Sys2Proof.Machine.execHostStats q s
  | .hostLock q => Sys2Proof.Machine.execHostLock q s
  | .patLoad q rows => Sys2Proof.Machine.execPatLoad q rows s
  | .patDrop q => Sys2Proof.Machine.execPatDrop q s
  | .patList q => Sys2Proof.Machine.execPatList q s
  | .patVerify q => Sys2Proof.Machine.execPatVerify q s
  | .patTable q => Sys2Proof.Machine.execPatTable q s
  | .axConfig q => Sys2Proof.Machine.execAxConfig q s
  | .axPort q => Sys2Proof.Machine.execAxPort q s
  | .axQuery q => Sys2Proof.Machine.execAxQuery q s
  | .chConfig q => Sys2Proof.Machine.execChConfig q s
  | .chEnable q => Sys2Proof.Machine.execChEnable q s
  | .chPartner q => Sys2Proof.Machine.execChPartner q s
  | .chTable q => Sys2Proof.Machine.execChTable q s
  | .chTableread q => Sys2Proof.Machine.execChTableread q s
  | .chStats q => Sys2Proof.Machine.execChStats q s
  | .chSpeed q => Sys2Proof.Machine.execChSpeed q s
  | .taskQconfig q => Sys2Proof.Machine.execTaskQconfig q s
  | .taskPost q => Sys2Proof.Machine.execTaskPost q s
  | .taskPlace q => Sys2Proof.Machine.execTaskPlace q s
  | .taskLimit q => Sys2Proof.Machine.execTaskLimit q s
  | .taskStatus q => Sys2Proof.Machine.execTaskStatus q s
  | .memRegion q => Sys2Proof.Machine.execMemRegion q s
  | .memCache q => Sys2Proof.Machine.execMemCache q s
  | .memMarch q => Sys2Proof.Machine.execMemMarch q s
  | .memRetrain q => Sys2Proof.Machine.execMemRetrain q s
  | .memSpare q => Sys2Proof.Machine.execMemSpare q s
  | .memStats q => Sys2Proof.Machine.execMemStats q s
  | .memScrub q => Sys2Proof.Machine.execMemScrub q s
  | .pwrState q => Sys2Proof.Machine.execPwrState q s
  | .pwrPond q => Sys2Proof.Machine.execPwrPond q s
  | .pwrStatus q => Sys2Proof.Machine.execPwrStatus q s
  | .fltAck q => Sys2Proof.Machine.execFltAck q s
  | .fltSafe q => Sys2Proof.Machine.execFltSafe q s
  | .fltResume q => Sys2Proof.Machine.execFltResume q s
  | .fltLog q => Sys2Proof.Machine.execFltLog q s
  | .fltLogbuf q => Sys2Proof.Machine.execFltLogbuf q s
  | .fltTailbuf q => Sys2Proof.Machine.execFltTailbuf q s
  | .fltRecord q => Sys2Proof.Machine.execFltRecord q s
  | .fltJournal q => Sys2Proof.Machine.execFltJournal q s
  | .fltCtl q => Sys2Proof.Machine.execFltCtl q s
  | .secInfo q => Sys2Proof.Machine.execSecInfo q s
  | .secPage q => Sys2Proof.Machine.execSecPage q s
  | .secSyskey q => Sys2Proof.Machine.execSecSyskey q s
  | .secAttest q => Sys2Proof.Machine.execSecAttest q s
  | .secLog q => Sys2Proof.Machine.execSecLog q s
  | .secRollfwd q => Sys2Proof.Machine.execSecRollfwd q s
  | .secSlot q sig => Sys2Proof.Machine.execSecSlot q sig s
  | .secRandom q => Sys2Proof.Machine.execSecRandom q s
  | .secDbgchal q => Sys2Proof.Machine.execSecDbgchal q s
  | .secDbgunlock q sig => Sys2Proof.Machine.execSecDbgunlock q sig s
  | .expRdreg q => Sys2Proof.Machine.execExpRdreg q s
  | .expWrreg q => Sys2Proof.Machine.execExpWrreg q s
  | .expRdmem q => Sys2Proof.Machine.execExpRdmem q s
  | .expWrmem q => Sys2Proof.Machine.execExpWrmem q s
  | .expUcinfo q => Sys2Proof.Machine.execExpUcinfo q s
  | .expUcread q => Sys2Proof.Machine.execExpUcread q s
  | .expUcstage q image => Sys2Proof.Machine.execExpUcstage q image s
  | .tierRxHello t f => Sys2Proof.Machine.execTierRxHello t f s
  | .tierRxAck t f => Sys2Proof.Machine.execTierRxAck t f s
  | .tierRxNak t f => Sys2Proof.Machine.execTierRxNak t f s
  | .tierRxBadFrame t k => Sys2Proof.Machine.execTierRxBadFrame t k s
  | .tierViolation t f => Sys2Proof.Machine.execTierViolation t f s
  | .tierRxSafe t f => Sys2Proof.Machine.execTierRxSafe t f s
  | .tierRoute t f => Sys2Proof.Machine.execTierRoute t f s
  | .tierRouteCommit => Sys2Proof.Machine.execTierRouteCommit s
  | .tierResendTimeout t => Sys2Proof.Machine.execTierResendTimeout t s
  | .tierSilence t => Sys2Proof.Machine.execTierSilence t s
  | .blockLockLoss t => Sys2Proof.Machine.execBlockLockLoss t s
  | .tierRetrainAttempt t => Sys2Proof.Machine.execTierRetrainAttempt t s
  | .tierEnable t en => Sys2Proof.Machine.execTierEnable t en s
  | .cmd t f => Sys2Proof.Machine.execCmd t f s
  | .reply t f => Sys2Proof.Machine.execReply t f s
  | .fault t f => Sys2Proof.Machine.execFault t f s
  | .summary t f => Sys2Proof.Machine.execSummary t f s
  | .summaryTimer => Sys2Proof.Machine.execSummaryTimer s
  | .tail t f => Sys2Proof.Machine.execTail t f s
  | .boot t f => Sys2Proof.Machine.execBoot t f s
  | .bootstat t f => Sys2Proof.Machine.execBootstat t f s
  | .secret t f => Sys2Proof.Machine.execSecret t f s
  | .notice t f => Sys2Proof.Machine.execNotice t f s
  | .pwrReqNap => Sys2Proof.Machine.execPwrReqNap s
  | .pwrReqSleep => Sys2Proof.Machine.execPwrReqSleep s
  | .napAutoHold => Sys2Proof.Machine.execNapAutoHold s
  | .dSleepPowerOff => Sys2Proof.Machine.execDSleepPowerOff s
  | .wakeNFall => Sys2Proof.Machine.execWakeNFall s
  | .wakeTimer => Sys2Proof.Machine.execWakeTimer s
  | .tierActivityWake t => Sys2Proof.Machine.execTierActivityWake t s
  | .resumeReady ok => Sys2Proof.Machine.execResumeReady ok s
  | .pondPowerGate p => Sys2Proof.Machine.execPondPowerGate p s
  | .pllLockLoss k => Sys2Proof.Machine.execPllLockLoss k s
  | .pllRelock k => Sys2Proof.Machine.execPllRelock k s
  | .avsWriteRetry ack => Sys2Proof.Machine.execAvsWriteRetry ack s
  | .vmargin b => Sys2Proof.Machine.execVmargin b s
  | .blkGo blk inst => Sys2Proof.Machine.execBlkGo blk inst s
  | .rstCtlKind kind => Sys2Proof.Machine.execRstCtlKind kind s
  | .rstNFall => Sys2Proof.Machine.execRstNFall s
  | .rstNRise role boot c => Sys2Proof.Machine.execRstNRise role boot c s
  | .powerOn => Sys2Proof.Machine.execPowerOn s
  | .perstN low => Sys2Proof.Machine.execPerstN low s
  | .ready => Sys2Proof.Machine.execReady s
  | .thermSample ts => Sys2Proof.Machine.execThermSample ts s
  | .throttleStep => Sys2Proof.Machine.execThrottleStep s
  | .chainTest => Sys2Proof.Machine.execChainTest s
  | .chainTestEnd => Sys2Proof.Machine.execChainTestEnd s
  | .smbBootStage pec => Sys2Proof.Machine.execSmbBootStage pec s
  | .smbState pec => Sys2Proof.Machine.execSmbState pec s
  | .smbTj pec => Sys2Proof.Machine.execSmbTj pec s
  | .smbPower pec => Sys2Proof.Machine.execSmbPower pec s
  | .smbSerial pec => Sys2Proof.Machine.execSmbSerial pec s
  | .smbClassDs pec => Sys2Proof.Machine.execSmbClassDs pec s
  | .smbMcTemp pec => Sys2Proof.Machine.execSmbMcTemp pec s
  | .smbThermSense k pec => Sys2Proof.Machine.execSmbThermSense k pec s
  | .smbArp addr pec => Sys2Proof.Machine.execSmbArp addr pec s
  | .smbAlertResponse => Sys2Proof.Machine.execSmbAlertResponse s
  | .extest => Sys2Proof.Machine.execExtest s
  | .samplePreload => Sys2Proof.Machine.execSamplePreload s
  | .idcode => Sys2Proof.Machine.execIdcode s
  | .clamp => Sys2Proof.Machine.execClamp s
  | .highz => Sys2Proof.Machine.execHighz s
  | .dbgPort => Sys2Proof.Machine.execDbgPort s
  | .mbist => Sys2Proof.Machine.execMbist s
  | .bypass => Sys2Proof.Machine.execBypass s
  | .undefinedOpcode w p op => Sys2Proof.Machine.execUndefinedOpcode w p op s
  | .instructionFetchFault w p poison => Sys2Proof.Machine.execInstructionFetchFault w p poison s
  | .timeCommitPoint => Sys2Proof.Machine.execTimeCommitPoint s
  | .tbclkLoss => Sys2Proof.Machine.execTbclkLoss s
  | .fineUnlock => Sys2Proof.Machine.execFineUnlock s
  | .fineRelock => Sys2Proof.Machine.execFineRelock s
  | .undervoltage => Sys2Proof.Machine.execUndervoltage s
  | .estopNRise ns => Sys2Proof.Machine.execEstopNRise ns s
  | .tierTxFrame t => Sys2Proof.Machine.execTierTxFrame t s
  | .blockLock t => Sys2Proof.Machine.execBlockLock t s
  | .tierHelloTimer t => Sys2Proof.Machine.execTierHelloTimer t s
  | .tierAttemptTimeout t => Sys2Proof.Machine.execTierAttemptTimeout t s
  | .tierRxIdle t f => Sys2Proof.Machine.execTierRxIdle t f s
  | .tierSafeFrameTimer => Sys2Proof.Machine.execTierSafeFrameTimer s
  | .pondEarlyWake p => Sys2Proof.Machine.execPondEarlyWake p s
  | .devPortTimeout q => Sys2Proof.Machine.execDevPortTimeout q s
  | .avsSettle => Sys2Proof.Machine.execAvsSettle s
  | .wayDisableDone p => Sys2Proof.Machine.execWayDisableDone p s
  | .rngHealthTest samples => Sys2Proof.Machine.execRngHealthTest samples s
  | .shaDigestRead who => Sys2Proof.Machine.execShaDigestRead who s
  | .msixUnmask v => Sys2Proof.Machine.execMsixUnmask v s
  | .d3hot d3 => Sys2Proof.Machine.execD3hot d3 s
  | .basinCtlEn b en => Sys2Proof.Machine.execBasinCtlEn b en s
  | .cmpCtlEn en => Sys2Proof.Machine.execCmpCtlEn en s
  | .mcCtlEn c en => Sys2Proof.Machine.execMcCtlEn c en s

end Sys2Proof.Machine
end

