-- ==== Sys2Proof/Safety.lean ====
section
/-!
DEFINITION. The words statements about the machine are made in: when a strider issues an instruction and how it retires one, and
when nothing in the device waits, so that the end of a command changes nothing further.
-/

namespace Sys2Proof

/-- No prefix but REP (Table 07-4). -/
def Pfx.plain (p : Pfx) : Prop := p.nt = false ∧ p.wide = false

/-- No prefix at all. -/
def Pfx.bare (p : Pfx) : Prop := p.rep = false ∧ p.nt = false ∧ p.wide = false

end Sys2Proof

namespace Sys2Proof.Machine

/-- Strider `w` issues an instruction with prefixes `p` and makes one execution of it: the device works, the strider runs (R207,
R485), its task's time is not up (R215), the next 15 bytes of code can be fetched (R201, R271, R293), no check found an error (R251, R273,
R380), and a repeat count is not 0 (R197). -/
def State.issues (s : State) (w : StrId) (p : Pfx) : Prop :=
  s.powered = true ∧ s.executes w = true ∧ s.timeUp w = false ∧ (∀ n ≤ 15, s.fetchCheck w n = .ok) ∧ p.err = .none ∧
  (p.rep = true → (s.str w).rc ≠ 0)

/-- Strider `w` retires an instruction of `len` bytes after its prefixes; `u` is the state with the instruction's effect (R194, R197). -/
def State.retire (s : State) (w : StrId) (p : Pfx) (len : Nat) (u : State) : State :=
  u.iterate w p.rep (!pswH (s.str w).psw) ((s.str w).pc + BitVec.ofNat 64 (prefixLen p + len))

/-- Strider `w` goes on at an address after a jump; `u` is the state with the jump's effect (R194). -/
def State.jumpTo (s : State) (w : StrId) (pc : Word) (u : State) : State := u.complete w (!pswH (s.str w).psw) pc

/-- Firmware executes a command of opcode `op` from queue `q`: it is the first this device has still to start (R443), its result fits (R440),
and neither the start-up, the safe state nor EXP_OFF refuses it (R445, R453); `d` is the command and `u` the state as it starts. -/
def State.begins (s : State) (q op : Nat) (d : HostCmd) (u : State) : Prop :=
  s.powered = true ∧
  ∃ c, s.host.accepted.find? (fun c => c.sq % 16 == q && s.mine c) = some c ∧ c.opcode = op ∧ s.orderOk c = true ∧ s.unitFree c = true ∧
    u = s.startCmd c ∧ d = u.cmdNow c ∧ u.resultFits d = true ∧ (u.pwr.phase = .ready ∨ beforeReady op = true) ∧
    (u.bit SVC_STAT.SAFE && unsafeCmd d) = false ∧ u.expRefused d = false

/-- The registers after an instruction with an F bit: Xd, and the flags if the bit is 1 (Table 07-8). -/
def StrSt.result (t : StrSt) (d : RegNo) (r : Word) (f : Bool) (fl : Flags) : StrSt :=
  if f then (t.setX d r).flags fl else t.setX d r

/-- Does a strider wait in a way that the end of a command may end (R89, R178, R208, R215, R296)? -/
def Run.polled (r : Run) : Bool :=
  match r with
  | .waiting (.emit ..) | .waiting (.post ..) | .waiting (.cmpFull _) | .waiting (.dmaFull ..) | .waiting (.ending _) => true
  | _ => false

/-- Nothing waits for a command to end: no consequence of a fault, no unit on its way to its stopped state, no polled strider, no
accepted host command or queue being deleted, no entry in a queue of a lost basin, no worker to be given its firmware; the
admission bits say what the journal says, and the device is neither in D-NAP nor on its way there. -/
def State.calm (s : State) : Prop :=
  s.due = [] ∧ s.speed.stopping = false ∧ s.sec.stopping = false ∧ s.host.stopping = false ∧ s.host.accepted = [] ∧
  (∀ e ∈ s.striders, e.2.run.polled = false) ∧
  (∀ e ∈ s.host.pairs, ∀ p, e.2 = some p → p.deleting = false) ∧
  (∀ b < 4, s.fencedBasin b = false) ∧
  (∀ t < 8, (!s.upPort t && s.tierState t == 3 && (s.tport t).peerFw == 0 && (s.tport t).bootTries == 0) = false) ∧
  (if s.xjAdmit then s.fld WEIRG_STAT.ADMIT_CLOSED = 0 ∧ s.fld WEIRG_JRN.ADMIT_OPEN = 1 else s.fld WEIRG_STAT.ADMIT_CLOSED = 1) ∧
  s.napping = false ∧ s.bit PWR_CTL.NAP_AUTO = false ∧ s.pwr.napSince = none

end Sys2Proof.Machine
end

