-- ==== Sys2Proof/Certificates/Slice0/Obligations.lean ====
section
/-!
DEFINITION. The statements for the provers. A command's effect is stated as `exec c s = .next (settle s t)`: `t` is the state its own
effect gives, and `settle` then lets go on what waited (it changes nothing in a calm state, Obligations.SettleCalm).
-/

open Sys2Proof Sys2Proof.Machine


/-! ### The queue of commands -/

/-- A step with a command at the front of the queue is exec of that command on the state with the queue's rest. -/
def Obligations.StepRunsTheFrontCommand : Prop :=  ∀ (s : State) (c : Instr) (rest : List Instr), s.pending = c :: rest → step s = exec c { s with pending := rest }

/-- With no command waiting a step is one tick (the model's choice, assumption 1): of TBCLK, which carries DT by one (R57), or, while the
device sleeps or is in reset, of the always-on clock, which carries it by AON_CAL.TICKS / 1,024 with a fraction of 16 bits (R63). DT stays
until TBCLK has first locked (R59) and while TIME_CTL.EN is 0 (R60). -/
def Obligations.EmptyQueueTicks : Prop :=
  ∀ (s : State), s.pending = [] → step s = .next (tick s) ∧
    ((s.bit TIME_CTL.EN = false ∨ (s.time.locked = false ∧ s.time.tbclk = false)) → (tick s).time.dt = s.time.dt) ∧
    (s.aonCarries = true → s.pwr.phase ≠ .resuming → s.time.locked = true → s.bit TIME_CTL.EN = true →
      tick s = { s with time := { s.time with
        dt := s.time.dt + BitVec.ofNat 64 ((s.time.aonFrac + 64 * s.fld AON_CAL.TICKS) / 2 ^ 16),
        aonFrac := (s.time.aonFrac + 64 * s.fld AON_CAL.TICKS) % 2 ^ 16 } }) ∧
    (s.aonCarries = false → tick s = s.dtTick)

/-! ### Strider instructions (chapter 7) -/

/-- The two-operand integer instructions (Table 07-8): Xd, and with F the flags. -/
def Obligations.IntegerRegisterForms : Prop :=
  ∀ (s : State) (w : StrId) (p : Pfx) (f : FmtB), s.issues w p → p.plain →
    let t := s.str w
    let a := t.xr f.a
    let b := t.xr f.b
    let n := b.toNat % 64
    exec (.add w p f) s = .next (settle s (s.retire w p 3 (s.setStr w (t.result f.d (a + b) f.x (flagsAdd a b))))) ∧
    exec (.sub w p f) s = .next (settle s (s.retire w p 3 (s.setStr w (t.result f.d (a - b) f.x (flagsSub a b))))) ∧
    exec (.and w p f) s = .next (settle s (s.retire w p 3 (s.setStr w (t.result f.d (a &&& b) f.x (flagsLogic (a &&& b)))))) ∧
    exec (.or w p f) s = .next (settle s (s.retire w p 3 (s.setStr w (t.result f.d (a ||| b) f.x (flagsLogic (a ||| b)))))) ∧
    exec (.xor w p f) s = .next (settle s (s.retire w p 3 (s.setStr w (t.result f.d (a ^^^ b) f.x (flagsLogic (a ^^^ b)))))) ∧
    exec (.shl w p f) s = .next (settle s (s.retire w p 3 (s.setStr w (t.result f.d (a <<< n) f.x (flagsShift .shl a n))))) ∧
    exec (.shr w p f) s = .next (settle s (s.retire w p 3 (s.setStr w (t.result f.d (a >>> n) f.x (flagsShift .shr a n))))) ∧
    exec (.sar w p f) s = .next (settle s (s.retire w p 3 (s.setStr w (t.result f.d (a.sshiftRight n) f.x (flagsShift .sar a n))))) ∧
    exec (.mul w p f) s = .next (settle s (s.retire w p 3 (s.setStr w (t.result f.d (a * b) f.x (flagsLogic (a * b)))))) ∧
    exec (.mulh w p f) s =
      .next (settle s (s.retire w p 3 (s.setStr w (t.result f.d (BitVec.ofInt 64 (a.toInt * b.toInt / 2 ^ 64)) f.x
        (flagsLogic (BitVec.ofInt 64 (a.toInt * b.toInt / 2 ^ 64))))))) ∧
    exec (.mulhu w p f) s =
      .next (settle s (s.retire w p 3 (s.setStr w (t.result f.d (BitVec.ofNat 64 (a.toNat * b.toNat / 2 ^ 64)) f.x
        (flagsLogic (BitVec.ofNat 64 (a.toNat * b.toNat / 2 ^ 64))))))) ∧
    exec (.min w p f) s =
      .next (settle s (s.retire w p 3 (s.setStr w (t.setX f.d (if f.x then (if a.toNat ≤ b.toNat then a else b) else (if a.toInt ≤ b.toInt then a else b)))))) ∧
    exec (.max w p f) s =
      .next (settle s (s.retire w p 3 (s.setStr w (t.setX f.d (if f.x then (if a.toNat ≤ b.toNat then b else a) else (if a.toInt ≤ b.toInt then b else a))))))

/-- The divide group (R228, R229): a zero divisor raises DIVZ; else quotient and remainder make the dividend, the remainder is
smaller than the divisor and takes the dividend's sign, and −2^63 by −1 gives −2^63 with remainder 0. -/
def Obligations.DivideGroup : Prop :=
  ∀ (s : State) (w : StrId) (p : Pfx) (f : FmtB), s.issues w p → p.plain →
    let t := s.str w
    let a := t.xr f.a
    let b := t.xr f.b
    let q : Word := BitVec.ofInt 64 (a.toInt.tdiv b.toInt)
    let r : Word := BitVec.ofInt 64 (a.toInt.tmod b.toInt)
    let qu : Word := BitVec.ofNat 64 (a.toNat / b.toNat)
    let ru : Word := BitVec.ofNat 64 (a.toNat % b.toNat)
    let trapped := s.takeTrap w Cause.divz 0 t.pc false
    (b = 0 →
      exec (.div w p f) s = .next (settle s trapped) ∧ exec (.divu w p f) s = .next (settle s trapped) ∧
      exec (.rem w p f) s = .next (settle s trapped) ∧ exec (.remu w p f) s = .next (settle s trapped) ∧
      (pswH t.psw = false → t.sb = [] → t.haltDue = false →
        (∀ x : RegNo, (trapped.str w).xr x = t.xr x) ∧ (∀ k < 4, (trapped.str w).psw.getLsbD k = t.psw.getLsbD k) ∧ (trapped.str w).rc = t.rc)) ∧
    (b ≠ 0 →
      exec (.div w p f) s = .next (settle s (s.retire w p 3 (s.setStr w (t.result f.d q f.x (flagsLogic q))))) ∧
      exec (.rem w p f) s = .next (settle s (s.retire w p 3 (s.setStr w (t.result f.d r f.x (flagsLogic r))))) ∧
      exec (.divu w p f) s = .next (settle s (s.retire w p 3 (s.setStr w (t.result f.d qu f.x (flagsLogic qu))))) ∧
      exec (.remu w p f) s = .next (settle s (s.retire w p 3 (s.setStr w (t.result f.d ru f.x (flagsLogic ru))))) ∧
      r = a - q * b ∧ r.toInt.natAbs < b.toInt.natAbs ∧ (r = 0 ∨ (r.toInt < 0 ↔ a.toInt < 0)) ∧
      (a = BitVec.intMin 64 → b = -1 → q = BitVec.intMin 64 ∧ r = 0) ∧
      a.toNat = qu.toNat * b.toNat + ru.toNat ∧ ru.toNat < b.toNat)

/-- CMP, TST, CLZ, POPC and SEL (Table 07-8). CLZ counts the zeros above the highest one bit, POPC the one bits.
Conditions after a comparison (Table 07-6, Table 07-8): on the flags of Xa − Xb each ordering condition holds exactly when the
numbers stand so, signed for LT, GE, GT and LE and unsigned for the others. -/
def Obligations.CompareCountSelectConditions : Prop :=
  (∀ (s : State) (w : StrId) (p : Pfx), s.issues w p → p.plain →
      let t := s.str w
      (∀ f : FmtB, f.d = 0 → f.x = false →
        exec (.cmp w p f) s = .next (settle s (s.retire w p 3 (s.setStr w (t.flags (flagsSub (t.xr f.a) (t.xr f.b)))))) ∧
        exec (.tst w p f) s = .next (settle s (s.retire w p 3 (s.setStr w (t.flags (flagsLogic (t.xr f.a &&& t.xr f.b))))))) ∧
      (∀ f : FmtB, f.b = 0 → f.x = false → ∃ z n : Nat,
        exec (.clz w p f) s = .next (settle s (s.retire w p 3 (s.setStr w (t.setX f.d (BitVec.ofNat 64 z))))) ∧
        exec (.popc w p f) s = .next (settle s (s.retire w p 3 (s.setStr w (t.setX f.d (BitVec.ofNat 64 n))))) ∧
        z ≤ 64 ∧ (t.xr f.a).toNat < 2 ^ (64 - z) ∧ (z < 64 → 2 ^ (63 - z) ≤ (t.xr f.a).toNat) ∧
        n = ((List.range 64).filter (fun i => (t.xr f.a).getLsbD i)).length) ∧
      (∀ f : FmtC, f.c = 0 → f.x ≠ 15#4 →
        exec (.sel w p f) s =
          .next (settle s (s.retire w p 4 (s.setStr w (t.setX f.d (if condHolds t.psw f.x.toNat then t.xr f.a else t.xr f.b))))))) ∧
  (∀ (t : StrSt) (a b : Word),
      let p := (t.flags (flagsSub a b)).psw
      (condHolds p 0 = true ↔ a = b) ∧ (condHolds p 1 = true ↔ a ≠ b) ∧
      (condHolds p 2 = true ↔ a.toInt < b.toInt) ∧ (condHolds p 3 = true ↔ b.toInt ≤ a.toInt) ∧
      (condHolds p 4 = true ↔ a.toNat < b.toNat) ∧ (condHolds p 5 = true ↔ b.toNat ≤ a.toNat) ∧
      (condHolds p 6 = true ↔ b.toInt < a.toInt) ∧ (condHolds p 7 = true ↔ a.toInt ≤ b.toInt) ∧
      (condHolds p 8 = true ↔ b.toNat < a.toNat) ∧ (condHolds p 9 = true ↔ a.toNat ≤ b.toNat) ∧
      (condHolds p 12 = true ↔ (a - b).toInt ≠ a.toInt - b.toInt))

/-- The immediate forms (Table 07-8): imm32 sign-extended, or imm64 with WIDE (R186). -/
def Obligations.IntegerImmediateForms : Prop :=
  ∀ (s : State) (w : StrId) (p : Pfx) (f : FmtI), s.issues w p → p.nt = false →
    let t := s.str w
    let a := t.xr f.a
    let imm : Word := if p.wide then f.imm else (f.imm.setWidth 32).signExtend 64
    let len := if p.wide then 11 else 7
    let fb := f.x.getLsbD 0
    (f.x.toNat ≤ 1 →
      exec (.addi w p f) s = .next (settle s (s.retire w p len (s.setStr w (t.result f.d (a + imm) fb (flagsAdd a imm))))) ∧
      exec (.andi w p f) s = .next (settle s (s.retire w p len (s.setStr w (t.result f.d (a &&& imm) fb (flagsLogic (a &&& imm)))))) ∧
      exec (.ori w p f) s = .next (settle s (s.retire w p len (s.setStr w (t.result f.d (a ||| imm) fb (flagsLogic (a ||| imm)))))) ∧
      exec (.xori w p f) s = .next (settle s (s.retire w p len (s.setStr w (t.result f.d (a ^^^ imm) fb (flagsLogic (a ^^^ imm)))))) ∧
      exec (.muli w p f) s = .next (settle s (s.retire w p len (s.setStr w (t.result f.d (a * imm) fb (flagsLogic (a * imm))))))) ∧
    (f.x.toNat ≤ 5 → imm.toNat ≤ 63 → ∃ k : Shift,
      k = (if f.x.toNat / 2 = 0 then Shift.shl else if f.x.toNat / 2 = 1 then Shift.shr else Shift.sar) ∧
      exec (.shi w p f) s =
        .next (settle s (s.retire w p len (s.setStr w (t.result f.d (shiftBy k a imm.toNat) fb (flagsShift k a imm.toNat)))))) ∧
    (f.d = 0 → f.x = 0 → exec (.cmpi w p f) s = .next (settle s (s.retire w p len (s.setStr w (t.flags (flagsSub a imm)))))) ∧
    (f.a = 0 → f.x = 0 → exec (.movi w p f) s = .next (settle s (s.retire w p len (s.setStr w (t.setX f.d imm)))))

/-- Control instructions (Table 07-7, R189, R193, R195): jumps, calls, branches and the loop stack, which holds four loops. -/
def Obligations.ControlFlow : Prop :=
  ∀ (s : State) (w : StrId) (p : Pfx), s.issues w p → p.bare →
    let t := s.str w
    let ld := pswLd t.psw
    exec (.nop w p) s = .next (settle s (s.retire w p 1 s)) ∧
    (∀ d : Word32, exec (.j w p d) s = .next (settle s (s.jumpTo w (t.pc + d.signExtend 64) s)) ∧
      exec (.call w p d) s = .next (settle s (s.jumpTo w (t.pc + d.signExtend 64) (s.setStr w { t with lk := t.pc + 5 })))) ∧
    (∀ f : FmtA, f.x = 0 → exec (.jr w p f) s = .next (settle s (s.jumpTo w (t.xr f.r) s)) ∧
      exec (.callr w p f) s = .next (settle s (s.jumpTo w (t.xr f.r) (s.setStr w { t with lk := t.pc + 2 })))) ∧
    exec (.ret w p) s = .next (settle s (s.jumpTo w t.lk s)) ∧
    (∀ f : FmtK, f.z = 0 → f.cond ≠ 15#4 →
      exec (.br w p f) s =
        .next (settle s (if condHolds t.psw f.cond.toNat then s.jumpTo w (t.pc + f.disp.signExtend 64) s else s.retire w p 6 s))) ∧
    (∀ f : FmtL, f.z = 0 → f.len ≠ 0 → ld < 4 →
      exec (.loop w p f) s =
        .next (settle s (if t.xr f.a = 0 then s.jumpTo w (t.pc + 4 + f.len.setWidth 64) s
          else s.retire w p 4 (s.setStr w { t with
            ls := Tab.set (fun _ => 0) t.ls ld (t.pc + 4), le := Tab.set (fun _ => 0) t.le ld (t.pc + 4 + f.len.setWidth 64),
            lc := Tab.set (fun _ => 0) t.lc ld (t.xr f.a), psw := pswSetLd t.psw (ld + 1) })))) ∧
    (∀ f : FmtLI, f.len ≠ 0 → ld < 4 →
      exec (.loopi w p f) s =
        .next (settle s (if f.count = 0 then s.jumpTo w (t.pc + 5 + f.len.setWidth 64) s
          else s.retire w p 5 (s.setStr w { t with
            ls := Tab.set (fun _ => 0) t.ls ld (t.pc + 5), le := Tab.set (fun _ => 0) t.le ld (t.pc + 5 + f.len.setWidth 64),
            lc := Tab.set (fun _ => 0) t.lc ld (f.count.setWidth 64), psw := pswSetLd t.psw (ld + 1) })))) ∧
    (ld ≠ 0 → exec (.lpop w p) s = .next (settle s (s.retire w p 1 (s.setStr w { t with psw := pswSetLd t.psw (ld - 1) }))))

/-- Loads and stores (Tables 07-9 and 07-10): a load whose access answers puts the value, zero- or sign-extended, into its register;
a store that its access takes completes; with U the base then moves by the displacement (R199). A load that device space answers with an
error raises DEVERR (Table 07-13). -/
def Obligations.LoadsAndStores : Prop :=
  ∀ (s : State) (w : StrId) (p : Pfx) (f : FmtM), s.issues w p → p.wide = false → f.x.toNat < 16 →
    let t := s.str w
    let base := t.xr f.a
    let disp : Word := f.disp.signExtend 64
    let u := f.x.getLsbD 3
    let a : Word := if u then base else base + disp
    let n := 2 ^ (f.x.toNat % 4)
    let bump (s : State) : State := if u then s.setX w f.a (base + disp) else s
    let value (b : List Byte) : Word :=
      if f.x.getLsbD 2 then BitVec.ofInt 64 (signed (8 * b.length) (leNat b)) else BitVec.ofNat 64 (leNat b)
    (∀ (e : MemErr) (b : List Byte) (v : State), p.nt = false → (u = true → f.d = f.a → f.d = 0) → (e = .devErr → a.toNat < devBase) →
      (s.memError w a.toNat 0 true e).load w a.toNat n true = (.ok b, v) →
      exec (.ld w p f e) s = .next (settle s (s.retire w p 5 (bump (v.setX w f.d (value b)))))) ∧
    (∀ (e : MemErr) (b : List Byte) (v : State), p.nt = false → 2 ≤ f.x.toNat % 4 → (u = true → f.d = f.a → f.d = 0) →
      (e = .devErr → a.toNat < devBase) → (s.memError w a.toNat 0 true e).load w a.toNat n true = (.ok b, v) →
      exec (.ldf w p f e) s = .next (settle s (s.retire w p 5 (bump (v.setF w f.d (value b)))))) ∧
    (∀ (e : MemErr) (b : List Byte) (v : State), p.nt = false → f.d.val % 2 = 0 → f.x.toNat % 4 = 3 → (u = true → f.d = f.a → f.d = 0) →
      a.toNat % 8 = 0 → (e = .devErr → a.toNat < devBase) → (s.memError w a.toNat 0 true e).load w a.toNat 16 true = (.ok b, v) →
      exec (.ldp w p f e) s =
        .next (settle s (s.retire w p 5 (bump ((v.setX w f.d (BitVec.ofNat 64 (leAt b 0 8))).setX w (nextReg f.d)
          (BitVec.ofNat 64 (leAt b 8 8))))))) ∧
    (∀ v : State, f.x.getLsbD 2 = false → s.store w a.toNat (leBytes n (t.xr f.d).toNat) p.nt true = (.done none, v) →
      exec (.st w p f) s = .next (settle s (s.retire w p 5 (bump v)))) ∧
    (∀ v : State, f.x.getLsbD 2 = false → 2 ≤ f.x.toNat % 4 →
      s.store w a.toNat (leBytes n (t.fr f.d).toNat) p.nt true = (.done none, v) →
      exec (.stf w p f) s = .next (settle s (s.retire w p 5 (bump v)))) ∧
    (∀ v : State, f.x.getLsbD 2 = false → f.d.val % 2 = 0 → f.x.toNat % 4 = 3 → a.toNat % 8 = 0 →
      s.store w a.toNat (leBytes 8 (t.xr f.d).toNat ++ leBytes 8 (t.xr (nextReg f.d)).toNat) p.nt true = (.done none, v) →
      exec (.stp w p f) s = .next (settle s (s.retire w p 5 (bump v)))) ∧
    (p.nt = false → (u = true → f.d = f.a → f.d = 0) → devBase ≤ a.toNat → s.accTrap w a.toNat n 1 true = none → t.sb = [] →
      exec (.ld w p f .devErr) s = .next (settle s (s.takeTrap w Cause.devErr a t.pc false)))

/-- STI, AMO and CMO (Tables 07-7, 07-9 and 07-10): an STI with REP, NT and WIDE would have 16 bytes and is ILLEGAL (R187); a CMO of one
line completes as R279 and R281 say, one with x = 4 empties the strider's L1I, and one that meets an uncorrectable tag raises POISON (R280).
What an AMO stores (Table 07-9): SWAP, ADD, AND, OR, XOR, signed MIN and MAX, and CAS, which stores only on a match. -/
def Obligations.StoreImmediateAmoCmo : Prop :=
  (∀ (s : State) (w : StrId) (p : Pfx), s.issues w p →
      let t := s.str w
      (∀ (f : FmtS) (v : State), f.x.toNat < 8 → (p.wide = true → f.x.toNat % 4 = 3) → ¬(p.rep = true ∧ p.nt = true ∧ p.wide = true) →
        let base := t.xr f.a
        let disp : Word := f.disp.signExtend 64
        let u := f.x.getLsbD 2
        let imm : Word := if p.wide then f.imm else (f.imm.setWidth 32).signExtend 64
        s.store w (if u then base else base + disp).toNat (leBytes (2 ^ (f.x.toNat % 4)) imm.toNat) p.nt true = (.done none, v) →
        exec (.sti w p f) s =
          .next (settle s (s.retire w p (if p.wide then 13 else 9) (if u then v.setX w f.a (base + disp) else v)))) ∧
      (∀ f : FmtS, p.rep = true → p.nt = true → p.wide = true →
        exec (.sti w p f) s = .next (settle s (s.takeTrap w Cause.illegal p.raw t.pc false))) ∧
      (∀ (f : FmtC) (e : MemErr) (b : List Byte) (v : State), p.plain → f.x.toNat < 8 → (f.x = 7 ∨ f.c = 0) →
        (s.memError w (t.xr f.a).toNat 3 false e).amo w (t.xr f.a).toNat f.x.toNat (t.xr f.b) (t.xr f.c) = (.ok b, v) →
        exec (.amo w p f e) s = .next (settle s (s.retire w p 4 (v.setX w f.d (BitVec.ofNat 64 (leNat b)))))) ∧
      (∀ (f : FmtA) (e : MemErr) (b : List Byte) (v : State), p.bare → f.x.toNat < 4 →
        (f.x = 0 ∨ (e ≠ .l2Ce ∧ e ≠ .l2Ue ∧ ∀ y, e ≠ .l2TagUe y)) → s.cmo w f.x.toNat (t.xr f.r).toNat = (.ok b, v) →
        exec (.cmo w p f e) s = .next (settle s (s.retire w p 2 v))) ∧
      (∀ (f : FmtA) (e : MemErr), p.bare → f.x = 4 → f.r = 0 → exec (.cmo w p f e) s = .next (settle s (s.retire w p 2 (s.dropOwnL1i w)))) ∧
      (∀ (f : FmtA) (y : Fin 16), p.bare → 1 ≤ f.x.toNat → f.x.toNat ≤ 3 → s.cmoAllowed w (t.xr f.r).toNat = true →
        exec (.cmo w p f (.l2TagUe y)) s = .next (settle s
          ((s.l2Error w.pond.val (t.xr f.r).toNat w.slot.val 7 (.l2TagUe y)).takeTrap w Cause.poison (t.xr f.r) t.pc false)))) ∧
  (∀ (old b c : Word),
      amoNew 0 old b c = some b ∧ amoNew 1 old b c = some (old + b) ∧ amoNew 2 old b c = some (old &&& b) ∧
      amoNew 3 old b c = some (old ||| b) ∧ amoNew 4 old b c = some (old ^^^ b) ∧
      (∃ m, amoNew 5 old b c = some m ∧ (m = old ∨ m = b) ∧ m.toInt = min old.toInt b.toInt) ∧
      (∃ m, amoNew 6 old b c = some m ∧ (m = old ∨ m = b) ∧ m.toInt = max old.toInt b.toInt) ∧
      amoNew 7 old b c = (if old = c then some b else none))

/-- Pond memory as its own striders use it (R293, R310, R312, R319): a permitted load of one line answers the strider's own buffered
bytes, else those of memory; a permitted store enters the store buffer while it has room; an AMO answers the old word.
A strider reads what it stored (R310): after a store of bytes to its own pond memory a load of the same range answers them. -/
def Obligations.OwnPondMemoryAndForwarding : Prop :=
  (∀ (s : State) (w : StrId) (a off n : Nat), s.addrClass w a = .own off → 0 < n → a % 64 + n ≤ 64 → a < devBase →
      (s.pmAllowed w.pond.val w.slot.val off n 1#4 = true →
        (∀ i < n, ((s.str w).bufByte (a + i)).isNone → s.pmPoisoned w.pond.val (off / 64 * 8 + (a + i) % 64 / 8) = false) →
        s.load w a n true =
          (.ok ((List.range n).map (fun i => ((s.str w).bufByte (a + i)).getD ((s.pmBytes w.pond.val off n).getD i 0))), s)) ∧
      (∀ b : List Byte, b.length = n → s.pmAllowed w.pond.val w.slot.val off n 2#4 = true → (s.str w).cb = [] →
        (s.str w).sb.length < 8 → s.store w a b false true = (.done none, s.setStr w ((s.str w).putSb a b))) ∧
      (∀ (x : Nat) (b c : Word), a % 8 = 0 → n = 8 → s.pmAllowed w.pond.val w.slot.val off 8 11#4 = true →
        (s.str w).sb = [] → (s.str w).cb = [] → s.pmPoisoned w.pond.val (off / 8) = false →
        s.amo w a x b c = (.ok (s.pmBytes w.pond.val off 8),
          match amoNew x (BitVec.ofNat 64 (leNat (s.pmBytes w.pond.val off 8))) b c with
          | some v => s.pmWrite w.pond off (leBytes 8 v.toNat)
          | none => s))) ∧
  (∀ (s : State) (w : StrId) (a off : Nat) (b : List Byte), s.addrClass w a = .own off → 0 < b.length → a % 64 + b.length ≤ 64 →
      a < devBase → s.pmAllowed w.pond.val w.slot.val off b.length 1#4 = true →
      s.pmAllowed w.pond.val w.slot.val off b.length 2#4 = true → (s.str w).cb = [] → (s.str w).sb.length < 8 →
      ∃ v, s.store w a b false true = (.done none, v) ∧ (v.load w a b.length true).1 = .ok b)

/-- Floating-point instructions (R232, R240, R245): the result goes to its register and the flags are gathered in FCSR, unless a raised
flag is enabled there, which traps FP with the flags in TVAL and writes nothing.
What holds of every result of floating-point arithmetic in the two formats (R239, Table 08-6): ABS clears the sign and NEG flips it with
no flag raised, and a sum, difference, product or quotient whose first operand is a NaN is that NaN made quiet, with NV raised exactly
when an operand is a signalling NaN. -/
def Obligations.FloatInstructionsAndSigns : Prop :=
  (∀ (s : State) (w : StrId) (p : Pfx), s.issues w p → p.plain →
      let t := s.str w
      let ctl := fctl t.fcsr
      let enabled (fl : FFlags) : Prop := (fl.bits % 32) &&& (t.fcsr.toNat / 2 ^ 8 % 32) ≠ 0
      let gather (fl : FFlags) : State := s.setStr w { t with fcsr := t.fcsr ||| BitVec.ofNat 32 fl.bits }
      let trap (fl : FFlags) : State := s.takeTrap w Cause.fp (BitVec.ofNat 64 fl.bits) t.pc false
      (∀ (f : FmtC) (r : FRes), badFop f = false →
        FFmt.s.fop ctl f.x.toNat ((t.fr f.a).toNat % 2 ^ 32) ((t.fr f.b).toNat % 2 ^ 32) ((t.fr f.c).toNat % 2 ^ 32) = some r →
        (¬enabled r.flags → exec (.fopS w p f) s = .next (settle s (s.retire w p 4 ((gather r.flags).setF w f.d (BitVec.ofNat 64 r.val))))) ∧
        (enabled r.flags → exec (.fopS w p f) s = .next (settle s (trap r.flags)))) ∧
      (∀ (f : FmtC) (r : FRes), badFop f = false →
        FFmt.d.fop ctl f.x.toNat (t.fr f.a).toNat (t.fr f.b).toNat (t.fr f.c).toNat = some r →
        (¬enabled r.flags → exec (.fopD w p f) s = .next (settle s (s.retire w p 4 ((gather r.flags).setF w f.d (BitVec.ofNat 64 r.val))))) ∧
        (enabled r.flags → exec (.fopD w p f) s = .next (settle s (trap r.flags)))) ∧
      (∀ f : FmtB, f.d = 0 →
        let m := if f.x then FFmt.d else FFmt.s
        let r := m.cmp ctl (fpBits m (t.fr f.a)) (fpBits m (t.fr f.b))
        (¬enabled r.flags → exec (.fcmp w p f) s =
          .next (settle s (s.retire w p 3 ((gather r.flags).setStr w
            (((gather r.flags).str w).flags { z := r.z, n := r.n, c := r.c, v := r.v }))))) ∧
        (enabled r.flags → exec (.fcmp w p f) s = .next (settle s (trap r.flags)))) ∧
      (∀ (f : FmtC) (r : FRes), f.x.toNat < 10 → f.b = 0 → f.c = 0 → fcvt ctl f.x.toNat (fcvtSource t f) = some r →
        (¬enabled r.flags → exec (.fcvt w p f) s =
          .next (settle s (s.retire w p 4 (if 2 ≤ f.x.toNat ∧ f.x.toNat ≤ 5 then (gather r.flags).setX w f.d (BitVec.ofNat 64 r.val)
            else (gather r.flags).setF w f.d (BitVec.ofNat 64 r.val))))) ∧
        (enabled r.flags → exec (.fcvt w p f) s = .next (settle s (trap r.flags)))) ∧
      (∀ f : FmtC, f.b = 0 → f.c = 0 →
        (f.x = 0 → exec (.fmov w p f) s = .next (settle s (s.retire w p 4 (s.setF w f.d (t.fr f.a))))) ∧
        (f.x = 1 → exec (.fmov w p f) s = .next (settle s (s.retire w p 4 (s.setF w f.d (t.xr f.a))))) ∧
        (f.x = 2 → exec (.fmov w p f) s = .next (settle s (s.retire w p 4 (s.setX w f.d (t.fr f.a))))))) ∧
  (∀ (c : FCtl) (f : FFmt), (f = FFmt.s ∨ f = FFmt.d) → ∀ a b d : Nat, a < 2 * f.signBit → b < 2 * f.signBit → d < 2 * f.signBit →
      (∃ r, f.fop c 10 a b d = some r ∧ r.val = a % f.signBit ∧ r.flags = {}) ∧
      (∃ r, f.fop c 11 a b d = some r ∧ r.val = (if a < f.signBit then a + f.signBit else a - f.signBit) ∧ r.flags = {}) ∧
      (∀ x, x ≤ 3 → (∃ k q, f.unpack a = .nan k q) → ∃ r, f.fop c x a b d = some r ∧
        r.val = (if a / 2 ^ (f.p - 2) % 2 = 1 then a else a + 2 ^ (f.p - 2)) ∧
        (r.flags.nv = true ↔ (∃ n, f.unpack a = .nan n true) ∨ (∃ n, f.unpack b = .nan n true))))

/-- BRK and TRAP trap with the next address as TPC (Table 07-13), and TRET in handler mode returns to TPC with the status bits of TPSW
(R203); a record of the instruction there is resumed only with UIP (R258). In task mode TRET raises ACCESS.
Taking a trap (R200, Table 07-13): once its older stores are performed, task mode is left with PC, PSW, cause and value saved and the
PC at the vector of the cause; in handler mode the task is abandoned with DOUBLE_TRAP (R204). A halt that has waited is then taken (R216).
The bits of PSW that a write of PSW by a handler or TRET sets (Table 07-3): the flags, H, UIP and a loop depth of at most 4; the
reserved bits keep their value, and so does the depth when the value written is 5 to 7. -/
def Obligations.TrapsAndReturns : Prop :=
  (∀ (s : State) (w : StrId) (p : Pfx), s.issues w p → p.bare →
      let t := s.str w
      exec (.brk w p) s = .next (settle s (s.takeTrap w Cause.brk 0 (t.pc + 1) false)) ∧
      (∀ f : FmtA, exec (.trap w p f) s =
        .next (settle s (s.takeTrap w Cause.soft (BitVec.ofNat 64 (f.r.val + 32 * f.x.toNat)) (t.pc + 2) false))) ∧
      (pswH t.psw = true → (pswUip (pswWrite t.psw t.tpsw) && t.uc.any (fun u => u.addr == t.tpc)) = false → exec (.tret w p) s =
          .next (settle s ((s.setStr w { t with psw := pswSetUip (pswWrite t.psw t.tpsw) false, uc := [], pc := t.tpc }).haltPoint w))) ∧
      (pswH t.psw = true → pswUip (pswWrite t.psw t.tpsw) = true → t.uc.any (fun u => u.addr == t.tpc) = true → exec (.tret w p) s =
          .next (settle s ((s.setStr w
            { t with psw := pswWrite t.psw t.tpsw, uc := t.uc.map (fun u => { u with ready := true }), pc := t.tpc }).haltPoint w))) ∧
      (pswH t.psw = false → ∃ v : Word,
        exec (.tret w p) s = .next (settle s ((s.fresh).2.takeTrap w Cause.access v t.pc false)))) ∧
  (∀ (s u : State) (w : StrId) (cause : Nat) (tval tpc : Word), s.drainStores w = (true, u) →
      let t := u.str w
      (pswH t.psw = false → s.takeTrap w cause tval tpc false = State.haltPoint (u.setStr w { t with
        tpc := tpc, tpsw := t.psw, tcause := BitVec.ofNat 32 cause, tval := tval,
        psw := pswSetH t.psw true, pc := t.tbase / 256 * 256 + BitVec.ofNat 64 (16 * cause),
        uc := t.uc.filter (fun x => !x.ready) }) w) ∧
      (pswH t.psw = true → s.takeTrap w cause tval tpc false = u.abandonTask w 2) ∧
      (t.haltDue = false → u.haltPoint w = u) ∧
      (t.haltDue = true → u.haltPoint w = (u.setStr w { t with haltDue := false }).abandonTask w 4)) ∧
  (∀ (old v : Word32),
      (∀ i < 32, i ∉ [0, 1, 2, 3, 7, 8, 9, 10, 11] → (pswWrite old v).getLsbD i = old.getLsbD i) ∧
      (∀ i ∈ [0, 1, 2, 3, 7, 11], (pswWrite old v).getLsbD i = v.getLsbD i) ∧
      pswLd (pswWrite old v) = (if pswLd v ≤ 4 then pswLd v else pswLd old))

/-- Barriers (R315): each completes once the buffers it names have drained, and is issued again while they have not.
FENCE.ALL leaves both buffers of the strider empty when it completes (R315).
The drains of a strider's buffers (R312, R313) and the repair of a control-store word (R251): the oldest store is performed, a
combining entry is performed, and a refreshed word lets the striders that wait for it go on; a background pass that corrects a word
raises CS_CE, and one that cannot raises CS_UE and keeps the word as bad. -/
def Obligations.BarriersAndDrains : Prop :=
  (∀ (s u : State) (w : StrId) (p : Pfx) (ok : Bool), s.issues w p → p.bare →
      let fin (n : Nat) : State := if ok then s.retire w p n u else u
      (s.drainStores w = (ok, u) → exec (.fenceSl w p) s = .next (settle s (fin 1))) ∧
      (State.drainCb w 4 s = (ok, u) → exec (.fenceN w p) s = .next (settle s (fin 1))) ∧
      (State.drainDev w 8 s = (ok, u) → exec (.fenceIo w p) s = .next (settle s (fin 1))) ∧
      (s.drainAll w = (ok, u) → exec (.fenceAll w p) s = .next (settle s (fin 1)))) ∧
  (∀ (s u : State) (w : StrId), s.drainAll w = (true, u) → (u.str w).sb = [] ∧ (u.str w).cb = []) ∧
  (∀ (s : State), s.powered = true →
      (∀ (w : StrId) (x : MemErr) (e : BufEntry) (rest : List BufEntry) (v : State), (s.str w).sb = e :: rest →
        let m := s.memError w e.first 1 false x
        (m.str w).sb = e :: rest → m.performEntry w e = (true, v) →
        exec (.sbEntryDrain w x) s = .next (settle s (v.setStr w { v.str w with sb := rest }))) ∧
      (∀ (w : StrId) (i : Fin 4) (x : MemErr) (e : BufEntry) (v : State), (s.str w).cb[i.val]? = some e →
        let m := s.memError w e.first 1 false x
        (m.str w).cb[i.val]? = some e → m.performNt w e = (true, v) →
        exec (.cbEntryDrain w i x) s = .next (settle s (v.setStr w { v.str w with cb := (v.str w).cb.eraseIdx i.val }))) ∧
      (∀ (p : Fin 68) (k : Fin 17), (s.str ⟨p, k⟩).run = .waiting .csWord → (∀ j, j ≠ k → (s.str ⟨p, j⟩).run ≠ .waiting .csWord) →
        exec (.csWordRefresh p) s = .next (settle s ((s.setPond p.val { s.pond p.val with csBad := [] }).resume ⟨p, k⟩))) ∧
      (∀ p : Fin 68, exec (.csBackgroundPass p .none) s = .next (settle s s) ∧
        (∃ k, exec (.csBackgroundPass p .ce) s = .next (settle s ((s.fresh).2.pondRaise Flt.POND_CS_CE p (k % 8192) 21 2 1))) ∧
        (∃ k, exec (.csBackgroundPass p .ue) s = .next (settle s
          (let u := (s.fresh).2
           let x := u.pond p.val
           if x.csBad.contains (k % 8192) then u
           else (u.setPond p.val { x with csBad := x.csBad ++ [k % 8192] }).pondRaise Flt.POND_CS_UE p (k % 8192) 21 2 1)))))

/-- System registers and RDT (R184, Table 07-2): what each mode may read and write; a write of FCSR with RM 5 to 7 raises ILLEGAL. -/
def Obligations.SystemRegisters : Prop :=
  ∀ (s : State) (w : StrId) (p : Pfx), s.issues w p → p.bare →
    let t := s.str w
    (∀ f : FmtY, sysListed f.n.toNat = true →
      let n := f.n.toNat
      let mayRead := pswH t.psw = true ∨ ¬(8 ≤ n ∧ n ≤ 11)
      let mayWrite := n ≤ 3 ∨ (0x10 ≤ n ∧ n ≤ 0x1B) ∨ n = 0x24 ∨ (pswH t.psw = true ∧ (n = 4 ∨ n = 8 ∨ n = 9))
      let denied := s.takeTrap w Cause.access (f.n.setWidth 64) t.pc false
      (mayRead → exec (.mfs w p f) s = .next (settle s (s.retire w p 3 (s.setX w f.r (s.sysRead w n))))) ∧
      (¬mayRead → exec (.mfs w p f) s = .next (settle s denied)) ∧
      (mayWrite → ¬(n = 1 ∧ 5 ≤ (t.xr f.r).toNat / 2 ^ 16 % 8) →
        exec (.mts w p f) s = .next (settle s (s.retire w p 3 (s.setStr w (t.sysWrite n (t.xr f.r)))))) ∧
      (n = 1 → 5 ≤ (t.xr f.r).toNat / 2 ^ 16 % 8 →
        exec (.mts w p f) s = .next (settle s (s.takeTrap w Cause.illegal p.raw t.pc false))) ∧
      (¬mayWrite → exec (.mts w p f) s = .next (settle s denied))) ∧
    (∀ f : FmtA, (f.x = 0 → exec (.rdt w p f) s = .next (settle s (s.retire w p 2 (s.setX w f.r s.time.dt)))) ∧
      (f.x = 1 → exec (.rdt w p f) s =
        .next (settle s (s.retire w p 2 (s.setX w f.r (s.time.dt * 8 + BitVec.ofNat 64 s.time.fine))))))

/-- A repeat prefix (R197): with RC 0 nothing is executed and the PC goes on; each execution takes one off RC, and the PC moves when
RC reaches 0. A halt that has waited is taken after each (R216).
The loop comparison (R194): an instruction that ends where the innermost loop ends goes on at the loop's start while more than one
pass is left, and else pops the loop; the count then reads 0. -/
def Obligations.RepeatAndLoops : Prop :=
  (∀ (s : State) (w : StrId) (next : Word) (task : Bool),
      let t := s.str w
      (t.rc ≠ 1 → s.iterate w true task next = (s.setStr w { t with rc := t.rc - 1, uc := t.uc.filter (fun x => !x.ready) }).haltPoint w) ∧
      (t.rc = 1 → pswLd t.psw = 0 →
        s.iterate w true task next = (s.setStr w { t with rc := 0, pc := next, uc := t.uc.filter (fun x => !x.ready) }).haltPoint w) ∧
      (∀ (p : Pfx) (f : FmtB), s.powered = true → s.executes w = true → s.timeUp w = false → (∀ n ≤ 15, s.fetchCheck w n = .ok) →
        p.err = .none → p.plain → p.rep = true → t.rc = 0 → exec (.add w p f) s = .next (settle s (s.jumpTo w (t.pc + 4) s)))) ∧
  (∀ (s : State) (w : StrId) (next : Word),
      let t := s.str w
      let k := pswLd t.psw - 1
      let u := { t with uc := t.uc.filter (fun x => !x.ready) }
      ((pswLd t.psw = 0 ∨ t.ler k ≠ next) → s.complete w true next = (s.setStr w { u with pc := next }).haltPoint w) ∧
      (pswLd t.psw ≠ 0 → t.ler k = next → 1 < (t.lcr k).toNat →
        s.complete w true next = (s.setStr w { u with pc := t.lsr k, lc := Tab.set (fun _ => 0) t.lc k (t.lcr k - 1) }).haltPoint w) ∧
      (pswLd t.psw = 1 → t.ler 0 = next → (t.lcr 0).toNat ≤ 1 →
        s.complete w true next =
          (s.setStr w { u with pc := next, lc := Tab.set (fun _ => 0) t.lc 0 0, psw := pswSetLd t.psw 0 }).haltPoint w) ∧
      (1 ≤ pswLd t.psw → pswLd t.psw ≤ 4 → t.ler k = next → (t.lcr k).toNat ≤ 1 → s.complete w true next =
        (s.setStr w { t with lc := Tab.set (fun _ => 0) t.lc k 0, psw := pswSetLd t.psw k }).complete w true next) ∧
      s.complete w false next = (s.setStr w { u with pc := next }).haltPoint w)

/-- What raises ILLEGAL (R187, R188, R198): a prefix that does not apply, a reserved field that is not zero, an undefined
code, with the first bytes of the instruction in TVAL.
An undefined opcode, an opcode above 0x3F after CX and a failed fetch trap (R187, R190, R201, R270): their effect is the trap, that of
a fetch with the address fetched in TVAL.
A customer instruction of format B whose one microword adds the two operands into Xd and ends (R252, R255, R260; Tables 09-2 to
09-7); and the trap of an invalid decode entry. -/
def Obligations.IllegalFetchAndCustomer : Prop :=
  (∀ (s : State) (w : StrId) (p : Pfx), s.powered = true → s.executes w = true → s.timeUp w = false → p.err = .none →
      (∀ n ≤ 15, s.fetchCheck w n = .ok) →
      let ill := Host.Outcome.next (φ := Fault) (ρ := Refusal) (settle s (s.takeTrap w Cause.illegal p.raw (s.str w).pc false))
      ((p.rep = true ∨ p.nt = true ∨ p.wide = true) → exec (.nop w p) s = ill ∧ (∀ d, exec (.j w p d) s = ill)) ∧
      (∀ f : FmtB, p.nt = true ∨ p.wide = true → exec (.add w p f) s = ill) ∧
      (∀ f : FmtB, f.d ≠ 0 ∨ f.x = true → exec (.cmp w p f) s = ill) ∧
      (∀ f : FmtC, f.x = 15#4 → exec (.sel w p f) s = ill) ∧
      (∀ f : FmtM, 16 ≤ f.x.toNat → (∀ e, exec (.ld w p f e) s = ill) ∧ exec (.st w p f) s = ill) ∧
      (∀ f : FmtC, 12 ≤ f.x.toNat → exec (.fopS w p f) s = ill ∧ exec (.fopD w p f) s = ill) ∧
      (∀ f : FmtY, sysListed f.n.toNat = false → exec (.mfs w p f) s = ill ∧ exec (.mts w p f) s = ill)) ∧
  (∀ (s : State) (w : StrId) (p : Pfx), s.powered = true → s.executes w = true → s.timeUp w = false → p.err = .none →
      (∀ op : Byte, (∀ n ≤ 15, s.fetchCheck w n = .ok) →
        (if cxPrefixed p then 0x3F < op.toNat else opcodeDefined op.toNat = false) →
        exec (.undefinedOpcode w p op) s = .next (settle s (s.takeTrap w Cause.illegal p.raw (s.str w).pc false))) ∧
      (∀ (c v : Nat) (x : Bool), s.fetchCheck w 15 = .trap c v →
        exec (.instructionFetchFault w p x) s = .next (settle s (s.takeTrap w c (BitVec.ofNat 64 v) (s.str w).pc false))) ∧
      (s.fetchCheck w 15 = .ok →
        exec (.instructionFetchFault w p true) s = .next (settle s (s.takeTrap w Cause.poison (s.str w).pc (s.str w).pc false)))) ∧
  (∀ (s : State) (w : StrId) (p : Pfx) (op : Fin 64) (ops : List Byte), s.issues w p → p.plain →
      let t := s.str w
      let e := s.ucEntry op.val
      let v := leNat (slice ops 0 2)
      let d : RegNo := Fin.ofNat 32 v
      let a : RegNo := Fin.ofNat 32 (v / 2 ^ 5)
      let b : RegNo := Fin.ofNat 32 (v / 2 ^ 10)
      let word := s.ucWord (DE.entry e)
      (DE.valid e = true → DE.format e = 2 → (p.rep = true → DE.repok e = true) → DE.use e = 14 → DE.df e = false → DE.sf e = false →
        v / 2 ^ 15 % 2 ≤ DE.xmax e → (s.pond w.pond.val).csBad.contains (DE.entry e) = false → (t.uc.find? (fun u => u.ready && u.addr == t.pc)) = none →
        MW.codesOk word = true → MW.seq word = 5 → MW.alu word = 2 → MW.srcA word = 3 → MW.srcB word = 4 → MW.dest word = 1 →
        MW.mem word = 0 → MW.fmask word = 0 → MW.ufl word = false → MW.ten word = false →
        exec (.cxInstruction w p op ops) s =
          .next (settle s (s.retire w p 4 (s.setStr w (t.setX d (t.xr a + t.xr b)))))) ∧
      (DE.valid e = false → exec (.cxInstruction w p op ops) s =
        .next (settle s (s.takeTrap w Cause.cxundef (BitVec.ofNat 64 op.val) t.pc false))))

/-! ### Outputs, waits and tasks (chapters 7 and 13) -/

/-- EMIT completes (R88 to R90, R208, R316), its older stores performed, its buffer read and no result recorded: an ATX that passes every check
is accepted by its weir, recorded in the output log, and EMIT gives 0; a check of the front end or of the weir that fails refuses it with the
check's code in Xd and Z set; one that finds closed admission, no window entry or older EMITs waiting waits at its weir. -/
def Obligations.EmitOutcomes : Prop :=
  ∀ (s d v : State) (w : StrId) (p : Pfx) (f : FmtB) (bytes : List Byte), s.issues w p → p.bare → f.b = 0 → f.x = false →
    let t := s.str w
    t.oord ≠ 0xFFFFFFFF → (t.xr f.a).toNat % 8 = 0 → s.drainAll w = (true, d) → d.load w (t.xr f.a).toNat 32 false = (.ok bytes, v) →
    ∀ u : State, v.duplicate (basinOfStr w) (t.taskId.setWidth 48) t.oord = (none, u) →
    let a := atxOf bytes
    let e := u.adtE a.actIdx.toNat
    let n := getE e ADT.CHAN
    let low : Word := e.setWidth 64
    (u.frontRefusal a ≠ 0 → exec (.emit w p f) s =
      .next (settle s (s.retire w p 3 ((u.setFld WEIRG_STAT.LAST_REFUSE (u.frontRefusal a)).outputDone w f.d
        (BitVec.ofNat 64 (u.frontRefusal a)) true)))) ∧
    (u.frontRefusal a = 0 → u.weirRefusal n a low ≠ 0 → exec (.emit w p f) s =
      .next (settle s (s.retire w p 3 ((u.weirRefused n (u.weirRefusal n a low)).outputDone w f.d
        (BitVec.ofNat 64 (u.weirRefusal n a low)) true)))) ∧
    (u.frontRefusal a = 0 → u.weirRefusal n a low = 0 → u.waitRefusal n = 0 → (u.weir n).waiters = [] →
      exec (.emit w p f) s = .next (settle s (s.retire w p 3
        (((u.acceptAtx n a low ((u.str w).taskId.setWidth 48) (u.str w).oord).accepted w f.d 1 0))))) ∧
    (u.frontRefusal a = 0 → u.weirRefusal n a low = 0 → (u.waitRefusal n ≠ 0 ∨ (u.weir n).waiters ≠ []) →
      let x := u.setWeir n { u.weir n with waiters := (u.weir n).waiters ++ [w] }
      let code := if u.waitRefusal n = 0 then 1 else u.waitRefusal n
      exec (.emit w p f) s =
        .next (settle s (s.retire w p 3 (x.setStr w { x.str w with run := .waiting (.emit a n low u.dt code f.d) }))))

/-- POST and COMMIT (R208, R390): a queue that takes the entry, and a state page whose two block writes are made, complete the output
with an output-log record; a queue that refuses it and a page without its header refuse it; a full queue and a page that another COMMIT
holds make it wait. The older stores are performed first (R316).
A duplicate output completes with the result recorded when it was first made (R18, R208, R388), and an ordinal of 0xFFFF_FFFF
raises ORDINAL (R211). -/
def Obligations.PostCommitOnceOnly : Prop :=
  (∀ (s y v u : State) (w : StrId) (p : Pfx) (f : FmtB) (bytes : List Byte), s.issues w p → p.bare → f.x = false →
      let t := s.str w
      t.oord ≠ 0xFFFFFFFF → (t.xr f.a).toNat % 8 = 0 → s.drainAll w = (true, y) → y.load w (t.xr f.a).toNat 64 false = (.ok bytes, v) →
      v.duplicate (basinOfStr w) (t.taskId.setWidth 48) t.oord = (none, u) →
      let x := (u.str w).xr f.b
      let b := u.deliverTo (x.toNat / 64 % 4)
      let q := x.toNat % 64
      (x.toNat < 256 → u.taskPostCheck b q bytes = .ok →
        exec (.post w p f) s = .next (settle s (s.retire w p 3 ((u.enqueue b q bytes).accepted w f.d 2 0)))) ∧
      (x.toNat < 256 → u.taskPostCheck b q bytes ≠ .ok → u.taskPostCheck b q bytes ≠ .full →
        exec (.post w p f) s = .next (settle s (s.retire w p 3 ((u.countRefused b q).outputDone w f.d
          (BitVec.ofNat 64 (u.taskPostCheck b q bytes).code) true)))) ∧
      (x.toNat < 256 → u.taskPostCheck b q bytes = .full → exec (.post w p f) s =
        .next (settle s (s.retire w p 3 (u.setStr w { u.str w with run := .waiting (.post x.toNat bytes u.dt f.d) })))) ∧
      (256 ≤ x.toNat → exec (.post w p f) s = .next (settle s (s.retire w p 3 (u.outputDone w f.d 2 true)))) ∧
      (u.pageHeader w x.toNat = none →
        exec (.commit w p f false) s = .next (settle s (s.retire w p 3 (u.outputDone w f.d 1 true)))) ∧
      (∀ (h : List Byte) (busy : Bool), u.pageHeader w x.toNat = some h → u.olReserve = true →
        exec (.commit w p f busy) s = .next (settle s (s.retire w p 3 (u.outputDone w f.d 2 true)))) ∧
      (∀ h : List Byte, u.pageHeader w x.toNat = some h → u.olReserve = false → exec (.commit w p f true) s =
        .next (settle s (s.retire w p 3 (u.setStr w { u.str w with run := .waiting (.commit ((u.str w).xr f.a) x u.dt f.d) })))) ∧
      (∀ (h : List Byte) (m : State) (h' : List Byte) (c : State), u.pageHeader w x.toNat = some h → u.olReserve = false →
        u.commitWrite w x.toNat bytes = (true, m) →
        h' = headerAfter h ((u.str w).taskId.setWidth 48) (u.str w).oord (x.toNat % 4096 / 64) m.dt →
        m.commitWrite w (x.toNat / 4096 * 4096) h' = (true, c) →
        exec (.commit w p f false) s = .next (settle s (s.retire w p 3 (c.accepted w f.d 3 (BitVec.ofNat 64 (leAt h' 8 8))))))) ∧
  (∀ (s y v u : State) (w : StrId) (p : Pfx) (f : FmtB) (bytes : List Byte) (r : Word), s.issues w p → p.bare → f.x = false →
      let t := s.str w
      (t.oord = 0xFFFFFFFF → exec (.post w p f) s = .next (settle s (s.takeTrap w Cause.ordinal 0xFFFFFFFF t.pc false)) ∧
        (∀ busy, exec (.commit w p f busy) s =
          .next (settle s (s.takeTrap w Cause.ordinal 0xFFFFFFFF t.pc false))) ∧
        (f.b = 0 → exec (.emit w p f) s = .next (settle s (s.takeTrap w Cause.ordinal 0xFFFFFFFF t.pc false)))) ∧
      (t.oord ≠ 0xFFFFFFFF → (t.xr f.a).toNat % 8 = 0 → s.drainAll w = (true, y) → y.load w (t.xr f.a).toNat 64 false = (.ok bytes, v) →
        v.duplicate (basinOfStr w) (t.taskId.setWidth 48) t.oord = (some r, u) →
        exec (.post w p f) s = .next (settle s (s.retire w p 3 (u.outputDone w f.d r false))) ∧
        exec (.commit w p f false) s = .next (settle s (s.retire w p 3 (u.outputDone w f.d r false)))))

/-- The waits (R217 to R222): with both buffers drained, one whose target has come completes at once with 0, one that cannot complete
gives its code with Z set, and any other suspends the strider; SLEEP writes no register.
RECV (R209): it takes the oldest entry of a MSG queue of its own basin that no task holds, stores it into the buffer and completes
with 0; with no such entry it completes with 1, and with a selector of no such queue with 2. A replayed task is given the entries that its
journal recorded first (R393). -/
def Obligations.RecvAndWaits : Prop :=
  (∀ (s u : State) (w : StrId) (p : Pfx), s.issues w p → p.bare → s.drainAll w = (true, u) →
      let t := u.str w
      let begin (k : Wait) (len : Nat) : State :=
        let x := u.setStr w { t with waitAt := some u.dt }
        s.retire w p len (x.setStr w { x.str w with run := .waiting k })
      (∀ f : FmtB, f.b = 0 → f.x = false → exec (.waitt w p f) s = .next (settle s
        (if dtGe u.dt (t.xr f.a) then s.retire w p 3 (u.writeResult w f.d 0 false) else begin (.waitt (t.xr f.a) f.d) 3))) ∧
      (∀ f : FmtC, f.x = 0 →
        let a := (t.xr f.a).toNat
        let late := deadlinePassed u.dt (t.xr f.c)
        exec (.waita w p f) s = .next (settle s
          (if 16 ≤ a then s.retire w p 4 (u.writeResult w f.d 3 true)
           else if u.fld (AX_STAT.STATE a) = 0 ∨ u.fld (AX_STAT.STATE a) = 4 then s.retire w p 4 (u.writeResult w f.d 2 true)
           else if u.fld (AX_STAT.STATE a) = 2 ∧ u.maReached a (t.xr f.b) = true then s.retire w p 4 (u.writeResult w f.d 0 false)
           else if late then s.retire w p 4 (u.writeResult w f.d 1 true)
           else begin (.waita a (t.xr f.b) (t.xr f.c) f.d) 4))) ∧
      (∀ f : FmtB, f.x = false →
        let k := u.qsel w (t.xr f.a).toNat
        exec (.waitq w p f) s = .next (settle s
          (if k = .bad then s.retire w p 3 (u.writeResult w f.d 3 true)
           else if u.qselReady w k then s.retire w p 3 ((u.takeEvent w k).writeResult w f.d 0 false)
           else if deadlinePassed u.dt (t.xr f.b) then s.retire w p 3 (u.writeResult w f.d 1 true)
           else begin (.waitq (t.xr f.a) (t.xr f.b) f.d) 3))) ∧
      (∀ f : FmtA, f.x = 0 → exec (.sleep w p f) s = .next (settle s
        (if deadlinePassed u.dt (t.xr f.r) ∨ t.evlatch ≠ 0 then s.retire w p 2 u else begin (.sleep (t.xr f.r)) 2)))) ∧
  (∀ (s : State) (w : StrId) (p : Pfx) (f : FmtB), s.issues w p → p.bare → f.x = false →
      let t := s.str w
      let b := basinOfStr w
      let x := (t.xr f.b).toNat
      let y := s.queue b (x % 64)
      (¬(x / 64 = b ∧ y.qen = true ∧ y.mode = false) →
        exec (.recv w p f) s = .next (settle s (s.retire w p 3 (s.writeResult w f.d 2 true)))) ∧
      let noneHeld : Prop := ∀ j, s.taskOf w = some j → ∀ e, j.recv[j.returned]? = some e → e.1 ≠ x % 64
      (∀ (j : TaskJrn) (bytes : List Byte) (v : State), x / 64 = b → y.qen = true → y.mode = false → s.taskOf w = some j →
        j.recv[j.returned]? = some (x % 64, bytes) → (t.xr f.a).toNat % 8 = 0 →
        s.store w (t.xr f.a).toNat bytes false false = (.done none, v) →
        exec (.recv w p f) s = .next (settle s (s.retire w p 3
          ((v.updJrn b (t.taskId.setWidth 48) (fun j => { j with returned := j.returned + 1 })).writeResult w f.d 0 false)))) ∧
      (x / 64 = b → y.qen = true → y.mode = false → noneHeld → (∀ e ∈ y.entries, e.taken.isSome) →
        exec (.recv w p f) s = .next (settle s (s.retire w p 3 (s.writeResult w f.d 1 true)))) ∧
      (∀ (pre post : List QEntry) (e : QEntry) (v : State), x / 64 = b → y.qen = true → y.mode = false → noneHeld →
        y.entries = pre ++ e :: post → (∀ c ∈ pre, c.taken.isSome) → e.taken = none → (t.xr f.a).toNat % 8 = 0 →
        s.store w (t.xr f.a).toNat e.bytes false false = (.done none, v) →
        exec (.recv w p f) s = .next (settle s (s.retire w p 3
          (((v.setQueue b (x % 64) { v.queue b (x % 64) with
              entries := (v.queue b (x % 64)).entries.set pre.length { e with taken := some (t.taskId.setWidth 48) } }).updJrn b
            (t.taskId.setWidth 48) (fun j => { j with recv := j.recv ++ [(x % 64, e.bytes)], returned := j.returned + 1 })).writeResult w f.d 0 false)))))

/-- The ends of waits (R217 to R222, Table 07-19): the event that a suspended strider waits for resumes it with 0, a deadline with 1, and
at the same DT the event wins; a tracker that is DISABLED or LOST ends a WAITA with 2, or with 0 if the update that lost it reached the
target. The strider's basin must be clocked, or its D-NAP ends with the wake (R487).
What completes a waiting output or ends its wait (R89, R208, R390): acceptance of the oldest EMIT of a weir, and the time-outs (of
EMIT_WAIT_MAX units of 10 ns, and of 2 µs), which refuse it with the check that failed last, 1 for a POST and 3 for a COMMIT. -/
def Obligations.WaitsAndOutputsEnd : Prop :=
  (∀ (s : State) (w : StrId), s.powered = true → (s.eclkOn (basinOfStr w) = true ∨ s.napping = true) →
      (∀ (target : Word) (d : RegNo), (s.str w).run = .waiting (.waitt target d) → dtGe s.dt target = true →
        exec (.waittComplete w) s = .next (settle s (s.endWait w d 0))) ∧
      (∀ (a : Nat) (target dl : Word) (d : RegNo), (s.str w).run = .waiting (.waita a target dl d) →
        let gone := s.fld (AX_STAT.STATE a) = 0 ∨ s.fld (AX_STAT.STATE a) = 4
        let code := if s.fld (AX_STAT.STATE a) = 4 ∧ s.maReached a target = true then 0 else 2
        (s.fld (AX_STAT.STATE a) = 2 → s.maReached a target = true → exec (.waitaComplete w) s = .next (settle s (s.endWait w d 0))) ∧
        (gone → exec (.waitaComplete w) s = .next (settle s (s.endWait w d code))) ∧
        (deadlinePassed s.dt dl = true → exec (.waitDeadline w) s =
          .next (settle s (s.endWait w d
            (if gone then code else if s.fld (AX_STAT.STATE a) = 2 ∧ s.maReached a target = true then 0 else 1))))) ∧
      (∀ (sel dl : Word) (d : RegNo), (s.str w).run = .waiting (.waitq sel dl d) →
        let k := s.qsel w sel.toNat
        ((s.str w).woken = true → exec (.waitqComplete w) s = .next (settle s (s.endWait w d 0))) ∧
        ((s.str w).woken = false → k = .bad → exec (.waitqComplete w) s = .next (settle s (s.endWait w d 3))) ∧
        ((s.str w).woken = false → k ≠ .bad → s.qselReady w k = true →
          exec (.waitqComplete w) s = .next (settle s ((s.takeEvent w k).endWait w d 0))) ∧
        ((s.str w).woken = false → s.qselReady w k = false → deadlinePassed s.dt dl = true →
          exec (.waitDeadline w) s = .next (settle s (s.endWait w d 1)))) ∧
      (∀ wake : Word, (s.str w).run = .waiting (.sleep wake) → (deadlinePassed s.dt wake = true ∨ (s.str w).evlatch ≠ 0) →
        exec (.sleepComplete w) s = .next (settle s ((s.napEnd.wakePond w.pond.val).resume w))) ∧
      (∀ (d : RegNo) (code : Nat), s.napping = false → s.isGated w.pond.val = false →
        s.endWait w d code = (s.resume w).writeResult w d (BitVec.ofNat 64 code) (code != 0))) ∧
  (∀ (s : State) (w : StrId) (d : RegNo) (since : Word), s.powered = true →
      (∀ (n : Fin 96) (a : Atx) (low : Word) (code : Nat) (rest : List StrId), (s.weir n.val).waiters = w :: rest →
        (s.str w).run = .waiting (.emit a n.val low since code d) → s.weirRefusal n.val a low = 0 → s.waitRefusal n.val = 0 →
        exec (.emitStallAccept n) s = .next (settle s ((s.emitLeaves w).emitAccept w n.val a low d))) ∧
      (∀ (n : Nat) (a : Atx) (low : Word) (code : Nat), (s.str w).run = .waiting (.emit a n low since code d) →
        elapsed s.dt since (30 * s.fld WEIRG_EMITWAIT.EMIT_WAIT_MAX) = true →
        exec (.emitWaitTimeout w) s =
          .next (settle s (((s.emitLeaves w).weirRefused n code).outputDone w d (BitVec.ofNat 64 code) true))) ∧
      (∀ (x : Nat) (bytes : List Byte), (s.str w).run = .waiting (.post x bytes since d) → elapsed s.dt since (usTicks 2) = true →
        s.taskPostCheck (s.postTarget (BitVec.ofNat 64 x)).1 (s.postTarget (BitVec.ofNat 64 x)).2 bytes = .full →
        exec (.postWaitTimeout w) s = .next (settle s (((s.resume w).countRefused (s.postTarget (BitVec.ofNat 64 x)).1
          (s.postTarget (BitVec.ofNat 64 x)).2).outputDone w d 1 true))) ∧
      (∀ src dst : Word, (s.str w).run = .waiting (.commit src dst since d) → elapsed s.dt since (usTicks 2) = true →
        exec (.commitBusyTimeout w) s = .next (settle s ((s.resume w).outputDone w d 3 true))))

/-- Tasks (R207, R212, R215): TASKEND ends the task with its code once the buffers have drained, a refused end message is tried again, a
task whose run time has reached its limit is abandoned at the next instruction or when its end is seen, and the dispatcher starts the
head of the served queue on a strider that can take it, in the initial state of R207.
What a strider starts a task with (R207): its entry address, its four arguments in X1 to X3 and X31, its trap base and its identifier; every
other register, the status, the loop stack and the store buffers are clear; what it has stored to a request port stays (R172). -/
def Obligations.TasksBeginAndEnd : Prop :=
  (∀ (s : State) (w : StrId), s.powered = true →
      (∀ (p : Pfx) (f : FmtA) (u : State), s.issues w p → p.bare → f.x = 0 → s.drainAll w = (true, u) →
        let t := u.str w
        exec (.taskend w p f) s = .next (settle s ((u.setStr w { t with psw := pswSetLd t.psw 0 }).endTask w 0 ((t.xr f.r).setWidth 16)))) ∧
      (∀ (code : BitVec 16) (reason : Nat) (since : Word),
        ((s.retryEnds (basinOfStr w)).str w).run = .waiting (.taskEnd code reason since) →
        exec (.endMsgRetry w) s = .next (settle s (if elapsed (s.retryEnds (basinOfStr w)).dt since (usTicks 1)
          then (s.retryEnds (basinOfStr w)).endTask w reason code else s.retryEnds (basinOfStr w)))) ∧
      ((s.str w).run = .running → s.timeUp w = true → exec (.taskAbandon w) s = .next (settle s (s.abandonTask w 1))) ∧
      (∀ (p : Pfx), s.executes w = true → s.timeUp w = true → exec (.nop w p) s = .next (settle s (s.abandonTask w 1))) ∧
      (∀ u : State, s.drainAll w = (true, u) → s.abandonTask w 1 = (u.leaveWeir w).abandon w 1) ∧
      (∀ (b : Fin 4) (q : Fin 64) (j : TaskJrn), s.napping = false → basinOf w.pond.val = b.val → s.canTake w = true →
        (s.basin b.val).jrn.find? (s.replayFits w) = some j →
        exec (.taskDispatch b q w) s = .next (settle s (((s.updJrn b.val j.taskId (fun j => { j with replays := j.replays + 1 })).addSat
          TJ_REPLAY.REPLAYED 1).startTask w j))) ∧
      (∀ (b : Fin 4) (q : Fin 64) (e : QEntry) (rest : List QEntry), s.napping = false → basinOf w.pond.val = b.val → s.canTake w = true →
        (s.basin b.val).jrn.find? (s.replayFits w) = none → s.headFits b.val q.val w = true → s.servedNext b.val q.val = true →
        (s.queue b.val q.val).entries = e :: rest →
        let j : TaskJrn := { taskId := BitVec.ofNat 48 (leAt e.bytes 0 6), desc := e.bytes, dtDispatch := s.dt, strider := 0, phys := w,
                             replays := 0, pending := false, log := [], cursor := 0, recv := [], returned := 0 }
        let u := s.setQueue b.val q.val { s.queue b.val q.val with entries := rest }
        let v := u.setBasin b.val { u.basin b.val with
          jrn := (u.basin b.val).jrn ++ [j], rotate := Tab.set (fun _ => 63) (u.basin b.val).rotate (s.queue b.val q.val).prio.toNat q.val }
        exec (.taskDispatch b q w) s = .next (settle s (v.startTask w j))) ∧
      (∀ j : TaskJrn,
        let limit := if leAt j.desc 56 4 = 0 then s.fld (POND_CTL.TASK_MAX w.pond.val) else leAt j.desc 56 4
        (s.startTask w j).str w = startStr (s.str w) j.desc j.taskId s.dt limit)) ∧
  (∀ (old : StrSt) (desc : List Byte) (id : BitVec 48) (now : Word) (limit : Nat),
      let t := startStr old desc id now limit
      t.run = .running ∧ t.pc = BitVec.ofNat 64 (leAt desc 8 8) ∧ t.xr 1 = BitVec.ofNat 64 (leAt desc 32 8) ∧
      t.xr 2 = BitVec.ofNat 64 (leAt desc 40 8) ∧ t.xr 3 = BitVec.ofNat 64 (leAt desc 48 8) ∧ t.xr 31 = BitVec.ofNat 64 (leAt desc 24 8) ∧
      t.tbase = BitVec.ofNat 64 (leAt desc 16 8) ∧ t.taskId.setWidth 48 = id ∧ t.limit = limit ∧ t.dtStart = now ∧ t.oord = 0 ∧
      (∀ r : RegNo, r ∉ ([1, 2, 3, 31] : List RegNo) → t.xr r = 0) ∧ (∀ r : RegNo, t.fr r = 0) ∧
      t.psw = 0 ∧ t.fcsr = 0 ∧ t.lk = 0 ∧ t.rc = 0 ∧ t.evlatch = 0 ∧ t.sb = [] ∧ t.cb = [] ∧
      t.cmpBuf = old.cmpBuf ∧ t.dmaBuf = old.dmaBuf)

/-! ### Weirs, SPEED_LIMIT and the actuator tables (chapter 4) -/

/-- A launch (R94, R95, R143, R144): the records whose turn it is leave in one DATA frame, sequenced and held until acknowledged, which stays
open until its end is sent; with no record to launch nothing is sent. It needs a channel that accepts DATA and no SAFE, REJECT or SYNC frame
waiting before it (R129). -/
def Obligations.WeirLaunchesInOneFrame : Prop :=
  ∀ (s : State) (n : Fin 96) (fine : Fin 8) (k : Nat) (recs : List (Nat × List Byte)) (u : State), s.powered = true →
    s.fcAccepts n.val = true → s.bit TIME_STAT.FINE_LOCK = true → s.urgentWaits n.val = false → s.fld (WEIR_STAT.STATE n.val) ≠ 0 →
    let depth := match (s.chan n.val).partner with
      | none => 0
      | some p => p.armedDepth
    let seq := (s.chan n.val).txNext
    s.packFrame n.val (plc s.dt fine.val) depth seq.toNat 64 (min k (s.recLimit n.val)) [] = (recs, u) →
    (recs = [] → exec (.weirLaunch n fine k) s = .next (settle s u)) ∧
    (recs ≠ [] →
      let c := u.chan n.val
      let f := u.mkFrame n.val 2 c.txNext recs.length false (recs.flatMap (·.2))
      exec (.weirLaunch n fine k) s = .next (settle s ((u.setChan n.val { c with
        txNext := c.txNext + 1, txOpen := true,
        unacked := c.unacked ++ [{ seq := c.txNext, recs := recs, sentAt := u.dt, resends := 0 }] }).putFrame n.val f)))

/-- The launch decision for an armed ATX that is not late (R95, R520): past its deadline it is found late; in time it is driven at its drive
start, and after that as soon as the channel allows, marked slipped; a drive start too near the actuator's last is refused with 0x14.
A record's times (R83, R92): drive start is the target less the lead; the launch is aimed one channel latency and the margin before
it, the window opens ADV earlier, and the deadline is the latest time less lead and latency. -/
def Obligations.LaunchTimesAndDecision : Prop :=
  (∀ (s : State) (n id seq : Nat) (tL : Plc) (r : XRec) (p : Placement), s.recOf n id = some r → r.state = .armed → r.lateNo = none →
      s.adtBad r.atx.actIdx.toNat = false → s.dptBad r.profile = false → s.placement n r = some p →
      let lat := plcOf (s.lat n)
      let ds := if plcDiff tL (p.ds - lat) ≤ 0 then p.ds else tL + lat
      let clash := conflicts (getE (s.adtE r.atx.actIdx.toNat) ADT.LAST_DS) (getE (s.dptE r.profile) DPT.MIN_GAP) ds
      (0 < plcDiff tL p.dll → s.launchRec n id tL seq = (none, s.lateRec n id)) ∧
      (plcDiff tL p.dll ≤ 0 → clash = true → s.launchRec n id tL seq = (none, s.finish n id .failed 0x14)) ∧
      (plcDiff tL p.dll ≤ 0 → clash = false → r.xid = none → ∃ (b : List Byte) (u : State),
        s.launchRec n id tL seq = (some b, u) ∧ b.length = 24 ∧
        leAt b 2 6 = ds.tick.toNat % 2 ^ 48 ∧ leAt b 8 4 = (s.chan n).xidNext.toNat ∧
        u.striders = s.striders ∧ u.dram = s.dram)) ∧
  (∀ (s : State) (n : Nat) (r : XRec) (t : Plc), r.state = .armed → r.conv = .at t →
      ∃ p, s.placement n r = some p ∧
        p.ds = t - plcOf r.lead ∧ p.tll = p.ds - plcOf (s.lat n) - plcOf (240 * s.fld WEIRG_MARGIN.MARGIN) ∧
        p.wo = p.tll - plcOf (24000 * s.fld WEIRG_MARGIN.ADV) ∧
        p.dll = t + plcOf r.atx.lateWin.toNat - plcOf r.lead - plcOf (s.lat n))

/-- The late policies (R97, Table 04-6): DROP ends an ATX as LATE with reason 1, SEND_LATE keeps it to be launched in the order found late,
and STOP ends it with reason 3 and raises STOP_LATE.
A transaction that is final does not change again (R98).
What ends or delays a transaction (R93, R96 to R98, R101): a deadline found passed takes the late policy, an ATX held too long fails with
0x21, a VERIFY that does not come by its limit fails delivered records with 0x11 and unconfirmed ones with 0x12, and refused reports
are posted again. -/
def Obligations.TransactionEnds : Prop :=
  (∀ (s : State) (n id : Nat) (r : XRec), s.recOf n id = some r →
      let policy := if r.atx.late = 0 then s.fld (WEIR_CTL.LATE n) else r.atx.late.toNat - 1
      (policy = 0 → s.lateRec n id = s.finish n id .late 1) ∧
      (policy = 2 → s.lateRec n id = (s.finish n id .late 3).raise (Flt.WEIR_STOPLATE n)) ∧
      (policy = 1 → ∃ r', (s.lateRec n id).recOf n id = some r' ∧
        r'.lateNo = some (s.weir n).nextLate ∧ r'.state = r.state ∧ ((s.lateRec n id).weir n).nextLate = (s.weir n).nextLate + 1)) ∧
  (∀ (s : State) (n id : Nat) (r : XRec) (st : XState) (reason : Nat), s.recOf n id = some r → r.state.final = true →
      s.finish n id st reason = s) ∧
  (∀ (s : State) (n : Fin 96) (id : Nat) (r : XRec), s.powered = true → s.recOf n.val id = some r →
      (∀ p, r.state = .armed → r.lateNo = none → s.placement n.val r = some p → 0 < plcDiff (plc s.dt 0) p.dll →
        exec (.atxLateFound n id) s = .next (settle s (s.lateRec n.val id))) ∧
      (∀ since, r.state = .armed → r.lateNo = none → r.conv = .held since → s.fld WEIRG_TMO.NONEMAX ≠ 0 →
        (3000000 * s.fld WEIRG_TMO.NONEMAX : Int) < dtDiff s.dt since →
        exec (.atxHeldTimeout n id) s = .next (settle s (s.finish n.val id .failed 0x21))) ∧
      (0 < plcDiff (plc s.dt 0) (s.verifyLimit n.val r) →
        (r.state = .delivered → exec (.verifyTimeout n id) s = .next (settle s (s.finish n.val id .failed 0x11))) ∧
        (r.state = .unconfirmed → exec (.verifyTimeout n id) s = .next (settle s (s.finish n.val id .failed 0x12)))) ∧
      ((s.weir n.val).recs = [r] → r.state.final = true → r.reportDue.isSome = true →
        exec (.reportRetry n) s = .next (settle s (s.postReport n.val r))))

/-- Enabling and disabling a weir (R107, Table 04-15), SPEED_LIMIT (R111, R113), the weir commit (R44) and the evaluation of slack of the only
weir that holds transactions (R109), which begins with the commit point of the weir global block (Table 02-4).
The code on SPEEDLIM (R112, Table 04-19): the largest share of rated speed, in sixteenths, that the recommendation reaches. -/
def Obligations.WeirControlsAndSpeed : Prop :=
  (∀ (s : State), s.powered = true →
      (∀ n : Fin 96, s.bit (WEIR_CTL.EN n.val) = false → s.bit WEIRG_CTL.EN = true →
        exec (.weirEnable n true) s = .next (settle s (((s.setFld (WEIR_CTL.EN n.val) 1).syncWeir n.val).fcWritten n.val))) ∧
      (∀ n : Fin 96, s.bit (WEIR_CTL.EN n.val) = false → s.bit WEIRG_CTL.EN = false →
        exec (.weirEnable n true) s = .next (settle s ((s.setFld (WEIR_STAT.CFG_REJECT n.val) 1).fcWritten n.val))) ∧
      (∀ n : Fin 96, s.bit (WEIR_CTL.EN n.val) = true →
        exec (.weirEnable n false) s = .next (settle s ((((s.setFld (WEIR_STAT.STATE n.val) 2).failRecs n.val 0x31
          (fun r => r.state == .armed || r.state == .reissue)).weirStopCheck n.val).fcWritten n.val))) ∧
      (∀ n : Fin 96, exec (.weirCommit n) s = .next (settle s
        (if (s.setFld (WEIR_CTL.COMMIT n.val) 1).fcSends n.val then s.setFld (WEIR_CTL.COMMIT n.val) 1
         else (s.setFld (WEIR_CTL.COMMIT n.val) 1).weirPoint n.val))) ∧
      exec .spdClr s = .next (settle s ({ s with speed := { s.speed with clrReq := true } }.setFld WEIRG_CTL.SPD_CLR 1)) ∧
      (∀ rated req : BitVec 16, rated.toNat = s.fld WEIRG_SPDREQ.RATED → req ≠ 0 → s.bit WEIRG_STAT.SPD_ACTIVE = false →
        exec (.spdreqWrite rated req) s =
          .next (settle s ((s.setFld WEIRG_SPDREQ.REQ req.toNat).speedRaise req.toNat 2))) ∧
      (∀ rated req : BitVec 16, rated.toNat = s.fld WEIRG_SPDREQ.RATED → req ≠ 0 → s.bit WEIRG_STAT.SPD_ACTIVE = true →
        exec (.spdreqWrite rated req) s = .next (settle s
          ((s.setFld WEIRG_SPDREQ.REQ req.toNat).speedRaise (min (s.fld WEIRG_SPDREC.REC_RPM) req.toNat) 2))) ∧
      (s.weirgPoint.weirs = [] → exec .slackEvaluation s = .next (settle s s.weirgPoint)) ∧
      (∀ (n : Nat) (w : WeirSt) (x : Int), s.weirgPoint.weirs = [(n, w)] → s.weirgPoint.slackOf n = some x →
        let hyst : Int := s.weirgPoint.fld WEIRG_SPEED.HYST * 24000
        let u := (s.weirgPoint.setWeir n { w with neg := w.neg || decide (x < 0), unclear := w.unclear || decide (x < hyst), worst := min w.worst x }).setSFld
          (WEIR_SLACK.SLACK n) (slackUnits x)
        exec .slackEvaluation s =
          .next (settle s (((u.setSFld WEIRG_SLACKMIN.SLACK (slackUnits x)).setFld WEIRG_SLACKMIN.CH n).setFld WEIRG_STAT.WORST_CH n)))) ∧
  (∀ rated rpm : Nat, 1 ≤ speedCode rated rpm ∧ speedCode rated rpm ≤ 15 ∧
      (0 < rated → speedCode rated rpm < 15 → rated * (16 - speedCode rated rpm) ≤ rpm * 16) ∧
      (0 < rated → 1 < speedCode rated rpm → rpm * 16 < rated * (17 - speedCode rated rpm)))

/-- The window on the ADT and DPT (R87, R114): READ fills the buffer with the words of the selected entry, WRITE puts the buffer's words
that the mask selects into it, and each access of ADT_DATA advances the word index; a scrub step goes through both tables and poisons
an entry that cannot be corrected. -/
def Obligations.ActuatorTables : Prop :=
  ∀ (s : State), s.powered = true →
    (s.bit ADT_CTL.EN = true → s.bit ADT_STAT.BUSY = false →
      let i := s.fld ADT_SEL.INDEX
      (s.bit ADT_SEL.TBL = false → ∃ u, exec .adtOpRead s = .next (settle s u) ∧ u.adt.adt = s.adt.adt ∧
        (∀ j < 8, Tab.get (fun _ => 0) u.adt.buf j = BitVec.ofNat 32 ((s.adtE i).toNat / 2 ^ (32 * j)))) ∧
      (s.bit ADT_SEL.TBL = false → s.fld ADT_MASK.MASK % 256 = 255 → ∃ u e, exec .adtOpWrite s = .next (settle s u) ∧
        u.adt.adt = Tab.set (fun _ => 0) s.adt.adt i e ∧
        ∀ j < 8, (e : BitVec 256).toNat / 2 ^ (32 * j) % 2 ^ 32 = (Tab.get (fun _ => 0) s.adt.buf j).toNat) ∧
      (s.bit ADT_SEL.TBL = true → ∃ u, exec .adtOpRead s = .next (settle s u) ∧ u.adt.dpt = s.adt.dpt ∧
        (∀ j < 16, Tab.get (fun _ => 0) u.adt.buf j = BitVec.ofNat 32 ((s.dptE i).toNat / 2 ^ (32 * j)))) ∧
      (s.bit ADT_SEL.TBL = true → s.fld ADT_MASK.MASK % 65536 = 65535 → ∃ u e, exec .adtOpWrite s = .next (settle s u) ∧
        u.adt.dpt = Tab.set (fun _ => 0) s.adt.dpt i e ∧
        ∀ j < 16, (e : BitVec 512).toNat / 2 ^ (32 * j) % 2 ^ 32 = (Tab.get (fun _ => 0) s.adt.buf j).toNat) ∧
      (s.bit ADT_SEL.TBL = false → s.fld ADT_MASK.MASK % 256 = 0 → ∃ u, exec .adtOpWrite s = .next (settle s u) ∧
        u.adt.adt = Tab.set (fun _ => 0) s.adt.adt i (s.adtE i))) ∧
    (s.bit ADT_CTL.EN = false → exec .adtOpRead s = .next (settle s (s.setFld ADT_STAT.CFG_REJECT 1)) ∧
      exec .adtOpWrite s = .next (settle s (s.setFld ADT_STAT.CFG_REJECT 1))) ∧
    (∀ v : Word32, s.bit ADT_SEL.TBL = false → s.fld ADT_WIDX.WIDX < 8 →
      exec (.adtDataAccess (some v)) s = .next (settle s
        ({ s with adt := { s.adt with buf := Tab.set (fun _ => 0) s.adt.buf (s.fld ADT_WIDX.WIDX) v } }.setFld ADT_WIDX.WIDX
          ((s.fld ADT_WIDX.WIDX + 1) % 8))) ∧
      exec (.adtDataAccess none) s = .next (settle s
        ((s.emit (.read ADT_DATA.addr (Tab.get (fun _ => 0) s.adt.buf (s.fld ADT_WIDX.WIDX)))).setFld ADT_WIDX.WIDX
          ((s.fld ADT_WIDX.WIDX + 1) % 8)))) ∧
    (∀ e, s.bit ADT_CTL.SCRUB_EN = true → s.fld ADT_SCRUB.POS < 4095 → s.adt.scrubDpt = false → s.adt.adtPoison = [] →
      ∃ u, exec (.adtScrubStep e) s = .next (settle s u) ∧
        (e = .none → u = s.setFld ADT_SCRUB.POS (s.fld ADT_SCRUB.POS + 1)) ∧
        (e = .ue → u.adtBad (s.fld ADT_SCRUB.POS) = true) ∧ (e = .ce → u.adt = s.adt))

/-! ### Field channels (chapter 5) -/

/-- Enable, disable and link-up (R116, R131, R137, Table 05-6): an enabled channel starts an attempt in LINKUP, symbol lock takes it to
HELLO, an attempt that lasts 1 ms fails and the next starts 100 µs later, and a disabled channel is DISABLED 1 µs after it stopped.
What an attempt's failure leads to (R131, R135): in an episode the third failure takes the channel DOWN; one before it, or one in LINKUP, is
followed by the next 100 µs later. -/
def Obligations.ChannelLinkUpAndFailure : Prop :=
  (∀ (s : State) (n : Fin 96), s.powered = true →
      (s.bit (FC_CTL.EN n.val) = false → s.fcState n.val = 6 → exec (.fcEnable n) s = .next (settle s (s.fcWritten n.val))) ∧
      (s.bit (FC_CTL.EN n.val) = false → s.fcState n.val ≠ 6 →
        let a := s.setChan n.val { ChanSt.init with
          xidNext := (s.chan n.val).xidNext, xidCount := (s.chan n.val).xidCount, lastTx := s.dt, lastRx := s.dt,
          lastReject := (s.chan n.val).lastReject }
        let u := if s.bit (FC_CTL.LAT_AUTO n.val) then a else a.setFld (FC_LAT.LAT_FINE n.val) 0
        exec (.fcEnable n) s = .next (settle s (((((((u.setFld (FC_CTL.EN n.val) 1).setFld (FC_STAT.RTR_TRY n.val) 0).setFld
          (FC_STAT.TCLASS n.val) 0).setFc n.val 1)).startAttempt n.val false).fcWritten n.val))) ∧
      ((s.bit (FC_CTL.EN n.val) = true ∨ s.fcState n.val = 6) → s.bit (WEIR_CTL.EN n.val) = true → s.fcState n.val ≠ 7 →
        exec (.fcDisable n) s = .next (settle s ((s.setFld (FC_STAT.CFG_REJECT n.val) 1).fcWritten n.val))) ∧
      ((s.bit (FC_CTL.EN n.val) = true ∨ s.fcState n.val = 6) → s.bit (WEIR_CTL.EN n.val) = false → s.fcState n.val ≠ 7 →
        exec (.fcDisable n) s = .next (settle s
          ((((s.setChan n.val { (s.chan n.val).clearLink with stopAt := some s.dt }).setFc n.val 7).fcPoint n.val).fcWritten n.val))) ∧
      (∀ t, (s.chan n.val).stopAt = some t → s.fcState n.val = 7 → elapsed s.dt t (usTicks 1) = true →
        let u := ((s.setChan n.val { s.chan n.val with stopAt := none }).setFld (FC_CTL.EN n.val) 0).setFc n.val 0
        exec (.fcStopComplete n) s = .next (settle s
          (if (upTo 8).any (fun i => u.bit (FC_CTL.EN (n.val / 8 * 8 + i))) then u else u.setGroup (n.val / 8) false))) ∧
      (s.groupLocked n.val = true → (s.chan n.val).attempt.isSome = true → (s.chan n.val).inHello = false → s.fcState n.val = 1 →
        exec (.symbolLock n) s =
          .next (settle s ((s.setChan n.val { s.chan n.val with inHello := true, lastHello := none }).setFc n.val 2))) ∧
      (s.groupLocked n.val = true → (s.chan n.val).attempt.isSome = true → (s.chan n.val).inHello = false → s.fcState n.val = 4 →
        exec (.symbolLock n) s = .next (settle s (s.setChan n.val { s.chan n.val with inHello := true, lastHello := none }))) ∧
      (s.fcState n.val = 3 → exec (.symbolLockLoss n) s = .next (settle s (s.startEpisode n.val false))) ∧
      (∀ t, (s.chan n.val).attempt = some t → s.fcState n.val ≠ 5 → elapsed s.dt t (usTicks 1000) = true →
        exec (.linkupAttemptTimeout n) s = .next (settle s (s.attemptFails n.val))) ∧
      (∀ t, (s.chan n.val).retryAt = some t → (s.fcState n.val = 1 ∨ s.fcState n.val = 4) → dtGe s.dt t = true →
        (s.chan n.val).relock = false → exec (.retrainAttempt n) s = .next (settle s (s.startAttempt n.val false))) ∧
      (∀ t, (s.chan n.val).quarAt = some t → s.fcState n.val = 5 → elapsed s.dt t (usTicks 1000) = true →
        exec (.quarantineTimeout n) s = .next (settle s (s.startEpisode n.val true))) ∧
      ((s.chan n.val).inHello = true → (s.chan n.val).helloOk = false → (s.chan n.val).lastHello = none → (s.chan n.val).txOpen = false →
        exec (.helloTimer n) s = .next (settle s ((s.setChan n.val { s.chan n.val with lastHello := some s.dt }).sendFrame n.val 1
          ((s.setChan n.val { s.chan n.val with lastHello := some s.dt }).helloPayload n.val)))) ∧
      (∀ g : Fin 12, (upTo 8).any (fun i => s.bit (FC_CTL.EN (8 * g.val + i))) = true →
        exec (.groupPllLock g) s = .next (settle s ((upTo 8).foldl (fun s i =>
          if (s.chan (8 * g.val + i)).relock then s.setChan (8 * g.val + i) { s.chan (8 * g.val + i) with relock := false } else s)
          (s.setGroup g.val true)))) ∧
      (∀ g : Fin 12, Tab.get (fun _ => false) s.gplls g.val = true →
        exec (.groupPllLoss g) s = .next (settle s ((upTo 8).foldl (fun s i => s.pllHit (8 * g.val + i)) (s.setGroup g.val false)))) ∧
      (s.bit (FC_CTL.EN n.val) = true → (s.fcState n.val = 3 ∨ s.fcState n.val = 5) →
        s.pllHit n.val = (s.linkFault n.val (Flt.FC_PLL n.val)).startEpisode n.val false)) ∧
  (∀ (s : State) (n : Nat), s.fcState n ≠ 5 →
      ((s.chan n).inEpisode = true → 2 ≤ s.fld (FC_STAT.RTR_TRY n) →
        let u := s.setFld (FC_STAT.RTR_TRY n) 3
        s.attemptFails n = (u.setChan n { u.chan n with attempt := none, inHello := false, retryAt := none }).raise (Flt.FC_DOWN n)) ∧
      ((s.chan n).inEpisode = true → s.fld (FC_STAT.RTR_TRY n) < 2 →
        let u := s.setFld (FC_STAT.RTR_TRY n) (s.fld (FC_STAT.RTR_TRY n) + 1)
        s.attemptFails n = u.setChan n { u.chan n with
          attempt := none, inHello := false, helloOk := false, syncOpen := [], retryAt := some (u.dt + 300000) }) ∧
      ((s.chan n).inEpisode = false → s.attemptFails n = (s.setFc n 1).setChan n { (s.setFc n 1).chan n with
        attempt := none, inHello := false, helloOk := false, syncOpen := [], retryAt := some ((s.setFc n 1).dt + 300000) }))

/-- A frame that arrives whole and valid while the channel is UP (R119 to R127, R519): it renews the partner's life sign and releases what it
acknowledges; a NAK starts a resend after what it acknowledges; a sequenced frame in order is taken and acknowledged, one ahead of its
turn asks for a resend, one already taken is acknowledged again.
A partner's HELLO, damage and violations (R121, R124, R131, R133, R150): an acceptable HELLO of the first link-up is kept with its class;
a damaged frame counts as LINKERR and asks for a resend; a frame that breaks a rule counts as the violation its first broken rule names. -/
def Obligations.FramesAndHelloReceived : Prop :=
  (∀ (s : State) (n : Fin 96) (f : Frame), s.powered = true → s.fcState n.val = 3 → frameGood f = true → s.frameFault n.val f false = 0 →
      let a := s.setChan n.val { s.chan n.val with lastRx := s.dt, silences := 0 }
      let u := if f.ackv then a.takeAck n.val f.ackSeq else a
      let d := (f.seq - (u.chan n.val).rxNext).toNat
      let taken := u.setChan n.val { u.chan n.val with rxNext := (u.chan n.val).rxNext + 1, rxAny := true, ackDue := true }
      let inOrder (content : State) : State :=
        if d = 0 then content else if d ≤ 31 then u.setChan n.val { u.chan n.val with nakDue := true }
        else u.setChan n.val { u.chan n.val with ackDue := true }
      (f.type = 0 → exec (.fcRxIdle n f) s = .next (settle s u)) ∧
      (f.type = 3 → exec (.fcRxAck n f) s = .next (settle s u)) ∧
      (f.type = 4 → exec (.fcRxNak n f) s = .next (settle s (u.startResend n.val (f.ackSeq + 1)))) ∧
      (f.type = 5 → syncPayloadOk f.payload = true → ∀ fine, exec (.fcRxSync n f fine) s = .next (settle s (u.syncResp n.val f.payload fine))) ∧
      (f.type = 6 → exec (.fcRxAngle n f) s =
        .next (settle s (u.withRevolution (fun s => s.eachRecord n.val f (fun s b => s.angleRecord n.val b))))) ∧
      (f.type = 7 → exec (.fcRxVerify n f) s =
        .next (settle s (inOrder (taken.eachRecord n.val f (fun s b => s.verifyRecord n.val b))))) ∧
      (f.type = 8 → exec (.fcRxSense n f) s = .next (settle s (inOrder (taken.eachRecord n.val f (fun s b =>
        if senseOk b then (true, s.postSense n.val { since := s.dt, bytes := senseMsg 1 n.val b (b.drop 8) (leBytes 8 s.dt.toNat) })
        else (false, s)))))) ∧
      (f.type = 9 → leAt f.payload 0 1 < 32 → leAt f.payload 1 1 = 0 →
        let v := if leAt f.payload 0 1 / 2 % 16 ≠ 0 then taken.raise (Flt.FC_PARTNER n.val) else taken
        exec (.fcRxStatus n f) s = .next (settle s (inOrder (v.postSense n.val
          { since := v.dt, bytes := senseMsg 2 n.val f.payload (f.payload.drop 8) (f.payload.drop 16) }))))) ∧
  (∀ (s : State) (n : Fin 96) (f : Frame), s.powered = true →
      (f.type = 1 → s.fcState n.val = 2 → frameGood f = true → (s.chan n.val).inHello = true → (s.chan n.val).helloOk = false →
        s.helloRefusal n.val f = 0 → (s.chan n.val).firstUp = false →
        let p := partnerOf f.payload
        let u := (s.setChan n.val { s.chan n.val with
          partner := some p, accepted := some (p.vendor, p.product, p.serial), helloOk := true, lastSync := none, syncGood := 0,
          delays := [], prevAck := BitVec.ofNat 16 (leAt f.payload 4 2), prevValid := leAt f.payload 6 1 % 2 == 1 }).setFld
            (FC_STAT.TCLASS n.val) p.tclass
        exec (.fcRxHello n f) s = .next (settle s u)) ∧
      (s.fcState n.val = 3 → exec (.fcRxBadFrame n .crc) s =
        .next (settle s ((s.raise (Flt.FC_LINKERR n.val)).setChan n.val
          { (s.raise (Flt.FC_LINKERR n.val)).chan n.val with nakDue := true })) ∧
        exec (.fcRxBadFrame n .abort) s = .next (settle s (s.raise (Flt.FC_LINKERR n.val)))) ∧
      (∀ k, s.fcState n.val = 6 → exec (.fcRxBadFrame n k) s = .next (settle s s)) ∧
      (∀ overrun : Bool, s.fcState n.val = 3 → (overrun = true ∨ frameGood f = true) → s.frameFault n.val f overrun ≠ 0 →
        exec (.fcRxViolation n f overrun) s = .next (settle s (s.violation n.val (s.frameFault n.val f overrun) (some f) 0xFFFF))) ∧
      exec (.fcViolClr n) s = .next (settle s (((upTo 8).foldl (fun s k => s.setFld (violFld n.val (k + 1)) 0) s).fcWritten n.val)))

/-- The transmitter's priorities (R124, R125, R129, R148, R152): the frame in progress is ended first; then SAFE, REJECT, SYNC, the resend,
frames of the previous epoch, NAK, ACK and the keep-alive, in that order. New DATA is the weir's own command.
A go-back-N resend (R125, R128): the oldest unacknowledged frame and all after it are queued; a frame already resent seven times starts a
retrain. A frame of a resend that is in progress starts none: that the resend lasts until its last frame has gone is the model's choice,
assumption 118. -/
def Obligations.TransmitOrderAndResend : Prop :=
  (∀ (s : State) (n : Fin 96) (fine : Fin 8), s.powered = true →
      let c := s.chan n.val
      let tx (u : State) : Prop := exec (.fcTxFrame n fine) s = .next (settle s u)
      (c.txOpen = true → tx ((s.setChan n.val { c with txOpen := false }).fcPoint n.val)) ∧
      (∀ k, c.txOpen = false → s.safeDue n.val = some k → tx (s.sendSafe n.val k)) ∧
      (c.txOpen = false → s.safeDue n.val = none → (s.fcSends n.val = false ∨ s.fcState n.val = 6) → tx s) ∧
      (c.txOpen = false → s.safeDue n.val = none → s.fcSends n.val = true → s.fcState n.val ≠ 6 →
        (∀ r rest, c.rejects = r :: rest → tx ((s.setChan n.val { c with rejects := rest }).sendFrame n.val 10 r.bytes)) ∧
        (c.rejects = [] → s.syncDue n.val = true → tx (s.sendSync n.val fine)) ∧
        (c.rejects = [] → s.syncDue n.val = false → s.fcState n.val ≠ 3 → tx (s.keepAlive n.val)) ∧
        (c.rejects = [] → s.syncDue n.val = false → s.fcState n.val = 3 →
          (∀ q rest, c.resend = q :: rest → tx (s.sendResend n.val q rest fine)) ∧
          (c.resend = [] → ∀ e rest, c.carry = e :: rest → c.unacked.length < 32 → tx (s.sendCarry n.val e rest fine)) ∧
          (c.resend = [] → c.carry = [] →
            (s.nakWaits n.val = true → tx ((s.setChan n.val { c with nakDue := false, lastNak := some s.dt }).sendFrame n.val 4 [])) ∧
            (s.nakWaits n.val = false → c.ackDue = true → tx (s.sendFrame n.val 3 [])) ∧
            (s.nakWaits n.val = false → c.ackDue = false → tx (s.keepAlive n.val)))))) ∧
  (∀ (s : State) (n : Nat),
      (∀ (e : TxFrame) (rest : List TxFrame), (s.chan n).unacked = e :: rest → (s.chan n).resend = [] →
        (7 ≤ e.resends → s.startResend n e.seq = s.startEpisode n false) ∧
        (e.resends < 7 → (∀ x ∈ rest, (x.seq - e.seq).toNat < 32) →
          s.startResend n e.seq = s.setChan n { s.chan n with resendAt := e.seq, resend := (e :: rest).map (·.seq) })) ∧
      (∀ q : BitVec 16, (s.chan n).resend ≠ [] → (q - (s.chan n).resendAt).toNat < 32 → s.startResend n q = s))

/-- The timers of a channel (R125, R129, R130, R138, R147, R148): resend, keep-alive, silence, SYNC, sense messages and SAFE frames. A frame of
a timer waits for the frame in progress and for those of higher priority. -/
def Obligations.ChannelTimers : Prop :=
  ∀ (s : State) (n : Fin 96), s.powered = true →
    let c := s.chan n.val
    (∀ e rest, c.unacked = e :: rest → s.fcState n.val = 3 → elapsed s.dt e.sentAt (usTicks (s.fld (FC_CTL.RESEND_TMO n.val))) = true →
      exec (.resendTimeout n) s = .next (settle s (s.startResend n.val e.seq))) ∧
    (s.fcSends n.val = true → s.fcState n.val ≠ 6 → s.fcState n.val ≠ 7 → elapsed s.dt c.lastTx (usTicks 4) = true →
      c.txOpen = false → s.urgentWaits n.val = false →
      (s.fcState n.val = 3 → c.resend = [] ∧ c.carry = [] ∧ s.nakWaits n.val = false ∧ c.ackDue = false) →
      exec (.idleKeepalive n) s = .next (settle s (s.sendFrame n.val 0 []))) ∧
    (s.fcState n.val = 3 → elapsed s.dt c.lastRx (usTicks 40 * (c.silences + 1)) = true →
      exec (.silence n) s =
        .next (settle s ((s.setChan n.val { c with silences := c.silences + 1 }).violation n.val 6 none 0xFFFF))) ∧
    (∀ fine : Fin 8, s.syncDue n.val = true → c.txOpen = false → s.safeDue n.val = none → c.rejects = [] → ∃ body : List Byte,
      body.length = 48 ∧ leAt body 4 4 = (c.syncSeq + 1).toNat ∧ leAt body 8 8 = s.dt.toNat ∧ leAt body 32 2 = fine.val ∧
      exec (.syncPeriod n fine) s = .next (settle s ((s.setChan n.val { c with
        syncSeq := c.syncSeq + 1, syncOpen := c.syncOpen ++ [(c.syncSeq + 1, plc s.dt fine.val)], lastSync := some s.dt,
        ofsCorr := none }).sendFrame n.val 5 body))) ∧
    (s.fcState n.val = 3 → s.bit TIME_STAT.FINE_LOCK = true → (∀ t, c.lastSync = some t → elapsed s.dt t (s.syncPer n.val) = true) →
      s.syncDue n.val = true) ∧
    (∀ q t1 rest, c.syncOpen = (q, t1) :: rest → 480000 ≤ plcDiff (plc s.dt 0) t1 →
      exec (.syncRespMissed n) s = .next (settle s ((s.setChan n.val { c with syncOpen := rest }).syncBad n.val))) ∧
    (∀ m, c.senseQ = [m] →
      exec (.sensePostRetry n) s = .next (settle s ((s.setChan n.val { c with senseQ := [] }).postSense n.val m))) ∧
    (∀ k, s.safeDue n.val = some k → c.txOpen = false → exec (.safeFrameTimer n) s = .next (settle s (s.sendSafe n.val k))) ∧
    (∀ k, s.safeCauseOf n.val = some k → (∀ t, c.lastSafe = some t → elapsed s.dt t (usTicks 2) = true) → s.groupLocked n.val = true →
      s.fcState n.val ≠ 0 → s.fcState n.val ≠ 7 → s.safeDue n.val = some k)

/-! ### Time and machine angle (chapter 3) -/

/-- Device time (R57, R60 to R62, Table 02-4): TIME_CTL.LOAD with an enable takes DT from DT_SET, a disable is refused while something uses
DT, DT_SLEW is refused outside FREE and waits for the commit point, a calibration window sets AON_CAL or raises its range fault, and the
losses and gains of lock.
Firefly (R58, R76 to R82, Tables 03-7 and 03-8): a worker sends its REQ in its slot with T1 and the asymmetry of TP0, the manager answers
with T2 and T3, a depth-1 worker adds its residence and passes the frame on, each as a SYNC frame of 48 payload bytes; a payload of another
KIND is a violation; the answer to the open exchange goes to the servo with its offset, times being taken modulo 2^64, and one to no open
exchange is skipped; the eighth missed exchange of a locked device begins HOLDOVER, and a HOLDOVER that lasts too long becomes LOST with
its fault. -/
def Obligations.TimeBaseAndFirefly : Prop :=
  (∀ (s : State), s.powered = true →
      (s.bit TIME_CTL.EN = false → s.bit TIME_CTL.LOAD = true → s.bit TIME_CTL.AON_CAL_EN = false → ∃ u,
        exec (.timeCtlEn true true false) s = .next (settle s u) ∧ u.bit TIME_CTL.EN = true ∧
          u.time.dt = s.pair DT_SET_LO.V DT_SET_HI.V ∧ u.time.fine = 0) ∧
      (s.bit TIME_CTL.EN = true → s.bit TIME_CTL.LOAD = false → s.bit TIME_CTL.AON_CAL_EN = false → s.timeUsers = true →
        exec (.timeCtlEn false false false) s = .next (settle s ((s.setBit TIME_CTL.AON_CAL_EN false).setFld TIME_STAT.CFG_REJECT 1))) ∧
      (s.bit TIME_CTL.EN = true → s.bit TIME_CTL.LOAD = false → s.bit TIME_CTL.AON_CAL_EN = false → s.timeUsers = false →
        ∃ u, exec (.timeCtlEn false false false) s = .next (settle s u) ∧ u.bit TIME_CTL.EN = false ∧ u.time = s.time) ∧
      (∀ v : Word32, v.toNat ≠ s.fld DT_SLEW.V →
        (s.fld FF_STAT.STATE ≠ 0 → exec (.dtSlew v) s = .next (settle s (s.setFld TIME_STAT.CFG_REJECT 1))) ∧
        (s.fld FF_STAT.STATE = 0 → exec (.dtSlew v) s = .next (settle s (s.stage DT_SLEW.V (some v.toNat))))) ∧
      exec .timeCommitPoint s = .next (settle s (if s.dt.toNat % 1024 = 0 then s.applyStaged inTime else s)) ∧
      (∀ count : Nat, s.bit TIME_CTL.AON_CAL_EN = true → s.time.tbclk = true →
        (93703125 ≤ count → count ≤ 93796875 → exec (.aonCalWindow count) s =
          .next (settle s (((s.setFld AON_CAL.TICKS count).setFld AON_CAL.VALID 1).setFld TIME_STAT.AON_CAL_VALID 1))) ∧
        (count < 93703125 ∨ 93796875 < count → exec (.aonCalWindow count) s = .next (settle s (s.raise Flt.TIME_AON_CAL_RANGE)))) ∧
      (s.bit TIME_STAT.FINE_LOCK = true → exec .fineUnlock s =
        .next (settle s (((s.setBit TIME_STAT.FINE_LOCK false).setBit FINE_CAL.LOCK false).raise Flt.TIME_FINE_UNLOCK))) ∧
      (s.time.tbclk = true → exec .fineRelock s =
        .next (settle s ((s.setBit TIME_STAT.FINE_LOCK true).setBit FINE_CAL.LOCK true)) ∧
        exec .tbclkLoss s = .next (settle s (s.pllLost 0))) ∧
      exec .capArm s = .next (settle s (s.setFld CAP_CTL.ARM 1)) ∧
      (∀ (k : Nat) (t : Word) (fine : Nat), s.bit CAP_CTL.ARM = true → s.fld CAP_CTL.SRC = k → k ≠ 0 →
        s.captureEvent k t fine =
          ((((s.setPair CAP_LO.V CAP_HI.V t).setFld CAP_CTL.FINE fine).setFld CAP_CTL.DONE 1).setFld CAP_CTL.ARM 0))) ∧
  (∀ (s : State), s.powered = true →
      (∀ fine : Fin 8, s.isWorker = true → s.bit FF_CTL.FF_EN = true → s.timeRuns = true → s.time.ffOpen = none →
        s.dt.toNat % 3000000 = s.fld DEV_POS.DEVICE * 45000 → ∃ p : FfPayload,
        exec (.ffReqSend fine) s = .next (settle s (State.putSync { s with time := { s.time with
          ffOpen := some (s.dt, fine, s.time.ffSeq), ffSeq := s.time.ffSeq + 1 } } 0 0 (s.fld DEV_POS.DEVICE) p)) ∧
        p.kind = 1 ∧ p.exchSeq = s.time.ffSeq ∧ p.t1 = s.dt ∧ p.fine1.toNat = fine.val ∧ p.corrUp = 0 ∧ p.corrDn = 0 ∧
        p.origin.toNat = s.fld DEV_POS.DEVICE % 256 ∧ p.asym = s.sfld (FF_ASYM.MEAS 0) + s.sfld (FF_ASYM.BOARD 0) / 2) ∧
      (∀ (port : Fin 8) (p : FfPayload) (fi fo : Fin 8) (turn : Nat), s.isWorker = false → p.kind = 1 → ∃ r : FfPayload,
        exec (.ffRxReq port p fi turn fo) s = .next (settle s (s.putSync port.val p.origin.toNat 0 r)) ∧
        r.kind = 2 ∧ r.exchSeq = p.exchSeq ∧ r.t1 = p.t1 ∧ r.t2 = s.dt ∧ r.t3 = s.dt + BitVec.ofNat 64 turn ∧ r.corrUp = p.corrUp ∧
        r.asym = p.asym - (s.sfld (FF_ASYM.MEAS port.val) + s.sfld (FF_ASYM.BOARD port.val) / 2)) ∧
      (∀ (port : Fin 8) (p : FfPayload) (fi fo : Fin 8) (turn : Nat), p.kind ≠ 1 → p.kind ≠ 2 →
        exec (.ffRxReq port p fi turn fo) s = .next (settle s (s.tierViolation port.val))) ∧
      (∀ (m : Fin 8) (p : FfPayload) (res : Int), s.isWorker = true → s.fld DEV_POS.DEPTH = 1 → (p.kind = 1 ∨ p.kind = 2) →
        (m ≠ 0 → exec (.ffRelay m p res) s = .next (settle s (s.putSync 0 0 p.origin.toNat { p with
          corrUp := p.corrUp + res, asym := p.asym + s.asymTerm 0 - s.asymTerm m.val }))) ∧
        (∀ t, m = 0 → s.routePort p.origin.toNat = some t →
          exec (.ffRelay m p res) s = .next (settle s (s.putSync t p.origin.toNat 0 { p with corrDn := p.corrDn + res })))) ∧
      (∀ (t dst src : Nat) (p : FfPayload), (ffBytes p).length = 48 ∧
        (s.tierState t = 3 → s.putSync t dst src p =
          s.putTier t (s.mkTier t 5 0 (BitVec.ofNat 16 (dst % 64 + 64 * (src % 64))) false (ffBytes p))) ∧
        (s.tierState t ≠ 3 → s.putSync t dst src p = s)) ∧
      (∀ (p : FfPayload) (fine : Fin 8), s.time.ffOpen = none → (p.kind = 1 ∨ p.kind = 2) → exec (.ffRxResp p fine) s = .next (settle s s)) ∧
      (∀ (p : FfPayload) (t1 : Word) (f1 fine : Fin 8), s.time.ffOpen = some (t1, f1, p.exchSeq) → s.isWorker = true → p.kind = 2 →
        s.time.ffRtts = [] →
        let up := 8 * plcDiff (plc p.t2 p.fine2.toNat) (plc p.t1 p.fine1.toNat) - p.corrUp
        let down := 8 * plcDiff (plc s.dt fine.val) (plc p.t3 p.fine3.toNat) - p.corrDn
        let rtt := 8 * (plcDiff (plc s.dt fine.val) (plc p.t1 p.fine1.toNat) - plcDiff (plc p.t3 p.fine3.toNat) (plc p.t2 p.fine2.toNat)) -
          p.corrUp - p.corrDn
        exec (.ffRxResp p fine) s = .next (settle s
          ((State.setFld { s with time := { s.time with ffOpen := none, ffRtts := [rtt] } } FF_ERR.RTT_MIN (min 0xFFFF (rtt / 64).toNat)).ffServo
            ((down - up - p.asym) / 2)))) ∧
      (s.fld FF_STAT.STATE = 2 → s.time.ffMissed = 7 → s.ffMiss.fld FF_STAT.STATE = 3 ∧ s.ffMiss.time.holdAt = s.dt) ∧
      (s.fld FF_STAT.STATE = 3 → elapsed s.dt s.time.holdAt (3000000 * 2 ^ s.fld FF_CTL.HOLD_MAX) = true →
        exec .holdoverTimeout s = .next (settle s ((s.setFld FF_STAT.STATE 4).raise Flt.TIME_FF_LOST))))

/-- Angle ports and trackers (R65 to R74, Tables 03-3 and 03-4): enable and disable, the commit of a tracker that is not running, edges, index
pulses and SSI frames, the update by prediction, standstill after 100 ms and the loss of an ANGLE source. -/
def Obligations.AngleAndTrackers : Prop :=
  ∀ (s : State), s.powered = true →
    (∀ n : Fin 16,
      (s.bit (AX_CTL.EN n.val) = false →
        let count : Int := if s.bit (AX_CTL.SRCT n.val) then 0 else s.signedCount n.val (s.sfld (AP_CNT.V (s.fld (AX_CTL.SRCI n.val) % 8)))
        exec (.trackerEnable n true) s =
        .next (settle s (s.feedAll (fun s => ((s.setFld (AX_CTL.EN n.val) 1).setFld (AX_STAT.STATE n.val) 1).setAxis n.val
          { AxisSt.init with lastCount := count, lastChange := s.dt, lastReport := s.dt })))) ∧
      (s.bit (AX_CTL.EN n.val) = true → exec (.trackerEnable n false) s =
        .next (settle s (s.feedAll (fun s => ((s.setFld (AX_CTL.EN n.val) 0).setFld (AX_STAT.STATE n.val) 0).setAxis n.val AxisSt.init)))) ∧
      (s.bit (AX_CTL.EN n.val) = true → s.fld (AX_CPR.CPR n.val) ≠ 0 → exec (.axCommit n) s =
        .next (settle s (s.feedAll (fun s => s.setFld (AX_CTL.COMMIT n.val) 1)))) ∧
      (s.bit (AX_CTL.EN n.val) = false → exec (.axCommit n) s =
        .next (settle s (s.feedAll (fun s => (s.setFld (AX_CTL.COMMIT n.val) 1).axisPoint n.val)))) ∧
      (s.dt.toNat % 3000 = 0 → s.bit (AX_CTL.EN n.val) = true → s.fld (AX_STAT.STATE n.val) = 2 → exec (.trackerUpdate n) s =
        .next (settle s (s.withRevolution (fun s => (s.trackerTick n.val).trackerFeeds n.val)))) ∧
      (s.fld (AX_STAT.STATE n.val) = 2 → elapsed s.dt (s.axis n.val).lastChange 300000000 = true →
        s.standstill n.val = ((s.setFld (AX_STAT.STATE n.val) 3).setAxis n.val { s.axis n.val with
          maHeld := s.maNow n.val (plc s.dt 0), acc := 0, winCount := 0 }).update n.val (s.maNow n.val (plc s.dt 0))) ∧
      exec (.standstillTimeout n) s = .next (settle s (s.feedAll (fun s => s.standstill n.val))) ∧
      (s.angleFed n.val = true → elapsed s.dt (s.axis n.val).lastReport 300000 = true → (s.axis n.val).srcLostAt = none →
        exec (.srclostTimeout n) s = .next (settle s (s.feedAll (fun s =>
          if s.angleFed n.val && elapsed s.dt (s.axis n.val).lastReport 300000 then s.srcLost n.val else s))) ∧
        s.srcLost n.val = (s.setAxis n.val { s.axis n.val with srcLostAt := some s.dt }).raise (Flt.AX_SRCLOST n.val)) ∧
      (∀ t, (s.axis n.val).srcLostAt = some t → s.angleFed n.val = true → elapsed s.dt t 3000000 = true →
        exec (.srclostLost n) s = .next (settle s (s.feedAll (fun s => s.srcLostEnd n.val))) ∧
        s.srcLostEnd n.val = (s.raise (Flt.AX_LOST n.val)).axisLost n.val)) ∧
    (∀ (m : Fin 8) (fine : Fin 8),
      (∀ up : Bool, (s.aport m.val).lastEdge = none → s.quadPort m.val = true → ∃ (b : BitVec 3) (u : State),
        u = (((s.fresh).2.setAport m.val { s.aport m.val with pins := b }).setSFld (AP_CNT.V m.val)
          (s.sfld (AP_CNT.V m.val) + (if up then 1 else -1))).setAport m.val
            { s.aport m.val with pins := b, lastEdge := some ((s.stamp m.val fine).tick, Fin.ofNat 8 (s.stamp m.val fine).fine) } ∧
        ((∀ n < 16, s.consumes n m.val = false) → s.quadEdge m.val (if up then .up else .down) fine = u)) ∧
      (∀ k, exec (.apQuadEdge m k fine) s = .next (settle s (s.feedAll (fun s => s.quadEdge m.val k fine)))) ∧
      exec (.apIndex m fine) s = .next (settle s (s.feedAll (fun s => s.portIndex m.val fine))) ∧
      (s.bit (AP_CTL.EN m.val) = true → s.fld (AP_CTL.MODE m.val) = 0 → (∀ n < 16, s.consumes n m.val = false) → s.bit CAP_CTL.ARM = false →
        s.portIndex m.val fine = s.setPair (AP_ZCAP_LO.V m.val) (AP_ZCAP_HI.V m.val) (s.stamp m.val fine).tick) ∧
      (s.bit (AP_CTL.EN m.val) = true → 2 ≤ s.fld (AP_CTL.MODE m.val) →
        ((∀ high, exec (.ssiPoll m high fine) s = .next (settle s (s.feedAll (fun s => s.ssiPollOp m.val high fine)))) ∧
          s.ssiPollOp m.val true fine = s.setAport m.val { s.aport m.val with pins := 2, deferred := false, frameAt := some (s.dt, fine) }) ∧
        ((s.aport m.val).deferred = true → s.ssiPollOp m.val false fine =
          (s.setAport m.val { s.aport m.val with pins := 0, deferred := false }).raise (Flt.AP_SSIERR m.val)) ∧
        ((s.aport m.val).deferred = false → s.ssiPollOp m.val false fine =
          s.setAport m.val { s.aport m.val with pins := 0, deferred := true })) ∧
      (∀ raw : BitVec 31, exec (.ssiFrameDone m raw) s = .next (settle s (s.feedAll (fun s => s.ssiDone m.val raw.toNat))) ∧
        ((s.aport m.val).frameAt = none → s.ssiDone m.val raw.toNat = s) ∧
        (∀ (d : Word) (f : Fin 8), (s.aport m.val).frameAt = some (d, f) → s.bit (AP_CTL.EN m.val) = true → s.fld (AP_CTL.MODE m.val) = 2 →
          (∀ n < 16, s.consumes n m.val = false) → s.bit CAP_CTL.ARM = false →
          s.ssiDone m.val raw.toNat = ((s.setAport m.val { s.aport m.val with frameAt := none }).setPair (AP_ZCAP_LO.V m.val) (AP_ZCAP_HI.V m.val) d).setFld
            (AP_CNT.V m.val) (raw.toNat % 2 ^ s.fld (AP_CTL.SSI_BITS m.val) % 2 ^ s.fld (AP_CTL.SSI_ST m.val)))))

/-! ### Registers (chapter 2) -/

/-- One field of a register write, by access class (R9, R38 to R42, R45): RO and WO fields keep their value, RW takes the value
unless its table calls it undefined, W1C and W1S clear and set the bits written 1, RWS is refused while the block is enabled, and RWL
is staged; a refusal sets CFG_REJECT and changes nothing else.
Commit groups (R39, R44, R45, R49): with COMMIT at its commit point the members are applied together when the check passes, and
are all discarded with CFG_MISMATCH when it does not; COMMIT reads 0 after it. -/
def Obligations.FieldAccessAndCommit : Prop :=
  (∀ (s : State) (a v : Nat) (d : FieldDef), d.lo ≤ d.hi →
      let f : Fld := ⟨a, d.hi, d.lo⟩
      let c := v / 2 ^ d.lo % 2 ^ (d.hi + 1 - d.lo)
      let w := writeField s a v plain s d
      (d.acc = .ro ∨ d.acc = .wo → w = s) ∧
      (d.acc = .rw ∨ d.acc = .rwi → d.undefinedVal c = false → w = s.setFld f c ∧ w.fld f = c) ∧
      (d.acc = .rw ∨ d.acc = .rwi → d.undefinedVal c = true → w = s.reject a d.lo) ∧
      (d.acc = .w1c → w = s.setFld f (s.fld f - (s.fld f &&& c))) ∧
      (d.acc = .w1s → w = s.setFld f (s.fld f ||| c)) ∧
      (d.acc = .rws → c = s.fld f → w = s) ∧
      (d.acc = .rws → c ≠ s.fld f → s.bit (enableOf a) = true → w = s.reject a d.lo) ∧
      (d.acc = .rws → c ≠ s.fld f → s.bit (enableOf a) = false → d.undefinedVal c = false → w = s.setFld f c ∧ w.fld f = c) ∧
      (d.acc = .rwl → c ≠ s.fld f → d.grp = false → d.undefinedVal c = false → w = s.stage f (some c) ∧ w.fld f = s.fld f) ∧
      (d.acc = .rwl → c ≠ s.fld f → d.grp = true → s.bit (commitOf a) = true → w = s.reject a d.lo)) ∧
  (∀ (s : State) (imm c : Fld) (members : List Fld) (check : State → Bool), c ∉ members →
      let u := s.setFld c 0
      let applied := members.foldl (fun s f => s.apply f) u
      (s.bit c = true → members.any (fun f => (s.stagedVal f).isSome) = true →
        (check applied = true → s.commitGroup imm c members check = (applied, true)) ∧
        (check applied = false →
          s.commitGroup imm c members check = ((members.foldl (fun s f => s.stage f none) u).mismatch c.addr c.lo, false))) ∧
      (s.bit c = false → s.bit imm = false → s.commitGroup imm c members check = (s, false)) ∧
      (∀ (f : Fld) (v : Nat), (s.stage f (some v)).apply f = ((s.stage f (some v)).stage f none).setFld f v))

/-- Accesses (R32, R34, R35, R36, R50, R453, Table 02-9): a write narrower than 32 bits is refused by its block, one that is not aligned or
meets no register is ignored; a pair's low half latches the high half when read and is kept for it when written, and both halves are committed
by the write of the high half; the BAR paths of a manager and of a worker (R22); and the faults and acknowledgements of service
firmware. -/
def Obligations.RegisterAccesses : Prop :=
  ∀ (s : State) (a : BitVec 24), s.powered = true →
    (∀ (who : Requester) (size : Fin 3) (v : Word32), a.toNat % 2 ^ size.val ≠ 0 → exec (.regWrite who a size v) s = .next (settle s s)) ∧
    (∀ (size : Fin 3) (v : Word32), size.val < 2 → a.toNat % 2 ^ size.val = 0 → isRegister (a.toNat / 4 * 4) = true →
      exec (.regWrite .svc a size v) s = .next (settle s (s.reject (a.toNat / 4 * 4) 31))) ∧
    (∀ v : Word32, a.toNat % 4 = 0 →
      (isRegister a.toNat = false → exec (.regWrite .svc a 2 v) s = .next (settle s s)) ∧
      (isRegister a.toNat = true → isPairLo a.toNat = false → isPairHi a.toNat = false →
        exec (.regWrite .svc a 2 v) s = .next (settle s (s.writeReg .svc a.toNat v.toNat)))) ∧
    (∀ v : Word32, a.toNat % 4 = 0 → isRegister a.toNat = true → s.isWorker = false → inBar0 a.toNat = false →
      exec (.regWrite .bar0 a 2 v) s = .next (settle s s.napEnd)) ∧
    (∀ v : Word32, a.toNat % 4 = 0 → isRegister a.toNat = true → s.isWorker = false → s.fld HOST_STAT.BAR2 = 0 →
      exec (.regWrite .bar2 a 2 v) s = .next (settle s (s.bar2Off a.toNat 1))) ∧
    (∀ v : Word32, a.toNat % 4 = 0 → isRegister a.toNat = true → isPairLo a.toNat = false → isPairHi a.toNat = false →
      s.isWorker = false → s.fld HOST_STAT.BAR2 = 2 →
      exec (.regWrite .bar2 a 2 v) s = .next (settle s ((s.napEnd.noteBar2 .bar2 a.toNat).writeReg .bar2 a.toNat v.toNat))) ∧
    (∀ v : Word32, s.isWorker = true → exec (.regWrite .bar2 a 2 v) s = .next (settle s s)) ∧
    (∀ w : StrId, a.toNat % 4 = 0 → isPairLo a.toNat = true →
      exec (.pairLoRead (.strider w) a) s = .next (settle s
        ((s.setLatch (.strider w) (s.peek (a.toNat + 4), (s.latch (.strider w)).2)).emit (.read a.toNat (s.peek a.toNat))))) ∧
    (∀ (w : StrId) (v : Word32), a.toNat % 4 = 0 → isRegister a.toNat = true → isPairLo a.toNat = true →
      exec (.pairLoWrite (.strider w) a v) s = .next (settle s (s.setLatch (.strider w) ((s.latch (.strider w)).1, some v)))) ∧
    (∀ (w : StrId) (l v : Word32), a.toNat % 4 = 0 → isRegister a.toNat = true → isPairLo a.toNat = false → isPairHi a.toNat = true →
      (s.latch (.strider w)).2 = some l →
      exec (.pairHiWrite (.strider w) a v) s = .next (settle s
        (((s.setLatch (.strider w) ((s.latch (.strider w)).1, none)).writeHalf (.strider w) (a.toNat - 4) l.toNat).writeReg (.strider w)
          a.toNat v.toNat))) ∧
    (isRegister a.toNat = true → exec (.regTmo a) s = .next (settle s (s.raise Flt.DEV_REG_TMO))) ∧
    (∀ v : Word32, exec (.devCfgmodeWrite v) s = .next (settle s ((s.writeCfgmode v.toNat).ackWritten s DEV_CFGMODE.addr))) ∧
    (∀ (blk inst : Byte) (bits : Word32) (k : Nat), ackAddr blk.toNat inst.toNat = some k → k % 4 = 0 → isRegister k = true → isPairLo k = false →
      isPairHi k = false → exec (.faultAck blk inst bits) s = .next (settle s (s.writeReg .svc k bits.toNat))) ∧
    (∀ who : Requester, (s.regRead who a.toNat).1 ≠ 0 → a.toNat % 4 = 0)

/-- The state after reset (R22, R23, R494, R495): reset values, nothing waits, no strider runs and the memories list nothing; each
register field reads the value its table gives. -/
def Obligations.ResetState : Prop :=
  State.reset.flds = [] ∧ (∀ f : Fld, State.reset.fld f = fieldReset f.key) ∧ State.reset.staged = [] ∧ State.reset.pending = [] ∧
  State.reset.striders = [] ∧ (∀ w : StrId, State.reset.str w = StrSt.init ∧ (State.reset.str w).run ≠ .running) ∧
  State.reset.time.dt = 0 ∧ State.reset.pwr.phase = .starting ∧ State.reset.fld PWR_STAT.READY = 0 ∧ State.reset.fld BOOT_STAGE.STAGE = 1 ∧
  (∀ n < 96, State.reset.fcState n = 0 ∧ State.reset.fld (WEIR_STAT.STATE n) = 0) ∧ (∀ t < 8, State.reset.tierState t = 0) ∧
  (∀ i : Fin 68, State.reset.pmBytes i.val 0 8 = zeros 8)

/-! ### The compression engine and the pond DMA engines (chapters 6 and 10) -/

/-- Jobs, requests and the table group of the CMP (R44, R170 to R174, R178, R182, Tables 06-9, 06-11 and 06-16): a job that passes its
checks runs on the lane chosen with the registers and the tile image of its start (R40), one refused ends with its reason, and its block is
written and its result reported; a descriptor is queued, answered at once
or, at a full port, waits at most 2 µs.
The statuses of Table 06-9 and the request descriptor's range (R173): a reason below 0x10 is OK; nothing is delivered beyond the tile. -/
def Obligations.CompressionEngineAndResults : Prop :=
  (∀ (s : State), s.powered = true →
      let start (op : Nat) (t : State) : Prop :=
        (op = 1 → exec .cmpJobCompress s = .next (settle s t)) ∧ (op = 2 → exec .cmpJobDecompress s = .next (settle s t)) ∧
        (op = 3 → exec .cmpJobVerify s = .next (settle s t))
      (∀ op : Nat, op = 1 ∨ op = 2 ∨ op = 3 →
        (s.bit CMP_JOB_RES.BUSY = true → start op (s.setFld CMP_STAT.CFG_REJECT 1)) ∧
        (∀ (k : Fin 4) (e : Nat), s.bit CMP_JOB_RES.BUSY = false → s.bit CMP_CTL.EN = true → s.cmp.stopping = false →
          let u := s.setFld CMP_JOB_RES.DONE 0
          u.pickLane none = some k → u.jobRefusal op 0 = e →
          (e = 0 → op ≠ 1 ∨ u.maskStale = true → start op { u.setFld CMP_JOB_RES.BUSY 1 with
            cmp := { u.cmp with job := some { op := op, lane := k, cfg := u.jobRegs, image := none, use := 0 } } }) ∧
          (∀ (img : Option (List Byte × Bool × List Byte)) (v : State), e = 0 → op = 1 → u.maskStale = false → u.readImage = (img, v) →
            start op { v.setFld CMP_JOB_RES.BUSY 1 with
              cmp := { v.cmp with job := some { op := op, lane := k, cfg := u.jobRegs, image := img, use := 0 } } }) ∧
          (e ≠ 0 → start op (u.jobEnd e 0)))) ∧
      (∀ (r n : Nat), r < 256 → (s.jobEnd r n).cmp.job = none) ∧
      (∀ (mism : Fin 3) (dyn : List Nat), s.cmp.job = none → exec (.cmpJobDone mism dyn) s = .next (settle s s)) ∧
      (∀ (mism : Fin 3) (dyn : List Nat) (j : CmpJob) (tile pre : List Byte), s.cmp.job = some j → j.op = 1 → s.maskStale = false →
        (j.image = some (tile, true, pre) → exec (.cmpJobDone mism dyn) s = .next (settle s (s.jobEnd 0x11 0))) ∧
        (∀ (h : BlkHdr) (body : List Byte) (reason : Nat) (u v : State), j.image = some (tile, false, pre) →
          s.codeJob j.lane.val mism.val dyn tile pre = (some (h, body, reason), u) →
          u.writeBlock u.jobNow.dst u.jobNow.page h body = (true, v) →
          exec (.cmpJobDone mism dyn) s = .next (settle s (v.blockDone h reason)))) ∧
      (∀ (mism : Fin 3) (dyn : List Nat) (j : CmpJob) (r : Nat) (b : BlkRead) (u : State), s.cmp.job = some j → j.op = 3 → s.maskStale = false →
        s.checkBlock j.lane.val mism.val = (some (r, b), u) → exec (.cmpJobDone mism dyn) s = .next (settle s (u.jobEnd r 0))) ∧
      (∀ (mism : Fin 3) (dyn : List Nat) (j : CmpJob) (b : BlkRead) (u v : State), s.cmp.job = some j → j.op = 2 → s.maskStale = false →
        s.checkBlock j.lane.val mism.val = (some (0, b), u) → u.masterPut u.jobNow.dst b.tile 0 4 = (true, v) →
        exec (.cmpJobDone mism dyn) s = .next (settle s (v.jobEnd 0 0))) ∧
      exec .cmpTblCommit s = .next (settle s ((s.setFld CMP_TBL.COMMIT 1).cmpPoint)) ∧
      (s.cmp.job.isSome = true → s.cmpPoint = s) ∧
      (∀ (w : StrId) (v : Word) (u t : State), s.executes w = true → s.drainStores w = (true, u) →
        (u.cmpSubmit w v = (true, t) → exec (.cmpRequestSubmit w v) s = .next (settle s t)) ∧
        (u.cmpSubmit w v = (false, t) → exec (.cmpRequestSubmit w v) s = .next (settle s
          (t.setStr w { t.str w with cmpBuf := Tab.set (fun _ => 0) (t.str w).cmpBuf 3 v, run := .waiting (.cmpFull t.dt) })))) ∧
      (∀ (w : StrId) (since : Word), (s.str w).run = .waiting (.cmpFull since) → elapsed s.dt since (usTicks 2) = true →
        exec (.cmpPortFullTimeout w) s = .next (settle s ((s.cmpFull w (Tab.get (fun _ => 0) (s.str w).cmpBuf 3)).resume w))) ∧
      (∀ (k : Fin 4) (n : Fin 3) (r : CmpReq) (u : State), s.laneBusy k.val = some r → s.maskStale = false → s.cmpRun k.val r n.val = some u →
        exec (.cmpRequestComplete k n) s = .next (settle s ((u.setLane k.val none).cmpNext))) ∧
      (s.bit CMP_CTL.EN = false → exec (.cmpCtlEn true) s = .next (settle s (s.cmpEnable true).cmpPoint)) ∧
      (s.bit CMP_CTL.EN = true → s.cmp.fifo ≠ [] →
        exec (.cmpCtlEn false) s = .next (settle s ({ s with cmp := { s.cmp with stopping := true } }.cmpPoint)))) ∧
  ((∀ r : Nat, (cmpStatus r = 0 ↔ r < 0x10) ∧ (r = 0x10 ∨ r = 0x11 → cmpStatus r = 0x50) ∧ (0x12 ≤ r → r ≤ 0x14 → cmpStatus r = 0x42) ∧
      (r = 0x20 ∨ r = 0x21 → cmpStatus r = 0x21) ∧ (r = 0x22 → cmpStatus r = 0x30) ∧ (r = 0x23 → cmpStatus r = 0x11)) ∧
    (∀ (d : CmpDesc) (lb n pitch len : Nat), delivered? d lb = some (n, pitch, len) → 
      d.line0 + n ≤ tileH lb ∧ d.line0 < tileH lb ∧ len = (n - 1) * pitch + lb ∧ (d.nlines ≠ 0 → n = d.nlines)) ∧
    (∀ (dt : Word) (retried : Bool) (lane reason : Nat), lane < 4 → reason < 256 →
      let b := doneWord dt retried lane reason
      b.length = 8 ∧ leAt b 0 2 = cmpStatus reason ∧ leAt b 2 1 = reason ∧ leAt b 3 1 = 0x80 + lane + (if retried then 4 else 0) ∧
      leAt b 4 4 = dt.toNat % 2 ^ 32))

/-! ### Ponds and their L2s (chapter 10) -/

/-- L2 maintenance, the enables, the pond memory regions, march and repair (R277, R281 to R286, R294, R298 to R305, R404): each command on
a pond that is not fenced (a march uses the BANKS, PRESERVE and REPAIR of its start, R40); a fenced pond refuses its register writes, and an operation begun while another runs is refused.
The pond DMA engines (R296, R297): a descriptor is held while the engine has fewer than 16, waits otherwise and is refused with BUSY after
2 µs; the oldest request leaves the engine when it has run,
the memory error its reads meet being noted first (R292, R359). -/
def Obligations.PondCommandsAndDma : Prop :=
  (∀ (s : State) (p : Fin 68), s.powered = true →
      (s.fld (POND_STAT.ROLE p.val) = 2 →
        let refused := Host.Outcome.next (φ := Fault) (ρ := Refusal) (settle s (s.setFld (POND_STAT.CFG_REJECT p.val) 1))
        (∀ h, exec (.l2Clean p h) s = refused ∧ exec (.l2Invalidate p h) s = refused ∧ exec (.l2CleanInvalidate p h) s = refused) ∧
        exec (.l2CleanAll p) s = refused ∧ exec (.l2InvalidateAll p) s = refused ∧ exec (.l2CleanInvalidateAll p) s = refused ∧
        (∀ en, exec (.l2CtlEn p en) s = refused ∧ exec (.pondCtlEn p en) s = refused ∧ exec (.pmCtlEn p en) s = refused) ∧
        (∀ m d c, exec (.pmRegionCommit p m d c) s = refused) ∧ exec (.pmConflictClr p) s = refused ∧ exec (.marchStart p) s = refused) ∧
      (s.fld (POND_STAT.ROLE p.val) ≠ 2 →
        let walk (h : BitVec 3) (op : Nat) : State :=
          let v := s.setFld (L2_MAINT.AHI p.val) h.toNat
          let line := h.toNat * 2 ^ 32 + v.fld (L2_MAINT_ADDR.ADDR p.val)
          let all := if op ≤ 3 then [line] else (v.pond p.val).l2.map (·.1)
          let u := (v.setFld (L2_MAINT.BUSY p.val) 1).maintApply p.val op line
          u.setPond p.val { u.pond p.val with maint := some (op, BitVec.ofNat 35 line,
            all.filter (fun l => (all.filter (fun k => (v.l2 p.val k).st.transient)).contains l || u.maintOpen p.val op l)) }
        (s.bit (L2_MAINT.BUSY p.val) = false → (s.setFld (L2_MAINT.AHI p.val) 0).bit (L2_MAINT.BUSY p.val) = false →
          (∀ h : BitVec 3, (s.setFld (L2_MAINT.AHI p.val) h.toNat).bit (L2_MAINT.BUSY p.val) = false →
            exec (.l2Clean p h) s = .next (settle s (walk h 1)) ∧ exec (.l2Invalidate p h) s = .next (settle s (walk h 2)) ∧
            exec (.l2CleanInvalidate p h) s = .next (settle s (walk h 3))) ∧
          exec (.l2CleanAll p) s = .next (settle s (walk 0 4)) ∧ exec (.l2InvalidateAll p) s = .next (settle s (walk 0 5)) ∧
          exec (.l2CleanInvalidateAll p) s = .next (settle s (walk 0 6))) ∧
        (s.bit (L2_MAINT.BUSY p.val) = true → ∀ h, exec (.l2Clean p h) s = .next (settle s (s.setFld (POND_STAT.CFG_REJECT p.val) 1)) ∧
          exec (.l2CleanAll p) s = .next (settle s (s.setFld (POND_STAT.CFG_REJECT p.val) 1))) ∧
        (s.bit (L2_CTL.EN p.val) = true → exec (.l2CtlEn p false) s =
          .next (settle s ((s.setPond p.val { s.pond p.val with l2Stop := true }).l2StopPoint p))) ∧
        (s.bit (L2_CTL.EN p.val) = false → (s.pond p.val).l2 = [] → 8 ≤ ((upTo 16).filter (s.wayOn p.val)).length →
          ∃ u, exec (.l2CtlEn p true) s = .next (settle s u) ∧ u.bit (L2_CTL.EN p.val) = true ∧ (u.pond p.val).l2Stop = false) ∧
        (s.bit (POND_CTL.EN p.val) = false → exec (.pondCtlEn p true) s = .next (settle s
          ((s.setFld (POND_CTL.EN p.val) 1).setPond p.val { s.pond p.val with stopping := false }))) ∧
        (s.bit (PM_CTL.EN p.val) = false → exec (.pmCtlEn p true) s = .next (settle s (if s.bit (MARCH_STAT.BUSY p.val) then
          s.setFld (POND_STAT.CFG_REJECT p.val) 1 else
          (s.setFld (PM_CTL.EN p.val) 1).setPond p.val { s.pond p.val with pmStop := false }))) ∧
        (s.bit (POND_CTL.EN p.val) = true → exec (.pondCtlEn p false) s = .next (settle s
          (if s.pondBusy p then s.setPond p.val { s.pond p.val with stopping := true } else s.setFld (POND_CTL.EN p.val) 0))) ∧
        (s.bit (PM_CTL.EN p.val) = true → s.bit (POND_CTL.EN p.val) = true →
          exec (.pmCtlEn p false) s = .next (settle s (s.setFld (POND_STAT.CFG_REJECT p.val) 1))) ∧
        (s.bit (PM_CTL.EN p.val) = true → s.bit (POND_CTL.EN p.val) = false → exec (.pmCtlEn p false) s =
          .next (settle s ((s.setPond p.val { s.pond p.val with pmStop := true }).pmStopPoint p.val))) ∧
        (∀ (m : BitVec 5) (d : BitVec 3), m.toNat = s.fld (PM_REGION_SEL.MASTER p.val) → d.toNat = s.fld (PM_REGION_SEL.DESC p.val) → m.toNat < 20 →
          exec (.pmRegionCommit p m d true) s = .next (settle s ((s.setFld (PM_REGION_SEL.COMMIT p.val) 1).descPoint p.val))) ∧
        exec (.pmConflictClr p) s = .next (settle s (s.setPond p.val { s.pond p.val with
          conflict := Tab.set (fun _ => 0) (s.pond p.val).conflict (s.fld (PM_CONFLICT_SEL.MASTER p.val)) 0 })) ∧
        (s.bit (PM_CTL.EN p.val) = true → exec (.marchStart p) s = .next (settle s (s.setFld (POND_STAT.CFG_REJECT p.val) 1))) ∧
        (s.bit (PM_CTL.EN p.val) = false → s.bit (MARCH_STAT.BUSY p.val) = false → exec (.marchStart p) s = .next (settle s
          ((((s.setFld (MARCH_STAT.BUSY p.val) 1).setFld (MARCH_STAT.UNREP p.val) 0).setFld (MARCH_STAT.FAILBANK p.val) 0).setPond p.val
            { s.pond p.val with
              failRow := [], march := some (s.fld (MARCH_CTL.BANKS p.val), s.bit (MARCH_CTL.PRESERVE p.val), s.bit (MARCH_CTL.REPAIR p.val)) })))) ∧
      ((s.pond p.val).maint = none → ∀ ue, exec (.l2MaintDone p ue) s = .next (settle s s)) ∧
      (∀ (op : Nat) (line : LineNo), (s.pond p.val).maint = some (op, line, []) →
        let u := ((s.setFld (L2_MAINT.BUSY p.val) 0).setFld (L2_MAINT.DONE p.val) 1).setBit (L2_MAINT.ERR p.val) false
        exec (.l2MaintDone p false) s = .next (settle s ((u.setPond p.val { s.pond p.val with maint := none }).l2StopPoint p))) ∧
      exec (.l2Stopped p) s = .next (settle s (if (s.pond p.val).l2Stop && s.l2Quiet p then
        (s.setFld (L2_CTL.EN p.val) 0).setPond p.val { s.pond p.val with l2Stop := false, l1d := L1.init, l1i := L1.init } else s)) ∧
      (elapsed s.dt (s.pond p.val).ceStart (2 ^ 30) = true → exec (.l2CeWindow p) s =
        .next (settle s (s.setPond p.val { s.pond p.val with wayCe := [], ceStart := s.dt }))) ∧
      ((s.pond p.val).wayBusy = [] → exec (.wayDisableDone p) s = .next (settle s s)) ∧
      (∀ (w : Nat) (rest : List Nat), (s.pond p.val).wayBusy = w :: rest → (s.pond p.val).maint = none → (s.pond p.val).l2 = [] →
        exec (.wayDisableDone p) s = .next (settle s ((((s.setPond p.val { s.pond p.val with wayBusy := rest }).setFld (L2_WAYOFF.AUTO p.val)
          (s.fld (L2_WAYOFF.AUTO p.val) ||| 2 ^ w)).pondRaise Flt.POND_WAY_OFF p.val 0 20 7 0).wayMin p.val))) ∧
      exec (.pondRearm p) s = .next (settle s (s.rearm 0x8 p.val)) ∧
      ((s.pond p.val).march = none → ∀ bad ue, exec (.marchDone p bad ue) s = .next (settle s s)) ∧
      (∀ (banks : Nat) (repair : Bool) (ue : List (Fin 16 × Fin 4096)), (s.pond p.val).march = some (banks, true, repair) →
        ∃ u, exec (.marchDone p [] ue) s = .next (settle s u) ∧ (u.pond p.val).march = none ∧
        u.bit (MARCH_STAT.BUSY p.val) = false ∧ u.bit (MARCH_STAT.DONE p.val) = true ∧ u.pm = s.pm)) ∧
  (∀ (s : State), s.powered = true →
      (∀ (w : StrId) (e : Fin 2) (v : Word) (u : State), s.executes w = true → s.drainStores w = (true, u) →
        let x := u.pond w.pond.val
        let buf := (u.str w).dmaBuf
        let d := portDesc (buf.filterMap (fun k => if k.1 / 4 = e.val then some (k.1 % 4, k.2) else none)) v
        ((x.dma e.val).length < 16 → exec (.dmaRequestSubmit w e v) s = .next (settle s
          ((u.setPond w.pond.val (x.setDma e.val (x.dma e.val ++ [{ who := w, desc := d }]))).setStr w
            { u.str w with dmaBuf := buf.filter (fun k => k.1 / 4 != e.val) }))) ∧
        (16 ≤ (x.dma e.val).length → exec (.dmaRequestSubmit w e v) s = .next (settle s
          (u.setStr w { u.str w with dmaBuf := Tab.set (fun _ => 0) buf (4 * e.val + 3) v, run := .waiting (.dmaFull e.val u.dt) })))) ∧
      (∀ (w : StrId) (e : Nat) (since : Word), (s.str w).run = .waiting (.dmaFull e since) → elapsed s.dt since (usTicks 2) = true →
        exec (.dmaFullTimeout w) s =
          .next (settle s ((s.dmaBusy w e (Tab.get (fun _ => 0) (s.str w).dmaBuf (4 * e + 3))).resume w))) ∧
      (∀ (p : Fin 68) (e : Fin 2) (err : MemErr) (r : DmaReq) (rest : List DmaReq) (u : State),
        ((s.dmaError p e err).pond p.val).dma e.val = r :: rest →
        (s.dmaError p e err).dmaRun p e.val r = some u → exec (.dmaRequestComplete p e err) s = .next (settle s
          ((u.setPond p.val ((u.pond p.val).setDma e.val (((u.pond p.val).dma e.val).drop 1))).pmStopPoint p.val))) ∧
      (∀ (dt : Word) (bad : Bool) (st : Nat), st < 65536 →
        let b := dmaWord dt bad st
        b.length = 8 ∧ leAt b 0 2 = st ∧ leAt b 2 2 = 0x8000 + (if bad then 1 else 0) ∧ leAt b 4 4 = dt.toNat % 2 ^ 32))

/-- Pond memory (R288, R291, R292): a byte written is read back, every other byte keeps its value, and the memory keeps its canonical
form. -/
def Obligations.PondMemoryReadsWhatWasWritten : Prop :=
  ∀ (s : State) (p : Fin 68) (off : Nat) (b : List Byte), off + b.length ≤ pmSize →
    (s.pmWrite p off b).pmBytes p.val off b.length = b ∧
    (∀ (q : Fin 68) (a : Nat), a < pmSize → (q ≠ p ∨ a < off ∨ off + b.length ≤ a) →
      (s.pmWrite p off b).pmBytes q.val a 1 = s.pmBytes q.val a 1) ∧
    (Memory.wf s.pm = true → Memory.wf (s.pmWrite p off b).pm = true)

/-! ### Basins and coherence (chapter 11) -/

/-- What a stop and the home send (R324, R325, R330, R332, R335, R336, Tables 11-6 and 11-8): an L2 that works takes a way and sends GETS or GETM
for a line it does not hold, upgrades a line in S, writes back a line in M and gives up a clean one; uncached requests reach the home;
snoops gather the stops' answers in the order of the ring, and a combined response completes the transaction; the hops sent again are
counted, and a message of which one hop failed 16 times in a row is lost (R325, R339). -/
def Obligations.RingRequests : Prop :=
  ∀ (s : State) (b : Fin 4) (r : Fin 17) (line : LineNo), s.powered = true →
    let p := stopPond b.val r.val
    let l := s.l2 p line.toNat
    (s.l2Works b.val r line.toNat = true →
      (∀ (w : Nat) (u : State), l.st = .i → s.takeWay p line.toNat = (some w, u) →
        exec (.gets b r line 0) s = .next (settle s ((u.setL2 p line.toNat { st := .isd, way := w, data := zeros 64, poison := 0 }).homeRequest
          b.val line.toNat { who := some r, req := .gets, ticket := none })) ∧
        exec (.getm b r line 0) s = .next (settle s ((u.setL2 p line.toNat { st := .imd, way := w, data := zeros 64, poison := 0 }).homeRequest
          b.val line.toNat { who := some r, req := .getm, ticket := none }))) ∧
      (l.st = .s → exec (.upg b r line 0) s = .next (settle s ((s.setL2 p line.toNat { l with st := .smg }).homeRequest b.val line.toNat
        { who := some r, req := .upg, ticket := none }))) ∧
      (∀ keep : Bool, l.st = .m → s.wbLines p < 8 → exec (.putm b r line keep 0) s = .next (settle s
        ((s.setL2 p line.toNat { l with st := .mia keep }).homeRequest b.val line.toNat
          { who := some r, req := .putm l.data l.poison keep, ticket := none }))) ∧
      (l.st = .s ∨ l.st = .e → exec (.putc b r line 0) s =
        .next (settle s ((s.setL2 p line.toNat { l with st := .i }).removeHolder b.val line.toNat r)))) ∧
    (∀ (who : Option (Fin 17)), s.fencedBasin b.val = false → s.coherentIn b.val line.toNat = true → s.dramServes (64 * line.toNat) = true →
      exec (.ucrd b who line 0) s = .next (settle s (s.homeRequest b.val line.toNat { who := who, req := .ucrd, ticket := none })) ∧
      (∀ (x : List (Option Byte)) (y : BitVec 8), x.length = 64 → exec (.ucwr b who line x y 0) s =
        .next (settle s (s.homeRequest b.val line.toNat { who := who, req := .ucwr x y, ticket := none })))) ∧
    (∀ (n : Nat) (keep : Bool) (who : Option (Fin 17)) (x : List (Option Byte)) (y : BitVec 8) (set : BitVec 11), s.fencedBasin b.val = false → 16 ≤ n →
      let lost (stop msg a : Nat) := Host.Outcome.next (φ := Fault) (ρ := Refusal) (settle s
        ((((s.addSat (RING_STAT.RESENDS b.val) n).raiseAt (Flt.BASIN_RING_CE b.val) (64 * a) (ringInfo stop msg) 0).raiseAt
          (Flt.BASIN_RING_DOWN b.val) (64 * a) (ringInfo stop msg) 0)))
      exec (.gets b r line n) s = lost r.val 0 line.toNat ∧ exec (.getm b r line n) s = lost r.val 1 line.toNat ∧
      exec (.upg b r line n) s = lost r.val 2 line.toNat ∧ exec (.putm b r line keep n) s = lost r.val 3 line.toNat ∧
      exec (.putc b r line n) s = lost r.val 4 line.toNat ∧ exec (.ucrd b who line n) s = lost (ringStop who) 5 line.toNat ∧
      exec (.ucwr b who line x y n) s = lost (ringStop who) 6 line.toNat ∧ exec (.snps b r line n) s = lost r.val 7 line.toNat ∧
      exec (.snpi b r line n) s = lost r.val 8 line.toNat ∧ exec (.snpd b r line n) s = lost r.val 9 line.toNat ∧
      exec (.snpf b r set n) s = lost r.val 10 0 ∧ exec (.combinedResponse b line n) s = lost 17 31 line.toNat) ∧
    (∀ t : HomeTxn, s.fencedBasin b.val = false → (s.homeLine b.val line.toNat).txn = some t → t.busy ≠ .f →
      let passed := ((List.finRange 17).filter (fun q => decide (q ≤ r))).foldl (fun (u : State) q => u.addAnswer b.val line.toNat q) s
      (t.busy.snoop = .s → exec (.snps b r line 0) s = .next (settle s passed)) ∧
      (t.busy.snoop = .i → exec (.snpi b r line 0) s = .next (settle s passed)) ∧
      (t.busy.snoop = .d → exec (.snpd b r line 0) s = .next (settle s passed)) ∧
      exec (.combinedResponse b line 0) s = .next (settle s (s.completeTxn b.val line.toNat)) ∧
      (∀ n, 0 < n → n < 16 → exec (.combinedResponse b line n) s = .next (settle s
        (((s.addSat (RING_STAT.RESENDS b.val) n).raiseAt (Flt.BASIN_RING_CE b.val) (64 * line.toNat) (ringInfo 17 31) 0).combined
          b.val line.toNat)))) ∧
    (∀ set : BitVec 11, s.fencedBasin b.val = false → exec (.snpf b r set 0) s = .next (settle s
      (((List.finRange 17).filter (fun q => decide (q ≤ r))).foldl (fun (u : State) q => u.flushOne b.val q set.toNat) s))) ∧
    (∀ (set : BitVec 11) (t : HomeTxn), (s.homeLine b.val (flushKey set.toNat)).txn = some t → Tab.get (fun _ => none) t.answers r.val = none →
      (s.basin b.val).flights = [] → s.linesOfSet p set.toNat = [] → s.flushOne b.val r set.toNat = s.setHome b.val (flushKey set.toNat)
        { s.homeLine b.val (flushKey set.toNat) with
          txn := some { t with answers := Tab.set (fun _ => none) t.answers r.val (some .ackI) } }) ∧
    (∀ (n : Nacked), s.fencedBasin b.val = false → (s.basin b.val).nacked = [n] → n.msg.who = some r → n.line = line → (s.basin b.val).flights = [] →
      elapsed s.dt n.since (48 * 2 ^ min n.count 6) = true →
      exec (.nackResend b (some r) line 0) s = .next (settle s (s.homeRequest b.val line.toNat n.msg))) ∧
    (∀ set : BitVec 11, s.fencedBasin b.val = false → s.bit (SF_CTL.SCRUB_EN b.val) = true →
      exec (.sfScrubStep b set .none) s = .next (settle s s) ∧
      exec (.sfScrubStep b set .ce) s = .next (settle s (s.raiseAt (Flt.BASIN_SF_CE b.val) 0 (ringInfo 17 31) 0)) ∧
      exec (.sfScrubStep b set .ue) s = .next (settle s (s.filterLost b.val set.toNat))) ∧
    (∀ ids : List (BitVec 48), exec (.basinReplay b ids) s = .next (settle s (s.basinReplay b.val ids))) ∧
    (s.fencedBasin b.val = false →
      (s.bit (BASIN_CTL.EN b.val) = false → exec (.basinCtlEn b true) s = .next (settle s
        (((s.setFld (BASIN_CTL.EN b.val) 1).setFld (BASIN_STAT.STATE b.val) 0).setBasin b.val { s.basin b.val with stopping := false }))) ∧
      (s.bit (BASIN_CTL.EN b.val) = true → exec (.basinCtlEn b false) s = .next (settle s (if s.basinBusy b.val then
        (s.setFld (BASIN_STAT.STATE b.val) 1).setBasin b.val { s.basin b.val with stopping := true }
        else (s.setFld (BASIN_CTL.EN b.val) 0).setFld (BASIN_STAT.STATE b.val) 2)))) ∧
    (s.fencedBasin b.val = true → ∀ en, exec (.basinCtlEn b en) s = .next (settle s (s.setFld (BASIN_STAT.CFG_REJECT b.val) 1)))

/-- Answers that arrive (R325, Table 11-7): the oldest message in flight to a stop, if the command names its kind, leaves the ring and is
received: data fills the line in the state its kind gives, a grant makes it modified, and the answer to a writeback leaves it clean or
gone.
How an L2 answers a snoop (Table 11-6): a line given up to SNPI is gone from the L2, and data leaves only from a modified line or the
writeback buffer; the other lines of every L2 stay. -/
def Obligations.RingAndSnoopAnswers : Prop :=
  (∀ (s : State) (b : Fin 4) (r : Fin 17) (line : LineNo) (m : RingMsg) (seq : Nat) (rest : List Flight), s.powered = true → s.fencedBasin b.val = false →
      (s.basin b.val).flights = { dst := some r, line := line, msg := m, seq := seq } :: rest →
      let p := stopPond b.val r.val
      let l := s.l2 p line.toNat
      let u := s.setBasin b.val { s.basin b.val with flights := rest }
      let stand (st : L2St) : State := u.setL2 p line.toNat { l with st := st }
      let fill (st : L2St) (d : List Byte) (x : BitVec 8) : State := u.setL2 p line.toNat { l with st := st, data := d, poison := x }
      (∀ d x, m = .dataS d x → l.st = .isd → exec (.dataS b r line 0) s = .next (settle s (fill .s d x))) ∧
      (∀ d x, m = .dataE d x → l.st = .isd → exec (.dataE b r line 0) s = .next (settle s (fill .e d x))) ∧
      (∀ d x, m = .dataM d x → l.st = .imd ∨ l.st = .smg → exec (.dataM b r line 0) s = .next (settle s (fill .m d x))) ∧
      (m = .grant → l.st = .smg → exec (.grant b r line 0) s = .next (settle s (stand .m))) ∧
      (∀ keep k, m = .wback k → l.st = .mia keep → exec (.wback b r line 0) s = .next (settle s (stand (if k then .e else .i)))) ∧
      (∀ k, m = .wback k → l.st = .iia → exec (.wback b r line 0) s = .next (settle s (stand .i))) ∧
      (m = .wbackStale → l.st = .iia → exec (.wbackStale b r line 0) s = .next (settle s (stand .i))) ∧
      (m = .wbackStale → l.st = .s → exec (.wbackStale b r line 0) s = .next (settle s (u.protoError b.val line.toNat r.val 21))) ∧
      (∀ t, m = .nack t → l.st = .isd ∨ l.st = .imd ∨ l.st = .smg → exec (.nack b (some r) line 0) s = .next (settle s u)) ∧
      (∀ d x, m = .udata d x → exec (.udata b (some r) line 0) s = .next (settle s u)) ∧
      (m = .cmp → exec (.ucwrComplete b (some r) line 0) s = .next (settle s u)) ∧
      (m = .grant → exec (.dataS b r line 0) s = .next (settle s s))) ∧
  (∀ (s : State) (b : Fin 4) (r : Fin 17) (line : LineNo),
      let p := stopPond b.val r.val
      let l := s.l2 p line.toNat
      s.fld (POND_STAT.ROLE p) ≠ 2 → l.st = .s ∨ l.st = .e ∨ l.st = .m →
      (s.snoopL2 b.val r.val line.toNat .i).2.l2 p line.toNat = L2Line.none ∧
      (l.st ≠ .m → (s.snoopL2 b.val r.val line.toNat .i).1 = .ackI ∧ (s.snoopL2 b.val r.val line.toNat .s).1 = .ackS) ∧
      (l.st = .m → ∀ k, (s.snoopL2 b.val r.val line.toNat k).1 = .ackD l.data l.poison true false) ∧
      ((s.snoopL2 b.val r.val line.toNat .s).2.l2 p line.toNat).st = .s ∧
      (s.snoopL2 b.val r.val line.toNat .d).2 = s ∧
      (∀ (k : Snoop) (q : Nat) (a : Nat), (q ≠ p ∨ a ≠ line.toNat) → (s.snoopL2 b.val r.val line.toNat k).2.l2 q a = s.l2 q a))

/-! ### Memory channels (chapter 12) -/

/-- The commands of a channel (R350 to R352, R363, R367, R404, Table 12-10) and the region table (R353, R354, R360, R361). -/
def Obligations.MemoryChannels : Prop :=
  ∀ (s : State) (c : Fin 8), s.powered = true →
    (s.mcState c.val = 5 → 
      let refused := Host.Outcome.next (φ := Fault) (ρ := Refusal) (settle s (s.setFld (MC_STAT.CFG_REJECT c.val) 1))
      (∀ en, exec (.mcCtlEn c en) s = refused) ∧ exec (.mcTrainStart c) s = refused ∧ exec (.mcSpareCommit c) s = refused ∧
      (∀ i, exec (.mcRgnRead c i) s = refused ∧ exec (.mcRgnWrite c i) s = refused ∧ exec (.mcRgnInvalidate c i) s = refused ∧
        exec (.mcRgnRebind c i) s = refused)) ∧
    (s.mcState c.val = 2 →
      (s.bit (MC_CTL.EN c.val) = true → s.bit (MC_TRAIN.BUSY c.val) = true → exec (.mcCtlEn c false) s =
        .next (settle s (s.setMc c.val { s.mc c.val with stopping := true }))) ∧
      (s.bit (MC_CTL.EN c.val) = false → exec (.mcCtlEn c true) s = .next (settle s
        (((s.setMc c.val { s.mc c.val with stopping := false }).setFld (MC_CTL.EN c.val) 1).setFld (MC_STAT.STATE c.val) 2))) ∧
      (s.bit (MC_CTL.EN c.val) = true → s.bit (MC_TRAIN.BUSY c.val) = false → exec (.mcCtlEn c false) s = .next (settle s
        (((s.setFld (MC_CTL.EN c.val) 0).setFld (MC_STAT.STATE c.val) 6).setMc c.val { s.mc c.val with stopping := false }))) ∧
      (s.bit (MC_TRAIN.BUSY c.val) = false → exec (.mcTrainStart c) s =
        .next (settle s (((s.setFld (MC_TRAIN.BUSY c.val) 1).setFld (MC_STAT.STATE c.val) 3).setMc c.val
          { s.mc c.val with trainRank := s.fld (MC_TRAIN.RANK c.val) }))) ∧
      (s.bit (MC_TRAIN.BUSY c.val) = true → exec (.mcTrainStart c) s = .next (settle s (s.setFld (MC_STAT.CFG_REJECT c.val) 1))) ∧
      exec (.mcSpareCommit c) s = .next (settle s (s.setFld (MC_SPARE.COMMIT c.val) 1)) ∧
      (c.val ≤ 1 → ∀ low : Bool,
        let n := (s.mc c.val).nextRank
        n < 4 → Nat.testBit (s.fld (MC_RANK.PRESENT c.val)) n = true →
        let u := s.setMc c.val { s.mc c.val with nextRank := (n + 1) % 4 }
        exec (.mcPeriodicRetrain c low) s = .next (settle s (if low then
          u.raiseAt (Flt.MC_RETRAIN_FAIL c.val) 0 (11 * 2 ^ 20 + n * 2 ^ 15) 0 else u))) ∧
      (s.bit (MC_CTL.SCRUB_EN c.val) = true → s.storedAt c.val (64 * (s.mc c.val).scrubBlk) = none →
        64 * ((s.mc c.val).scrubBlk + 1) < s.capacity c.val → ∀ e, exec (.mcScrubStep c e false) s = .next (settle s
          ((s.setMc c.val { s.mc c.val with scrubBlk := (s.mc c.val).scrubBlk + 1 }).setFld (MC_SCRUB_POS.POS c.val)
            (64 * ((s.mc c.val).scrubBlk + 1) / 65536)))) ∧
      (∀ (i : BitVec 6), s.rgnBusy = false →
        let u := s.setFld (MC_RGN_SEL.INDEX c.val) i.toNat
        exec (.mcRgnRead c i) s = .next (settle s (u.setRgnWindow c.val (s.region i.toNat))) ∧
        exec (.mcRgnInvalidate c i) s = .next (settle s (u.setRegion i.toNat { s.region i.toNat with valid := false })) ∧
        ((s.region i.toNat).valid = true →
          exec (.mcRgnWrite c i) s = .next (settle s (u.setFld (MC_STAT.CFG_REJECT c.val) 1)) ∧
          exec (.mcRgnRebind c i) s = .next (settle s (u.setRegion i.toNat { s.region i.toNat with owner := (u.rgnWindow c.val).owner }))) ∧
        ((s.region i.toNat).valid = false → u.rgnRefusal (u.rgnWindow c.val) ≠ 0 → exec (.mcRgnWrite c i) s =
          .next (settle s (u.setFld (MC_RGN_SEL.ERR c.val) (u.rgnRefusal (u.rgnWindow c.val))))) ∧
        ((s.region i.toNat).valid = false → u.rgnRefusal (u.rgnWindow c.val) = 0 → exec (.mcRgnWrite c i) s =
          .next (settle s ((u.setFld (MC_RGN_SEL.ERR c.val) 0).startFill c.val i.toNat (u.rgnWindow c.val)))))) ∧
    (s.mcState c.val ≠ 2 → s.mcState c.val ≠ 3 → exec (.mcRefresh c) s = .next (settle s s)) ∧
    (∀ t : BitVec 8, let u := s.setFld (MC_TEMP.CUR_T c.val) t.toNat
      (s.mc c.val).drifted = false → u.fld (MC_TEMP.DRIFT_THR c.val) ≤ (u.sfld (MC_TEMP.CUR_T c.val) - u.sfld (MC_TEMP.TRAIN_T c.val)).natAbs →
      exec (.mcTempRead c t) s = .next (settle s ((u.setMc c.val { s.mc c.val with drifted := true }).raise (Flt.MC_DRIFT c.val)))) ∧
    (s.bit (MC_TRAIN.BUSY c.val) = false → ∀ eyes, exec (.mcRetrainDone c eyes) s = .next (settle s s)) ∧
    (∀ eyes : List (BitVec 8 × BitVec 8), s.bit (MC_TRAIN.BUSY c.val) = true → (s.mc c.val).stopping = false →
      (∀ e ∈ eyes.take 10, s.fld (MC_TRAIN.MIN_EYE c.val) ≤ e.1.toNat ∧ s.fld (MC_TRAIN.MIN_EYE c.val) ≤ e.2.toNat) →
      eyes.length = 10 → (s.mc c.val).trainRank < 4 → ∃ u, exec (.mcRetrainDone c eyes) s = .next (settle s u) ∧ u.bit (MC_TRAIN.BUSY c.val) = false ∧ u.bit (MC_TRAIN.FAIL c.val) = false ∧
        u.mcState c.val = 2) ∧
    ((s.mc c.val).mig = none ∨ Nat.testBit (s.fld PIN_STAT.LEVEL) 6 = false → ∀ e, exec (.migrationStep c e) s = .next (settle s s)) ∧
    (∀ src tgt next : Nat, (s.mc c.val).mig = some (src, tgt, next) → s.mcState c.val = 2 →
      Nat.testBit (s.fld PIN_STAT.LEVEL) 6 = true → (s.mc c.val).serials.length ≤ src → s.rankBytes c.val ≤ 64 * (next + 1) →
      s.storedAt c.val (((s.logicalRanks c.val).findIdx? (fun r => r == src)).getD 0 * s.rankBytes c.val + 64 * next) = none → ∃ u : State,
      exec (.migrationStep c .none) s = .next (settle s (u.raise (Flt.MC_MIGRATED c.val))) ∧ (u.mc c.val).mig = none ∧
      (u.mc c.val).moved = (s.mc c.val).moved ++ [(src, tgt)] ∧ u.bit (MC_MIG.DONE c.val) = true ∧ u.bit (MC_MIG.BUSY c.val) = false) ∧
    (s.dram.filling = none → exec .regionInitDone s = .next (settle s s)) ∧
    (∀ (i k : Nat), s.dram.filling = some (i, k) → ∃ u : State, exec .regionInitDone s = .next (settle s u) ∧ u.region i = { s.region i with valid := true } ∧
      u.rgnBusy = false ∧ (∀ a, (s.region i).first ≤ a → a < (s.region i).first + (s.region i).bytes → Tab.get (fun _ => 0) u.dram.bytes a = 0))

/-! ### Faults, the service complex and the safe state (chapter 13) -/

/-- Raising a fault (R372, R375, R378, R379): a bit already set whose class does not escalate changes no more than its capture; a first class D
fault of a unit that holds none puts its consequence on what the command still does; acknowledging clears the bit. -/
def Obligations.FaultBits : Prop :=
  ∀ (s : State) (b : FaultBit),
    (s.bit b.fld = true → (if b.row.counts then s.actsAs b.blk b.inst 3 b.row.cls else b.row.cls) = b.row.cls →
      s.raise b = (s.first b 0 0).setFld b.fld 1) ∧
    (s.bit b.fld = false → b.row.cls = .d → s.holds b.blk b.inst .d = false → ∃ l, (s.raise b).due = s.due ++ l ++ dueD b false ∧ (s.host.log = none → l = [])) ∧
    (s.bit b.fld = false → b.row.cls = .s → ∃ l, (s.raise b).due = s.due ++ l ++ [.safe (safeCause b) b.blk b.inst] ∧ (s.host.log = none → l = [])) ∧
    (s.bit b.fld = false → b.row.cls = .c → s.holds b.blk b.inst .c = false → (s.raise b).due = s.due ∧
      (s.raise b).svc.waiting.length = s.svc.waiting.length + 1) ∧
    (s.bit b.fld = false → s.ack b = s) ∧
    (s.bit b.fld = true → s.ack b = (s.setFld b.fld 0).acked b) ∧
    (∀ c : Cls, s.holds b.blk b.inst c = true → c ≠ .s → s.actsAs b.blk b.inst 1 c = c.up)

/-- The service complex (R373, R374, R379, R383, R396 to R399, R403, R509): the housekeeping tick counts and writes the waiting records,
firmware acknowledges what the automatic rules allow, the pins and the request enter the safe state, and a lockstep mismatch fails over. -/
def Obligations.ServiceCommands : Prop :=
  ∀ (s : State), s.powered = true →
    (∀ found : List SelfFault, exec (.housekeepingTick found) s = .next (settle s ((found.foldl State.selfFault s).houseTick))) ∧
    (s.fwRuns = false → exec (.housekeepingTick []) s = .next (settle s s)) ∧
    (∀ (ch : Fin 96) (id : Nat), s.selfFault (.xrec ch id false) = s ∧ (s.recOf ch.val id = none → s.selfFault (.xrec ch id true) = s)) ∧
    s.selfFault (.bit 0xD 0 (Fin.ofNat 64 Flt.HOST_REGPAR.bit)) = s.raiseAt Flt.HOST_REGPAR 0 0 0 ∧
    (s.fwRuns = true → s.svc.waiting = [] → s.upPort 0 = false → exec (.housekeepingTick []) s =
      .next (settle s ((({ s.addWrap SVC_HB.TICKS 1 with svc := { (s.addWrap SVC_HB.TICKS 1).svc with waiting := [] } }.tickAcks).slowPoint).powerTick))) ∧
    (∀ (blk inst bit : Byte) (a : AckDue), s.ackDue blk inst bit = some a → s.fwRuns = true → a.byFirmware = true →
      (a.cls = 0 → s.bit SVC_FLTCTL.C_AUTO = true → s.irqOn a.bitOf = true → exec (.cAutoAck blk inst bit) s = .next (settle s (s.ack a.bitOf))) ∧
      (∀ t, a.cls = 1 → a.at_ = some t → s.bit SVC_FLTCTL.R_AUTO = true → elapsed s.dt t (usTicks (1000 * s.fld SVC_FLTCTL.R_HOLD)) = true →
        exec (.rAutoAck blk inst bit) s = .next (settle s (s.ack a.bitOf)))) ∧
    (∀ (p : Fin 68) (ids : List (BitVec 48)), exec (.tarnReplay p ids) s = .next (settle s (s.tarnReplay p ids)) ∧
      (s.svc.tarnDue = [] → s.tarnReplay p ids = s)) ∧
    (s.bit SVC_STAT.STANDBY = false → exec .svcFailover s = .next (settle s (s.raiseAs Flt.SVC_LOCKSTEP .s 0 0 0))) ∧
    (s.bit SVC_STAT.STANDBY = true → exec .svcFailover s = .next (settle s ((s.raise Flt.SVC_LOCKSTEP).failover))) ∧
    (s.pinHigh 7 = true → s.bit CAP_CTL.ARM = false → exec .estopNFall s = .next (settle s
      (if s.bit SVC_FLTCTL.ESTOP_SAFE then ((s.setPin 7 false).pinEdge 2).enterSafe 4 0 0 else (s.setPin 7 false).pinEdge 2))) ∧
    (∀ ns : Nat, exec (.estopNRise ns) s = .next (settle s
      (if ns < 100 * s.fld PIN_FILT.ESTOP_F then s.raise Flt.THERM_PIN_GLITCH else (s.setPin 7 true).pinEdge 3))) ∧
    (s.pinHigh 6 = true → s.bit CAP_CTL.ARM = false → exec .pfwNFall s = .next (settle s (((s.setPin 6 false).pinEdge 0).powerFail))) ∧
    (s.pinHigh 6 = false → exec .pfwNRise s = .next (settle s ((s.setPin 6 true).pinEdge 1))) ∧
    (s.svc.pfwAt = none → exec .tailReportComplete s = .next (settle s s)) ∧
    (∀ (t : Word) (r : List Byte), s.svc.pfwAt = some t → s.tree.heldTail = some r → 24 ≤ r.length → s.isWorker = false → ∃ r' : List Byte, 
      exec .tailReportComplete s = .next (settle s (((s.holdTail none).putComplete 0 r').tailStat r')) ∧
        r'.take 16 = r.take 16 ∧ r'.drop 24 = r.drop 24) ∧
    exec .safeReq s = .next (settle s { s with due := s.due ++ [.safe 2 0 0] }) ∧
    (s.bit SVC_STAT.SAFE = true → ∀ c b i, c ≠ 5 ∨ s.fld SVC_SAFE.CAUSE ≠ 4 → s.enterSafe c b i = (s.setFld SVC_FLTCTL.SAFE_REQ 0).causeRecord c)

/-! ### Security (chapter 14) -/

/-- Page keys, the system secret, the OTP lock, the noise source and the digest engine (R411, R418 to R420, R423 to R426): a page is derived
when enabled and zeroed when disabled and idle, the secret is loaded in eight words, and a strider may write none of this. -/
def Obligations.SecurityCommands : Prop :=
  ∀ (s : State), s.powered = true →
    (∀ (w : StrId) (k : Fin 16) (v : Word32) (l : BitVec 2), let refused := Host.Outcome.next (φ := Fault) (ρ := Refusal) (settle s (s.setFld SEC_STAT.CFG_REJECT 1))
      exec (.secPageEnable (.strider w) k) s = refused ∧ exec (.secPageDisable (.strider w) k) s = refused ∧ exec (.secKeyload (.strider w) v) s = refused ∧
      exec (.secKeyloadStart (.strider w)) s = refused ∧ exec (.secKeyloadClear (.strider w)) s = refused ∧ exec (.otpLock (.strider w)) s = refused ∧
      exec (.rngRestart (.strider w)) s = refused ∧ exec (.shaInit (.strider w) l) s = refused ∧ exec (.shaData (.strider w) v) s = refused ∧
      exec (.shaFinal (.strider w) l) s = refused) ∧
    (∀ k : Fin 16,
      (s.bit (SEC_PG_CTL.EN k.val) = false → s.bit (SEC_PG_CTL.KBASE k.val) = false ∨ s.bit SEC_STAT.SYS_VALID = true →
        exec (.secPageEnable .svc k) s = .next (settle s ((s.setFld (SEC_PG_CTL.EN k.val) 1).setFld (SEC_PG_STAT.STATE k.val) 1))) ∧
      (s.bit (SEC_PG_CTL.EN k.val) = false → s.bit (SEC_PG_CTL.KBASE k.val) = true → s.bit SEC_STAT.SYS_VALID = false →
        exec (.secPageEnable .svc k) s = .next (settle s (s.setFld SEC_STAT.CFG_REJECT 1))) ∧
      (s.bit (SEC_PG_CTL.EN k.val) = true → exec (.secPageDisable .svc k) s =
        .next (settle s (s.setFld (SEC_PG_STAT.STATE k.val) 3))) ∧
      (s.pageState k.val = 1 → exec (.pageKeyDerived k false) s = .next (settle s
        ((s.setPageKey k.val (pageKdf (if s.bit (SEC_PG_CTL.KBASE k.val) then s.sysSecret else slice Config.dus 0 32) k.val
          (s.fld (SEC_PG_CTX.CTX k.val)) (s.bit (SEC_PG_CTL.KBITS k.val)))).setFld (SEC_PG_STAT.STATE k.val) 2)) ∧
        exec (.pageKeyDerived k true) s = .next (settle s
          (((s.setFld (SEC_PG_STAT.STATE k.val) 0).setFld (SEC_PG_CTL.EN k.val) 0).raise Flt.SEC_DP_PARITY))) ∧
      (s.pageState k.val = 3 → s.pageBusy k.val = false → exec (.pageZeroed k) s =
        .next (settle s (((s.setPageKey k.val []).setFld (SEC_PG_STAT.STATE k.val) 0).setFld (SEC_PG_CTL.EN k.val) 0))) ∧
      (s.pageState k.val = 3 → s.pageBusy k.val = true → exec (.pageZeroed k) s = .next (settle s s))) ∧
    (∀ v : Word32, (∀ k < 16, s.bit (SEC_PG_CTL.EN k) = false ∨ s.bit (SEC_PG_CTL.KBASE k) = false) →
      (s.sec.secret.length < 7 → exec (.secKeyload .svc v) s = .next (settle s
        ({ s with sec := { s.sec with secret := s.sec.secret ++ [v] } }.setFld SEC_KEYLD_CTL.WIDX (s.sec.secret.length + 1)))) ∧
      (s.sec.secret.length = 7 → exec (.secKeyload .svc v) s = .next (settle s
        (({ s with sec := { s.sec with secret := s.sec.secret ++ [v] } }.setFld SEC_KEYLD_CTL.WIDX 8).setFld SEC_STAT.SYS_VALID 1)))) ∧
    (∀ u : State, u = ({ s with sec := { s.sec with secret := [] } }.setFld SEC_KEYLD_CTL.WIDX 0).setFld SEC_STAT.SYS_VALID 0 →
      exec (.secKeyloadStart .svc) s = .next (settle s u) ∧ exec (.secKeyloadClear .svc) s = .next (settle s u)) ∧
    exec (.otpLock .svc) s = .next (settle s { s.setFld SEC_CTL.OTP_LOCK 1 with sec := { s.sec with otpLock := true } }) ∧
    exec (.rngRestart .svc) s = .next (settle s { s with sec := { s.sec with rngBack := some s.dt } }) ∧
    (∀ t, s.sec.rngBack = some t → elapsed s.dt t (usTicks 2000) = true → exec (.rngRestartDone true) s =
      .next (settle s { s.setFld SEC_RNG_STAT.RESTARTS 0 with sec := { s.sec with rngBack := none } })) ∧
    (s.sec.rngReady = 0 → exec (.rngDataRead .svc) s =
      .next (settle s ((s.setFld SEC_RNG_STAT.UNDERRUN 1).emit (.read SEC_RNG_DATA.addr 0)))) ∧
    (0 < s.sec.rngReady → ∃ v : Word32, exec (.rngDataRead .svc) s = .next (settle s
      ({ (s.fresh).2 with sec := { s.sec with rngReady := s.sec.rngReady - 1 } }.emit (.read SEC_RNG_DATA.addr v)))) ∧
    (∀ x : BitVec 1024, s.rngUp = true →
      (healthFails x = false → exec (.rngHealthTest x) s = .next (settle s { s with sec := { s.sec with rngReady := 16 } })) ∧
      (healthFails x = true → exec (.rngHealthTest x) s =
        .next (settle s ((s.addSat SEC_RNG_STAT.HEALTH_FAIL 1).raise Flt.SEC_RNG_HEALTH).rngStart))) ∧
    (s.rngUp = true → exec .maskReseed s = .next (settle s { s with sec := { s.sec with lastSeed := s.dt } })) ∧
    (∀ l : BitVec 2, ∃ u, exec (.shaInit .svc l) s = .next (settle s u) ∧ u.sec.shaMsg = [] ∧ u.bit SEC_SHA_CTL.BUSY = false) ∧
    (∀ v : Word32, s.bit SEC_SHA_CTL.BUSY = false → exec (.shaData .svc v) s =
      .next (settle s { s with sec := { s.sec with shaMsg := s.sec.shaMsg ++ beBytes 4 v.toNat } })) ∧
    (s.bit SEC_SHA_CTL.BUSY = false → ∃ u, exec (.shaFinal .svc 0) s = .next (settle s u) ∧
      u.bit SEC_SHA_CTL.BUSY = true ∧ u.sec.shaMsg = s.sec.shaMsg) ∧
    (s.bit SEC_SHA_CTL.BUSY = true → exec (.shaDone false) s = .next (settle s
      { (s.setFld SEC_SHA_CTL.BUSY 0).setFld SEC_SHA_CTL.DONE 1 with sec := { s.sec with shaOut := sha256 s.sec.shaMsg, shaIdx := 0 } })) ∧
    exec (.shaDigestRead .svc) s = .next (settle s ({ s with sec := { s.sec with shaIdx := (s.sec.shaIdx + 1) % 8 } }.emit
      (.read SEC_SHA_DIGEST.addr (BitVec.ofNat 32 (beNat (slice s.sec.shaOut (4 * s.sec.shaIdx) 4))))))

/-! ### The host block (chapter 15) -/

/-- Doorbells, rounds, resets and the data port (R36, R431, R433 to R438, R450, R451, R457): a doorbell moves a queue's index or is refused,
coalescing signals a queue, enabling makes the admin pair, an unmasked vector that is pending is sent, and D3hot holds what is sent; a worker's PCI Express takes none of this (R22). -/
def Obligations.HostBlock : Prop :=
  ∀ (s : State), s.powered = true →
    (∀ io : HostIo, exec (.hostArbRound io) s = .next (settle s (s.arbRound io))) ∧
    (∀ io : HostIo, s.host.d3 = true → s.arbRound io = { s with host := { s.host with dmaBad := io.bad, headWord := io.head } }.applyStaged inHost) ∧
    (∀ (q : Fin 16) (v : BitVec 12) (p : QPair), s.isWorker = false → s.qpair q.val = some p → p.deleting = false →
      (v.toNat < p.size → exec (.sqTail .bar0 q v) s = .next (settle s
        ((s.napEnd.napEnd.setFld (SQ_TAIL.TAIL q.val) v.toNat).setQpair q.val (some { p with sqTail := v.toNat })))) ∧
      (p.size ≤ v.toNat → exec (.sqTail .bar0 q v) s = .next (settle s (s.napEnd.napEnd.bellBad .bar0 (sqBell q.val)))) ∧
      (v.toNat < p.size → (v.toNat + p.size - p.cqHead) % p.size ≤ p.unreleased → exec (.cqHead .bar0 q v) s = .next (settle s
        ((s.napEnd.napEnd.setFld (CQ_HEAD.HEAD q.val) v.toNat).setQpair q.val (some { p with cqHead := v.toNat }))))) ∧
    (∀ (q : Fin 16) (v : BitVec 12), s.isWorker = false → s.qpair q.val = none →
      exec (.sqTail .bar0 q v) s = .next (settle s (s.napEnd.napEnd.bellBad .bar0 (sqBell q.val))) ∧
      exec (.cqHead .bar0 q v) s = .next (settle s (s.napEnd.napEnd.bellBad .bar0 (cqBell q.val)))) ∧
    (∀ (q : Fin 16) (p : QPair), s.qpair q.val = some p → 0 < p.unsent → elapsed s.dt p.oldest (usTicks p.ctime) = true →
      exec (.cqCoalesceTimeout q) s = .next (settle s ((s.setQpair q.val (some { p with unsent := 0 })).msix p.vector))) ∧
    (∀ en (w : StrId), exec (.hostCtlEn (.strider w) en) s = .next (settle s (s.setFld HOST_STAT.CFG_REJECT 1))) ∧
    (s.bit HOST_CTL.EN = true → exec (.hostCtlEn .svc false) s = .next (settle s { s with host := { s.host with stopping := true } })) ∧
    (s.bit HOST_CTL.EN = false → 2 ≤ s.fld AQ_CFG.SIZE → ∃ (u : State) (base : Nat),
      base = s.fld AQ_BASE_HI.BASE * 2 ^ 32 + s.fld AQ_BASE_LO.BASE * 2 ^ 12 ∧
      exec (.hostCtlEn .svc true) s = .next (settle s u) ∧ u.bit HOST_CTL.EN = true ∧ u.fld (SQ_TAIL.TAIL 0) = 0 ∧ u.fld (CQ_HEAD.HEAD 0) = 0 ∧
      u.qpair 0 = some (newPair base (base + (64 * s.fld AQ_CFG.SIZE + 4095) / 4096 * 4096) (s.fld AQ_CFG.SIZE) 3 0 1 0)) ∧
    (s.isWorker = true → ∀ (down d3 : Bool) (v : Fin 64) (q : Fin 16) (i : BitVec 12) (units : List (BitVec 4 × Word32)) (n : Nat) (e : MemErr),
      let idle := Host.Outcome.next (φ := Fault) (ρ := Refusal) (settle s s)
      exec (.hostReset down) s = idle ∧ exec (.msixUnmask v) s = idle ∧ exec (.d3hot d3) s = idle ∧ exec (.sqTail .bar0 q i) s = idle ∧
      exec (.cqHead .bar0 q i) s = idle ∧ exec (.dpDataWrite units) s = idle ∧ exec (.dpDataRead n e) s = idle) ∧
    (∀ down : Bool, s.isWorker = false → exec (.hostReset down) s = .next (settle s (s.hostBlockReset down))) ∧
    (∀ v : Fin 64, s.isWorker = false → exec (.msixUnmask v) s = .next (settle s (s.msixUnmask v.val)) ∧
      (Tab.get (fun _ => false) s.host.msixPend v.val = true → s.host.d3 = false → ∃ u : State, s.msixUnmask v.val = (u.setPend v.val false).emit (.msix v.val))) ∧
    (s.isWorker = false → exec (.d3hot true) s = .next (settle s { s with host := { s.host with d3 := true } })) ∧
    (s.isWorker = false → ∃ u, exec (.d3hot false) s = .next (settle s u) ∧ u.host.d3 = false ∧ u.host.held = []) ∧
    (∀ (a : Nat) (b : List Byte), (s.host.d3 = false → s.hostPut a b = s.emit (.host a b)) ∧
      (s.host.d3 = true → s.hostPut a b = { s with host := { s.host with held := s.host.held ++ [(a, b)] } })) ∧
    (∀ v : Word, exec (.dpAddrWrite .svc v) s = .next (settle s
      ((s.regWrite .svc DP_ADDR_LO.addr (v.setWidth 32)).regWrite .svc DP_ADDR_HI.addr ((v >>> 32).setWidth 32))) ∧
      ((s.regWrite .svc DP_ADDR_LO.addr (v.setWidth 32)).regWrite .svc DP_ADDR_HI.addr ((v >>> 32).setWidth 32)).dpAddr = v.toNat) ∧
    (∀ v : Word32, exec (.dpCtlWrite .svc v) s = .next (settle s ((s.dpCtl v).ackWritten s DP_CTL.addr))) ∧
    (∀ units, s.isWorker = false → exec (.dpDataWrite units) s = .next (settle s (s.napEnd.dpWrite units)) ∧ (s.dpWrite units).host.prefetch = []) ∧
    (∀ (n : Nat) (e : MemErr), s.isWorker = false → exec (.dpDataRead n e) s = .next (settle s (State.dpRead n (s.napEnd.dpError e)))) ∧
    (elapsed s.dt s.host.lastDp (usTicks 10) = true → exec .dpPrefetchExpire s = .next (settle s { s with host := { s.host with prefetch := [] } })) ∧
    (∀ (q : Fin 16) (c : HostCmd) (t since), s.host.accepted = [c] → c.wait = .port t true since → c.sq = q.val → elapsed s.dt since (usTicks 5000) = true →
      s.portReached t true = false → exec (.devPortTimeout q) s = .next (settle s (s.finishCmd c 0x42 0 [])))

/-- A completion (R435, R438, R440, Table 15-4): the entry's 32 bytes go to the tail of the completion ring with the phase of this
pass, the tail moves on, and with enough entries waiting the queue is signalled; a result too long for the entry goes to the
command's buffer first.
What keeps a command from being executed (R440, R445, R453): a result too long, a device that is not READY, the safe state and
EXP_OFF complete it with their status. -/
def Obligations.CompletionsAndRefusals : Prop :=
  ((∀ (e : CqEntry) (q : Nat) (ph : Bool), e.status < 65536 → e.detail < 65536 → q < 256 → e.device < 256 → e.rbytes < 2 ^ 31 → e.sqhd < 65536 →
      let b := e.bytes q ph
      b.length = 32 ∧ leAt b 0 4 = e.tag.toNat ∧ leAt b 4 2 = e.status ∧ leAt b 6 2 = e.detail ∧ leAt b 8 2 = e.sqhd ∧ leAt b 10 1 = q ∧
      leAt b 11 1 = e.device ∧ leAt b 12 4 = e.rbytes + (if ph then 2 ^ 31 else 0)) ∧
    (∀ (s : State) (q : Nat) (e : CqEntry) (p : QPair), s.qpair q = some p → p.err = false → s.host.d3 = false →
      (s.hostOk (p.cqBase + 32 * p.cqTail) 32 = true → p.unsent + 1 < p.ccount → ∃ p' : QPair,
        s.putCq q e = (s.emit (.host (p.cqBase + 32 * p.cqTail) (e.bytes q p.phase))).setQpair q (some p') ∧
        p'.cqTail = (p.cqTail + 1) % p.size ∧ p'.unsent = p.unsent + 1 ∧ (p'.phase = p.phase ↔ (p.cqTail + 1) % p.size ≠ 0)) ∧
      (s.hostOk (p.cqBase + 32 * p.cqTail) 32 = false → ∃ u : State, s.putCq q e = u.hostRaise Flt.HOST_DMA (p.cqBase + 32 * p.cqTail) 4 1 0 q ∧
        ((u.qpair q).map (·.err)) = some true)) ∧
    (∀ (s : State) (c : HostCmd) (st det : Nat) (res : List Byte), c.routed = false → c.sq < 16 → res.length ≤ 16 → ∃ u : State,
      s.finishCmd c st det res = u.putCq c.sq { tag := c.tag, status := st, detail := det, sqhd := c.sqhd, device := s.tree.num, rbytes := 0, res := res } ∧
        u.out = s.out)) ∧
  (∀ (s : State) (q : Fin 16) (op : Nat) (c : HostCmd) (f : State → HostCmd → State),
      s.host.accepted.find? (fun c => c.sq % 16 == q.val && s.mine c) = some c → 
      let u := s.startCmd c
      let d := u.cmdNow c
      (c.opcode ≠ op → s.runCmd q.val op f = s) ∧
      (c.opcode = op → s.orderOk c = true → s.unitFree c = true →
        (u.resultFits d = false → s.runCmd q.val op f = u.finishCmd d 0x21 2 (leBytes 4 (u.resultLen op d.params))) ∧
        (u.resultFits d = true → u.pwr.phase ≠ .ready → beforeReady op = false → s.runCmd q.val op f = u.finishCmd d 0x12 0 []) ∧
        (u.resultFits d = true → u.pwr.phase = .ready → u.bit SVC_STAT.SAFE = true → unsafeCmd d = true → s.runCmd q.val op f = u.finishCmd d 0x40 2 []) ∧
        (u.resultFits d = true → u.pwr.phase = .ready → u.bit SVC_STAT.SAFE = false → u.expRefused d = true → s.runCmd q.val op f = u.finishCmd d 0x30 1 [])))

/-- Device, host, pattern, axis and channel commands (Tables 15-7 and 15-8): what each does when firmware executes it, with the status it
ends with. -/
def Obligations.DeviceHostAxisChannelCommands : Prop :=
  ∀ (s u : State) (q : Fin 16) (c : HostCmd) (op : Nat), s.begins q.val op c u →
    let p := c.params
    let ends (v : State) := Host.Outcome.next (φ := Fault) (ρ := Refusal) (settle s v)
    (op = 0x0001 → exec (.devInfo q) s = ends (u.finishCmd c 0 0 u.devInfo)) ∧
    (op = 0x0002 → exec (.devTopo q) s = ends (u.finishCmd c 0 0 u.topology)) ∧
    (op = 0x0003 → exec (.devReset q) s = ends { u.finishCmd c 0 0 [] with due := (u.finishCmd c 0 0 []).due ++ [.reset (prm p 0 1)] }) ∧
    (op = 0x0004 → (∀ b, (u.worker (prm p 0 1)).summary = some b → exec (.devSummary q) s = ends (u.finishCmd c 0 0 (slice b 0 1600))) ∧
      ((u.worker (prm p 0 1)).summary = none → exec (.devSummary q) s = ends (u.finishCmd c 0x42 0x11 []))) ∧
    (op = 0x0005 → prm p 1 1 = 1 → u.tierState (prm p 0 1) = 3 → exec (.devPort q) s = ends (u.waitCmd c (.port (prm p 0 1) true u.dt))) ∧
    (op = 0x0010 → ((u.qpair (prm p 0 1)).isSome = true → exec (.hostQcreate q) s = ends (u.finishCmd c 0x21 7 [])) ∧
      ((u.qpair (prm p 0 1)).isNone = true → exec (.hostQcreate q) s = ends ((((u.setFld (SQ_TAIL.TAIL (prm p 0 1)) 0).setFld
        (CQ_HEAD.HEAD (prm p 0 1)) 0).setQpair (prm p 0 1) (some (newPair (prm p 8 8) (prm p 16 8) (prm p 2 2) (prm p 4 1) (prm p 1 1) (prm p 5 1)
          (prm p 6 2)))).finishCmd c 0 0 []))) ∧
    (op = 0x0011 → (u.qpair (prm p 0 1) = none → exec (.hostQdelete q) s = ends (u.finishCmd c 0x42 0x11 [])) ∧
      (∀ x, u.qpair (prm p 0 1) = some x → exec (.hostQdelete q) s =
        ends ((u.setQpair (prm p 0 1) (some { x with deleting := true })).waitCmd c (.queue (prm p 0 1))))) ∧
    (op = 0x0012 → prm p 0 1 = 0 → exec (.hostStats q) s =
      ends (u.finishCmd c 0 0 ((upTo 16).flatMap (fun k => leBytes 4 (Tab.get (fun _ => 0) u.host.stats k))))) ∧
    (op = 0x0013 → u.bit HOST_STAT.BAR2_LOCKED = true → exec (.hostLock q) s = ends (u.finishCmd c 0x30 1 [])) ∧
    (op = 0x0013 → u.bit HOST_STAT.BAR2_LOCKED = false → prm p 1 1 = 0 → exec (.hostLock q) s =
      ends (((u.setFld HOST_STAT.BAR2 (prm p 0 1)).setFld HOST_STAT.BAR2_LOCKED 0).finishCmd c 0 0 [])) ∧
    (op = 0x0101 → ∀ rows, (u.host.patterns.any (fun e => e.1 == prm p 0 4) = true → exec (.patLoad q rows) s = ends (u.finishCmd c 0x21 7 [])) ∧
      exec (.patLoad q rows) s = ends (u.patLoad c rows)) ∧
    (op = 0x0102 → (∀ e, u.host.patterns.find? (fun e => e.1 == prm p 0 4) = some e → exec (.patDrop q) s =
        ends ({ u with host := { u.host with patterns := u.host.patterns.filter (fun e => e.1 != prm p 0 4),
                                             dropped := u.host.dropped ++ [(e.2.1, e.2.2.2, u.dispatched)] } }.finishCmd c 0 0 [])) ∧
      (u.host.patterns.any (fun e => e.1 == prm p 0 4) = false → exec (.patDrop q) s = ends (u.finishCmd c 0x42 0x11 []))) ∧
    (op = 0x0103 → exec (.patList q) s = ends (u.finishList c 24 (u.host.patterns.map (fun e =>
      leBytes 8 e.1 ++ leBytes 8 e.2.1 ++ leBytes 4 e.2.2.1 ++ leBytes 4 e.2.2.2)))) ∧
    (op = 0x0104 → exec (.patVerify q) s = ends (u.patVerify c) ∧
      (u.host.patterns = [] → exec (.patVerify q) s = ends (u.finishCmd c 0x42 0x11 []))) ∧
    (op = 0x0105 → exec (.patTable q) s = ends (u.patTable c)) ∧
    (op = 0x0201 → exec (.axConfig q) s = ends (u.axConfig c)) ∧
    (op = 0x0202 → exec (.axPort q) s = ends (u.axPort c)) ∧
    (op = 0x0203 → exec (.axQuery q) s = ends (u.axQuery c)) ∧
    (op = 0x0301 → exec (.chConfig q) s = ends (u.chConfig c)) ∧
    (op = 0x0302 → exec (.chEnable q) s = ends (u.chEnable c)) ∧
    (op = 0x0303 → exec (.chPartner q) s = ends (u.chPartner c)) ∧
    (op = 0x0304 → exec (.chTable q) s = ends (u.chTable c)) ∧
    (op = 0x0305 → exec (.chTableread q) s = ends (u.chTableread c)) ∧
    (op = 0x0306 → let n := prm p 0 1
      exec (.chStats q) s = ends (u.finishCmd c 0 0 (u.peeks [FC_STAT.addr n, FC_FAULT.addr n, FC_VIOL.addr n, FC_LAT.addr n, WEIR_STAT.addr n,
        WEIR_SLACK.addr n, WEIR_MISS.addr n] ++ zeros 4))) ∧
    (op = 0x0307 → exec (.chSpeed q) s = ends (u.chSpeed c))

/-- Task, memory, power and fault commands (Table 15-8).
Security and expert commands (Table 15-8, R268, R410, R412, R415, R426, R427, R452, R453). -/
def Obligations.TaskMemoryPowerFaultSecurityCommands : Prop :=
  (∀ (s u : State) (q : Fin 16) (c : HostCmd) (op : Nat), s.begins q.val op c u →
      let p := c.params
      let ends (v : State) := Host.Outcome.next (φ := Fault) (ρ := Refusal) (settle s v)
      (op = 0x0401 → exec (.taskQconfig q) s = ends (u.taskQconfig c)) ∧
      (op = 0x0402 → exec (.taskPost q) s = ends (u.taskPost c)) ∧
      (op = 0x0403 → exec (.taskPlace q) s = ends ((u.svcSet (DSP_CTL.PLACE (prm p 0 1)) (prm p 1 1)).finishCmd c 0 0 [])) ∧
      (op = 0x0404 → exec (.taskLimit q) s = ends (u.taskLimit c)) ∧
      (op = 0x0405 → exec (.taskStatus q) s = ends (u.finishCmd c 0 0 (u.taskStatus (prm p 0 1)))) ∧
      (op = 0x0501 → exec (.memRegion q) s = ends (u.memRegion c) ∧ (u.rgnBusy = true → exec (.memRegion q) s = ends (u.finishCmd c 0x11 1 []))) ∧
      (op = 0x0502 → exec (.memCache q) s = ends (u.memCache c)) ∧
      (op = 0x0503 → exec (.memMarch q) s = ends (u.memMarch c) ∧ (u.bit (PM_CTL.EN (prm p 0 1)) = true →
        exec (.memMarch q) s = ends (u.finishCmd c 0x11 1 []))) ∧
      (op = 0x0504 → exec (.memRetrain q) s = ends (u.memRetrain c) ∧ (u.bit (MC_TRAIN.BUSY (prm p 0 1)) = true →
        exec (.memRetrain q) s = ends (u.finishCmd c 0x11 1 []))) ∧
      (op = 0x0505 → exec (.memSpare q) s = ends (u.memSpare c)) ∧
      (op = 0x0506 → exec (.memStats q) s = ends (u.finishCmd c 0 0 (u.memStats (prm p 0 1) (prm p 1 1)))) ∧
      (op = 0x0507 → exec (.memScrub q) s = ends (u.memScrub c)) ∧
      (op = 0x0801 → (prm p 0 8 ≤ 1 → exec (.pwrState q) s = ends (u.napEnd.finishCmd c 0 0 [])) ∧
        (prm p 0 8 = 2 → u.pwr.request = 0 → u.pwr.entryAt = none → exec (.pwrState q) s =
          ends ({ u with pwr := { u.pwr with request := 1 } }.waitCmd c (.power 2))) ∧
        (2 ≤ prm p 0 8 → u.pwr.request ≠ 0 → exec (.pwrState q) s = ends (u.finishCmd c 0x11 1 []))) ∧
      (op = 0x0802 → exec (.pwrPond q) s = ends (u.pwrPond c)) ∧
      (op = 0x0803 → exec (.pwrStatus q) s = ends (u.finishCmd c 0 0 u.pwrStatus)) ∧
      (op = 0x0601 → ∀ a, ackAddr (prm p 0 1) (if prm p 1 1 = 1 then 128 + prm p 2 2 else prm p 2 2) = some a →
        exec (.fltAck q) s = ends ((u.writeReg .svc a (prm p 4 4)).finishCmd c 0 0 (leBytes 4 ((u.writeReg .svc a (prm p 4 4)).peek a).toNat))) ∧
      (op = 0x0602 → exec (.fltSafe q) s = ends (State.finishCmd { u with due := u.due ++ [.safe 2 0 0] } c 0 0 [])) ∧
      (op = 0x0603 → exec (.fltResume q) s = ends (if u.bit SVC_STAT.SAFE = false then u.finishCmd c 0 0 []
        else if u.mayResume = true then u.leaveSafe.finishCmd c 0 0 [] else u.finishCmd c 0x40 0 [])) ∧
      (op = 0x0604 → exec (.fltLog q) s = ends (u.finishList c 32 ((u.recordsFrom (prm p 0 2) (prm p 2 2)).map Record.bytes))) ∧
      (op = 0x0605 → prm p 0 8 = 0 → exec (.fltLogbuf q) s = ends ({ u with host := { u.host with log := none } }.finishCmd c 0 0 [])) ∧
      (op = 0x0606 → exec (.fltTailbuf q) s = ends (((u.setPair TAIL_BASE_LO.BASE TAIL_BASE_HI.BASE (BitVec.ofNat 64 (prm p 8 8))).svcSet TAIL_CTL.EN
        (prm p 0 8 % 2)).finishCmd c 0 0 [])) ∧
      (op = 0x0607 → prm p 0 2 = 0 → exec (.fltRecord q) s = ends (u.finishList c 16 (u.svc.retired.map retiredBytes))) ∧
      (op = 0x0608 → exec (.fltJournal q) s = ends (u.fltJournal c)) ∧
      (op = 0x0609 → exec (.fltCtl q) s = ends (u.fltCtl c))) ∧
  (∀ (s u : State) (q : Fin 16) (c : HostCmd) (op : Nat), s.begins q.val op c u →
      let p := c.params
      let ends (v : State) := Host.Outcome.next (φ := Fault) (ρ := Refusal) (settle s v)
      (op = 0x0701 → exec (.secInfo q) s = ends (u.secInfo c)) ∧
      (op = 0x0702 → exec (.secPage q) s = ends (u.secPage c) ∧ (prm p 0 1 = 0 → exec (.secPage q) s = ends (u.finishCmd c 0x30 2 []))) ∧
      (op = 0x0703 → exec (.secSyskey q) s = ends (u.secSyskey c)) ∧
      (op = 0x0704 → (u.takeIndex = none → exec (.secAttest q) s = ends (u.finishCmd c 0x22 0 [])) ∧
        (∀ i v, u.takeIndex = some (i, v) → exec (.secAttest q) s = ends (v.finishCmd c 0 0
          (v.quote p ++ slice (Config.attSign (v.fld SEC_SIG_IDX.KEYGEN) i (v.quote p)) 0 5076 ++ v.chainBytes)))) ∧
      (op = 0x0705 → exec (.secLog q) s = ends (u.finishList c 64
        (((u.sec.log.zipIdx.map (fun (e : Measure × Nat) => e.1.bytes e.2)).drop (prm p 0 1)).take (prm p 1 1)))) ∧
      (op = 0x0706 → exec (.secRollfwd q) s = ends ({ u with sec := { u.sec with arb := max u.sec.arb (min u.pwr.secVer 64) } }.finishCmd c 0 0
        (leBytes 4 (max u.sec.arb (min u.pwr.secVer 64))))) ∧
      (op = 0x0707 → ∀ sig, (prm p 1 7 = 1 → (u.slot (prm p 0 1)).prog = false → exec (.secSlot q sig) s =
          ends ((u.setSlot (prm p 0 1) { hash := slice p 8 32, prog := true, revoked := false }).finishCmd c 0 0 [])) ∧
        (prm p 1 7 = 1 → (u.slot (prm p 0 1)).prog = true → exec (.secSlot q sig) s = ends (u.finishCmd c 0x50 1 []))) ∧
      (op = 0x0708 → ∃ b : List Byte, b.length = prm p 0 2 ∧ exec (.secRandom q) s = ends ((u.fresh).2.finishCmd c 0 0 b)) ∧
      (op = 0x0709 → ∃ b : List Byte, b.length = 32 ∧ exec (.secDbgchal q) s =
        ends ({ (u.fresh).2 with sec := { u.sec with chal := some (b, u.dt) } }.finishCmd c 0 0 b)) ∧
      (op = 0x070A → ∀ sig, u.sec.chal = none → u.hostOk (prm p 16 8) (prm p 24 2) = true →
        exec (.secDbgunlock q sig) s = ends (u.finishCmd c 0x50 1 [])) ∧
      (op = 0x070A → ∀ sig ch since, u.sec.chal = some (ch, since) → u.hostOk (prm p 16 8) (prm p 24 2) = true →
        elapsed u.dt since (usTicks 60000000) = true → exec (.secDbgunlock q sig) s = ends (u.finishCmd c 0x50 1 [])) ∧
      (op = 0x0F01 → prm p 4 2 = 1 → exec (.expRdreg q) s =
        ends ((u.regRead .svc (prm p 0 4)).2.finishCmd c 0 0 (leBytes 4 (u.regRead .svc (prm p 0 4)).1.toNat))) ∧
      (op = 0x0F02 → prm p 0 8 = 1 → exec (.expWrreg q) s =
        ends ((u.regWrite .svc (prm p 8 4) (BitVec.ofNat 32 (prm p 12 4))).finishCmd c 0 0 (leBytes 4 1))) ∧
      (op = 0x0F03 → exec (.expRdmem q) s = ends (u.expRdmem c)) ∧
      (op = 0x0F04 → exec (.expWrmem q) s = ends (u.expWrmem c)) ∧
      (op = 0x0F10 → exec (.expUcinfo q) s = ends (u.finishCmd c 0 0 u.ucInfo)) ∧
      (op = 0x0F11 → prm p 0 2 = 0 → prm p 2 2 < 0x1800 → exec (.expUcread q) s = ends (u.finishCmd c 0x30 0 [])) ∧
      (op = 0x0F11 → prm p 0 2 = 0 → 0x1800 ≤ prm p 2 2 → prm p 2 2 + prm p 4 2 ≤ 0x2000 → exec (.expUcread q) s =
        ends (u.finishList c 20 ((upTo (prm p 4 2)).map (fun i => leBytes 20 (u.ucWord (prm p 2 2 + i)))))) ∧
      (op = 0x0F12 → ∀ image, u.hostOk (prm p 8 8) (prm p 16 4) = false → exec (.expUcstage q image) s = ends (u.finishCmd c 0x24 1 [])) ∧
      (op = 0x0F12 → ∀ image x, u.hostOk (prm p 8 8) (prm p 16 4) = true → u.checkImage (slice image 0 (prm p 16 4)) = .inr x → prm p 0 8 % 2 = 0 →
        exec (.expUcstage q image) s = ends ({ u with ucode := { u.ucode with staged := slice image 0 (prm p 16 4) } }.finishCmd c 0 0 [])))

/-! ### Tier links and the tree (chapter 16) -/

/-- Link-up, retraining and enabling of a tier port (R460, R464, R465): the state each event leads to, the HELLO exchange that ends
in UP with a new epoch, an attempt that fails after 500 µs, the third failure that ends in DOWN. -/
def Obligations.TierLinkUp : Prop :=
  ∀ (s : State) (t : Fin 8), s.powered = true →
    let p := s.tport t.val
    let st := s.tierState t.val
    (s.bit (TIER_CTL.EN t.val) = false → s.portAllowed t.val = true → ∃ u : State,
      exec (.tierEnable t true) s = .next (settle s u) ∧ u.tierState t.val = 1 ∧ u.bit (TIER_CTL.EN t.val) = true ∧
      (u.tport t.val).attempt = some s.dt ∧ (u.tport t.val).unacked = [] ∧ (u.tport t.val).txNext = 0 ∧ (u.tport t.val).rxNext = 0) ∧
    (s.bit (TIER_CTL.EN t.val) = false → s.portAllowed t.val = false →
      exec (.tierEnable t true) s = .next (settle s (s.setFld (TIER_STAT.CFG_REJECT t.val) 1))) ∧
    (s.bit (TIER_CTL.EN t.val) = true → ∃ u : State, exec (.tierEnable t false) s = .next (settle s u) ∧ u.tierState t.val = 0 ∧
      u.bit (TIER_CTL.EN t.val) = false ∧ (u.tport t.val).unacked = [] ∧ (u.tport t.val).msgs = []) ∧
    (p.attempt.isSome = true → p.lock = false → (st = 1 → ∃ u : State, exec (.blockLock t) s = .next (settle s u) ∧ u.tierState t.val = 2 ∧
        (u.tport t.val).lock = true) ∧
      (st = 4 → exec (.blockLock t) s = .next (settle s (s.setTport t.val { p with lock := true, lastHello := none })))) ∧
    (st = 2 → ∃ u : State, exec (.blockLockLoss t) s = .next (settle s u) ∧ u.tierState t.val = 1 ∧ (u.tport t.val).lock = false) ∧
    (st = 3 → exec (.blockLockLoss t) s = .next (settle s ((s.setTport t.val { p with lock := false }).tierEpisode t.val))) ∧
    ((s.tierEpisode t.val).tierState t.val = 4 ∧ (s.tierEpisode t.val).fld (TIER_STAT.RTR_TRY t.val) = 0 ∧
      ((s.tierEpisode t.val).tport t.val).episode.isSome = true ∧ ((s.tierEpisode t.val).tport t.val).partials = p.partials ∧
      ((s.tierEpisode t.val).tport t.val).unacked = p.unacked ∧ ((s.tierEpisode t.val).tport t.val).attempt = some s.dt) ∧
    (st = 2 → (∀ a, p.lastHello = some a → elapsed s.dt a (usTicks 10) = true) → (s.upPort t.val = false ∨ p.helloOk = true ∨ p.firstUp = true) →
      exec (.tierHelloTimer t) s = .next (settle s (s.sendTierHello t.val))) ∧
    (∃ u : State, s.sendTierHello t.val = (State.emit u (.tier t.val (u.mkTier t.val 1 0 0 false (u.tierHello t.val)))).tierPoint t.val ∧
      (u.tierHello t.val).length = 64 ∧ (u.tport t.val).lastHello = some s.dt) ∧
    (∀ f : Frame, f.type = 1 → st = 2 ∨ st = 4 → p.attempt.isSome = true → frameGood f = true →
      (s.tierRefuses t.val f = true → exec (.tierRxHello t f) s = .next (settle s (s.tierFails t.val))) ∧
      (s.tierRefuses t.val f = false → ∃ u : State, exec (.tierRxHello t f) s = .next (settle s (u.tierUp t.val)) ∧ (u.tport t.val).helloOk = true ∧
        (u.tport t.val).prevAck = BitVec.ofNat 16 (leAt f.payload 4 2) ∧ (u.tport t.val).peerFw = BitVec.ofNat 32 (leAt f.payload 20 4))) ∧
    ((s.tierUp t.val).tierState t.val = 3 ∧ ((s.tierUp t.val).tport t.val).epoch = p.newEpoch ∧ ((s.tierUp t.val).tport t.val).txNext = 0 ∧
      ((s.tierUp t.val).tport t.val).rxNext = 0 ∧ ((s.tierUp t.val).tport t.val).unacked = [] ∧ ((s.tierUp t.val).tport t.val).attempt = none ∧
      (p.prevValid = false → ((s.tierUp t.val).tport t.val).carry = p.unacked.map (fun e => (e.route, e.payload)) ++ p.carry)) ∧
    (∀ a, p.attempt = some a → elapsed s.dt a (usTicks 500) = true → exec (.tierAttemptTimeout t) s = .next (settle s (s.tierFails t.val))) ∧
    (p.episode = none → (s.tierFails t.val).tierState t.val = 1 ∧
      ((s.tierFails t.val).tport t.val).retryAt = some (s.dt + BitVec.ofNat 64 (usTicks 100))) ∧
    (p.episode.isSome = true → 2 ≤ s.fld (TIER_STAT.RTR_TRY t.val) → ∃ u : State, s.tierFails t.val = u.raise (Flt.TIER_DOWN t.val) ∧
      (u.tport t.val).attempt = none) ∧
    (∀ a, p.retryAt = some a → st = 1 ∨ st = 4 → dtGe s.dt a = true → ∃ u : State,
      exec (.tierRetrainAttempt t) s = .next (settle s u) ∧ (u.tport t.val).attempt = some s.dt ∧ (u.tport t.val).retryAt = none)

/-- Sequencing on a tier port that is UP (R461, R463, R465, Table 16-3): acknowledgement, negative acknowledgement, damage, resend,
silence and the order of the transmitter, a SAFE frame that is due first (R473).
Routes, SAFE frames and their timer (R44 to R46, R463, R468, R473): a fragment for another device goes on by its route, the routing
group commits only when no device has two ports, a SAFE frame on a propagating port puts the device into the safe state. -/
def Obligations.TierSequencingRoutesSafe : Prop :=
  (∀ (s : State) (t : Fin 8), s.powered = true → s.tierState t.val = 3 →
      let p := s.tport t.val
      let heard := s.setTport t.val { p with lastRx := s.dt }
      (∀ f : Frame, frameGood f = true → s.tierBad t.val f = false → f.ackv = true →
        (f.type = 3 → exec (.tierRxAck t f) s = .next (settle s (heard.tierAck t.val f.ackSeq))) ∧
        (f.type = 0 → exec (.tierRxIdle t f) s = .next (settle s (heard.tierAck t.val f.ackSeq))) ∧
        (f.type = 4 → ∃ u : State, exec (.tierRxNak t f) s = .next (settle s u) ∧ u = (heard.tierAck t.val f.ackSeq).tierResend t.val (f.ackSeq + 1))) ∧
      (∀ (a : BitVec 16) (o : TierFrame) (rest : List TierFrame), p.unacked = o :: rest → (a - o.seq).toNat + 1 ≤ p.unacked.length →
        ((s.tierAck t.val a).tport t.val).unacked = p.unacked.drop ((a - o.seq).toNat + 1)) ∧
      (∀ (q : BitVec 16) (e : TierFrame), p.unacked.find? (fun e => e.seq == q) = some e → p.resend = [] ∨ 32 ≤ (q - p.resendAt).toNat →
        (7 ≤ e.resends → s.tierResend t.val q = s.tierEpisode t.val) ∧
        (e.resends < 7 → ((s.tierResend t.val q).tport t.val).resend = (p.unacked.filter (fun x => decide ((x.seq - q).toNat < 32))).map (·.seq))) ∧
      (∀ q : BitVec 16, p.resend ≠ [] → (q - p.resendAt).toNat < 32 → s.tierResend t.val q = s) ∧
      (s.tierSafeDue t.val = true → exec (.tierTxFrame t) s = .next (settle s (s.putTierSafe t.val))) ∧
      (∀ k : BadFrame, k ≠ .abort → ∃ u : State, exec (.tierRxBadFrame t k) s = .next (settle s u) ∧ (u.tport t.val).nakDue = true ∧
        u.flds = (s.raise (Flt.TIER_LINKERR t.val)).flds) ∧
      (exec (.tierRxBadFrame t .abort) s = .next (settle s (s.raise (Flt.TIER_LINKERR t.val)))) ∧
      (∀ (e : TierFrame) (rest : List TierFrame), p.unacked = e :: rest → elapsed s.dt e.sentAt (usTicks (s.fld (TIER_CTL.RESEND_TMO t.val))) = true →
        exec (.tierResendTimeout t) s = .next (settle s (s.tierResend t.val e.seq))) ∧
      (elapsed s.dt p.lastRx (usTicks 40) = true → exec (.tierSilence t) s = .next (settle s (s.tierEpisode t.val))) ∧
      (∀ (q : BitVec 16) (rest : List (BitVec 16)) (e : TierFrame), s.tierSafeDue t.val = false → p.resend = q :: rest → p.unacked.find? (fun e => e.seq == q) = some e →
        ∃ u : State, exec (.tierTxFrame t) s = .next (settle s (u.putTier t.val (u.mkTier t.val 2 q e.route true e.payload))) ∧
        (u.tport t.val).resend = rest ∧ ∀ x ∈ (u.tport t.val).unacked, x.seq = q → x.resends = e.resends + 1 ∧ x.sentAt = s.dt) ∧
      (∀ (r : BitVec 16) (b : List Byte) (p' : TierPort), s.tierSafeDue t.val = false → p.resend = [] → p.unacked.length < 32 →
        p.takeNext = some ((r, b), p') → ∃ u : State,
        exec (.tierTxFrame t) s = .next (settle s (u.putTier t.val (u.mkTier t.val 2 p'.txNext r false b))) ∧ (u.tport t.val).txNext = p'.txNext + 1 ∧
        (u.tport t.val).unacked = p'.unacked ++ [{ seq := p'.txNext, route := r, payload := b, sentAt := s.dt, resends := 0 }]) ∧
      (s.tierSafeDue t.val = false → p.resend = [] → p.unacked.length < 32 → p.takeNext = none →
        (p.nakDue = true → p.lastNak = none → ∃ u : State, exec (.tierTxFrame t) s = .next (settle s (u.putTier t.val (u.mkTier t.val 4 0 0 false []))) ∧
          (u.tport t.val).nakDue = false) ∧
        (p.nakDue = false → p.ackDue = true → exec (.tierTxFrame t) s = .next (settle s (s.putTier t.val (s.mkTier t.val 3 0 0 false [])))) ∧
        (p.nakDue = false → p.ackDue = false → elapsed s.dt p.lastTx (usTicks 4) = true →
          exec (.tierTxFrame t) s = .next (settle s (s.putTier t.val (s.mkTier t.val 0 0 0 false [])))) ∧
        (p.nakDue = false → p.ackDue = false → elapsed s.dt p.lastTx (usTicks 4) = false → exec (.tierTxFrame t) s = .next (settle s s))) ∧
      (∀ f : Frame, frameGood f = true → f.type = 2 → f.ackv = false → s.tierBad t.val f = false → f.route.toNat % 64 ≠ s.tree.num →
        (f.seq = p.rxNext → exec (.tierRoute t f) s =
          .next (settle s ((s.setTport t.val { p with lastRx := s.dt, rxNext := p.rxNext + 1, rxAny := true, ackDue := true }).tierForward t.val f.route f.payload))) ∧
        (1 ≤ (f.seq - p.rxNext).toNat → (f.seq - p.rxNext).toNat ≤ 31 → exec (.tierRoute t f) s =
          .next (settle s (s.setTport t.val { p with lastRx := s.dt, nakDue := true }))) ∧
        (32 ≤ (f.seq - p.rxNext).toNat → exec (.tierRoute t f) s = .next (settle s (s.setTport t.val { p with lastRx := s.dt, ackDue := true })))) ∧
      (∀ f : Frame, frameGood f = true → s.tierBad t.val f = true → f.type ≠ 2 → exec (.tierViolation t f) s = .next (settle s (s.tierViolation t.val))) ∧
      (p.violTimes.length < 15 → ∃ u : State, s.tierViolation t.val = u.setTport t.val { u.tport t.val with violTimes := s.dt :: p.violTimes } ∧
        u = (s.addSat (TIER_STAT.VIOL t.val) 1).raise (Flt.TIER_VIOL t.val))) ∧
  (∀ (s : State), s.powered = true →
      (∀ (t : Nat) (r : BitVec 16) (b : List Byte), leAt b 0 1 ≠ 9 → 
        (∀ u, s.routePort (r.toNat % 64) = some u → s.tierForward t r b = s.setTport u { s.tport u with relay := (s.tport u).relay ++ [(r, b)] }) ∧
        (s.routePort (r.toNat % 64) = none → (s.isWorker = true → s.tierForward t r b = s.setTport 0 { s.tport 0 with relay := (s.tport 0).relay ++ [(r, b)] }) ∧
          (s.isWorker = false → s.tierForward t r b = s.raise (Flt.TIER_ROUTE_DROP t)))) ∧
      (∀ w : State, w = s.setFld (TIER_CTL.COMMIT 0) 1 →
        ((upTo 8).any w.tierSends = true → exec .tierRouteCommit s = .next (settle s w)) ∧
        ((upTo 8).any w.tierSends = false → exec .tierRouteCommit s = .next (settle s (w.routePoint 0))) ∧
        (w.routesStaged = true → w.routesOk = false → (w.routePoint 0).fld (TIER_STAT.CFG_MISMATCH 0) = 1 ∧ (w.routePoint 0).bit (TIER_CTL.COMMIT 0) = false ∧
          ∀ u : Fin 8, (w.routePoint 0).fld (TIER_ROUTE_LO.ROUTE u.val) = s.fld (TIER_ROUTE_LO.ROUTE u.val))) ∧
      (∀ (t : Fin 8) (f : Frame), frameGood f = true → f.type = 11 → s.tierState t.val = 4 →
        (s.bit (TIER_CTL.SAFE_PROP t.val) = true → s.bit SVC_STAT.SAFE = false → exec (.tierRxSafe t f) s = .next (settle s
          ({ s with tree := { s.tree with safeSeen := some s.dt }, due := s.due ++ [.safe 8 0xE t.val] }))) ∧
        (s.bit (TIER_CTL.SAFE_PROP t.val) = false → exec (.tierRxSafe t f) s = .next (settle s s))) ∧
      (s.bit SVC_STAT.SAFE = false → exec .tierSafeFrameTimer s = .next (settle s s)) ∧
      exec .tierSafeFrameTimer s = .next (settle s s.tierSafeTimer))

/-- Messages of the tree (R462, R466, R467, R469 to R472, R477): the row of each message type acts as the reception of its fragment, and
a whole message means what its type says. -/
def Obligations.TreeMessages : Prop :=
  (∀ (s : State) (t : Fin 8) (f : Frame), s.powered = true →
    let took (m : Nat) := Host.Outcome.next (φ := Fault) (ρ := Refusal) (settle s (if s.forMe m f then s.tierIn t.val f else s))
    exec (.cmd t f) s = took 1 ∧ exec (.reply t f) s = took 2 ∧ exec (.fault t f) s = took 3 ∧ exec (.summary t f) s = took 4 ∧
    exec (.tail t f) s = took 5 ∧ exec (.boot t f) s = took 6 ∧ exec (.bootstat t f) s = took 7 ∧ exec (.secret t f) s = took 8 ∧
    exec (.notice t f) s = took 9) ∧
  (∀ (s : State) (t : Nat) (f : Frame), s.tierState t = 3 → frameGood f = true → s.tierBad t f = false → f.type = 2 → f.ackv = false → 
    f.seq = (s.tport t).rxNext → f.route.toNat % 64 = s.tree.num → (s.tport t).partials = [] → 
    let b := f.payload
    let src := f.route.toNat / 64 % 64
    let u := s.setTport t { s.tport t with lastRx := s.dt, rxNext := (s.tport t).rxNext + 1, rxAny := true, ackDue := true }
    1 ≤ leAt b 0 1 → leAt b 0 1 ≤ 9 → leAt b 0 1 ≠ 5 → leAt b 4 4 = 0 → leAt b 8 8 < 2 ^ 62 → 
    (leAt b 1 1 = 3 → s.tierIn t f = u.tierMessage t { src := src, mtype := leAt b 0 1, body := b.drop 16, poison := maskWords (leAt b 8 8) 0 }) ∧
    (leAt b 1 1 = 1 → s.tierIn t f = u.setTport t { u.tport t with partials :=
      [{ src := src, msgId := BitVec.ofNat 16 (leAt b 2 2), mtype := leAt b 0 1, bytes := b.drop 16, poison := maskWords (leAt b 8 8) 0 }] }) ∧
    (leAt b 1 1 % 2 = 0 → s.tierIn t f = u.tierViolation t)) ∧
  (∀ (s : State) (t : Nat) (m : TierMsg),
    (m.mtype = 1 → s.upPort t = true → ∃ c : HostCmd, (s.tierMessage t m).host.accepted = s.host.accepted ++ [c] ∧ c.routed = true ∧
      c.params = slice (m.body.drop 32) 0 (readPacket (slice m.body 0 64) (some (m.body.drop 32))).plen ∧
      c.opcode = (readPacket (slice m.body 0 64) (some (m.body.drop 32))).opcode) ∧
    (m.mtype = 1 → s.upPort t = false → s.tierMessage t m = s) ∧
    (m.mtype = 2 → s.isWorker = false → s.tierMessage t m = (s.learn t m.src).takeReply m.src m.body m.poison) ∧
    (m.mtype = 3 → s.isWorker = false → m.src ≤ 8 → m.body.length = 32 → s.tierMessage t m = s.takeRecord m.src (slice m.body 0 32)) ∧
    (m.mtype = 4 → s.isWorker = false → ((s.tierMessage t m).worker m.src).summary = some m.body) ∧
    (m.mtype = 6 → s.isWorker = true → t = 0 → s.pwr.phase = .starting → s.fld BOOT_STAGE.STAGE = 2 → Config.bootCode m.body % 2 ^ 32 ≠ 0 →
      s.tierMessage t m = s.sendMsg 0 2 7 (s.fld (TIER_STAT.PEER 0)) (leBytes 4 (Config.bootCode m.body)) []) ∧
    (m.mtype = 7 → s.upPort t = false → (leAt m.body 0 4 = 0 → s.tierMessage t m = s) ∧
      (leAt m.body 0 4 ≠ 0 → (s.tport t).bootTries ≤ 1 → s.tierMessage t m = s.pushBoot t) ∧
      (leAt m.body 0 4 ≠ 0 → 2 ≤ (s.tport t).bootTries → s.tierMessage t m = s.raise (Flt.TIER_BOOT_FAIL t))) ∧
    (m.mtype = 8 → s.upPort t = true → (leAt m.body 0 1 = 1 → s.tierMessage t m = s.loadSecret (m.body.drop 1)) ∧
      (leAt m.body 0 1 = 2 → s.tierMessage t m = s.keyClear)) ∧
    (m.mtype = 9 → s.isWorker = false → m.src ≤ 8 → m.body.length = 32 → s.tierMessage t m = s.takeNotice t m.src (slice m.body 0 32))) ∧
  (∀ (s : State) (src : Nat) (b : List Byte), 
    (∀ had, had < 3136 → 3136 ≤ b.length → s.takeTail src had b false = s.putMandatory src b) ∧
    (∀ had, 3136 ≤ had → s.takeTail src had b true = (s.putComplete src b).rejoined src 0)) ∧
  (∀ (s : State) (src : Nat) (r : List Byte), leAt r 9 1 = 6 → leAt r 13 1 / 4 % 4 = 3 → src ≠ 0 →
    (s.takeRecord src r) = (s.logBytes r).setWorker src { (s.logBytes r).worker src with safe := true }) ∧
  (∀ (s : State) (c : HostCmd) (src : Nat) (b : List Byte), s.isWorker = false →
    s.host.accepted.find? (fun c => !c.routed && c.sent.contains src && c.devices.contains src) = some c → leAt b 4 4 = 0 →
    s.takeReply src b [] = (s.cmdAnswered c src).postFinal c src (leAt b 0 2) (leAt b 2 2) (slice b 8 16)) ∧
  (∀ s : State, s.powered = true → (s.summaryDue = true → ∃ u : State, exec .summaryTimer s = .next (settle s (u.sendMsg 0 4 4 0 u.summaryBody [])) ∧
      u.tree.sumSeq = s.tree.sumSeq + 1 ∧ u.tree.lastSum = s.dt ∧ u.summaryBody.length = 1600) ∧
    (s.summaryDue = false → exec .summaryTimer s = .next (settle s s)))

/-! ### Power, clocks, resets, pins, SMBus, JTAG (chapters 17 and 18) -/

/-- The device states and their wake events (R484 to R490, R223): a request waits for the housekeeping tick, D-NAP begins when its
conditions have held for NAP_HOLD and every L2 is clean, D-SLEEP ends in power off, a wake event that is enabled ends it, restoration ends in READY or in
a full start; an idle pond gates by its policy and wakes ahead of a known event. -/
def Obligations.PowerStates : Prop :=
  ∀ s : State, 
    (s.powered = true → 
      exec .pwrReqNap s = .next (settle s { s with pwr := { s.pwr with request := 1 } }) ∧
      exec .pwrReqSleep s = .next (settle s { s with pwr := { s.pwr with request := 2 } }) ∧
      (s.pwr.request = 1 → s.napWhy = 0 → s.commandRuns = false → s.napping = false → s.powerTick =
        if (upTo 68).any s.cleanPonds.l2Held then s.cleanPonds else s.cleanPonds.napEnter) ∧
      s.napEnter.pwr.request = 0 ∧
      (s.pwr.request = 1 → s.napWhy ≠ 0 → s.powerTick = 
        State.raise { s.setFld PWR_NAP_BLOCK.WHY s.napWhy with pwr := { s.pwr with request := 0 } } Flt.PWR_ENTRY_ABORT) ∧
      (s.pwr.request = 2 → s.sleepWhy = 0 → s.commandRuns = false → s.powerTick.fld PWR_STAT.DSTATE = 3 ∧ s.powerTick.pwr.entryAt = some s.dt) ∧
      (∀ t, s.bit PWR_CTL.NAP_AUTO = true → s.fld PWR_STAT.DSTATE = 1 → s.pwr.phase = .ready → s.napWhy = 0 → s.commandRuns = false →
        s.pwr.napSince = some t → 
        (elapsed s.dt t (usTicks (s.fld PWR_CTL.NAP_HOLD)) = true → exec .napAutoHold s = .next (settle s s.napTry)) ∧
        (elapsed s.dt t (usTicks (s.fld PWR_CTL.NAP_HOLD)) = false → exec .napAutoHold s = .next (settle s s))) ∧
      (s.napEnter.napping = true ∧ s.napEnter.fld (PLL_STAT.RUN 3) = 0 ∧ s.napEnter.fld (PLL_STAT.RUN 7) = 0) ∧
      (s.napping = true → s.napEnd.fld PWR_STAT.DSTATE = 1 ∧ s.napEnd.fld (PLL_STAT.RUN 3) = 1) ∧
      (s.pwr.entryAt = none → exec .dSleepPowerOff s = .next (settle s s)) ∧
      (∀ t, s.pwr.entryAt = some t → (upTo 68).any s.l2Held = true → exec .dSleepPowerOff s = .next (settle s s)) ∧
      (∀ t, s.pwr.entryAt = some t → (upTo 68).any s.l2Held = false → s.isWorker = false → ∃ u : State, exec .dSleepPowerOff s = .next (settle s u.darken) ∧
        u.darken.pwr.phase = .asleep ∧ u.darken.pwr.entryAt = none ∧ u.darken.pair SLEEP_DT_LO.V SLEEP_DT_HI.V = u.dt) ∧
      (s.pwr.phase = .resuming → exec (.resumeReady true) s = .next (settle s (s.resumeEnd true)) ∧ s.afterSleep.pwr.phase = .ready ∧
        s.afterSleep.host.accepted = [] ∧ (∀ w, s.afterSleep.str w = State.reset.str w) ∧
        ∃ u : State, exec (.resumeReady false) s = .next (settle s (u.raise Flt.PWR_RESUME_FAIL))) ∧
      (∀ ok, s.pwr.phase ≠ .resuming → exec (.resumeReady ok) s = .next (settle s s)) ∧
      (∀ p : Fin 68, (s.fld (POND_STAT.ROLE p.val) ≠ 0 ∨ Nat.testBit (s.fld (POND_IDLE.PGATE (p.val / 32))) (p.val % 32) = true) →
        (s.pondQuiet p = true → exec (.pondPowerGate p) s = .next (settle s (s.gatePond p.val))) ∧
        (s.pondQuiet p = false → exec (.pondPowerGate p) s = .next (settle s s))) ∧
      (∀ p : Fin 68, s.isGated p.val = false → let u := s.maintApply p.val 6 0
        s.gatePond p.val = if u.l2Held p.val then u else
          (u.setPond p.val { u.pond p.val with l1d := L1.init, l1i := L1.init }).setFld (pondGated p.val)
            (u.fld (pondGated p.val) + 2 ^ (p.val % 32))) ∧
      (∀ (p : Fin 68) (w : StrId) (t : Word) (c : RegNo), w ∈ pondStriders p → s.isGated p.val = true → s.napping = false → (s.str w).run = .waiting (.waitt t c) →
        0 < dtDiff t s.dt → dtDiff t s.dt ≤ usTicks 3 → exec (.pondEarlyWake p) s = .next (settle s (s.wakePond p.val))) ∧
      (∀ p : Fin 68, s.isGated p.val = false → exec (.pondEarlyWake p) s = .next (settle s s))) ∧
    (∀ k : Nat, Nat.testBit (s.fld PWR_WAKE_EN.EN) k = true → s.pwr.phase = .asleep → (s.wakeEvent k).pwr.phase = .resuming ∧
      (s.wakeEvent k).fld PWR_STAT.DSTATE = 4 ∧ (s.wakeEvent k).fld PWR_WAKE_SRC.SRC = (s.fld PWR_WAKE_SRC.SRC ||| 2 ^ k) % 2 ^ PWR_WAKE_SRC.SRC.width) ∧
    (∀ k : Nat, Nat.testBit (s.fld PWR_WAKE_EN.EN) k = false → s.wakeEvent k = s) ∧
    (s.powered = false → exec .wakeNFall s = .next (settle s ((s.setPin 8 false).wakeEvent 0))) ∧
    (s.powered = true → exec .wakeNFall s = .next (settle s (((s.setPin 8 false).pinEdge 4).wakeEvent 0))) ∧
    (s.pair PWR_WAKE_DT_LO.DT PWR_WAKE_DT_HI.DT ≠ 0 → dtGe s.dt (s.pair PWR_WAKE_DT_LO.DT PWR_WAKE_DT_HI.DT) = true →
      exec .wakeTimer s = .next (settle s (s.wakeEvent 1))) ∧
    (∀ t : Fin 8, ((s.tport t.val).armed = true → exec (.tierActivityWake t) s = .next (settle s (s.wakeEvent 2))) ∧
      ((s.tport t.val).armed = false → exec (.tierActivityWake t) s = .next (settle s s)))

/-- Clocks, voltage and temperature (R482, R499, R505, R515, R516): a PLL that loses lock, a write to the regulator that is not
acknowledged, a rise that waits SETTLE, low margin, a sample that passes a limit, and a throttled basin that moves by 100 MHz. -/
def Obligations.ClocksVoltageTemperature : Prop :=
  ∀ s : State, s.powered = true →
    (∀ k : Fin 8, let u := (s.setFld (PLL_STAT.LOCK k.val) 0).addSat (PLL_STAT.LOSSES k.val) 1
      (k = 0 → exec (.pllLockLoss k) s = .next (settle s (State.raise { u with time := { u.time with tbclk := false } } Flt.TIME_TBCLK_LOSS))) ∧
      (k ≠ 0 → exec (.pllLockLoss k) s = .next (settle s (u.raise Flt.PWR_PLL_UNLOCK)))) ∧
    (∀ k : Fin 8, s.bit (PLL_STAT.RUN k.val) = true → ∃ u : State, exec (.pllRelock k) s = .next (settle s u) ∧ u.fld (PLL_STAT.LOCK k.val) = 1 ∧
      (k = 0 → s.time.locked = true → u.time.tbclk = true)) ∧
    (s.pwr.nak = none → s.pwr.raise ≠ [] → exec (.avsWriteRetry false) s =
      .next (settle s (State.raise { s with pwr := { s.pwr with nak := some s.dt, voltAt := none } } Flt.PWR_AVS_NAK)) ∧
      exec (.avsWriteRetry true) s = .next (settle s s)) ∧
    (∀ t, s.pwr.nak = some t → elapsed s.dt t (usTicks 100) = true → ∃ u : State, exec (.avsWriteRetry true) s = .next (settle s u) ∧
      u.out = s.out ++ [.avs (s.fld AVS_STAT.VREQ)] ∧ u.pwr.nak = none ∧ u.pwr.voltAt = some s.dt) ∧
    (∀ t, s.pwr.voltAt = some t → elapsed s.dt t (usTicks (s.fld AVS_CTL.SETTLE)) = true → ∃ u : State, exec .avsSettle s = .next (settle s u) ∧
      u.pwr.voltAt = none ∧ u.pwr.raise = []) ∧
    (∀ b : Fin 4, exec (.vmargin b) s = .next (settle s (s.pathMargin b.val)) ∧ 
      (700 ≤ s.eclk b.val → s.eclk b.val ≤ 3000 → (s.pathMargin b.val).eclk b.val = s.eclk b.val - 100)) ∧
    exec .undervoltage s = .next (settle s (s.raise Flt.PWR_UV)) ∧
    (∀ ts : List (BitVec 16), exec (.thermSample ts) s = .next (settle s (s.thermSample ts)) ∧
      (ts.length ≤ 16 → (∃ t ∈ ts, sensorOk t.toInt = true ∧ 2240 ≤ t.toInt) → (s.thermSample ts).pwr.phase = .tripped ∧ (s.thermSample ts).fld THERM_AGE.TRIP = 1)) ∧
    (∀ b : Fin 4, s.throttled b.val = false → s.basinHot b.val (s.fld THERM_LIMIT.THROT) = true →
      ∃ u : State, s.throttleStart b.val = u.raise Flt.THERM_THROTTLE ∧ u.throttled b.val = true) ∧
    exec .throttleStep s = .next (settle s ((upTo 4).foldl (fun (s : State) b => s.throttleMove b) s)) ∧
    (∀ b : Fin 4, (s.throttled b.val = false → s.throttleMove b.val = s) ∧
      (s.throttled b.val = true → s.basinHot b.val ((s.fld THERM_LIMIT.THROT : Int) - s.fld THERM_LIMIT.HYST) = true →
        Nat.testBit s.pwr.cooling.toNat b.val = false → Tab.get (fun _ => 0xFFFF) (s.throttleMove b.val).pwr.thermLim b.val =
          max 600 (min (limitOf s.pwr.thermLim b.val) (s.fld (ECLK_CTL.MHZ b.val)) - 100)) ∧
      (s.throttled b.val = true → s.basinHot b.val ((s.fld THERM_LIMIT.THROT : Int) - s.fld THERM_LIMIT.HYST) = false →
        Tab.get (fun _ => 0xFFFF) (s.throttleMove b.val).pwr.thermLim b.val = 0xFFFF ∨
        Tab.get (fun _ => 0xFFFF) (s.throttleMove b.val).pwr.thermLim b.val = min (limitOf s.pwr.thermLim b.val) (s.fld (ECLK_CTL.MHZ b.val)) + 100))

/-- Resets and the start of a device (R491 to R497): what RST_N, VDD_AON, PERST_N, RST_CTL and the end of FILL do; and what a
reset of the device leaves: the striders idle, no command accepted, the cause recorded. -/
def Obligations.ResetsAndStart : Prop :=
  ∀ s : State,
    exec .rstNFall s = .next (settle s (s.afterDevice .held 1)) ∧
    (∀ (ph : Phase) (cause : Nat), cause < 8 → let r := s.afterDevice ph cause
      r.pwr.phase = ph ∧ r.fld RST_CAUSE.LAST = cause ∧ (∀ w, r.str w = State.reset.str w) ∧ r.host.accepted = [] ∧ r.out = s.out ∧ r.pending = s.pending) ∧
    (∀ (role boot : BitVec 2) (c : StartCfg), 
      (s.pwr.phase = .held → exec (.rstNRise role boot c) s = .next (settle s (s.startRom role.toNat boot.toNat c))) ∧
      (s.pwr.phase = .ready → exec (.rstNRise role boot c) s = .next (settle s s)) ∧
      (role = 3 → (s.startRom role.toNat boot.toNat c).pwr.phase = .stopped) ∧
      (role = 0 → boot ≠ 3 → c.fail ≠ 0 → (s.startRom role.toNat boot.toNat c).pwr.phase = .stopped)) ∧
    (exec .powerOn s = .next (settle s s.afterPowerOn) ∧ s.afterPowerOn.pwr = State.reset.pwr ∧ s.afterPowerOn.striders = State.reset.striders) ∧
    (s.powered = true → exec (.perstN true) s = .next (settle s (if s.bit PWR_CTL.PERST_DEV && !s.isWorker
      then ((s.setPin 9 false).afterDevice .starting 3).restart (s.fld STRAP.ROLE) (s.fld STRAP.BOOT) else (s.setPin 9 false).hostBlockReset true))) ∧
    exec (.perstN false) s = .next (settle s (s.setPin 9 true)) ∧
    (s.powered = true →
      exec (.rstCtlKind 0) s = .next (settle s s) ∧
      exec (.rstCtlKind 1) s = .next (settle s { s with due := s.due ++ [.reset 1] }) ∧
      exec (.rstCtlKind 2) s = .next (settle s { s with due := s.due ++ [.reset 2] }) ∧
      exec (.rstCtlKind 3) s = .next (settle s (s.setFld PWR_STAT.CFG_REJECT 1)) ∧
      (∀ blk inst, exec (.blkGo blk inst) s = .next (settle s (s.writeReg .svc RST_CTL.addr (blk.toNat * 2 ^ 24 + inst.toNat * 2 ^ 8 + 4)))) ∧
      (s.pwr.phase = .starting → s.fld BOOT_STAGE.STAGE = 5 → s.rgnBusy = false → ∃ u : State, exec .ready s = .next (settle s (u.notice 0 3)) ∧
        u.pwr.phase = .ready ∧ u.bit PWR_STAT.READY = true ∧ u.bit DEV_CTL.CFG_LOCK = true ∧ u.fld BOOT_STAGE.STAGE = 0x0F ∧
        u.pair DEV_READY_DT_LO.DT DEV_READY_DT_HI.DT = s.dt ∧ u.sec.boots = s.sec.boots + 1) ∧
      (s.pwr.phase = .ready → exec .ready s = .next (settle s s)))

/-- The chain test, SMBus and JTAG (R508, R512, R514, Tables 18-10, 18-11, 18-15). -/
def Obligations.PinsSmbusJtag : Prop :=
  ∀ s : State,
    (s.powered = true → 
      ((∃ n < 96, s.bit (WEIR_CTL.EN n) = true) → exec .chainTest s = .next (settle s (s.setFld THERM_STAT.CFG_REJECT 1))) ∧
      ((∀ n < 96, s.bit (WEIR_CTL.EN n) = false) → exec .chainTest s =
        .next (settle s { s.setFld PIN_CTL.CHAIN_TEST 1 with pwr := { s.pwr with testAt := some s.dt } })) ∧
      (∀ t, s.pwr.testAt = some t → elapsed s.dt t (usTicks 10000) = true → exec .chainTestEnd s =
        .next (settle s { s.setFld PIN_CTL.CHAIN_TEST 0 with pwr := { s.pwr with testAt := none } })) ∧
      (s.pwr.testAt = none → exec .chainTestEnd s = .next (settle s s))) ∧
    (∀ (code : Nat) (pec : Pec) (data : List Byte), code < 256 → s.pwr.phase = .ready → s.fld PWR_STAT.DSTATE ≠ 3 →
      ((pec = .good ∨ (pec = .none ∧ s.bit SMB_CTL.PEC_REQ = false)) → s.smbRead code pec data = (s.setFld SMB_STAT.LAST_CMD code).emit (.smb data)) ∧
      ((pec = .bad ∨ (pec = .none ∧ s.bit SMB_CTL.PEC_REQ = true)) → s.smbRead code pec data = (s.addSat SMB_STAT.ERRS 1).emit .smbNack)) ∧
    (∀ (code : Nat) (pec : Pec) (data : List Byte), s.pwr.phase = .asleep → code ≠ 0 → s.smbRead code pec data = (s.addSat SMB_STAT.ERRS 1).emit .smbNack) ∧
    (∀ pec : Pec, let answers (code : Nat) (b : List Byte) := Host.Outcome.next (φ := Fault) (ρ := Refusal) (settle s (s.smbRead code pec b))
      exec (.smbBootStage pec) s = answers 0x00 (leBytes 1 (s.fld BOOT_STAGE.STAGE) ++ leBytes 1 (s.fld BOOT_STAGE.FAIL)) ∧
      exec (.smbState pec) s = answers 0x01 (leBytes 2 (s.smbPhase + 8 * s.tree.num)) ∧
      exec (.smbTj pec) s = answers 0x02 (leBytes 2 (s.fld THERM_HOT.HOT)) ∧
      exec (.smbPower pec) s = answers 0x03 (leBytes 2 (s.fld PWR_MEAS.POWER)) ∧
      exec (.smbSerial pec) s = answers 0x04 (leBytes 8 Config.serial.toNat) ∧
      exec (.smbClassDs pec) s = answers 0x05 (leBytes 4 s.dsBlocks) ∧
      exec (.smbMcTemp pec) s = answers 0x06 ((upTo 8).flatMap (fun c => leBytes 1 (s.fld (MC_TEMP.CUR_T c)))) ∧
      (∀ k : Fin 8, exec (.smbThermSense k pec) s = answers (0x10 + k) (s.peeks [THERM_SENSE.addr k]))) ∧
    (∀ (a : BitVec 7), s.pwr.phase = .ready → s.fld PWR_STAT.DSTATE ≠ 3 →
      exec (.smbArp a .good) s = .next (settle s (s.setFld SMB_CTL.ADDR a.toNat)) ∧
      exec (.smbArp a .bad) s = .next (settle s ((s.addSat SMB_STAT.ERRS 1).emit .smbNack))) ∧
    (s.pwr.phase = .ready → (s.smbAlert = true → exec .smbAlertResponse s = .next (settle s (s.emit (.smb (leBytes 1 (2 * s.fld SMB_CTL.ADDR)))))) ∧
      (s.smbAlert = false → exec .smbAlertResponse s = .next (settle s s))) ∧
    (let ir (k : Nat) := s.setFld JTAG_STAT.IR k
      ∀ low : Bool, low = (s.pwr.phase == .held || s.pwr.phase == .tripped) →
      exec .extest s = .next (settle s (ir (if low then 0 else 0xFF))) ∧
      exec .clamp s = .next (settle s (ir (if low then 3 else 0xFF))) ∧
      exec .highz s = .next (settle s (ir (if low then 4 else 0xFF))) ∧
      exec .samplePreload s = .next (settle s (ir 1)) ∧
      exec .idcode s = .next (settle s ((ir 2).emit (.jtag 0x310249AB#32))) ∧
      exec .dbgPort s = .next (settle s (ir (if s.bit SEC_STAT.DBG_OPEN then 0x10 else 0xFF))) ∧
      exec .mbist s = .next (settle s (ir (if s.bit SEC_STAT.DBG_OPEN then 0x11 else 0xFF))) ∧
      exec .bypass s = .next (settle s (ir 0xFF)))

/-! ### The whole machine -/

/-- In a calm state the end of a command changes nothing: what a command's own effect gives is what the command leaves, everything it does not
name unchanged. -/
def Obligations.SettleCalm : Prop := ∀ s₀ s : State, s.calm → settle s₀ s = s

/-- The frame of the integer register instructions (Tables 07-8 and 07-9): but for the strider that runs one nothing changes, no byte of memory, no
register of a block, no output; of that strider only Xd, the flags if F is 1, PC, the loop levels the loop comparison ends, RC with
REP, and the resume record that TRET chose. -/
def Obligations.IntegerFrame : Prop :=
  ∀ (s : State) (w : StrId) (p : Pfx) (c : Instr) (d : RegNo) (flagged : Bool), s.issues w p → p.nt = false → (s.str w).haltDue = false →
    ((∃ f : FmtB, p.wide = false ∧ d = f.d ∧ (c ∈ [Instr.add w p f, .sub w p f, .and w p f, .or w p f, .xor w p f, .shl w p f, .shr w p f, .sar w p f,
        .mul w p f, .mulh w p f, .mulhu w p f] ∧ flagged = f.x ∨ c ∈ [Instr.min w p f, .max w p f] ∧ flagged = false ∨
        c ∈ [Instr.div w p f, .divu w p f, .rem w p f, .remu w p f] ∧ (s.str w).xr f.b ≠ 0 ∧ flagged = f.x ∨
        c ∈ [Instr.clz w p f, .popc w p f] ∧ f.b = 0 ∧ f.x = false ∧ flagged = false ∨
        c ∈ [Instr.cmp w p f, .tst w p f] ∧ f.d = 0 ∧ f.x = false ∧ flagged = true)) ∨
      (∃ f : FmtI, d = f.d ∧ (c ∈ [Instr.addi w p f, .andi w p f, .ori w p f, .xori w p f, .muli w p f] ∧ f.x.toNat ≤ 1 ∧ flagged = (f.x.toNat == 1) ∨
        c ∈ [Instr.cmpi w p f] ∧ f.d = 0 ∧ f.x = 0 ∧ flagged = true ∨ c ∈ [Instr.movi w p f] ∧ f.a = 0 ∧ f.x = 0 ∧ flagged = false))) →
    ∃ u : State, exec c s = .next (settle s u) ∧
      u = s.setStr w { s.str w with x := (u.str w).x, pc := (u.str w).pc, rc := (u.str w).rc, psw := (u.str w).psw, lc := (u.str w).lc, uc := (u.str w).uc } ∧
      (∀ r : RegNo, r ≠ d → (u.str w).xr r = (s.str w).xr r) ∧ (u.str w).xr 0 = 0 ∧
      (p.rep = false → (u.str w).rc = (s.str w).rc) ∧ (p.rep = true → (u.str w).rc = (s.str w).rc - 1) ∧
      (flagged = false → pswSetLd (u.str w).psw 0 = pswSetLd (s.str w).psw 0) ∧
      pswFlags (pswSetLd (u.str w).psw 0) (flagsLogic 0) = pswFlags (pswSetLd (s.str w).psw 0) (flagsLogic 0) ∧
      ((s.str w).psw = pswSetLd (s.str w).psw 0 → (u.str w).lc = (s.str w).lc)

/-- No command is refused or faults: every command answers a next state, from every state.
Without power only the always-on inputs act (R481, R493, R516): RST_N, VDD_AON, PERST_N, the wake events, SMBus and JTAG. -/
def Obligations.EveryCommandAnswersAndPowerGates : Prop :=
  (∀ (c : Instr) (s : State), ∃ t : State, exec c s = .next t) ∧
  (∀ (c : Instr) (s : State), s.powered = false → exec c s = .next s ∨
      c = .rstNFall ∨ (∃ r b k, c = .rstNRise r b k) ∨ c = .powerOn ∨ (∃ l, c = .perstN l) ∨ c = .wakeNFall ∨ c = .wakeTimer ∨
      (∃ t, c = .tierActivityWake t) ∨
      (∃ e, c = .smbBootStage e ∨ c = .smbState e ∨ c = .smbTj e ∨ c = .smbPower e ∨ c = .smbSerial e ∨ c = .smbClassDs e ∨ c = .smbMcTemp e) ∨
      (∃ k e, c = .smbThermSense k e) ∨ (∃ a e, c = .smbArp a e) ∨ c = .smbAlertResponse ∨
      c ∈ [Instr.extest, .samplePreload, .idcode, .clamp, .highz, .dbgPort, .mbist, .bypass])

/-- The invariant of D-NAP (R486, R487): in D-NAP no strider runs and the device is not in the safe state; and the time since which the
conditions hold is kept only while they do. -/
def Obligations.NapKept : Prop :=
  ∀ s t : State,
    (s.napping = true → s.anyRuns = false ∧ s.bit SVC_STAT.SAFE = false) →
    (s.pwr.napSince ≠ none → s.bit PWR_CTL.NAP_AUTO = true ∧ s.fld PWR_STAT.DSTATE = 1 ∧ s.napWhy = 0 ∧ s.commandRuns = false) →
    step s = .next t →
    (t.napping = true → t.anyRuns = false ∧ t.bit SVC_STAT.SAFE = false) ∧
    (t.pwr.napSince ≠ none → t.bit PWR_CTL.NAP_AUTO = true ∧ t.fld PWR_STAT.DSTATE = 1 ∧ t.napWhy = 0 ∧ t.commandRuns = false)

/-- The invariant of D-NAP holds at reset. -/
def Obligations.NapKeptAtReset : Prop :=  (State.reset.napping = true → State.reset.anyRuns = false ∧ State.reset.bit SVC_STAT.SAFE = false) ∧ State.reset.pwr.napSince = none
end

