-- ==== Sys2Proof/Laws/Tab.lean ====
section
/-!
SUPPORT. The laws of sparse tables: a read after a write, two writes, and the canonical form.
-/

namespace Sys2Proof.Machine

variable {α : Type}

@[simp] theorem Tab.get_erase_same (d : Nat → α) (t : Tab α) (k : Nat) : Tab.get d (Tab.erase t k) k = d k := by
  induction t with
  | nil => rfl
  | cons e t ih =>
    simp only [Tab.erase]; split_ifs with h
    · exact ih
    · simp [Tab.get, ih, h]

theorem Tab.get_erase_other (d : Nat → α) (t : Tab α) {j k : Nat} (h : j ≠ k) : Tab.get d (Tab.erase t k) j = Tab.get d t j := by
  induction t with
  | nil => rfl
  | cons e t ih =>
    simp only [Tab.erase]; split_ifs with hk
    · subst hk; simp [Tab.get, ih, h]
    · simp [Tab.get, ih]

theorem Tab.get_insert_same (d : Nat → α) (t : Tab α) (k : Nat) (v : α) : Tab.get d (Tab.insert (Tab.erase t k) k v) k = v := by
  induction t with
  | nil => simp [Tab.erase, Tab.insert, Tab.get]
  | cons e t ih =>
    simp only [Tab.erase]; split_ifs with hk
    · exact ih
    · simp only [Tab.insert]; split_ifs <;> simp [Tab.get, ih, hk]

theorem Tab.get_insert_other (d : Nat → α) (t : Tab α) {j k : Nat} (v : α) (h : j ≠ k) : Tab.get d (Tab.insert t k v) j = Tab.get d t j := by
  induction t with
  | nil => simp [Tab.insert, Tab.get, h]
  | cons e t ih => simp only [Tab.insert]; split_ifs <;> simp [Tab.get, ih, h]

@[simp] theorem Tab.erase_erase (t : Tab α) (k : Nat) : Tab.erase (Tab.erase t k) k = Tab.erase t k := by
  induction t with
  | nil => rfl
  | cons e t ih =>
    by_cases h : k = e.1
    · simp [Tab.erase, h, h ▸ ih]
    · simp [Tab.erase, h, ih]

@[simp] theorem Tab.erase_insert (t : Tab α) (k : Nat) (v : α) : Tab.erase (Tab.insert t k v) k = Tab.erase t k := by
  induction t with
  | nil => simp [Tab.insert, Tab.erase]
  | cons e t ih =>
    simp only [Tab.insert]; split_ifs
    · simp [Tab.erase]
    · simp only [Tab.erase, ih]

variable [DecidableEq α]

/-- A read of what was written. -/
@[simp] theorem Tab.get_set_same (d : Nat → α) (t : Tab α) (k : Nat) (v : α) : Tab.get d (Tab.set d t k v) k = v := by
  unfold Tab.set; split_ifs with h
  · simp [h]
  · exact Tab.get_insert_same d t k v

/-- A write leaves every other key as it was. -/
theorem Tab.get_set_other (d : Nat → α) (t : Tab α) {j k : Nat} (v : α) (h : j ≠ k) : Tab.get d (Tab.set d t k v) j = Tab.get d t j := by
  unfold Tab.set; split_ifs
  · exact Tab.get_erase_other d t h
  · rw [Tab.get_insert_other d _ v h, Tab.get_erase_other d t h]

theorem Tab.get_set (d : Nat → α) (t : Tab α) (j k : Nat) (v : α) : Tab.get d (Tab.set d t k v) j = if j = k then v else Tab.get d t j := by
  split_ifs with h
  · rw [h, Tab.get_set_same]
  · exact Tab.get_set_other d t v h

/-- The later of two writes to a key counts. -/
@[simp] theorem Tab.set_set (d : Nat → α) (t : Tab α) (k : Nat) (u v : α) : Tab.set d (Tab.set d t k u) k v = Tab.set d t k v := by
  unfold Tab.set; split_ifs <;> simp

/-- Every key of a table is above a bound. -/
def Tab.above (k : Nat) (t : Tab α) : Prop := ∀ e ∈ t, k < e.1

omit [DecidableEq α] in
theorem Tab.sorted_cons (e : Nat × α) (t : Tab α) : Tab.sorted (e :: t) = true ↔ Tab.above e.1 t ∧ Tab.sorted t = true := by
  induction t generalizing e with
  | nil => simp [Tab.sorted, Tab.above]
  | cons a t ih =>
    simp only [Tab.sorted, Bool.and_eq_true, decide_eq_true_eq, ih a, Tab.above]
    constructor
    · rintro ⟨h, h1, h2⟩
      refine ⟨fun x hx => ?_, h1, h2⟩
      rcases List.mem_cons.1 hx with rfl | hx
      · exact h
      · exact lt_trans h (h1 x hx)
    · rintro ⟨h, h1, h2⟩
      exact ⟨h a (List.mem_cons_self ..), h1, h2⟩

omit [DecidableEq α] in
theorem Tab.mem_erase {t : Tab α} {k : Nat} {e : Nat × α} (h : e ∈ Tab.erase t k) : e ∈ t ∧ e.1 ≠ k := by
  induction t with
  | nil => simp [Tab.erase] at h
  | cons a t ih =>
    simp only [Tab.erase] at h
    split_ifs at h with hk
    · exact ⟨List.mem_cons_of_mem _ (ih h).1, (ih h).2⟩
    · rcases List.mem_cons.1 h with rfl | h
      · exact ⟨List.mem_cons_self .., fun x => hk x.symm⟩
      · exact ⟨List.mem_cons_of_mem _ (ih h).1, (ih h).2⟩

omit [DecidableEq α] in
theorem Tab.mem_insert {t : Tab α} {k : Nat} {v : α} {e : Nat × α} (h : e ∈ Tab.insert t k v) : e = (k, v) ∨ e ∈ t := by
  induction t with
  | nil => simpa [Tab.insert] using h
  | cons a t ih =>
    simp only [Tab.insert] at h
    split_ifs at h
    · simpa using h
    · rcases List.mem_cons.1 h with rfl | h
      · exact .inr (List.mem_cons_self ..)
      · rcases ih h with h | h
        · exact .inl h
        · exact .inr (List.mem_cons_of_mem _ h)

omit [DecidableEq α] in
theorem Tab.sorted_erase {t : Tab α} (k : Nat) (h : Tab.sorted t = true) : Tab.sorted (Tab.erase t k) = true := by
  induction t with
  | nil => rfl
  | cons a t ih =>
    obtain ⟨h1, h2⟩ := (Tab.sorted_cons a t).1 h
    simp only [Tab.erase]; split_ifs
    · exact ih h2
    · exact (Tab.sorted_cons _ _).2 ⟨fun e he => h1 e (Tab.mem_erase he).1, ih h2⟩

omit [DecidableEq α] in
theorem Tab.sorted_insert {t : Tab α} {k : Nat} (v : α) (h : Tab.sorted t = true) (hk : ∀ e ∈ t, e.1 ≠ k) :
    Tab.sorted (Tab.insert t k v) = true := by
  induction t with
  | nil => simp [Tab.insert, Tab.sorted]
  | cons a t ih =>
    obtain ⟨h1, h2⟩ := (Tab.sorted_cons a t).1 h
    have ha := hk a (List.mem_cons_self ..)
    simp only [Tab.insert]; split_ifs with hlt
    · refine (Tab.sorted_cons _ _).2 ⟨fun e he => ?_, h⟩
      rcases List.mem_cons.1 he with rfl | he
      · exact hlt
      · exact lt_trans hlt (h1 e he)
    · refine (Tab.sorted_cons _ _).2 ⟨fun e he => ?_, ih h2 (fun e he => hk e (List.mem_cons_of_mem _ he))⟩
      rcases Tab.mem_insert he with rfl | he
      · exact lt_of_le_of_ne (not_lt.1 hlt) ha
      · exact h1 e he

/-- A write keeps the canonical form. -/
theorem Tab.wf_set {d : Nat → α} {t : Tab α} (k : Nat) (v : α) (h : Tab.wf d t = true) : Tab.wf d (Tab.set d t k v) = true := by
  simp only [Tab.wf, Bool.and_eq_true, List.all_eq_true, decide_eq_true_eq] at h ⊢
  unfold Tab.set; split_ifs with hv
  · exact ⟨Tab.sorted_erase k h.1, fun e he => h.2 e (Tab.mem_erase he).1⟩
  · refine ⟨Tab.sorted_insert v (Tab.sorted_erase k h.1) (fun e he => (Tab.mem_erase he).2), fun e he => ?_⟩
    rcases Tab.mem_insert he with rfl | he
    · exact hv
    · exact h.2 e (Tab.mem_erase he).1

/-- Removing entries keeps the canonical form. -/
theorem Tab.wf_filter {d : Nat → α} {t : Tab α} (p : Nat × α → Bool) (h : Tab.wf d t = true) : Tab.wf d (t.filter p) = true := by
  simp only [Tab.wf, Bool.and_eq_true, List.all_eq_true, decide_eq_true_eq] at h ⊢
  refine ⟨?_, fun e he => h.2 e (List.mem_of_mem_filter he)⟩
  obtain ⟨h, -⟩ := h
  induction t with
  | nil => rfl
  | cons a t ih =>
    obtain ⟨h1, h2⟩ := (Tab.sorted_cons a t).1 h
    simp only [List.filter]; split
    · exact (Tab.sorted_cons _ _).2 ⟨fun e he => h1 e (List.mem_of_mem_filter he), ih h2⟩
    · exact ih h2

theorem Tab.wf_nil (d : Nat → α) : Tab.wf d [] = true := rfl

/-- Tables in canonical form that read alike are the same table. -/
theorem Tab.wf_tail {d : Nat → α} {e : Nat × α} {t : Tab α} (h : Tab.wf d (e :: t) = true) :
    Tab.wf d t = true ∧ Tab.above e.1 t ∧ e.2 ≠ d e.1 := by
  simp only [Tab.wf, Bool.and_eq_true, List.all_eq_true, decide_eq_true_eq] at h ⊢
  obtain ⟨h1, h2⟩ := (Tab.sorted_cons e t).1 h.1
  exact ⟨⟨h2, fun x hx => h.2 x (List.mem_cons_of_mem _ hx)⟩, h1, h.2 e (List.mem_cons_self ..)⟩

end Sys2Proof.Machine
end

