-- ==== Sys2Proof/Laws/State.lean ====
section
/-!
SUPPORT. What each update of State leaves as it was: one lemma per field and per read of the updates that write one field, and the read
of what was written.
-/

namespace Sys2Proof.Machine

/-! ### Fields -/

@[simp] theorem State.setFld_staged (s : State) (f : Fld) (v : Nat) : (s.setFld f v).staged = s.staged := rfl
@[simp] theorem State.setFld_latches (s : State) (f : Fld) (v : Nat) : (s.setFld f v).latches = s.latches := rfl
@[simp] theorem State.setFld_time (s : State) (f : Fld) (v : Nat) : (s.setFld f v).time = s.time := rfl
@[simp] theorem State.setFld_axes (s : State) (f : Fld) (v : Nat) : (s.setFld f v).axes = s.axes := rfl
@[simp] theorem State.setFld_aports (s : State) (f : Fld) (v : Nat) : (s.setFld f v).aports = s.aports := rfl
@[simp] theorem State.setFld_weirs (s : State) (f : Fld) (v : Nat) : (s.setFld f v).weirs = s.weirs := rfl
@[simp] theorem State.setFld_speed (s : State) (f : Fld) (v : Nat) : (s.setFld f v).speed = s.speed := rfl
@[simp] theorem State.setFld_adt (s : State) (f : Fld) (v : Nat) : (s.setFld f v).adt = s.adt := rfl
@[simp] theorem State.setFld_chans (s : State) (f : Fld) (v : Nat) : (s.setFld f v).chans = s.chans := rfl
@[simp] theorem State.setFld_gplls (s : State) (f : Fld) (v : Nat) : (s.setFld f v).gplls = s.gplls := rfl
@[simp] theorem State.setFld_striders (s : State) (f : Fld) (v : Nat) : (s.setFld f v).striders = s.striders := rfl
@[simp] theorem State.setFld_ponds (s : State) (f : Fld) (v : Nat) : (s.setFld f v).ponds = s.ponds := rfl
@[simp] theorem State.setFld_basins (s : State) (f : Fld) (v : Nat) : (s.setFld f v).basins = s.basins := rfl
@[simp] theorem State.setFld_mcs (s : State) (f : Fld) (v : Nat) : (s.setFld f v).mcs = s.mcs := rfl
@[simp] theorem State.setFld_pm (s : State) (f : Fld) (v : Nat) : (s.setFld f v).pm = s.pm := rfl
@[simp] theorem State.setFld_pmPoison (s : State) (f : Fld) (v : Nat) : (s.setFld f v).pmPoison = s.pmPoison := rfl
@[simp] theorem State.setFld_dram (s : State) (f : Fld) (v : Nat) : (s.setFld f v).dram = s.dram := rfl
@[simp] theorem State.setFld_cmp (s : State) (f : Fld) (v : Nat) : (s.setFld f v).cmp = s.cmp := rfl
@[simp] theorem State.setFld_ucode (s : State) (f : Fld) (v : Nat) : (s.setFld f v).ucode = s.ucode := rfl
@[simp] theorem State.setFld_sec (s : State) (f : Fld) (v : Nat) : (s.setFld f v).sec = s.sec := rfl
@[simp] theorem State.setFld_host (s : State) (f : Fld) (v : Nat) : (s.setFld f v).host = s.host := rfl
@[simp] theorem State.setFld_tports (s : State) (f : Fld) (v : Nat) : (s.setFld f v).tports = s.tports := rfl
@[simp] theorem State.setFld_tree (s : State) (f : Fld) (v : Nat) : (s.setFld f v).tree = s.tree := rfl
@[simp] theorem State.setFld_svc (s : State) (f : Fld) (v : Nat) : (s.setFld f v).svc = s.svc := rfl
@[simp] theorem State.setFld_pwr (s : State) (f : Fld) (v : Nat) : (s.setFld f v).pwr = s.pwr := rfl
@[simp] theorem State.setFld_out (s : State) (f : Fld) (v : Nat) : (s.setFld f v).out = s.out := rfl
@[simp] theorem State.setFld_due (s : State) (f : Fld) (v : Nat) : (s.setFld f v).due = s.due := rfl
@[simp] theorem State.setFld_freeCtr (s : State) (f : Fld) (v : Nat) : (s.setFld f v).freeCtr = s.freeCtr := rfl
@[simp] theorem State.setFld_pending (s : State) (f : Fld) (v : Nat) : (s.setFld f v).pending = s.pending := rfl
@[simp] theorem State.stage_flds (s : State) (f : Fld) (v : Option Nat) : (s.stage f v).flds = s.flds := rfl
@[simp] theorem State.stage_latches (s : State) (f : Fld) (v : Option Nat) : (s.stage f v).latches = s.latches := rfl
@[simp] theorem State.stage_time (s : State) (f : Fld) (v : Option Nat) : (s.stage f v).time = s.time := rfl
@[simp] theorem State.stage_axes (s : State) (f : Fld) (v : Option Nat) : (s.stage f v).axes = s.axes := rfl
@[simp] theorem State.stage_aports (s : State) (f : Fld) (v : Option Nat) : (s.stage f v).aports = s.aports := rfl
@[simp] theorem State.stage_weirs (s : State) (f : Fld) (v : Option Nat) : (s.stage f v).weirs = s.weirs := rfl
@[simp] theorem State.stage_speed (s : State) (f : Fld) (v : Option Nat) : (s.stage f v).speed = s.speed := rfl
@[simp] theorem State.stage_adt (s : State) (f : Fld) (v : Option Nat) : (s.stage f v).adt = s.adt := rfl
@[simp] theorem State.stage_chans (s : State) (f : Fld) (v : Option Nat) : (s.stage f v).chans = s.chans := rfl
@[simp] theorem State.stage_gplls (s : State) (f : Fld) (v : Option Nat) : (s.stage f v).gplls = s.gplls := rfl
@[simp] theorem State.stage_striders (s : State) (f : Fld) (v : Option Nat) : (s.stage f v).striders = s.striders := rfl
@[simp] theorem State.stage_ponds (s : State) (f : Fld) (v : Option Nat) : (s.stage f v).ponds = s.ponds := rfl
@[simp] theorem State.stage_basins (s : State) (f : Fld) (v : Option Nat) : (s.stage f v).basins = s.basins := rfl
@[simp] theorem State.stage_mcs (s : State) (f : Fld) (v : Option Nat) : (s.stage f v).mcs = s.mcs := rfl
@[simp] theorem State.stage_pm (s : State) (f : Fld) (v : Option Nat) : (s.stage f v).pm = s.pm := rfl
@[simp] theorem State.stage_pmPoison (s : State) (f : Fld) (v : Option Nat) : (s.stage f v).pmPoison = s.pmPoison := rfl
@[simp] theorem State.stage_dram (s : State) (f : Fld) (v : Option Nat) : (s.stage f v).dram = s.dram := rfl
@[simp] theorem State.stage_cmp (s : State) (f : Fld) (v : Option Nat) : (s.stage f v).cmp = s.cmp := rfl
@[simp] theorem State.stage_ucode (s : State) (f : Fld) (v : Option Nat) : (s.stage f v).ucode = s.ucode := rfl
@[simp] theorem State.stage_sec (s : State) (f : Fld) (v : Option Nat) : (s.stage f v).sec = s.sec := rfl
@[simp] theorem State.stage_host (s : State) (f : Fld) (v : Option Nat) : (s.stage f v).host = s.host := rfl
@[simp] theorem State.stage_tports (s : State) (f : Fld) (v : Option Nat) : (s.stage f v).tports = s.tports := rfl
@[simp] theorem State.stage_tree (s : State) (f : Fld) (v : Option Nat) : (s.stage f v).tree = s.tree := rfl
@[simp] theorem State.stage_svc (s : State) (f : Fld) (v : Option Nat) : (s.stage f v).svc = s.svc := rfl
@[simp] theorem State.stage_pwr (s : State) (f : Fld) (v : Option Nat) : (s.stage f v).pwr = s.pwr := rfl
@[simp] theorem State.stage_out (s : State) (f : Fld) (v : Option Nat) : (s.stage f v).out = s.out := rfl
@[simp] theorem State.stage_due (s : State) (f : Fld) (v : Option Nat) : (s.stage f v).due = s.due := rfl
@[simp] theorem State.stage_freeCtr (s : State) (f : Fld) (v : Option Nat) : (s.stage f v).freeCtr = s.freeCtr := rfl
@[simp] theorem State.stage_pending (s : State) (f : Fld) (v : Option Nat) : (s.stage f v).pending = s.pending := rfl
@[simp] theorem State.setAxis_flds (s : State) (n : Nat) (v : AxisSt) : (s.setAxis n v).flds = s.flds := rfl
@[simp] theorem State.setAxis_staged (s : State) (n : Nat) (v : AxisSt) : (s.setAxis n v).staged = s.staged := rfl
@[simp] theorem State.setAxis_latches (s : State) (n : Nat) (v : AxisSt) : (s.setAxis n v).latches = s.latches := rfl
@[simp] theorem State.setAxis_time (s : State) (n : Nat) (v : AxisSt) : (s.setAxis n v).time = s.time := rfl
@[simp] theorem State.setAxis_aports (s : State) (n : Nat) (v : AxisSt) : (s.setAxis n v).aports = s.aports := rfl
@[simp] theorem State.setAxis_weirs (s : State) (n : Nat) (v : AxisSt) : (s.setAxis n v).weirs = s.weirs := rfl
@[simp] theorem State.setAxis_speed (s : State) (n : Nat) (v : AxisSt) : (s.setAxis n v).speed = s.speed := rfl
@[simp] theorem State.setAxis_adt (s : State) (n : Nat) (v : AxisSt) : (s.setAxis n v).adt = s.adt := rfl
@[simp] theorem State.setAxis_chans (s : State) (n : Nat) (v : AxisSt) : (s.setAxis n v).chans = s.chans := rfl
@[simp] theorem State.setAxis_gplls (s : State) (n : Nat) (v : AxisSt) : (s.setAxis n v).gplls = s.gplls := rfl
@[simp] theorem State.setAxis_striders (s : State) (n : Nat) (v : AxisSt) : (s.setAxis n v).striders = s.striders := rfl
@[simp] theorem State.setAxis_ponds (s : State) (n : Nat) (v : AxisSt) : (s.setAxis n v).ponds = s.ponds := rfl
@[simp] theorem State.setAxis_basins (s : State) (n : Nat) (v : AxisSt) : (s.setAxis n v).basins = s.basins := rfl
@[simp] theorem State.setAxis_mcs (s : State) (n : Nat) (v : AxisSt) : (s.setAxis n v).mcs = s.mcs := rfl
@[simp] theorem State.setAxis_pm (s : State) (n : Nat) (v : AxisSt) : (s.setAxis n v).pm = s.pm := rfl
@[simp] theorem State.setAxis_pmPoison (s : State) (n : Nat) (v : AxisSt) : (s.setAxis n v).pmPoison = s.pmPoison := rfl
@[simp] theorem State.setAxis_dram (s : State) (n : Nat) (v : AxisSt) : (s.setAxis n v).dram = s.dram := rfl
@[simp] theorem State.setAxis_cmp (s : State) (n : Nat) (v : AxisSt) : (s.setAxis n v).cmp = s.cmp := rfl
@[simp] theorem State.setAxis_ucode (s : State) (n : Nat) (v : AxisSt) : (s.setAxis n v).ucode = s.ucode := rfl
@[simp] theorem State.setAxis_sec (s : State) (n : Nat) (v : AxisSt) : (s.setAxis n v).sec = s.sec := rfl
@[simp] theorem State.setAxis_host (s : State) (n : Nat) (v : AxisSt) : (s.setAxis n v).host = s.host := rfl
@[simp] theorem State.setAxis_tports (s : State) (n : Nat) (v : AxisSt) : (s.setAxis n v).tports = s.tports := rfl
@[simp] theorem State.setAxis_tree (s : State) (n : Nat) (v : AxisSt) : (s.setAxis n v).tree = s.tree := rfl
@[simp] theorem State.setAxis_svc (s : State) (n : Nat) (v : AxisSt) : (s.setAxis n v).svc = s.svc := rfl
@[simp] theorem State.setAxis_pwr (s : State) (n : Nat) (v : AxisSt) : (s.setAxis n v).pwr = s.pwr := rfl
@[simp] theorem State.setAxis_out (s : State) (n : Nat) (v : AxisSt) : (s.setAxis n v).out = s.out := rfl
@[simp] theorem State.setAxis_due (s : State) (n : Nat) (v : AxisSt) : (s.setAxis n v).due = s.due := rfl
@[simp] theorem State.setAxis_freeCtr (s : State) (n : Nat) (v : AxisSt) : (s.setAxis n v).freeCtr = s.freeCtr := rfl
@[simp] theorem State.setAxis_pending (s : State) (n : Nat) (v : AxisSt) : (s.setAxis n v).pending = s.pending := rfl
@[simp] theorem State.setAport_flds (s : State) (n : Nat) (v : PortSt) : (s.setAport n v).flds = s.flds := rfl
@[simp] theorem State.setAport_staged (s : State) (n : Nat) (v : PortSt) : (s.setAport n v).staged = s.staged := rfl
@[simp] theorem State.setAport_latches (s : State) (n : Nat) (v : PortSt) : (s.setAport n v).latches = s.latches := rfl
@[simp] theorem State.setAport_time (s : State) (n : Nat) (v : PortSt) : (s.setAport n v).time = s.time := rfl
@[simp] theorem State.setAport_axes (s : State) (n : Nat) (v : PortSt) : (s.setAport n v).axes = s.axes := rfl
@[simp] theorem State.setAport_weirs (s : State) (n : Nat) (v : PortSt) : (s.setAport n v).weirs = s.weirs := rfl
@[simp] theorem State.setAport_speed (s : State) (n : Nat) (v : PortSt) : (s.setAport n v).speed = s.speed := rfl
@[simp] theorem State.setAport_adt (s : State) (n : Nat) (v : PortSt) : (s.setAport n v).adt = s.adt := rfl
@[simp] theorem State.setAport_chans (s : State) (n : Nat) (v : PortSt) : (s.setAport n v).chans = s.chans := rfl
@[simp] theorem State.setAport_gplls (s : State) (n : Nat) (v : PortSt) : (s.setAport n v).gplls = s.gplls := rfl
@[simp] theorem State.setAport_striders (s : State) (n : Nat) (v : PortSt) : (s.setAport n v).striders = s.striders := rfl
@[simp] theorem State.setAport_ponds (s : State) (n : Nat) (v : PortSt) : (s.setAport n v).ponds = s.ponds := rfl
@[simp] theorem State.setAport_basins (s : State) (n : Nat) (v : PortSt) : (s.setAport n v).basins = s.basins := rfl
@[simp] theorem State.setAport_mcs (s : State) (n : Nat) (v : PortSt) : (s.setAport n v).mcs = s.mcs := rfl
@[simp] theorem State.setAport_pm (s : State) (n : Nat) (v : PortSt) : (s.setAport n v).pm = s.pm := rfl
@[simp] theorem State.setAport_pmPoison (s : State) (n : Nat) (v : PortSt) : (s.setAport n v).pmPoison = s.pmPoison := rfl
@[simp] theorem State.setAport_dram (s : State) (n : Nat) (v : PortSt) : (s.setAport n v).dram = s.dram := rfl
@[simp] theorem State.setAport_cmp (s : State) (n : Nat) (v : PortSt) : (s.setAport n v).cmp = s.cmp := rfl
@[simp] theorem State.setAport_ucode (s : State) (n : Nat) (v : PortSt) : (s.setAport n v).ucode = s.ucode := rfl
@[simp] theorem State.setAport_sec (s : State) (n : Nat) (v : PortSt) : (s.setAport n v).sec = s.sec := rfl
@[simp] theorem State.setAport_host (s : State) (n : Nat) (v : PortSt) : (s.setAport n v).host = s.host := rfl
@[simp] theorem State.setAport_tports (s : State) (n : Nat) (v : PortSt) : (s.setAport n v).tports = s.tports := rfl
@[simp] theorem State.setAport_tree (s : State) (n : Nat) (v : PortSt) : (s.setAport n v).tree = s.tree := rfl
@[simp] theorem State.setAport_svc (s : State) (n : Nat) (v : PortSt) : (s.setAport n v).svc = s.svc := rfl
@[simp] theorem State.setAport_pwr (s : State) (n : Nat) (v : PortSt) : (s.setAport n v).pwr = s.pwr := rfl
@[simp] theorem State.setAport_out (s : State) (n : Nat) (v : PortSt) : (s.setAport n v).out = s.out := rfl
@[simp] theorem State.setAport_due (s : State) (n : Nat) (v : PortSt) : (s.setAport n v).due = s.due := rfl
@[simp] theorem State.setAport_freeCtr (s : State) (n : Nat) (v : PortSt) : (s.setAport n v).freeCtr = s.freeCtr := rfl
@[simp] theorem State.setAport_pending (s : State) (n : Nat) (v : PortSt) : (s.setAport n v).pending = s.pending := rfl
@[simp] theorem State.setWeir_flds (s : State) (n : Nat) (v : WeirSt) : (s.setWeir n v).flds = s.flds := rfl
@[simp] theorem State.setWeir_staged (s : State) (n : Nat) (v : WeirSt) : (s.setWeir n v).staged = s.staged := rfl
@[simp] theorem State.setWeir_latches (s : State) (n : Nat) (v : WeirSt) : (s.setWeir n v).latches = s.latches := rfl
@[simp] theorem State.setWeir_time (s : State) (n : Nat) (v : WeirSt) : (s.setWeir n v).time = s.time := rfl
@[simp] theorem State.setWeir_axes (s : State) (n : Nat) (v : WeirSt) : (s.setWeir n v).axes = s.axes := rfl
@[simp] theorem State.setWeir_aports (s : State) (n : Nat) (v : WeirSt) : (s.setWeir n v).aports = s.aports := rfl
@[simp] theorem State.setWeir_speed (s : State) (n : Nat) (v : WeirSt) : (s.setWeir n v).speed = s.speed := rfl
@[simp] theorem State.setWeir_adt (s : State) (n : Nat) (v : WeirSt) : (s.setWeir n v).adt = s.adt := rfl
@[simp] theorem State.setWeir_chans (s : State) (n : Nat) (v : WeirSt) : (s.setWeir n v).chans = s.chans := rfl
@[simp] theorem State.setWeir_gplls (s : State) (n : Nat) (v : WeirSt) : (s.setWeir n v).gplls = s.gplls := rfl
@[simp] theorem State.setWeir_striders (s : State) (n : Nat) (v : WeirSt) : (s.setWeir n v).striders = s.striders := rfl
@[simp] theorem State.setWeir_ponds (s : State) (n : Nat) (v : WeirSt) : (s.setWeir n v).ponds = s.ponds := rfl
@[simp] theorem State.setWeir_basins (s : State) (n : Nat) (v : WeirSt) : (s.setWeir n v).basins = s.basins := rfl
@[simp] theorem State.setWeir_mcs (s : State) (n : Nat) (v : WeirSt) : (s.setWeir n v).mcs = s.mcs := rfl
@[simp] theorem State.setWeir_pm (s : State) (n : Nat) (v : WeirSt) : (s.setWeir n v).pm = s.pm := rfl
@[simp] theorem State.setWeir_pmPoison (s : State) (n : Nat) (v : WeirSt) : (s.setWeir n v).pmPoison = s.pmPoison := rfl
@[simp] theorem State.setWeir_dram (s : State) (n : Nat) (v : WeirSt) : (s.setWeir n v).dram = s.dram := rfl
@[simp] theorem State.setWeir_cmp (s : State) (n : Nat) (v : WeirSt) : (s.setWeir n v).cmp = s.cmp := rfl
@[simp] theorem State.setWeir_ucode (s : State) (n : Nat) (v : WeirSt) : (s.setWeir n v).ucode = s.ucode := rfl
@[simp] theorem State.setWeir_sec (s : State) (n : Nat) (v : WeirSt) : (s.setWeir n v).sec = s.sec := rfl
@[simp] theorem State.setWeir_host (s : State) (n : Nat) (v : WeirSt) : (s.setWeir n v).host = s.host := rfl
@[simp] theorem State.setWeir_tports (s : State) (n : Nat) (v : WeirSt) : (s.setWeir n v).tports = s.tports := rfl
@[simp] theorem State.setWeir_tree (s : State) (n : Nat) (v : WeirSt) : (s.setWeir n v).tree = s.tree := rfl
@[simp] theorem State.setWeir_svc (s : State) (n : Nat) (v : WeirSt) : (s.setWeir n v).svc = s.svc := rfl
@[simp] theorem State.setWeir_pwr (s : State) (n : Nat) (v : WeirSt) : (s.setWeir n v).pwr = s.pwr := rfl
@[simp] theorem State.setWeir_out (s : State) (n : Nat) (v : WeirSt) : (s.setWeir n v).out = s.out := rfl
@[simp] theorem State.setWeir_due (s : State) (n : Nat) (v : WeirSt) : (s.setWeir n v).due = s.due := rfl
@[simp] theorem State.setWeir_freeCtr (s : State) (n : Nat) (v : WeirSt) : (s.setWeir n v).freeCtr = s.freeCtr := rfl
@[simp] theorem State.setWeir_pending (s : State) (n : Nat) (v : WeirSt) : (s.setWeir n v).pending = s.pending := rfl
@[simp] theorem State.setChan_flds (s : State) (n : Nat) (v : ChanSt) : (s.setChan n v).flds = s.flds := rfl
@[simp] theorem State.setChan_staged (s : State) (n : Nat) (v : ChanSt) : (s.setChan n v).staged = s.staged := rfl
@[simp] theorem State.setChan_latches (s : State) (n : Nat) (v : ChanSt) : (s.setChan n v).latches = s.latches := rfl
@[simp] theorem State.setChan_time (s : State) (n : Nat) (v : ChanSt) : (s.setChan n v).time = s.time := rfl
@[simp] theorem State.setChan_axes (s : State) (n : Nat) (v : ChanSt) : (s.setChan n v).axes = s.axes := rfl
@[simp] theorem State.setChan_aports (s : State) (n : Nat) (v : ChanSt) : (s.setChan n v).aports = s.aports := rfl
@[simp] theorem State.setChan_weirs (s : State) (n : Nat) (v : ChanSt) : (s.setChan n v).weirs = s.weirs := rfl
@[simp] theorem State.setChan_speed (s : State) (n : Nat) (v : ChanSt) : (s.setChan n v).speed = s.speed := rfl
@[simp] theorem State.setChan_adt (s : State) (n : Nat) (v : ChanSt) : (s.setChan n v).adt = s.adt := rfl
@[simp] theorem State.setChan_gplls (s : State) (n : Nat) (v : ChanSt) : (s.setChan n v).gplls = s.gplls := rfl
@[simp] theorem State.setChan_striders (s : State) (n : Nat) (v : ChanSt) : (s.setChan n v).striders = s.striders := rfl
@[simp] theorem State.setChan_ponds (s : State) (n : Nat) (v : ChanSt) : (s.setChan n v).ponds = s.ponds := rfl
@[simp] theorem State.setChan_basins (s : State) (n : Nat) (v : ChanSt) : (s.setChan n v).basins = s.basins := rfl
@[simp] theorem State.setChan_mcs (s : State) (n : Nat) (v : ChanSt) : (s.setChan n v).mcs = s.mcs := rfl
@[simp] theorem State.setChan_pm (s : State) (n : Nat) (v : ChanSt) : (s.setChan n v).pm = s.pm := rfl
@[simp] theorem State.setChan_pmPoison (s : State) (n : Nat) (v : ChanSt) : (s.setChan n v).pmPoison = s.pmPoison := rfl
@[simp] theorem State.setChan_dram (s : State) (n : Nat) (v : ChanSt) : (s.setChan n v).dram = s.dram := rfl
@[simp] theorem State.setChan_cmp (s : State) (n : Nat) (v : ChanSt) : (s.setChan n v).cmp = s.cmp := rfl
@[simp] theorem State.setChan_ucode (s : State) (n : Nat) (v : ChanSt) : (s.setChan n v).ucode = s.ucode := rfl
@[simp] theorem State.setChan_sec (s : State) (n : Nat) (v : ChanSt) : (s.setChan n v).sec = s.sec := rfl
@[simp] theorem State.setChan_host (s : State) (n : Nat) (v : ChanSt) : (s.setChan n v).host = s.host := rfl
@[simp] theorem State.setChan_tports (s : State) (n : Nat) (v : ChanSt) : (s.setChan n v).tports = s.tports := rfl
@[simp] theorem State.setChan_tree (s : State) (n : Nat) (v : ChanSt) : (s.setChan n v).tree = s.tree := rfl
@[simp] theorem State.setChan_svc (s : State) (n : Nat) (v : ChanSt) : (s.setChan n v).svc = s.svc := rfl
@[simp] theorem State.setChan_pwr (s : State) (n : Nat) (v : ChanSt) : (s.setChan n v).pwr = s.pwr := rfl
@[simp] theorem State.setChan_out (s : State) (n : Nat) (v : ChanSt) : (s.setChan n v).out = s.out := rfl
@[simp] theorem State.setChan_due (s : State) (n : Nat) (v : ChanSt) : (s.setChan n v).due = s.due := rfl
@[simp] theorem State.setChan_freeCtr (s : State) (n : Nat) (v : ChanSt) : (s.setChan n v).freeCtr = s.freeCtr := rfl
@[simp] theorem State.setChan_pending (s : State) (n : Nat) (v : ChanSt) : (s.setChan n v).pending = s.pending := rfl
@[simp] theorem State.setStr_flds (s : State) (w : StrId) (v : StrSt) : (s.setStr w v).flds = s.flds := rfl
@[simp] theorem State.setStr_staged (s : State) (w : StrId) (v : StrSt) : (s.setStr w v).staged = s.staged := rfl
@[simp] theorem State.setStr_latches (s : State) (w : StrId) (v : StrSt) : (s.setStr w v).latches = s.latches := rfl
@[simp] theorem State.setStr_time (s : State) (w : StrId) (v : StrSt) : (s.setStr w v).time = s.time := rfl
@[simp] theorem State.setStr_axes (s : State) (w : StrId) (v : StrSt) : (s.setStr w v).axes = s.axes := rfl
@[simp] theorem State.setStr_aports (s : State) (w : StrId) (v : StrSt) : (s.setStr w v).aports = s.aports := rfl
@[simp] theorem State.setStr_weirs (s : State) (w : StrId) (v : StrSt) : (s.setStr w v).weirs = s.weirs := rfl
@[simp] theorem State.setStr_speed (s : State) (w : StrId) (v : StrSt) : (s.setStr w v).speed = s.speed := rfl
@[simp] theorem State.setStr_adt (s : State) (w : StrId) (v : StrSt) : (s.setStr w v).adt = s.adt := rfl
@[simp] theorem State.setStr_chans (s : State) (w : StrId) (v : StrSt) : (s.setStr w v).chans = s.chans := rfl
@[simp] theorem State.setStr_gplls (s : State) (w : StrId) (v : StrSt) : (s.setStr w v).gplls = s.gplls := rfl
@[simp] theorem State.setStr_ponds (s : State) (w : StrId) (v : StrSt) : (s.setStr w v).ponds = s.ponds := rfl
@[simp] theorem State.setStr_basins (s : State) (w : StrId) (v : StrSt) : (s.setStr w v).basins = s.basins := rfl
@[simp] theorem State.setStr_mcs (s : State) (w : StrId) (v : StrSt) : (s.setStr w v).mcs = s.mcs := rfl
@[simp] theorem State.setStr_pm (s : State) (w : StrId) (v : StrSt) : (s.setStr w v).pm = s.pm := rfl
@[simp] theorem State.setStr_pmPoison (s : State) (w : StrId) (v : StrSt) : (s.setStr w v).pmPoison = s.pmPoison := rfl
@[simp] theorem State.setStr_dram (s : State) (w : StrId) (v : StrSt) : (s.setStr w v).dram = s.dram := rfl
@[simp] theorem State.setStr_cmp (s : State) (w : StrId) (v : StrSt) : (s.setStr w v).cmp = s.cmp := rfl
@[simp] theorem State.setStr_ucode (s : State) (w : StrId) (v : StrSt) : (s.setStr w v).ucode = s.ucode := rfl
@[simp] theorem State.setStr_sec (s : State) (w : StrId) (v : StrSt) : (s.setStr w v).sec = s.sec := rfl
@[simp] theorem State.setStr_host (s : State) (w : StrId) (v : StrSt) : (s.setStr w v).host = s.host := rfl
@[simp] theorem State.setStr_tports (s : State) (w : StrId) (v : StrSt) : (s.setStr w v).tports = s.tports := rfl
@[simp] theorem State.setStr_tree (s : State) (w : StrId) (v : StrSt) : (s.setStr w v).tree = s.tree := rfl
@[simp] theorem State.setStr_svc (s : State) (w : StrId) (v : StrSt) : (s.setStr w v).svc = s.svc := rfl
@[simp] theorem State.setStr_pwr (s : State) (w : StrId) (v : StrSt) : (s.setStr w v).pwr = s.pwr := rfl
@[simp] theorem State.setStr_out (s : State) (w : StrId) (v : StrSt) : (s.setStr w v).out = s.out := rfl
@[simp] theorem State.setStr_due (s : State) (w : StrId) (v : StrSt) : (s.setStr w v).due = s.due := rfl
@[simp] theorem State.setStr_freeCtr (s : State) (w : StrId) (v : StrSt) : (s.setStr w v).freeCtr = s.freeCtr := rfl
@[simp] theorem State.setStr_pending (s : State) (w : StrId) (v : StrSt) : (s.setStr w v).pending = s.pending := rfl
@[simp] theorem State.setPond_flds (s : State) (n : Nat) (v : PondSt) : (s.setPond n v).flds = s.flds := rfl
@[simp] theorem State.setPond_staged (s : State) (n : Nat) (v : PondSt) : (s.setPond n v).staged = s.staged := rfl
@[simp] theorem State.setPond_latches (s : State) (n : Nat) (v : PondSt) : (s.setPond n v).latches = s.latches := rfl
@[simp] theorem State.setPond_time (s : State) (n : Nat) (v : PondSt) : (s.setPond n v).time = s.time := rfl
@[simp] theorem State.setPond_axes (s : State) (n : Nat) (v : PondSt) : (s.setPond n v).axes = s.axes := rfl
@[simp] theorem State.setPond_aports (s : State) (n : Nat) (v : PondSt) : (s.setPond n v).aports = s.aports := rfl
@[simp] theorem State.setPond_weirs (s : State) (n : Nat) (v : PondSt) : (s.setPond n v).weirs = s.weirs := rfl
@[simp] theorem State.setPond_speed (s : State) (n : Nat) (v : PondSt) : (s.setPond n v).speed = s.speed := rfl
@[simp] theorem State.setPond_adt (s : State) (n : Nat) (v : PondSt) : (s.setPond n v).adt = s.adt := rfl
@[simp] theorem State.setPond_chans (s : State) (n : Nat) (v : PondSt) : (s.setPond n v).chans = s.chans := rfl
@[simp] theorem State.setPond_gplls (s : State) (n : Nat) (v : PondSt) : (s.setPond n v).gplls = s.gplls := rfl
@[simp] theorem State.setPond_striders (s : State) (n : Nat) (v : PondSt) : (s.setPond n v).striders = s.striders := rfl
@[simp] theorem State.setPond_basins (s : State) (n : Nat) (v : PondSt) : (s.setPond n v).basins = s.basins := rfl
@[simp] theorem State.setPond_mcs (s : State) (n : Nat) (v : PondSt) : (s.setPond n v).mcs = s.mcs := rfl
@[simp] theorem State.setPond_pm (s : State) (n : Nat) (v : PondSt) : (s.setPond n v).pm = s.pm := rfl
@[simp] theorem State.setPond_pmPoison (s : State) (n : Nat) (v : PondSt) : (s.setPond n v).pmPoison = s.pmPoison := rfl
@[simp] theorem State.setPond_dram (s : State) (n : Nat) (v : PondSt) : (s.setPond n v).dram = s.dram := rfl
@[simp] theorem State.setPond_cmp (s : State) (n : Nat) (v : PondSt) : (s.setPond n v).cmp = s.cmp := rfl
@[simp] theorem State.setPond_ucode (s : State) (n : Nat) (v : PondSt) : (s.setPond n v).ucode = s.ucode := rfl
@[simp] theorem State.setPond_sec (s : State) (n : Nat) (v : PondSt) : (s.setPond n v).sec = s.sec := rfl
@[simp] theorem State.setPond_host (s : State) (n : Nat) (v : PondSt) : (s.setPond n v).host = s.host := rfl
@[simp] theorem State.setPond_tports (s : State) (n : Nat) (v : PondSt) : (s.setPond n v).tports = s.tports := rfl
@[simp] theorem State.setPond_tree (s : State) (n : Nat) (v : PondSt) : (s.setPond n v).tree = s.tree := rfl
@[simp] theorem State.setPond_svc (s : State) (n : Nat) (v : PondSt) : (s.setPond n v).svc = s.svc := rfl
@[simp] theorem State.setPond_pwr (s : State) (n : Nat) (v : PondSt) : (s.setPond n v).pwr = s.pwr := rfl
@[simp] theorem State.setPond_out (s : State) (n : Nat) (v : PondSt) : (s.setPond n v).out = s.out := rfl
@[simp] theorem State.setPond_due (s : State) (n : Nat) (v : PondSt) : (s.setPond n v).due = s.due := rfl
@[simp] theorem State.setPond_freeCtr (s : State) (n : Nat) (v : PondSt) : (s.setPond n v).freeCtr = s.freeCtr := rfl
@[simp] theorem State.setPond_pending (s : State) (n : Nat) (v : PondSt) : (s.setPond n v).pending = s.pending := rfl
@[simp] theorem State.setBasin_flds (s : State) (n : Nat) (v : BasinSt) : (s.setBasin n v).flds = s.flds := rfl
@[simp] theorem State.setBasin_staged (s : State) (n : Nat) (v : BasinSt) : (s.setBasin n v).staged = s.staged := rfl
@[simp] theorem State.setBasin_latches (s : State) (n : Nat) (v : BasinSt) : (s.setBasin n v).latches = s.latches := rfl
@[simp] theorem State.setBasin_time (s : State) (n : Nat) (v : BasinSt) : (s.setBasin n v).time = s.time := rfl
@[simp] theorem State.setBasin_axes (s : State) (n : Nat) (v : BasinSt) : (s.setBasin n v).axes = s.axes := rfl
@[simp] theorem State.setBasin_aports (s : State) (n : Nat) (v : BasinSt) : (s.setBasin n v).aports = s.aports := rfl
@[simp] theorem State.setBasin_weirs (s : State) (n : Nat) (v : BasinSt) : (s.setBasin n v).weirs = s.weirs := rfl
@[simp] theorem State.setBasin_speed (s : State) (n : Nat) (v : BasinSt) : (s.setBasin n v).speed = s.speed := rfl
@[simp] theorem State.setBasin_adt (s : State) (n : Nat) (v : BasinSt) : (s.setBasin n v).adt = s.adt := rfl
@[simp] theorem State.setBasin_chans (s : State) (n : Nat) (v : BasinSt) : (s.setBasin n v).chans = s.chans := rfl
@[simp] theorem State.setBasin_gplls (s : State) (n : Nat) (v : BasinSt) : (s.setBasin n v).gplls = s.gplls := rfl
@[simp] theorem State.setBasin_striders (s : State) (n : Nat) (v : BasinSt) : (s.setBasin n v).striders = s.striders := rfl
@[simp] theorem State.setBasin_ponds (s : State) (n : Nat) (v : BasinSt) : (s.setBasin n v).ponds = s.ponds := rfl
@[simp] theorem State.setBasin_mcs (s : State) (n : Nat) (v : BasinSt) : (s.setBasin n v).mcs = s.mcs := rfl
@[simp] theorem State.setBasin_pm (s : State) (n : Nat) (v : BasinSt) : (s.setBasin n v).pm = s.pm := rfl
@[simp] theorem State.setBasin_pmPoison (s : State) (n : Nat) (v : BasinSt) : (s.setBasin n v).pmPoison = s.pmPoison := rfl
@[simp] theorem State.setBasin_dram (s : State) (n : Nat) (v : BasinSt) : (s.setBasin n v).dram = s.dram := rfl
@[simp] theorem State.setBasin_cmp (s : State) (n : Nat) (v : BasinSt) : (s.setBasin n v).cmp = s.cmp := rfl
@[simp] theorem State.setBasin_ucode (s : State) (n : Nat) (v : BasinSt) : (s.setBasin n v).ucode = s.ucode := rfl
@[simp] theorem State.setBasin_sec (s : State) (n : Nat) (v : BasinSt) : (s.setBasin n v).sec = s.sec := rfl
@[simp] theorem State.setBasin_host (s : State) (n : Nat) (v : BasinSt) : (s.setBasin n v).host = s.host := rfl
@[simp] theorem State.setBasin_tports (s : State) (n : Nat) (v : BasinSt) : (s.setBasin n v).tports = s.tports := rfl
@[simp] theorem State.setBasin_tree (s : State) (n : Nat) (v : BasinSt) : (s.setBasin n v).tree = s.tree := rfl
@[simp] theorem State.setBasin_svc (s : State) (n : Nat) (v : BasinSt) : (s.setBasin n v).svc = s.svc := rfl
@[simp] theorem State.setBasin_pwr (s : State) (n : Nat) (v : BasinSt) : (s.setBasin n v).pwr = s.pwr := rfl
@[simp] theorem State.setBasin_out (s : State) (n : Nat) (v : BasinSt) : (s.setBasin n v).out = s.out := rfl
@[simp] theorem State.setBasin_due (s : State) (n : Nat) (v : BasinSt) : (s.setBasin n v).due = s.due := rfl
@[simp] theorem State.setBasin_freeCtr (s : State) (n : Nat) (v : BasinSt) : (s.setBasin n v).freeCtr = s.freeCtr := rfl
@[simp] theorem State.setBasin_pending (s : State) (n : Nat) (v : BasinSt) : (s.setBasin n v).pending = s.pending := rfl
@[simp] theorem State.setMc_flds (s : State) (n : Nat) (v : McSt) : (s.setMc n v).flds = s.flds := rfl
@[simp] theorem State.setMc_staged (s : State) (n : Nat) (v : McSt) : (s.setMc n v).staged = s.staged := rfl
@[simp] theorem State.setMc_latches (s : State) (n : Nat) (v : McSt) : (s.setMc n v).latches = s.latches := rfl
@[simp] theorem State.setMc_time (s : State) (n : Nat) (v : McSt) : (s.setMc n v).time = s.time := rfl
@[simp] theorem State.setMc_axes (s : State) (n : Nat) (v : McSt) : (s.setMc n v).axes = s.axes := rfl
@[simp] theorem State.setMc_aports (s : State) (n : Nat) (v : McSt) : (s.setMc n v).aports = s.aports := rfl
@[simp] theorem State.setMc_weirs (s : State) (n : Nat) (v : McSt) : (s.setMc n v).weirs = s.weirs := rfl
@[simp] theorem State.setMc_speed (s : State) (n : Nat) (v : McSt) : (s.setMc n v).speed = s.speed := rfl
@[simp] theorem State.setMc_adt (s : State) (n : Nat) (v : McSt) : (s.setMc n v).adt = s.adt := rfl
@[simp] theorem State.setMc_chans (s : State) (n : Nat) (v : McSt) : (s.setMc n v).chans = s.chans := rfl
@[simp] theorem State.setMc_gplls (s : State) (n : Nat) (v : McSt) : (s.setMc n v).gplls = s.gplls := rfl
@[simp] theorem State.setMc_striders (s : State) (n : Nat) (v : McSt) : (s.setMc n v).striders = s.striders := rfl
@[simp] theorem State.setMc_ponds (s : State) (n : Nat) (v : McSt) : (s.setMc n v).ponds = s.ponds := rfl
@[simp] theorem State.setMc_basins (s : State) (n : Nat) (v : McSt) : (s.setMc n v).basins = s.basins := rfl
@[simp] theorem State.setMc_pm (s : State) (n : Nat) (v : McSt) : (s.setMc n v).pm = s.pm := rfl
@[simp] theorem State.setMc_pmPoison (s : State) (n : Nat) (v : McSt) : (s.setMc n v).pmPoison = s.pmPoison := rfl
@[simp] theorem State.setMc_dram (s : State) (n : Nat) (v : McSt) : (s.setMc n v).dram = s.dram := rfl
@[simp] theorem State.setMc_cmp (s : State) (n : Nat) (v : McSt) : (s.setMc n v).cmp = s.cmp := rfl
@[simp] theorem State.setMc_ucode (s : State) (n : Nat) (v : McSt) : (s.setMc n v).ucode = s.ucode := rfl
@[simp] theorem State.setMc_sec (s : State) (n : Nat) (v : McSt) : (s.setMc n v).sec = s.sec := rfl
@[simp] theorem State.setMc_host (s : State) (n : Nat) (v : McSt) : (s.setMc n v).host = s.host := rfl
@[simp] theorem State.setMc_tports (s : State) (n : Nat) (v : McSt) : (s.setMc n v).tports = s.tports := rfl
@[simp] theorem State.setMc_tree (s : State) (n : Nat) (v : McSt) : (s.setMc n v).tree = s.tree := rfl
@[simp] theorem State.setMc_svc (s : State) (n : Nat) (v : McSt) : (s.setMc n v).svc = s.svc := rfl
@[simp] theorem State.setMc_pwr (s : State) (n : Nat) (v : McSt) : (s.setMc n v).pwr = s.pwr := rfl
@[simp] theorem State.setMc_out (s : State) (n : Nat) (v : McSt) : (s.setMc n v).out = s.out := rfl
@[simp] theorem State.setMc_due (s : State) (n : Nat) (v : McSt) : (s.setMc n v).due = s.due := rfl
@[simp] theorem State.setMc_freeCtr (s : State) (n : Nat) (v : McSt) : (s.setMc n v).freeCtr = s.freeCtr := rfl
@[simp] theorem State.setMc_pending (s : State) (n : Nat) (v : McSt) : (s.setMc n v).pending = s.pending := rfl
@[simp] theorem State.setTport_flds (s : State) (n : Nat) (v : TierPort) : (s.setTport n v).flds = s.flds := rfl
@[simp] theorem State.setTport_staged (s : State) (n : Nat) (v : TierPort) : (s.setTport n v).staged = s.staged := rfl
@[simp] theorem State.setTport_latches (s : State) (n : Nat) (v : TierPort) : (s.setTport n v).latches = s.latches := rfl
@[simp] theorem State.setTport_time (s : State) (n : Nat) (v : TierPort) : (s.setTport n v).time = s.time := rfl
@[simp] theorem State.setTport_axes (s : State) (n : Nat) (v : TierPort) : (s.setTport n v).axes = s.axes := rfl
@[simp] theorem State.setTport_aports (s : State) (n : Nat) (v : TierPort) : (s.setTport n v).aports = s.aports := rfl
@[simp] theorem State.setTport_weirs (s : State) (n : Nat) (v : TierPort) : (s.setTport n v).weirs = s.weirs := rfl
@[simp] theorem State.setTport_speed (s : State) (n : Nat) (v : TierPort) : (s.setTport n v).speed = s.speed := rfl
@[simp] theorem State.setTport_adt (s : State) (n : Nat) (v : TierPort) : (s.setTport n v).adt = s.adt := rfl
@[simp] theorem State.setTport_chans (s : State) (n : Nat) (v : TierPort) : (s.setTport n v).chans = s.chans := rfl
@[simp] theorem State.setTport_gplls (s : State) (n : Nat) (v : TierPort) : (s.setTport n v).gplls = s.gplls := rfl
@[simp] theorem State.setTport_striders (s : State) (n : Nat) (v : TierPort) : (s.setTport n v).striders = s.striders := rfl
@[simp] theorem State.setTport_ponds (s : State) (n : Nat) (v : TierPort) : (s.setTport n v).ponds = s.ponds := rfl
@[simp] theorem State.setTport_basins (s : State) (n : Nat) (v : TierPort) : (s.setTport n v).basins = s.basins := rfl
@[simp] theorem State.setTport_mcs (s : State) (n : Nat) (v : TierPort) : (s.setTport n v).mcs = s.mcs := rfl
@[simp] theorem State.setTport_pm (s : State) (n : Nat) (v : TierPort) : (s.setTport n v).pm = s.pm := rfl
@[simp] theorem State.setTport_pmPoison (s : State) (n : Nat) (v : TierPort) : (s.setTport n v).pmPoison = s.pmPoison := rfl
@[simp] theorem State.setTport_dram (s : State) (n : Nat) (v : TierPort) : (s.setTport n v).dram = s.dram := rfl
@[simp] theorem State.setTport_cmp (s : State) (n : Nat) (v : TierPort) : (s.setTport n v).cmp = s.cmp := rfl
@[simp] theorem State.setTport_ucode (s : State) (n : Nat) (v : TierPort) : (s.setTport n v).ucode = s.ucode := rfl
@[simp] theorem State.setTport_sec (s : State) (n : Nat) (v : TierPort) : (s.setTport n v).sec = s.sec := rfl
@[simp] theorem State.setTport_host (s : State) (n : Nat) (v : TierPort) : (s.setTport n v).host = s.host := rfl
@[simp] theorem State.setTport_tree (s : State) (n : Nat) (v : TierPort) : (s.setTport n v).tree = s.tree := rfl
@[simp] theorem State.setTport_svc (s : State) (n : Nat) (v : TierPort) : (s.setTport n v).svc = s.svc := rfl
@[simp] theorem State.setTport_pwr (s : State) (n : Nat) (v : TierPort) : (s.setTport n v).pwr = s.pwr := rfl
@[simp] theorem State.setTport_out (s : State) (n : Nat) (v : TierPort) : (s.setTport n v).out = s.out := rfl
@[simp] theorem State.setTport_due (s : State) (n : Nat) (v : TierPort) : (s.setTport n v).due = s.due := rfl
@[simp] theorem State.setTport_freeCtr (s : State) (n : Nat) (v : TierPort) : (s.setTport n v).freeCtr = s.freeCtr := rfl
@[simp] theorem State.setTport_pending (s : State) (n : Nat) (v : TierPort) : (s.setTport n v).pending = s.pending := rfl
@[simp] theorem State.setLatch_flds (s : State) (who : Requester) (v : Word32 × Option Word32) : (s.setLatch who v).flds = s.flds := rfl
@[simp] theorem State.setLatch_staged (s : State) (who : Requester) (v : Word32 × Option Word32) : (s.setLatch who v).staged = s.staged := rfl
@[simp] theorem State.setLatch_time (s : State) (who : Requester) (v : Word32 × Option Word32) : (s.setLatch who v).time = s.time := rfl
@[simp] theorem State.setLatch_axes (s : State) (who : Requester) (v : Word32 × Option Word32) : (s.setLatch who v).axes = s.axes := rfl
@[simp] theorem State.setLatch_aports (s : State) (who : Requester) (v : Word32 × Option Word32) : (s.setLatch who v).aports = s.aports := rfl
@[simp] theorem State.setLatch_weirs (s : State) (who : Requester) (v : Word32 × Option Word32) : (s.setLatch who v).weirs = s.weirs := rfl
@[simp] theorem State.setLatch_speed (s : State) (who : Requester) (v : Word32 × Option Word32) : (s.setLatch who v).speed = s.speed := rfl
@[simp] theorem State.setLatch_adt (s : State) (who : Requester) (v : Word32 × Option Word32) : (s.setLatch who v).adt = s.adt := rfl
@[simp] theorem State.setLatch_chans (s : State) (who : Requester) (v : Word32 × Option Word32) : (s.setLatch who v).chans = s.chans := rfl
@[simp] theorem State.setLatch_gplls (s : State) (who : Requester) (v : Word32 × Option Word32) : (s.setLatch who v).gplls = s.gplls := rfl
@[simp] theorem State.setLatch_striders (s : State) (who : Requester) (v : Word32 × Option Word32) : (s.setLatch who v).striders = s.striders := rfl
@[simp] theorem State.setLatch_ponds (s : State) (who : Requester) (v : Word32 × Option Word32) : (s.setLatch who v).ponds = s.ponds := rfl
@[simp] theorem State.setLatch_basins (s : State) (who : Requester) (v : Word32 × Option Word32) : (s.setLatch who v).basins = s.basins := rfl
@[simp] theorem State.setLatch_mcs (s : State) (who : Requester) (v : Word32 × Option Word32) : (s.setLatch who v).mcs = s.mcs := rfl
@[simp] theorem State.setLatch_pm (s : State) (who : Requester) (v : Word32 × Option Word32) : (s.setLatch who v).pm = s.pm := rfl
@[simp] theorem State.setLatch_pmPoison (s : State) (who : Requester) (v : Word32 × Option Word32) : (s.setLatch who v).pmPoison = s.pmPoison := rfl
@[simp] theorem State.setLatch_dram (s : State) (who : Requester) (v : Word32 × Option Word32) : (s.setLatch who v).dram = s.dram := rfl
@[simp] theorem State.setLatch_cmp (s : State) (who : Requester) (v : Word32 × Option Word32) : (s.setLatch who v).cmp = s.cmp := rfl
@[simp] theorem State.setLatch_ucode (s : State) (who : Requester) (v : Word32 × Option Word32) : (s.setLatch who v).ucode = s.ucode := rfl
@[simp] theorem State.setLatch_sec (s : State) (who : Requester) (v : Word32 × Option Word32) : (s.setLatch who v).sec = s.sec := rfl
@[simp] theorem State.setLatch_host (s : State) (who : Requester) (v : Word32 × Option Word32) : (s.setLatch who v).host = s.host := rfl
@[simp] theorem State.setLatch_tports (s : State) (who : Requester) (v : Word32 × Option Word32) : (s.setLatch who v).tports = s.tports := rfl
@[simp] theorem State.setLatch_tree (s : State) (who : Requester) (v : Word32 × Option Word32) : (s.setLatch who v).tree = s.tree := rfl
@[simp] theorem State.setLatch_svc (s : State) (who : Requester) (v : Word32 × Option Word32) : (s.setLatch who v).svc = s.svc := rfl
@[simp] theorem State.setLatch_pwr (s : State) (who : Requester) (v : Word32 × Option Word32) : (s.setLatch who v).pwr = s.pwr := rfl
@[simp] theorem State.setLatch_out (s : State) (who : Requester) (v : Word32 × Option Word32) : (s.setLatch who v).out = s.out := rfl
@[simp] theorem State.setLatch_due (s : State) (who : Requester) (v : Word32 × Option Word32) : (s.setLatch who v).due = s.due := rfl
@[simp] theorem State.setLatch_freeCtr (s : State) (who : Requester) (v : Word32 × Option Word32) : (s.setLatch who v).freeCtr = s.freeCtr := rfl
@[simp] theorem State.setLatch_pending (s : State) (who : Requester) (v : Word32 × Option Word32) : (s.setLatch who v).pending = s.pending := rfl
@[simp] theorem State.emit_flds (s : State) (o : Out) : (s.emit o).flds = s.flds := rfl
@[simp] theorem State.emit_staged (s : State) (o : Out) : (s.emit o).staged = s.staged := rfl
@[simp] theorem State.emit_latches (s : State) (o : Out) : (s.emit o).latches = s.latches := rfl
@[simp] theorem State.emit_time (s : State) (o : Out) : (s.emit o).time = s.time := rfl
@[simp] theorem State.emit_axes (s : State) (o : Out) : (s.emit o).axes = s.axes := rfl
@[simp] theorem State.emit_aports (s : State) (o : Out) : (s.emit o).aports = s.aports := rfl
@[simp] theorem State.emit_weirs (s : State) (o : Out) : (s.emit o).weirs = s.weirs := rfl
@[simp] theorem State.emit_speed (s : State) (o : Out) : (s.emit o).speed = s.speed := rfl
@[simp] theorem State.emit_adt (s : State) (o : Out) : (s.emit o).adt = s.adt := rfl
@[simp] theorem State.emit_chans (s : State) (o : Out) : (s.emit o).chans = s.chans := rfl
@[simp] theorem State.emit_gplls (s : State) (o : Out) : (s.emit o).gplls = s.gplls := rfl
@[simp] theorem State.emit_striders (s : State) (o : Out) : (s.emit o).striders = s.striders := rfl
@[simp] theorem State.emit_ponds (s : State) (o : Out) : (s.emit o).ponds = s.ponds := rfl
@[simp] theorem State.emit_basins (s : State) (o : Out) : (s.emit o).basins = s.basins := rfl
@[simp] theorem State.emit_mcs (s : State) (o : Out) : (s.emit o).mcs = s.mcs := rfl
@[simp] theorem State.emit_pm (s : State) (o : Out) : (s.emit o).pm = s.pm := rfl
@[simp] theorem State.emit_pmPoison (s : State) (o : Out) : (s.emit o).pmPoison = s.pmPoison := rfl
@[simp] theorem State.emit_dram (s : State) (o : Out) : (s.emit o).dram = s.dram := rfl
@[simp] theorem State.emit_cmp (s : State) (o : Out) : (s.emit o).cmp = s.cmp := rfl
@[simp] theorem State.emit_ucode (s : State) (o : Out) : (s.emit o).ucode = s.ucode := rfl
@[simp] theorem State.emit_sec (s : State) (o : Out) : (s.emit o).sec = s.sec := rfl
@[simp] theorem State.emit_host (s : State) (o : Out) : (s.emit o).host = s.host := rfl
@[simp] theorem State.emit_tports (s : State) (o : Out) : (s.emit o).tports = s.tports := rfl
@[simp] theorem State.emit_tree (s : State) (o : Out) : (s.emit o).tree = s.tree := rfl
@[simp] theorem State.emit_svc (s : State) (o : Out) : (s.emit o).svc = s.svc := rfl
@[simp] theorem State.emit_pwr (s : State) (o : Out) : (s.emit o).pwr = s.pwr := rfl
@[simp] theorem State.emit_due (s : State) (o : Out) : (s.emit o).due = s.due := rfl
@[simp] theorem State.emit_freeCtr (s : State) (o : Out) : (s.emit o).freeCtr = s.freeCtr := rfl
@[simp] theorem State.emit_pending (s : State) (o : Out) : (s.emit o).pending = s.pending := rfl

/-! ### Reads -/

@[simp] theorem State.stagedVal_setFld (s : State) (f : Fld) (v : Nat) (g : Fld) : (s.setFld f v).stagedVal g = s.stagedVal g := rfl
@[simp] theorem State.dt_setFld (s : State) (f : Fld) (v : Nat) : (s.setFld f v).dt = s.dt := rfl
@[simp] theorem State.powered_setFld (s : State) (f : Fld) (v : Nat) : (s.setFld f v).powered = s.powered := rfl
@[simp] theorem State.axis_setFld (s : State) (f : Fld) (v : Nat) (k : Nat) : (s.setFld f v).axis k = s.axis k := rfl
@[simp] theorem State.aport_setFld (s : State) (f : Fld) (v : Nat) (k : Nat) : (s.setFld f v).aport k = s.aport k := rfl
@[simp] theorem State.weir_setFld (s : State) (f : Fld) (v : Nat) (k : Nat) : (s.setFld f v).weir k = s.weir k := rfl
@[simp] theorem State.chan_setFld (s : State) (f : Fld) (v : Nat) (k : Nat) : (s.setFld f v).chan k = s.chan k := rfl
@[simp] theorem State.str_setFld (s : State) (f : Fld) (v : Nat) (u : StrId) : (s.setFld f v).str u = s.str u := rfl
@[simp] theorem State.pond_setFld (s : State) (f : Fld) (v : Nat) (k : Nat) : (s.setFld f v).pond k = s.pond k := rfl
@[simp] theorem State.basin_setFld (s : State) (f : Fld) (v : Nat) (k : Nat) : (s.setFld f v).basin k = s.basin k := rfl
@[simp] theorem State.mc_setFld (s : State) (f : Fld) (v : Nat) (k : Nat) : (s.setFld f v).mc k = s.mc k := rfl
@[simp] theorem State.tport_setFld (s : State) (f : Fld) (v : Nat) (k : Nat) : (s.setFld f v).tport k = s.tport k := rfl
@[simp] theorem State.fld_stage (s : State) (f : Fld) (v : Option Nat) (g : Fld) : (s.stage f v).fld g = s.fld g := rfl
@[simp] theorem State.bit_stage (s : State) (f : Fld) (v : Option Nat) (g : Fld) : (s.stage f v).bit g = s.bit g := rfl
@[simp] theorem State.sfld_stage (s : State) (f : Fld) (v : Option Nat) (g : Fld) : (s.stage f v).sfld g = s.sfld g := rfl
@[simp] theorem State.pair_stage (s : State) (f : Fld) (v : Option Nat) (lo hi : Fld) : (s.stage f v).pair lo hi = s.pair lo hi := rfl
@[simp] theorem State.dt_stage (s : State) (f : Fld) (v : Option Nat) : (s.stage f v).dt = s.dt := rfl
@[simp] theorem State.powered_stage (s : State) (f : Fld) (v : Option Nat) : (s.stage f v).powered = s.powered := rfl
@[simp] theorem State.axis_stage (s : State) (f : Fld) (v : Option Nat) (k : Nat) : (s.stage f v).axis k = s.axis k := rfl
@[simp] theorem State.aport_stage (s : State) (f : Fld) (v : Option Nat) (k : Nat) : (s.stage f v).aport k = s.aport k := rfl
@[simp] theorem State.weir_stage (s : State) (f : Fld) (v : Option Nat) (k : Nat) : (s.stage f v).weir k = s.weir k := rfl
@[simp] theorem State.chan_stage (s : State) (f : Fld) (v : Option Nat) (k : Nat) : (s.stage f v).chan k = s.chan k := rfl
@[simp] theorem State.str_stage (s : State) (f : Fld) (v : Option Nat) (u : StrId) : (s.stage f v).str u = s.str u := rfl
@[simp] theorem State.pond_stage (s : State) (f : Fld) (v : Option Nat) (k : Nat) : (s.stage f v).pond k = s.pond k := rfl
@[simp] theorem State.basin_stage (s : State) (f : Fld) (v : Option Nat) (k : Nat) : (s.stage f v).basin k = s.basin k := rfl
@[simp] theorem State.mc_stage (s : State) (f : Fld) (v : Option Nat) (k : Nat) : (s.stage f v).mc k = s.mc k := rfl
@[simp] theorem State.tport_stage (s : State) (f : Fld) (v : Option Nat) (k : Nat) : (s.stage f v).tport k = s.tport k := rfl
@[simp] theorem State.fld_setAxis (s : State) (n : Nat) (v : AxisSt) (g : Fld) : (s.setAxis n v).fld g = s.fld g := rfl
@[simp] theorem State.bit_setAxis (s : State) (n : Nat) (v : AxisSt) (g : Fld) : (s.setAxis n v).bit g = s.bit g := rfl
@[simp] theorem State.sfld_setAxis (s : State) (n : Nat) (v : AxisSt) (g : Fld) : (s.setAxis n v).sfld g = s.sfld g := rfl
@[simp] theorem State.pair_setAxis (s : State) (n : Nat) (v : AxisSt) (lo hi : Fld) : (s.setAxis n v).pair lo hi = s.pair lo hi := rfl
@[simp] theorem State.stagedVal_setAxis (s : State) (n : Nat) (v : AxisSt) (g : Fld) : (s.setAxis n v).stagedVal g = s.stagedVal g := rfl
@[simp] theorem State.dt_setAxis (s : State) (n : Nat) (v : AxisSt) : (s.setAxis n v).dt = s.dt := rfl
@[simp] theorem State.powered_setAxis (s : State) (n : Nat) (v : AxisSt) : (s.setAxis n v).powered = s.powered := rfl
@[simp] theorem State.aport_setAxis (s : State) (n : Nat) (v : AxisSt) (k : Nat) : (s.setAxis n v).aport k = s.aport k := rfl
@[simp] theorem State.weir_setAxis (s : State) (n : Nat) (v : AxisSt) (k : Nat) : (s.setAxis n v).weir k = s.weir k := rfl
@[simp] theorem State.chan_setAxis (s : State) (n : Nat) (v : AxisSt) (k : Nat) : (s.setAxis n v).chan k = s.chan k := rfl
@[simp] theorem State.str_setAxis (s : State) (n : Nat) (v : AxisSt) (u : StrId) : (s.setAxis n v).str u = s.str u := rfl
@[simp] theorem State.pond_setAxis (s : State) (n : Nat) (v : AxisSt) (k : Nat) : (s.setAxis n v).pond k = s.pond k := rfl
@[simp] theorem State.basin_setAxis (s : State) (n : Nat) (v : AxisSt) (k : Nat) : (s.setAxis n v).basin k = s.basin k := rfl
@[simp] theorem State.mc_setAxis (s : State) (n : Nat) (v : AxisSt) (k : Nat) : (s.setAxis n v).mc k = s.mc k := rfl
@[simp] theorem State.tport_setAxis (s : State) (n : Nat) (v : AxisSt) (k : Nat) : (s.setAxis n v).tport k = s.tport k := rfl
@[simp] theorem State.fld_setAport (s : State) (n : Nat) (v : PortSt) (g : Fld) : (s.setAport n v).fld g = s.fld g := rfl
@[simp] theorem State.bit_setAport (s : State) (n : Nat) (v : PortSt) (g : Fld) : (s.setAport n v).bit g = s.bit g := rfl
@[simp] theorem State.sfld_setAport (s : State) (n : Nat) (v : PortSt) (g : Fld) : (s.setAport n v).sfld g = s.sfld g := rfl
@[simp] theorem State.pair_setAport (s : State) (n : Nat) (v : PortSt) (lo hi : Fld) : (s.setAport n v).pair lo hi = s.pair lo hi := rfl
@[simp] theorem State.stagedVal_setAport (s : State) (n : Nat) (v : PortSt) (g : Fld) : (s.setAport n v).stagedVal g = s.stagedVal g := rfl
@[simp] theorem State.dt_setAport (s : State) (n : Nat) (v : PortSt) : (s.setAport n v).dt = s.dt := rfl
@[simp] theorem State.powered_setAport (s : State) (n : Nat) (v : PortSt) : (s.setAport n v).powered = s.powered := rfl
@[simp] theorem State.axis_setAport (s : State) (n : Nat) (v : PortSt) (k : Nat) : (s.setAport n v).axis k = s.axis k := rfl
@[simp] theorem State.weir_setAport (s : State) (n : Nat) (v : PortSt) (k : Nat) : (s.setAport n v).weir k = s.weir k := rfl
@[simp] theorem State.chan_setAport (s : State) (n : Nat) (v : PortSt) (k : Nat) : (s.setAport n v).chan k = s.chan k := rfl
@[simp] theorem State.str_setAport (s : State) (n : Nat) (v : PortSt) (u : StrId) : (s.setAport n v).str u = s.str u := rfl
@[simp] theorem State.pond_setAport (s : State) (n : Nat) (v : PortSt) (k : Nat) : (s.setAport n v).pond k = s.pond k := rfl
@[simp] theorem State.basin_setAport (s : State) (n : Nat) (v : PortSt) (k : Nat) : (s.setAport n v).basin k = s.basin k := rfl
@[simp] theorem State.mc_setAport (s : State) (n : Nat) (v : PortSt) (k : Nat) : (s.setAport n v).mc k = s.mc k := rfl
@[simp] theorem State.tport_setAport (s : State) (n : Nat) (v : PortSt) (k : Nat) : (s.setAport n v).tport k = s.tport k := rfl
@[simp] theorem State.fld_setWeir (s : State) (n : Nat) (v : WeirSt) (g : Fld) : (s.setWeir n v).fld g = s.fld g := rfl
@[simp] theorem State.bit_setWeir (s : State) (n : Nat) (v : WeirSt) (g : Fld) : (s.setWeir n v).bit g = s.bit g := rfl
@[simp] theorem State.sfld_setWeir (s : State) (n : Nat) (v : WeirSt) (g : Fld) : (s.setWeir n v).sfld g = s.sfld g := rfl
@[simp] theorem State.pair_setWeir (s : State) (n : Nat) (v : WeirSt) (lo hi : Fld) : (s.setWeir n v).pair lo hi = s.pair lo hi := rfl
@[simp] theorem State.stagedVal_setWeir (s : State) (n : Nat) (v : WeirSt) (g : Fld) : (s.setWeir n v).stagedVal g = s.stagedVal g := rfl
@[simp] theorem State.dt_setWeir (s : State) (n : Nat) (v : WeirSt) : (s.setWeir n v).dt = s.dt := rfl
@[simp] theorem State.powered_setWeir (s : State) (n : Nat) (v : WeirSt) : (s.setWeir n v).powered = s.powered := rfl
@[simp] theorem State.axis_setWeir (s : State) (n : Nat) (v : WeirSt) (k : Nat) : (s.setWeir n v).axis k = s.axis k := rfl
@[simp] theorem State.aport_setWeir (s : State) (n : Nat) (v : WeirSt) (k : Nat) : (s.setWeir n v).aport k = s.aport k := rfl
@[simp] theorem State.chan_setWeir (s : State) (n : Nat) (v : WeirSt) (k : Nat) : (s.setWeir n v).chan k = s.chan k := rfl
@[simp] theorem State.str_setWeir (s : State) (n : Nat) (v : WeirSt) (u : StrId) : (s.setWeir n v).str u = s.str u := rfl
@[simp] theorem State.pond_setWeir (s : State) (n : Nat) (v : WeirSt) (k : Nat) : (s.setWeir n v).pond k = s.pond k := rfl
@[simp] theorem State.basin_setWeir (s : State) (n : Nat) (v : WeirSt) (k : Nat) : (s.setWeir n v).basin k = s.basin k := rfl
@[simp] theorem State.mc_setWeir (s : State) (n : Nat) (v : WeirSt) (k : Nat) : (s.setWeir n v).mc k = s.mc k := rfl
@[simp] theorem State.tport_setWeir (s : State) (n : Nat) (v : WeirSt) (k : Nat) : (s.setWeir n v).tport k = s.tport k := rfl
@[simp] theorem State.fld_setChan (s : State) (n : Nat) (v : ChanSt) (g : Fld) : (s.setChan n v).fld g = s.fld g := rfl
@[simp] theorem State.bit_setChan (s : State) (n : Nat) (v : ChanSt) (g : Fld) : (s.setChan n v).bit g = s.bit g := rfl
@[simp] theorem State.sfld_setChan (s : State) (n : Nat) (v : ChanSt) (g : Fld) : (s.setChan n v).sfld g = s.sfld g := rfl
@[simp] theorem State.pair_setChan (s : State) (n : Nat) (v : ChanSt) (lo hi : Fld) : (s.setChan n v).pair lo hi = s.pair lo hi := rfl
@[simp] theorem State.stagedVal_setChan (s : State) (n : Nat) (v : ChanSt) (g : Fld) : (s.setChan n v).stagedVal g = s.stagedVal g := rfl
@[simp] theorem State.dt_setChan (s : State) (n : Nat) (v : ChanSt) : (s.setChan n v).dt = s.dt := rfl
@[simp] theorem State.powered_setChan (s : State) (n : Nat) (v : ChanSt) : (s.setChan n v).powered = s.powered := rfl
@[simp] theorem State.axis_setChan (s : State) (n : Nat) (v : ChanSt) (k : Nat) : (s.setChan n v).axis k = s.axis k := rfl
@[simp] theorem State.aport_setChan (s : State) (n : Nat) (v : ChanSt) (k : Nat) : (s.setChan n v).aport k = s.aport k := rfl
@[simp] theorem State.weir_setChan (s : State) (n : Nat) (v : ChanSt) (k : Nat) : (s.setChan n v).weir k = s.weir k := rfl
@[simp] theorem State.str_setChan (s : State) (n : Nat) (v : ChanSt) (u : StrId) : (s.setChan n v).str u = s.str u := rfl
@[simp] theorem State.pond_setChan (s : State) (n : Nat) (v : ChanSt) (k : Nat) : (s.setChan n v).pond k = s.pond k := rfl
@[simp] theorem State.basin_setChan (s : State) (n : Nat) (v : ChanSt) (k : Nat) : (s.setChan n v).basin k = s.basin k := rfl
@[simp] theorem State.mc_setChan (s : State) (n : Nat) (v : ChanSt) (k : Nat) : (s.setChan n v).mc k = s.mc k := rfl
@[simp] theorem State.tport_setChan (s : State) (n : Nat) (v : ChanSt) (k : Nat) : (s.setChan n v).tport k = s.tport k := rfl
@[simp] theorem State.fld_setStr (s : State) (w : StrId) (v : StrSt) (g : Fld) : (s.setStr w v).fld g = s.fld g := rfl
@[simp] theorem State.bit_setStr (s : State) (w : StrId) (v : StrSt) (g : Fld) : (s.setStr w v).bit g = s.bit g := rfl
@[simp] theorem State.sfld_setStr (s : State) (w : StrId) (v : StrSt) (g : Fld) : (s.setStr w v).sfld g = s.sfld g := rfl
@[simp] theorem State.pair_setStr (s : State) (w : StrId) (v : StrSt) (lo hi : Fld) : (s.setStr w v).pair lo hi = s.pair lo hi := rfl
@[simp] theorem State.stagedVal_setStr (s : State) (w : StrId) (v : StrSt) (g : Fld) : (s.setStr w v).stagedVal g = s.stagedVal g := rfl
@[simp] theorem State.dt_setStr (s : State) (w : StrId) (v : StrSt) : (s.setStr w v).dt = s.dt := rfl
@[simp] theorem State.powered_setStr (s : State) (w : StrId) (v : StrSt) : (s.setStr w v).powered = s.powered := rfl
@[simp] theorem State.axis_setStr (s : State) (w : StrId) (v : StrSt) (k : Nat) : (s.setStr w v).axis k = s.axis k := rfl
@[simp] theorem State.aport_setStr (s : State) (w : StrId) (v : StrSt) (k : Nat) : (s.setStr w v).aport k = s.aport k := rfl
@[simp] theorem State.weir_setStr (s : State) (w : StrId) (v : StrSt) (k : Nat) : (s.setStr w v).weir k = s.weir k := rfl
@[simp] theorem State.chan_setStr (s : State) (w : StrId) (v : StrSt) (k : Nat) : (s.setStr w v).chan k = s.chan k := rfl
@[simp] theorem State.pond_setStr (s : State) (w : StrId) (v : StrSt) (k : Nat) : (s.setStr w v).pond k = s.pond k := rfl
@[simp] theorem State.basin_setStr (s : State) (w : StrId) (v : StrSt) (k : Nat) : (s.setStr w v).basin k = s.basin k := rfl
@[simp] theorem State.mc_setStr (s : State) (w : StrId) (v : StrSt) (k : Nat) : (s.setStr w v).mc k = s.mc k := rfl
@[simp] theorem State.tport_setStr (s : State) (w : StrId) (v : StrSt) (k : Nat) : (s.setStr w v).tport k = s.tport k := rfl
@[simp] theorem State.fld_setPond (s : State) (n : Nat) (v : PondSt) (g : Fld) : (s.setPond n v).fld g = s.fld g := rfl
@[simp] theorem State.bit_setPond (s : State) (n : Nat) (v : PondSt) (g : Fld) : (s.setPond n v).bit g = s.bit g := rfl
@[simp] theorem State.sfld_setPond (s : State) (n : Nat) (v : PondSt) (g : Fld) : (s.setPond n v).sfld g = s.sfld g := rfl
@[simp] theorem State.pair_setPond (s : State) (n : Nat) (v : PondSt) (lo hi : Fld) : (s.setPond n v).pair lo hi = s.pair lo hi := rfl
@[simp] theorem State.stagedVal_setPond (s : State) (n : Nat) (v : PondSt) (g : Fld) : (s.setPond n v).stagedVal g = s.stagedVal g := rfl
@[simp] theorem State.dt_setPond (s : State) (n : Nat) (v : PondSt) : (s.setPond n v).dt = s.dt := rfl
@[simp] theorem State.powered_setPond (s : State) (n : Nat) (v : PondSt) : (s.setPond n v).powered = s.powered := rfl
@[simp] theorem State.axis_setPond (s : State) (n : Nat) (v : PondSt) (k : Nat) : (s.setPond n v).axis k = s.axis k := rfl
@[simp] theorem State.aport_setPond (s : State) (n : Nat) (v : PondSt) (k : Nat) : (s.setPond n v).aport k = s.aport k := rfl
@[simp] theorem State.weir_setPond (s : State) (n : Nat) (v : PondSt) (k : Nat) : (s.setPond n v).weir k = s.weir k := rfl
@[simp] theorem State.chan_setPond (s : State) (n : Nat) (v : PondSt) (k : Nat) : (s.setPond n v).chan k = s.chan k := rfl
@[simp] theorem State.str_setPond (s : State) (n : Nat) (v : PondSt) (u : StrId) : (s.setPond n v).str u = s.str u := rfl
@[simp] theorem State.basin_setPond (s : State) (n : Nat) (v : PondSt) (k : Nat) : (s.setPond n v).basin k = s.basin k := rfl
@[simp] theorem State.mc_setPond (s : State) (n : Nat) (v : PondSt) (k : Nat) : (s.setPond n v).mc k = s.mc k := rfl
@[simp] theorem State.tport_setPond (s : State) (n : Nat) (v : PondSt) (k : Nat) : (s.setPond n v).tport k = s.tport k := rfl
@[simp] theorem State.fld_setBasin (s : State) (n : Nat) (v : BasinSt) (g : Fld) : (s.setBasin n v).fld g = s.fld g := rfl
@[simp] theorem State.bit_setBasin (s : State) (n : Nat) (v : BasinSt) (g : Fld) : (s.setBasin n v).bit g = s.bit g := rfl
@[simp] theorem State.sfld_setBasin (s : State) (n : Nat) (v : BasinSt) (g : Fld) : (s.setBasin n v).sfld g = s.sfld g := rfl
@[simp] theorem State.pair_setBasin (s : State) (n : Nat) (v : BasinSt) (lo hi : Fld) : (s.setBasin n v).pair lo hi = s.pair lo hi := rfl
@[simp] theorem State.stagedVal_setBasin (s : State) (n : Nat) (v : BasinSt) (g : Fld) : (s.setBasin n v).stagedVal g = s.stagedVal g := rfl
@[simp] theorem State.dt_setBasin (s : State) (n : Nat) (v : BasinSt) : (s.setBasin n v).dt = s.dt := rfl
@[simp] theorem State.powered_setBasin (s : State) (n : Nat) (v : BasinSt) : (s.setBasin n v).powered = s.powered := rfl
@[simp] theorem State.axis_setBasin (s : State) (n : Nat) (v : BasinSt) (k : Nat) : (s.setBasin n v).axis k = s.axis k := rfl
@[simp] theorem State.aport_setBasin (s : State) (n : Nat) (v : BasinSt) (k : Nat) : (s.setBasin n v).aport k = s.aport k := rfl
@[simp] theorem State.weir_setBasin (s : State) (n : Nat) (v : BasinSt) (k : Nat) : (s.setBasin n v).weir k = s.weir k := rfl
@[simp] theorem State.chan_setBasin (s : State) (n : Nat) (v : BasinSt) (k : Nat) : (s.setBasin n v).chan k = s.chan k := rfl
@[simp] theorem State.str_setBasin (s : State) (n : Nat) (v : BasinSt) (u : StrId) : (s.setBasin n v).str u = s.str u := rfl
@[simp] theorem State.pond_setBasin (s : State) (n : Nat) (v : BasinSt) (k : Nat) : (s.setBasin n v).pond k = s.pond k := rfl
@[simp] theorem State.mc_setBasin (s : State) (n : Nat) (v : BasinSt) (k : Nat) : (s.setBasin n v).mc k = s.mc k := rfl
@[simp] theorem State.tport_setBasin (s : State) (n : Nat) (v : BasinSt) (k : Nat) : (s.setBasin n v).tport k = s.tport k := rfl
@[simp] theorem State.fld_setMc (s : State) (n : Nat) (v : McSt) (g : Fld) : (s.setMc n v).fld g = s.fld g := rfl
@[simp] theorem State.bit_setMc (s : State) (n : Nat) (v : McSt) (g : Fld) : (s.setMc n v).bit g = s.bit g := rfl
@[simp] theorem State.sfld_setMc (s : State) (n : Nat) (v : McSt) (g : Fld) : (s.setMc n v).sfld g = s.sfld g := rfl
@[simp] theorem State.pair_setMc (s : State) (n : Nat) (v : McSt) (lo hi : Fld) : (s.setMc n v).pair lo hi = s.pair lo hi := rfl
@[simp] theorem State.stagedVal_setMc (s : State) (n : Nat) (v : McSt) (g : Fld) : (s.setMc n v).stagedVal g = s.stagedVal g := rfl
@[simp] theorem State.dt_setMc (s : State) (n : Nat) (v : McSt) : (s.setMc n v).dt = s.dt := rfl
@[simp] theorem State.powered_setMc (s : State) (n : Nat) (v : McSt) : (s.setMc n v).powered = s.powered := rfl
@[simp] theorem State.axis_setMc (s : State) (n : Nat) (v : McSt) (k : Nat) : (s.setMc n v).axis k = s.axis k := rfl
@[simp] theorem State.aport_setMc (s : State) (n : Nat) (v : McSt) (k : Nat) : (s.setMc n v).aport k = s.aport k := rfl
@[simp] theorem State.weir_setMc (s : State) (n : Nat) (v : McSt) (k : Nat) : (s.setMc n v).weir k = s.weir k := rfl
@[simp] theorem State.chan_setMc (s : State) (n : Nat) (v : McSt) (k : Nat) : (s.setMc n v).chan k = s.chan k := rfl
@[simp] theorem State.str_setMc (s : State) (n : Nat) (v : McSt) (u : StrId) : (s.setMc n v).str u = s.str u := rfl
@[simp] theorem State.pond_setMc (s : State) (n : Nat) (v : McSt) (k : Nat) : (s.setMc n v).pond k = s.pond k := rfl
@[simp] theorem State.basin_setMc (s : State) (n : Nat) (v : McSt) (k : Nat) : (s.setMc n v).basin k = s.basin k := rfl
@[simp] theorem State.tport_setMc (s : State) (n : Nat) (v : McSt) (k : Nat) : (s.setMc n v).tport k = s.tport k := rfl
@[simp] theorem State.fld_setTport (s : State) (n : Nat) (v : TierPort) (g : Fld) : (s.setTport n v).fld g = s.fld g := rfl
@[simp] theorem State.bit_setTport (s : State) (n : Nat) (v : TierPort) (g : Fld) : (s.setTport n v).bit g = s.bit g := rfl
@[simp] theorem State.sfld_setTport (s : State) (n : Nat) (v : TierPort) (g : Fld) : (s.setTport n v).sfld g = s.sfld g := rfl
@[simp] theorem State.pair_setTport (s : State) (n : Nat) (v : TierPort) (lo hi : Fld) : (s.setTport n v).pair lo hi = s.pair lo hi := rfl
@[simp] theorem State.stagedVal_setTport (s : State) (n : Nat) (v : TierPort) (g : Fld) : (s.setTport n v).stagedVal g = s.stagedVal g := rfl
@[simp] theorem State.dt_setTport (s : State) (n : Nat) (v : TierPort) : (s.setTport n v).dt = s.dt := rfl
@[simp] theorem State.powered_setTport (s : State) (n : Nat) (v : TierPort) : (s.setTport n v).powered = s.powered := rfl
@[simp] theorem State.axis_setTport (s : State) (n : Nat) (v : TierPort) (k : Nat) : (s.setTport n v).axis k = s.axis k := rfl
@[simp] theorem State.aport_setTport (s : State) (n : Nat) (v : TierPort) (k : Nat) : (s.setTport n v).aport k = s.aport k := rfl
@[simp] theorem State.weir_setTport (s : State) (n : Nat) (v : TierPort) (k : Nat) : (s.setTport n v).weir k = s.weir k := rfl
@[simp] theorem State.chan_setTport (s : State) (n : Nat) (v : TierPort) (k : Nat) : (s.setTport n v).chan k = s.chan k := rfl
@[simp] theorem State.str_setTport (s : State) (n : Nat) (v : TierPort) (u : StrId) : (s.setTport n v).str u = s.str u := rfl
@[simp] theorem State.pond_setTport (s : State) (n : Nat) (v : TierPort) (k : Nat) : (s.setTport n v).pond k = s.pond k := rfl
@[simp] theorem State.basin_setTport (s : State) (n : Nat) (v : TierPort) (k : Nat) : (s.setTport n v).basin k = s.basin k := rfl
@[simp] theorem State.mc_setTport (s : State) (n : Nat) (v : TierPort) (k : Nat) : (s.setTport n v).mc k = s.mc k := rfl
@[simp] theorem State.fld_setLatch (s : State) (who : Requester) (v : Word32 × Option Word32) (g : Fld) : (s.setLatch who v).fld g = s.fld g := rfl
@[simp] theorem State.bit_setLatch (s : State) (who : Requester) (v : Word32 × Option Word32) (g : Fld) : (s.setLatch who v).bit g = s.bit g := rfl
@[simp] theorem State.sfld_setLatch (s : State) (who : Requester) (v : Word32 × Option Word32) (g : Fld) : (s.setLatch who v).sfld g = s.sfld g := rfl
@[simp] theorem State.pair_setLatch (s : State) (who : Requester) (v : Word32 × Option Word32) (lo hi : Fld) : (s.setLatch who v).pair lo hi = s.pair lo hi := rfl
@[simp] theorem State.stagedVal_setLatch (s : State) (who : Requester) (v : Word32 × Option Word32) (g : Fld) : (s.setLatch who v).stagedVal g = s.stagedVal g := rfl
@[simp] theorem State.dt_setLatch (s : State) (who : Requester) (v : Word32 × Option Word32) : (s.setLatch who v).dt = s.dt := rfl
@[simp] theorem State.powered_setLatch (s : State) (who : Requester) (v : Word32 × Option Word32) : (s.setLatch who v).powered = s.powered := rfl
@[simp] theorem State.axis_setLatch (s : State) (who : Requester) (v : Word32 × Option Word32) (k : Nat) : (s.setLatch who v).axis k = s.axis k := rfl
@[simp] theorem State.aport_setLatch (s : State) (who : Requester) (v : Word32 × Option Word32) (k : Nat) : (s.setLatch who v).aport k = s.aport k := rfl
@[simp] theorem State.weir_setLatch (s : State) (who : Requester) (v : Word32 × Option Word32) (k : Nat) : (s.setLatch who v).weir k = s.weir k := rfl
@[simp] theorem State.chan_setLatch (s : State) (who : Requester) (v : Word32 × Option Word32) (k : Nat) : (s.setLatch who v).chan k = s.chan k := rfl
@[simp] theorem State.str_setLatch (s : State) (who : Requester) (v : Word32 × Option Word32) (u : StrId) : (s.setLatch who v).str u = s.str u := rfl
@[simp] theorem State.pond_setLatch (s : State) (who : Requester) (v : Word32 × Option Word32) (k : Nat) : (s.setLatch who v).pond k = s.pond k := rfl
@[simp] theorem State.basin_setLatch (s : State) (who : Requester) (v : Word32 × Option Word32) (k : Nat) : (s.setLatch who v).basin k = s.basin k := rfl
@[simp] theorem State.mc_setLatch (s : State) (who : Requester) (v : Word32 × Option Word32) (k : Nat) : (s.setLatch who v).mc k = s.mc k := rfl
@[simp] theorem State.tport_setLatch (s : State) (who : Requester) (v : Word32 × Option Word32) (k : Nat) : (s.setLatch who v).tport k = s.tport k := rfl
@[simp] theorem State.fld_emit (s : State) (o : Out) (g : Fld) : (s.emit o).fld g = s.fld g := rfl
@[simp] theorem State.bit_emit (s : State) (o : Out) (g : Fld) : (s.emit o).bit g = s.bit g := rfl
@[simp] theorem State.sfld_emit (s : State) (o : Out) (g : Fld) : (s.emit o).sfld g = s.sfld g := rfl
@[simp] theorem State.pair_emit (s : State) (o : Out) (lo hi : Fld) : (s.emit o).pair lo hi = s.pair lo hi := rfl
@[simp] theorem State.stagedVal_emit (s : State) (o : Out) (g : Fld) : (s.emit o).stagedVal g = s.stagedVal g := rfl
@[simp] theorem State.dt_emit (s : State) (o : Out) : (s.emit o).dt = s.dt := rfl
@[simp] theorem State.powered_emit (s : State) (o : Out) : (s.emit o).powered = s.powered := rfl
@[simp] theorem State.axis_emit (s : State) (o : Out) (k : Nat) : (s.emit o).axis k = s.axis k := rfl
@[simp] theorem State.aport_emit (s : State) (o : Out) (k : Nat) : (s.emit o).aport k = s.aport k := rfl
@[simp] theorem State.weir_emit (s : State) (o : Out) (k : Nat) : (s.emit o).weir k = s.weir k := rfl
@[simp] theorem State.chan_emit (s : State) (o : Out) (k : Nat) : (s.emit o).chan k = s.chan k := rfl
@[simp] theorem State.str_emit (s : State) (o : Out) (u : StrId) : (s.emit o).str u = s.str u := rfl
@[simp] theorem State.pond_emit (s : State) (o : Out) (k : Nat) : (s.emit o).pond k = s.pond k := rfl
@[simp] theorem State.basin_emit (s : State) (o : Out) (k : Nat) : (s.emit o).basin k = s.basin k := rfl
@[simp] theorem State.mc_emit (s : State) (o : Out) (k : Nat) : (s.emit o).mc k = s.mc k := rfl
@[simp] theorem State.tport_emit (s : State) (o : Out) (k : Nat) : (s.emit o).tport k = s.tport k := rfl

/-! ### Reads of what was written -/

@[simp] theorem State.fld_setFld_same (s : State) (f : Fld) (v : Nat) : (s.setFld f v).fld f = v % 2 ^ f.width := by
  simp [State.fld, State.setFld]

theorem State.fld_setFld (s : State) (f g : Fld) (v : Nat) : (s.setFld f v).fld g = if g.key = f.key then v % 2 ^ f.width else s.fld g := by
  simp only [State.fld, State.setFld, Tab.get_set]

theorem State.fld_setFld_other (s : State) {f g : Fld} (v : Nat) (h : g.key ≠ f.key) : (s.setFld f v).fld g = s.fld g := by
  rw [State.fld_setFld, if_neg h]

theorem State.bit_setFld_other (s : State) {f g : Fld} (v : Nat) (h : g.key ≠ f.key) : (s.setFld f v).bit g = s.bit g := by
  simp only [State.bit, State.fld_setFld_other s v h]

@[simp] theorem State.setFld_setFld (s : State) (f : Fld) (u v : Nat) : (s.setFld f u).setFld f v = s.setFld f v := by
  simp [State.setFld]

@[simp] theorem State.stagedVal_stage_same (s : State) (f : Fld) (v : Option Nat) : (s.stage f v).stagedVal f = v := by
  simp [State.stagedVal, State.stage]

theorem State.stagedVal_stage_other (s : State) {f g : Fld} (v : Option Nat) (h : g.key ≠ f.key) : (s.stage f v).stagedVal g = s.stagedVal g := by
  simp only [State.stagedVal, State.stage, Tab.get_set, if_neg h]

@[simp] theorem State.axis_setAxis_same (s : State) (n : Nat) (v : AxisSt) : (s.setAxis n v).axis n = v := by
  simp [State.axis, State.setAxis]

theorem State.axis_setAxis_other (s : State) {n k : Nat} (v : AxisSt) (h : k ≠ n) : (s.setAxis n v).axis k = s.axis k := by
  simp only [State.axis, State.setAxis, Tab.get_set, if_neg h]

@[simp] theorem State.setAxis_setAxis (s : State) (n : Nat) (u v : AxisSt) : (s.setAxis n u).setAxis n v = s.setAxis n v := by
  simp [State.setAxis]

@[simp] theorem State.aport_setAport_same (s : State) (n : Nat) (v : PortSt) : (s.setAport n v).aport n = v := by
  simp [State.aport, State.setAport]

theorem State.aport_setAport_other (s : State) {n k : Nat} (v : PortSt) (h : k ≠ n) : (s.setAport n v).aport k = s.aport k := by
  simp only [State.aport, State.setAport, Tab.get_set, if_neg h]

@[simp] theorem State.setAport_setAport (s : State) (n : Nat) (u v : PortSt) : (s.setAport n u).setAport n v = s.setAport n v := by
  simp [State.setAport]

@[simp] theorem State.weir_setWeir_same (s : State) (n : Nat) (v : WeirSt) : (s.setWeir n v).weir n = v := by
  simp [State.weir, State.setWeir]

theorem State.weir_setWeir_other (s : State) {n k : Nat} (v : WeirSt) (h : k ≠ n) : (s.setWeir n v).weir k = s.weir k := by
  simp only [State.weir, State.setWeir, Tab.get_set, if_neg h]

@[simp] theorem State.setWeir_setWeir (s : State) (n : Nat) (u v : WeirSt) : (s.setWeir n u).setWeir n v = s.setWeir n v := by
  simp [State.setWeir]

@[simp] theorem State.chan_setChan_same (s : State) (n : Nat) (v : ChanSt) : (s.setChan n v).chan n = v := by
  simp [State.chan, State.setChan]

theorem State.chan_setChan_other (s : State) {n k : Nat} (v : ChanSt) (h : k ≠ n) : (s.setChan n v).chan k = s.chan k := by
  simp only [State.chan, State.setChan, Tab.get_set, if_neg h]

@[simp] theorem State.setChan_setChan (s : State) (n : Nat) (u v : ChanSt) : (s.setChan n u).setChan n v = s.setChan n v := by
  simp [State.setChan]

@[simp] theorem State.pond_setPond_same (s : State) (n : Nat) (v : PondSt) : (s.setPond n v).pond n = v := by
  simp [State.pond, State.setPond]

theorem State.pond_setPond_other (s : State) {n k : Nat} (v : PondSt) (h : k ≠ n) : (s.setPond n v).pond k = s.pond k := by
  simp only [State.pond, State.setPond, Tab.get_set, if_neg h]

@[simp] theorem State.setPond_setPond (s : State) (n : Nat) (u v : PondSt) : (s.setPond n u).setPond n v = s.setPond n v := by
  simp [State.setPond]

@[simp] theorem State.basin_setBasin_same (s : State) (n : Nat) (v : BasinSt) : (s.setBasin n v).basin n = v := by
  simp [State.basin, State.setBasin]

theorem State.basin_setBasin_other (s : State) {n k : Nat} (v : BasinSt) (h : k ≠ n) : (s.setBasin n v).basin k = s.basin k := by
  simp only [State.basin, State.setBasin, Tab.get_set, if_neg h]

@[simp] theorem State.setBasin_setBasin (s : State) (n : Nat) (u v : BasinSt) : (s.setBasin n u).setBasin n v = s.setBasin n v := by
  simp [State.setBasin]

@[simp] theorem State.mc_setMc_same (s : State) (n : Nat) (v : McSt) : (s.setMc n v).mc n = v := by
  simp [State.mc, State.setMc]

theorem State.mc_setMc_other (s : State) {n k : Nat} (v : McSt) (h : k ≠ n) : (s.setMc n v).mc k = s.mc k := by
  simp only [State.mc, State.setMc, Tab.get_set, if_neg h]

@[simp] theorem State.setMc_setMc (s : State) (n : Nat) (u v : McSt) : (s.setMc n u).setMc n v = s.setMc n v := by
  simp [State.setMc]

@[simp] theorem State.tport_setTport_same (s : State) (n : Nat) (v : TierPort) : (s.setTport n v).tport n = v := by
  simp [State.tport, State.setTport]

theorem State.tport_setTport_other (s : State) {n k : Nat} (v : TierPort) (h : k ≠ n) : (s.setTport n v).tport k = s.tport k := by
  simp only [State.tport, State.setTport, Tab.get_set, if_neg h]

@[simp] theorem State.setTport_setTport (s : State) (n : Nat) (u v : TierPort) : (s.setTport n u).setTport n v = s.setTport n v := by
  simp [State.setTport]

theorem strIdx_inj {u w : StrId} (h : strIdx u = strIdx w) : u = w := by
  obtain ⟨⟨p, hp⟩, ⟨k, hk⟩⟩ := u
  obtain ⟨⟨q, hq⟩, ⟨j, hj⟩⟩ := w
  simp only [strIdx] at h
  have h1 : p = q := by omega
  have h2 : k = j := by omega
  subst h1; subst h2; rfl

@[simp] theorem State.str_setStr_same (s : State) (w : StrId) (v : StrSt) : (s.setStr w v).str w = v := by
  simp [State.str, State.setStr]

theorem State.str_setStr_other (s : State) {u w : StrId} (v : StrSt) (h : u ≠ w) : (s.setStr w v).str u = s.str u := by
  have : strIdx u ≠ strIdx w := fun e => h (strIdx_inj e)
  simp only [State.str, State.setStr, Tab.get_set, if_neg this]

@[simp] theorem State.setStr_setStr (s : State) (w : StrId) (u v : StrSt) : (s.setStr w u).setStr w v = s.setStr w v := by
  simp [State.setStr]

@[simp] theorem State.emit_out (s : State) (o : Out) : (s.emit o).out = s.out ++ [o] := rfl

@[simp] theorem State.fresh_fst (s : State) : s.fresh.1 = s.freeCtr := rfl

/-! ### Registers of a strider -/

@[simp] theorem StrSt.xr_zero (t : StrSt) {r : RegNo} (h : r.val = 0) : t.xr r = 0 := by simp [StrSt.xr, h]

theorem StrSt.xr_setX_same (t : StrSt) {r : RegNo} (v : Word) (h : r.val ≠ 0) : (t.setX r v).xr r = v := by
  simp [StrSt.xr, StrSt.setX, h]

theorem StrSt.xr_setX_other (t : StrSt) {r q : RegNo} (v : Word) (h : q ≠ r) : (t.setX r v).xr q = t.xr q := by
  have h' : q.val ≠ r.val := fun e => h (Fin.ext e)
  unfold StrSt.xr StrSt.setX
  split_ifs <;> simp_all [Tab.get_set]

/-- A write to X0 is discarded. -/
theorem StrSt.setX_zero (t : StrSt) {r : RegNo} (v : Word) (h : r.val = 0) : t.setX r v = t := by simp [StrSt.setX, h]

end Sys2Proof.Machine
end

