-- ==== Sys2Proof/Laws/Exec.lean ====
section
/-!
SUPPORT. What exec does with each command, one lemma per constructor, and that every command is an effect on the device followed by what
the end of a command lets go on.
-/

namespace Sys2Proof.Machine

theorem run_powered {s : State} (h : s.powered = true) (f : State → State) : run s f = .next (settle s (f s)) := by simp [run, h]

theorem run_unpowered {s : State} (h : s.powered = false) (f : State → State) : run s f = .next s := by simp [run, h]

/-- A command acts while the units work, or always. -/
def Meaning (r : Host.Outcome State Fault Refusal) (s : State) : Prop := ∃ f : State → State, r = run s f ∨ r = runAlways s f

theorem Meaning.answers {r : Host.Outcome State Fault Refusal} {s : State} (h : Meaning r s) : r = .next s ∨ ∃ t, r = .next (settle s t) := by
  obtain ⟨f, rfl | rfl⟩ := h
  · unfold run; split_ifs
    · exact .inr ⟨_, rfl⟩
    · exact .inl rfl
  · exact .inr ⟨_, rfl⟩

theorem exec_nop : ∀ w p s, exec (.nop w p) s = execNop w p s := by intros; rfl
theorem exec_brk : ∀ w p s, exec (.brk w p) s = execBrk w p s := by intros; rfl
theorem exec_trap : ∀ w p f s, exec (.trap w p f) s = execTrap w p f s := by intros; rfl
theorem exec_tret : ∀ w p s, exec (.tret w p) s = execTret w p s := by intros; rfl
theorem exec_fenceSl : ∀ w p s, exec (.fenceSl w p) s = execFenceSl w p s := by intros; rfl
theorem exec_fenceN : ∀ w p s, exec (.fenceN w p) s = execFenceN w p s := by intros; rfl
theorem exec_fenceIo : ∀ w p s, exec (.fenceIo w p) s = execFenceIo w p s := by intros; rfl
theorem exec_fenceAll : ∀ w p s, exec (.fenceAll w p) s = execFenceAll w p s := by intros; rfl
theorem exec_j : ∀ w p disp s, exec (.j w p disp) s = execJ w p disp s := by intros; rfl
theorem exec_call : ∀ w p disp s, exec (.call w p disp) s = execCall w p disp s := by intros; rfl
theorem exec_jr : ∀ w p f s, exec (.jr w p f) s = execJr w p f s := by intros; rfl
theorem exec_callr : ∀ w p f s, exec (.callr w p f) s = execCallr w p f s := by intros; rfl
theorem exec_ret : ∀ w p s, exec (.ret w p) s = execRet w p s := by intros; rfl
theorem exec_br : ∀ w p f s, exec (.br w p f) s = execBr w p f s := by intros; rfl
theorem exec_loop : ∀ w p f s, exec (.loop w p f) s = execLoop w p f s := by intros; rfl
theorem exec_loopi : ∀ w p f s, exec (.loopi w p f) s = execLoopi w p f s := by intros; rfl
theorem exec_lpop : ∀ w p s, exec (.lpop w p) s = execLpop w p s := by intros; rfl
theorem exec_cmo : ∀ w p f e s, exec (.cmo w p f e) s = execCmo w p f e s := by intros; rfl
theorem exec_mfs : ∀ w p f s, exec (.mfs w p f) s = execMfs w p f s := by intros; rfl
theorem exec_mts : ∀ w p f s, exec (.mts w p f) s = execMts w p f s := by intros; rfl
theorem exec_rdt : ∀ w p f s, exec (.rdt w p f) s = execRdt w p f s := by intros; rfl
theorem exec_add : ∀ w p f s, exec (.add w p f) s = execAdd w p f s := by intros; rfl
theorem exec_sub : ∀ w p f s, exec (.sub w p f) s = execSub w p f s := by intros; rfl
theorem exec_and : ∀ w p f s, exec (.and w p f) s = execAnd w p f s := by intros; rfl
theorem exec_or : ∀ w p f s, exec (.or w p f) s = execOr w p f s := by intros; rfl
theorem exec_xor : ∀ w p f s, exec (.xor w p f) s = execXor w p f s := by intros; rfl
theorem exec_shl : ∀ w p f s, exec (.shl w p f) s = execShl w p f s := by intros; rfl
theorem exec_shr : ∀ w p f s, exec (.shr w p f) s = execShr w p f s := by intros; rfl
theorem exec_sar : ∀ w p f s, exec (.sar w p f) s = execSar w p f s := by intros; rfl
theorem exec_mul : ∀ w p f s, exec (.mul w p f) s = execMul w p f s := by intros; rfl
theorem exec_mulh : ∀ w p f s, exec (.mulh w p f) s = execMulh w p f s := by intros; rfl
theorem exec_mulhu : ∀ w p f s, exec (.mulhu w p f) s = execMulhu w p f s := by intros; rfl
theorem exec_div : ∀ w p f s, exec (.div w p f) s = execDiv w p f s := by intros; rfl
theorem exec_divu : ∀ w p f s, exec (.divu w p f) s = execDivu w p f s := by intros; rfl
theorem exec_rem : ∀ w p f s, exec (.rem w p f) s = execRem w p f s := by intros; rfl
theorem exec_remu : ∀ w p f s, exec (.remu w p f) s = execRemu w p f s := by intros; rfl
theorem exec_cmp : ∀ w p f s, exec (.cmp w p f) s = execCmp w p f s := by intros; rfl
theorem exec_tst : ∀ w p f s, exec (.tst w p f) s = execTst w p f s := by intros; rfl
theorem exec_min : ∀ w p f s, exec (.min w p f) s = execMin w p f s := by intros; rfl
theorem exec_max : ∀ w p f s, exec (.max w p f) s = execMax w p f s := by intros; rfl
theorem exec_clz : ∀ w p f s, exec (.clz w p f) s = execClz w p f s := by intros; rfl
theorem exec_popc : ∀ w p f s, exec (.popc w p f) s = execPopc w p f s := by intros; rfl
theorem exec_sel : ∀ w p f s, exec (.sel w p f) s = execSel w p f s := by intros; rfl
theorem exec_addi : ∀ w p f s, exec (.addi w p f) s = execAddi w p f s := by intros; rfl
theorem exec_andi : ∀ w p f s, exec (.andi w p f) s = execAndi w p f s := by intros; rfl
theorem exec_ori : ∀ w p f s, exec (.ori w p f) s = execOri w p f s := by intros; rfl
theorem exec_xori : ∀ w p f s, exec (.xori w p f) s = execXori w p f s := by intros; rfl
theorem exec_shi : ∀ w p f s, exec (.shi w p f) s = execShi w p f s := by intros; rfl
theorem exec_cmpi : ∀ w p f s, exec (.cmpi w p f) s = execCmpi w p f s := by intros; rfl
theorem exec_movi : ∀ w p f s, exec (.movi w p f) s = execMovi w p f s := by intros; rfl
theorem exec_muli : ∀ w p f s, exec (.muli w p f) s = execMuli w p f s := by intros; rfl
theorem exec_ld : ∀ w p f e s, exec (.ld w p f e) s = execLd w p f e s := by intros; rfl
theorem exec_st : ∀ w p f s, exec (.st w p f) s = execSt w p f s := by intros; rfl
theorem exec_ldf : ∀ w p f e s, exec (.ldf w p f e) s = execLdf w p f e s := by intros; rfl
theorem exec_stf : ∀ w p f s, exec (.stf w p f) s = execStf w p f s := by intros; rfl
theorem exec_ldp : ∀ w p f e s, exec (.ldp w p f e) s = execLdp w p f e s := by intros; rfl
theorem exec_stp : ∀ w p f s, exec (.stp w p f) s = execStp w p f s := by intros; rfl
theorem exec_amo : ∀ w p f e s, exec (.amo w p f e) s = execAmo w p f e s := by intros; rfl
theorem exec_sti : ∀ w p f s, exec (.sti w p f) s = execSti w p f s := by intros; rfl
theorem exec_fopS : ∀ w p f s, exec (.fopS w p f) s = execFopS w p f s := by intros; rfl
theorem exec_fopD : ∀ w p f s, exec (.fopD w p f) s = execFopD w p f s := by intros; rfl
theorem exec_fcmp : ∀ w p f s, exec (.fcmp w p f) s = execFcmp w p f s := by intros; rfl
theorem exec_fcvt : ∀ w p f s, exec (.fcvt w p f) s = execFcvt w p f s := by intros; rfl
theorem exec_fmov : ∀ w p f s, exec (.fmov w p f) s = execFmov w p f s := by intros; rfl
theorem exec_emit : ∀ w p f s, exec (.emit w p f) s = execEmit w p f s := by intros; rfl
theorem exec_emitStallAccept : ∀ n s, exec (.emitStallAccept n) s = execEmitStallAccept n s := by intros; rfl
theorem exec_emitWaitTimeout : ∀ w s, exec (.emitWaitTimeout w) s = execEmitWaitTimeout w s := by intros; rfl
theorem exec_post : ∀ w p f s, exec (.post w p f) s = execPost w p f s := by intros; rfl
theorem exec_postWaitTimeout : ∀ w s, exec (.postWaitTimeout w) s = execPostWaitTimeout w s := by intros; rfl
theorem exec_commit : ∀ w p f busy s, exec (.commit w p f busy) s = execCommit w p f busy s := by intros; rfl
theorem exec_commitBusyTimeout : ∀ w s, exec (.commitBusyTimeout w) s = execCommitBusyTimeout w s := by intros; rfl
theorem exec_recv : ∀ w p f s, exec (.recv w p f) s = execRecv w p f s := by intros; rfl
theorem exec_taskend : ∀ w p f s, exec (.taskend w p f) s = execTaskend w p f s := by intros; rfl
theorem exec_endMsgRetry : ∀ w s, exec (.endMsgRetry w) s = execEndMsgRetry w s := by intros; rfl
theorem exec_waita : ∀ w p f s, exec (.waita w p f) s = execWaita w p f s := by intros; rfl
theorem exec_waitt : ∀ w p f s, exec (.waitt w p f) s = execWaitt w p f s := by intros; rfl
theorem exec_waitq : ∀ w p f s, exec (.waitq w p f) s = execWaitq w p f s := by intros; rfl
theorem exec_sleep : ∀ w p f s, exec (.sleep w p f) s = execSleep w p f s := by intros; rfl
theorem exec_waitaComplete : ∀ w s, exec (.waitaComplete w) s = execWaitaComplete w s := by intros; rfl
theorem exec_waittComplete : ∀ w s, exec (.waittComplete w) s = execWaittComplete w s := by intros; rfl
theorem exec_waitqComplete : ∀ w s, exec (.waitqComplete w) s = execWaitqComplete w s := by intros; rfl
theorem exec_sleepComplete : ∀ w s, exec (.sleepComplete w) s = execSleepComplete w s := by intros; rfl
theorem exec_waitDeadline : ∀ w s, exec (.waitDeadline w) s = execWaitDeadline w s := by intros; rfl
theorem exec_cxInstruction : ∀ w p op ops s, exec (.cxInstruction w p op ops) s = execCxInstruction w p op ops s := by intros; rfl
theorem exec_taskAbandon : ∀ w s, exec (.taskAbandon w) s = execTaskAbandon w s := by intros; rfl
theorem exec_taskDispatch : ∀ b q w s, exec (.taskDispatch b q w) s = execTaskDispatch b q w s := by intros; rfl
theorem exec_sbEntryDrain : ∀ w e s, exec (.sbEntryDrain w e) s = execSbEntryDrain w e s := by intros; rfl
theorem exec_cbEntryDrain : ∀ w idx e s, exec (.cbEntryDrain w idx e) s = execCbEntryDrain w idx e s := by intros; rfl
theorem exec_weirLaunch : ∀ n fine k s, exec (.weirLaunch n fine k) s = execWeirLaunch n fine k s := by intros; rfl
theorem exec_atxLateFound : ∀ n xid s, exec (.atxLateFound n xid) s = execAtxLateFound n xid s := by intros; rfl
theorem exec_atxHeldTimeout : ∀ n xid s, exec (.atxHeldTimeout n xid) s = execAtxHeldTimeout n xid s := by intros; rfl
theorem exec_verifyTimeout : ∀ n xid s, exec (.verifyTimeout n xid) s = execVerifyTimeout n xid s := by intros; rfl
theorem exec_reportRetry : ∀ n s, exec (.reportRetry n) s = execReportRetry n s := by intros; rfl
theorem exec_slackEvaluation : ∀ s, exec .slackEvaluation s = execSlackEvaluation s := by intros; rfl
theorem exec_weirEnable : ∀ n en s, exec (.weirEnable n en) s = execWeirEnable n en s := by intros; rfl
theorem exec_spdClr : ∀ s, exec .spdClr s = execSpdClr s := by intros; rfl
theorem exec_spdreqWrite : ∀ rated req s, exec (.spdreqWrite rated req) s = execSpdreqWrite rated req s := by intros; rfl
theorem exec_fcEnable : ∀ n s, exec (.fcEnable n) s = execFcEnable n s := by intros; rfl
theorem exec_fcDisable : ∀ n s, exec (.fcDisable n) s = execFcDisable n s := by intros; rfl
theorem exec_fcStopComplete : ∀ n s, exec (.fcStopComplete n) s = execFcStopComplete n s := by intros; rfl
theorem exec_fcViolClr : ∀ n s, exec (.fcViolClr n) s = execFcViolClr n s := by intros; rfl
theorem exec_groupPllLock : ∀ g s, exec (.groupPllLock g) s = execGroupPllLock g s := by intros; rfl
theorem exec_groupPllLoss : ∀ g s, exec (.groupPllLoss g) s = execGroupPllLoss g s := by intros; rfl
theorem exec_symbolLock : ∀ n s, exec (.symbolLock n) s = execSymbolLock n s := by intros; rfl
theorem exec_symbolLockLoss : ∀ n s, exec (.symbolLockLoss n) s = execSymbolLockLoss n s := by intros; rfl
theorem exec_helloTimer : ∀ n s, exec (.helloTimer n) s = execHelloTimer n s := by intros; rfl
theorem exec_linkupAttemptTimeout : ∀ n s, exec (.linkupAttemptTimeout n) s = execLinkupAttemptTimeout n s := by intros; rfl
theorem exec_retrainAttempt : ∀ n s, exec (.retrainAttempt n) s = execRetrainAttempt n s := by intros; rfl
theorem exec_fcRxHello : ∀ n f s, exec (.fcRxHello n f) s = execFcRxHello n f s := by intros; rfl
theorem exec_fcRxIdle : ∀ n f s, exec (.fcRxIdle n f) s = execFcRxIdle n f s := by intros; rfl
theorem exec_fcRxAck : ∀ n f s, exec (.fcRxAck n f) s = execFcRxAck n f s := by intros; rfl
theorem exec_fcRxNak : ∀ n f s, exec (.fcRxNak n f) s = execFcRxNak n f s := by intros; rfl
theorem exec_fcRxSync : ∀ n f fine s, exec (.fcRxSync n f fine) s = execFcRxSync n f fine s := by intros; rfl
theorem exec_fcRxAngle : ∀ n f s, exec (.fcRxAngle n f) s = execFcRxAngle n f s := by intros; rfl
theorem exec_fcRxVerify : ∀ n f s, exec (.fcRxVerify n f) s = execFcRxVerify n f s := by intros; rfl
theorem exec_fcRxSense : ∀ n f s, exec (.fcRxSense n f) s = execFcRxSense n f s := by intros; rfl
theorem exec_fcRxStatus : ∀ n f s, exec (.fcRxStatus n f) s = execFcRxStatus n f s := by intros; rfl
theorem exec_sensePostRetry : ∀ n s, exec (.sensePostRetry n) s = execSensePostRetry n s := by intros; rfl
theorem exec_fcRxBadFrame : ∀ n k s, exec (.fcRxBadFrame n k) s = execFcRxBadFrame n k s := by intros; rfl
theorem exec_fcRxViolation : ∀ n f overrun s, exec (.fcRxViolation n f overrun) s = execFcRxViolation n f overrun s := by intros; rfl
theorem exec_quarantineTimeout : ∀ n s, exec (.quarantineTimeout n) s = execQuarantineTimeout n s := by intros; rfl
theorem exec_fcTxFrame : ∀ n fine s, exec (.fcTxFrame n fine) s = execFcTxFrame n fine s := by intros; rfl
theorem exec_resendTimeout : ∀ n s, exec (.resendTimeout n) s = execResendTimeout n s := by intros; rfl
theorem exec_idleKeepalive : ∀ n s, exec (.idleKeepalive n) s = execIdleKeepalive n s := by intros; rfl
theorem exec_silence : ∀ n s, exec (.silence n) s = execSilence n s := by intros; rfl
theorem exec_syncPeriod : ∀ n fine s, exec (.syncPeriod n fine) s = execSyncPeriod n fine s := by intros; rfl
theorem exec_syncRespMissed : ∀ n s, exec (.syncRespMissed n) s = execSyncRespMissed n s := by intros; rfl
theorem exec_safeFrameTimer : ∀ n s, exec (.safeFrameTimer n) s = execSafeFrameTimer n s := by intros; rfl
theorem exec_timeCtlEn : ∀ en load aonCal s, exec (.timeCtlEn en load aonCal) s = execTimeCtlEn en load aonCal s := by intros; rfl
theorem exec_dtSlew : ∀ v s, exec (.dtSlew v) s = execDtSlew v s := by intros; rfl
theorem exec_aonCalWindow : ∀ count s, exec (.aonCalWindow count) s = execAonCalWindow count s := by intros; rfl
theorem exec_ffReqSend : ∀ fine s, exec (.ffReqSend fine) s = execFfReqSend fine s := by intros; rfl
theorem exec_ffRxReq : ∀ port p fineIn turn fineOut s, exec (.ffRxReq port p fineIn turn fineOut) s = execFfRxReq port p fineIn turn fineOut s := by intros; rfl
theorem exec_ffRelay : ∀ inPort p residence s, exec (.ffRelay inPort p residence) s = execFfRelay inPort p residence s := by intros; rfl
theorem exec_ffRxResp : ∀ p fine s, exec (.ffRxResp p fine) s = execFfRxResp p fine s := by intros; rfl
theorem exec_holdoverTimeout : ∀ s, exec .holdoverTimeout s = execHoldoverTimeout s := by intros; rfl
theorem exec_capArm : ∀ s, exec .capArm s = execCapArm s := by intros; rfl
theorem exec_trackerEnable : ∀ n en s, exec (.trackerEnable n en) s = execTrackerEnable n en s := by intros; rfl
theorem exec_axCommit : ∀ n s, exec (.axCommit n) s = execAxCommit n s := by intros; rfl
theorem exec_apQuadEdge : ∀ m k fine s, exec (.apQuadEdge m k fine) s = execApQuadEdge m k fine s := by intros; rfl
theorem exec_apIndex : ∀ m fine s, exec (.apIndex m fine) s = execApIndex m fine s := by intros; rfl
theorem exec_ssiPoll : ∀ m dataHigh fine s, exec (.ssiPoll m dataHigh fine) s = execSsiPoll m dataHigh fine s := by intros; rfl
theorem exec_ssiFrameDone : ∀ m raw s, exec (.ssiFrameDone m raw) s = execSsiFrameDone m raw s := by intros; rfl
theorem exec_trackerUpdate : ∀ n s, exec (.trackerUpdate n) s = execTrackerUpdate n s := by intros; rfl
theorem exec_standstillTimeout : ∀ n s, exec (.standstillTimeout n) s = execStandstillTimeout n s := by intros; rfl
theorem exec_srclostTimeout : ∀ n s, exec (.srclostTimeout n) s = execSrclostTimeout n s := by intros; rfl
theorem exec_srclostLost : ∀ n s, exec (.srclostLost n) s = execSrclostLost n s := by intros; rfl
theorem exec_regWrite : ∀ who addr size v s, exec (.regWrite who addr size v) s = execRegWrite who addr size v s := by intros; rfl
theorem exec_pairLoRead : ∀ who addr s, exec (.pairLoRead who addr) s = execPairLoRead who addr s := by intros; rfl
theorem exec_pairLoWrite : ∀ who addr v s, exec (.pairLoWrite who addr v) s = execPairLoWrite who addr v s := by intros; rfl
theorem exec_pairHiWrite : ∀ who addr v s, exec (.pairHiWrite who addr v) s = execPairHiWrite who addr v s := by intros; rfl
theorem exec_regTmo : ∀ addr s, exec (.regTmo addr) s = execRegTmo addr s := by intros; rfl
theorem exec_devCfgmodeWrite : ∀ v s, exec (.devCfgmodeWrite v) s = execDevCfgmodeWrite v s := by intros; rfl
theorem exec_weirCommit : ∀ n s, exec (.weirCommit n) s = execWeirCommit n s := by intros; rfl
theorem exec_faultAck : ∀ blk inst bits s, exec (.faultAck blk inst bits) s = execFaultAck blk inst bits s := by intros; rfl
theorem exec_adtOpRead : ∀ s, exec .adtOpRead s = execAdtOpRead s := by intros; rfl
theorem exec_adtOpWrite : ∀ s, exec .adtOpWrite s = execAdtOpWrite s := by intros; rfl
theorem exec_adtDataAccess : ∀ write s, exec (.adtDataAccess write) s = execAdtDataAccess write s := by intros; rfl
theorem exec_adtScrubStep : ∀ err s, exec (.adtScrubStep err) s = execAdtScrubStep err s := by intros; rfl
theorem exec_cmpJobCompress : ∀ s, exec .cmpJobCompress s = execCmpJobCompress s := by intros; rfl
theorem exec_cmpJobDecompress : ∀ s, exec .cmpJobDecompress s = execCmpJobDecompress s := by intros; rfl
theorem exec_cmpJobVerify : ∀ s, exec .cmpJobVerify s = execCmpJobVerify s := by intros; rfl
theorem exec_cmpJobDone : ∀ mism dyn s, exec (.cmpJobDone mism dyn) s = execCmpJobDone mism dyn s := by intros; rfl
theorem exec_cmpTblCommit : ∀ s, exec .cmpTblCommit s = execCmpTblCommit s := by intros; rfl
theorem exec_cmpRequestSubmit : ∀ w v s, exec (.cmpRequestSubmit w v) s = execCmpRequestSubmit w v s := by intros; rfl
theorem exec_cmpPortFullTimeout : ∀ w s, exec (.cmpPortFullTimeout w) s = execCmpPortFullTimeout w s := by intros; rfl
theorem exec_cmpRequestComplete : ∀ lane crcErr s, exec (.cmpRequestComplete lane crcErr) s = execCmpRequestComplete lane crcErr s := by intros; rfl
theorem exec_dmaRequestSubmit : ∀ w e v s, exec (.dmaRequestSubmit w e v) s = execDmaRequestSubmit w e v s := by intros; rfl
theorem exec_dmaFullTimeout : ∀ w s, exec (.dmaFullTimeout w) s = execDmaFullTimeout w s := by intros; rfl
theorem exec_dmaRequestComplete : ∀ p e err s, exec (.dmaRequestComplete p e err) s = execDmaRequestComplete p e err s := by intros; rfl
theorem exec_l2Clean : ∀ p ahi s, exec (.l2Clean p ahi) s = execL2Clean p ahi s := by intros; rfl
theorem exec_l2Invalidate : ∀ p ahi s, exec (.l2Invalidate p ahi) s = execL2Invalidate p ahi s := by intros; rfl
theorem exec_l2CleanInvalidate : ∀ p ahi s, exec (.l2CleanInvalidate p ahi) s = execL2CleanInvalidate p ahi s := by intros; rfl
theorem exec_l2CleanAll : ∀ p s, exec (.l2CleanAll p) s = execL2CleanAll p s := by intros; rfl
theorem exec_l2InvalidateAll : ∀ p s, exec (.l2InvalidateAll p) s = execL2InvalidateAll p s := by intros; rfl
theorem exec_l2CleanInvalidateAll : ∀ p s, exec (.l2CleanInvalidateAll p) s = execL2CleanInvalidateAll p s := by intros; rfl
theorem exec_l2MaintDone : ∀ p tagUe s, exec (.l2MaintDone p tagUe) s = execL2MaintDone p tagUe s := by intros; rfl
theorem exec_l2CtlEn : ∀ p en s, exec (.l2CtlEn p en) s = execL2CtlEn p en s := by intros; rfl
theorem exec_l2Stopped : ∀ p s, exec (.l2Stopped p) s = execL2Stopped p s := by intros; rfl
theorem exec_l2CeWindow : ∀ p s, exec (.l2CeWindow p) s = execL2CeWindow p s := by intros; rfl
theorem exec_pondCtlEn : ∀ p en s, exec (.pondCtlEn p en) s = execPondCtlEn p en s := by intros; rfl
theorem exec_pmCtlEn : ∀ p en s, exec (.pmCtlEn p en) s = execPmCtlEn p en s := by intros; rfl
theorem exec_pmRegionCommit : ∀ p master desc commit s, exec (.pmRegionCommit p master desc commit) s = execPmRegionCommit p master desc commit s := by intros; rfl
theorem exec_pmConflictClr : ∀ p s, exec (.pmConflictClr p) s = execPmConflictClr p s := by intros; rfl
theorem exec_pondRearm : ∀ p s, exec (.pondRearm p) s = execPondRearm p s := by intros; rfl
theorem exec_marchStart : ∀ p s, exec (.marchStart p) s = execMarchStart p s := by intros; rfl
theorem exec_marchDone : ∀ p bad ue s, exec (.marchDone p bad ue) s = execMarchDone p bad ue s := by intros; rfl
theorem exec_gets : ∀ b r line resends s, exec (.gets b r line resends) s = execGets b r line resends s := by intros; rfl
theorem exec_getm : ∀ b r line resends s, exec (.getm b r line resends) s = execGetm b r line resends s := by intros; rfl
theorem exec_upg : ∀ b r line resends s, exec (.upg b r line resends) s = execUpg b r line resends s := by intros; rfl
theorem exec_putm : ∀ b r line keep resends s, exec (.putm b r line keep resends) s = execPutm b r line keep resends s := by intros; rfl
theorem exec_putc : ∀ b r line resends s, exec (.putc b r line resends) s = execPutc b r line resends s := by intros; rfl
theorem exec_ucrd : ∀ b r line resends s, exec (.ucrd b r line resends) s = execUcrd b r line resends s := by intros; rfl
theorem exec_ucwr : ∀ b r line bytes poison resends s, exec (.ucwr b r line bytes poison resends) s = execUcwr b r line bytes poison resends s := by intros; rfl
theorem exec_combinedResponse : ∀ b line resends s, exec (.combinedResponse b line resends) s = execCombinedResponse b line resends s := by intros; rfl
theorem exec_snps : ∀ b r line resends s, exec (.snps b r line resends) s = execSnps b r line resends s := by intros; rfl
theorem exec_snpi : ∀ b r line resends s, exec (.snpi b r line resends) s = execSnpi b r line resends s := by intros; rfl
theorem exec_snpd : ∀ b r line resends s, exec (.snpd b r line resends) s = execSnpd b r line resends s := by intros; rfl
theorem exec_snpf : ∀ b r set resends s, exec (.snpf b r set resends) s = execSnpf b r set resends s := by intros; rfl
theorem exec_dataS : ∀ b r line resends s, exec (.dataS b r line resends) s = execDataS b r line resends s := by intros; rfl
theorem exec_dataE : ∀ b r line resends s, exec (.dataE b r line resends) s = execDataE b r line resends s := by intros; rfl
theorem exec_dataM : ∀ b r line resends s, exec (.dataM b r line resends) s = execDataM b r line resends s := by intros; rfl
theorem exec_grant : ∀ b r line resends s, exec (.grant b r line resends) s = execGrant b r line resends s := by intros; rfl
theorem exec_wback : ∀ b r line resends s, exec (.wback b r line resends) s = execWback b r line resends s := by intros; rfl
theorem exec_wbackStale : ∀ b r line resends s, exec (.wbackStale b r line resends) s = execWbackStale b r line resends s := by intros; rfl
theorem exec_nack : ∀ b r line resends s, exec (.nack b r line resends) s = execNack b r line resends s := by intros; rfl
theorem exec_nackResend : ∀ b r line resends s, exec (.nackResend b r line resends) s = execNackResend b r line resends s := by intros; rfl
theorem exec_udata : ∀ b r line resends s, exec (.udata b r line resends) s = execUdata b r line resends s := by intros; rfl
theorem exec_ucwrComplete : ∀ b r line resends s, exec (.ucwrComplete b r line resends) s = execUcwrComplete b r line resends s := by intros; rfl
theorem exec_sfScrubStep : ∀ b set e s, exec (.sfScrubStep b set e) s = execSfScrubStep b set e s := by intros; rfl
theorem exec_basinReplay : ∀ b poisoned s, exec (.basinReplay b poisoned) s = execBasinReplay b poisoned s := by intros; rfl
theorem exec_mcRefresh : ∀ c s, exec (.mcRefresh c) s = execMcRefresh c s := by intros; rfl
theorem exec_mcScrubStep : ∀ c e map s, exec (.mcScrubStep c e map) s = execMcScrubStep c e map s := by intros; rfl
theorem exec_mcPeriodicRetrain : ∀ c low s, exec (.mcPeriodicRetrain c low) s = execMcPeriodicRetrain c low s := by intros; rfl
theorem exec_mcTempRead : ∀ c t s, exec (.mcTempRead c t) s = execMcTempRead c t s := by intros; rfl
theorem exec_mcTrainStart : ∀ c s, exec (.mcTrainStart c) s = execMcTrainStart c s := by intros; rfl
theorem exec_mcRetrainDone : ∀ c eyes s, exec (.mcRetrainDone c eyes) s = execMcRetrainDone c eyes s := by intros; rfl
theorem exec_mcSpareCommit : ∀ c s, exec (.mcSpareCommit c) s = execMcSpareCommit c s := by intros; rfl
theorem exec_migrationStep : ∀ c e s, exec (.migrationStep c e) s = execMigrationStep c e s := by intros; rfl
theorem exec_mcRgnRead : ∀ c idx s, exec (.mcRgnRead c idx) s = execMcRgnRead c idx s := by intros; rfl
theorem exec_mcRgnWrite : ∀ c idx s, exec (.mcRgnWrite c idx) s = execMcRgnWrite c idx s := by intros; rfl
theorem exec_mcRgnInvalidate : ∀ c idx s, exec (.mcRgnInvalidate c idx) s = execMcRgnInvalidate c idx s := by intros; rfl
theorem exec_mcRgnRebind : ∀ c idx s, exec (.mcRgnRebind c idx) s = execMcRgnRebind c idx s := by intros; rfl
theorem exec_regionInitDone : ∀ s, exec .regionInitDone s = execRegionInitDone s := by intros; rfl
theorem exec_housekeepingTick : ∀ found s, exec (.housekeepingTick found) s = execHousekeepingTick found s := by intros; rfl
theorem exec_cAutoAck : ∀ blk inst bit s, exec (.cAutoAck blk inst bit) s = execCAutoAck blk inst bit s := by intros; rfl
theorem exec_rAutoAck : ∀ blk inst bit s, exec (.rAutoAck blk inst bit) s = execRAutoAck blk inst bit s := by intros; rfl
theorem exec_tarnReplay : ∀ p poisoned s, exec (.tarnReplay p poisoned) s = execTarnReplay p poisoned s := by intros; rfl
theorem exec_csWordRefresh : ∀ p s, exec (.csWordRefresh p) s = execCsWordRefresh p s := by intros; rfl
theorem exec_csBackgroundPass : ∀ p e s, exec (.csBackgroundPass p e) s = execCsBackgroundPass p e s := by intros; rfl
theorem exec_svcFailover : ∀ s, exec .svcFailover s = execSvcFailover s := by intros; rfl
theorem exec_estopNFall : ∀ s, exec .estopNFall s = execEstopNFall s := by intros; rfl
theorem exec_pfwNFall : ∀ s, exec .pfwNFall s = execPfwNFall s := by intros; rfl
theorem exec_pfwNRise : ∀ s, exec .pfwNRise s = execPfwNRise s := by intros; rfl
theorem exec_tailReportComplete : ∀ s, exec .tailReportComplete s = execTailReportComplete s := by intros; rfl
theorem exec_safeReq : ∀ s, exec .safeReq s = execSafeReq s := by intros; rfl
theorem exec_secPageEnable : ∀ who k s, exec (.secPageEnable who k) s = execSecPageEnable who k s := by intros; rfl
theorem exec_secPageDisable : ∀ who k s, exec (.secPageDisable who k) s = execSecPageDisable who k s := by intros; rfl
theorem exec_pageKeyDerived : ∀ k parity s, exec (.pageKeyDerived k parity) s = execPageKeyDerived k parity s := by intros; rfl
theorem exec_pageZeroed : ∀ k s, exec (.pageZeroed k) s = execPageZeroed k s := by intros; rfl
theorem exec_secKeyload : ∀ who v s, exec (.secKeyload who v) s = execSecKeyload who v s := by intros; rfl
theorem exec_secKeyloadStart : ∀ who s, exec (.secKeyloadStart who) s = execSecKeyloadStart who s := by intros; rfl
theorem exec_secKeyloadClear : ∀ who s, exec (.secKeyloadClear who) s = execSecKeyloadClear who s := by intros; rfl
theorem exec_otpLock : ∀ who s, exec (.otpLock who) s = execOtpLock who s := by intros; rfl
theorem exec_rngRestart : ∀ who s, exec (.rngRestart who) s = execRngRestart who s := by intros; rfl
theorem exec_rngRestartDone : ∀ ok s, exec (.rngRestartDone ok) s = execRngRestartDone ok s := by intros; rfl
theorem exec_rngDataRead : ∀ who s, exec (.rngDataRead who) s = execRngDataRead who s := by intros; rfl
theorem exec_maskReseed : ∀ s, exec .maskReseed s = execMaskReseed s := by intros; rfl
theorem exec_shaInit : ∀ who lastb s, exec (.shaInit who lastb) s = execShaInit who lastb s := by intros; rfl
theorem exec_shaData : ∀ who v s, exec (.shaData who v) s = execShaData who v s := by intros; rfl
theorem exec_shaFinal : ∀ who lastb s, exec (.shaFinal who lastb) s = execShaFinal who lastb s := by intros; rfl
theorem exec_shaDone : ∀ parity s, exec (.shaDone parity) s = execShaDone parity s := by intros; rfl
theorem exec_hostArbRound : ∀ io s, exec (.hostArbRound io) s = execHostArbRound io s := by intros; rfl
theorem exec_sqTail : ∀ who q v s, exec (.sqTail who q v) s = execSqTail who q v s := by intros; rfl
theorem exec_cqHead : ∀ who q v s, exec (.cqHead who q v) s = execCqHead who q v s := by intros; rfl
theorem exec_cqCoalesceTimeout : ∀ q s, exec (.cqCoalesceTimeout q) s = execCqCoalesceTimeout q s := by intros; rfl
theorem exec_hostCtlEn : ∀ who en s, exec (.hostCtlEn who en) s = execHostCtlEn who en s := by intros; rfl
theorem exec_hostReset : ∀ linkDown s, exec (.hostReset linkDown) s = execHostReset linkDown s := by intros; rfl
theorem exec_dpAddrWrite : ∀ who v s, exec (.dpAddrWrite who v) s = execDpAddrWrite who v s := by intros; rfl
theorem exec_dpCtlWrite : ∀ who v s, exec (.dpCtlWrite who v) s = execDpCtlWrite who v s := by intros; rfl
theorem exec_dpDataWrite : ∀ units s, exec (.dpDataWrite units) s = execDpDataWrite units s := by intros; rfl
theorem exec_dpDataRead : ∀ n e s, exec (.dpDataRead n e) s = execDpDataRead n e s := by intros; rfl
theorem exec_dpPrefetchExpire : ∀ s, exec .dpPrefetchExpire s = execDpPrefetchExpire s := by intros; rfl
theorem exec_devInfo : ∀ q s, exec (.devInfo q) s = execDevInfo q s := by intros; rfl
theorem exec_devTopo : ∀ q s, exec (.devTopo q) s = execDevTopo q s := by intros; rfl
theorem exec_devReset : ∀ q s, exec (.devReset q) s = execDevReset q s := by intros; rfl
theorem exec_devSummary : ∀ q s, exec (.devSummary q) s = execDevSummary q s := by intros; rfl
theorem exec_devPort : ∀ q s, exec (.devPort q) s = execDevPort q s := by intros; rfl
theorem exec_hostQcreate : ∀ q s, exec (.hostQcreate q) s = execHostQcreate q s := by intros; rfl
theorem exec_hostQdelete : ∀ q s, exec (.hostQdelete q) s = execHostQdelete q s := by intros; rfl
theorem exec_hostStats : ∀ q s, exec (.hostStats q) s = execHostStats q s := by intros; rfl
theorem exec_hostLock : ∀ q s, exec (.hostLock q) s = execHostLock q s := by intros; rfl
theorem exec_patLoad : ∀ q rows s, exec (.patLoad q rows) s = execPatLoad q rows s := by intros; rfl
theorem exec_patDrop : ∀ q s, exec (.patDrop q) s = execPatDrop q s := by intros; rfl
theorem exec_patList : ∀ q s, exec (.patList q) s = execPatList q s := by intros; rfl
theorem exec_patVerify : ∀ q s, exec (.patVerify q) s = execPatVerify q s := by intros; rfl
theorem exec_patTable : ∀ q s, exec (.patTable q) s = execPatTable q s := by intros; rfl
theorem exec_axConfig : ∀ q s, exec (.axConfig q) s = execAxConfig q s := by intros; rfl
theorem exec_axPort : ∀ q s, exec (.axPort q) s = execAxPort q s := by intros; rfl
theorem exec_axQuery : ∀ q s, exec (.axQuery q) s = execAxQuery q s := by intros; rfl
theorem exec_chConfig : ∀ q s, exec (.chConfig q) s = execChConfig q s := by intros; rfl
theorem exec_chEnable : ∀ q s, exec (.chEnable q) s = execChEnable q s := by intros; rfl
theorem exec_chPartner : ∀ q s, exec (.chPartner q) s = execChPartner q s := by intros; rfl
theorem exec_chTable : ∀ q s, exec (.chTable q) s = execChTable q s := by intros; rfl
theorem exec_chTableread : ∀ q s, exec (.chTableread q) s = execChTableread q s := by intros; rfl
theorem exec_chStats : ∀ q s, exec (.chStats q) s = execChStats q s := by intros; rfl
theorem exec_chSpeed : ∀ q s, exec (.chSpeed q) s = execChSpeed q s := by intros; rfl
theorem exec_taskQconfig : ∀ q s, exec (.taskQconfig q) s = execTaskQconfig q s := by intros; rfl
theorem exec_taskPost : ∀ q s, exec (.taskPost q) s = execTaskPost q s := by intros; rfl
theorem exec_taskPlace : ∀ q s, exec (.taskPlace q) s = execTaskPlace q s := by intros; rfl
theorem exec_taskLimit : ∀ q s, exec (.taskLimit q) s = execTaskLimit q s := by intros; rfl
theorem exec_taskStatus : ∀ q s, exec (.taskStatus q) s = execTaskStatus q s := by intros; rfl
theorem exec_memRegion : ∀ q s, exec (.memRegion q) s = execMemRegion q s := by intros; rfl
theorem exec_memCache : ∀ q s, exec (.memCache q) s = execMemCache q s := by intros; rfl
theorem exec_memMarch : ∀ q s, exec (.memMarch q) s = execMemMarch q s := by intros; rfl
theorem exec_memRetrain : ∀ q s, exec (.memRetrain q) s = execMemRetrain q s := by intros; rfl
theorem exec_memSpare : ∀ q s, exec (.memSpare q) s = execMemSpare q s := by intros; rfl
theorem exec_memStats : ∀ q s, exec (.memStats q) s = execMemStats q s := by intros; rfl
theorem exec_memScrub : ∀ q s, exec (.memScrub q) s = execMemScrub q s := by intros; rfl
theorem exec_pwrState : ∀ q s, exec (.pwrState q) s = execPwrState q s := by intros; rfl
theorem exec_pwrPond : ∀ q s, exec (.pwrPond q) s = execPwrPond q s := by intros; rfl
theorem exec_pwrStatus : ∀ q s, exec (.pwrStatus q) s = execPwrStatus q s := by intros; rfl
theorem exec_fltAck : ∀ q s, exec (.fltAck q) s = execFltAck q s := by intros; rfl
theorem exec_fltSafe : ∀ q s, exec (.fltSafe q) s = execFltSafe q s := by intros; rfl
theorem exec_fltResume : ∀ q s, exec (.fltResume q) s = execFltResume q s := by intros; rfl
theorem exec_fltLog : ∀ q s, exec (.fltLog q) s = execFltLog q s := by intros; rfl
theorem exec_fltLogbuf : ∀ q s, exec (.fltLogbuf q) s = execFltLogbuf q s := by intros; rfl
theorem exec_fltTailbuf : ∀ q s, exec (.fltTailbuf q) s = execFltTailbuf q s := by intros; rfl
theorem exec_fltRecord : ∀ q s, exec (.fltRecord q) s = execFltRecord q s := by intros; rfl
theorem exec_fltJournal : ∀ q s, exec (.fltJournal q) s = execFltJournal q s := by intros; rfl
theorem exec_fltCtl : ∀ q s, exec (.fltCtl q) s = execFltCtl q s := by intros; rfl
theorem exec_secInfo : ∀ q s, exec (.secInfo q) s = execSecInfo q s := by intros; rfl
theorem exec_secPage : ∀ q s, exec (.secPage q) s = execSecPage q s := by intros; rfl
theorem exec_secSyskey : ∀ q s, exec (.secSyskey q) s = execSecSyskey q s := by intros; rfl
theorem exec_secAttest : ∀ q s, exec (.secAttest q) s = execSecAttest q s := by intros; rfl
theorem exec_secLog : ∀ q s, exec (.secLog q) s = execSecLog q s := by intros; rfl
theorem exec_secRollfwd : ∀ q s, exec (.secRollfwd q) s = execSecRollfwd q s := by intros; rfl
theorem exec_secSlot : ∀ q sig s, exec (.secSlot q sig) s = execSecSlot q sig s := by intros; rfl
theorem exec_secRandom : ∀ q s, exec (.secRandom q) s = execSecRandom q s := by intros; rfl
theorem exec_secDbgchal : ∀ q s, exec (.secDbgchal q) s = execSecDbgchal q s := by intros; rfl
theorem exec_secDbgunlock : ∀ q sig s, exec (.secDbgunlock q sig) s = execSecDbgunlock q sig s := by intros; rfl
theorem exec_expRdreg : ∀ q s, exec (.expRdreg q) s = execExpRdreg q s := by intros; rfl
theorem exec_expWrreg : ∀ q s, exec (.expWrreg q) s = execExpWrreg q s := by intros; rfl
theorem exec_expRdmem : ∀ q s, exec (.expRdmem q) s = execExpRdmem q s := by intros; rfl
theorem exec_expWrmem : ∀ q s, exec (.expWrmem q) s = execExpWrmem q s := by intros; rfl
theorem exec_expUcinfo : ∀ q s, exec (.expUcinfo q) s = execExpUcinfo q s := by intros; rfl
theorem exec_expUcread : ∀ q s, exec (.expUcread q) s = execExpUcread q s := by intros; rfl
theorem exec_expUcstage : ∀ q image s, exec (.expUcstage q image) s = execExpUcstage q image s := by intros; rfl
theorem exec_tierRxHello : ∀ t f s, exec (.tierRxHello t f) s = execTierRxHello t f s := by intros; rfl
theorem exec_tierRxAck : ∀ t f s, exec (.tierRxAck t f) s = execTierRxAck t f s := by intros; rfl
theorem exec_tierRxNak : ∀ t f s, exec (.tierRxNak t f) s = execTierRxNak t f s := by intros; rfl
theorem exec_tierRxBadFrame : ∀ t k s, exec (.tierRxBadFrame t k) s = execTierRxBadFrame t k s := by intros; rfl
theorem exec_tierViolation : ∀ t f s, exec (.tierViolation t f) s = execTierViolation t f s := by intros; rfl
theorem exec_tierRxSafe : ∀ t f s, exec (.tierRxSafe t f) s = execTierRxSafe t f s := by intros; rfl
theorem exec_tierRoute : ∀ t f s, exec (.tierRoute t f) s = execTierRoute t f s := by intros; rfl
theorem exec_tierRouteCommit : ∀ s, exec .tierRouteCommit s = execTierRouteCommit s := by intros; rfl
theorem exec_tierResendTimeout : ∀ t s, exec (.tierResendTimeout t) s = execTierResendTimeout t s := by intros; rfl
theorem exec_tierSilence : ∀ t s, exec (.tierSilence t) s = execTierSilence t s := by intros; rfl
theorem exec_blockLockLoss : ∀ t s, exec (.blockLockLoss t) s = execBlockLockLoss t s := by intros; rfl
theorem exec_tierRetrainAttempt : ∀ t s, exec (.tierRetrainAttempt t) s = execTierRetrainAttempt t s := by intros; rfl
theorem exec_tierEnable : ∀ t en s, exec (.tierEnable t en) s = execTierEnable t en s := by intros; rfl
theorem exec_cmd : ∀ t f s, exec (.cmd t f) s = execCmd t f s := by intros; rfl
theorem exec_reply : ∀ t f s, exec (.reply t f) s = execReply t f s := by intros; rfl
theorem exec_fault : ∀ t f s, exec (.fault t f) s = execFault t f s := by intros; rfl
theorem exec_summary : ∀ t f s, exec (.summary t f) s = execSummary t f s := by intros; rfl
theorem exec_summaryTimer : ∀ s, exec .summaryTimer s = execSummaryTimer s := by intros; rfl
theorem exec_tail : ∀ t f s, exec (.tail t f) s = execTail t f s := by intros; rfl
theorem exec_boot : ∀ t f s, exec (.boot t f) s = execBoot t f s := by intros; rfl
theorem exec_bootstat : ∀ t f s, exec (.bootstat t f) s = execBootstat t f s := by intros; rfl
theorem exec_secret : ∀ t f s, exec (.secret t f) s = execSecret t f s := by intros; rfl
theorem exec_notice : ∀ t f s, exec (.notice t f) s = execNotice t f s := by intros; rfl
theorem exec_pwrReqNap : ∀ s, exec .pwrReqNap s = execPwrReqNap s := by intros; rfl
theorem exec_pwrReqSleep : ∀ s, exec .pwrReqSleep s = execPwrReqSleep s := by intros; rfl
theorem exec_napAutoHold : ∀ s, exec .napAutoHold s = execNapAutoHold s := by intros; rfl
theorem exec_dSleepPowerOff : ∀ s, exec .dSleepPowerOff s = execDSleepPowerOff s := by intros; rfl
theorem exec_wakeNFall : ∀ s, exec .wakeNFall s = execWakeNFall s := by intros; rfl
theorem exec_wakeTimer : ∀ s, exec .wakeTimer s = execWakeTimer s := by intros; rfl
theorem exec_tierActivityWake : ∀ t s, exec (.tierActivityWake t) s = execTierActivityWake t s := by intros; rfl
theorem exec_resumeReady : ∀ ok s, exec (.resumeReady ok) s = execResumeReady ok s := by intros; rfl
theorem exec_pondPowerGate : ∀ p s, exec (.pondPowerGate p) s = execPondPowerGate p s := by intros; rfl
theorem exec_pllLockLoss : ∀ k s, exec (.pllLockLoss k) s = execPllLockLoss k s := by intros; rfl
theorem exec_pllRelock : ∀ k s, exec (.pllRelock k) s = execPllRelock k s := by intros; rfl
theorem exec_avsWriteRetry : ∀ ack s, exec (.avsWriteRetry ack) s = execAvsWriteRetry ack s := by intros; rfl
theorem exec_vmargin : ∀ b s, exec (.vmargin b) s = execVmargin b s := by intros; rfl
theorem exec_blkGo : ∀ blk inst s, exec (.blkGo blk inst) s = execBlkGo blk inst s := by intros; rfl
theorem exec_rstCtlKind : ∀ kind s, exec (.rstCtlKind kind) s = execRstCtlKind kind s := by intros; rfl
theorem exec_rstNFall : ∀ s, exec .rstNFall s = execRstNFall s := by intros; rfl
theorem exec_rstNRise : ∀ role boot c s, exec (.rstNRise role boot c) s = execRstNRise role boot c s := by intros; rfl
theorem exec_powerOn : ∀ s, exec .powerOn s = execPowerOn s := by intros; rfl
theorem exec_perstN : ∀ low s, exec (.perstN low) s = execPerstN low s := by intros; rfl
theorem exec_ready : ∀ s, exec .ready s = execReady s := by intros; rfl
theorem exec_thermSample : ∀ ts s, exec (.thermSample ts) s = execThermSample ts s := by intros; rfl
theorem exec_throttleStep : ∀ s, exec .throttleStep s = execThrottleStep s := by intros; rfl
theorem exec_chainTest : ∀ s, exec .chainTest s = execChainTest s := by intros; rfl
theorem exec_chainTestEnd : ∀ s, exec .chainTestEnd s = execChainTestEnd s := by intros; rfl
theorem exec_smbBootStage : ∀ pec s, exec (.smbBootStage pec) s = execSmbBootStage pec s := by intros; rfl
theorem exec_smbState : ∀ pec s, exec (.smbState pec) s = execSmbState pec s := by intros; rfl
theorem exec_smbTj : ∀ pec s, exec (.smbTj pec) s = execSmbTj pec s := by intros; rfl
theorem exec_smbPower : ∀ pec s, exec (.smbPower pec) s = execSmbPower pec s := by intros; rfl
theorem exec_smbSerial : ∀ pec s, exec (.smbSerial pec) s = execSmbSerial pec s := by intros; rfl
theorem exec_smbClassDs : ∀ pec s, exec (.smbClassDs pec) s = execSmbClassDs pec s := by intros; rfl
theorem exec_smbMcTemp : ∀ pec s, exec (.smbMcTemp pec) s = execSmbMcTemp pec s := by intros; rfl
theorem exec_smbThermSense : ∀ k pec s, exec (.smbThermSense k pec) s = execSmbThermSense k pec s := by intros; rfl
theorem exec_smbArp : ∀ addr pec s, exec (.smbArp addr pec) s = execSmbArp addr pec s := by intros; rfl
theorem exec_smbAlertResponse : ∀ s, exec .smbAlertResponse s = execSmbAlertResponse s := by intros; rfl
theorem exec_extest : ∀ s, exec .extest s = execExtest s := by intros; rfl
theorem exec_samplePreload : ∀ s, exec .samplePreload s = execSamplePreload s := by intros; rfl
theorem exec_idcode : ∀ s, exec .idcode s = execIdcode s := by intros; rfl
theorem exec_clamp : ∀ s, exec .clamp s = execClamp s := by intros; rfl
theorem exec_highz : ∀ s, exec .highz s = execHighz s := by intros; rfl
theorem exec_dbgPort : ∀ s, exec .dbgPort s = execDbgPort s := by intros; rfl
theorem exec_mbist : ∀ s, exec .mbist s = execMbist s := by intros; rfl
theorem exec_bypass : ∀ s, exec .bypass s = execBypass s := by intros; rfl
theorem exec_undefinedOpcode : ∀ w p op s, exec (.undefinedOpcode w p op) s = execUndefinedOpcode w p op s := by intros; rfl
theorem exec_instructionFetchFault : ∀ w p poison s, exec (.instructionFetchFault w p poison) s = execInstructionFetchFault w p poison s := by intros; rfl
theorem exec_timeCommitPoint : ∀ s, exec .timeCommitPoint s = execTimeCommitPoint s := by intros; rfl
theorem exec_tbclkLoss : ∀ s, exec .tbclkLoss s = execTbclkLoss s := by intros; rfl
theorem exec_fineUnlock : ∀ s, exec .fineUnlock s = execFineUnlock s := by intros; rfl
theorem exec_fineRelock : ∀ s, exec .fineRelock s = execFineRelock s := by intros; rfl
theorem exec_undervoltage : ∀ s, exec .undervoltage s = execUndervoltage s := by intros; rfl
theorem exec_estopNRise : ∀ ns s, exec (.estopNRise ns) s = execEstopNRise ns s := by intros; rfl
theorem exec_tierTxFrame : ∀ t s, exec (.tierTxFrame t) s = execTierTxFrame t s := by intros; rfl
theorem exec_blockLock : ∀ t s, exec (.blockLock t) s = execBlockLock t s := by intros; rfl
theorem exec_tierHelloTimer : ∀ t s, exec (.tierHelloTimer t) s = execTierHelloTimer t s := by intros; rfl
theorem exec_tierAttemptTimeout : ∀ t s, exec (.tierAttemptTimeout t) s = execTierAttemptTimeout t s := by intros; rfl
theorem exec_tierRxIdle : ∀ t f s, exec (.tierRxIdle t f) s = execTierRxIdle t f s := by intros; rfl
theorem exec_tierSafeFrameTimer : ∀ s, exec .tierSafeFrameTimer s = execTierSafeFrameTimer s := by intros; rfl
theorem exec_pondEarlyWake : ∀ p s, exec (.pondEarlyWake p) s = execPondEarlyWake p s := by intros; rfl
theorem exec_devPortTimeout : ∀ q s, exec (.devPortTimeout q) s = execDevPortTimeout q s := by intros; rfl
theorem exec_avsSettle : ∀ s, exec .avsSettle s = execAvsSettle s := by intros; rfl
theorem exec_wayDisableDone : ∀ p s, exec (.wayDisableDone p) s = execWayDisableDone p s := by intros; rfl
theorem exec_rngHealthTest : ∀ samples s, exec (.rngHealthTest samples) s = execRngHealthTest samples s := by intros; rfl
theorem exec_shaDigestRead : ∀ who s, exec (.shaDigestRead who) s = execShaDigestRead who s := by intros; rfl
theorem exec_msixUnmask : ∀ v s, exec (.msixUnmask v) s = execMsixUnmask v s := by intros; rfl
theorem exec_d3hot : ∀ d3 s, exec (.d3hot d3) s = execD3hot d3 s := by intros; rfl
theorem exec_basinCtlEn : ∀ b en s, exec (.basinCtlEn b en) s = execBasinCtlEn b en s := by intros; rfl
theorem exec_cmpCtlEn : ∀ en s, exec (.cmpCtlEn en) s = execCmpCtlEn en s := by intros; rfl
theorem exec_mcCtlEn : ∀ c en s, exec (.mcCtlEn c en) s = execMcCtlEn c en s := by intros; rfl

/-! ### The form of every meaning -/

theorem form_nop : ∀ w p s, Meaning (exec (.nop w p) s) s := by intros; rw [exec_nop]; unfold execNop; exact ⟨_, .inl rfl⟩
theorem form_brk : ∀ w p s, Meaning (exec (.brk w p) s) s := by intros; rw [exec_brk]; unfold execBrk; exact ⟨_, .inl rfl⟩
theorem form_trap : ∀ w p f s, Meaning (exec (.trap w p f) s) s := by intros; rw [exec_trap]; unfold execTrap; exact ⟨_, .inl rfl⟩
theorem form_tret : ∀ w p s, Meaning (exec (.tret w p) s) s := by intros; rw [exec_tret]; unfold execTret; exact ⟨_, .inl rfl⟩
theorem form_fenceSl : ∀ w p s, Meaning (exec (.fenceSl w p) s) s := by intros; rw [exec_fenceSl]; unfold execFenceSl; exact ⟨_, .inl rfl⟩
theorem form_fenceN : ∀ w p s, Meaning (exec (.fenceN w p) s) s := by intros; rw [exec_fenceN]; unfold execFenceN; exact ⟨_, .inl rfl⟩
theorem form_fenceIo : ∀ w p s, Meaning (exec (.fenceIo w p) s) s := by intros; rw [exec_fenceIo]; unfold execFenceIo; exact ⟨_, .inl rfl⟩
theorem form_fenceAll : ∀ w p s, Meaning (exec (.fenceAll w p) s) s := by intros; rw [exec_fenceAll]; unfold execFenceAll; exact ⟨_, .inl rfl⟩
theorem form_j : ∀ w p disp s, Meaning (exec (.j w p disp) s) s := by intros; rw [exec_j]; unfold execJ; exact ⟨_, .inl rfl⟩
theorem form_call : ∀ w p disp s, Meaning (exec (.call w p disp) s) s := by intros; rw [exec_call]; unfold execCall; exact ⟨_, .inl rfl⟩
theorem form_jr : ∀ w p f s, Meaning (exec (.jr w p f) s) s := by intros; rw [exec_jr]; unfold execJr; exact ⟨_, .inl rfl⟩
theorem form_callr : ∀ w p f s, Meaning (exec (.callr w p f) s) s := by intros; rw [exec_callr]; unfold execCallr; exact ⟨_, .inl rfl⟩
theorem form_ret : ∀ w p s, Meaning (exec (.ret w p) s) s := by intros; rw [exec_ret]; unfold execRet; exact ⟨_, .inl rfl⟩
theorem form_br : ∀ w p f s, Meaning (exec (.br w p f) s) s := by intros; rw [exec_br]; unfold execBr; exact ⟨_, .inl rfl⟩
theorem form_loop : ∀ w p f s, Meaning (exec (.loop w p f) s) s := by intros; rw [exec_loop]; unfold execLoop; exact ⟨_, .inl rfl⟩
theorem form_loopi : ∀ w p f s, Meaning (exec (.loopi w p f) s) s := by intros; rw [exec_loopi]; unfold execLoopi; exact ⟨_, .inl rfl⟩
theorem form_lpop : ∀ w p s, Meaning (exec (.lpop w p) s) s := by intros; rw [exec_lpop]; unfold execLpop; exact ⟨_, .inl rfl⟩
theorem form_cmo : ∀ w p f e s, Meaning (exec (.cmo w p f e) s) s := by intros; rw [exec_cmo]; unfold execCmo; exact ⟨_, .inl rfl⟩
theorem form_mfs : ∀ w p f s, Meaning (exec (.mfs w p f) s) s := by intros; rw [exec_mfs]; unfold execMfs; exact ⟨_, .inl rfl⟩
theorem form_mts : ∀ w p f s, Meaning (exec (.mts w p f) s) s := by intros; rw [exec_mts]; unfold execMts; exact ⟨_, .inl rfl⟩
theorem form_rdt : ∀ w p f s, Meaning (exec (.rdt w p f) s) s := by intros; rw [exec_rdt]; unfold execRdt; exact ⟨_, .inl rfl⟩
theorem form_add : ∀ w p f s, Meaning (exec (.add w p f) s) s := by intros; rw [exec_add]; unfold execAdd; exact ⟨_, .inl rfl⟩
theorem form_sub : ∀ w p f s, Meaning (exec (.sub w p f) s) s := by intros; rw [exec_sub]; unfold execSub; exact ⟨_, .inl rfl⟩
theorem form_and : ∀ w p f s, Meaning (exec (.and w p f) s) s := by intros; rw [exec_and]; unfold execAnd; exact ⟨_, .inl rfl⟩
theorem form_or : ∀ w p f s, Meaning (exec (.or w p f) s) s := by intros; rw [exec_or]; unfold execOr; exact ⟨_, .inl rfl⟩
theorem form_xor : ∀ w p f s, Meaning (exec (.xor w p f) s) s := by intros; rw [exec_xor]; unfold execXor; exact ⟨_, .inl rfl⟩
theorem form_shl : ∀ w p f s, Meaning (exec (.shl w p f) s) s := by intros; rw [exec_shl]; unfold execShl; exact ⟨_, .inl rfl⟩
theorem form_shr : ∀ w p f s, Meaning (exec (.shr w p f) s) s := by intros; rw [exec_shr]; unfold execShr; exact ⟨_, .inl rfl⟩
theorem form_sar : ∀ w p f s, Meaning (exec (.sar w p f) s) s := by intros; rw [exec_sar]; unfold execSar; exact ⟨_, .inl rfl⟩
theorem form_mul : ∀ w p f s, Meaning (exec (.mul w p f) s) s := by intros; rw [exec_mul]; unfold execMul; exact ⟨_, .inl rfl⟩
theorem form_mulh : ∀ w p f s, Meaning (exec (.mulh w p f) s) s := by intros; rw [exec_mulh]; unfold execMulh; exact ⟨_, .inl rfl⟩
theorem form_mulhu : ∀ w p f s, Meaning (exec (.mulhu w p f) s) s := by intros; rw [exec_mulhu]; unfold execMulhu; exact ⟨_, .inl rfl⟩
theorem form_div : ∀ w p f s, Meaning (exec (.div w p f) s) s := by intros; rw [exec_div]; unfold execDiv; exact ⟨_, .inl rfl⟩
theorem form_divu : ∀ w p f s, Meaning (exec (.divu w p f) s) s := by intros; rw [exec_divu]; unfold execDivu; exact ⟨_, .inl rfl⟩
theorem form_rem : ∀ w p f s, Meaning (exec (.rem w p f) s) s := by intros; rw [exec_rem]; unfold execRem; exact ⟨_, .inl rfl⟩
theorem form_remu : ∀ w p f s, Meaning (exec (.remu w p f) s) s := by intros; rw [exec_remu]; unfold execRemu; exact ⟨_, .inl rfl⟩
theorem form_cmp : ∀ w p f s, Meaning (exec (.cmp w p f) s) s := by intros; rw [exec_cmp]; unfold execCmp; exact ⟨_, .inl rfl⟩
theorem form_tst : ∀ w p f s, Meaning (exec (.tst w p f) s) s := by intros; rw [exec_tst]; unfold execTst; exact ⟨_, .inl rfl⟩
theorem form_min : ∀ w p f s, Meaning (exec (.min w p f) s) s := by intros; rw [exec_min]; unfold execMin; exact ⟨_, .inl rfl⟩
theorem form_max : ∀ w p f s, Meaning (exec (.max w p f) s) s := by intros; rw [exec_max]; unfold execMax; exact ⟨_, .inl rfl⟩
theorem form_clz : ∀ w p f s, Meaning (exec (.clz w p f) s) s := by intros; rw [exec_clz]; unfold execClz; exact ⟨_, .inl rfl⟩
theorem form_popc : ∀ w p f s, Meaning (exec (.popc w p f) s) s := by intros; rw [exec_popc]; unfold execPopc; exact ⟨_, .inl rfl⟩
theorem form_sel : ∀ w p f s, Meaning (exec (.sel w p f) s) s := by intros; rw [exec_sel]; unfold execSel; exact ⟨_, .inl rfl⟩
theorem form_addi : ∀ w p f s, Meaning (exec (.addi w p f) s) s := by intros; rw [exec_addi]; unfold execAddi; exact ⟨_, .inl rfl⟩
theorem form_andi : ∀ w p f s, Meaning (exec (.andi w p f) s) s := by intros; rw [exec_andi]; unfold execAndi; exact ⟨_, .inl rfl⟩
theorem form_ori : ∀ w p f s, Meaning (exec (.ori w p f) s) s := by intros; rw [exec_ori]; unfold execOri; exact ⟨_, .inl rfl⟩
theorem form_xori : ∀ w p f s, Meaning (exec (.xori w p f) s) s := by intros; rw [exec_xori]; unfold execXori; exact ⟨_, .inl rfl⟩
theorem form_shi : ∀ w p f s, Meaning (exec (.shi w p f) s) s := by intros; rw [exec_shi]; unfold execShi; exact ⟨_, .inl rfl⟩
theorem form_cmpi : ∀ w p f s, Meaning (exec (.cmpi w p f) s) s := by intros; rw [exec_cmpi]; unfold execCmpi; exact ⟨_, .inl rfl⟩
theorem form_movi : ∀ w p f s, Meaning (exec (.movi w p f) s) s := by intros; rw [exec_movi]; unfold execMovi; exact ⟨_, .inl rfl⟩
theorem form_muli : ∀ w p f s, Meaning (exec (.muli w p f) s) s := by intros; rw [exec_muli]; unfold execMuli; exact ⟨_, .inl rfl⟩
theorem form_ld : ∀ w p f e s, Meaning (exec (.ld w p f e) s) s := by intros; rw [exec_ld]; unfold execLd; exact ⟨_, .inl rfl⟩
theorem form_st : ∀ w p f s, Meaning (exec (.st w p f) s) s := by intros; rw [exec_st]; unfold execSt; exact ⟨_, .inl rfl⟩
theorem form_ldf : ∀ w p f e s, Meaning (exec (.ldf w p f e) s) s := by intros; rw [exec_ldf]; unfold execLdf; exact ⟨_, .inl rfl⟩
theorem form_stf : ∀ w p f s, Meaning (exec (.stf w p f) s) s := by intros; rw [exec_stf]; unfold execStf; exact ⟨_, .inl rfl⟩
theorem form_ldp : ∀ w p f e s, Meaning (exec (.ldp w p f e) s) s := by intros; rw [exec_ldp]; unfold execLdp; exact ⟨_, .inl rfl⟩
theorem form_stp : ∀ w p f s, Meaning (exec (.stp w p f) s) s := by intros; rw [exec_stp]; unfold execStp; exact ⟨_, .inl rfl⟩
theorem form_amo : ∀ w p f e s, Meaning (exec (.amo w p f e) s) s := by intros; rw [exec_amo]; unfold execAmo; exact ⟨_, .inl rfl⟩
theorem form_sti : ∀ w p f s, Meaning (exec (.sti w p f) s) s := by intros; rw [exec_sti]; unfold execSti; exact ⟨_, .inl rfl⟩
theorem form_fopS : ∀ w p f s, Meaning (exec (.fopS w p f) s) s := by intros; rw [exec_fopS]; unfold execFopS; exact ⟨_, .inl rfl⟩
theorem form_fopD : ∀ w p f s, Meaning (exec (.fopD w p f) s) s := by intros; rw [exec_fopD]; unfold execFopD; exact ⟨_, .inl rfl⟩
theorem form_fcmp : ∀ w p f s, Meaning (exec (.fcmp w p f) s) s := by intros; rw [exec_fcmp]; unfold execFcmp; exact ⟨_, .inl rfl⟩
theorem form_fcvt : ∀ w p f s, Meaning (exec (.fcvt w p f) s) s := by intros; rw [exec_fcvt]; unfold execFcvt; exact ⟨_, .inl rfl⟩
theorem form_fmov : ∀ w p f s, Meaning (exec (.fmov w p f) s) s := by intros; rw [exec_fmov]; unfold execFmov; exact ⟨_, .inl rfl⟩
theorem form_emit : ∀ w p f s, Meaning (exec (.emit w p f) s) s := by intros; rw [exec_emit]; unfold execEmit; exact ⟨_, .inl rfl⟩
theorem form_emitStallAccept : ∀ n s, Meaning (exec (.emitStallAccept n) s) s := by intros; rw [exec_emitStallAccept]; unfold execEmitStallAccept; exact ⟨_, .inl rfl⟩
theorem form_emitWaitTimeout : ∀ w s, Meaning (exec (.emitWaitTimeout w) s) s := by intros; rw [exec_emitWaitTimeout]; unfold execEmitWaitTimeout; exact ⟨_, .inl rfl⟩
theorem form_post : ∀ w p f s, Meaning (exec (.post w p f) s) s := by intros; rw [exec_post]; unfold execPost; exact ⟨_, .inl rfl⟩
theorem form_postWaitTimeout : ∀ w s, Meaning (exec (.postWaitTimeout w) s) s := by intros; rw [exec_postWaitTimeout]; unfold execPostWaitTimeout; exact ⟨_, .inl rfl⟩
theorem form_commit : ∀ w p f busy s, Meaning (exec (.commit w p f busy) s) s := by intros; rw [exec_commit]; unfold execCommit; exact ⟨_, .inl rfl⟩
theorem form_commitBusyTimeout : ∀ w s, Meaning (exec (.commitBusyTimeout w) s) s := by intros; rw [exec_commitBusyTimeout]; unfold execCommitBusyTimeout; exact ⟨_, .inl rfl⟩
theorem form_recv : ∀ w p f s, Meaning (exec (.recv w p f) s) s := by intros; rw [exec_recv]; unfold execRecv; exact ⟨_, .inl rfl⟩
theorem form_taskend : ∀ w p f s, Meaning (exec (.taskend w p f) s) s := by intros; rw [exec_taskend]; unfold execTaskend; exact ⟨_, .inl rfl⟩
theorem form_endMsgRetry : ∀ w s, Meaning (exec (.endMsgRetry w) s) s := by intros; rw [exec_endMsgRetry]; unfold execEndMsgRetry; exact ⟨_, .inl rfl⟩
theorem form_waita : ∀ w p f s, Meaning (exec (.waita w p f) s) s := by intros; rw [exec_waita]; unfold execWaita; exact ⟨_, .inl rfl⟩
theorem form_waitt : ∀ w p f s, Meaning (exec (.waitt w p f) s) s := by intros; rw [exec_waitt]; unfold execWaitt; exact ⟨_, .inl rfl⟩
theorem form_waitq : ∀ w p f s, Meaning (exec (.waitq w p f) s) s := by intros; rw [exec_waitq]; unfold execWaitq; exact ⟨_, .inl rfl⟩
theorem form_sleep : ∀ w p f s, Meaning (exec (.sleep w p f) s) s := by intros; rw [exec_sleep]; unfold execSleep; exact ⟨_, .inl rfl⟩
theorem form_waitaComplete : ∀ w s, Meaning (exec (.waitaComplete w) s) s := by intros; rw [exec_waitaComplete]; unfold execWaitaComplete; exact ⟨_, .inl rfl⟩
theorem form_waittComplete : ∀ w s, Meaning (exec (.waittComplete w) s) s := by intros; rw [exec_waittComplete]; unfold execWaittComplete; exact ⟨_, .inl rfl⟩
theorem form_waitqComplete : ∀ w s, Meaning (exec (.waitqComplete w) s) s := by intros; rw [exec_waitqComplete]; unfold execWaitqComplete; exact ⟨_, .inl rfl⟩
theorem form_sleepComplete : ∀ w s, Meaning (exec (.sleepComplete w) s) s := by intros; rw [exec_sleepComplete]; unfold execSleepComplete; exact ⟨_, .inl rfl⟩
theorem form_waitDeadline : ∀ w s, Meaning (exec (.waitDeadline w) s) s := by intros; rw [exec_waitDeadline]; unfold execWaitDeadline; exact ⟨_, .inl rfl⟩
theorem form_cxInstruction : ∀ w p op ops s, Meaning (exec (.cxInstruction w p op ops) s) s := by intros; rw [exec_cxInstruction]; unfold execCxInstruction; exact ⟨_, .inl rfl⟩
theorem form_taskAbandon : ∀ w s, Meaning (exec (.taskAbandon w) s) s := by intros; rw [exec_taskAbandon]; unfold execTaskAbandon; exact ⟨_, .inl rfl⟩
theorem form_taskDispatch : ∀ b q w s, Meaning (exec (.taskDispatch b q w) s) s := by intros; rw [exec_taskDispatch]; unfold execTaskDispatch; exact ⟨_, .inl rfl⟩
theorem form_sbEntryDrain : ∀ w e s, Meaning (exec (.sbEntryDrain w e) s) s := by intros; rw [exec_sbEntryDrain]; unfold execSbEntryDrain; exact ⟨_, .inl rfl⟩
theorem form_cbEntryDrain : ∀ w idx e s, Meaning (exec (.cbEntryDrain w idx e) s) s := by intros; rw [exec_cbEntryDrain]; unfold execCbEntryDrain; exact ⟨_, .inl rfl⟩
theorem form_weirLaunch : ∀ n fine k s, Meaning (exec (.weirLaunch n fine k) s) s := by intros; rw [exec_weirLaunch]; unfold execWeirLaunch; exact ⟨_, .inl rfl⟩
theorem form_atxLateFound : ∀ n xid s, Meaning (exec (.atxLateFound n xid) s) s := by intros; rw [exec_atxLateFound]; unfold execAtxLateFound; exact ⟨_, .inl rfl⟩
theorem form_atxHeldTimeout : ∀ n xid s, Meaning (exec (.atxHeldTimeout n xid) s) s := by intros; rw [exec_atxHeldTimeout]; unfold execAtxHeldTimeout; exact ⟨_, .inl rfl⟩
theorem form_verifyTimeout : ∀ n xid s, Meaning (exec (.verifyTimeout n xid) s) s := by intros; rw [exec_verifyTimeout]; unfold execVerifyTimeout; exact ⟨_, .inl rfl⟩
theorem form_reportRetry : ∀ n s, Meaning (exec (.reportRetry n) s) s := by intros; rw [exec_reportRetry]; unfold execReportRetry; exact ⟨_, .inl rfl⟩
theorem form_slackEvaluation : ∀ s, Meaning (exec .slackEvaluation s) s := by intros; rw [exec_slackEvaluation]; unfold execSlackEvaluation; exact ⟨_, .inl rfl⟩
theorem form_weirEnable : ∀ n en s, Meaning (exec (.weirEnable n en) s) s := by intros; rw [exec_weirEnable]; unfold execWeirEnable; exact ⟨_, .inl rfl⟩
theorem form_spdClr : ∀ s, Meaning (exec .spdClr s) s := by intros; rw [exec_spdClr]; unfold execSpdClr; exact ⟨_, .inl rfl⟩
theorem form_spdreqWrite : ∀ rated req s, Meaning (exec (.spdreqWrite rated req) s) s := by intros; rw [exec_spdreqWrite]; unfold execSpdreqWrite; exact ⟨_, .inl rfl⟩
theorem form_fcEnable : ∀ n s, Meaning (exec (.fcEnable n) s) s := by intros; rw [exec_fcEnable]; unfold execFcEnable; exact ⟨_, .inl rfl⟩
theorem form_fcDisable : ∀ n s, Meaning (exec (.fcDisable n) s) s := by intros; rw [exec_fcDisable]; unfold execFcDisable; exact ⟨_, .inl rfl⟩
theorem form_fcStopComplete : ∀ n s, Meaning (exec (.fcStopComplete n) s) s := by intros; rw [exec_fcStopComplete]; unfold execFcStopComplete; exact ⟨_, .inl rfl⟩
theorem form_fcViolClr : ∀ n s, Meaning (exec (.fcViolClr n) s) s := by intros; rw [exec_fcViolClr]; unfold execFcViolClr; exact ⟨_, .inl rfl⟩
theorem form_groupPllLock : ∀ g s, Meaning (exec (.groupPllLock g) s) s := by intros; rw [exec_groupPllLock]; unfold execGroupPllLock; exact ⟨_, .inl rfl⟩
theorem form_groupPllLoss : ∀ g s, Meaning (exec (.groupPllLoss g) s) s := by intros; rw [exec_groupPllLoss]; unfold execGroupPllLoss; exact ⟨_, .inl rfl⟩
theorem form_symbolLock : ∀ n s, Meaning (exec (.symbolLock n) s) s := by intros; rw [exec_symbolLock]; unfold execSymbolLock; exact ⟨_, .inl rfl⟩
theorem form_symbolLockLoss : ∀ n s, Meaning (exec (.symbolLockLoss n) s) s := by intros; rw [exec_symbolLockLoss]; unfold execSymbolLockLoss; exact ⟨_, .inl rfl⟩
theorem form_helloTimer : ∀ n s, Meaning (exec (.helloTimer n) s) s := by intros; rw [exec_helloTimer]; unfold execHelloTimer; exact ⟨_, .inl rfl⟩
theorem form_linkupAttemptTimeout : ∀ n s, Meaning (exec (.linkupAttemptTimeout n) s) s := by intros; rw [exec_linkupAttemptTimeout]; unfold execLinkupAttemptTimeout; exact ⟨_, .inl rfl⟩
theorem form_retrainAttempt : ∀ n s, Meaning (exec (.retrainAttempt n) s) s := by intros; rw [exec_retrainAttempt]; unfold execRetrainAttempt; exact ⟨_, .inl rfl⟩
theorem form_fcRxHello : ∀ n f s, Meaning (exec (.fcRxHello n f) s) s := by intros; rw [exec_fcRxHello]; unfold execFcRxHello; exact ⟨_, .inl rfl⟩
theorem form_fcRxIdle : ∀ n f s, Meaning (exec (.fcRxIdle n f) s) s := by intros; rw [exec_fcRxIdle]; unfold execFcRxIdle; exact ⟨_, .inl rfl⟩
theorem form_fcRxAck : ∀ n f s, Meaning (exec (.fcRxAck n f) s) s := by intros; rw [exec_fcRxAck]; unfold execFcRxAck; exact ⟨_, .inl rfl⟩
theorem form_fcRxNak : ∀ n f s, Meaning (exec (.fcRxNak n f) s) s := by intros; rw [exec_fcRxNak]; unfold execFcRxNak; exact ⟨_, .inl rfl⟩
theorem form_fcRxSync : ∀ n f fine s, Meaning (exec (.fcRxSync n f fine) s) s := by intros; rw [exec_fcRxSync]; unfold execFcRxSync; exact ⟨_, .inl rfl⟩
theorem form_fcRxAngle : ∀ n f s, Meaning (exec (.fcRxAngle n f) s) s := by intros; rw [exec_fcRxAngle]; unfold execFcRxAngle; exact ⟨_, .inl rfl⟩
theorem form_fcRxVerify : ∀ n f s, Meaning (exec (.fcRxVerify n f) s) s := by intros; rw [exec_fcRxVerify]; unfold execFcRxVerify; exact ⟨_, .inl rfl⟩
theorem form_fcRxSense : ∀ n f s, Meaning (exec (.fcRxSense n f) s) s := by intros; rw [exec_fcRxSense]; unfold execFcRxSense; exact ⟨_, .inl rfl⟩
theorem form_fcRxStatus : ∀ n f s, Meaning (exec (.fcRxStatus n f) s) s := by intros; rw [exec_fcRxStatus]; unfold execFcRxStatus; exact ⟨_, .inl rfl⟩
theorem form_sensePostRetry : ∀ n s, Meaning (exec (.sensePostRetry n) s) s := by intros; rw [exec_sensePostRetry]; unfold execSensePostRetry; exact ⟨_, .inl rfl⟩
theorem form_fcRxBadFrame : ∀ n k s, Meaning (exec (.fcRxBadFrame n k) s) s := by intros; rw [exec_fcRxBadFrame]; unfold execFcRxBadFrame; exact ⟨_, .inl rfl⟩
theorem form_fcRxViolation : ∀ n f overrun s, Meaning (exec (.fcRxViolation n f overrun) s) s := by intros; rw [exec_fcRxViolation]; unfold execFcRxViolation; exact ⟨_, .inl rfl⟩
theorem form_quarantineTimeout : ∀ n s, Meaning (exec (.quarantineTimeout n) s) s := by intros; rw [exec_quarantineTimeout]; unfold execQuarantineTimeout; exact ⟨_, .inl rfl⟩
theorem form_fcTxFrame : ∀ n fine s, Meaning (exec (.fcTxFrame n fine) s) s := by intros; rw [exec_fcTxFrame]; unfold execFcTxFrame; exact ⟨_, .inl rfl⟩
theorem form_resendTimeout : ∀ n s, Meaning (exec (.resendTimeout n) s) s := by intros; rw [exec_resendTimeout]; unfold execResendTimeout; exact ⟨_, .inl rfl⟩
theorem form_idleKeepalive : ∀ n s, Meaning (exec (.idleKeepalive n) s) s := by intros; rw [exec_idleKeepalive]; unfold execIdleKeepalive; exact ⟨_, .inl rfl⟩
theorem form_silence : ∀ n s, Meaning (exec (.silence n) s) s := by intros; rw [exec_silence]; unfold execSilence; exact ⟨_, .inl rfl⟩
theorem form_syncPeriod : ∀ n fine s, Meaning (exec (.syncPeriod n fine) s) s := by intros; rw [exec_syncPeriod]; unfold execSyncPeriod; exact ⟨_, .inl rfl⟩
theorem form_syncRespMissed : ∀ n s, Meaning (exec (.syncRespMissed n) s) s := by intros; rw [exec_syncRespMissed]; unfold execSyncRespMissed; exact ⟨_, .inl rfl⟩
theorem form_safeFrameTimer : ∀ n s, Meaning (exec (.safeFrameTimer n) s) s := by intros; rw [exec_safeFrameTimer]; unfold execSafeFrameTimer; exact ⟨_, .inl rfl⟩
theorem form_timeCtlEn : ∀ en load aonCal s, Meaning (exec (.timeCtlEn en load aonCal) s) s := by intros; rw [exec_timeCtlEn]; unfold execTimeCtlEn; exact ⟨_, .inl rfl⟩
theorem form_dtSlew : ∀ v s, Meaning (exec (.dtSlew v) s) s := by intros; rw [exec_dtSlew]; unfold execDtSlew; exact ⟨_, .inl rfl⟩
theorem form_aonCalWindow : ∀ count s, Meaning (exec (.aonCalWindow count) s) s := by intros; rw [exec_aonCalWindow]; unfold execAonCalWindow; exact ⟨_, .inl rfl⟩
theorem form_ffReqSend : ∀ fine s, Meaning (exec (.ffReqSend fine) s) s := by intros; rw [exec_ffReqSend]; unfold execFfReqSend; exact ⟨_, .inl rfl⟩
theorem form_ffRxReq : ∀ port p fineIn turn fineOut s, Meaning (exec (.ffRxReq port p fineIn turn fineOut) s) s := by intros; rw [exec_ffRxReq]; unfold execFfRxReq; exact ⟨_, .inl rfl⟩
theorem form_ffRelay : ∀ inPort p residence s, Meaning (exec (.ffRelay inPort p residence) s) s := by intros; rw [exec_ffRelay]; unfold execFfRelay; exact ⟨_, .inl rfl⟩
theorem form_ffRxResp : ∀ p fine s, Meaning (exec (.ffRxResp p fine) s) s := by intros; rw [exec_ffRxResp]; unfold execFfRxResp; exact ⟨_, .inl rfl⟩
theorem form_holdoverTimeout : ∀ s, Meaning (exec .holdoverTimeout s) s := by intros; rw [exec_holdoverTimeout]; unfold execHoldoverTimeout; exact ⟨_, .inl rfl⟩
theorem form_capArm : ∀ s, Meaning (exec .capArm s) s := by intros; rw [exec_capArm]; unfold execCapArm; exact ⟨_, .inl rfl⟩
theorem form_trackerEnable : ∀ n en s, Meaning (exec (.trackerEnable n en) s) s := by intros; rw [exec_trackerEnable]; unfold execTrackerEnable; exact ⟨_, .inl rfl⟩
theorem form_axCommit : ∀ n s, Meaning (exec (.axCommit n) s) s := by intros; rw [exec_axCommit]; unfold execAxCommit; exact ⟨_, .inl rfl⟩
theorem form_apQuadEdge : ∀ m k fine s, Meaning (exec (.apQuadEdge m k fine) s) s := by intros; rw [exec_apQuadEdge]; unfold execApQuadEdge; exact ⟨_, .inl rfl⟩
theorem form_apIndex : ∀ m fine s, Meaning (exec (.apIndex m fine) s) s := by intros; rw [exec_apIndex]; unfold execApIndex; exact ⟨_, .inl rfl⟩
theorem form_ssiPoll : ∀ m dataHigh fine s, Meaning (exec (.ssiPoll m dataHigh fine) s) s := by intros; rw [exec_ssiPoll]; unfold execSsiPoll; exact ⟨_, .inl rfl⟩
theorem form_ssiFrameDone : ∀ m raw s, Meaning (exec (.ssiFrameDone m raw) s) s := by intros; rw [exec_ssiFrameDone]; unfold execSsiFrameDone; exact ⟨_, .inl rfl⟩
theorem form_trackerUpdate : ∀ n s, Meaning (exec (.trackerUpdate n) s) s := by intros; rw [exec_trackerUpdate]; unfold execTrackerUpdate; exact ⟨_, .inl rfl⟩
theorem form_standstillTimeout : ∀ n s, Meaning (exec (.standstillTimeout n) s) s := by intros; rw [exec_standstillTimeout]; unfold execStandstillTimeout; exact ⟨_, .inl rfl⟩
theorem form_srclostTimeout : ∀ n s, Meaning (exec (.srclostTimeout n) s) s := by intros; rw [exec_srclostTimeout]; unfold execSrclostTimeout; exact ⟨_, .inl rfl⟩
theorem form_srclostLost : ∀ n s, Meaning (exec (.srclostLost n) s) s := by intros; rw [exec_srclostLost]; unfold execSrclostLost; exact ⟨_, .inl rfl⟩
theorem form_regWrite : ∀ who addr size v s, Meaning (exec (.regWrite who addr size v) s) s := by intros; rw [exec_regWrite]; unfold execRegWrite; exact ⟨_, .inl rfl⟩
theorem form_pairLoRead : ∀ who addr s, Meaning (exec (.pairLoRead who addr) s) s := by intros; rw [exec_pairLoRead]; unfold execPairLoRead; exact ⟨_, .inl rfl⟩
theorem form_pairLoWrite : ∀ who addr v s, Meaning (exec (.pairLoWrite who addr v) s) s := by intros; rw [exec_pairLoWrite]; unfold execPairLoWrite; exact ⟨_, .inl rfl⟩
theorem form_pairHiWrite : ∀ who addr v s, Meaning (exec (.pairHiWrite who addr v) s) s := by intros; rw [exec_pairHiWrite]; unfold execPairHiWrite; exact ⟨_, .inl rfl⟩
theorem form_regTmo : ∀ addr s, Meaning (exec (.regTmo addr) s) s := by intros; rw [exec_regTmo]; unfold execRegTmo; exact ⟨_, .inl rfl⟩
theorem form_devCfgmodeWrite : ∀ v s, Meaning (exec (.devCfgmodeWrite v) s) s := by intros; rw [exec_devCfgmodeWrite]; unfold execDevCfgmodeWrite; exact ⟨_, .inl rfl⟩
theorem form_weirCommit : ∀ n s, Meaning (exec (.weirCommit n) s) s := by intros; rw [exec_weirCommit]; unfold execWeirCommit; exact ⟨_, .inl rfl⟩
theorem form_faultAck : ∀ blk inst bits s, Meaning (exec (.faultAck blk inst bits) s) s := by intros; rw [exec_faultAck]; unfold execFaultAck; exact ⟨_, .inl rfl⟩
theorem form_adtOpRead : ∀ s, Meaning (exec .adtOpRead s) s := by intros; rw [exec_adtOpRead]; unfold execAdtOpRead; exact ⟨_, .inl rfl⟩
theorem form_adtOpWrite : ∀ s, Meaning (exec .adtOpWrite s) s := by intros; rw [exec_adtOpWrite]; unfold execAdtOpWrite; exact ⟨_, .inl rfl⟩
theorem form_adtDataAccess : ∀ write s, Meaning (exec (.adtDataAccess write) s) s := by intros; rw [exec_adtDataAccess]; unfold execAdtDataAccess; exact ⟨_, .inl rfl⟩
theorem form_adtScrubStep : ∀ err s, Meaning (exec (.adtScrubStep err) s) s := by intros; rw [exec_adtScrubStep]; unfold execAdtScrubStep; exact ⟨_, .inl rfl⟩
theorem form_cmpJobCompress : ∀ s, Meaning (exec .cmpJobCompress s) s := by intros; rw [exec_cmpJobCompress]; unfold execCmpJobCompress; exact ⟨_, .inl rfl⟩
theorem form_cmpJobDecompress : ∀ s, Meaning (exec .cmpJobDecompress s) s := by intros; rw [exec_cmpJobDecompress]; unfold execCmpJobDecompress; exact ⟨_, .inl rfl⟩
theorem form_cmpJobVerify : ∀ s, Meaning (exec .cmpJobVerify s) s := by intros; rw [exec_cmpJobVerify]; unfold execCmpJobVerify; exact ⟨_, .inl rfl⟩
theorem form_cmpJobDone : ∀ mism dyn s, Meaning (exec (.cmpJobDone mism dyn) s) s := by intros; rw [exec_cmpJobDone]; unfold execCmpJobDone; exact ⟨_, .inl rfl⟩
theorem form_cmpTblCommit : ∀ s, Meaning (exec .cmpTblCommit s) s := by intros; rw [exec_cmpTblCommit]; unfold execCmpTblCommit; exact ⟨_, .inl rfl⟩
theorem form_cmpRequestSubmit : ∀ w v s, Meaning (exec (.cmpRequestSubmit w v) s) s := by intros; rw [exec_cmpRequestSubmit]; unfold execCmpRequestSubmit; exact ⟨_, .inl rfl⟩
theorem form_cmpPortFullTimeout : ∀ w s, Meaning (exec (.cmpPortFullTimeout w) s) s := by intros; rw [exec_cmpPortFullTimeout]; unfold execCmpPortFullTimeout; exact ⟨_, .inl rfl⟩
theorem form_cmpRequestComplete : ∀ lane crcErr s, Meaning (exec (.cmpRequestComplete lane crcErr) s) s := by intros; rw [exec_cmpRequestComplete]; unfold execCmpRequestComplete; exact ⟨_, .inl rfl⟩
theorem form_dmaRequestSubmit : ∀ w e v s, Meaning (exec (.dmaRequestSubmit w e v) s) s := by intros; rw [exec_dmaRequestSubmit]; unfold execDmaRequestSubmit; exact ⟨_, .inl rfl⟩
theorem form_dmaFullTimeout : ∀ w s, Meaning (exec (.dmaFullTimeout w) s) s := by intros; rw [exec_dmaFullTimeout]; unfold execDmaFullTimeout; exact ⟨_, .inl rfl⟩
theorem form_dmaRequestComplete : ∀ p e err s, Meaning (exec (.dmaRequestComplete p e err) s) s := by intros; rw [exec_dmaRequestComplete]; unfold execDmaRequestComplete; exact ⟨_, .inl rfl⟩
theorem form_l2Clean : ∀ p ahi s, Meaning (exec (.l2Clean p ahi) s) s := by intros; rw [exec_l2Clean]; unfold execL2Clean; exact ⟨_, .inl rfl⟩
theorem form_l2Invalidate : ∀ p ahi s, Meaning (exec (.l2Invalidate p ahi) s) s := by intros; rw [exec_l2Invalidate]; unfold execL2Invalidate; exact ⟨_, .inl rfl⟩
theorem form_l2CleanInvalidate : ∀ p ahi s, Meaning (exec (.l2CleanInvalidate p ahi) s) s := by intros; rw [exec_l2CleanInvalidate]; unfold execL2CleanInvalidate; exact ⟨_, .inl rfl⟩
theorem form_l2CleanAll : ∀ p s, Meaning (exec (.l2CleanAll p) s) s := by intros; rw [exec_l2CleanAll]; unfold execL2CleanAll; exact ⟨_, .inl rfl⟩
theorem form_l2InvalidateAll : ∀ p s, Meaning (exec (.l2InvalidateAll p) s) s := by intros; rw [exec_l2InvalidateAll]; unfold execL2InvalidateAll; exact ⟨_, .inl rfl⟩
theorem form_l2CleanInvalidateAll : ∀ p s, Meaning (exec (.l2CleanInvalidateAll p) s) s := by intros; rw [exec_l2CleanInvalidateAll]; unfold execL2CleanInvalidateAll; exact ⟨_, .inl rfl⟩
theorem form_l2MaintDone : ∀ p tagUe s, Meaning (exec (.l2MaintDone p tagUe) s) s := by intros; rw [exec_l2MaintDone]; unfold execL2MaintDone; exact ⟨_, .inl rfl⟩
theorem form_l2CtlEn : ∀ p en s, Meaning (exec (.l2CtlEn p en) s) s := by intros; rw [exec_l2CtlEn]; unfold execL2CtlEn; exact ⟨_, .inl rfl⟩
theorem form_l2Stopped : ∀ p s, Meaning (exec (.l2Stopped p) s) s := by intros; rw [exec_l2Stopped]; unfold execL2Stopped; exact ⟨_, .inl rfl⟩
theorem form_l2CeWindow : ∀ p s, Meaning (exec (.l2CeWindow p) s) s := by intros; rw [exec_l2CeWindow]; unfold execL2CeWindow; exact ⟨_, .inl rfl⟩
theorem form_pondCtlEn : ∀ p en s, Meaning (exec (.pondCtlEn p en) s) s := by intros; rw [exec_pondCtlEn]; unfold execPondCtlEn; exact ⟨_, .inl rfl⟩
theorem form_pmCtlEn : ∀ p en s, Meaning (exec (.pmCtlEn p en) s) s := by intros; rw [exec_pmCtlEn]; unfold execPmCtlEn; exact ⟨_, .inl rfl⟩
theorem form_pmRegionCommit : ∀ p master desc commit s, Meaning (exec (.pmRegionCommit p master desc commit) s) s := by intros; rw [exec_pmRegionCommit]; unfold execPmRegionCommit; exact ⟨_, .inl rfl⟩
theorem form_pmConflictClr : ∀ p s, Meaning (exec (.pmConflictClr p) s) s := by intros; rw [exec_pmConflictClr]; unfold execPmConflictClr; exact ⟨_, .inl rfl⟩
theorem form_pondRearm : ∀ p s, Meaning (exec (.pondRearm p) s) s := by intros; rw [exec_pondRearm]; unfold execPondRearm; exact ⟨_, .inl rfl⟩
theorem form_marchStart : ∀ p s, Meaning (exec (.marchStart p) s) s := by intros; rw [exec_marchStart]; unfold execMarchStart; exact ⟨_, .inl rfl⟩
theorem form_marchDone : ∀ p bad ue s, Meaning (exec (.marchDone p bad ue) s) s := by intros; rw [exec_marchDone]; unfold execMarchDone; exact ⟨_, .inl rfl⟩
theorem form_gets : ∀ b r line resends s, Meaning (exec (.gets b r line resends) s) s := by intros; rw [exec_gets]; unfold execGets; exact ⟨_, .inl rfl⟩
theorem form_getm : ∀ b r line resends s, Meaning (exec (.getm b r line resends) s) s := by intros; rw [exec_getm]; unfold execGetm; exact ⟨_, .inl rfl⟩
theorem form_upg : ∀ b r line resends s, Meaning (exec (.upg b r line resends) s) s := by intros; rw [exec_upg]; unfold execUpg; exact ⟨_, .inl rfl⟩
theorem form_putm : ∀ b r line keep resends s, Meaning (exec (.putm b r line keep resends) s) s := by intros; rw [exec_putm]; unfold execPutm; exact ⟨_, .inl rfl⟩
theorem form_putc : ∀ b r line resends s, Meaning (exec (.putc b r line resends) s) s := by intros; rw [exec_putc]; unfold execPutc; exact ⟨_, .inl rfl⟩
theorem form_ucrd : ∀ b r line resends s, Meaning (exec (.ucrd b r line resends) s) s := by intros; rw [exec_ucrd]; unfold execUcrd; exact ⟨_, .inl rfl⟩
theorem form_ucwr : ∀ b r line bytes poison resends s, Meaning (exec (.ucwr b r line bytes poison resends) s) s := by intros; rw [exec_ucwr]; unfold execUcwr; exact ⟨_, .inl rfl⟩
theorem form_combinedResponse : ∀ b line resends s, Meaning (exec (.combinedResponse b line resends) s) s := by intros; rw [exec_combinedResponse]; unfold execCombinedResponse; exact ⟨_, .inl rfl⟩
theorem form_snps : ∀ b r line resends s, Meaning (exec (.snps b r line resends) s) s := by intros; rw [exec_snps]; unfold execSnps; exact ⟨_, .inl rfl⟩
theorem form_snpi : ∀ b r line resends s, Meaning (exec (.snpi b r line resends) s) s := by intros; rw [exec_snpi]; unfold execSnpi; exact ⟨_, .inl rfl⟩
theorem form_snpd : ∀ b r line resends s, Meaning (exec (.snpd b r line resends) s) s := by intros; rw [exec_snpd]; unfold execSnpd; exact ⟨_, .inl rfl⟩
theorem form_snpf : ∀ b r set resends s, Meaning (exec (.snpf b r set resends) s) s := by intros; rw [exec_snpf]; unfold execSnpf; exact ⟨_, .inl rfl⟩
theorem form_dataS : ∀ b r line resends s, Meaning (exec (.dataS b r line resends) s) s := by intros; rw [exec_dataS]; unfold execDataS; exact ⟨_, .inl rfl⟩
theorem form_dataE : ∀ b r line resends s, Meaning (exec (.dataE b r line resends) s) s := by intros; rw [exec_dataE]; unfold execDataE; exact ⟨_, .inl rfl⟩
theorem form_dataM : ∀ b r line resends s, Meaning (exec (.dataM b r line resends) s) s := by intros; rw [exec_dataM]; unfold execDataM; exact ⟨_, .inl rfl⟩
theorem form_grant : ∀ b r line resends s, Meaning (exec (.grant b r line resends) s) s := by intros; rw [exec_grant]; unfold execGrant; exact ⟨_, .inl rfl⟩
theorem form_wback : ∀ b r line resends s, Meaning (exec (.wback b r line resends) s) s := by intros; rw [exec_wback]; unfold execWback; exact ⟨_, .inl rfl⟩
theorem form_wbackStale : ∀ b r line resends s, Meaning (exec (.wbackStale b r line resends) s) s := by intros; rw [exec_wbackStale]; unfold execWbackStale; exact ⟨_, .inl rfl⟩
theorem form_nack : ∀ b r line resends s, Meaning (exec (.nack b r line resends) s) s := by intros; rw [exec_nack]; unfold execNack; exact ⟨_, .inl rfl⟩
theorem form_nackResend : ∀ b r line resends s, Meaning (exec (.nackResend b r line resends) s) s := by intros; rw [exec_nackResend]; unfold execNackResend; exact ⟨_, .inl rfl⟩
theorem form_udata : ∀ b r line resends s, Meaning (exec (.udata b r line resends) s) s := by intros; rw [exec_udata]; unfold execUdata; exact ⟨_, .inl rfl⟩
theorem form_ucwrComplete : ∀ b r line resends s, Meaning (exec (.ucwrComplete b r line resends) s) s := by intros; rw [exec_ucwrComplete]; unfold execUcwrComplete; exact ⟨_, .inl rfl⟩
theorem form_sfScrubStep : ∀ b set e s, Meaning (exec (.sfScrubStep b set e) s) s := by intros; rw [exec_sfScrubStep]; unfold execSfScrubStep; exact ⟨_, .inl rfl⟩
theorem form_basinReplay : ∀ b poisoned s, Meaning (exec (.basinReplay b poisoned) s) s := by intros; rw [exec_basinReplay]; unfold execBasinReplay; exact ⟨_, .inl rfl⟩
theorem form_mcRefresh : ∀ c s, Meaning (exec (.mcRefresh c) s) s := by intros; rw [exec_mcRefresh]; unfold execMcRefresh; exact ⟨_, .inl rfl⟩
theorem form_mcScrubStep : ∀ c e map s, Meaning (exec (.mcScrubStep c e map) s) s := by intros; rw [exec_mcScrubStep]; unfold execMcScrubStep; exact ⟨_, .inl rfl⟩
theorem form_mcPeriodicRetrain : ∀ c low s, Meaning (exec (.mcPeriodicRetrain c low) s) s := by intros; rw [exec_mcPeriodicRetrain]; unfold execMcPeriodicRetrain; exact ⟨_, .inl rfl⟩
theorem form_mcTempRead : ∀ c t s, Meaning (exec (.mcTempRead c t) s) s := by intros; rw [exec_mcTempRead]; unfold execMcTempRead; exact ⟨_, .inl rfl⟩
theorem form_mcTrainStart : ∀ c s, Meaning (exec (.mcTrainStart c) s) s := by intros; rw [exec_mcTrainStart]; unfold execMcTrainStart; exact ⟨_, .inl rfl⟩
theorem form_mcRetrainDone : ∀ c eyes s, Meaning (exec (.mcRetrainDone c eyes) s) s := by intros; rw [exec_mcRetrainDone]; unfold execMcRetrainDone; exact ⟨_, .inl rfl⟩
theorem form_mcSpareCommit : ∀ c s, Meaning (exec (.mcSpareCommit c) s) s := by intros; rw [exec_mcSpareCommit]; unfold execMcSpareCommit; exact ⟨_, .inl rfl⟩
theorem form_migrationStep : ∀ c e s, Meaning (exec (.migrationStep c e) s) s := by intros; rw [exec_migrationStep]; unfold execMigrationStep; exact ⟨_, .inl rfl⟩
theorem form_mcRgnRead : ∀ c idx s, Meaning (exec (.mcRgnRead c idx) s) s := by intros; rw [exec_mcRgnRead]; unfold execMcRgnRead; exact ⟨_, .inl rfl⟩
theorem form_mcRgnWrite : ∀ c idx s, Meaning (exec (.mcRgnWrite c idx) s) s := by intros; rw [exec_mcRgnWrite]; unfold execMcRgnWrite; exact ⟨_, .inl rfl⟩
theorem form_mcRgnInvalidate : ∀ c idx s, Meaning (exec (.mcRgnInvalidate c idx) s) s := by intros; rw [exec_mcRgnInvalidate]; unfold execMcRgnInvalidate; exact ⟨_, .inl rfl⟩
theorem form_mcRgnRebind : ∀ c idx s, Meaning (exec (.mcRgnRebind c idx) s) s := by intros; rw [exec_mcRgnRebind]; unfold execMcRgnRebind; exact ⟨_, .inl rfl⟩
theorem form_regionInitDone : ∀ s, Meaning (exec .regionInitDone s) s := by intros; rw [exec_regionInitDone]; unfold execRegionInitDone; exact ⟨_, .inl rfl⟩
theorem form_housekeepingTick : ∀ found s, Meaning (exec (.housekeepingTick found) s) s := by intros; rw [exec_housekeepingTick]; unfold execHousekeepingTick; exact ⟨_, .inl rfl⟩
theorem form_cAutoAck : ∀ blk inst bit s, Meaning (exec (.cAutoAck blk inst bit) s) s := by intros; rw [exec_cAutoAck]; unfold execCAutoAck; exact ⟨_, .inl rfl⟩
theorem form_rAutoAck : ∀ blk inst bit s, Meaning (exec (.rAutoAck blk inst bit) s) s := by intros; rw [exec_rAutoAck]; unfold execRAutoAck; exact ⟨_, .inl rfl⟩
theorem form_tarnReplay : ∀ p poisoned s, Meaning (exec (.tarnReplay p poisoned) s) s := by intros; rw [exec_tarnReplay]; unfold execTarnReplay; exact ⟨_, .inl rfl⟩
theorem form_csWordRefresh : ∀ p s, Meaning (exec (.csWordRefresh p) s) s := by intros; rw [exec_csWordRefresh]; unfold execCsWordRefresh; exact ⟨_, .inl rfl⟩
theorem form_csBackgroundPass : ∀ p e s, Meaning (exec (.csBackgroundPass p e) s) s := by intros; rw [exec_csBackgroundPass]; unfold execCsBackgroundPass; exact ⟨_, .inl rfl⟩
theorem form_svcFailover : ∀ s, Meaning (exec .svcFailover s) s := by intros; rw [exec_svcFailover]; unfold execSvcFailover; exact ⟨_, .inl rfl⟩
theorem form_estopNFall : ∀ s, Meaning (exec .estopNFall s) s := by intros; rw [exec_estopNFall]; unfold execEstopNFall; exact ⟨_, .inl rfl⟩
theorem form_pfwNFall : ∀ s, Meaning (exec .pfwNFall s) s := by intros; rw [exec_pfwNFall]; unfold execPfwNFall; exact ⟨_, .inl rfl⟩
theorem form_pfwNRise : ∀ s, Meaning (exec .pfwNRise s) s := by intros; rw [exec_pfwNRise]; unfold execPfwNRise; exact ⟨_, .inl rfl⟩
theorem form_tailReportComplete : ∀ s, Meaning (exec .tailReportComplete s) s := by intros; rw [exec_tailReportComplete]; unfold execTailReportComplete; exact ⟨_, .inl rfl⟩
theorem form_safeReq : ∀ s, Meaning (exec .safeReq s) s := by intros; rw [exec_safeReq]; unfold execSafeReq; exact ⟨_, .inl rfl⟩
theorem form_secPageEnable : ∀ who k s, Meaning (exec (.secPageEnable who k) s) s := by intros; rw [exec_secPageEnable]; unfold execSecPageEnable; exact ⟨_, .inl rfl⟩
theorem form_secPageDisable : ∀ who k s, Meaning (exec (.secPageDisable who k) s) s := by intros; rw [exec_secPageDisable]; unfold execSecPageDisable; exact ⟨_, .inl rfl⟩
theorem form_pageKeyDerived : ∀ k parity s, Meaning (exec (.pageKeyDerived k parity) s) s := by intros; rw [exec_pageKeyDerived]; unfold execPageKeyDerived; exact ⟨_, .inl rfl⟩
theorem form_pageZeroed : ∀ k s, Meaning (exec (.pageZeroed k) s) s := by intros; rw [exec_pageZeroed]; unfold execPageZeroed; exact ⟨_, .inl rfl⟩
theorem form_secKeyload : ∀ who v s, Meaning (exec (.secKeyload who v) s) s := by intros; rw [exec_secKeyload]; unfold execSecKeyload; exact ⟨_, .inl rfl⟩
theorem form_secKeyloadStart : ∀ who s, Meaning (exec (.secKeyloadStart who) s) s := by intros; rw [exec_secKeyloadStart]; unfold execSecKeyloadStart; exact ⟨_, .inl rfl⟩
theorem form_secKeyloadClear : ∀ who s, Meaning (exec (.secKeyloadClear who) s) s := by intros; rw [exec_secKeyloadClear]; unfold execSecKeyloadClear; exact ⟨_, .inl rfl⟩
theorem form_otpLock : ∀ who s, Meaning (exec (.otpLock who) s) s := by intros; rw [exec_otpLock]; unfold execOtpLock; exact ⟨_, .inl rfl⟩
theorem form_rngRestart : ∀ who s, Meaning (exec (.rngRestart who) s) s := by intros; rw [exec_rngRestart]; unfold execRngRestart; exact ⟨_, .inl rfl⟩
theorem form_rngRestartDone : ∀ ok s, Meaning (exec (.rngRestartDone ok) s) s := by intros; rw [exec_rngRestartDone]; unfold execRngRestartDone; exact ⟨_, .inl rfl⟩
theorem form_rngDataRead : ∀ who s, Meaning (exec (.rngDataRead who) s) s := by intros; rw [exec_rngDataRead]; unfold execRngDataRead; exact ⟨_, .inl rfl⟩
theorem form_maskReseed : ∀ s, Meaning (exec .maskReseed s) s := by intros; rw [exec_maskReseed]; unfold execMaskReseed; exact ⟨_, .inl rfl⟩
theorem form_shaInit : ∀ who lastb s, Meaning (exec (.shaInit who lastb) s) s := by intros; rw [exec_shaInit]; unfold execShaInit; exact ⟨_, .inl rfl⟩
theorem form_shaData : ∀ who v s, Meaning (exec (.shaData who v) s) s := by intros; rw [exec_shaData]; unfold execShaData; exact ⟨_, .inl rfl⟩
theorem form_shaFinal : ∀ who lastb s, Meaning (exec (.shaFinal who lastb) s) s := by intros; rw [exec_shaFinal]; unfold execShaFinal; exact ⟨_, .inl rfl⟩
theorem form_shaDone : ∀ parity s, Meaning (exec (.shaDone parity) s) s := by intros; rw [exec_shaDone]; unfold execShaDone; exact ⟨_, .inl rfl⟩
theorem form_hostArbRound : ∀ io s, Meaning (exec (.hostArbRound io) s) s := by intros; rw [exec_hostArbRound]; unfold execHostArbRound; exact ⟨_, .inl rfl⟩
theorem form_sqTail : ∀ who q v s, Meaning (exec (.sqTail who q v) s) s := by intros; rw [exec_sqTail]; unfold execSqTail; exact ⟨_, .inl rfl⟩
theorem form_cqHead : ∀ who q v s, Meaning (exec (.cqHead who q v) s) s := by intros; rw [exec_cqHead]; unfold execCqHead; exact ⟨_, .inl rfl⟩
theorem form_cqCoalesceTimeout : ∀ q s, Meaning (exec (.cqCoalesceTimeout q) s) s := by intros; rw [exec_cqCoalesceTimeout]; unfold execCqCoalesceTimeout; exact ⟨_, .inl rfl⟩
theorem form_hostCtlEn : ∀ who en s, Meaning (exec (.hostCtlEn who en) s) s := by intros; rw [exec_hostCtlEn]; unfold execHostCtlEn; exact ⟨_, .inl rfl⟩
theorem form_hostReset : ∀ linkDown s, Meaning (exec (.hostReset linkDown) s) s := by intros; rw [exec_hostReset]; unfold execHostReset; exact ⟨_, .inl rfl⟩
theorem form_dpAddrWrite : ∀ who v s, Meaning (exec (.dpAddrWrite who v) s) s := by intros; rw [exec_dpAddrWrite]; unfold execDpAddrWrite; exact ⟨_, .inl rfl⟩
theorem form_dpCtlWrite : ∀ who v s, Meaning (exec (.dpCtlWrite who v) s) s := by intros; rw [exec_dpCtlWrite]; unfold execDpCtlWrite; exact ⟨_, .inl rfl⟩
theorem form_dpDataWrite : ∀ units s, Meaning (exec (.dpDataWrite units) s) s := by intros; rw [exec_dpDataWrite]; unfold execDpDataWrite; exact ⟨_, .inl rfl⟩
theorem form_dpDataRead : ∀ n e s, Meaning (exec (.dpDataRead n e) s) s := by intros; rw [exec_dpDataRead]; unfold execDpDataRead; exact ⟨_, .inl rfl⟩
theorem form_dpPrefetchExpire : ∀ s, Meaning (exec .dpPrefetchExpire s) s := by intros; rw [exec_dpPrefetchExpire]; unfold execDpPrefetchExpire; exact ⟨_, .inl rfl⟩
theorem form_devInfo : ∀ q s, Meaning (exec (.devInfo q) s) s := by intros; rw [exec_devInfo]; unfold execDevInfo; exact ⟨_, .inl rfl⟩
theorem form_devTopo : ∀ q s, Meaning (exec (.devTopo q) s) s := by intros; rw [exec_devTopo]; unfold execDevTopo; exact ⟨_, .inl rfl⟩
theorem form_devReset : ∀ q s, Meaning (exec (.devReset q) s) s := by intros; rw [exec_devReset]; unfold execDevReset; exact ⟨_, .inl rfl⟩
theorem form_devSummary : ∀ q s, Meaning (exec (.devSummary q) s) s := by intros; rw [exec_devSummary]; unfold execDevSummary; exact ⟨_, .inl rfl⟩
theorem form_devPort : ∀ q s, Meaning (exec (.devPort q) s) s := by intros; rw [exec_devPort]; unfold execDevPort; exact ⟨_, .inl rfl⟩
theorem form_hostQcreate : ∀ q s, Meaning (exec (.hostQcreate q) s) s := by intros; rw [exec_hostQcreate]; unfold execHostQcreate; exact ⟨_, .inl rfl⟩
theorem form_hostQdelete : ∀ q s, Meaning (exec (.hostQdelete q) s) s := by intros; rw [exec_hostQdelete]; unfold execHostQdelete; exact ⟨_, .inl rfl⟩
theorem form_hostStats : ∀ q s, Meaning (exec (.hostStats q) s) s := by intros; rw [exec_hostStats]; unfold execHostStats; exact ⟨_, .inl rfl⟩
theorem form_hostLock : ∀ q s, Meaning (exec (.hostLock q) s) s := by intros; rw [exec_hostLock]; unfold execHostLock; exact ⟨_, .inl rfl⟩
theorem form_patLoad : ∀ q rows s, Meaning (exec (.patLoad q rows) s) s := by intros; rw [exec_patLoad]; unfold execPatLoad; exact ⟨_, .inl rfl⟩
theorem form_patDrop : ∀ q s, Meaning (exec (.patDrop q) s) s := by intros; rw [exec_patDrop]; unfold execPatDrop; exact ⟨_, .inl rfl⟩
theorem form_patList : ∀ q s, Meaning (exec (.patList q) s) s := by intros; rw [exec_patList]; unfold execPatList; exact ⟨_, .inl rfl⟩
theorem form_patVerify : ∀ q s, Meaning (exec (.patVerify q) s) s := by intros; rw [exec_patVerify]; unfold execPatVerify; exact ⟨_, .inl rfl⟩
theorem form_patTable : ∀ q s, Meaning (exec (.patTable q) s) s := by intros; rw [exec_patTable]; unfold execPatTable; exact ⟨_, .inl rfl⟩
theorem form_axConfig : ∀ q s, Meaning (exec (.axConfig q) s) s := by intros; rw [exec_axConfig]; unfold execAxConfig; exact ⟨_, .inl rfl⟩
theorem form_axPort : ∀ q s, Meaning (exec (.axPort q) s) s := by intros; rw [exec_axPort]; unfold execAxPort; exact ⟨_, .inl rfl⟩
theorem form_axQuery : ∀ q s, Meaning (exec (.axQuery q) s) s := by intros; rw [exec_axQuery]; unfold execAxQuery; exact ⟨_, .inl rfl⟩
theorem form_chConfig : ∀ q s, Meaning (exec (.chConfig q) s) s := by intros; rw [exec_chConfig]; unfold execChConfig; exact ⟨_, .inl rfl⟩
theorem form_chEnable : ∀ q s, Meaning (exec (.chEnable q) s) s := by intros; rw [exec_chEnable]; unfold execChEnable; exact ⟨_, .inl rfl⟩
theorem form_chPartner : ∀ q s, Meaning (exec (.chPartner q) s) s := by intros; rw [exec_chPartner]; unfold execChPartner; exact ⟨_, .inl rfl⟩
theorem form_chTable : ∀ q s, Meaning (exec (.chTable q) s) s := by intros; rw [exec_chTable]; unfold execChTable; exact ⟨_, .inl rfl⟩
theorem form_chTableread : ∀ q s, Meaning (exec (.chTableread q) s) s := by intros; rw [exec_chTableread]; unfold execChTableread; exact ⟨_, .inl rfl⟩
theorem form_chStats : ∀ q s, Meaning (exec (.chStats q) s) s := by intros; rw [exec_chStats]; unfold execChStats; exact ⟨_, .inl rfl⟩
theorem form_chSpeed : ∀ q s, Meaning (exec (.chSpeed q) s) s := by intros; rw [exec_chSpeed]; unfold execChSpeed; exact ⟨_, .inl rfl⟩
theorem form_taskQconfig : ∀ q s, Meaning (exec (.taskQconfig q) s) s := by intros; rw [exec_taskQconfig]; unfold execTaskQconfig; exact ⟨_, .inl rfl⟩
theorem form_taskPost : ∀ q s, Meaning (exec (.taskPost q) s) s := by intros; rw [exec_taskPost]; unfold execTaskPost; exact ⟨_, .inl rfl⟩
theorem form_taskPlace : ∀ q s, Meaning (exec (.taskPlace q) s) s := by intros; rw [exec_taskPlace]; unfold execTaskPlace; exact ⟨_, .inl rfl⟩
theorem form_taskLimit : ∀ q s, Meaning (exec (.taskLimit q) s) s := by intros; rw [exec_taskLimit]; unfold execTaskLimit; exact ⟨_, .inl rfl⟩
theorem form_taskStatus : ∀ q s, Meaning (exec (.taskStatus q) s) s := by intros; rw [exec_taskStatus]; unfold execTaskStatus; exact ⟨_, .inl rfl⟩
theorem form_memRegion : ∀ q s, Meaning (exec (.memRegion q) s) s := by intros; rw [exec_memRegion]; unfold execMemRegion; exact ⟨_, .inl rfl⟩
theorem form_memCache : ∀ q s, Meaning (exec (.memCache q) s) s := by intros; rw [exec_memCache]; unfold execMemCache; exact ⟨_, .inl rfl⟩
theorem form_memMarch : ∀ q s, Meaning (exec (.memMarch q) s) s := by intros; rw [exec_memMarch]; unfold execMemMarch; exact ⟨_, .inl rfl⟩
theorem form_memRetrain : ∀ q s, Meaning (exec (.memRetrain q) s) s := by intros; rw [exec_memRetrain]; unfold execMemRetrain; exact ⟨_, .inl rfl⟩
theorem form_memSpare : ∀ q s, Meaning (exec (.memSpare q) s) s := by intros; rw [exec_memSpare]; unfold execMemSpare; exact ⟨_, .inl rfl⟩
theorem form_memStats : ∀ q s, Meaning (exec (.memStats q) s) s := by intros; rw [exec_memStats]; unfold execMemStats; exact ⟨_, .inl rfl⟩
theorem form_memScrub : ∀ q s, Meaning (exec (.memScrub q) s) s := by intros; rw [exec_memScrub]; unfold execMemScrub; exact ⟨_, .inl rfl⟩
theorem form_pwrState : ∀ q s, Meaning (exec (.pwrState q) s) s := by intros; rw [exec_pwrState]; unfold execPwrState; exact ⟨_, .inl rfl⟩
theorem form_pwrPond : ∀ q s, Meaning (exec (.pwrPond q) s) s := by intros; rw [exec_pwrPond]; unfold execPwrPond; exact ⟨_, .inl rfl⟩
theorem form_pwrStatus : ∀ q s, Meaning (exec (.pwrStatus q) s) s := by intros; rw [exec_pwrStatus]; unfold execPwrStatus; exact ⟨_, .inl rfl⟩
theorem form_fltAck : ∀ q s, Meaning (exec (.fltAck q) s) s := by intros; rw [exec_fltAck]; unfold execFltAck; exact ⟨_, .inl rfl⟩
theorem form_fltSafe : ∀ q s, Meaning (exec (.fltSafe q) s) s := by intros; rw [exec_fltSafe]; unfold execFltSafe; exact ⟨_, .inl rfl⟩
theorem form_fltResume : ∀ q s, Meaning (exec (.fltResume q) s) s := by intros; rw [exec_fltResume]; unfold execFltResume; exact ⟨_, .inl rfl⟩
theorem form_fltLog : ∀ q s, Meaning (exec (.fltLog q) s) s := by intros; rw [exec_fltLog]; unfold execFltLog; exact ⟨_, .inl rfl⟩
theorem form_fltLogbuf : ∀ q s, Meaning (exec (.fltLogbuf q) s) s := by intros; rw [exec_fltLogbuf]; unfold execFltLogbuf; exact ⟨_, .inl rfl⟩
theorem form_fltTailbuf : ∀ q s, Meaning (exec (.fltTailbuf q) s) s := by intros; rw [exec_fltTailbuf]; unfold execFltTailbuf; exact ⟨_, .inl rfl⟩
theorem form_fltRecord : ∀ q s, Meaning (exec (.fltRecord q) s) s := by intros; rw [exec_fltRecord]; unfold execFltRecord; exact ⟨_, .inl rfl⟩
theorem form_fltJournal : ∀ q s, Meaning (exec (.fltJournal q) s) s := by intros; rw [exec_fltJournal]; unfold execFltJournal; exact ⟨_, .inl rfl⟩
theorem form_fltCtl : ∀ q s, Meaning (exec (.fltCtl q) s) s := by intros; rw [exec_fltCtl]; unfold execFltCtl; exact ⟨_, .inl rfl⟩
theorem form_secInfo : ∀ q s, Meaning (exec (.secInfo q) s) s := by intros; rw [exec_secInfo]; unfold execSecInfo; exact ⟨_, .inl rfl⟩
theorem form_secPage : ∀ q s, Meaning (exec (.secPage q) s) s := by intros; rw [exec_secPage]; unfold execSecPage; exact ⟨_, .inl rfl⟩
theorem form_secSyskey : ∀ q s, Meaning (exec (.secSyskey q) s) s := by intros; rw [exec_secSyskey]; unfold execSecSyskey; exact ⟨_, .inl rfl⟩
theorem form_secAttest : ∀ q s, Meaning (exec (.secAttest q) s) s := by intros; rw [exec_secAttest]; unfold execSecAttest; exact ⟨_, .inl rfl⟩
theorem form_secLog : ∀ q s, Meaning (exec (.secLog q) s) s := by intros; rw [exec_secLog]; unfold execSecLog; exact ⟨_, .inl rfl⟩
theorem form_secRollfwd : ∀ q s, Meaning (exec (.secRollfwd q) s) s := by intros; rw [exec_secRollfwd]; unfold execSecRollfwd; exact ⟨_, .inl rfl⟩
theorem form_secSlot : ∀ q sig s, Meaning (exec (.secSlot q sig) s) s := by intros; rw [exec_secSlot]; unfold execSecSlot; exact ⟨_, .inl rfl⟩
theorem form_secRandom : ∀ q s, Meaning (exec (.secRandom q) s) s := by intros; rw [exec_secRandom]; unfold execSecRandom; exact ⟨_, .inl rfl⟩
theorem form_secDbgchal : ∀ q s, Meaning (exec (.secDbgchal q) s) s := by intros; rw [exec_secDbgchal]; unfold execSecDbgchal; exact ⟨_, .inl rfl⟩
theorem form_secDbgunlock : ∀ q sig s, Meaning (exec (.secDbgunlock q sig) s) s := by intros; rw [exec_secDbgunlock]; unfold execSecDbgunlock; exact ⟨_, .inl rfl⟩
theorem form_expRdreg : ∀ q s, Meaning (exec (.expRdreg q) s) s := by intros; rw [exec_expRdreg]; unfold execExpRdreg; exact ⟨_, .inl rfl⟩
theorem form_expWrreg : ∀ q s, Meaning (exec (.expWrreg q) s) s := by intros; rw [exec_expWrreg]; unfold execExpWrreg; exact ⟨_, .inl rfl⟩
theorem form_expRdmem : ∀ q s, Meaning (exec (.expRdmem q) s) s := by intros; rw [exec_expRdmem]; unfold execExpRdmem; exact ⟨_, .inl rfl⟩
theorem form_expWrmem : ∀ q s, Meaning (exec (.expWrmem q) s) s := by intros; rw [exec_expWrmem]; unfold execExpWrmem; exact ⟨_, .inl rfl⟩
theorem form_expUcinfo : ∀ q s, Meaning (exec (.expUcinfo q) s) s := by intros; rw [exec_expUcinfo]; unfold execExpUcinfo; exact ⟨_, .inl rfl⟩
theorem form_expUcread : ∀ q s, Meaning (exec (.expUcread q) s) s := by intros; rw [exec_expUcread]; unfold execExpUcread; exact ⟨_, .inl rfl⟩
theorem form_expUcstage : ∀ q image s, Meaning (exec (.expUcstage q image) s) s := by intros; rw [exec_expUcstage]; unfold execExpUcstage; exact ⟨_, .inl rfl⟩
theorem form_tierRxHello : ∀ t f s, Meaning (exec (.tierRxHello t f) s) s := by intros; rw [exec_tierRxHello]; unfold execTierRxHello; exact ⟨_, .inl rfl⟩
theorem form_tierRxAck : ∀ t f s, Meaning (exec (.tierRxAck t f) s) s := by intros; rw [exec_tierRxAck]; unfold execTierRxAck; exact ⟨_, .inl rfl⟩
theorem form_tierRxNak : ∀ t f s, Meaning (exec (.tierRxNak t f) s) s := by intros; rw [exec_tierRxNak]; unfold execTierRxNak; exact ⟨_, .inl rfl⟩
theorem form_tierRxBadFrame : ∀ t k s, Meaning (exec (.tierRxBadFrame t k) s) s := by intros; rw [exec_tierRxBadFrame]; unfold execTierRxBadFrame; exact ⟨_, .inl rfl⟩
theorem form_tierViolation : ∀ t f s, Meaning (exec (.tierViolation t f) s) s := by intros; rw [exec_tierViolation]; unfold execTierViolation; exact ⟨_, .inl rfl⟩
theorem form_tierRxSafe : ∀ t f s, Meaning (exec (.tierRxSafe t f) s) s := by intros; rw [exec_tierRxSafe]; unfold execTierRxSafe; exact ⟨_, .inl rfl⟩
theorem form_tierRoute : ∀ t f s, Meaning (exec (.tierRoute t f) s) s := by intros; rw [exec_tierRoute]; unfold execTierRoute; exact ⟨_, .inl rfl⟩
theorem form_tierRouteCommit : ∀ s, Meaning (exec .tierRouteCommit s) s := by intros; rw [exec_tierRouteCommit]; unfold execTierRouteCommit; exact ⟨_, .inl rfl⟩
theorem form_tierResendTimeout : ∀ t s, Meaning (exec (.tierResendTimeout t) s) s := by intros; rw [exec_tierResendTimeout]; unfold execTierResendTimeout; exact ⟨_, .inl rfl⟩
theorem form_tierSilence : ∀ t s, Meaning (exec (.tierSilence t) s) s := by intros; rw [exec_tierSilence]; unfold execTierSilence; exact ⟨_, .inl rfl⟩
theorem form_blockLockLoss : ∀ t s, Meaning (exec (.blockLockLoss t) s) s := by intros; rw [exec_blockLockLoss]; unfold execBlockLockLoss; exact ⟨_, .inl rfl⟩
theorem form_tierRetrainAttempt : ∀ t s, Meaning (exec (.tierRetrainAttempt t) s) s := by intros; rw [exec_tierRetrainAttempt]; unfold execTierRetrainAttempt; exact ⟨_, .inl rfl⟩
theorem form_tierEnable : ∀ t en s, Meaning (exec (.tierEnable t en) s) s := by intros; rw [exec_tierEnable]; unfold execTierEnable; exact ⟨_, .inl rfl⟩
theorem form_cmd : ∀ t f s, Meaning (exec (.cmd t f) s) s := by intros; rw [exec_cmd]; unfold execCmd; exact ⟨_, .inl rfl⟩
theorem form_reply : ∀ t f s, Meaning (exec (.reply t f) s) s := by intros; rw [exec_reply]; unfold execReply; exact ⟨_, .inl rfl⟩
theorem form_fault : ∀ t f s, Meaning (exec (.fault t f) s) s := by intros; rw [exec_fault]; unfold execFault; exact ⟨_, .inl rfl⟩
theorem form_summary : ∀ t f s, Meaning (exec (.summary t f) s) s := by intros; rw [exec_summary]; unfold execSummary; exact ⟨_, .inl rfl⟩
theorem form_summaryTimer : ∀ s, Meaning (exec .summaryTimer s) s := by intros; rw [exec_summaryTimer]; unfold execSummaryTimer; exact ⟨_, .inl rfl⟩
theorem form_tail : ∀ t f s, Meaning (exec (.tail t f) s) s := by intros; rw [exec_tail]; unfold execTail; exact ⟨_, .inl rfl⟩
theorem form_boot : ∀ t f s, Meaning (exec (.boot t f) s) s := by intros; rw [exec_boot]; unfold execBoot; exact ⟨_, .inl rfl⟩
theorem form_bootstat : ∀ t f s, Meaning (exec (.bootstat t f) s) s := by intros; rw [exec_bootstat]; unfold execBootstat; exact ⟨_, .inl rfl⟩
theorem form_secret : ∀ t f s, Meaning (exec (.secret t f) s) s := by intros; rw [exec_secret]; unfold execSecret; exact ⟨_, .inl rfl⟩
theorem form_notice : ∀ t f s, Meaning (exec (.notice t f) s) s := by intros; rw [exec_notice]; unfold execNotice; exact ⟨_, .inl rfl⟩
theorem form_pwrReqNap : ∀ s, Meaning (exec .pwrReqNap s) s := by intros; rw [exec_pwrReqNap]; unfold execPwrReqNap; exact ⟨_, .inl rfl⟩
theorem form_pwrReqSleep : ∀ s, Meaning (exec .pwrReqSleep s) s := by intros; rw [exec_pwrReqSleep]; unfold execPwrReqSleep; exact ⟨_, .inl rfl⟩
theorem form_napAutoHold : ∀ s, Meaning (exec .napAutoHold s) s := by intros; rw [exec_napAutoHold]; unfold execNapAutoHold; exact ⟨_, .inl rfl⟩
theorem form_dSleepPowerOff : ∀ s, Meaning (exec .dSleepPowerOff s) s := by intros; rw [exec_dSleepPowerOff]; unfold execDSleepPowerOff; exact ⟨_, .inl rfl⟩
theorem form_wakeNFall : ∀ s, Meaning (exec .wakeNFall s) s := by intros; rw [exec_wakeNFall]; unfold execWakeNFall; exact ⟨_, .inr rfl⟩
theorem form_wakeTimer : ∀ s, Meaning (exec .wakeTimer s) s := by intros; rw [exec_wakeTimer]; unfold execWakeTimer; exact ⟨_, .inr rfl⟩
theorem form_tierActivityWake : ∀ t s, Meaning (exec (.tierActivityWake t) s) s := by intros; rw [exec_tierActivityWake]; unfold execTierActivityWake; exact ⟨_, .inr rfl⟩
theorem form_resumeReady : ∀ ok s, Meaning (exec (.resumeReady ok) s) s := by intros; rw [exec_resumeReady]; unfold execResumeReady; exact ⟨_, .inl rfl⟩
theorem form_pondPowerGate : ∀ p s, Meaning (exec (.pondPowerGate p) s) s := by intros; rw [exec_pondPowerGate]; unfold execPondPowerGate; exact ⟨_, .inl rfl⟩
theorem form_pllLockLoss : ∀ k s, Meaning (exec (.pllLockLoss k) s) s := by intros; rw [exec_pllLockLoss]; unfold execPllLockLoss; exact ⟨_, .inl rfl⟩
theorem form_pllRelock : ∀ k s, Meaning (exec (.pllRelock k) s) s := by intros; rw [exec_pllRelock]; unfold execPllRelock; exact ⟨_, .inl rfl⟩
theorem form_avsWriteRetry : ∀ ack s, Meaning (exec (.avsWriteRetry ack) s) s := by intros; rw [exec_avsWriteRetry]; unfold execAvsWriteRetry; exact ⟨_, .inl rfl⟩
theorem form_vmargin : ∀ b s, Meaning (exec (.vmargin b) s) s := by intros; rw [exec_vmargin]; unfold execVmargin; exact ⟨_, .inl rfl⟩
theorem form_blkGo : ∀ blk inst s, Meaning (exec (.blkGo blk inst) s) s := by intros; rw [exec_blkGo]; unfold execBlkGo; exact ⟨_, .inl rfl⟩
theorem form_rstCtlKind : ∀ kind s, Meaning (exec (.rstCtlKind kind) s) s := by intros; rw [exec_rstCtlKind]; unfold execRstCtlKind; exact ⟨_, .inl rfl⟩
theorem form_rstNFall : ∀ s, Meaning (exec .rstNFall s) s := by intros; rw [exec_rstNFall]; unfold execRstNFall; exact ⟨_, .inr rfl⟩
theorem form_rstNRise : ∀ role boot c s, Meaning (exec (.rstNRise role boot c) s) s := by intros; rw [exec_rstNRise]; unfold execRstNRise; exact ⟨_, .inr rfl⟩
theorem form_powerOn : ∀ s, Meaning (exec .powerOn s) s := by intros; rw [exec_powerOn]; unfold execPowerOn; exact ⟨_, .inr rfl⟩
theorem form_perstN : ∀ low s, Meaning (exec (.perstN low) s) s := by intros; rw [exec_perstN]; unfold execPerstN; exact ⟨_, .inr rfl⟩
theorem form_ready : ∀ s, Meaning (exec .ready s) s := by intros; rw [exec_ready]; unfold execReady; exact ⟨_, .inl rfl⟩
theorem form_thermSample : ∀ ts s, Meaning (exec (.thermSample ts) s) s := by intros; rw [exec_thermSample]; unfold execThermSample; exact ⟨_, .inl rfl⟩
theorem form_throttleStep : ∀ s, Meaning (exec .throttleStep s) s := by intros; rw [exec_throttleStep]; unfold execThrottleStep; exact ⟨_, .inl rfl⟩
theorem form_chainTest : ∀ s, Meaning (exec .chainTest s) s := by intros; rw [exec_chainTest]; unfold execChainTest; exact ⟨_, .inl rfl⟩
theorem form_chainTestEnd : ∀ s, Meaning (exec .chainTestEnd s) s := by intros; rw [exec_chainTestEnd]; unfold execChainTestEnd; exact ⟨_, .inl rfl⟩
theorem form_smbBootStage : ∀ pec s, Meaning (exec (.smbBootStage pec) s) s := by intros; rw [exec_smbBootStage]; unfold execSmbBootStage; exact ⟨_, .inr rfl⟩
theorem form_smbState : ∀ pec s, Meaning (exec (.smbState pec) s) s := by intros; rw [exec_smbState]; unfold execSmbState; exact ⟨_, .inr rfl⟩
theorem form_smbTj : ∀ pec s, Meaning (exec (.smbTj pec) s) s := by intros; rw [exec_smbTj]; unfold execSmbTj; exact ⟨_, .inr rfl⟩
theorem form_smbPower : ∀ pec s, Meaning (exec (.smbPower pec) s) s := by intros; rw [exec_smbPower]; unfold execSmbPower; exact ⟨_, .inr rfl⟩
theorem form_smbSerial : ∀ pec s, Meaning (exec (.smbSerial pec) s) s := by intros; rw [exec_smbSerial]; unfold execSmbSerial; exact ⟨_, .inr rfl⟩
theorem form_smbClassDs : ∀ pec s, Meaning (exec (.smbClassDs pec) s) s := by intros; rw [exec_smbClassDs]; unfold execSmbClassDs; exact ⟨_, .inr rfl⟩
theorem form_smbMcTemp : ∀ pec s, Meaning (exec (.smbMcTemp pec) s) s := by intros; rw [exec_smbMcTemp]; unfold execSmbMcTemp; exact ⟨_, .inr rfl⟩
theorem form_smbThermSense : ∀ k pec s, Meaning (exec (.smbThermSense k pec) s) s := by intros; rw [exec_smbThermSense]; unfold execSmbThermSense; exact ⟨_, .inr rfl⟩
theorem form_smbArp : ∀ addr pec s, Meaning (exec (.smbArp addr pec) s) s := by intros; rw [exec_smbArp]; unfold execSmbArp; exact ⟨_, .inr rfl⟩
theorem form_smbAlertResponse : ∀ s, Meaning (exec .smbAlertResponse s) s := by intros; rw [exec_smbAlertResponse]; unfold execSmbAlertResponse; exact ⟨_, .inr rfl⟩
theorem form_extest : ∀ s, Meaning (exec .extest s) s := by intros; rw [exec_extest]; unfold execExtest; exact ⟨_, .inr rfl⟩
theorem form_samplePreload : ∀ s, Meaning (exec .samplePreload s) s := by intros; rw [exec_samplePreload]; unfold execSamplePreload; exact ⟨_, .inr rfl⟩
theorem form_idcode : ∀ s, Meaning (exec .idcode s) s := by intros; rw [exec_idcode]; unfold execIdcode; exact ⟨_, .inr rfl⟩
theorem form_clamp : ∀ s, Meaning (exec .clamp s) s := by intros; rw [exec_clamp]; unfold execClamp; exact ⟨_, .inr rfl⟩
theorem form_highz : ∀ s, Meaning (exec .highz s) s := by intros; rw [exec_highz]; unfold execHighz; exact ⟨_, .inr rfl⟩
theorem form_dbgPort : ∀ s, Meaning (exec .dbgPort s) s := by intros; rw [exec_dbgPort]; unfold execDbgPort; exact ⟨_, .inr rfl⟩
theorem form_mbist : ∀ s, Meaning (exec .mbist s) s := by intros; rw [exec_mbist]; unfold execMbist; exact ⟨_, .inr rfl⟩
theorem form_bypass : ∀ s, Meaning (exec .bypass s) s := by intros; rw [exec_bypass]; unfold execBypass; exact ⟨_, .inr rfl⟩
theorem form_undefinedOpcode : ∀ w p op s, Meaning (exec (.undefinedOpcode w p op) s) s := by intros; rw [exec_undefinedOpcode]; unfold execUndefinedOpcode; exact ⟨_, .inl rfl⟩
theorem form_instructionFetchFault : ∀ w p poison s, Meaning (exec (.instructionFetchFault w p poison) s) s := by intros; rw [exec_instructionFetchFault]; unfold execInstructionFetchFault; exact ⟨_, .inl rfl⟩
theorem form_timeCommitPoint : ∀ s, Meaning (exec .timeCommitPoint s) s := by intros; rw [exec_timeCommitPoint]; unfold execTimeCommitPoint; exact ⟨_, .inl rfl⟩
theorem form_tbclkLoss : ∀ s, Meaning (exec .tbclkLoss s) s := by intros; rw [exec_tbclkLoss]; unfold execTbclkLoss; exact ⟨_, .inl rfl⟩
theorem form_fineUnlock : ∀ s, Meaning (exec .fineUnlock s) s := by intros; rw [exec_fineUnlock]; unfold execFineUnlock; exact ⟨_, .inl rfl⟩
theorem form_fineRelock : ∀ s, Meaning (exec .fineRelock s) s := by intros; rw [exec_fineRelock]; unfold execFineRelock; exact ⟨_, .inl rfl⟩
theorem form_undervoltage : ∀ s, Meaning (exec .undervoltage s) s := by intros; rw [exec_undervoltage]; unfold execUndervoltage; exact ⟨_, .inl rfl⟩
theorem form_estopNRise : ∀ ns s, Meaning (exec (.estopNRise ns) s) s := by intros; rw [exec_estopNRise]; unfold execEstopNRise; exact ⟨_, .inl rfl⟩
theorem form_tierTxFrame : ∀ t s, Meaning (exec (.tierTxFrame t) s) s := by intros; rw [exec_tierTxFrame]; unfold execTierTxFrame; exact ⟨_, .inl rfl⟩
theorem form_blockLock : ∀ t s, Meaning (exec (.blockLock t) s) s := by intros; rw [exec_blockLock]; unfold execBlockLock; exact ⟨_, .inl rfl⟩
theorem form_tierHelloTimer : ∀ t s, Meaning (exec (.tierHelloTimer t) s) s := by intros; rw [exec_tierHelloTimer]; unfold execTierHelloTimer; exact ⟨_, .inl rfl⟩
theorem form_tierAttemptTimeout : ∀ t s, Meaning (exec (.tierAttemptTimeout t) s) s := by intros; rw [exec_tierAttemptTimeout]; unfold execTierAttemptTimeout; exact ⟨_, .inl rfl⟩
theorem form_tierRxIdle : ∀ t f s, Meaning (exec (.tierRxIdle t f) s) s := by intros; rw [exec_tierRxIdle]; unfold execTierRxIdle; exact ⟨_, .inl rfl⟩
theorem form_tierSafeFrameTimer : ∀ s, Meaning (exec .tierSafeFrameTimer s) s := by intros; rw [exec_tierSafeFrameTimer]; unfold execTierSafeFrameTimer; exact ⟨_, .inl rfl⟩
theorem form_pondEarlyWake : ∀ p s, Meaning (exec (.pondEarlyWake p) s) s := by intros; rw [exec_pondEarlyWake]; unfold execPondEarlyWake; exact ⟨_, .inl rfl⟩
theorem form_devPortTimeout : ∀ q s, Meaning (exec (.devPortTimeout q) s) s := by intros; rw [exec_devPortTimeout]; unfold execDevPortTimeout; exact ⟨_, .inl rfl⟩
theorem form_avsSettle : ∀ s, Meaning (exec .avsSettle s) s := by intros; rw [exec_avsSettle]; unfold execAvsSettle; exact ⟨_, .inl rfl⟩
theorem form_wayDisableDone : ∀ p s, Meaning (exec (.wayDisableDone p) s) s := by intros; rw [exec_wayDisableDone]; unfold execWayDisableDone; exact ⟨_, .inl rfl⟩
theorem form_rngHealthTest : ∀ samples s, Meaning (exec (.rngHealthTest samples) s) s := by intros; rw [exec_rngHealthTest]; unfold execRngHealthTest; exact ⟨_, .inl rfl⟩
theorem form_shaDigestRead : ∀ who s, Meaning (exec (.shaDigestRead who) s) s := by intros; rw [exec_shaDigestRead]; unfold execShaDigestRead; exact ⟨_, .inl rfl⟩
theorem form_msixUnmask : ∀ v s, Meaning (exec (.msixUnmask v) s) s := by intros; rw [exec_msixUnmask]; unfold execMsixUnmask; exact ⟨_, .inl rfl⟩
theorem form_d3hot : ∀ d3 s, Meaning (exec (.d3hot d3) s) s := by intros; rw [exec_d3hot]; unfold execD3hot; exact ⟨_, .inl rfl⟩
theorem form_basinCtlEn : ∀ b en s, Meaning (exec (.basinCtlEn b en) s) s := by intros; rw [exec_basinCtlEn]; unfold execBasinCtlEn; exact ⟨_, .inl rfl⟩
theorem form_cmpCtlEn : ∀ en s, Meaning (exec (.cmpCtlEn en) s) s := by intros; rw [exec_cmpCtlEn]; unfold execCmpCtlEn; exact ⟨_, .inl rfl⟩
theorem form_mcCtlEn : ∀ c en s, Meaning (exec (.mcCtlEn c en) s) s := by intros; rw [exec_mcCtlEn]; unfold execMcCtlEn; exact ⟨_, .inl rfl⟩

theorem exec_form (c : Instr) (s : State) : Meaning (exec c s) s := by
  cases c with
  | nop w p => exact form_nop w p s
  | brk w p => exact form_brk w p s
  | trap w p f => exact form_trap w p f s
  | tret w p => exact form_tret w p s
  | fenceSl w p => exact form_fenceSl w p s
  | fenceN w p => exact form_fenceN w p s
  | fenceIo w p => exact form_fenceIo w p s
  | fenceAll w p => exact form_fenceAll w p s
  | j w p disp => exact form_j w p disp s
  | call w p disp => exact form_call w p disp s
  | jr w p f => exact form_jr w p f s
  | callr w p f => exact form_callr w p f s
  | ret w p => exact form_ret w p s
  | br w p f => exact form_br w p f s
  | loop w p f => exact form_loop w p f s
  | loopi w p f => exact form_loopi w p f s
  | lpop w p => exact form_lpop w p s
  | cmo w p f e => exact form_cmo w p f e s
  | mfs w p f => exact form_mfs w p f s
  | mts w p f => exact form_mts w p f s
  | rdt w p f => exact form_rdt w p f s
  | add w p f => exact form_add w p f s
  | sub w p f => exact form_sub w p f s
  | and w p f => exact form_and w p f s
  | or w p f => exact form_or w p f s
  | xor w p f => exact form_xor w p f s
  | shl w p f => exact form_shl w p f s
  | shr w p f => exact form_shr w p f s
  | sar w p f => exact form_sar w p f s
  | mul w p f => exact form_mul w p f s
  | mulh w p f => exact form_mulh w p f s
  | mulhu w p f => exact form_mulhu w p f s
  | div w p f => exact form_div w p f s
  | divu w p f => exact form_divu w p f s
  | rem w p f => exact form_rem w p f s
  | remu w p f => exact form_remu w p f s
  | cmp w p f => exact form_cmp w p f s
  | tst w p f => exact form_tst w p f s
  | min w p f => exact form_min w p f s
  | max w p f => exact form_max w p f s
  | clz w p f => exact form_clz w p f s
  | popc w p f => exact form_popc w p f s
  | sel w p f => exact form_sel w p f s
  | addi w p f => exact form_addi w p f s
  | andi w p f => exact form_andi w p f s
  | ori w p f => exact form_ori w p f s
  | xori w p f => exact form_xori w p f s
  | shi w p f => exact form_shi w p f s
  | cmpi w p f => exact form_cmpi w p f s
  | movi w p f => exact form_movi w p f s
  | muli w p f => exact form_muli w p f s
  | ld w p f e => exact form_ld w p f e s
  | st w p f => exact form_st w p f s
  | ldf w p f e => exact form_ldf w p f e s
  | stf w p f => exact form_stf w p f s
  | ldp w p f e => exact form_ldp w p f e s
  | stp w p f => exact form_stp w p f s
  | amo w p f e => exact form_amo w p f e s
  | sti w p f => exact form_sti w p f s
  | fopS w p f => exact form_fopS w p f s
  | fopD w p f => exact form_fopD w p f s
  | fcmp w p f => exact form_fcmp w p f s
  | fcvt w p f => exact form_fcvt w p f s
  | fmov w p f => exact form_fmov w p f s
  | emit w p f => exact form_emit w p f s
  | emitStallAccept n => exact form_emitStallAccept n s
  | emitWaitTimeout w => exact form_emitWaitTimeout w s
  | post w p f => exact form_post w p f s
  | postWaitTimeout w => exact form_postWaitTimeout w s
  | commit w p f busy => exact form_commit w p f busy s
  | commitBusyTimeout w => exact form_commitBusyTimeout w s
  | recv w p f => exact form_recv w p f s
  | taskend w p f => exact form_taskend w p f s
  | endMsgRetry w => exact form_endMsgRetry w s
  | waita w p f => exact form_waita w p f s
  | waitt w p f => exact form_waitt w p f s
  | waitq w p f => exact form_waitq w p f s
  | sleep w p f => exact form_sleep w p f s
  | waitaComplete w => exact form_waitaComplete w s
  | waittComplete w => exact form_waittComplete w s
  | waitqComplete w => exact form_waitqComplete w s
  | sleepComplete w => exact form_sleepComplete w s
  | waitDeadline w => exact form_waitDeadline w s
  | cxInstruction w p op ops => exact form_cxInstruction w p op ops s
  | taskAbandon w => exact form_taskAbandon w s
  | taskDispatch b q w => exact form_taskDispatch b q w s
  | sbEntryDrain w e => exact form_sbEntryDrain w e s
  | cbEntryDrain w idx e => exact form_cbEntryDrain w idx e s
  | weirLaunch n fine k => exact form_weirLaunch n fine k s
  | atxLateFound n xid => exact form_atxLateFound n xid s
  | atxHeldTimeout n xid => exact form_atxHeldTimeout n xid s
  | verifyTimeout n xid => exact form_verifyTimeout n xid s
  | reportRetry n => exact form_reportRetry n s
  | slackEvaluation => exact form_slackEvaluation s
  | weirEnable n en => exact form_weirEnable n en s
  | spdClr => exact form_spdClr s
  | spdreqWrite rated req => exact form_spdreqWrite rated req s
  | fcEnable n => exact form_fcEnable n s
  | fcDisable n => exact form_fcDisable n s
  | fcStopComplete n => exact form_fcStopComplete n s
  | fcViolClr n => exact form_fcViolClr n s
  | groupPllLock g => exact form_groupPllLock g s
  | groupPllLoss g => exact form_groupPllLoss g s
  | symbolLock n => exact form_symbolLock n s
  | symbolLockLoss n => exact form_symbolLockLoss n s
  | helloTimer n => exact form_helloTimer n s
  | linkupAttemptTimeout n => exact form_linkupAttemptTimeout n s
  | retrainAttempt n => exact form_retrainAttempt n s
  | fcRxHello n f => exact form_fcRxHello n f s
  | fcRxIdle n f => exact form_fcRxIdle n f s
  | fcRxAck n f => exact form_fcRxAck n f s
  | fcRxNak n f => exact form_fcRxNak n f s
  | fcRxSync n f fine => exact form_fcRxSync n f fine s
  | fcRxAngle n f => exact form_fcRxAngle n f s
  | fcRxVerify n f => exact form_fcRxVerify n f s
  | fcRxSense n f => exact form_fcRxSense n f s
  | fcRxStatus n f => exact form_fcRxStatus n f s
  | sensePostRetry n => exact form_sensePostRetry n s
  | fcRxBadFrame n k => exact form_fcRxBadFrame n k s
  | fcRxViolation n f overrun => exact form_fcRxViolation n f overrun s
  | quarantineTimeout n => exact form_quarantineTimeout n s
  | fcTxFrame n fine => exact form_fcTxFrame n fine s
  | resendTimeout n => exact form_resendTimeout n s
  | idleKeepalive n => exact form_idleKeepalive n s
  | silence n => exact form_silence n s
  | syncPeriod n fine => exact form_syncPeriod n fine s
  | syncRespMissed n => exact form_syncRespMissed n s
  | safeFrameTimer n => exact form_safeFrameTimer n s
  | timeCtlEn en load aonCal => exact form_timeCtlEn en load aonCal s
  | dtSlew v => exact form_dtSlew v s
  | aonCalWindow count => exact form_aonCalWindow count s
  | ffReqSend fine => exact form_ffReqSend fine s
  | ffRxReq port p fineIn turn fineOut => exact form_ffRxReq port p fineIn turn fineOut s
  | ffRelay inPort p residence => exact form_ffRelay inPort p residence s
  | ffRxResp p fine => exact form_ffRxResp p fine s
  | holdoverTimeout => exact form_holdoverTimeout s
  | capArm => exact form_capArm s
  | trackerEnable n en => exact form_trackerEnable n en s
  | axCommit n => exact form_axCommit n s
  | apQuadEdge m k fine => exact form_apQuadEdge m k fine s
  | apIndex m fine => exact form_apIndex m fine s
  | ssiPoll m dataHigh fine => exact form_ssiPoll m dataHigh fine s
  | ssiFrameDone m raw => exact form_ssiFrameDone m raw s
  | trackerUpdate n => exact form_trackerUpdate n s
  | standstillTimeout n => exact form_standstillTimeout n s
  | srclostTimeout n => exact form_srclostTimeout n s
  | srclostLost n => exact form_srclostLost n s
  | regWrite who addr size v => exact form_regWrite who addr size v s
  | pairLoRead who addr => exact form_pairLoRead who addr s
  | pairLoWrite who addr v => exact form_pairLoWrite who addr v s
  | pairHiWrite who addr v => exact form_pairHiWrite who addr v s
  | regTmo addr => exact form_regTmo addr s
  | devCfgmodeWrite v => exact form_devCfgmodeWrite v s
  | weirCommit n => exact form_weirCommit n s
  | faultAck blk inst bits => exact form_faultAck blk inst bits s
  | adtOpRead => exact form_adtOpRead s
  | adtOpWrite => exact form_adtOpWrite s
  | adtDataAccess write => exact form_adtDataAccess write s
  | adtScrubStep err => exact form_adtScrubStep err s
  | cmpJobCompress => exact form_cmpJobCompress s
  | cmpJobDecompress => exact form_cmpJobDecompress s
  | cmpJobVerify => exact form_cmpJobVerify s
  | cmpJobDone mism dyn => exact form_cmpJobDone mism dyn s
  | cmpTblCommit => exact form_cmpTblCommit s
  | cmpRequestSubmit w v => exact form_cmpRequestSubmit w v s
  | cmpPortFullTimeout w => exact form_cmpPortFullTimeout w s
  | cmpRequestComplete lane crcErr => exact form_cmpRequestComplete lane crcErr s
  | dmaRequestSubmit w e v => exact form_dmaRequestSubmit w e v s
  | dmaFullTimeout w => exact form_dmaFullTimeout w s
  | dmaRequestComplete p e err => exact form_dmaRequestComplete p e err s
  | l2Clean p ahi => exact form_l2Clean p ahi s
  | l2Invalidate p ahi => exact form_l2Invalidate p ahi s
  | l2CleanInvalidate p ahi => exact form_l2CleanInvalidate p ahi s
  | l2CleanAll p => exact form_l2CleanAll p s
  | l2InvalidateAll p => exact form_l2InvalidateAll p s
  | l2CleanInvalidateAll p => exact form_l2CleanInvalidateAll p s
  | l2MaintDone p tagUe => exact form_l2MaintDone p tagUe s
  | l2CtlEn p en => exact form_l2CtlEn p en s
  | l2Stopped p => exact form_l2Stopped p s
  | l2CeWindow p => exact form_l2CeWindow p s
  | pondCtlEn p en => exact form_pondCtlEn p en s
  | pmCtlEn p en => exact form_pmCtlEn p en s
  | pmRegionCommit p master desc commit => exact form_pmRegionCommit p master desc commit s
  | pmConflictClr p => exact form_pmConflictClr p s
  | pondRearm p => exact form_pondRearm p s
  | marchStart p => exact form_marchStart p s
  | marchDone p bad ue => exact form_marchDone p bad ue s
  | gets b r line resends => exact form_gets b r line resends s
  | getm b r line resends => exact form_getm b r line resends s
  | upg b r line resends => exact form_upg b r line resends s
  | putm b r line keep resends => exact form_putm b r line keep resends s
  | putc b r line resends => exact form_putc b r line resends s
  | ucrd b r line resends => exact form_ucrd b r line resends s
  | ucwr b r line bytes poison resends => exact form_ucwr b r line bytes poison resends s
  | combinedResponse b line resends => exact form_combinedResponse b line resends s
  | snps b r line resends => exact form_snps b r line resends s
  | snpi b r line resends => exact form_snpi b r line resends s
  | snpd b r line resends => exact form_snpd b r line resends s
  | snpf b r set resends => exact form_snpf b r set resends s
  | dataS b r line resends => exact form_dataS b r line resends s
  | dataE b r line resends => exact form_dataE b r line resends s
  | dataM b r line resends => exact form_dataM b r line resends s
  | grant b r line resends => exact form_grant b r line resends s
  | wback b r line resends => exact form_wback b r line resends s
  | wbackStale b r line resends => exact form_wbackStale b r line resends s
  | nack b r line resends => exact form_nack b r line resends s
  | nackResend b r line resends => exact form_nackResend b r line resends s
  | udata b r line resends => exact form_udata b r line resends s
  | ucwrComplete b r line resends => exact form_ucwrComplete b r line resends s
  | sfScrubStep b set e => exact form_sfScrubStep b set e s
  | basinReplay b poisoned => exact form_basinReplay b poisoned s
  | mcRefresh c => exact form_mcRefresh c s
  | mcScrubStep c e map => exact form_mcScrubStep c e map s
  | mcPeriodicRetrain c low => exact form_mcPeriodicRetrain c low s
  | mcTempRead c t => exact form_mcTempRead c t s
  | mcTrainStart c => exact form_mcTrainStart c s
  | mcRetrainDone c eyes => exact form_mcRetrainDone c eyes s
  | mcSpareCommit c => exact form_mcSpareCommit c s
  | migrationStep c e => exact form_migrationStep c e s
  | mcRgnRead c idx => exact form_mcRgnRead c idx s
  | mcRgnWrite c idx => exact form_mcRgnWrite c idx s
  | mcRgnInvalidate c idx => exact form_mcRgnInvalidate c idx s
  | mcRgnRebind c idx => exact form_mcRgnRebind c idx s
  | regionInitDone => exact form_regionInitDone s
  | housekeepingTick found => exact form_housekeepingTick found s
  | cAutoAck blk inst bit => exact form_cAutoAck blk inst bit s
  | rAutoAck blk inst bit => exact form_rAutoAck blk inst bit s
  | tarnReplay p poisoned => exact form_tarnReplay p poisoned s
  | csWordRefresh p => exact form_csWordRefresh p s
  | csBackgroundPass p e => exact form_csBackgroundPass p e s
  | svcFailover => exact form_svcFailover s
  | estopNFall => exact form_estopNFall s
  | pfwNFall => exact form_pfwNFall s
  | pfwNRise => exact form_pfwNRise s
  | tailReportComplete => exact form_tailReportComplete s
  | safeReq => exact form_safeReq s
  | secPageEnable who k => exact form_secPageEnable who k s
  | secPageDisable who k => exact form_secPageDisable who k s
  | pageKeyDerived k parity => exact form_pageKeyDerived k parity s
  | pageZeroed k => exact form_pageZeroed k s
  | secKeyload who v => exact form_secKeyload who v s
  | secKeyloadStart who => exact form_secKeyloadStart who s
  | secKeyloadClear who => exact form_secKeyloadClear who s
  | otpLock who => exact form_otpLock who s
  | rngRestart who => exact form_rngRestart who s
  | rngRestartDone ok => exact form_rngRestartDone ok s
  | rngDataRead who => exact form_rngDataRead who s
  | maskReseed => exact form_maskReseed s
  | shaInit who lastb => exact form_shaInit who lastb s
  | shaData who v => exact form_shaData who v s
  | shaFinal who lastb => exact form_shaFinal who lastb s
  | shaDone parity => exact form_shaDone parity s
  | hostArbRound io => exact form_hostArbRound io s
  | sqTail who q v => exact form_sqTail who q v s
  | cqHead who q v => exact form_cqHead who q v s
  | cqCoalesceTimeout q => exact form_cqCoalesceTimeout q s
  | hostCtlEn who en => exact form_hostCtlEn who en s
  | hostReset linkDown => exact form_hostReset linkDown s
  | dpAddrWrite who v => exact form_dpAddrWrite who v s
  | dpCtlWrite who v => exact form_dpCtlWrite who v s
  | dpDataWrite units => exact form_dpDataWrite units s
  | dpDataRead n e => exact form_dpDataRead n e s
  | dpPrefetchExpire => exact form_dpPrefetchExpire s
  | devInfo q => exact form_devInfo q s
  | devTopo q => exact form_devTopo q s
  | devReset q => exact form_devReset q s
  | devSummary q => exact form_devSummary q s
  | devPort q => exact form_devPort q s
  | hostQcreate q => exact form_hostQcreate q s
  | hostQdelete q => exact form_hostQdelete q s
  | hostStats q => exact form_hostStats q s
  | hostLock q => exact form_hostLock q s
  | patLoad q rows => exact form_patLoad q rows s
  | patDrop q => exact form_patDrop q s
  | patList q => exact form_patList q s
  | patVerify q => exact form_patVerify q s
  | patTable q => exact form_patTable q s
  | axConfig q => exact form_axConfig q s
  | axPort q => exact form_axPort q s
  | axQuery q => exact form_axQuery q s
  | chConfig q => exact form_chConfig q s
  | chEnable q => exact form_chEnable q s
  | chPartner q => exact form_chPartner q s
  | chTable q => exact form_chTable q s
  | chTableread q => exact form_chTableread q s
  | chStats q => exact form_chStats q s
  | chSpeed q => exact form_chSpeed q s
  | taskQconfig q => exact form_taskQconfig q s
  | taskPost q => exact form_taskPost q s
  | taskPlace q => exact form_taskPlace q s
  | taskLimit q => exact form_taskLimit q s
  | taskStatus q => exact form_taskStatus q s
  | memRegion q => exact form_memRegion q s
  | memCache q => exact form_memCache q s
  | memMarch q => exact form_memMarch q s
  | memRetrain q => exact form_memRetrain q s
  | memSpare q => exact form_memSpare q s
  | memStats q => exact form_memStats q s
  | memScrub q => exact form_memScrub q s
  | pwrState q => exact form_pwrState q s
  | pwrPond q => exact form_pwrPond q s
  | pwrStatus q => exact form_pwrStatus q s
  | fltAck q => exact form_fltAck q s
  | fltSafe q => exact form_fltSafe q s
  | fltResume q => exact form_fltResume q s
  | fltLog q => exact form_fltLog q s
  | fltLogbuf q => exact form_fltLogbuf q s
  | fltTailbuf q => exact form_fltTailbuf q s
  | fltRecord q => exact form_fltRecord q s
  | fltJournal q => exact form_fltJournal q s
  | fltCtl q => exact form_fltCtl q s
  | secInfo q => exact form_secInfo q s
  | secPage q => exact form_secPage q s
  | secSyskey q => exact form_secSyskey q s
  | secAttest q => exact form_secAttest q s
  | secLog q => exact form_secLog q s
  | secRollfwd q => exact form_secRollfwd q s
  | secSlot q sig => exact form_secSlot q sig s
  | secRandom q => exact form_secRandom q s
  | secDbgchal q => exact form_secDbgchal q s
  | secDbgunlock q sig => exact form_secDbgunlock q sig s
  | expRdreg q => exact form_expRdreg q s
  | expWrreg q => exact form_expWrreg q s
  | expRdmem q => exact form_expRdmem q s
  | expWrmem q => exact form_expWrmem q s
  | expUcinfo q => exact form_expUcinfo q s
  | expUcread q => exact form_expUcread q s
  | expUcstage q image => exact form_expUcstage q image s
  | tierRxHello t f => exact form_tierRxHello t f s
  | tierRxAck t f => exact form_tierRxAck t f s
  | tierRxNak t f => exact form_tierRxNak t f s
  | tierRxBadFrame t k => exact form_tierRxBadFrame t k s
  | tierViolation t f => exact form_tierViolation t f s
  | tierRxSafe t f => exact form_tierRxSafe t f s
  | tierRoute t f => exact form_tierRoute t f s
  | tierRouteCommit => exact form_tierRouteCommit s
  | tierResendTimeout t => exact form_tierResendTimeout t s
  | tierSilence t => exact form_tierSilence t s
  | blockLockLoss t => exact form_blockLockLoss t s
  | tierRetrainAttempt t => exact form_tierRetrainAttempt t s
  | tierEnable t en => exact form_tierEnable t en s
  | cmd t f => exact form_cmd t f s
  | reply t f => exact form_reply t f s
  | fault t f => exact form_fault t f s
  | summary t f => exact form_summary t f s
  | summaryTimer => exact form_summaryTimer s
  | tail t f => exact form_tail t f s
  | boot t f => exact form_boot t f s
  | bootstat t f => exact form_bootstat t f s
  | secret t f => exact form_secret t f s
  | notice t f => exact form_notice t f s
  | pwrReqNap => exact form_pwrReqNap s
  | pwrReqSleep => exact form_pwrReqSleep s
  | napAutoHold => exact form_napAutoHold s
  | dSleepPowerOff => exact form_dSleepPowerOff s
  | wakeNFall => exact form_wakeNFall s
  | wakeTimer => exact form_wakeTimer s
  | tierActivityWake t => exact form_tierActivityWake t s
  | resumeReady ok => exact form_resumeReady ok s
  | pondPowerGate p => exact form_pondPowerGate p s
  | pllLockLoss k => exact form_pllLockLoss k s
  | pllRelock k => exact form_pllRelock k s
  | avsWriteRetry ack => exact form_avsWriteRetry ack s
  | vmargin b => exact form_vmargin b s
  | blkGo blk inst => exact form_blkGo blk inst s
  | rstCtlKind kind => exact form_rstCtlKind kind s
  | rstNFall => exact form_rstNFall s
  | rstNRise role boot c => exact form_rstNRise role boot c s
  | powerOn => exact form_powerOn s
  | perstN low => exact form_perstN low s
  | ready => exact form_ready s
  | thermSample ts => exact form_thermSample ts s
  | throttleStep => exact form_throttleStep s
  | chainTest => exact form_chainTest s
  | chainTestEnd => exact form_chainTestEnd s
  | smbBootStage pec => exact form_smbBootStage pec s
  | smbState pec => exact form_smbState pec s
  | smbTj pec => exact form_smbTj pec s
  | smbPower pec => exact form_smbPower pec s
  | smbSerial pec => exact form_smbSerial pec s
  | smbClassDs pec => exact form_smbClassDs pec s
  | smbMcTemp pec => exact form_smbMcTemp pec s
  | smbThermSense k pec => exact form_smbThermSense k pec s
  | smbArp addr pec => exact form_smbArp addr pec s
  | smbAlertResponse => exact form_smbAlertResponse s
  | extest => exact form_extest s
  | samplePreload => exact form_samplePreload s
  | idcode => exact form_idcode s
  | clamp => exact form_clamp s
  | highz => exact form_highz s
  | dbgPort => exact form_dbgPort s
  | mbist => exact form_mbist s
  | bypass => exact form_bypass s
  | undefinedOpcode w p op => exact form_undefinedOpcode w p op s
  | instructionFetchFault w p poison => exact form_instructionFetchFault w p poison s
  | timeCommitPoint => exact form_timeCommitPoint s
  | tbclkLoss => exact form_tbclkLoss s
  | fineUnlock => exact form_fineUnlock s
  | fineRelock => exact form_fineRelock s
  | undervoltage => exact form_undervoltage s
  | estopNRise ns => exact form_estopNRise ns s
  | tierTxFrame t => exact form_tierTxFrame t s
  | blockLock t => exact form_blockLock t s
  | tierHelloTimer t => exact form_tierHelloTimer t s
  | tierAttemptTimeout t => exact form_tierAttemptTimeout t s
  | tierRxIdle t f => exact form_tierRxIdle t f s
  | tierSafeFrameTimer => exact form_tierSafeFrameTimer s
  | pondEarlyWake p => exact form_pondEarlyWake p s
  | devPortTimeout q => exact form_devPortTimeout q s
  | avsSettle => exact form_avsSettle s
  | wayDisableDone p => exact form_wayDisableDone p s
  | rngHealthTest samples => exact form_rngHealthTest samples s
  | shaDigestRead who => exact form_shaDigestRead who s
  | msixUnmask v => exact form_msixUnmask v s
  | d3hot d3 => exact form_d3hot d3 s
  | basinCtlEn b en => exact form_basinCtlEn b en s
  | cmpCtlEn en => exact form_cmpCtlEn en s
  | mcCtlEn c en => exact form_mcCtlEn c en s

end Sys2Proof.Machine
end

