-- ==== Sys2Proof/Laws/Memory.lean ====
section
/-!
SUPPORT. Pond memory and DRAM bytes: the read of what was written, and that every operation on them keeps the canonical form.
-/

namespace Sys2Proof.Machine

/-! ### Cells of pond memory -/

@[simp] theorem pmGet_pmSet_same (m : List Host.Cell) (k : Nat) (v : Byte) : pmGet (pmSet m k v) k = v := Tab.get_set_same _ m k v

theorem pmGet_pmSet_other (m : List Host.Cell) {j k : Nat} (v : Byte) (h : j ≠ k) : pmGet (pmSet m k v) j = pmGet m j :=
  Tab.get_set_other _ m v h

theorem Memory.wf_nil : Memory.wf [] = true := rfl

theorem Memory.wf_pmSet {m : List Host.Cell} (k : Nat) (v : Byte) (h : Memory.wf m = true) : Memory.wf (pmSet m k v) = true :=
  Tab.wf_set k v h

theorem Memory.wf_filter {m : List Host.Cell} (p : Host.Cell → Bool) (h : Memory.wf m = true) : Memory.wf (m.filter p) = true :=
  Tab.wf_filter p h

/-- Memory is empty, and canonical, at reset. -/
theorem State.reset_pm : State.reset.pm = [] := rfl

theorem State.reset_pm_wf : Memory.wf State.reset.pm = true := rfl

/-! ### Operations of the state -/

/-- A fold keeps what each of its steps keeps. -/
theorem foldl_keep {α β : Type} (P : α → Prop) (f : α → β → α) (h : ∀ a b, P a → P (f a b)) :
    ∀ (l : List β) (a : α), P a → P (l.foldl f a)
  | [], _, ha => ha
  | b :: l, a, ha => foldl_keep P f h l (f a b) (h a b ha)

@[simp] theorem State.setPmPoison_pm (s : State) (p w : Nat) (v : Bool) : (s.setPmPoison p w v).pm = s.pm := rfl
@[simp] theorem State.setPmPoison_flds (s : State) (p w : Nat) (v : Bool) : (s.setPmPoison p w v).flds = s.flds := rfl
@[simp] theorem State.setPmPoison_striders (s : State) (p w : Nat) (v : Bool) : (s.setPmPoison p w v).striders = s.striders := rfl
@[simp] theorem State.setPmPoison_ponds (s : State) (p w : Nat) (v : Bool) : (s.setPmPoison p w v).ponds = s.ponds := rfl

theorem State.latchEvent_pm (s : State) (w : StrId) (c : Nat) : (s.latchEvent w c).pm = s.pm := by
  simp [State.latchEvent]

/-- The doorbell leaves memory as it is. -/
@[simp] theorem State.ringDoorbell_pm (s : State) (p : Fin 68) : (s.ringDoorbell p).pm = s.pm := by
  unfold State.ringDoorbell
  refine foldl_keep (fun t : State => t.pm = s.pm) _ (fun t w h => ?_) _ s rfl
  split <;> simp [State.latchEvent_pm, h]

/-- The bytes of a write go into the memory one by one (R288). -/
theorem State.pmPut_pm (s : State) (p : Fin 68) (off : Nat) (b : List Byte) :
    (s.pmPut p off b).pm = b.zipIdx.foldl (fun m e => pmSet m (p.val * pmSize + off + e.2) e.1) s.pm := by
  unfold State.pmPut
  refine foldl_keep (fun t : State => t.pm = b.zipIdx.foldl (fun m e => pmSet m (p.val * pmSize + off + e.2) e.1) s.pm) _ (fun t w h => ?_) _ _ rfl
  dsimp only; split <;> simp [h]

theorem State.pmPut_wf {s : State} (p : Fin 68) (off : Nat) (b : List Byte) (h : Memory.wf s.pm = true) :
    Memory.wf (s.pmPut p off b).pm = true := by
  rw [State.pmPut_pm]
  exact foldl_keep (fun m : List Host.Cell => Memory.wf m = true) _ (fun m e hm => Memory.wf_pmSet _ _ hm) _ _ h

/-- A write is its bytes, and perhaps the doorbell (R291). -/
@[simp] theorem State.pmWrite_pm (s : State) (p : Fin 68) (off : Nat) (b : List Byte) : (s.pmWrite p off b).pm = (s.pmPut p off b).pm := by
  unfold State.pmWrite; dsimp only; split <;> simp

theorem State.pmWriteMask_wf {s : State} (p : Fin 68) (off : Nat) (b : List (Option Byte)) (h : Memory.wf s.pm = true) :
    Memory.wf (s.pmWriteMask p off b).pm = true := by
  have k := foldl_keep (fun t : State => Memory.wf t.pm = true) (fun (s : State) (r : Nat × List Byte) => s.pmPut p r.1 r.2)
    (fun t r ht => State.pmPut_wf p r.1 r.2 ht) (byteRuns off b) s h
  unfold State.pmWriteMask; dsimp only; split
  · simpa using k
  · exact k

/-- What a lost pond's memory held is gone, and nothing else of it (R383). -/
theorem State.emptyPond_wf {s : State} (p : Nat) (h : Memory.wf s.pm = true) : Memory.wf (s.emptyPond p).pm = true :=
  Memory.wf_filter _ h

/-! ### DRAM bytes -/

/-- Bytes put under a mask keep the canonical form of a memory. -/
theorem Tab.wf_masked (base : Nat) (b : List (Option Byte × Nat)) {t : Tab Byte} (h : Tab.wf (fun _ => (0 : Byte)) t = true) :
    Tab.wf (fun _ => (0 : Byte)) (b.foldl (fun (t : Tab Byte) e =>
      match e.1 with
      | none => t
      | some v => Tab.set (fun _ => 0) t (base + e.2) v) t) = true :=
  foldl_keep (fun t : Tab Byte => Tab.wf (fun _ => (0 : Byte)) t = true) _
    (fun t e ht => by cases e.1 with
      | none => exact ht
      | some v => exact Tab.wf_set _ _ ht) b t h

end Sys2Proof.Machine
end

