-- ==== Sys2Proof/Laws/Strider.lean ====
section
/-!
SUPPORT. What the frame of a strider's instruction does: an issued instruction makes one execution of its effect, an illegal one takes
its trap, and a strider that does not execute is left as it is.
-/

namespace Sys2Proof.Machine

/-- A fetch that can be served at once changes nothing (R201, R271). -/
theorem State.fetch_ok {s : State} {w : StrId} {n : Nat} (h : s.fetchCheck w n = .ok) : s.fetch w n = (.ok, s) := by
  simp [State.fetch, h]

/-- With no error found, the pipeline check lets the instruction go on (R380). -/
@[simp] theorem State.pipeline_none (s : State) (w : StrId) : s.pipeline w .none = (true, s) := rfl

/-- An issued instruction of legal form makes one execution of its effect, on the state as it stands (R194, R197). -/
theorem State.instr_issued {s : State} {w : StrId} {p : Pfx} {len : Nat} (body : State → Res) (h : s.issues w p) (hl : len ≤ 15) :
    s.instr w p len false body = s.outcome w p.rep ((s.str w).pc + BitVec.ofNat 64 len) (body s) := by
  obtain ⟨-, hx, ht, hf, he, hr⟩ := h
  have hf := State.fetch_ok (hf len hl)
  have hrep : ¬(p.rep = true ∧ (s.str w).rc = 0#64) := fun ⟨a, b⟩ => hr a b
  have hl' : ¬15 < len := by omega
  simp [State.instr, hx, ht, he, hf, Nat.min_eq_left hl, hl', hrep]

/-- An issued instruction of illegal form takes ILLEGAL with its first bytes (R187, R188, Table 07-13). -/
theorem State.instr_illegal {s : State} {w : StrId} {p : Pfx} {len : Nat} {bad : Bool} (body : State → Res) (h : s.issues w p)
    (hb : bad = true ∨ 15 < len) : s.instr w p len bad body = s.takeTrap w Cause.illegal p.raw (s.str w).pc false := by
  obtain ⟨-, hx, ht, hf, he, -⟩ := h
  have hf := State.fetch_ok (hf (min len 15) (Nat.min_le_right ..))
  have hb : (bad || decide (15 < len)) = true := by rcases hb with h | h <;> simp [h]
  simp [State.instr, hx, ht, he, hf, hb]

/-- A strider that does not execute, and that no persistent error retires, is left as it is (R207, R485). -/
theorem State.instr_idle {s : State} {w : StrId} {p : Pfx} {len : Nat} {bad : Bool} (body : State → Res) (h : s.executes w = false)
    (he : p.err ≠ .persistent) : s.instr w p len bad body = s := by
  simp [State.instr, h, State.failsWaiting, he]

/-- Past the task's time limit the task is abandoned before the instruction (R215). -/
theorem State.instr_timeUp {s : State} {w : StrId} {p : Pfx} {len : Nat} {bad : Bool} (body : State → Res) (h : s.executes w = true)
    (ht : s.timeUp w = true) : s.instr w p len bad body = s.abandonTask w 1 := by
  simp [State.instr, h, ht]

/-- An instruction whose effect gives a next state retires (R194, R197). -/
theorem State.outcome_next (s u : State) (w : StrId) (p : Pfx) (len : Nat) :
    s.outcome w p.rep ((s.str w).pc + BitVec.ofNat 64 (prefixLen p + len)) (.next u) = s.retire w p len u := rfl

/-- One whose effect jumps goes on at its target (R194). -/
theorem State.outcome_jump (s u : State) (w : StrId) (rep : Bool) (next pc : Word) : s.outcome w rep next (.jump pc u) = s.jumpTo w pc u := rfl

/-- One whose effect traps takes the trap with its own address (R200). -/
theorem State.outcome_trap (s u : State) (w : StrId) (rep : Bool) (next : Word) (c : Nat) (v : Word) (i : Bool) :
    s.outcome w rep next (.trap c v i u) = u.takeTrap w c v (s.str w).pc i := rfl

/-- Outside every loop the loop comparison changes nothing (R194). -/
theorem loopEnd_none (n : Nat) (pc : Word) (t : StrSt) (h : pswLd t.psw = 0) : loopEnd n pc t = (pc, t) := by
  cases n <;> simp [loopEnd, h]

end Sys2Proof.Machine
end

