-- ==== Sys2Proof/WellFormed.lean ====
section
/-!
DEFINITION. Which operands of a command can occur on the hardware, where a type alone does not say it: lengths of payloads,
entries, lines and lists. A meaning is total all the same.
-/

namespace Sys2Proof

/-- A frame as the receiver sees it: the payload it carries has the length LEN says, at most 512 bytes (R120). -/
def Frame.wf (f : Frame) : Bool := decide (f.payload.length ≤ 512) && decide (f.payload.length = f.len.toNat)

/-- A frame that overran: more bytes arrived than a frame may hold (Table 05-18). -/
def Frame.wfOver (f : Frame) (overrun : Bool) : Bool := overrun || f.wf

/-- An SQ entry has 64 bytes (R437). -/
def SqRead.wf (r : SqRead) : Bool := (r.entry.map (fun e => decide (e.length = 64))).getD true

/-- The memory channels of a start are eight, each with the serials of at most four ranks; the region table has 64 entries;
digests are 32 bytes (Table 12-4, R413). -/
def StartCfg.wf (c : StartCfg) : Bool :=
  decide (c.dimms.length = 8) && c.dimms.all (fun d => decide (d.serials.length ≤ 4)) && decide (c.regions.length ≤ 64) &&
  c.digests.all (fun d => decide (d.2.length = 32))

/-- Is a command well formed? -/
def Instr.wf (i : Instr) : Bool :=
  match i with
  | .cxInstruction _ _ _ ops => decide (ops.length ≤ 10)
  | .fcRxHello _ f | .fcRxIdle _ f | .fcRxAck _ f | .fcRxNak _ f | .fcRxSync _ f _ | .fcRxAngle _ f | .fcRxVerify _ f
  | .fcRxSense _ f | .fcRxStatus _ f => f.wf
  | .fcRxViolation _ f o => f.wfOver o
  | .tierRxHello _ f | .tierRxAck _ f | .tierRxNak _ f | .tierRxIdle _ f | .tierRxSafe _ f | .tierViolation _ f | .tierRoute _ f
  | .cmd _ f | .reply _ f | .fault _ f | .summary _ f | .tail _ f | .boot _ f | .bootstat _ f | .secret _ f | .notice _ f => f.wf
  | .ucwr _ _ _ bytes _ _ => decide (bytes.length = 64)
  | .mcRetrainDone _ eyes => decide (eyes.length = 10)
  | .hostArbRound io => io.reads.all SqRead.wf
  | .dpDataWrite units => decide (1 ≤ units.length ∧ units.length ≤ 128)
  | .dpDataRead n _ => decide (1 ≤ n ∧ n ≤ 128)
  | .secSlot _ sig | .secDbgunlock _ sig => decide (sig.length ≤ 65535)
  | .thermSample ts => decide (ts.length = 16)
  | .rstNRise _ _ c => c.wf
  | _ => true

end Sys2Proof
end

