-- ==== Sys2Proof/Tests/Slice0.lean ====
section
/-!
SUPPORT. Tests. First the states the tests are made on; then tests against values the spec writes out, each naming its place; then
for every check of WellFormed a term that it refuses; then, for every obligation with hypotheses, states and operands that meet the
hypotheses of each of its clauses together.
-/

/-- The value of an option that is known to hold one. -/
def Option.the {α : Type} (o : Option α) (h : o.isSome = true := by decide +kernel) : α := o.get h

/-- The head of a list that is known to have one. -/
def List.first {α : Type} (l : List α) (h : l ≠ [] := by decide +kernel) : α := l.head h

namespace Sys2Proof.Tests

set_option Elab.async false
set_option maxRecDepth 20000
set_option linter.unusedVariables false

open Sys2Proof.Machine

/-- The state an outcome answers; the state at reset where it answers none. -/
def after (r : Host.Outcome State Fault Refusal) : State :=
  match r with
  | .next t => t
  | _ => State.reset

def memBytes (m : MemRes) : List Byte :=
  match m with
  | .ok b => b
  | _ => []

@[irreducible] def ready : State := { State.reset with pwr := { State.reset.pwr with phase := .ready }, time := { State.reset.time with tbclk := true, locked := true } }

def w0 : StrId := ⟨0, 0⟩

def pfx : Pfx := { rep := false, nt := false, wide := false, err := .none, raw := 0 }

def pRep : Pfx := { pfx with rep := true }

def pWide : Pfx := { pfx with wide := true }

def pNt : Pfx := { pfx with nt := true }

/-- a strider that runs at 0x1000 -/
@[irreducible] def strRuns : StrSt := { StrSt.init with run := .running, pc := 0xFFFFFD0000001000, limit := 100, rc := 2, x := [(1, 7), (2, 3), (3, 0xFFFFFFFFFFFFFFFF), (4, 0x8000000000000000), (5, 64)] }

@[irreducible] def withStr (t : StrSt) : State := ((((ready.setFld (PLL_STAT.LOCK 3) 1).setFld (POND_CTL.EN 0) 1).setFld (PM_CTL.EN 0) 1).setPond 0 { PondSt.init with desc := [(0, ⟨0, 0x1FFF, 15⟩)] }).setStr w0 t

@[irreducible] def runs : State := withStr strRuns

/-- the same at the end of a loop -/
@[irreducible] def loops : State := withStr { strRuns with psw := 0x100, rc := 1, le := [(0, 0xFFFFFD0000001003)], ls := [(0, 0xFFFFFD0000000F00)], lc := [(0, 2)] }

/-- the same in handler mode -/
@[irreducible] def handles : State := withStr { strRuns with psw := 0x80, rc := 0, tpc := 0x2000 }

/-- the strider may use all of its pond memory; X1 points there -/
@[irreducible] def memory : State := ((withStr { strRuns with x := [(1, 0xFFFFFD0000000100), (2, 0x1122334455667788), (3, 5)], f := [(2, 0x4045000000000000), (3, 0x7FF0000000000001)] }
  ).setFld (PM_CTL.EN 0) 1).setPond 0 { PondSt.init with desc := [(0, ⟨0, 0x1FFF, 15⟩)] }

@[irreducible] def fa (r : Fin 32) (x : BitVec 3) : FmtA := ⟨r, x⟩

@[irreducible] def fb (d a b : Fin 32) (x : Bool) : FmtB := ⟨d, a, b, x⟩

@[irreducible] def fc (d a b c : Fin 32) (x : BitVec 4) : FmtC := ⟨d, a, b, c, x⟩

@[irreducible] def fi (d a : Fin 32) (x : BitVec 6) (i : Word) : FmtI := ⟨d, a, x, i⟩

@[irreducible] def fm (d a : Fin 32) (x : BitVec 6) (i : BitVec 16) : FmtM := ⟨d, a, x, i⟩

@[irreducible] def fs (a : Fin 32) (x : BitVec 11) (i : BitVec 16) (v : Word) : FmtS := ⟨a, x, i, v⟩

/-- the last pass of a loop -/
@[irreducible] def lastPass : State := withStr { strRuns with psw := 0x100, rc := 1, le := [(0, 0xFFFFFD0000001003)], ls := [(0, 0xFFFFFD0000000F00)], lc := [(0, 1)] }

/-- store buffer and combining buffer hold an entry -/
@[irreducible] def buffered : State := memory.setStr w0 { memory.str w0 with sb := [⟨0xFFFFFD0000000100, [some 1, some 2], false⟩], cb := [⟨0xFFFFFD0000000140, [none, some 3], false⟩] }

@[irreducible] def customer : State := { runs with ucode := { runs.ucode with
  entries := [(1, BitVec.ofNat 64 (2 ^ 59 + 2 ^ 58 + 2 * 2 ^ 54 + 14 * 2 ^ 48 + 1 * 2 ^ 44 + 0x1800 * 2 ^ 29))],
  words := [(0x1800, BitVec.ofNat 160 (5 * 2 ^ 157 + 2 * 2 ^ 134 + 3 * 2 ^ 128 + 4 * 2 ^ 122 + 1 * 2 ^ 117))] } }

/-- pond 0 with its L2 on and a region of DRAM at 0; the strider's X1 points into it -/
@[irreducible] def cached : State := let s := memory.setFld (L2_CTL.EN 0) 1
  { s.setX w0 1 0x1000 with dram := { s.dram with regions := [(0, ⟨true, 0, 0xFF, false, 0, 0, 0, true, 0, true, true, false⟩)] } }

/-- it is to stop after its instruction -/
@[irreducible] def halting : State := runs.setStr w0 { runs.str w0 with haltDue := true }

/-- a handler whose return resumes a customer instruction -/
@[irreducible] def resumes : State := handles.setStr w0 { handles.str w0 with tpsw := 0x800, tpc := 0x2000, uc := [⟨0x2000, 3, [], 0, 0, [], false⟩] }

def atxA : Atx := {
  actIdx := 1, tkind := true, axis := 0, tfine := 0, late := 0, retry := 0, report := false, pdef := true, target := 1000000,
  lateWin := 0, profile := 0, holdT := 0, boostLvl := 0, holdLvl := 0, rqQueue := 0, rqBasin := 0, rqUse := false, seq := 5, rsv := 0 }

def recA : XRec := {
  id := 3, xid := none, atx := atxA, task := 7, ordinal := 1, chan := 0, paddr := 4, profile := 2, state := .armed, reason := 0,
  slipped := false, reissued := false, sentLate := false, notLearnt := false, dtAccept := 0, dtFinal := 0, order := 1, conv := .at (plc 1000000 0),
  lateNo := none, ds := 0, tlat := 0, ds2 := 0, lead := 0, accBad := none, frame := none, reportDue := none }

def adt1 : BitVec 256 := BitVec.ofNat 256 (2 ^ 7 + 4 * 2 ^ 8 + 2 * 2 ^ 18)

def dpt2 : BitVec 512 := BitVec.ofNat 512 (1 + 100 * 2 ^ 96 + 5000 * 2 ^ 128)

def jrnA : TaskJrn := { taskId := 7, desc := List.replicate 64 0, dtDispatch := 0, strider := 0, phys := w0, replays := 0, pending := false, log := [], cursor := 0, recv := [], returned := 0 }

def queueA : Queue := { qen := true, prio := 0, size := 0, mode := false, entries := [⟨List.replicate 64 1, none⟩], refused := 0 }

/-- weir 0 enabled, channel 0 UP, actuator 1 and profile 2 configured; strider ⟨0,0⟩ runs task 7 with an ATX at X1 -/
@[irreducible] def weir : State :=
  let s := ((((cached.setFld (WEIR_CTL.EN 0) 1).setFld (WEIR_STAT.STATE 0) 1).setFld (FC_STAT.STATE 0) 3).setFld (FC_CTL.EN 0) 1).setFld (TIME_STAT.FINE_LOCK) 1
  let s := ((s.setAdtE 1 adt1).setDptE 2 dpt2).setBasin 0 { s.basin 0 with jrn := [jrnA], queues := [(0, queueA)] }
  let s := s.setStr w0 { s.str w0 with taskId := 7, x := [(1, 0xFFFFFD0000000100), (2, 0x1040), (3, 100), (4, 0x42), (5, 0x10000)] }
  (s.pmPut 0 0x100 atxA.bytes).setPmPoison 0 0 false

@[irreducible] def ordEnd : State := weir.setStr w0 { weir.str w0 with oord := 0xFFFFFFFF }

@[irreducible] def dupe : State := weir.setBasin 0 { weir.basin 0 with jrn := [{ jrnA with log := [⟨0, 1, 9⟩] }] }

/-- an ATX armed at weir 0 -/
@[irreducible] def armed : State := (weir.setWeir 0 { weir.weir 0 with recs := [recA] }).setChan 0 { weir.chan 0 with partner := some { tclass := 1, armedDepth := 8, nAct := 16, proc := 0, maxRec := 8, syncMax := 8, nSense := 0, caps := 0, psafe := 1, vendor := 0, product := 0, serial := 0, fwRev := 0, hello := [] } }

def hdrA : List Byte := leBytes 4 0x53500001 ++ leBytes 2 1 ++ List.replicate 58 0

/-- a state page at 0x1000 -/
@[irreducible] def page : State :=
  let s := (weir.setFld (L2_CTL.EN 0) 0).setFld (MC_STAT.STATE 0) 2
  let s := { s with dram := { s.dram with regions := [(0, ⟨true, 0, 0xFF, false, 0, 0, 0, true, 0, true, false, true⟩)] } }
  (s.performNt w0 { addr := 0x1000, data := hdrA.map some, dev := false }).2

@[irreducible] def asleep : State := { ready with pwr := { ready.pwr with phase := .asleep } }

/-- strider ⟨0,0⟩ waits -/
@[irreducible] def waits (w : Wait) : State := let s := { weir with time := { weir.time with dt := 1000000 } }
  s.setStr w0 { s.str w0 with run := .waiting w }

@[irreducible] def waitT : State := waits (.waitt 9 6)

@[irreducible] def waitA : State := (waits (.waita 0 9 9 6)).setFld (AX_STAT.STATE 0) 4

@[irreducible] def waitA2 : State := let s := (waits (.waita 0 9 9 6)).setFld (AX_STAT.STATE 0) 2
  s.setAxis 0 { s.axis 0 with maHeld := 100, meas := [] }

@[irreducible] def waitQ : State := waits (.waitq 0 9 6)

@[irreducible] def waitQ2 : State := (waits (.waitq 3 9 6))

@[irreducible] def waitQ4 : State := waitQ2.setStr w0 { waitQ2.str w0 with woken := true }

@[irreducible] def waitS : State := waits (.sleep 9)

@[irreducible] def waitE : State := let s := waits (.emit atxA 0 (adt1.setWidth 64) 9 1 6)
  s.setWeir 0 { s.weir 0 with waiters := [w0] }

@[irreducible] def waitP : State := let s := waits (.post 0 (List.replicate 64 0) 9 6)
  s.setBasin 0 { s.basin 0 with queues := [(0, { queueA with entries := List.replicate 16 ⟨[], none⟩ })] }

@[irreducible] def waitC : State := waits (.commit 0x10000 0x1040 9 6)

/-- a task waits in queue 0 of basin 0, in dispatch mode -/
@[irreducible] def dispatch : State :=
  let s := ((weir.setFld (DSP_CTL.EN 0) 1).setFld (BASIN_CTL.EN 0) 1).setStr w0 { weir.str w0 with run := .idle }
  let desc := leBytes 8 9 ++ leBytes 8 0xFFFFFD0000001000 ++ List.replicate 48 0
  s.setBasin 0 { s.basin 0 with jrn := [], queues := [(0, { queueA with mode := true, entries := [⟨desc, none⟩] })] }

@[irreducible] def redispatch : State := dispatch.setBasin 0 { dispatch.basin 0 with jrn := [{ jrnA with pending := true }] }

@[irreducible] def expired : State := runs.setStr w0 { runs.str w0 with limit := 0 }

@[irreducible] def retryEnd : State := waits (.taskEnd 5 0 9)

/-- records of weir 0 for the ends of transactions -/
@[irreducible] def recs (l : List XRec) : State :=
  let s := { armed with time := { armed.time with dt := 90000000 } }
  s.setWeir 0 { s.weir 0 with recs := l }

@[irreducible] def recHeld : State := recs [{ recA with conv := .held 5 }]

@[irreducible] def recLate : State := recs [recA]

@[irreducible] def recLate2 : State := (recs [recA]).setFld (WEIR_CTL.LATE 0) 2

@[irreducible] def recLate1 : State := (recs [recA]).setFld (WEIR_CTL.LATE 0) 1

@[irreducible] def recDeliv : State := recs [{ recA with state := .delivered }]

@[irreducible] def recUnc : State := recs [{ recA with state := .unconfirmed }]

@[irreducible] def recFinal : State := recs [{ recA with state := .verified, reportDue := some 5, atx := { atxA with rqUse := true } }]

/-- the port on the actuator tables -/
@[irreducible] def tables : State := (weir.setFld ADT_CTL.EN 1).setFld ADT_SEL.INDEX 1

@[irreducible] def tables2 : State := (tables.setFld ADT_SEL.TBL 1).setFld ADT_SEL.INDEX 2

@[irreducible] def launches : State := let s := { armed with time := { armed.time with dt := 999500 } }
  s.setChan 0 { s.chan 0 with lastSync := some 999500, lastSafe := some 999500 }

/-- channel 0 in state k, its group locked, at a late DT -/
def fcBase (k : Nat) : State := let s := { weir with time := { weir.time with dt := 90000000 } }
  ((s.setFld (FC_STAT.STATE 0) k).setFld (FC_CTL.RESEND_TMO 0) 8).setGroup 0 true

@[irreducible] def fcs (k : Nat) (f : ChanSt → ChanSt) : State :=
  let s := fcBase k
  s.setChan 0 (f (armed.chan 0))

@[irreducible] def fcOff : State := (fcBase 0).setFld (FC_CTL.EN 0) 0

@[irreducible] def fcOff6 : State := (fcBase 6).setFld (FC_CTL.EN 0) 0

@[irreducible] def fcStop : State := (fcs 7 (fun c => { c with stopAt := some 9 }))

@[irreducible] def fcLink : State := (fcs 1 (fun c => { c with attempt := some 9, lastTx := 90000000 }))

@[irreducible] def fcRetrain : State := (fcs 4 (fun c => { c with attempt := some 9, inEpisode := true }))

@[irreducible] def fcRetry : State := (fcs 4 (fun c => { c with retryAt := some 9 }))

@[irreducible] def fcQuar : State := (fcs 5 (fun c => { c with quarAt := some 9 }))

@[irreducible] def fcHello : State := (fcs 2 (fun c => { c with attempt := some 9, inHello := true, partner := none }))

@[irreducible] def fcLast : State := fcRetrain.setFld (FC_STAT.RTR_TRY 0) 2

@[irreducible] def fcUp : State := fcs 3 (fun c => { c with lastSync := some 90000000, lastTx := 90000000, lastRx := 90000000 })

@[irreducible] def fcIdle : State := fcs 3 (fun c => { c with lastSync := some 90000000 })

@[irreducible] def fcNoW : State := fcUp.setFld (WEIR_CTL.EN 0) 0

@[irreducible] def fcSync : State := fcs 3 (fun c => { c with syncOpen := [(1, plc 80000000 0)] })

@[irreducible] def fcSense : State := fcs 3 (fun c => { c with senseQ := [⟨9, List.replicate 64 0⟩] })

def tf (q : BitVec 16) (k : Nat) : TxFrame := { seq := q, recs := [], sentAt := 9, resends := k }

@[irreducible] def fcUnack (k : Nat) : State := fcs 3 (fun c => { c with txNext := 3, unacked := [tf 1 k, tf 2 0], lastSync := some 90000000 })

@[irreducible] def fcResend : State := fcs 3 (fun c => { c with txNext := 3, unacked := [tf 1 0, tf 2 0], resend := [2], resendAt := 1, lastSync := some 90000000 })

@[irreducible] def fcCarry : State := fcs 3 (fun c => { c with carry := [tf 1 0], lastSync := some 90000000 })

@[irreducible] def fcNak : State := fcs 3 (fun c => { c with nakDue := true, lastSync := some 90000000 })

@[irreducible] def fcAck : State := fcs 3 (fun c => { c with ackDue := true, lastSync := some 90000000 })

@[irreducible] def fcOpen : State := fcs 3 (fun c => { c with txOpen := true })

def rejA : Reject := ⟨3, 0, 2, 0, 5, 0xFFFF, 9⟩

@[irreducible] def fcRej : State := fcs 3 (fun c => { c with rejects := [rejA] })

@[irreducible] def fcDown : State := fcs 6 (fun c => c)

@[irreducible] def fcSafe : State := fcUp.setFld SVC_STAT.SAFE 1

/-- a frame as the partner of channel 0 sends it -/
def rxFrame (t : Nat) (q : BitVec 16) (rcnt : Nat) (b : List Byte) : Frame :=
  let f := fcUp.mkFrame 0 t q rcnt false b
  { f with crc := frameCrc f }

def helloA : List Byte := [0x22, 0, 1, 1, 0, 0, 0, 0, 8, 0, 16, 0, 0, 0, 4, 3, 0, 0, 0, 5].map (BitVec.ofNat 8) ++ List.replicate 44 0

def syncA : List Byte := leBytes 4 0x12 ++ List.replicate 44 0

/-- time states -/
@[irreducible] def timeOff : State := ((((ready.setFld TIME_CTL.AON_CAL_EN 0).setFld TIME_CTL.EN 0).setFld TIME_CTL.LOAD 1).setFld DT_SET_LO.V 77)

@[irreducible] def timeOn : State := ((ready.setFld TIME_CTL.EN 1).setFld TIME_CTL.LOAD 0).setFld TIME_CTL.AON_CAL_EN 0

/-- a worker, device 1 at depth 1 -/
@[irreducible] def worker : State := (((((timeOn.setFld DEV_POS.ROLE 1).setFld DEV_POS.DEVICE 1).setFld DEV_POS.DEPTH 1).setFld FF_CTL.FF_EN 1).setFld (TIER_STAT.STATE 0) 3)

def ffPay (k : BitVec 16) (t2 t3 : Word) : FfPayload :=
  { kind := k, origin := 1, target := 0, exchSeq := 5, t1 := 3045000, t2 := t2, t3 := t3, fine1 := 2, fine2 := 1, fine3 := 3, corrUp := 0, corrDn := 0, asym := 0 }

/-- trackers and angle ports -/
def axBase : State := { (ready.setFld (AX_CTL.EN 0) 1).setFld (AX_CPR.CPR 0) 100 with time := { ready.time with dt := 900000000, tbclk := true, locked := true } }

@[irreducible] def axOff : State := axBase.setFld (AX_CTL.EN 0) 0

@[irreducible] def axRun : State := ((axBase.setFld (AX_STAT.STATE 0) 2).setFld (AP_CTL.EN 0) 1)

@[irreducible] def axFed : State := ((axRun.setFld (AX_CTL.SRCT 0) 1))

@[irreducible] def axLost : State := axFed.setAxis 0 { axFed.axis 0 with srcLostAt := some 5 }

@[irreducible] def apQuad : State := axOff.setFld (AP_CTL.EN 0) 1

@[irreducible] def apSsi : State := (apQuad.setFld (AP_CTL.MODE 0) 2).setFld (AP_CTL.SSI_BITS 0) 20 |>.setFld (AP_CTL.SSI_ST 0) 16

@[irreducible] def apSsiD : State := apSsi.setAport 0 { apSsi.aport 0 with deferred := true }

@[irreducible] def apSsiF : State := apSsi.setAport 0 { apSsi.aport 0 with frameAt := some (77, 3) }

/-- the CMP with page 1 keyed, DRAM at 0, job registers set for a tile of 8-byte lines -/
@[irreducible] def cmpS : State :=
  let s := (memory.setFld (MC_STAT.STATE 0) 2).setFld CMP_CTL.EN 1 |>.setFld CMP_CTL.LANE_EN 15 |>.setFld SEC_CTL.EN 1 |>.setFld (SEC_PG_STAT.STATE 1) Page.keyed |>.setFld (SEC_PG_OWN.USE 1) 63
  let s := s.setFld CMP_JOB_SRC_LO.SRC 0x10000 |>.setFld CMP_JOB_DST_LO.DST 0x40000 |>.setFld CMP_JOB_CFG.PAGE 1 |>.setFld CMP_JOB_CFG.PRED 7 |>.setFld CMP_JOB_CFG.TSEL 15 |>.setFld CMP_JOB_CFG.LB 8
  { s.setPond 0 { s.pond 0 with desc := s.pond 0 |>.desc.concat (136, ⟨0, 0x1FFF, 15⟩) } with dram := { s.dram with regions := [(0, ⟨true, 0, 0xFF, false, 0, 0, 0, true, 0, true, false, false⟩)] } }

@[irreducible] def cmpGo : State := { cmpS.setFld CMP_JOB_RES.BUSY 1 with cmp := { cmpS.cmp with job := some { op := 1, lane := 0, cfg := cmpS.jobRegs, image := none, use := 0 } } }

def lastWord : Word := 0x100 * 2 ^ 32

/-- ponds -/
@[irreducible] def pondAbsent : State := ready.setFld (POND_STAT.ROLE 0) 2

@[irreducible] def pondOff : State := (((ready.setFld (POND_CTL.EN 0) 0).setFld (PM_CTL.EN 0) 0).setFld (L2_CTL.EN 0) 0)

@[irreducible] def pondOn : State := (((ready.setFld (POND_CTL.EN 0) 1).setFld (PM_CTL.EN 0) 1).setFld (L2_CTL.EN 0) 1)

@[irreducible] def pondMaint : State := after (execL2Clean 0 2 pondOn)

@[irreducible] def pondMarch : State := after (execMarchStart 0 (pondOff.setFld (MARCH_CTL.PRESERVE 0) 1))

@[irreducible] def pondWay : State := pondOn.setPond 0 { pondOn.pond 0 with wayBusy := [3] }

@[irreducible] def pondLate : State := { pondOn with time := { pondOn.time with dt := 0x100000000 } }

@[irreducible] def pmOnly : State := (pondOn.setFld (POND_CTL.EN 0) 0)

@[irreducible] def dmaAsk : State := memory.setStr w0 { memory.str w0 with dmaBuf := [(0, 0x100), (1, 0x200), (2, 8)] }

@[irreducible] def dmaRuns : State := after (execDmaRequestSubmit w0 0 0x300 dmaAsk)

@[irreducible] def dmaWait : State := { dmaAsk.setStr w0 { dmaAsk.str w0 with run := .waiting (.dmaFull 0 9) } with time := { dmaAsk.time with dt := 1000000 } }

@[irreducible] def dmaFull : State := dmaAsk.setPond 0 { dmaAsk.pond 0 with dma0 := List.replicate 16 ⟨w0, [0x100, 0x200, 8, 0x300]⟩ }

/-- basin 0: a coherent region at 0, pond 0 with its L2; line 0x40 -/
@[irreducible] def ring0 : State :=
  let s := (pondOn.setFld (MC_STAT.STATE 0) 2).setFld (BASIN_CTL.EN 0) 1
  { s with dram := { s.dram with regions := [(0, ⟨true, 0, 0xFF, false, 0, 0, 0, true, 0, false, true, false⟩)] } }

def lineA : LineNo := 0x40

@[irreducible] def ringL (st : L2St) : State := ring0.setL2 0 0x40 { st := st, way := 0, data := zeros 64, poison := 0 }

def txnA (b : Busy) : HomeTxn := { busy := b, msg := { who := some 1, req := .gets, ticket := none }, answers := [], seq := 0 }

@[irreducible] def ringT (b : Busy) : State := ring0.setHome 0 0x40 { holders := 1, owner := true, alloc := 0, reserved := false, txn := some (txnA b), queue := [] }

@[irreducible] def ringF : State := ring0.setHome 0 (flushKey 5) { HomeLine.np with txn := some (txnA .f) }

def nackA : Nacked := { line := 0x40, msg := { who := some 0, req := .gets, ticket := some 1 }, ticket := 1, count := 0, since := 0, passed := 0 }

@[irreducible] def ringN : State := { ring0.setBasin 0 { ring0.basin 0 with nacked := [nackA] } with time := { ring0.time with dt := 1000000 } }

@[irreducible] def ringDown : State := ring0.setFld (BASIN_STAT.STATE 0) 3

@[irreducible] def ringM (m : RingMsg) (st : L2St) : State := (ringL st).setBasin 0 { ring0.basin 0 with flights := [{ dst := some 0, line := 0x40, msg := m, seq := 0 }] }

/-- memory channel 0 -/
@[irreducible] def mcOff : State := ready.setFld (MC_STAT.STATE 0) 5

@[irreducible] def mcOn : State := (((ready.setFld (MC_STAT.STATE 0) 2).setFld (MC_CTL.EN 0) 1).setFld (MC_RANK.PRESENT 0) 3).setFld (MC_CTL.SCRUB_EN 0) 1

@[irreducible] def mcStopped : State := mcOn.setFld (MC_CTL.EN 0) 0

@[irreducible] def mcTrains : State := (mcOn.setFld (MC_TRAIN.BUSY 0) 1)

@[irreducible] def mcRegion : State := { mcOn with dram := { mcOn.dram with regions := [(0, ⟨true, 0, 0, false, 0, 0, 0, true, 0, true, true, false⟩)] } }

@[irreducible] def mcFills : State := { mcRegion with dram := { mcRegion.dram with filling := some (1, 0), regions := [(1, ⟨false, 0, 0, false, 0, 0, 0, true, 0, true, true, false⟩)] } }

@[irreducible] def mcMig : State := (mcOn.setMc 0 { mcOn.mc 0 with mig := some (0, 2, 0x10000000) }).setFld PIN_STAT.LEVEL 0xFFFFF

/-- the service complex -/
@[irreducible] def svcAck (cls : Nat) : State := let s := { ready with time := { ready.time with dt := 90000000000 } }
  let b : FaultBit := if cls = 0 then Flt.TIME_AON_CAL_RANGE else Flt.DEV_REG_TMO
  let s := { (s.setFld b.fld 1).setFld SVC_FLTCTL.C_AUTO 1 |>.setFld SVC_FLTCTL.R_AUTO 1 with svc := { s.svc with acks := [⟨b.blk, b.inst, b.bit, cls, some 9⟩] } }
  let s := match ieOf b.blk b.inst with | some f => s.setFld f 15 | none => s
  match b.enFld with | some f => s.setFld f 1 | none => s

@[irreducible] def svcStand : State := ready.setFld SVC_STAT.STANDBY 1

@[irreducible] def pinsDown : State := ready.setFld PIN_STAT.LEVEL 0

@[irreducible] def svcPfw : State := { pinsDown with svc := { ready.svc with pfwAt := some 9 }, tree := { ready.tree with heldTail := some (List.replicate 32 (1 : Byte)) } }

@[irreducible] def svcSafe : State := ready.setFld SVC_STAT.SAFE 1

/-- security -/
@[irreducible] def secPg (k : Nat) : State := ((ready.setFld (SEC_PG_STAT.STATE 0) k).setFld (SEC_PG_CTL.EN 0) 1).setFld SEC_CTL.EN 1

@[irreducible] def secSys : State := ready.setFld (SEC_PG_CTL.KBASE 0) 1

@[irreducible] def sec7 : State := { ready with sec := { ready.sec with secret := List.replicate 7 1 } }

@[irreducible] def secRng : State := { ready.setFld SEC_RNG_CTL.EN 1 with sec := { ready.sec with rngReady := 3 } }

@[irreducible] def secBack : State := { ready with sec := { ready.sec with rngBack := some 9 }, time := { ready.time with dt := 90000000 } }

@[irreducible] def secSha : State := { ready.setFld SEC_SHA_CTL.BUSY 1 with sec := { ready.sec with shaMsg := [1, 2, 3] } }

/-- the host block -/
def pairA : QPair := { newPair 0x10000 0x20000 16 3 0 1 0 with sqTail := 3, cqTail := 5, cqHead := 2 }

@[irreducible] def hostQ : State := let s := { ready with time := { ready.time with dt := 90000000 } }
  s.setQpair 0 (some pairA)

@[irreducible] def hostCoal : State := hostQ.setQpair 0 (some { pairA with unsent := 2, ctime := 10 })

@[irreducible] def hostD3 : State := { hostQ with host := { hostQ.host with d3 := true } }

@[irreducible] def hostOff : State := (ready.setFld HOST_CTL.EN 0).setFld AQ_CFG.SIZE 16 |>.setFld AQ_BASE_LO.BASE 5

@[irreducible] def hostOn : State := (ready.setFld HOST_CTL.EN 1)

def cmdA : HostCmd := { sq := 0, order := 1, sqhd := 1, opcode := 0x1B, rbuf := false, ordered := false, target := 0, tag := 7, head := List.replicate 32 0, rlen := 0, raddr := 0, params := [], started := true, sent := [], wait := .none, devices := [], routed := false }

@[irreducible] def hostPend : State := { hostQ with host := { hostQ.host with msixOn := true, msixPend := [(0, true)], masked := [(0, true)] } }

@[irreducible] def starting : State := { ready with pwr := { ready.pwr with phase := .starting } }

def cmdP (op : Nat) (p : List Byte) : HostCmd := { cmdA with opcode := op, params := p ++ List.replicate (128 - p.length) 0, devices := [0], rbuf := true, rlen := 65536 }

@[irreducible] def hc (op : Nat) (p : List Byte) : State := { hostQ with host := { hostQ.host with accepted := [cmdP op p] } }

def bs (l : List Nat) : List Byte := l.map (BitVec.ofNat 8)

/-- tier port 1 of the coordinator in state k -/
def tpBase (k : Nat) : State := { ((ready.setFld (TIER_CTL.EN 1) 1).setFld (TIER_STAT.STATE 1) k).setFld (TIER_CTL.RESEND_TMO 1) 8 with time := { ready.time with dt := 90000000 } }

@[irreducible] def tps (k : Nat) (f : TierPort → TierPort) : State := (tpBase k).setTport 1 (f ((tpBase k).tport 1))

@[irreducible] def tpOff : State := (tpBase 0).setFld (TIER_CTL.EN 1) 0

@[irreducible] def tpDeep : State := { tpOff with tree := { tpOff.tree with depth := 2 } }

@[irreducible] def tpLink : State := tps 1 (fun p => { p with attempt := some 9 })

@[irreducible] def tpRetry : State := tps 1 (fun p => { p with retryAt := some 9 })

@[irreducible] def tpHello : State := tps 2 (fun p => { p with attempt := some 9, lock := true, newEpoch := 3, helloOk := true })

@[irreducible] def tpRetrain : State := (tps 4 (fun p => { p with attempt := some 9, episode := some 9, unacked := [⟨1, 5, [1], 9, 0⟩] }))

@[irreducible] def tpLast : State := tpRetrain.setFld (TIER_STAT.RTR_TRY 1) 2

@[irreducible] def tpUp : State := tps 3 (fun p => { p with lock := true, lastRx := 90000000, lastTx := 90000000 })

@[irreducible] def tpUnack (k : Nat) : State := tps 3 (fun p => { p with txNext := 3, unacked := [⟨1, 5, [1], 9, k⟩, ⟨2, 5, [1], 9, 0⟩] })

@[irreducible] def tpResend : State := tps 3 (fun p => { p with txNext := 3, unacked := [⟨1, 5, [1], 9, 0⟩, ⟨2, 5, [1], 9, 0⟩], resend := [2], resendAt := 1 })

@[irreducible] def tpMsg : State := tps 3 (fun p => { p with relay := [(5, leBytes 16 0x0103)] })

@[irreducible] def tpNak : State := tps 3 (fun p => { p with nakDue := true })

@[irreducible] def tpAck : State := tps 3 (fun p => { p with ackDue := true })

@[irreducible] def tpSafe : State := ((tps 3 (fun p => p)).setFld SVC_STAT.SAFE 1).setFld (TIER_CTL.SAFE_PROP 1) 1

@[irreducible] def tpRoute : State := (tps 3 (fun p => p)).setFld (TIER_ROUTE_LO.ROUTE 1) 4

@[irreducible] def tpProp : State := (tps 4 (fun p => p)).setFld (TIER_CTL.SAFE_PROP 1) 1

@[irreducible] def tpStaged : State := (tpOff.stage (TIER_ROUTE_LO.ROUTE 1) (some 4)).stage (TIER_ROUTE_LO.ROUTE 2) (some 4)

def tFrame (t : Nat) (q : BitVec 16) (r : BitVec 16) (ackv : Bool) (b : List Byte) : Frame :=
  let f : Frame := { tpUp.mkTier 1 t q r false b with ackv := ackv }
  { f with crc := frameCrc f }

def tHello : List Byte := bs [0x32, 0, 1, 1, 0, 0, 0, 3, 2, 0, 0, 0] ++ List.replicate 52 0

def tMsg (m fl : Nat) (n : Nat) : List Byte := bs [m, fl, 1, 0] ++ List.replicate 12 0 ++ List.replicate n 7

@[irreducible] def wkUp : State := { worker with tree := { worker.tree with num := 1, depth := 1 }, time := { worker.time with dt := 900000000000 } }

def cmdR : HostCmd := { cmdA with sent := [2], devices := [2] }

@[irreducible] def tpReply : State := { tpUp with host := { tpUp.host with accepted := [cmdR] } }

/-- power -/
def lateT (s : State) : State := { s with time := { s.time with dt := 900000000000 } }

@[irreducible] def pwReq (k : Nat) : State := let s := lateT ready
  { s with pwr := { s.pwr with request := k }, striders := [] }

@[irreducible] def pwSleepReq : State := let s := (pwReq 2)
  (upTo 8).foldl (fun s m => s.setFld (AP_CTL.EN m) 0) ((upTo 96).foldl (fun s n => s.setFld (FC_CTL.EN n) 0) s)

@[irreducible] def pwBusy : State := { runs with pwr := { runs.pwr with request := 1 } }

@[irreducible] def pwAuto : State := let s := (pwReq 0).setFld PWR_CTL.NAP_AUTO 1 |>.setFld PWR_STAT.DSTATE 1
  { s with pwr := { s.pwr with napSince := some 9 } }

@[irreducible] def pwAuto2 : State := { pwAuto with pwr := { pwAuto.pwr with napSince := some 900000000000 } }

@[irreducible] def pwNap : State := (pwReq 0).napEnter

@[irreducible] def pwEntry : State := { pwReq 0 with pwr := { ready.pwr with entryAt := some 9 } }

@[irreducible] def pwEntryHeld : State := pwEntry.setL2 0 0x40 { st := .m, way := 0, data := zeros 64, poison := 0 }

@[irreducible] def pwResume : State := { pwReq 0 with pwr := { ready.pwr with phase := .resuming } }

@[irreducible] def pwAsleep : State := { (pwReq 0).setFld PWR_WAKE_EN.EN 7 with pwr := { ready.pwr with phase := .asleep } }

@[irreducible] def pwWakeDt : State := pwAsleep.setFld PWR_WAKE_DT_LO.DT 5

@[irreducible] def pwHeld : State := { pwReq 0 with pwr := { ready.pwr with phase := .held } }

@[irreducible] def pwGate : State := (ready.setFld (POND_IDLE.PGATE 0) 1)

@[irreducible] def pwGated : State := let s := (pwGate.gatePond 0)
  { s.setStr w0 { s.str w0 with run := .waiting (.waitt 5000 6) } with time := { s.time with dt := 1 } }

@[irreducible] def avsUp : State := { lateT ready with pwr := { ready.pwr with raise := [(0, 2000)] } }

@[irreducible] def avsNak : State := { avsUp with pwr := { avsUp.pwr with nak := some 9 } }

@[irreducible] def avsVolt : State := { avsUp with pwr := { avsUp.pwr with voltAt := some 9 } }

@[irreducible] def hot : State := (List.range 16).foldl (fun s k => s.setFld (sensorFld k) 1960) ready

@[irreducible] def hotThr : State := hot.setFld THERM_STAT.THR 15

@[irreducible] def coolThr : State := ready.setFld THERM_STAT.THR 15

@[irreducible] def bootEnd : State := { ready.setFld BOOT_STAGE.STAGE 5 with pwr := { ready.pwr with phase := .starting } }

@[irreducible] def testing : State := { lateT ready with pwr := { ready.pwr with testAt := some 9 } }

def cfgA : StartCfg := ⟨0, false, 1, 1, 1, [], [], [], [], true, []⟩

def cfgF : StartCfg := { cfgA with fail := 0x42 }

@[irreducible] def page5 : State := page.setX w0 2 5

@[irreducible] def pageFull : State := page.setBasin 0 { page.basin 0 with queues := [(0, { queueA with entries := List.replicate 4096 ⟨[], none⟩ })] }

@[irreducible] def pageSpent : State := { page with svc := { page.svc with olUsed := 4194000 } }

def atxRsv : Atx := { atxA with rsv := 1 }

@[irreducible] def weirRsv : State := weir.pmPut 0 0x100 atxRsv.bytes

@[irreducible] def cmpLate : State := { cmpS with time := { cmpS.time with dt := 90000000 } }

@[irreducible] def hostNoDma : State := { hostQ with host := { hostQ.host with dmaBad := [(0x20000, 0x10000)] } }

@[irreducible] def cmpVerL : State := { cmpS.setFld CMP_JOB_RES.BUSY 1 with cmp := { cmpS.cmp with job := some { op := 3, lane := 0, cfg := { cmpS.jobRegs with src := 0x60000 }, image := none, use := 0 } } }

@[irreducible] def cmpRunL : State := { cmpS with cmp := { cmpS.cmp with busy := [(0, some ⟨w0, [0x60000, 0x800 + 8 * 2 ^ 32, 0x10000 + 2 ^ 24, lastWord]⟩)] } }

@[irreducible] def fcSyncDue : State := (fcUnack 0).setChan 0 { (fcUnack 0).chan 0 with lastSync := none }

@[irreducible] def weirWaited : State := weir.setWeir 0 { weir.weir 0 with waiters := [⟨0, 1⟩] }

@[irreducible] def weirRecv : State := weir.setBasin 0 { weir.basin 0 with jrn := [{ jrnA with recv := [(0, List.replicate 64 1)] }] }

@[irreducible] def weirTaken : State := weir.setBasin 0 { weir.basin 0 with queues := [(0, { queueA with entries := [⟨[], some 9⟩] })] }

@[irreducible] def trapping : State := memory.setStr w0 { memory.str w0 with fcsr := 7936 }

/-! ### Values the spec writes out -/

/-- The check value of R121 (05_field_channels.md). -/
theorem test_crc32c : crc32c (bs [0x31, 0x32, 0x33, 0x34, 0x35, 0x36, 0x37, 0x38, 0x39]) = 0xE3069283 := by decide +kernel

/-- The products under R227 (08_strider_arithmetic.md): the high half of −1 by −1, signed. -/
theorem test_mulh : ((after (exec (.mulh w0 pfx (fb 6 3 3 false)) runs)).str w0).xr 6 = 0 := by decide +kernel

theorem test_mulhu : ((after (exec (.mulhu w0 pfx (fb 6 3 3 false)) runs)).str w0).xr 6 = 0xFFFFFFFFFFFFFFFE := by decide +kernel

/-- Table 08-1, row −7 by 2, and the signed overflow of R228. -/
theorem test_div : ((after (exec (.div w0 pfx (fb 6 1 2 false)) ((runs.setX w0 1 (-7)).setX w0 2 2))).str w0).xr 6 = -3 := by decide +kernel

theorem test_rem_overflow :
    ((after (exec (.div w0 pfx (fb 6 4 3 false)) runs)).str w0).xr 6 = 0x8000000000000000 ∧
    ((after (exec (.rem w0 pfx (fb 6 4 3 false)) runs)).str w0).xr 6 = 0 := by decide +kernel

/-- Table 08-6: a product just below the smallest normal is not tiny under RNE and is under RTZ, where FTZ flushes it. -/
theorem test_tiny_rne : FFmt.s.fop ⟨0, false, false, false⟩ 2 0x3F7FFFFE 0x00800001 0 = some ⟨0x00800000, { nx := true }⟩ := by decide +kernel

theorem test_tiny_rtz : FFmt.s.fop ⟨1, true, false, false⟩ 2 0x3F7FFFFE 0x00800001 0 = some ⟨0, { uf := true, nx := true }⟩ := by decide +kernel

/-- The payload decoded by hand in Table 06-12: its units 0, 1 and 2,049 and the number of units that are zero. -/
theorem test_block_by_hand :
    ((decodeUnits (staticTable 0) 4096 (bs [0xE1, 0xC7, 0x5D, 0x33, 0xCB, 0x1C, 0x2C, 0x68, 0xE9, 0xAE, 0x99, 0xE5, 0x8E, 0x16, 0x34])).map
      (fun u => (u.getD 0 0, u.getD 1 0, u.getD 2049 0, (u.filter (· == 0)).length, u.length))) = some (1, 2, 0x10, 4093, 4096) := by decide +kernel

/-- Word 0x1800 of PXT (Table 09-13). -/
theorem test_microword :
    let w := 0x000000C50400000000000000000206A420000000
    MW.alu w = 3 ∧ MW.srcA w = 5 ∧ MW.srcB w = 1 ∧ MW.imm w = 4 ∧ MW.ufl w = true ∧ MW.ten w = true ∧ MW.tcond w = 5 ∧ MW.tcode w = 0x21 ∧
      MW.seq w = 0 ∧ MW.dest w = 0 ∧ MW.mem w = 0 ∧ MW.ipt w = false := by decide +kernel

/-- The address worked out below R346 (12_dram_and_data_protection.md): MC5 at 0x1_0000_0A40. -/
theorem test_region_map :
    (⟨true, 0x8000, 0x80FF, false, 3, 0, 0x800, true, 0, true, false, false⟩ : Region).map 0x01000005A40 = (5, 0x100000A40) := by decide +kernel

/-- Table 05-11, step 5: one exchange with a round trip of 640 ticks gives a latency of 3,600 ticks. -/
theorem test_latency : latFine [8 * (8 * 640)] 4 2100 = 8 * 3600 := by decide +kernel

/-- Table 03-5, first row: at 1,600 rpm the axis reaches 135° at DT 1,014,062,500. -/
def turning : State :=
  let m (t : Word) (rev : Int) : Meas := { ma := rev * 2 ^ 32 + 0x40000000, dt := t, fine := 0, vel := some ((2 ^ 32 : Nat) / 112500000) }
  let s := ((ready.setFld (AX_CTL.EN 2) 1).setFld (AX_CPR.CPR 2) 8192).setFld (AX_STAT.STATE 2) 2
  { s with time := { s.time with dt := 1000000000 } }.setAxis 2 { (s.axis 2) with meas := [m 1000000000 500, m 887500000 499], winCount := 2 }

theorem test_angle_to_time : turning.dtAt 2 (500 * 2 ^ 32 + 0x60000000) = .future (plc 1014062500 0) := by decide +kernel

/-! ### What WellFormed refuses -/

def frameA : Frame := ⟨1, 1, true, false, false, 0, 4, 0, 0, 0, 0, 0, 1, 0, List.replicate 4 0, 0⟩

theorem test_frame_wf : frameA.wf = true ∧ ({ frameA with len := 5 } : Frame).wf = false := by decide +kernel

theorem test_frame_ill_formed :
    (Instr.fcRxIdle 0 { frameA with len := 5 }).wf = false ∧ (Instr.tierRxAck 0 { frameA with payload := [] }).wf = false ∧
    (Instr.fcRxViolation 0 { frameA with len := 5 } false).wf = false ∧ (Instr.fcRxViolation 0 { frameA with len := 5 } true).wf = true := by decide +kernel

theorem test_lengths_ill_formed :
    (Instr.cxInstruction w0 pfx 5 (List.replicate 11 0)).wf = false ∧
    (Instr.ucwr 0 none 7 (List.replicate 63 none) 0 0).wf = false ∧
    (Instr.mcRetrainDone 0 (List.replicate 9 (0, 0))).wf = false ∧
    (Instr.hostArbRound ⟨[⟨0, some (List.replicate 63 0), none⟩], [], 0⟩).wf = false ∧
    (Instr.dpDataWrite []).wf = false ∧ (Instr.dpDataWrite (List.replicate 129 (15, 0))).wf = false ∧
    (Instr.dpDataRead 0 .none).wf = false ∧ (Instr.dpDataRead 129 .none).wf = false ∧
    (Instr.thermSample (List.replicate 15 0)).wf = false := by decide +kernel

theorem test_signature_ill_formed (sig : List Byte) (h : 65535 < sig.length) :
    (Instr.secSlot 0 sig).wf = false ∧ (Instr.secDbgunlock 0 sig).wf = false :=
  ⟨decide_eq_false (Nat.not_le.mpr h), decide_eq_false (Nat.not_le.mpr h)⟩

/-- A start that is well formed, and one that is not in each of its lists. -/
def startA : StartCfg := { cfgA with dimms := List.replicate 8 ⟨1, 1, 0, 0, 0, 0, false, 0, [7]⟩ }

theorem test_start_ill_formed :
    startA.wf = true ∧ (Instr.rstNRise 1 0 cfgA).wf = false ∧
    ({ startA with dimms := List.replicate 8 ⟨1, 1, 0, 0, 0, 0, false, 0, [1, 2, 3, 4, 5]⟩ } : StartCfg).wf = false ∧
    ({ startA with regions := List.replicate 65 ⟨0, 0, 0, 0⟩ } : StartCfg).wf = false ∧
    ({ startA with digests := [(0, List.replicate 31 0)] } : StartCfg).wf = false := by decide +kernel

/-- A payload above 512 bytes, whatever LEN says. -/
theorem test_long_frame_ill_formed : ({ frameA with len := 513, payload := List.replicate 513 0 } : Frame).wf = false := by decide +kernel

/-! ### Obligations with a hypothesis over the whole state -/

theorem witness_StepRunsTheFrontCommand : ({ State.reset with pending := [Instr.powerOn] } : State).pending = Instr.powerOn :: [] := rfl

theorem witness_EveryCommandAnswersAndPowerGates : asleep.powered = false := by decide +kernel

theorem witness_NapKept :
    (State.reset.napping = true → State.reset.anyRuns = false ∧ State.reset.bit SVC_STAT.SAFE = false) ∧
    (State.reset.pwr.napSince ≠ none → State.reset.bit PWR_CTL.NAP_AUTO = true ∧ State.reset.fld PWR_STAT.DSTATE = 1 ∧
      State.reset.napWhy = 0 ∧ State.reset.commandRuns = false) ∧ ∃ t, step State.reset = .next t :=
  ⟨fun h => absurd h (by decide +kernel), fun h => absurd rfl h, _, rfl⟩


/-! ### Witnesses of the hypotheses -/

theorem witness_EmptyQueueTicks :
    (∃ (s : State), s.pending = [] ∧ s.aonCarries = true ∧ s.pwr.phase ≠ Phase.resuming ∧ s.time.locked = true ∧ s.bit TIME_CTL.EN = true) ∧
    (∃ (s : State), s.pending = [] ∧ s.aonCarries = false) ∧
    (∃ (s : State), s.pending = [] ∧ (s.bit TIME_CTL.EN = false ∨ s.time.locked = false ∧ s.time.tbclk = false)) :=
  ⟨
    ⟨asleep, by decide +kernel⟩,
    ⟨ready, by decide +kernel⟩,
    ⟨ready.setFld TIME_CTL.EN 0, by decide +kernel⟩⟩

theorem witness_IntegerRegisterForms :
    ∃ (s : State) (w : StrId) (p : Pfx) (f : FmtB), s.issues w p ∧ p.plain :=
    ⟨runs, w0, pfx, fb 6 1 2 true, by unfold Sys2Proof.Machine.State.issues; decide +kernel, by unfold Sys2Proof.Pfx.plain; decide +kernel⟩

theorem witness_DivideGroup :
    (∃ (s : State) (w : StrId) (p : Pfx) (f : FmtB), s.issues w p ∧ p.plain ∧ let t := s.str w; let b := t.xr f.b; b = 0 ∧ pswH t.psw = false ∧
    t.sb = [] ∧ t.haltDue = false) ∧
    (∃ (s : State) (w : StrId) (p : Pfx) (f : FmtB), s.issues w p ∧ p.plain ∧ let t := s.str w; let b := t.xr f.b; b ≠ 0) ∧
    (∃ (s : State) (w : StrId) (p : Pfx) (f : FmtB), s.issues w p ∧ p.plain ∧ let t := s.str w; let a := t.xr f.a; let b := t.xr f.b; b ≠ 0 ∧ a
    = BitVec.intMin 64 ∧ b = -1) ∧
    (∃ (s : State) (w : StrId) (p : Pfx) (f : FmtB), s.issues w p ∧ p.plain ∧ let t := s.str w; let b := t.xr f.b; b = 0 ∧ pswH t.psw = false ∧
    t.sb = [] ∧ t.haltDue = false ∧ ∃ (k : ℕ), k < 4) :=
  ⟨
    ⟨runs, w0, pfx, fb 0 3 0 true, by unfold Sys2Proof.Machine.State.issues; decide +kernel, by unfold Sys2Proof.Pfx.plain; decide +kernel,
    by decide +kernel⟩,
    ⟨runs, w0, pfx, fb 6 1 2 true, by unfold Sys2Proof.Machine.State.issues; decide +kernel, by unfold Sys2Proof.Pfx.plain; decide +kernel,
    by decide +kernel⟩,
    ⟨runs, w0, pfx, fb 7 4 3 false, by unfold Sys2Proof.Machine.State.issues; decide +kernel, by unfold Sys2Proof.Pfx.plain; decide +kernel,
    by decide +kernel⟩,
    ⟨runs, w0, pfx, fb 0 3 0 true, by unfold Sys2Proof.Machine.State.issues; decide +kernel, by unfold Sys2Proof.Pfx.plain; decide +kernel,
    by decide +kernel, by decide +kernel, by decide +kernel, by decide +kernel, 0, by decide +kernel⟩⟩

theorem witness_CompareCountSelectConditions :
    (∃ (s : State) (w : StrId) (p : Pfx), s.issues w p ∧ p.plain ∧ ∃ (f : FmtB), f.d = 0 ∧ f.x = false) ∧
    (∃ (s : State) (w : StrId) (p : Pfx), s.issues w p ∧ p.plain ∧ ∃ (f : FmtB), f.b = 0 ∧ f.x = false) ∧
    (∃ (s : State) (w : StrId) (p : Pfx), s.issues w p ∧ p.plain ∧ ∃ (f : FmtC), f.c = 0 ∧ f.x ≠ 15#4) :=
  ⟨
    ⟨runs, w0, pfx, by unfold Sys2Proof.Machine.State.issues; decide +kernel, by unfold Sys2Proof.Pfx.plain; decide +kernel, fb 0 1 2 false,
    by decide +kernel⟩,
    ⟨runs, w0, pfx, by unfold Sys2Proof.Machine.State.issues; decide +kernel, by unfold Sys2Proof.Pfx.plain; decide +kernel, fb 6 1 0 false,
    by decide +kernel⟩,
    ⟨runs, w0, pfx, by unfold Sys2Proof.Machine.State.issues; decide +kernel, by unfold Sys2Proof.Pfx.plain; decide +kernel, fc 1 2 3 0 6,
    by decide +kernel⟩⟩

theorem witness_IntegerImmediateForms :
    (∃ (s : State) (w : StrId) (p : Pfx) (f : FmtI), s.issues w p ∧ p.nt = false ∧ f.x.toNat ≤ 1) ∧
    (∃ (s : State) (w : StrId) (p : Pfx) (f : FmtI), s.issues w p ∧ p.nt = false ∧
    let imm := if p.wide = true then f.imm else BitVec.signExtend 64 (BitVec.setWidth 32 f.imm); f.x.toNat ≤ 5 ∧ BitVec.toNat imm ≤ 63) ∧
    (∃ (s : State) (w : StrId) (p : Pfx) (f : FmtI), s.issues w p ∧ p.nt = false ∧ f.d = 0 ∧ f.x = 0) ∧
    (∃ (s : State) (w : StrId) (p : Pfx) (f : FmtI), s.issues w p ∧ p.nt = false ∧ f.a = 0 ∧ f.x = 0) :=
  ⟨
    ⟨runs, w0, pfx, fi 6 1 1 5, by unfold Sys2Proof.Machine.State.issues; decide +kernel, by decide +kernel⟩,
    ⟨runs, w0, pfx, fi 6 1 1 5, by unfold Sys2Proof.Machine.State.issues; decide +kernel, by decide +kernel⟩,
    ⟨runs, w0, pfx, fi 0 1 0 0, by unfold Sys2Proof.Machine.State.issues; decide +kernel, by decide +kernel⟩,
    ⟨runs, w0, pfx, fi 6 0 0 9223372043297226753, by unfold Sys2Proof.Machine.State.issues; decide +kernel, by decide +kernel⟩⟩

theorem witness_ControlFlow :
    (∃ (s : State) (w : StrId) (p : Pfx), s.issues w p ∧ p.bare ∧ ∃ (f : FmtA), f.x = 0) ∧
    (∃ (s : State) (w : StrId) (p : Pfx), s.issues w p ∧ p.bare ∧ let t := s.str w; let ld := pswLd t.psw; ld ≠ 0) ∧
    (∃ (s : State) (w : StrId) (p : Pfx), s.issues w p ∧ p.bare ∧ ∃ (f : FmtK), f.z = 0 ∧ f.cond ≠ 15#4) ∧
    (∃ (s : State) (w : StrId) (p : Pfx), s.issues w p ∧ p.bare ∧ let t := s.str w; let ld := pswLd t.psw; ∃ (f : FmtL), f.z = 0 ∧ f.len ≠ 0 ∧
    ld < 4) ∧
    (∃ (s : State) (w : StrId) (p : Pfx), s.issues w p ∧ p.bare ∧ let t := s.str w; let ld := pswLd t.psw; ∃ (f : FmtLI), f.len ≠ 0 ∧ ld < 4) :=
  ⟨
    ⟨runs, w0, pfx, by unfold Sys2Proof.Machine.State.issues; decide +kernel, by unfold Sys2Proof.Pfx.bare; decide +kernel, fa 2 0,
    by decide +kernel⟩,
    ⟨loops, w0, pfx, by unfold Sys2Proof.Machine.State.issues; decide +kernel, by unfold Sys2Proof.Pfx.bare; decide +kernel, by decide +kernel⟩,
    ⟨runs, w0, pfx, by unfold Sys2Proof.Machine.State.issues; decide +kernel, by unfold Sys2Proof.Pfx.bare; decide +kernel,
    { cond := 0, z := 0, disp := 32 }, by decide +kernel⟩,
    ⟨runs, w0, pfx, by unfold Sys2Proof.Machine.State.issues; decide +kernel, by unfold Sys2Proof.Pfx.bare; decide +kernel,
    { a := 0, z := 0, len := 16 }, by decide +kernel⟩,
    ⟨runs, w0, pfx, by unfold Sys2Proof.Machine.State.issues; decide +kernel, by unfold Sys2Proof.Pfx.bare; decide +kernel,
    { count := 0, len := 16 }, by decide +kernel⟩⟩

theorem witness_LoadsAndStores :
    (∃ (s : State) (w : StrId) (p : Pfx) (f : FmtM), s.issues w p ∧ p.wide = false ∧ f.x.toNat < 16 ∧ let t := s.str w; let base := t.xr f.a;
    let disp := BitVec.signExtend 64 f.disp; let u := f.x.getLsbD 3; let a := if u = true then base else base + disp;
    let n := 2 ^ (f.x.toNat % 4); ∃ (e : MemErr) (b : List Byte) (v : State), p.nt = false ∧ 2 ≤ f.x.toNat % 4 ∧ (u = true → f.d = f.a → f.d =
    0) ∧ (e = MemErr.devErr → BitVec.toNat a < devBase) ∧ (s.memError w (BitVec.toNat a) 0 true e).load w (BitVec.toNat a) n true = (MemRes.ok
    b, v)) ∧
    (∃ (s : State) (w : StrId) (p : Pfx) (f : FmtM), s.issues w p ∧ p.wide = false ∧ f.x.toNat < 16 ∧ let t := s.str w; let base := t.xr f.a;
    let disp := BitVec.signExtend 64 f.disp; let u := f.x.getLsbD 3; let a := if u = true then base else base + disp; ∃ (e : MemErr) (b : List
    Byte) (v : State), p.nt = false ∧ f.d.val % 2 = 0 ∧ f.x.toNat % 4 = 3 ∧ (u = true → f.d = f.a → f.d = 0) ∧ BitVec.toNat a % 8 = 0 ∧ (e =
    MemErr.devErr → BitVec.toNat a < devBase) ∧ (s.memError w (BitVec.toNat a) 0 true e).load w (BitVec.toNat a) 16 true = (MemRes.ok b, v)) ∧
    (∃ (s : State) (w : StrId) (p : Pfx) (f : FmtM), s.issues w p ∧ p.wide = false ∧ f.x.toNat < 16 ∧ let t := s.str w; let base := t.xr f.a;
    let disp := BitVec.signExtend 64 f.disp; let u := f.x.getLsbD 3; let a := if u = true then base else base + disp;
    let n := 2 ^ (f.x.toNat % 4); ∃ (v : State), f.x.getLsbD 2 = false ∧ s.store w (BitVec.toNat a) (leBytes n (BitVec.toNat (t.xr f.d))) p.nt
    true = (StRes.done none, v)) ∧
    (∃ (s : State) (w : StrId) (p : Pfx) (f : FmtM), s.issues w p ∧ p.wide = false ∧ f.x.toNat < 16 ∧ let t := s.str w; let base := t.xr f.a;
    let disp := BitVec.signExtend 64 f.disp; let u := f.x.getLsbD 3; let a := if u = true then base else base + disp;
    let n := 2 ^ (f.x.toNat % 4); ∃ (v : State), f.x.getLsbD 2 = false ∧ 2 ≤ f.x.toNat % 4 ∧ s.store w (BitVec.toNat a) (leBytes n (BitVec.toNat
    (t.fr f.d))) p.nt true = (StRes.done none, v)) ∧
    (∃ (s : State) (w : StrId) (p : Pfx) (f : FmtM), s.issues w p ∧ p.wide = false ∧ f.x.toNat < 16 ∧ let t := s.str w; let base := t.xr f.a;
    let disp := BitVec.signExtend 64 f.disp; let u := f.x.getLsbD 3; let a := if u = true then base else base + disp; ∃ (v : State), f.x.getLsbD
    2 = false ∧ f.d.val % 2 = 0 ∧ f.x.toNat % 4 = 3 ∧ BitVec.toNat a % 8 = 0 ∧ s.store w (BitVec.toNat a) (leBytes 8 (BitVec.toNat (t.xr f.d))
    ++ leBytes 8 (BitVec.toNat (t.xr (nextReg f.d)))) p.nt true = (StRes.done none, v)) :=
  ⟨
    ⟨memory, w0, pfx, fm 6 1 3 8, by unfold Sys2Proof.Machine.State.issues; decide +kernel, by decide +kernel, by decide +kernel, MemErr.none,
    memBytes ((memory.memError w0 (BitVec.toNat (if (fm 6 1 3 8).x.getLsbD 3 = true then (memory.str w0).xr (fm 6 1 3 8).a else (memory.str
    w0).xr (fm 6 1 3 8).a + BitVec.signExtend 64 (fm 6 1 3 8).disp)) 0 true MemErr.none).load w0 (BitVec.toNat (if (fm 6 1 3 8).x.getLsbD 3 =
    true then (memory.str w0).xr (fm 6 1 3 8).a else (memory.str w0).xr (fm 6 1 3 8).a + BitVec.signExtend 64 (fm 6 1 3 8).disp)) (2 ^ ((fm 6 1
    3 8).x.toNat % 4)) true).1, ((memory.memError w0 (BitVec.toNat (if (fm 6 1 3 8).x.getLsbD 3 = true then (memory.str w0).xr (fm 6 1 3 8).a
    else (memory.str w0).xr (fm 6 1 3 8).a + BitVec.signExtend 64 (fm 6 1 3 8).disp)) 0 true MemErr.none).load w0 (BitVec.toNat (if (fm 6 1 3
    8).x.getLsbD 3 = true then (memory.str w0).xr (fm 6 1 3 8).a else (memory.str w0).xr (fm 6 1 3 8).a + BitVec.signExtend 64 (fm 6 1 3
    8).disp)) (2 ^ ((fm 6 1 3 8).x.toNat % 4)) true).2, by decide +kernel⟩,
    ⟨memory, w0, pfx, fm 6 1 3 8, by unfold Sys2Proof.Machine.State.issues; decide +kernel, by decide +kernel, by decide +kernel, MemErr.none,
    memBytes ((memory.memError w0 (BitVec.toNat (if (fm 6 1 3 8).x.getLsbD 3 = true then (memory.str w0).xr (fm 6 1 3 8).a else (memory.str
    w0).xr (fm 6 1 3 8).a + BitVec.signExtend 64 (fm 6 1 3 8).disp)) 0 true MemErr.none).load w0 (BitVec.toNat (if (fm 6 1 3 8).x.getLsbD 3 =
    true then (memory.str w0).xr (fm 6 1 3 8).a else (memory.str w0).xr (fm 6 1 3 8).a + BitVec.signExtend 64 (fm 6 1 3 8).disp)) 16 true).1,
    ((memory.memError w0 (BitVec.toNat (if (fm 6 1 3 8).x.getLsbD 3 = true then (memory.str w0).xr (fm 6 1 3 8).a else (memory.str w0).xr (fm 6
    1 3 8).a + BitVec.signExtend 64 (fm 6 1 3 8).disp)) 0 true MemErr.none).load w0 (BitVec.toNat (if (fm 6 1 3 8).x.getLsbD 3 = true then
    (memory.str w0).xr (fm 6 1 3 8).a else (memory.str w0).xr (fm 6 1 3 8).a + BitVec.signExtend 64 (fm 6 1 3 8).disp)) 16 true).2,
    by decide +kernel⟩,
    ⟨memory, w0, pfx, fm 6 1 3 8, by unfold Sys2Proof.Machine.State.issues; decide +kernel, by decide +kernel, by decide +kernel, (memory.store
    w0 (BitVec.toNat (if (fm 6 1 3 8).x.getLsbD 3 = true then (memory.str w0).xr (fm 6 1 3 8).a else (memory.str w0).xr (fm 6 1 3 8).a +
    BitVec.signExtend 64 (fm 6 1 3 8).disp)) (leBytes (2 ^ ((fm 6 1 3 8).x.toNat % 4)) (BitVec.toNat ((memory.str w0).xr (fm 6 1 3 8).d)))
    pfx.nt true).2, by decide +kernel⟩,
    ⟨memory, w0, pfx, fm 6 1 3 8, by unfold Sys2Proof.Machine.State.issues; decide +kernel, by decide +kernel, by decide +kernel, (memory.store
    w0 (BitVec.toNat (if (fm 6 1 3 8).x.getLsbD 3 = true then (memory.str w0).xr (fm 6 1 3 8).a else (memory.str w0).xr (fm 6 1 3 8).a +
    BitVec.signExtend 64 (fm 6 1 3 8).disp)) (leBytes (2 ^ ((fm 6 1 3 8).x.toNat % 4)) (BitVec.toNat ((memory.str w0).fr (fm 6 1 3 8).d)))
    pfx.nt true).2, by decide +kernel⟩,
    ⟨memory, w0, pfx, fm 6 1 3 8, by unfold Sys2Proof.Machine.State.issues; decide +kernel, by decide +kernel, by decide +kernel, (memory.store
    w0 (BitVec.toNat (if (fm 6 1 3 8).x.getLsbD 3 = true then (memory.str w0).xr (fm 6 1 3 8).a else (memory.str w0).xr (fm 6 1 3 8).a +
    BitVec.signExtend 64 (fm 6 1 3 8).disp)) (leBytes 8 (BitVec.toNat ((memory.str w0).xr (fm 6 1 3 8).d)) ++ leBytes 8 (BitVec.toNat
    ((memory.str w0).xr (nextReg (fm 6 1 3 8).d)))) pfx.nt true).2, by decide +kernel⟩⟩

theorem witness_StoreImmediateAmoCmo :
    (∃ (s : State) (w : StrId) (p : Pfx), s.issues w p ∧ let t := s.str w; ∃ (f : FmtS) (v : State), f.x.toNat < 8 ∧ (p.wide = true → f.x.toNat
    % 4 = 3) ∧ ¬(p.rep = true ∧ p.nt = true ∧ p.wide = true) ∧ let base := t.xr f.a; let disp := BitVec.signExtend 64 f.disp;
    let u := f.x.getLsbD 2; let imm := if p.wide = true then f.imm else BitVec.signExtend 64 (BitVec.setWidth 32 f.imm); s.store w (BitVec.toNat
    (if u = true then base else base + disp)) (leBytes (2 ^ (f.x.toNat % 4)) (BitVec.toNat imm)) p.nt true = (StRes.done none, v)) ∧
    (∃ (s : State) (w : StrId) (p : Pfx), s.issues w p ∧ ∃ (f : FmtS), p.rep = true ∧ p.nt = true ∧ p.wide = true) ∧
    (∃ (s : State) (w : StrId) (p : Pfx), s.issues w p ∧ let t := s.str w; ∃ (f : FmtC) (e : MemErr) (b : List Byte) (v : State), p.plain ∧
    f.x.toNat < 8 ∧ (f.x = 7 ∨ f.c = 0) ∧ (s.memError w (BitVec.toNat (t.xr f.a)) 3 false e).amo w (BitVec.toNat (t.xr f.a)) f.x.toNat (t.xr
    f.b) (t.xr f.c) = (MemRes.ok b, v)) ∧
    (∃ (s : State) (w : StrId) (p : Pfx), s.issues w p ∧ ∃ (f : FmtA) (e : MemErr), p.bare ∧ f.x = 4 ∧ f.r = 0) :=
  ⟨
    ⟨memory, w0, pfx, by unfold Sys2Proof.Machine.State.issues; decide +kernel, fs 1 3 8 78187493520, (memory.store w0 (BitVec.toNat (if (fs 1 3
    8 78187493520).x.getLsbD 2 = true then (memory.str w0).xr (fs 1 3 8 78187493520).a else (memory.str w0).xr (fs 1 3 8 78187493520).a +
    BitVec.signExtend 64 (fs 1 3 8 78187493520).disp)) (leBytes (2 ^ ((fs 1 3 8 78187493520).x.toNat % 4)) (BitVec.toNat (if pfx.wide = true
    then (fs 1 3 8 78187493520).imm else BitVec.signExtend 64 (BitVec.setWidth 32 (fs 1 3 8 78187493520).imm)))) pfx.nt true).2,
    by decide +kernel⟩,
    ⟨memory, w0, { pWide with rep := true, nt := true }, by unfold Sys2Proof.Machine.State.issues; decide +kernel, fs 1 3 8 78187493520,
    by decide +kernel⟩,
    ⟨memory, w0, pfx, by unfold Sys2Proof.Machine.State.issues; decide +kernel, fc 6 1 2 0 1, MemErr.none, memBytes ((memory.memError w0
    (BitVec.toNat ((memory.str w0).xr (fc 6 1 2 0 1).a)) 3 false MemErr.none).amo w0 (BitVec.toNat ((memory.str w0).xr (fc 6 1 2 0 1).a)) (fc 6
    1 2 0 1).x.toNat ((memory.str w0).xr (fc 6 1 2 0 1).b) ((memory.str w0).xr (fc 6 1 2 0 1).c)).1, ((memory.memError w0 (BitVec.toNat
    ((memory.str w0).xr (fc 6 1 2 0 1).a)) 3 false MemErr.none).amo w0 (BitVec.toNat ((memory.str w0).xr (fc 6 1 2 0 1).a)) (fc 6 1 2 0
    1).x.toNat ((memory.str w0).xr (fc 6 1 2 0 1).b) ((memory.str w0).xr (fc 6 1 2 0 1).c)).2, by unfold Sys2Proof.Pfx.plain; decide +kernel,
    by decide +kernel⟩,
    ⟨memory, w0, pfx, by unfold Sys2Proof.Machine.State.issues; decide +kernel, fa 0 4, MemErr.none,
    by unfold Sys2Proof.Pfx.bare; decide +kernel, by decide +kernel⟩⟩

theorem witness_OwnPondMemoryAndForwarding :
    (∃ (s : State) (w : StrId) (a : ℕ) (off : ℕ) (n : ℕ), s.addrClass w a = AClass.own off ∧ 0 < n ∧ a % 64 + n ≤ 64 ∧ a < devBase ∧ s.pmAllowed
    (w.pond.val) (w.slot.val) off n 1#4 = true ∧ ∀ i < n, ((s.str w).bufByte (a + i)).isNone = true → s.pmPoisoned (w.pond.val) (off / 64 * 8 +
    (a + i) % 64 / 8) = false) ∧
    (∃ (s : State) (w : StrId) (a : ℕ) (off : ℕ) (n : ℕ), s.addrClass w a = AClass.own off ∧ 0 < n ∧ a % 64 + n ≤ 64 ∧ a < devBase ∧ ∃ (b : List
    Byte), b.length = n ∧ s.pmAllowed (w.pond.val) (w.slot.val) off n 2#4 = true ∧ (s.str w).cb = [] ∧ (s.str w).sb.length < 8) ∧
    (∃ (s : State) (w : StrId) (a : ℕ) (off : ℕ) (n : ℕ), s.addrClass w a = AClass.own off ∧ 0 < n ∧ a % 64 + n ≤ 64 ∧ a < devBase ∧ ∃ (x : ℕ)
    (b : Word) (c : Word), a % 8 = 0 ∧ n = 8 ∧ s.pmAllowed (w.pond.val) (w.slot.val) off 8 11#4 = true ∧ (s.str w).sb = [] ∧ (s.str w).cb = [] ∧
    s.pmPoisoned (w.pond.val) (off / 8) = false) ∧
    (∃ (s : State) (w : StrId) (a : ℕ) (off : ℕ) (b : List Byte), s.addrClass w a = AClass.own off ∧ 0 < b.length ∧ a % 64 + b.length ≤ 64 ∧ a <
    devBase ∧ s.pmAllowed (w.pond.val) (w.slot.val) off b.length 1#4 = true ∧ s.pmAllowed (w.pond.val) (w.slot.val) off b.length 2#4 = true ∧
    (s.str w).cb = [] ∧ (s.str w).sb.length < 8) :=
  ⟨
    ⟨memory, w0, 18446740775174668544, 256, 8, by decide +kernel⟩,
    ⟨memory, w0, 18446740775174668544, 256, 8, by decide +kernel, by decide +kernel, by decide +kernel, by decide +kernel, [1, 2, 3, 4, 5, 6, 7,
    8], by decide +kernel⟩,
    ⟨memory, w0, 18446740775174668544, 256, 8, by decide +kernel, by decide +kernel, by decide +kernel, by decide +kernel, 18446740775174668544,
    5, 5, by decide +kernel⟩,
    ⟨memory, w0, 18446740775174668544, 256, [1, 2, 3, 4, 5, 6, 7, 8], by decide +kernel⟩⟩

theorem witness_FloatInstructionsAndSigns_1 :
    (∃ (s : State) (w : StrId) (p : Pfx), s.issues w p ∧ p.plain ∧ let t := s.str w; let ctl := fctl t.fcsr;
    let enabled := fun (fl : FFlags) => fl.bits % 32 &&& BitVec.toNat t.fcsr / 2 ^ 8 % 32 ≠ 0; ∃ (f : FmtC) (r : FRes), badFop f = false ∧
    FFmt.s.fop ctl f.x.toNat (BitVec.toNat (t.fr f.a) % 2 ^ 32) (BitVec.toNat (t.fr f.b) % 2 ^ 32) (BitVec.toNat (t.fr f.c) % 2 ^ 32) = some r ∧
    ¬enabled r.flags) ∧
    (∃ (s : State) (w : StrId) (p : Pfx), s.issues w p ∧ p.plain ∧ let t := s.str w; let ctl := fctl t.fcsr;
    let enabled := fun (fl : FFlags) => fl.bits % 32 &&& BitVec.toNat t.fcsr / 2 ^ 8 % 32 ≠ 0; ∃ (f : FmtC) (r : FRes), badFop f = false ∧
    FFmt.s.fop ctl f.x.toNat (BitVec.toNat (t.fr f.a) % 2 ^ 32) (BitVec.toNat (t.fr f.b) % 2 ^ 32) (BitVec.toNat (t.fr f.c) % 2 ^ 32) = some r ∧
    enabled r.flags) ∧
    (∃ (s : State) (w : StrId) (p : Pfx), s.issues w p ∧ p.plain ∧ let t := s.str w; let ctl := fctl t.fcsr;
    let enabled := fun (fl : FFlags) => fl.bits % 32 &&& BitVec.toNat t.fcsr / 2 ^ 8 % 32 ≠ 0; ∃ (f : FmtC) (r : FRes), badFop f = false ∧
    FFmt.d.fop ctl f.x.toNat (BitVec.toNat (t.fr f.a)) (BitVec.toNat (t.fr f.b)) (BitVec.toNat (t.fr f.c)) = some r ∧ ¬enabled r.flags) ∧
    (∃ (s : State) (w : StrId) (p : Pfx), s.issues w p ∧ p.plain ∧ let t := s.str w; let ctl := fctl t.fcsr;
    let enabled := fun (fl : FFlags) => fl.bits % 32 &&& BitVec.toNat t.fcsr / 2 ^ 8 % 32 ≠ 0; ∃ (f : FmtC) (r : FRes), badFop f = false ∧
    FFmt.d.fop ctl f.x.toNat (BitVec.toNat (t.fr f.a)) (BitVec.toNat (t.fr f.b)) (BitVec.toNat (t.fr f.c)) = some r ∧ enabled r.flags) ∧
    (∃ (s : State) (w : StrId) (p : Pfx), s.issues w p ∧ p.plain ∧ let t := s.str w; let ctl := fctl t.fcsr;
    let enabled := fun (fl : FFlags) => fl.bits % 32 &&& BitVec.toNat t.fcsr / 2 ^ 8 % 32 ≠ 0; ∃ (f : FmtB), f.d = 0 ∧
    let m := if f.x = true then FFmt.d else FFmt.s; let r := m.cmp ctl (fpBits m (t.fr f.a)) (fpBits m (t.fr f.b)); ¬enabled r.flags) ∧
    (∃ (s : State) (w : StrId) (p : Pfx), s.issues w p ∧ p.plain ∧ let t := s.str w; let ctl := fctl t.fcsr;
    let enabled := fun (fl : FFlags) => fl.bits % 32 &&& BitVec.toNat t.fcsr / 2 ^ 8 % 32 ≠ 0; ∃ (f : FmtB), f.d = 0 ∧
    let m := if f.x = true then FFmt.d else FFmt.s; let r := m.cmp ctl (fpBits m (t.fr f.a)) (fpBits m (t.fr f.b)); enabled r.flags) ∧
    (∃ (s : State) (w : StrId) (p : Pfx), s.issues w p ∧ p.plain ∧ let t := s.str w; let ctl := fctl t.fcsr;
    let enabled := fun (fl : FFlags) => fl.bits % 32 &&& BitVec.toNat t.fcsr / 2 ^ 8 % 32 ≠ 0; ∃ (f : FmtC) (r : FRes), f.x.toNat < 10 ∧ f.b = 0
    ∧ f.c = 0 ∧ fcvt ctl f.x.toNat (fcvtSource t f) = some r ∧ ¬enabled r.flags) ∧
    (∃ (s : State) (w : StrId) (p : Pfx), s.issues w p ∧ p.plain ∧ let t := s.str w; let ctl := fctl t.fcsr;
    let enabled := fun (fl : FFlags) => fl.bits % 32 &&& BitVec.toNat t.fcsr / 2 ^ 8 % 32 ≠ 0; ∃ (f : FmtC) (r : FRes), f.x.toNat < 10 ∧ f.b = 0
    ∧ f.c = 0 ∧ fcvt ctl f.x.toNat (fcvtSource t f) = some r ∧ enabled r.flags) :=
  ⟨
    ⟨memory, w0, pfx, by unfold Sys2Proof.Machine.State.issues; decide +kernel, by unfold Sys2Proof.Pfx.plain; decide +kernel, fc 6 2 2 0 0,
    (FFmt.s.fop (fctl (memory.str w0).fcsr) (fc 6 2 2 0 0).x.toNat (BitVec.toNat ((memory.str w0).fr (fc 6 2 2 0 0).a) % 2 ^ 32) (BitVec.toNat
    ((memory.str w0).fr (fc 6 2 2 0 0).b) % 2 ^ 32) (BitVec.toNat ((memory.str w0).fr (fc 6 2 2 0 0).c) % 2 ^ 32)).the, by decide +kernel⟩,
    ⟨trapping, w0, pfx, by unfold Sys2Proof.Machine.State.issues; decide +kernel, by unfold Sys2Proof.Pfx.plain; decide +kernel, fc 6 2 0 0 3,
    (FFmt.s.fop (fctl (trapping.str w0).fcsr) (fc 6 2 0 0 3).x.toNat (BitVec.toNat ((trapping.str w0).fr (fc 6 2 0 0 3).a) % 2 ^ 32)
    (BitVec.toNat ((trapping.str w0).fr (fc 6 2 0 0 3).b) % 2 ^ 32) (BitVec.toNat ((trapping.str w0).fr (fc 6 2 0 0 3).c) % 2 ^ 32)).the,
    by decide +kernel⟩,
    ⟨memory, w0, pfx, by unfold Sys2Proof.Machine.State.issues; decide +kernel, by unfold Sys2Proof.Pfx.plain; decide +kernel, fc 6 2 2 0 0,
    (FFmt.d.fop (fctl (memory.str w0).fcsr) (fc 6 2 2 0 0).x.toNat (BitVec.toNat ((memory.str w0).fr (fc 6 2 2 0 0).a)) (BitVec.toNat
    ((memory.str w0).fr (fc 6 2 2 0 0).b)) (BitVec.toNat ((memory.str w0).fr (fc 6 2 2 0 0).c))).the, by decide +kernel⟩,
    ⟨trapping, w0, pfx, by unfold Sys2Proof.Machine.State.issues; decide +kernel, by unfold Sys2Proof.Pfx.plain; decide +kernel, fc 6 2 0 0 3,
    (FFmt.d.fop (fctl (trapping.str w0).fcsr) (fc 6 2 0 0 3).x.toNat (BitVec.toNat ((trapping.str w0).fr (fc 6 2 0 0 3).a)) (BitVec.toNat
    ((trapping.str w0).fr (fc 6 2 0 0 3).b)) (BitVec.toNat ((trapping.str w0).fr (fc 6 2 0 0 3).c))).the, by decide +kernel⟩,
    ⟨memory, w0, pfx, by unfold Sys2Proof.Machine.State.issues; decide +kernel, by unfold Sys2Proof.Pfx.plain; decide +kernel, fb 0 2 3 true,
    by decide +kernel⟩,
    ⟨trapping, w0, pfx, by unfold Sys2Proof.Machine.State.issues; decide +kernel, by unfold Sys2Proof.Pfx.plain; decide +kernel, fb 0 2 3 true,
    by decide +kernel⟩,
    ⟨memory, w0, pfx, by unfold Sys2Proof.Machine.State.issues; decide +kernel, by unfold Sys2Proof.Pfx.plain; decide +kernel, fc 6 2 0 0 1,
    (fcvt (fctl (memory.str w0).fcsr) (fc 6 2 0 0 1).x.toNat (fcvtSource (memory.str w0) (fc 6 2 0 0 1))).the, by decide +kernel⟩,
    ⟨trapping, w0, pfx, by unfold Sys2Proof.Machine.State.issues; decide +kernel, by unfold Sys2Proof.Pfx.plain; decide +kernel, fc 6 2 0 0 9,
    (fcvt (fctl (trapping.str w0).fcsr) (fc 6 2 0 0 9).x.toNat (fcvtSource (trapping.str w0) (fc 6 2 0 0 9))).the, by decide +kernel⟩⟩

theorem witness_FloatInstructionsAndSigns_2 :
    (∃ (s : State) (w : StrId) (p : Pfx), s.issues w p ∧ p.plain ∧ ∃ (f : FmtC), f.b = 0 ∧ f.c = 0 ∧ f.x = 0) ∧
    (∃ (s : State) (w : StrId) (p : Pfx), s.issues w p ∧ p.plain ∧ ∃ (f : FmtC), f.b = 0 ∧ f.c = 0 ∧ f.x = 1) ∧
    (∃ (s : State) (w : StrId) (p : Pfx), s.issues w p ∧ p.plain ∧ ∃ (f : FmtC), f.b = 0 ∧ f.c = 0 ∧ f.x = 2) ∧
    (∃ (c : FCtl) (f : FFmt), (f = FFmt.s ∨ f = FFmt.d) ∧ ∃ (a : ℕ) (b : ℕ) (d : ℕ), a < 2 * f.signBit ∧ b < 2 * f.signBit ∧ d < 2 * f.signBit ∧
    ∃ x ≤ 3, ∃ (k : ℕ) (q : Bool), f.unpack a = FVal.nan k q) :=
  ⟨
    ⟨memory, w0, pfx, by unfold Sys2Proof.Machine.State.issues; decide +kernel, by unfold Sys2Proof.Pfx.plain; decide +kernel, fc 6 2 0 0 0,
    by decide +kernel⟩,
    ⟨memory, w0, pfx, by unfold Sys2Proof.Machine.State.issues; decide +kernel, by unfold Sys2Proof.Pfx.plain; decide +kernel, fc 6 2 0 0 1,
    by decide +kernel⟩,
    ⟨memory, w0, pfx, by unfold Sys2Proof.Machine.State.issues; decide +kernel, by unfold Sys2Proof.Pfx.plain; decide +kernel, fc 6 2 0 0 2,
    by decide +kernel⟩,
    ⟨{ rm := 0, ftz := false, daz := false, ufEn := false }, FFmt.s, by decide +kernel, 0x7F800001, 0, 0, by decide +kernel, by decide +kernel,
    by decide +kernel, 0, by decide +kernel, _, _, rfl⟩⟩

theorem witness_TrapsAndReturns_1 :
    (∃ (s : State) (w : StrId) (p : Pfx), s.issues w p ∧ p.bare ∧ let t := s.str w; pswH t.psw = true ∧ (pswUip (pswWrite t.psw t.tpsw) &&
    t.uc.any fun (u : UcSave) => u.addr == t.tpc) = false) ∧
    (∃ (s : State) (w : StrId) (p : Pfx), s.issues w p ∧ p.bare ∧ let t := s.str w; pswH t.psw = false) ∧
    (∃ (s : State) (u : State) (w : StrId) (cause : ℕ) (tval : Word) (tpc : Word), s.drainStores w = (true, u) ∧ let t := u.str w; pswH t.psw =
    false) ∧
    (∃ (s : State) (u : State) (w : StrId) (cause : ℕ) (tval : Word) (tpc : Word), s.drainStores w = (true, u) ∧ let t := u.str w; pswH t.psw =
    true) ∧
    (∃ (s : State) (u : State) (w : StrId) (cause : ℕ) (tval : Word) (tpc : Word), s.drainStores w = (true, u) ∧ let t := u.str w; t.haltDue =
    false) ∧
    (∃ (old : Word32) (v : Word32), ∃ i < 32, i ∉ [0, 1, 2, 3, 7, 8, 9, 10, 11]) ∧
    (∃ (old : Word32) (v : Word32) (i : ℕ), i ∈ [0, 1, 2, 3, 7, 11]) ∧
    (∃ (s : State) (w : StrId) (p : Pfx), s.issues w p ∧ p.bare ∧ let t := s.str w; pswH t.psw = true ∧ pswUip (pswWrite t.psw t.tpsw) = true ∧
    (t.uc.any fun (u : UcSave) => u.addr == t.tpc) = true) :=
  ⟨
    ⟨handles, w0, pfx, by unfold Sys2Proof.Machine.State.issues; decide +kernel, by unfold Sys2Proof.Pfx.bare; decide +kernel,
    by decide +kernel⟩,
    ⟨runs, w0, pfx, by unfold Sys2Proof.Machine.State.issues; decide +kernel, by unfold Sys2Proof.Pfx.bare; decide +kernel, by decide +kernel⟩,
    ⟨runs, runs, w0, 0, 5, 5, by decide +kernel⟩,
    ⟨handles, handles, w0, 0, 5, 5, by decide +kernel⟩,
    ⟨runs, runs, w0, 0, 5, 5, by decide +kernel⟩,
    ⟨1664, 1664, 6, by decide +kernel⟩,
    ⟨1664, 1664, 0, by decide +kernel⟩,
    ⟨resumes, w0, pfx, by unfold Sys2Proof.Machine.State.issues; decide +kernel, by unfold Sys2Proof.Pfx.bare; decide +kernel,
    by decide +kernel⟩⟩

theorem witness_TrapsAndReturns_2 :
    ∃ (s : State) (u : State) (w : StrId) (cause : ℕ) (tval : Word) (tpc : Word), s.drainStores w = (true, u) ∧ let t := u.str w; t.haltDue =
    true :=
    ⟨halting, halting, w0, 9, 5, 5, by decide +kernel⟩

theorem witness_BarriersAndDrains_1 :
    (∃ (s : State) (u : State) (w : StrId) (p : Pfx) (ok : Bool), s.issues w p ∧ p.bare ∧ s.drainStores w = (ok, u)) ∧
    (∃ (s : State) (u : State) (w : StrId) (p : Pfx) (ok : Bool), s.issues w p ∧ p.bare ∧ State.drainCb w 4 s = (ok, u)) ∧
    (∃ (s : State) (u : State) (w : StrId) (p : Pfx) (ok : Bool), s.issues w p ∧ p.bare ∧ State.drainDev w 8 s = (ok, u)) ∧
    (∃ (s : State) (u : State) (w : StrId) (p : Pfx) (ok : Bool), s.issues w p ∧ p.bare ∧ s.drainAll w = (ok, u)) ∧
    (∃ (s : State) (u : State) (w : StrId), s.drainAll w = (true, u)) ∧
    (∃ (s : State), s.powered = true ∧ ∃ (p : Fin 68) (k : Fin 17), (s.str { pond := p, slot := k }).run = Run.waiting Wait.csWord ∧ ∀ (j : Fin
    17), j ≠ k → (s.str { pond := p, slot := j }).run ≠ Run.waiting Wait.csWord) ∧
    (∃ (s : State), s.powered = true) ∧
    (∃ (s : State), s.powered = true ∧ ∃ (w : StrId) (x : MemErr) (e : BufEntry) (rest : List BufEntry) (v : State), (s.str w).sb = e :: rest ∧
    let m := s.memError w e.first 1 false x; (m.str w).sb = e :: rest ∧ m.performEntry w e = (true, v)) :=
  ⟨
    ⟨runs, runs, w0, pfx, (runs.drainStores w0).1, by unfold Sys2Proof.Machine.State.issues; decide +kernel,
    by unfold Sys2Proof.Pfx.bare; decide +kernel, by decide +kernel⟩,
    ⟨runs, runs, w0, pfx, (runs.drainStores w0).1, by unfold Sys2Proof.Machine.State.issues; decide +kernel,
    by unfold Sys2Proof.Pfx.bare; decide +kernel, by decide +kernel⟩,
    ⟨runs, runs, w0, pfx, (runs.drainStores w0).1, by unfold Sys2Proof.Machine.State.issues; decide +kernel,
    by unfold Sys2Proof.Pfx.bare; decide +kernel, by decide +kernel⟩,
    ⟨runs, runs, w0, pfx, (runs.drainStores w0).1, by unfold Sys2Proof.Machine.State.issues; decide +kernel,
    by unfold Sys2Proof.Pfx.bare; decide +kernel, by decide +kernel⟩,
    ⟨runs, runs, w0, by decide +kernel⟩,
    ⟨runs.setStr w0 ({ runs.str w0 with run := Run.waiting Wait.csWord }), by decide +kernel, 0, 0, by decide +kernel⟩,
    ⟨runs, by decide +kernel⟩,
    ⟨buffered, by decide +kernel, w0, MemErr.none, (buffered.str w0).sb.first, (buffered.str w0).sb.tail, ((buffered.memError w0 (buffered.str
    w0).sb.first.first 1 false MemErr.none).performEntry w0 (buffered.str w0).sb.first).2, by decide +kernel⟩⟩

theorem witness_BarriersAndDrains_2 :
    ∃ (s : State), s.powered = true ∧ ∃ (w : StrId) (i : Fin 4) (x : MemErr) (e : BufEntry) (v : State), (s.str w).cb[i.val]? = some e ∧
    let m := s.memError w e.first 1 false x; (m.str w).cb[i.val]? = some e ∧ m.performNt w e = (true, v) :=
    ⟨buffered, by decide +kernel, w0, 0, MemErr.none, ((buffered.str w0).cb[0]?).the, _, by decide +kernel, by decide +kernel, Prod.ext
    (by decide +kernel) rfl⟩

theorem witness_SystemRegisters :
    (∃ (s : State) (w : StrId) (p : Pfx), s.issues w p ∧ p.bare ∧ let t := s.str w; ∃ (f : FmtY), sysListed f.n.toNat = true ∧
    let n := f.n.toNat; let mayRead := pswH t.psw = true ∨ ¬(8 ≤ n ∧ n ≤ 11); mayRead) ∧
    (∃ (s : State) (w : StrId) (p : Pfx), s.issues w p ∧ p.bare ∧ let t := s.str w; ∃ (f : FmtY), sysListed f.n.toNat = true ∧
    let n := f.n.toNat; let mayRead := pswH t.psw = true ∨ ¬(8 ≤ n ∧ n ≤ 11); ¬mayRead) ∧
    (∃ (s : State) (w : StrId) (p : Pfx), s.issues w p ∧ p.bare ∧ let t := s.str w; ∃ (f : FmtY), sysListed f.n.toNat = true ∧
    let n := f.n.toNat; let mayWrite := n ≤ 3 ∨ 16 ≤ n ∧ n ≤ 27 ∨ n = 36 ∨ pswH t.psw = true ∧ (n = 4 ∨ n = 8 ∨ n = 9); mayWrite ∧ ¬(n = 1 ∧ 5 ≤
    BitVec.toNat (t.xr f.r) / 2 ^ 16 % 8)) ∧
    (∃ (s : State) (w : StrId) (p : Pfx), s.issues w p ∧ p.bare ∧ let t := s.str w; ∃ (f : FmtY), sysListed f.n.toNat = true ∧
    let n := f.n.toNat; n = 1 ∧ 5 ≤ BitVec.toNat (t.xr f.r) / 2 ^ 16 % 8) ∧
    (∃ (s : State) (w : StrId) (p : Pfx), s.issues w p ∧ p.bare ∧ let t := s.str w; ∃ (f : FmtY), sysListed f.n.toNat = true ∧
    let n := f.n.toNat; let mayWrite := n ≤ 3 ∨ 16 ≤ n ∧ n ≤ 27 ∨ n = 36 ∨ pswH t.psw = true ∧ (n = 4 ∨ n = 8 ∨ n = 9); ¬mayWrite) ∧
    (∃ (s : State) (w : StrId) (p : Pfx), s.issues w p ∧ p.bare ∧ ∃ (f : FmtA), f.x = 0) ∧
    (∃ (s : State) (w : StrId) (p : Pfx), s.issues w p ∧ p.bare ∧ ∃ (f : FmtA), f.x = 1) :=
  ⟨
    ⟨runs, w0, pfx, by unfold Sys2Proof.Machine.State.issues; decide +kernel, by unfold Sys2Proof.Pfx.bare; decide +kernel, { r := 1, n := 0 },
    by decide +kernel⟩,
    ⟨runs, w0, pfx, by unfold Sys2Proof.Machine.State.issues; decide +kernel, by unfold Sys2Proof.Pfx.bare; decide +kernel, { r := 1, n := 8 },
    by decide +kernel⟩,
    ⟨runs, w0, pfx, by unfold Sys2Proof.Machine.State.issues; decide +kernel, by unfold Sys2Proof.Pfx.bare; decide +kernel, { r := 1, n := 0 },
    by decide +kernel⟩,
    ⟨runs.setX w0 6 327680, w0, pfx, by unfold Sys2Proof.Machine.State.issues; decide +kernel, by unfold Sys2Proof.Pfx.bare; decide +kernel,
    { r := 6, n := 1 }, by decide +kernel⟩,
    ⟨runs, w0, pfx, by unfold Sys2Proof.Machine.State.issues; decide +kernel, by unfold Sys2Proof.Pfx.bare; decide +kernel, { r := 1, n := 4 },
    by decide +kernel⟩,
    ⟨runs, w0, pfx, by unfold Sys2Proof.Machine.State.issues; decide +kernel, by unfold Sys2Proof.Pfx.bare; decide +kernel, fa 3 0,
    by decide +kernel⟩,
    ⟨runs, w0, pfx, by unfold Sys2Proof.Machine.State.issues; decide +kernel, by unfold Sys2Proof.Pfx.bare; decide +kernel, fa 3 1,
    by decide +kernel⟩⟩

theorem witness_RepeatAndLoops :
    (∃ (s : State) (w : StrId) (next : Word) (task : Bool), let t := s.str w; t.rc ≠ 1) ∧
    (∃ (s : State) (w : StrId) (next : Word) (task : Bool), let t := s.str w; t.rc = 1 ∧ pswLd t.psw = 0) ∧
    (∃ (s : State) (w : StrId) (next : Word) (task : Bool), let t := s.str w; ∃ (p : Pfx) (f : FmtB), s.powered = true ∧ s.executes w = true ∧
    s.timeUp w = false ∧ (∀ n ≤ 15, s.fetchCheck w n = Fetch.ok) ∧ p.err = PipeErr.none ∧ p.plain ∧ p.rep = true ∧ t.rc = 0) ∧
    (∃ (s : State) (w : StrId) (next : Word), let t := s.str w; let k := pswLd t.psw - 1; pswLd t.psw = 0 ∨ t.ler k ≠ next) ∧
    (∃ (s : State) (w : StrId) (next : Word), let t := s.str w; let k := pswLd t.psw - 1; pswLd t.psw ≠ 0 ∧ t.ler k = next ∧ 1 < BitVec.toNat
    (t.lcr k)) ∧
    (∃ (s : State) (w : StrId) (next : Word), let t := s.str w; pswLd t.psw = 1 ∧ t.ler 0 = next ∧ BitVec.toNat (t.lcr 0) ≤ 1) ∧
    (∃ (s : State) (w : StrId) (next : Word), let t := s.str w; let k := pswLd t.psw - 1; 1 ≤ pswLd t.psw ∧ pswLd t.psw ≤ 4 ∧ t.ler k = next ∧
    BitVec.toNat (t.lcr k) ≤ 1) :=
  ⟨
    ⟨runs, w0, 18446740775174672387, true, by decide +kernel⟩,
    ⟨withStr ({ strRuns with rc := 1 }), w0, 18446740775174672387, true, by decide +kernel⟩,
    ⟨handles, w0, 18446740775174672387, true, pRep, fb 6 1 2 true, by decide +kernel, by decide +kernel, by decide +kernel, by decide +kernel,
    by decide +kernel, by unfold Sys2Proof.Pfx.plain; decide +kernel, by decide +kernel⟩,
    ⟨runs, w0, (runs.str w0).ler (pswLd (runs.str w0).psw - 1), by decide +kernel⟩,
    ⟨loops, w0, (loops.str w0).ler (pswLd (loops.str w0).psw - 1), by decide +kernel⟩,
    ⟨lastPass, w0, (lastPass.str w0).ler (pswLd (lastPass.str w0).psw - 1), by decide +kernel⟩,
    ⟨lastPass, w0, (lastPass.str w0).ler (pswLd (lastPass.str w0).psw - 1), by decide +kernel⟩⟩

theorem witness_IllegalFetchAndCustomer_1 :
    (∃ (s : State) (w : StrId) (p : Pfx), s.powered = true ∧ s.executes w = true ∧ s.timeUp w = false ∧ p.err = PipeErr.none ∧ (∀ n ≤ 15,
    s.fetchCheck w n = Fetch.ok) ∧ (p.rep = true ∨ p.nt = true ∨ p.wide = true)) ∧
    (∃ (s : State) (w : StrId) (p : Pfx), s.powered = true ∧ s.executes w = true ∧ s.timeUp w = false ∧ p.err = PipeErr.none ∧ (∀ n ≤ 15,
    s.fetchCheck w n = Fetch.ok) ∧ ∃ (f : FmtB), p.nt = true ∨ p.wide = true) ∧
    (∃ (s : State) (w : StrId) (p : Pfx), s.powered = true ∧ s.executes w = true ∧ s.timeUp w = false ∧ p.err = PipeErr.none ∧ (∀ n ≤ 15,
    s.fetchCheck w n = Fetch.ok) ∧ ∃ (f : FmtB), f.d ≠ 0 ∨ f.x = true) ∧
    (∃ (s : State) (w : StrId) (p : Pfx), s.powered = true ∧ s.executes w = true ∧ s.timeUp w = false ∧ p.err = PipeErr.none ∧ (∀ n ≤ 15,
    s.fetchCheck w n = Fetch.ok) ∧ ∃ (f : FmtC), f.x = 15#4) ∧
    (∃ (s : State) (w : StrId) (p : Pfx), s.powered = true ∧ s.executes w = true ∧ s.timeUp w = false ∧ p.err = PipeErr.none ∧ (∀ n ≤ 15,
    s.fetchCheck w n = Fetch.ok) ∧ ∃ (f : FmtM), 16 ≤ f.x.toNat) ∧
    (∃ (s : State) (w : StrId) (p : Pfx), s.powered = true ∧ s.executes w = true ∧ s.timeUp w = false ∧ p.err = PipeErr.none ∧ (∀ n ≤ 15,
    s.fetchCheck w n = Fetch.ok) ∧ ∃ (f : FmtC), 12 ≤ f.x.toNat) ∧
    (∃ (s : State) (w : StrId) (p : Pfx), s.powered = true ∧ s.executes w = true ∧ s.timeUp w = false ∧ p.err = PipeErr.none ∧ (∀ n ≤ 15,
    s.fetchCheck w n = Fetch.ok) ∧ ∃ (f : FmtY), sysListed f.n.toNat = false) ∧
    (∃ (s : State) (w : StrId) (p : Pfx), s.powered = true ∧ s.executes w = true ∧ s.timeUp w = false ∧ p.err = PipeErr.none ∧ ∃ (op : Byte), (∀
    n ≤ 15, s.fetchCheck w n = Fetch.ok) ∧ if cxPrefixed p = true then 63 < BitVec.toNat op else opcodeDefined (BitVec.toNat op) = false) :=
  ⟨
    ⟨customer, w0, pRep, by decide +kernel⟩,
    ⟨customer, w0, pNt, by decide +kernel, by decide +kernel, by decide +kernel, by decide +kernel, by decide +kernel, fb 6 1 2 true,
    by decide +kernel⟩,
    ⟨customer, w0, pfx, by decide +kernel, by decide +kernel, by decide +kernel, by decide +kernel, by decide +kernel, fb 6 1 2 true,
    by decide +kernel⟩,
    ⟨customer, w0, pfx, by decide +kernel, by decide +kernel, by decide +kernel, by decide +kernel, by decide +kernel, fc 6 2 0 0 15,
    by decide +kernel⟩,
    ⟨customer, w0, pfx, by decide +kernel, by decide +kernel, by decide +kernel, by decide +kernel, by decide +kernel, fm 7 1 16 8,
    by decide +kernel⟩,
    ⟨customer, w0, pfx, by decide +kernel, by decide +kernel, by decide +kernel, by decide +kernel, by decide +kernel, fc 6 2 0 0 15,
    by decide +kernel⟩,
    ⟨customer, w0, pfx, by decide +kernel, by decide +kernel, by decide +kernel, by decide +kernel, by decide +kernel, { r := 1, n := 5 },
    by decide +kernel⟩,
    ⟨customer, w0, pfx, by decide +kernel, by decide +kernel, by decide +kernel, by decide +kernel, 153, by decide +kernel⟩⟩

theorem witness_IllegalFetchAndCustomer_2 :
    (∃ (s : State) (w : StrId) (p : Pfx), s.powered = true ∧ s.executes w = true ∧ s.timeUp w = false ∧ p.err = PipeErr.none ∧ s.fetchCheck w 15
    = Fetch.ok) ∧
    (∃ (s : State) (w : StrId) (p : Pfx) (op : Fin 64) (ops : List Byte), s.issues w p ∧ p.plain ∧ let t := s.str w; let e := s.ucEntry op.val;
    let v := leNat (slice ops 0 2); let word := s.ucWord (DE.entry e); DE.valid e = true ∧ DE.format e = 2 ∧ (p.rep = true → DE.repok e = true)
    ∧ DE.use e = 14 ∧ DE.df e = false ∧ DE.sf e = false ∧ v / 2 ^ 15 % 2 ≤ DE.xmax e ∧ (s.pond w.pond.val).csBad.contains (DE.entry e) = false ∧
    List.find? (fun (u : UcSave) => u.ready && u.addr == t.pc) t.uc = none ∧ MW.codesOk word = true ∧ MW.seq word = 5 ∧ MW.alu word = 2 ∧
    MW.srcA word = 3 ∧ MW.srcB word = 4 ∧ MW.dest word = 1 ∧ MW.mem word = 0 ∧ MW.fmask word = 0 ∧ MW.ufl word = false ∧ MW.ten word = false) ∧
    (∃ (s : State) (w : StrId) (p : Pfx) (op : Fin 64) (ops : List Byte), s.issues w p ∧ p.plain ∧ let e := s.ucEntry op.val; DE.valid e =
    false) :=
  ⟨
    ⟨customer, w0, pfx, by decide +kernel⟩,
    ⟨customer, w0, pfx, 1, [38, 8, 0], by unfold Sys2Proof.Machine.State.issues; decide +kernel, by unfold Sys2Proof.Pfx.plain; decide +kernel,
    by decide +kernel⟩,
    ⟨customer, w0, pfx, 2, [38, 8, 0], by unfold Sys2Proof.Machine.State.issues; decide +kernel, by unfold Sys2Proof.Pfx.plain; decide +kernel,
    by decide +kernel⟩⟩

theorem witness_EmitOutcomes :
    (∃ (s : State) (d : State) (v : State) (w : StrId) (p : Pfx) (f : FmtB) (bytes : List Byte), s.issues w p ∧ p.bare ∧ f.b = 0 ∧ f.x = false ∧
    let t := s.str w; t.oord ≠ 4294967295 ∧ BitVec.toNat (t.xr f.a) % 8 = 0 ∧ s.drainAll w = (true, d) ∧ d.load w (BitVec.toNat (t.xr f.a)) 32
    false = (MemRes.ok bytes, v) ∧ ∃ (u : State), v.duplicate (basinOfStr w) (BitVec.setWidth 48 t.taskId) t.oord = (none, u) ∧
    let a := atxOf bytes; u.frontRefusal a ≠ 0) ∧
    (∃ (s : State) (d : State) (v : State) (w : StrId) (p : Pfx) (f : FmtB) (bytes : List Byte), s.issues w p ∧ p.bare ∧ f.b = 0 ∧ f.x = false ∧
    let t := s.str w; t.oord ≠ 4294967295 ∧ BitVec.toNat (t.xr f.a) % 8 = 0 ∧ s.drainAll w = (true, d) ∧ d.load w (BitVec.toNat (t.xr f.a)) 32
    false = (MemRes.ok bytes, v) ∧ ∃ (u : State), v.duplicate (basinOfStr w) (BitVec.setWidth 48 t.taskId) t.oord = (none, u) ∧
    let a := atxOf bytes; let e := u.adtE a.actIdx.toNat; let n := getE e ADT.CHAN; let low := BitVec.setWidth 64 e; u.frontRefusal a = 0 ∧
    u.weirRefusal n a low ≠ 0) ∧
    (∃ (s : State) (d : State) (v : State) (w : StrId) (p : Pfx) (f : FmtB) (bytes : List Byte), s.issues w p ∧ p.bare ∧ f.b = 0 ∧ f.x = false ∧
    let t := s.str w; t.oord ≠ 4294967295 ∧ BitVec.toNat (t.xr f.a) % 8 = 0 ∧ s.drainAll w = (true, d) ∧ d.load w (BitVec.toNat (t.xr f.a)) 32
    false = (MemRes.ok bytes, v) ∧ ∃ (u : State), v.duplicate (basinOfStr w) (BitVec.setWidth 48 t.taskId) t.oord = (none, u) ∧
    let a := atxOf bytes; let e := u.adtE a.actIdx.toNat; let n := getE e ADT.CHAN; let low := BitVec.setWidth 64 e; u.frontRefusal a = 0 ∧
    u.weirRefusal n a low = 0 ∧ u.waitRefusal n = 0 ∧ (u.weir n).waiters = []) ∧
    (∃ (s : State) (d : State) (v : State) (w : StrId) (p : Pfx) (f : FmtB) (bytes : List Byte), s.issues w p ∧ p.bare ∧ f.b = 0 ∧ f.x = false ∧
    let t := s.str w; t.oord ≠ 4294967295 ∧ BitVec.toNat (t.xr f.a) % 8 = 0 ∧ s.drainAll w = (true, d) ∧ d.load w (BitVec.toNat (t.xr f.a)) 32
    false = (MemRes.ok bytes, v) ∧ ∃ (u : State), v.duplicate (basinOfStr w) (BitVec.setWidth 48 t.taskId) t.oord = (none, u) ∧
    let a := atxOf bytes; let e := u.adtE a.actIdx.toNat; let n := getE e ADT.CHAN; let low := BitVec.setWidth 64 e; u.frontRefusal a = 0 ∧
    u.weirRefusal n a low = 0 ∧ (u.waitRefusal n ≠ 0 ∨ (u.weir n).waiters ≠ [])) :=
  ⟨
    ⟨weirRsv, weirRsv, weirRsv, w0, pfx, fb 6 1 0 false, memBytes (weirRsv.load w0 (BitVec.toNat ((weirRsv.str w0).xr (fb 6 1 0 false).a)) 32
    false).1, by unfold Sys2Proof.Machine.State.issues; decide +kernel, by unfold Sys2Proof.Pfx.bare; decide +kernel, by decide +kernel,
    by decide +kernel, by decide +kernel, by decide +kernel, by decide +kernel, by decide +kernel, (weirRsv.duplicate (basinOfStr w0)
    (BitVec.setWidth 48 (weirRsv.str w0).taskId) (weirRsv.str w0).oord).2, by decide +kernel⟩,
    ⟨weir.setFld (WEIR_CTL.EN 0) 0, weir.setFld (WEIR_CTL.EN 0) 0, weir.setFld (WEIR_CTL.EN 0) 0, w0, pfx, fb 6 1 0 false, memBytes
    ((weir.setFld (WEIR_CTL.EN 0) 0).load w0 (BitVec.toNat (((weir.setFld (WEIR_CTL.EN 0) 0).str w0).xr (fb 6 1 0 false).a)) 32 false).1,
    by unfold Sys2Proof.Machine.State.issues; decide +kernel, by unfold Sys2Proof.Pfx.bare; decide +kernel, by decide +kernel,
    by decide +kernel, by decide +kernel, by decide +kernel, by decide +kernel, by decide +kernel, ((weir.setFld (WEIR_CTL.EN 0) 0).duplicate
    (basinOfStr w0) (BitVec.setWidth 48 ((weir.setFld (WEIR_CTL.EN 0) 0).str w0).taskId) ((weir.setFld (WEIR_CTL.EN 0) 0).str w0).oord).2,
    by decide +kernel⟩,
    ⟨weir, weir, weir, w0, pfx, fb 6 1 0 false, memBytes (weir.load w0 (BitVec.toNat ((weir.str w0).xr (fb 6 1 0 false).a)) 32 false).1,
    by unfold Sys2Proof.Machine.State.issues; decide +kernel, by unfold Sys2Proof.Pfx.bare; decide +kernel, by decide +kernel,
    by decide +kernel, by decide +kernel, by decide +kernel, by decide +kernel, by decide +kernel, (weir.duplicate (basinOfStr w0)
    (BitVec.setWidth 48 (weir.str w0).taskId) (weir.str w0).oord).2, by decide +kernel⟩,
    ⟨weirWaited, weirWaited, weirWaited, w0, pfx, fb 6 1 0 false, memBytes (weirWaited.load w0 (BitVec.toNat ((weirWaited.str w0).xr (fb 6 1 0
    false).a)) 32 false).1, by unfold Sys2Proof.Machine.State.issues; decide +kernel, by unfold Sys2Proof.Pfx.bare; decide +kernel,
    by decide +kernel, by decide +kernel, by decide +kernel, by decide +kernel, by decide +kernel, by decide +kernel, (weirWaited.duplicate
    (basinOfStr w0) (BitVec.setWidth 48 (weirWaited.str w0).taskId) (weirWaited.str w0).oord).2, by decide +kernel⟩⟩

theorem witness_PostCommitOnceOnly_1 :
    (∃ (s : State) (y : State) (v : State) (u : State) (w : StrId) (p : Pfx) (f : FmtB) (bytes : List Byte) (r : Word), s.issues w p ∧ p.bare ∧
    f.x = false ∧ let t := s.str w; t.oord = 4294967295) ∧
    (∃ (s : State) (y : State) (v : State) (u : State) (w : StrId) (p : Pfx) (f : FmtB) (bytes : List Byte) (r : Word), s.issues w p ∧ p.bare ∧
    f.x = false ∧ let t := s.str w; t.oord = 4294967295 ∧ f.b = 0) ∧
    (∃ (s : State) (y : State) (v : State) (u : State) (w : StrId) (p : Pfx) (f : FmtB) (bytes : List Byte), s.issues w p ∧ p.bare ∧ f.x = false
    ∧ let t := s.str w; t.oord ≠ 4294967295 ∧ BitVec.toNat (t.xr f.a) % 8 = 0 ∧ s.drainAll w = (true, y) ∧ y.load w (BitVec.toNat (t.xr f.a)) 64
    false = (MemRes.ok bytes, v) ∧ v.duplicate (basinOfStr w) (BitVec.setWidth 48 t.taskId) t.oord = (none, u) ∧ let x := (u.str w).xr f.b;
    let b := u.deliverTo (BitVec.toNat x / 64 % 4); let q := BitVec.toNat x % 64; BitVec.toNat x < 256 ∧ u.taskPostCheck b q bytes = PostRes.ok) ∧
    (∃ (s : State) (y : State) (v : State) (u : State) (w : StrId) (p : Pfx) (f : FmtB) (bytes : List Byte), s.issues w p ∧ p.bare ∧ f.x = false
    ∧ let t := s.str w; t.oord ≠ 4294967295 ∧ BitVec.toNat (t.xr f.a) % 8 = 0 ∧ s.drainAll w = (true, y) ∧ y.load w (BitVec.toNat (t.xr f.a)) 64
    false = (MemRes.ok bytes, v) ∧ v.duplicate (basinOfStr w) (BitVec.setWidth 48 t.taskId) t.oord = (none, u) ∧ let x := (u.str w).xr f.b; 256
    ≤ BitVec.toNat x) ∧
    (∃ (s : State) (y : State) (v : State) (u : State) (w : StrId) (p : Pfx) (f : FmtB) (bytes : List Byte), s.issues w p ∧ p.bare ∧ f.x = false
    ∧ let t := s.str w; t.oord ≠ 4294967295 ∧ BitVec.toNat (t.xr f.a) % 8 = 0 ∧ s.drainAll w = (true, y) ∧ y.load w (BitVec.toNat (t.xr f.a)) 64
    false = (MemRes.ok bytes, v) ∧ v.duplicate (basinOfStr w) (BitVec.setWidth 48 t.taskId) t.oord = (none, u) ∧ let x := (u.str w).xr f.b;
    u.pageHeader w (BitVec.toNat x) = none) ∧
    (∃ (s : State) (y : State) (v : State) (u : State) (w : StrId) (p : Pfx) (f : FmtB) (bytes : List Byte), s.issues w p ∧ p.bare ∧ f.x = false
    ∧ let t := s.str w; t.oord ≠ 4294967295 ∧ BitVec.toNat (t.xr f.a) % 8 = 0 ∧ s.drainAll w = (true, y) ∧ y.load w (BitVec.toNat (t.xr f.a)) 64
    false = (MemRes.ok bytes, v) ∧ v.duplicate (basinOfStr w) (BitVec.setWidth 48 t.taskId) t.oord = (none, u) ∧ let x := (u.str w).xr f.b; ∃ (h
    : List Byte) (m : State) (h' : List Byte) (c : State), u.pageHeader w (BitVec.toNat x) = some h ∧ u.olReserve = false ∧ u.commitWrite w
    (BitVec.toNat x) bytes = (true, m) ∧ h' = headerAfter h (BitVec.setWidth 48 (u.str w).taskId) (u.str w).oord (BitVec.toNat x % 4096 / 64)
    m.dt ∧ m.commitWrite w (BitVec.toNat x / 4096 * 4096) h' = (true, c)) ∧
    (∃ (s : State) (y : State) (v : State) (u : State) (w : StrId) (p : Pfx) (f : FmtB) (bytes : List Byte), s.issues w p ∧ p.bare ∧ f.x = false
    ∧ let t := s.str w; t.oord ≠ 4294967295 ∧ BitVec.toNat (t.xr f.a) % 8 = 0 ∧ s.drainAll w = (true, y) ∧ y.load w (BitVec.toNat (t.xr f.a)) 64
    false = (MemRes.ok bytes, v) ∧ v.duplicate (basinOfStr w) (BitVec.setWidth 48 t.taskId) t.oord = (none, u) ∧ let x := (u.str w).xr f.b;
    let b := u.deliverTo (BitVec.toNat x / 64 % 4); let q := BitVec.toNat x % 64; BitVec.toNat x < 256 ∧ u.taskPostCheck b q bytes =
    PostRes.full) ∧
    (∃ (s : State) (y : State) (v : State) (u : State) (w : StrId) (p : Pfx) (f : FmtB) (bytes : List Byte) (r : Word), s.issues w p ∧ p.bare ∧
    f.x = false ∧ let t := s.str w; t.oord ≠ 4294967295 ∧ BitVec.toNat (t.xr f.a) % 8 = 0 ∧ s.drainAll w = (true, y) ∧ y.load w (BitVec.toNat
    (t.xr f.a)) 64 false = (MemRes.ok bytes, v) ∧ v.duplicate (basinOfStr w) (BitVec.setWidth 48 t.taskId) t.oord = (some r, u)) :=
  ⟨
    ⟨ordEnd, ordEnd, ordEnd, ordEnd, w0, pfx, fb 6 1 2 false, memBytes (ordEnd.load w0 (BitVec.toNat ((ordEnd.str w0).xr (fb 6 1 2 false).a)) 64
    false).1, 9, by unfold Sys2Proof.Machine.State.issues; decide +kernel, by unfold Sys2Proof.Pfx.bare; decide +kernel, by decide +kernel⟩,
    ⟨ordEnd, ordEnd, ordEnd, ordEnd, w0, pfx, fb 6 1 0 false, memBytes (ordEnd.load w0 (BitVec.toNat ((ordEnd.str w0).xr (fb 6 1 0 false).a)) 64
    false).1, 9, by unfold Sys2Proof.Machine.State.issues; decide +kernel, by unfold Sys2Proof.Pfx.bare; decide +kernel, by decide +kernel⟩,
    ⟨page, page, page, page, w0, pfx, fb 6 1 0 false, memBytes (page.load w0 (BitVec.toNat ((page.str w0).xr (fb 6 1 0 false).a)) 64 false).1,
    by unfold Sys2Proof.Machine.State.issues; decide +kernel, by unfold Sys2Proof.Pfx.bare; decide +kernel, by decide +kernel⟩,
    ⟨page, page, page, page, w0, pfx, fb 6 1 2 false, memBytes (page.load w0 (BitVec.toNat ((page.str w0).xr (fb 6 1 2 false).a)) 64 false).1,
    by unfold Sys2Proof.Machine.State.issues; decide +kernel, by unfold Sys2Proof.Pfx.bare; decide +kernel, by decide +kernel⟩,
    ⟨page, page, page, page, w0, pfx, fb 6 1 0 false, memBytes (page.load w0 (BitVec.toNat ((page.str w0).xr (fb 6 1 0 false).a)) 64 false).1,
    by unfold Sys2Proof.Machine.State.issues; decide +kernel, by unfold Sys2Proof.Pfx.bare; decide +kernel, by decide +kernel⟩,
    ⟨page, page, page, page, w0, pfx, fb 6 1 2 false, memBytes (page.load w0 (BitVec.toNat ((page.str w0).xr (fb 6 1 2 false).a)) 64 false).1,
    by unfold Sys2Proof.Machine.State.issues; decide +kernel, by unfold Sys2Proof.Pfx.bare; decide +kernel, by decide +kernel,
    by decide +kernel, by decide +kernel, by decide +kernel, by decide +kernel, by decide +kernel, (page.pageHeader w0 (BitVec.toNat ((page.str
    w0).xr (fb 6 1 2 false).b))).the, (page.commitWrite w0 (BitVec.toNat ((page.str w0).xr (fb 6 1 2 false).b)) (memBytes (page.load w0
    (BitVec.toNat ((page.str w0).xr (fb 6 1 2 false).a)) 64 false).1)).2, headerAfter (page.pageHeader w0 (BitVec.toNat ((page.str w0).xr (fb 6
    1 2 false).b))).the (BitVec.setWidth 48 (page.str w0).taskId) (page.str w0).oord (BitVec.toNat ((page.str w0).xr (fb 6 1 2 false).b) % 4096
    / 64) (page.commitWrite w0 (BitVec.toNat ((page.str w0).xr (fb 6 1 2 false).b)) (memBytes (page.load w0 (BitVec.toNat ((page.str w0).xr (fb
    6 1 2 false).a)) 64 false).1)).2.dt, ((page.commitWrite w0 (BitVec.toNat ((page.str w0).xr (fb 6 1 2 false).b)) (memBytes (page.load w0
    (BitVec.toNat ((page.str w0).xr (fb 6 1 2 false).a)) 64 false).1)).2.commitWrite w0 (BitVec.toNat ((page.str w0).xr (fb 6 1 2 false).b) /
    4096 * 4096) (headerAfter (page.pageHeader w0 (BitVec.toNat ((page.str w0).xr (fb 6 1 2 false).b))).the (BitVec.setWidth 48 (page.str
    w0).taskId) (page.str w0).oord (BitVec.toNat ((page.str w0).xr (fb 6 1 2 false).b) % 4096 / 64) (page.commitWrite w0 (BitVec.toNat
    ((page.str w0).xr (fb 6 1 2 false).b)) (memBytes (page.load w0 (BitVec.toNat ((page.str w0).xr (fb 6 1 2 false).a)) 64 false).1)).2.dt)).2,
    by decide +kernel⟩,
    ⟨pageFull, pageFull, pageFull, pageFull, w0, pfx, fb 6 1 0 false, memBytes (pageFull.load w0 (BitVec.toNat ((pageFull.str w0).xr (fb 6 1 0
    false).a)) 64 false).1, by unfold Sys2Proof.Machine.State.issues; decide +kernel, by unfold Sys2Proof.Pfx.bare; decide +kernel,
    by decide +kernel, by decide +kernel, by decide +kernel, by decide +kernel, by decide +kernel, by decide +kernel, by decide +kernel,
    by decide +kernel⟩,
    ⟨dupe, dupe, dupe, dupe, w0, pfx, fb 6 1 2 false, memBytes (dupe.load w0 (BitVec.toNat ((dupe.str w0).xr (fb 6 1 2 false).a)) 64 false).1,
    (dupe.duplicate (basinOfStr w0) (BitVec.setWidth 48 (dupe.str w0).taskId) (dupe.str w0).oord).1.the,
    by unfold Sys2Proof.Machine.State.issues; decide +kernel, by unfold Sys2Proof.Pfx.bare; decide +kernel, by decide +kernel⟩⟩

theorem witness_PostCommitOnceOnly_2 :
    (∃ (s : State) (y : State) (v : State) (u : State) (w : StrId) (p : Pfx) (f : FmtB) (bytes : List Byte), s.issues w p ∧ p.bare ∧ f.x = false
    ∧ let t := s.str w; t.oord ≠ 4294967295 ∧ BitVec.toNat (t.xr f.a) % 8 = 0 ∧ s.drainAll w = (true, y) ∧ y.load w (BitVec.toNat (t.xr f.a)) 64
    false = (MemRes.ok bytes, v) ∧ v.duplicate (basinOfStr w) (BitVec.setWidth 48 t.taskId) t.oord = (none, u) ∧ let x := (u.str w).xr f.b;
    let b := u.deliverTo (BitVec.toNat x / 64 % 4); let q := BitVec.toNat x % 64; BitVec.toNat x < 256 ∧ u.taskPostCheck b q bytes ≠ PostRes.ok
    ∧ u.taskPostCheck b q bytes ≠ PostRes.full) ∧
    (∃ (s : State) (y : State) (v : State) (u : State) (w : StrId) (p : Pfx) (f : FmtB) (bytes : List Byte), s.issues w p ∧ p.bare ∧ f.x = false
    ∧ let t := s.str w; t.oord ≠ 4294967295 ∧ BitVec.toNat (t.xr f.a) % 8 = 0 ∧ s.drainAll w = (true, y) ∧ y.load w (BitVec.toNat (t.xr f.a)) 64
    false = (MemRes.ok bytes, v) ∧ v.duplicate (basinOfStr w) (BitVec.setWidth 48 t.taskId) t.oord = (none, u) ∧ let x := (u.str w).xr f.b; ∃ (h
    : List Byte) (busy : Bool), u.pageHeader w (BitVec.toNat x) = some h ∧ u.olReserve = true) :=
  ⟨
    ⟨page5, page5, page5, page5, w0, pfx, fb 6 1 2 false, memBytes ((page5).load w0 (BitVec.toNat (((page5).str w0).xr (fb 6 1 2 false).a)) 64
    false).1, by unfold Sys2Proof.Machine.State.issues; decide +kernel, by unfold Sys2Proof.Pfx.bare; decide +kernel, by decide +kernel⟩,
    ⟨pageSpent, pageSpent, pageSpent, pageSpent, w0, pfx, fb 6 1 2 false, memBytes (pageSpent.load w0 (BitVec.toNat ((pageSpent.str w0).xr (fb 6
    1 2 false).a)) 64 false).1, by unfold Sys2Proof.Machine.State.issues; decide +kernel, by unfold Sys2Proof.Pfx.bare; decide +kernel,
    by decide +kernel, by decide +kernel, by decide +kernel, by decide +kernel, by decide +kernel, by decide +kernel, (pageSpent.pageHeader w0
    (BitVec.toNat ((pageSpent.str w0).xr (fb 6 1 2 false).b))).the, true, by decide +kernel⟩⟩

theorem witness_RecvAndWaits :
    (∃ (s : State) (u : State) (w : StrId) (p : Pfx), s.issues w p ∧ p.bare ∧ s.drainAll w = (true, u) ∧ ∃ (f : FmtB), f.b = 0 ∧ f.x = false) ∧
    (∃ (s : State) (u : State) (w : StrId) (p : Pfx), s.issues w p ∧ p.bare ∧ s.drainAll w = (true, u) ∧ ∃ (f : FmtC), f.x = 0) ∧
    (∃ (s : State) (u : State) (w : StrId) (p : Pfx), s.issues w p ∧ p.bare ∧ s.drainAll w = (true, u) ∧ ∃ (f : FmtA), f.x = 0) ∧
    (∃ (s : State) (w : StrId) (p : Pfx) (f : FmtB), s.issues w p ∧ p.bare ∧ f.x = false ∧ let t := s.str w; let b := basinOfStr w;
    let x := BitVec.toNat (t.xr f.b); let y := s.queue b (x % 64); ∃ (j : TaskJrn) (bytes : List Byte) (v : State), x / 64 = b ∧ y.qen = true ∧
    y.mode = false ∧ s.taskOf w = some j ∧ j.recv[j.returned]? = some (x % 64, bytes) ∧ BitVec.toNat (t.xr f.a) % 8 = 0 ∧ s.store w
    (BitVec.toNat (t.xr f.a)) bytes false false = (StRes.done none, v)) ∧
    (∃ (s : State) (w : StrId) (p : Pfx) (f : FmtB), s.issues w p ∧ p.bare ∧ f.x = false ∧ let t := s.str w; let b := basinOfStr w;
    let x := BitVec.toNat (t.xr f.b); let y := s.queue b (x % 64);
    let noneHeld := ∀ (j : TaskJrn), s.taskOf w = some j → ∀ (e : ℕ × List Byte), j.recv[j.returned]? = some e → e.1 ≠ x % 64; ∃ (pre : List
    QEntry) (post : List QEntry) (e : QEntry) (v : State), x / 64 = b ∧ y.qen = true ∧ y.mode = false ∧ noneHeld ∧ y.entries = pre ++ e :: post
    ∧ (∀ c ∈ pre, c.taken.isSome = true) ∧ e.taken = none ∧ BitVec.toNat (t.xr f.a) % 8 = 0 ∧ s.store w (BitVec.toNat (t.xr f.a)) e.bytes false
    false = (StRes.done none, v)) ∧
    (∃ (s : State) (w : StrId) (p : Pfx) (f : FmtB), s.issues w p ∧ p.bare ∧ f.x = false ∧ let t := s.str w; let b := basinOfStr w;
    let x := BitVec.toNat (t.xr f.b); let y := s.queue b (x % 64); ¬(x / 64 = b ∧ y.qen = true ∧ y.mode = false)) ∧
    (∃ (s : State) (w : StrId) (p : Pfx) (f : FmtB), s.issues w p ∧ p.bare ∧ f.x = false ∧ let t := s.str w; let b := basinOfStr w;
    let x := BitVec.toNat (t.xr f.b); let y := s.queue b (x % 64);
    let noneHeld := ∀ (j : TaskJrn), s.taskOf w = some j → ∀ (e : ℕ × List Byte), j.recv[j.returned]? = some e → e.1 ≠ x % 64; x / 64 = b ∧
    y.qen = true ∧ y.mode = false ∧ noneHeld ∧ ∀ e ∈ y.entries, e.taken.isSome = true) :=
  ⟨
    ⟨weir, weir, w0, pfx, by unfold Sys2Proof.Machine.State.issues; decide +kernel, by unfold Sys2Proof.Pfx.bare; decide +kernel,
    by decide +kernel, fb 6 1 0 false, by decide +kernel⟩,
    ⟨weir, weir, w0, pfx, by unfold Sys2Proof.Machine.State.issues; decide +kernel, by unfold Sys2Proof.Pfx.bare; decide +kernel,
    by decide +kernel, fc 6 2 0 0 0, by decide +kernel⟩,
    ⟨weir, weir, w0, pfx, by unfold Sys2Proof.Machine.State.issues; decide +kernel, by unfold Sys2Proof.Pfx.bare; decide +kernel,
    by decide +kernel, fa 0 0, by decide +kernel⟩,
    ⟨weirRecv, w0, pfx, fb 6 1 0 false, by unfold Sys2Proof.Machine.State.issues; decide +kernel, by unfold Sys2Proof.Pfx.bare; decide +kernel,
    by decide +kernel, (weirRecv.taskOf w0).the, (weirRecv.taskOf w0).the.recv[(weirRecv.taskOf w0).the.returned]?.the.2, (weirRecv.store w0
    (BitVec.toNat ((weirRecv.str w0).xr (fb 6 1 0 false).a)) (weirRecv.taskOf w0).the.recv[(weirRecv.taskOf w0).the.returned]?.the.2 false
    false).2, by decide +kernel⟩,
    ⟨weir, w0, pfx, fb 6 1 0 false, by unfold Sys2Proof.Machine.State.issues; decide +kernel, by unfold Sys2Proof.Pfx.bare; decide +kernel,
    by decide +kernel, [], [], (⟨List.replicate 64 1, none⟩ : QEntry), (weir.store w0 (BitVec.toNat ((weir.str w0).xr (fb 6 1 0 false).a))
    (List.replicate 64 1) false false).2, by decide +kernel⟩,
    ⟨weir, w0, pfx, fb 6 1 5 false, by unfold Sys2Proof.Machine.State.issues; decide +kernel, by unfold Sys2Proof.Pfx.bare; decide +kernel,
    by decide +kernel⟩,
    ⟨weirTaken, w0, pfx, fb 6 1 0 false, by unfold Sys2Proof.Machine.State.issues; decide +kernel, by unfold Sys2Proof.Pfx.bare; decide +kernel,
    by decide +kernel⟩⟩

theorem witness_WaitsAndOutputsEnd_1 :
    (∃ (s : State) (w : StrId), s.powered = true ∧ (s.eclkOn (basinOfStr w) = true ∨ s.napping = true) ∧ ∃ (target : Word) (d : RegNo), (s.str
    w).run = Run.waiting (Wait.waitt target d) ∧ dtGe s.dt target = true) ∧
    (∃ (s : State) (w : StrId), s.powered = true ∧ (s.eclkOn (basinOfStr w) = true ∨ s.napping = true) ∧ ∃ (a : ℕ) (target : Word) (dl : Word)
    (d : RegNo), (s.str w).run = Run.waiting (Wait.waita a target dl d) ∧ s.fld (AX_STAT.STATE a) = 2 ∧ s.maReached a target = true) ∧
    (∃ (s : State) (w : StrId), s.powered = true ∧ (s.eclkOn (basinOfStr w) = true ∨ s.napping = true) ∧ ∃ (a : ℕ) (target : Word) (dl : Word)
    (d : RegNo), (s.str w).run = Run.waiting (Wait.waita a target dl d) ∧ let gone := s.fld (AX_STAT.STATE a) = 0 ∨ s.fld (AX_STAT.STATE a) = 4;
    gone) ∧
    (∃ (s : State) (w : StrId), s.powered = true ∧ (s.eclkOn (basinOfStr w) = true ∨ s.napping = true) ∧ ∃ (a : ℕ) (target : Word) (dl : Word)
    (d : RegNo), (s.str w).run = Run.waiting (Wait.waita a target dl d) ∧ deadlinePassed s.dt dl = true) ∧
    (∃ (s : State) (w : StrId), s.powered = true ∧ (s.eclkOn (basinOfStr w) = true ∨ s.napping = true) ∧ ∃ (sel : Word) (dl : Word) (d : RegNo),
    (s.str w).run = Run.waiting (Wait.waitq sel dl d) ∧ (s.str w).woken = true) ∧
    (∃ (s : State) (w : StrId), s.powered = true ∧ (s.eclkOn (basinOfStr w) = true ∨ s.napping = true) ∧ ∃ (sel : Word) (dl : Word) (d : RegNo),
    (s.str w).run = Run.waiting (Wait.waitq sel dl d) ∧ let k := s.qsel w (BitVec.toNat sel); (s.str w).woken = false ∧ k = QSel.bad) ∧
    (∃ (s : State) (w : StrId), s.powered = true ∧ (s.eclkOn (basinOfStr w) = true ∨ s.napping = true) ∧ ∃ (sel : Word) (dl : Word) (d : RegNo),
    (s.str w).run = Run.waiting (Wait.waitq sel dl d) ∧ let k := s.qsel w (BitVec.toNat sel); (s.str w).woken = false ∧ k ≠ QSel.bad ∧
    s.qselReady w k = true) ∧
    (∃ (s : State) (w : StrId), s.powered = true ∧ (s.eclkOn (basinOfStr w) = true ∨ s.napping = true) ∧ ∃ (sel : Word) (dl : Word) (d : RegNo),
    (s.str w).run = Run.waiting (Wait.waitq sel dl d) ∧ let k := s.qsel w (BitVec.toNat sel); (s.str w).woken = false ∧ s.qselReady w k = false
    ∧ deadlinePassed s.dt dl = true) :=
  ⟨
    ⟨waitT, w0, by decide +kernel, by decide +kernel, 9, 6, by decide +kernel⟩,
    ⟨waitA2, w0, by decide +kernel, by decide +kernel, 0, 9, 9, 6, by decide +kernel⟩,
    ⟨waitA, w0, by decide +kernel, by decide +kernel, 0, 9, 9, 6, by decide +kernel⟩,
    ⟨waitA, w0, by decide +kernel, by decide +kernel, 0, 9, 9, 6, by decide +kernel⟩,
    ⟨waitQ4, w0, by decide +kernel, by decide +kernel, 3, 9, 6, by decide +kernel⟩,
    ⟨waitQ2, w0, by decide +kernel, by decide +kernel, 3, 9, 6, by decide +kernel⟩,
    ⟨waitQ, w0, by decide +kernel, by decide +kernel, 0, 9, 6, by decide +kernel⟩,
    ⟨waitQ2, w0, by decide +kernel, by decide +kernel, 3, 9, 6, by decide +kernel⟩⟩

theorem witness_WaitsAndOutputsEnd_2 :
    (∃ (s : State) (w : StrId), s.powered = true ∧ (s.eclkOn (basinOfStr w) = true ∨ s.napping = true) ∧ ∃ (wake : Word), (s.str w).run =
    Run.waiting (Wait.sleep wake) ∧ (deadlinePassed s.dt wake = true ∨ (s.str w).evlatch ≠ 0)) ∧
    (∃ (s : State) (w : StrId), s.powered = true ∧ (s.eclkOn (basinOfStr w) = true ∨ s.napping = true) ∧ ∃ (d : RegNo) (code : ℕ), s.napping =
    false ∧ s.isGated w.pond.val = false) ∧
    (∃ (s : State) (w : StrId) (d : RegNo) (since : Word), s.powered = true ∧ ∃ (n : Fin 96) (a : Atx) (low : Word) (code : ℕ) (rest : List
    StrId), (s.weir n.val).waiters = w :: rest ∧ (s.str w).run = Run.waiting (Wait.emit a (n.val) low since code d) ∧ s.weirRefusal (n.val) a
    low = 0 ∧ s.waitRefusal n.val = 0) ∧
    (∃ (s : State) (w : StrId) (d : RegNo) (since : Word), s.powered = true ∧ ∃ (n : ℕ) (a : Atx) (low : Word) (code : ℕ), (s.str w).run =
    Run.waiting (Wait.emit a n low since code d) ∧ elapsed s.dt since (30 * s.fld WEIRG_EMITWAIT.EMIT_WAIT_MAX) = true) ∧
    (∃ (s : State) (w : StrId) (d : RegNo) (since : Word), s.powered = true ∧ ∃ (x : ℕ) (bytes : List Byte), (s.str w).run = Run.waiting
    (Wait.post x bytes since d) ∧ elapsed s.dt since (usTicks 2) = true ∧ s.taskPostCheck (s.postTarget (BitVec.ofNat 64 x)).1 (s.postTarget
    (BitVec.ofNat 64 x)).2 bytes = PostRes.full) ∧
    (∃ (s : State) (w : StrId) (d : RegNo) (since : Word), s.powered = true ∧ ∃ (src : Word) (dst : Word), (s.str w).run = Run.waiting
    (Wait.commit src dst since d) ∧ elapsed s.dt since (usTicks 2) = true) :=
  ⟨
    ⟨waitS, w0, by decide +kernel, by decide +kernel, 9, by decide +kernel⟩,
    ⟨waitT, w0, by decide +kernel, by decide +kernel, 6, 0, by decide +kernel⟩,
    ⟨waitE, w0, 6, 9, by decide +kernel, 0, atxA, BitVec.setWidth 64 adt1, 1, (waitE.weir ↑0).waiters.tail, by decide +kernel⟩,
    ⟨waitE, w0, 6, 9, by decide +kernel, 0, atxA, BitVec.setWidth 64 adt1, 1, by decide +kernel⟩,
    ⟨waitP, w0, 6, 9, by decide +kernel, 0, List.replicate 64 0, by decide +kernel⟩,
    ⟨waitC, w0, 6, 9, by decide +kernel, 65536, 4160, by decide +kernel⟩⟩

theorem witness_TasksBeginAndEnd :
    (∃ (s : State) (w : StrId), s.powered = true ∧ ∃ (p : Pfx) (f : FmtA) (u : State), s.issues w p ∧ p.bare ∧ f.x = 0 ∧ s.drainAll w = (true,
    u)) ∧
    (∃ (s : State) (w : StrId), s.powered = true ∧ ∃ (code : BitVec 16) (reason : ℕ) (since : Word), ((s.retryEnds (basinOfStr w)).str w).run =
    Run.waiting (Wait.taskEnd code reason since)) ∧
    (∃ (s : State) (w : StrId), s.powered = true ∧ (s.str w).run = Run.running ∧ s.timeUp w = true) ∧
    (∃ (s : State) (w : StrId), s.powered = true ∧ ∃ (p : Pfx), s.executes w = true ∧ s.timeUp w = true) ∧
    (∃ (s : State) (w : StrId), s.powered = true ∧ ∃ (b : Fin 4) (q : Fin 64) (j : TaskJrn), s.napping = false ∧ basinOf w.pond.val = b.val ∧
    s.canTake w = true ∧ List.find? (s.replayFits w) (s.basin b.val).jrn = some j) ∧
    (∃ (s : State) (w : StrId), s.powered = true ∧ ∃ (b : Fin 4) (q : Fin 64) (e : QEntry) (rest : List QEntry), s.napping = false ∧ basinOf
    w.pond.val = b.val ∧ s.canTake w = true ∧ List.find? (s.replayFits w) (s.basin b.val).jrn = none ∧ s.headFits (b.val) (q.val) w = true ∧
    s.servedNext b.val q.val = true ∧ (s.queue b.val q.val).entries = e :: rest) ∧
    (∃ (old : StrSt) (desc : List Byte) (id : BitVec 48) (now : Word) (limit : ℕ) (r : RegNo), r ∉ [1, 2, 3, 31]) :=
  ⟨
    ⟨runs, w0, by decide +kernel, pfx, fa 6 0, (runs.drainAll w0).2, by unfold Sys2Proof.Machine.State.issues; decide +kernel,
    by unfold Sys2Proof.Pfx.bare; decide +kernel, by decide +kernel⟩,
    ⟨retryEnd, w0, by decide +kernel, 5, 0, 9, by decide +kernel⟩,
    ⟨expired, w0, by decide +kernel⟩,
    ⟨expired, w0, by decide +kernel, pfx, by decide +kernel⟩,
    ⟨redispatch, w0, by decide +kernel, 0, 0, (List.find? (redispatch.replayFits w0) (redispatch.basin ↑0).jrn).the, by decide +kernel⟩,
    ⟨dispatch, w0, by decide +kernel, 0, 0, (dispatch.queue ↑0 ↑0).entries.first, (dispatch.queue ↑0 ↑0).entries.tail, by decide +kernel⟩,
    ⟨strRuns, List.replicate 64 1, 7, 9, 0, 4, by decide +kernel⟩⟩

theorem witness_WeirLaunchesInOneFrame :
    ∃ (s : State) (n : Fin 96) (fine : Fin 8) (k : ℕ) (recs : List (ℕ × List Byte)) (u : State), s.powered = true ∧ s.fcAccepts n.val = true ∧
    s.bit TIME_STAT.FINE_LOCK = true ∧ s.urgentWaits n.val = false ∧ s.fld (WEIR_STAT.STATE n.val) ≠ 0 ∧
    let depth := match (s.chan n.val).partner with | none => 0 | some p => p.armedDepth; let seq := (s.chan n.val).txNext; s.packFrame (n.val)
    (plc s.dt fine.val) depth seq.toNat 64 (min k (s.recLimit n.val)) [] = (recs, u) ∧ recs ≠ [] :=
    ⟨launches, 0, 0, 3, (launches.packFrame (↑0) (plc launches.dt ↑0)
    (match (launches.chan ↑0).partner with | none => 0 | some p => p.armedDepth) (launches.chan ↑0).txNext.toNat 64 (min 3 (launches.recLimit
    ↑0)) []).1, (launches.packFrame (↑0) (plc launches.dt ↑0) (match (launches.chan ↑0).partner with | none => 0 | some p => p.armedDepth)
    (launches.chan ↑0).txNext.toNat 64 (min 3 (launches.recLimit ↑0)) []).2, by decide +kernel⟩

theorem witness_LaunchTimesAndDecision :
    (∃ (s : State) (n : ℕ) (id : ℕ) (seq : ℕ) (tL : Plc) (r : XRec) (p : Placement), s.recOf n id = some r ∧ r.state = XState.armed ∧ r.lateNo =
    none ∧ s.adtBad r.atx.actIdx.toNat = false ∧ s.dptBad r.profile = false ∧ s.placement n r = some p ∧ 0 < plcDiff tL p.dll) ∧
    (∃ (s : State) (n : ℕ) (id : ℕ) (seq : ℕ) (tL : Plc) (r : XRec) (p : Placement), s.recOf n id = some r ∧ r.state = XState.armed ∧ r.lateNo =
    none ∧ s.adtBad r.atx.actIdx.toNat = false ∧ s.dptBad r.profile = false ∧ s.placement n r = some p ∧ let lat := plcOf (s.lat n);
    let ds := if plcDiff tL (p.ds - lat) ≤ 0 then p.ds else tL + lat;
    let clash := conflicts (getE (s.adtE r.atx.actIdx.toNat) ADT.LAST_DS) (getE (s.dptE r.profile) DPT.MIN_GAP) ds; plcDiff tL p.dll ≤ 0 ∧ clash
    = false ∧ r.xid = none) :=
  ⟨
    ⟨armed, 0, 3, 0, plc 2000000 0, (armed.recOf 0 3).the, (armed.placement 0 (armed.recOf 0 3).the).the, by decide +kernel⟩,
    ⟨armed, 0, 3, 0, plc 999500 0, (armed.recOf 0 3).the, (armed.placement 0 (armed.recOf 0 3).the).the, by decide +kernel⟩⟩

theorem witness_TransactionEnds :
    (∃ (s : State) (n : ℕ) (id : ℕ) (r : XRec), s.recOf n id = some r ∧
    let policy := if r.atx.late = 0 then s.fld (WEIR_CTL.LATE n) else r.atx.late.toNat - 1; policy = 0) ∧
    (∃ (s : State) (n : ℕ) (id : ℕ) (r : XRec), s.recOf n id = some r ∧
    let policy := if r.atx.late = 0 then s.fld (WEIR_CTL.LATE n) else r.atx.late.toNat - 1; policy = 2) ∧
    (∃ (s : State) (n : ℕ) (id : ℕ) (r : XRec), s.recOf n id = some r ∧
    let policy := if r.atx.late = 0 then s.fld (WEIR_CTL.LATE n) else r.atx.late.toNat - 1; policy = 1) ∧
    (∃ (s : State) (n : ℕ) (id : ℕ) (r : XRec) (st : XState) (reason : ℕ), s.recOf n id = some r ∧ r.state.final = true) ∧
    (∃ (s : State) (n : Fin 96) (id : ℕ) (r : XRec), s.powered = true ∧ s.recOf (n.val) id = some r ∧ ∃ (p : Placement), r.state = XState.armed
    ∧ r.lateNo = none ∧ s.placement (n.val) r = some p ∧ 0 < plcDiff (plc s.dt 0) p.dll) ∧
    (∃ (s : State) (n : Fin 96) (id : ℕ) (r : XRec), s.powered = true ∧ s.recOf (n.val) id = some r ∧ 0 < plcDiff (plc s.dt 0) (s.verifyLimit
    (n.val) r) ∧ r.state = XState.delivered) ∧
    (∃ (s : State) (n : Fin 96) (id : ℕ) (r : XRec), s.powered = true ∧ s.recOf (n.val) id = some r ∧ 0 < plcDiff (plc s.dt 0) (s.verifyLimit
    (n.val) r) ∧ r.state = XState.unconfirmed) ∧
    (∃ (s : State) (n : Fin 96) (id : ℕ) (r : XRec), s.powered = true ∧ s.recOf (n.val) id = some r ∧ (s.weir n.val).recs = [r] ∧ r.state.final
    = true ∧ r.reportDue.isSome = true) :=
  ⟨
    ⟨recHeld, 0, 3, (recHeld.recOf 0 3).the, by decide +kernel⟩,
    ⟨recLate2, 0, 3, (recLate2.recOf 0 3).the, by decide +kernel⟩,
    ⟨recLate1, 0, 3, (recLate1.recOf 0 3).the, by decide +kernel⟩,
    ⟨recFinal, 0, 3, (recFinal.recOf 0 3).the, XState.verified, 0, by decide +kernel⟩,
    ⟨recLate, 0, 3, (recLate.recOf (↑0) 3).the, by decide +kernel, by decide +kernel, (recLate.placement (↑0) (recLate.recOf (↑0) 3).the).the,
    by decide +kernel⟩,
    ⟨recDeliv, 0, 3, (recDeliv.recOf (↑0) 3).the, by decide +kernel⟩,
    ⟨recUnc, 0, 3, (recUnc.recOf (↑0) 3).the, by decide +kernel⟩,
    ⟨recFinal, 0, 3, (recFinal.recOf (↑0) 3).the, by decide +kernel⟩⟩

theorem witness_WeirControlsAndSpeed_1 :
    (∃ (s : State), s.powered = true ∧ ∃ (n : Fin 96), s.bit (WEIR_CTL.EN n.val) = false ∧ s.bit WEIRG_CTL.EN = true) ∧
    (∃ (s : State), s.powered = true ∧ ∃ (n : Fin 96), s.bit (WEIR_CTL.EN n.val) = false ∧ s.bit WEIRG_CTL.EN = false) ∧
    (∃ (s : State), s.powered = true ∧ ∃ (n : Fin 96), s.bit (WEIR_CTL.EN n.val) = true) ∧
    (∃ (s : State), s.powered = true ∧ ∃ (rated : BitVec 16) (req : BitVec 16), rated.toNat = s.fld WEIRG_SPDREQ.RATED ∧ req ≠ 0 ∧ s.bit
    WEIRG_STAT.SPD_ACTIVE = false) ∧
    (∃ (s : State), s.powered = true ∧ ∃ (rated : BitVec 16) (req : BitVec 16), rated.toNat = s.fld WEIRG_SPDREQ.RATED ∧ req ≠ 0 ∧ s.bit
    WEIRG_STAT.SPD_ACTIVE = true) ∧
    (∃ (s : State), s.powered = true ∧ s.weirgPoint.weirs = []) ∧
    (∃ (s : State), s.powered = true ∧ ∃ (n : ℕ) (w : WeirSt) (x : ℤ), s.weirgPoint.weirs = [(n, w)] ∧ s.weirgPoint.slackOf n = some x) ∧
    (∃ (rated : ℕ) (rpm : ℕ), 0 < rated ∧ speedCode rated rpm < 15) :=
  ⟨
    ⟨weir.setFld WEIRG_CTL.EN 1, by decide +kernel, 5, by decide +kernel⟩,
    ⟨weir, by decide +kernel, 5, by decide +kernel⟩,
    ⟨weir, by decide +kernel, 0, by decide +kernel⟩,
    ⟨weir, by decide +kernel, 0, 100, by decide +kernel⟩,
    ⟨((weir.setFld WEIRG_CTL.EN 1).setFld WEIRG_SPDREQ.RATED 100).setFld WEIRG_STAT.SPD_ACTIVE 1, by decide +kernel, 100, 100,
    by decide +kernel⟩,
    ⟨weir, by decide +kernel⟩,
    ⟨armed, by decide +kernel, (List.first armed.weirgPoint.weirs).1, (List.first armed.weirgPoint.weirs).2, (armed.weirgPoint.slackOf
    (List.first armed.weirgPoint.weirs).1).the, by decide +kernel⟩,
    ⟨100, 100, by decide +kernel⟩⟩

theorem witness_WeirControlsAndSpeed_2 :
    ∃ (rated : ℕ) (rpm : ℕ), 0 < rated ∧ 1 < speedCode rated rpm :=
    ⟨100, 7, by decide +kernel⟩

theorem witness_ActuatorTables :
    (∃ (s : State), s.powered = true ∧ s.bit ADT_CTL.EN = true ∧ s.bit ADT_STAT.BUSY = false ∧ s.bit ADT_SEL.TBL = false ∧ s.fld ADT_MASK.MASK %
    256 = 255) ∧
    (∃ (s : State), s.powered = true ∧ s.bit ADT_CTL.EN = true ∧ s.bit ADT_STAT.BUSY = false ∧ s.bit ADT_SEL.TBL = true ∧ s.fld ADT_MASK.MASK %
    65536 = 65535) ∧
    (∃ (s : State), s.powered = true ∧ s.bit ADT_CTL.EN = true ∧ s.bit ADT_STAT.BUSY = false ∧ s.bit ADT_SEL.TBL = false ∧ s.fld ADT_MASK.MASK %
    256 = 0) ∧
    (∃ (s : State), s.powered = true ∧ s.bit ADT_CTL.EN = false) ∧
    (∃ (s : State), s.powered = true ∧ ∃ (v : Word32), s.bit ADT_SEL.TBL = false ∧ s.fld ADT_WIDX.WIDX < 8) ∧
    (∃ (s : State), s.powered = true ∧ ∃ (e : EccErr), s.bit ADT_CTL.SCRUB_EN = true ∧ s.fld ADT_SCRUB.POS < 4095 ∧ s.adt.scrubDpt = false ∧
    s.adt.adtPoison = []) :=
  ⟨
    ⟨weir, by decide +kernel⟩,
    ⟨tables2, by decide +kernel⟩,
    ⟨tables.setFld ADT_MASK.MASK 0, by decide +kernel⟩,
    ⟨tables.setFld ADT_CTL.EN 0, by decide +kernel⟩,
    ⟨tables.setFld ADT_CTL.EN 0, by decide +kernel, 5, by decide +kernel⟩,
    ⟨tables.setFld ADT_CTL.EN 0, by decide +kernel, EccErr.none, by decide +kernel⟩⟩

theorem witness_ChannelLinkUpAndFailure_1 :
    (∃ (s : State) (n : Fin 96), s.powered = true ∧ s.bit (FC_CTL.EN n.val) = false ∧ s.fcState n.val = 6) ∧
    (∃ (s : State) (n : Fin 96), s.powered = true ∧ s.bit (FC_CTL.EN n.val) = false ∧ s.fcState n.val ≠ 6) ∧
    (∃ (s : State) (n : Fin 96), s.powered = true ∧ (s.bit (FC_CTL.EN n.val) = true ∨ s.fcState n.val = 6) ∧ s.bit (WEIR_CTL.EN n.val) = true ∧
    s.fcState n.val ≠ 7) ∧
    (∃ (s : State) (n : Fin 96), s.powered = true ∧ (s.bit (FC_CTL.EN n.val) = true ∨ s.fcState n.val = 6) ∧ s.bit (WEIR_CTL.EN n.val) = false ∧
    s.fcState n.val ≠ 7) ∧
    (∃ (s : State) (n : Fin 96), s.powered = true ∧ ∃ (t : Word), (s.chan n.val).stopAt = some t ∧ s.fcState n.val = 7 ∧ elapsed s.dt t (usTicks
    1) = true) ∧
    (∃ (s : State) (n : Fin 96), s.powered = true ∧ s.groupLocked n.val = true ∧ (s.chan n.val).attempt.isSome = true ∧ (s.chan n.val).inHello =
    false ∧ s.fcState n.val = 1) ∧
    (∃ (s : State) (n : Fin 96), s.powered = true ∧ s.groupLocked n.val = true ∧ (s.chan n.val).attempt.isSome = true ∧ (s.chan n.val).inHello =
    false ∧ s.fcState n.val = 4) ∧
    (∃ (s : State) (n : Fin 96), s.powered = true ∧ s.fcState n.val = 3) :=
  ⟨
    ⟨fcOff6, 0, by decide +kernel⟩,
    ⟨fcOff, 0, by decide +kernel⟩,
    ⟨fcOff6, 0, by decide +kernel⟩,
    ⟨fcNoW, 0, by decide +kernel⟩,
    ⟨fcStop, 0, by decide +kernel, (fcStop.chan ↑0).stopAt.the, by decide +kernel⟩,
    ⟨fcLink, 0, by decide +kernel⟩,
    ⟨fcRetrain, 0, by decide +kernel⟩,
    ⟨fcUp, 0, by decide +kernel⟩⟩

theorem witness_ChannelLinkUpAndFailure_2 :
    (∃ (s : State) (n : Fin 96), s.powered = true ∧ ∃ (t : Word), (s.chan n.val).attempt = some t ∧ s.fcState n.val ≠ 5 ∧ elapsed s.dt t
    (usTicks 1000) = true) ∧
    (∃ (s : State) (n : Fin 96), s.powered = true ∧ ∃ (t : Word), (s.chan n.val).retryAt = some t ∧ (s.fcState n.val = 1 ∨ s.fcState n.val = 4)
    ∧ dtGe s.dt t = true ∧ (s.chan n.val).relock = false) ∧
    (∃ (s : State) (n : Fin 96), s.powered = true ∧ ∃ (t : Word), (s.chan n.val).quarAt = some t ∧ s.fcState n.val = 5 ∧ elapsed s.dt t (usTicks
    1000) = true) ∧
    (∃ (s : State) (n : Fin 96), s.powered = true ∧ (s.chan n.val).inHello = true ∧ (s.chan n.val).helloOk = false ∧ (s.chan n.val).lastHello =
    none ∧ (s.chan n.val).txOpen = false) ∧
    (∃ (s : State) (n : Fin 96), s.powered = true ∧ ∃ (g : Fin 12), ((upTo 8).any fun (i : ℕ) => s.bit (FC_CTL.EN (8 * g.val + i))) = true) ∧
    (∃ (s : State) (n : Fin 96), s.powered = true ∧ ∃ (g : Fin 12), Tab.get (fun (x : ℕ) => false) s.gplls g.val = true) ∧
    (∃ (s : State) (n : Fin 96), s.powered = true ∧ s.bit (FC_CTL.EN n.val) = true ∧ (s.fcState n.val = 3 ∨ s.fcState n.val = 5)) ∧
    (∃ (s : State) (n : ℕ), s.fcState n ≠ 5 ∧ (s.chan n).inEpisode = true ∧ 2 ≤ s.fld (FC_STAT.RTR_TRY n)) :=
  ⟨
    ⟨fcLink, 0, by decide +kernel, (fcLink.chan ↑0).attempt.the, by decide +kernel⟩,
    ⟨fcRetry, 0, by decide +kernel, (fcRetry.chan ↑0).retryAt.the, by decide +kernel⟩,
    ⟨fcQuar, 0, by decide +kernel, (fcQuar.chan ↑0).quarAt.the, by decide +kernel⟩,
    ⟨fcHello, 0, by decide +kernel⟩,
    ⟨fcStop, 0, by decide +kernel, 0, by decide +kernel⟩,
    ⟨fcOff, 0, by decide +kernel, 0, by decide +kernel⟩,
    ⟨fcQuar, 0, by decide +kernel⟩,
    ⟨fcLast, 0, by decide +kernel⟩⟩

theorem witness_ChannelLinkUpAndFailure_3 :
    (∃ (s : State) (n : ℕ), s.fcState n ≠ 5 ∧ (s.chan n).inEpisode = true ∧ s.fld (FC_STAT.RTR_TRY n) < 2) ∧
    (∃ (s : State) (n : ℕ), s.fcState n ≠ 5 ∧ (s.chan n).inEpisode = false) :=
  ⟨
    ⟨fcRetrain, 0, by decide +kernel⟩,
    ⟨fcOff, 0, by decide +kernel⟩⟩

theorem witness_FramesAndHelloReceived_1 :
    (∃ (s : State) (n : Fin 96) (f : Frame), s.powered = true ∧ s.fcState n.val = 3 ∧ frameGood f = true ∧ s.frameFault (n.val) f false = 0 ∧
    f.type = 0) ∧
    (∃ (s : State) (n : Fin 96) (f : Frame), s.powered = true ∧ s.fcState n.val = 3 ∧ frameGood f = true ∧ s.frameFault (n.val) f false = 0 ∧
    f.type = 3) ∧
    (∃ (s : State) (n : Fin 96) (f : Frame), s.powered = true ∧ s.fcState n.val = 3 ∧ frameGood f = true ∧ s.frameFault (n.val) f false = 0 ∧
    f.type = 4) ∧
    (∃ (s : State) (n : Fin 96) (f : Frame), s.powered = true ∧ s.fcState n.val = 3 ∧ frameGood f = true ∧ s.frameFault (n.val) f false = 0 ∧
    f.type = 5 ∧ syncPayloadOk f.payload = true) ∧
    (∃ (s : State) (n : Fin 96) (f : Frame), s.powered = true ∧ s.fcState n.val = 3 ∧ frameGood f = true ∧ s.frameFault (n.val) f false = 0 ∧
    f.type = 6) ∧
    (∃ (s : State) (n : Fin 96) (f : Frame), s.powered = true ∧ f.type = 1 ∧ s.fcState n.val = 2 ∧ frameGood f = true ∧ (s.chan n.val).inHello =
    true ∧ (s.chan n.val).helloOk = false ∧ s.helloRefusal (n.val) f = 0 ∧ (s.chan n.val).firstUp = false) ∧
    (∃ (s : State) (n : Fin 96) (f : Frame), s.powered = true ∧ ∃ (k : BadFrame), s.fcState n.val = 6) ∧
    (∃ (s : State) (n : Fin 96) (f : Frame), s.powered = true ∧ ∃ (overrun : Bool), s.fcState n.val = 3 ∧ (overrun = true ∨ frameGood f = true)
    ∧ s.frameFault (n.val) f overrun ≠ 0) :=
  ⟨
    ⟨fcUp, 0, rxFrame 0 0 0 [], by decide +kernel⟩,
    ⟨fcUp, 0, rxFrame 3 0 0 [], by decide +kernel⟩,
    ⟨fcUp, 0, rxFrame 4 0 0 [], by decide +kernel⟩,
    ⟨fcUp, 0, rxFrame 5 0 0 syncA, by decide +kernel⟩,
    ⟨fcUp, 0, rxFrame 6 0 1 (List.replicate 16 0), by decide +kernel⟩,
    ⟨fcHello, 0, rxFrame 1 0 0 helloA, by decide +kernel, by decide +kernel, by decide +kernel, by decide +kernel, by decide +kernel,
    by decide +kernel, by decide +kernel, by decide +kernel⟩,
    ⟨fcDown, 0, rxFrame 0 0 0 [], by decide +kernel, BadFrame.crc, by decide +kernel⟩,
    ⟨fcUp, 0, rxFrame 0 0 0 [], by decide +kernel, true, by decide +kernel⟩⟩

theorem witness_FramesAndHelloReceived_2 :
    (∃ (s : State) (n : Fin 96) (f : Frame), s.powered = true ∧ s.fcState n.val = 3 ∧ frameGood f = true ∧ s.frameFault (n.val) f false = 0 ∧
    f.type = 7) ∧
    (∃ (s : State) (n : Fin 96) (f : Frame), s.powered = true ∧ s.fcState n.val = 3 ∧ frameGood f = true ∧ s.frameFault (n.val) f false = 0 ∧
    f.type = 8) ∧
    (∃ (s : State) (n : Fin 96) (f : Frame), s.powered = true ∧ s.fcState n.val = 3 ∧ frameGood f = true ∧ s.frameFault (n.val) f false = 0 ∧
    f.type = 9 ∧ leAt f.payload 0 1 < 32 ∧ leAt f.payload 1 1 = 0) :=
  ⟨
    ⟨fcUp, 0, rxFrame 7 0 1 (List.replicate 16 0), by decide +kernel⟩,
    ⟨fcUp, 0, rxFrame 8 0 1 (List.replicate 16 0), by decide +kernel⟩,
    ⟨fcUp, 0, rxFrame 9 0 0 (List.replicate 24 0), by decide +kernel⟩⟩

theorem witness_TransmitOrderAndResend_1 :
    (∃ (s : State) (n : Fin 96) (fine : Fin 8), s.powered = true ∧ let c := s.chan n.val; c.txOpen = true) ∧
    (∃ (s : State) (n : Fin 96) (fine : Fin 8), s.powered = true ∧ let c := s.chan n.val; ∃ (k : ℕ), c.txOpen = false ∧ s.safeDue n.val = some
    k) ∧
    (∃ (s : State) (n : Fin 96) (fine : Fin 8), s.powered = true ∧ let c := s.chan n.val; c.txOpen = false ∧ s.safeDue n.val = none ∧ (s.fcSends
    n.val = false ∨ s.fcState n.val = 6)) ∧
    (∃ (s : State) (n : Fin 96) (fine : Fin 8), s.powered = true ∧ let c := s.chan n.val; c.txOpen = false ∧ s.safeDue n.val = none ∧ s.fcSends
    n.val = true ∧ s.fcState n.val ≠ 6 ∧ ∃ (r : Reject) (rest : List Reject), c.rejects = r :: rest) ∧
    (∃ (s : State) (n : Fin 96) (fine : Fin 8), s.powered = true ∧ let c := s.chan n.val; c.txOpen = false ∧ s.safeDue n.val = none ∧ s.fcSends
    n.val = true ∧ s.fcState n.val ≠ 6 ∧ c.rejects = [] ∧ s.syncDue n.val = true) ∧
    (∃ (s : State) (n : Fin 96) (fine : Fin 8), s.powered = true ∧ let c := s.chan n.val; c.txOpen = false ∧ s.safeDue n.val = none ∧ s.fcSends
    n.val = true ∧ s.fcState n.val ≠ 6 ∧ c.rejects = [] ∧ s.syncDue n.val = false ∧ s.fcState n.val ≠ 3) ∧
    (∃ (s : State) (n : Fin 96) (fine : Fin 8), s.powered = true ∧ let c := s.chan n.val; c.txOpen = false ∧ s.safeDue n.val = none ∧ s.fcSends
    n.val = true ∧ s.fcState n.val ≠ 6 ∧ c.rejects = [] ∧ s.syncDue n.val = false ∧ s.fcState n.val = 3 ∧ ∃ (q : BitVec 16) (rest : List (BitVec
    16)), c.resend = q :: rest) ∧
    (∃ (s : State) (n : Fin 96) (fine : Fin 8), s.powered = true ∧ let c := s.chan n.val; c.txOpen = false ∧ s.safeDue n.val = none ∧ s.fcSends
    n.val = true ∧ s.fcState n.val ≠ 6 ∧ c.rejects = [] ∧ s.syncDue n.val = false ∧ s.fcState n.val = 3 ∧ c.resend = [] ∧ ∃ (e : TxFrame) (rest
    : List TxFrame), c.carry = e :: rest ∧ c.unacked.length < 32) :=
  ⟨
    ⟨fcOpen, 0, 3, by decide +kernel⟩,
    ⟨fcSafe, 0, 3, by decide +kernel, (fcSafe.safeDue ↑0).the, by decide +kernel⟩,
    ⟨fcLink, 0, 3, by decide +kernel⟩,
    ⟨fcRej, 0, 3, by decide +kernel, by decide +kernel, by decide +kernel, by decide +kernel, by decide +kernel, rejA, (fcRej.chan
    ↑0).rejects.tail, by decide +kernel⟩,
    ⟨fcSync, 0, 3, by decide +kernel⟩,
    ⟨fcHello, 0, 3, by decide +kernel⟩,
    ⟨fcResend, 0, 3, by decide +kernel, by decide +kernel, by decide +kernel, by decide +kernel, by decide +kernel, by decide +kernel,
    by decide +kernel, by decide +kernel, (fcResend.chan ↑0).resend.first, (fcResend.chan ↑0).resend.tail, by decide +kernel⟩,
    ⟨fcCarry, 0, 3, by decide +kernel, by decide +kernel, by decide +kernel, by decide +kernel, by decide +kernel, by decide +kernel,
    by decide +kernel, by decide +kernel, by decide +kernel, tf 1 0, (fcCarry.chan ↑0).carry.tail, by decide +kernel⟩⟩

theorem witness_TransmitOrderAndResend_2 :
    (∃ (s : State) (n : Fin 96) (fine : Fin 8), s.powered = true ∧ let c := s.chan n.val; c.txOpen = false ∧ s.safeDue n.val = none ∧ s.fcSends
    n.val = true ∧ s.fcState n.val ≠ 6 ∧ c.rejects = [] ∧ s.syncDue n.val = false ∧ s.fcState n.val = 3 ∧ c.resend = [] ∧ c.carry = [] ∧
    s.nakWaits n.val = true) ∧
    (∃ (s : State) (n : Fin 96) (fine : Fin 8), s.powered = true ∧ let c := s.chan n.val; c.txOpen = false ∧ s.safeDue n.val = none ∧ s.fcSends
    n.val = true ∧ s.fcState n.val ≠ 6 ∧ c.rejects = [] ∧ s.syncDue n.val = false ∧ s.fcState n.val = 3 ∧ c.resend = [] ∧ c.carry = [] ∧
    s.nakWaits n.val = false ∧ c.ackDue = true) ∧
    (∃ (s : State) (n : Fin 96) (fine : Fin 8), s.powered = true ∧ let c := s.chan n.val; c.txOpen = false ∧ s.safeDue n.val = none ∧ s.fcSends
    n.val = true ∧ s.fcState n.val ≠ 6 ∧ c.rejects = [] ∧ s.syncDue n.val = false ∧ s.fcState n.val = 3 ∧ c.resend = [] ∧ c.carry = [] ∧
    s.nakWaits n.val = false ∧ c.ackDue = false) ∧
    (∃ (s : State) (n : ℕ) (e : TxFrame) (rest : List TxFrame), (s.chan n).unacked = e :: rest ∧ (s.chan n).resend = [] ∧ 7 ≤ e.resends) ∧
    (∃ (s : State) (n : ℕ) (e : TxFrame) (rest : List TxFrame), (s.chan n).unacked = e :: rest ∧ (s.chan n).resend = [] ∧ e.resends < 7 ∧ ∀ x ∈
    rest, (x.seq - e.seq).toNat < 32) ∧
    (∃ (s : State) (n : ℕ) (q : BitVec 16), (s.chan n).resend ≠ [] ∧ (q - (s.chan n).resendAt).toNat < 32) :=
  ⟨
    ⟨fcNak, 0, 3, by decide +kernel⟩,
    ⟨fcAck, 0, 3, by decide +kernel⟩,
    ⟨fcIdle, 0, 3, by decide +kernel⟩,
    ⟨fcUnack 7, 0, tf 1 7, ((fcUnack 7).chan 0).unacked.tail, by decide +kernel⟩,
    ⟨fcUnack 0, 0, tf 1 0, ((fcUnack 0).chan 0).unacked.tail, by decide +kernel⟩,
    ⟨fcResend, 0, 2, by decide +kernel⟩⟩

theorem witness_ChannelTimers_1 :
    (∃ (s : State) (n : Fin 96), s.powered = true ∧ let c := s.chan n.val; ∃ (e : TxFrame) (rest : List TxFrame), c.unacked = e :: rest ∧
    s.fcState n.val = 3 ∧ elapsed s.dt e.sentAt (usTicks (s.fld (FC_CTL.RESEND_TMO n.val))) = true) ∧
    (∃ (s : State) (n : Fin 96), s.powered = true ∧ let c := s.chan n.val; s.fcSends n.val = true ∧ s.fcState n.val ≠ 6 ∧ s.fcState n.val ≠ 7 ∧
    elapsed s.dt c.lastTx (usTicks 4) = true ∧ c.txOpen = false ∧ s.urgentWaits n.val = false ∧ (s.fcState n.val = 3 → c.resend = [] ∧ c.carry =
    [] ∧ s.nakWaits n.val = false ∧ c.ackDue = false)) ∧
    (∃ (s : State) (n : Fin 96), s.powered = true ∧ let c := s.chan n.val; s.fcState n.val = 3 ∧ elapsed s.dt c.lastRx (usTicks 40 * (c.silences
    + 1)) = true) ∧
    (∃ (s : State) (n : Fin 96), s.powered = true ∧ let c := s.chan n.val; ∃ (fine : Fin 8), s.syncDue n.val = true ∧ c.txOpen = false ∧
    s.safeDue n.val = none ∧ c.rejects = []) ∧
    (∃ (s : State) (n : Fin 96), s.powered = true ∧ let c := s.chan n.val; s.fcState n.val = 3 ∧ s.bit TIME_STAT.FINE_LOCK = true ∧ ∀ (t :
    Word), c.lastSync = some t → elapsed s.dt t (s.syncPer n.val) = true) ∧
    (∃ (s : State) (n : Fin 96), s.powered = true ∧ let c := s.chan n.val; ∃ (q : Word32) (t1 : Plc) (rest : List (Word32 × Plc)), c.syncOpen =
    (q, t1) :: rest ∧ 480000 ≤ plcDiff (plc s.dt 0) t1) ∧
    (∃ (s : State) (n : Fin 96), s.powered = true ∧ let c := s.chan n.val; ∃ (m : SenseMsg), c.senseQ = [m]) ∧
    (∃ (s : State) (n : Fin 96), s.powered = true ∧ let c := s.chan n.val; ∃ (k : ℕ), s.safeDue n.val = some k ∧ c.txOpen = false) :=
  ⟨
    ⟨fcUnack 0, 0, by decide +kernel, tf 1 0, ((fcUnack 0).chan ↑0).unacked.tail, by decide +kernel⟩,
    ⟨fcUnack 0, 0, by decide +kernel⟩,
    ⟨fcUnack 0, 0, by decide +kernel⟩,
    ⟨fcSync, 0, by decide +kernel, 3, by decide +kernel⟩,
    ⟨fcSyncDue, 0, by decide +kernel, by decide +kernel, by decide +kernel,
    (by intro t h; rw [show ((fcSyncDue.chan (0 : Fin 96).val).lastSync) = none by decide +kernel] at h; cases h)⟩,
    ⟨fcSync, 0, by decide +kernel, (fcSync.chan ↑0).syncOpen.first.1, (fcSync.chan ↑0).syncOpen.first.2, (fcSync.chan ↑0).syncOpen.tail,
    by decide +kernel⟩,
    ⟨fcSense, 0, by decide +kernel, { since := 9, bytes := List.replicate 64 0 }, by decide +kernel⟩,
    ⟨fcSafe, 0, by decide +kernel, (fcSafe.safeDue ↑0).the, by decide +kernel⟩⟩

theorem witness_ChannelTimers_2 :
    ∃ (s : State) (n : Fin 96), s.powered = true ∧ let c := s.chan n.val; ∃ (k : ℕ), s.safeCauseOf n.val = some k ∧ (∀ (t : Word), c.lastSafe =
    some t → elapsed s.dt t (usTicks 2) = true) ∧ s.groupLocked n.val = true ∧ s.fcState n.val ≠ 0 ∧ s.fcState n.val ≠ 7 :=
    ⟨fcSafe, 0, by decide +kernel, (fcSafe.safeCauseOf ↑0).the, by decide +kernel,
    (by intro t h; rw [show ((fcSafe.chan (0 : Fin 96).val).lastSafe) = none by decide +kernel] at h; cases h), by decide +kernel⟩

theorem witness_TimeBaseAndFirefly :
    (∃ (s : State), s.powered = true ∧ s.bit TIME_CTL.EN = false ∧ s.bit TIME_CTL.LOAD = true ∧ s.bit TIME_CTL.AON_CAL_EN = false) ∧
    (∃ (s : State), s.powered = true ∧ s.bit TIME_CTL.EN = true ∧ s.bit TIME_CTL.LOAD = false ∧ s.bit TIME_CTL.AON_CAL_EN = false ∧ s.timeUsers
    = true) ∧
    (∃ (s : State), s.powered = true ∧ s.bit TIME_CTL.EN = true ∧ s.bit TIME_CTL.LOAD = false ∧ s.bit TIME_CTL.AON_CAL_EN = false ∧ s.timeUsers
    = false) ∧
    (∃ (s : State), s.powered = true ∧ s.time.tbclk = true) ∧
    (∃ (s : State), s.powered = true ∧ ∃ (m : Fin 8) (p : FfPayload) (res : ℤ), s.isWorker = true ∧ s.fld DEV_POS.DEPTH = 1 ∧ (p.kind = 1 ∨
    p.kind = 2) ∧ m ≠ 0) ∧
    (∃ (s : State), s.powered = true ∧ ∃ (p : FfPayload) (fine : Fin 8), s.time.ffOpen = none ∧ (p.kind = 1 ∨ p.kind = 2)) :=
  ⟨
    ⟨timeOff, by decide +kernel⟩,
    ⟨worker, by decide +kernel⟩,
    ⟨List.foldl (fun s t => s.setFld (TIER_CTL.EN t) 0) timeOn (upTo 8), by decide +kernel⟩,
    ⟨timeOff, by decide +kernel⟩,
    ⟨worker, by decide +kernel, 2, ffPay 1 0 0, 5, by decide +kernel⟩,
    ⟨timeOff, by decide +kernel, ffPay 1 0 0, 2, by decide +kernel⟩⟩

theorem witness_AngleAndTrackers_1 :
    (∃ (s : State), s.powered = true ∧ ∃ (n : Fin 16), s.bit (AX_CTL.EN n.val) = false) ∧
    (∃ (s : State), s.powered = true ∧ ∃ (n : Fin 16), s.bit (AX_CTL.EN n.val) = true ∧ s.fld (AX_CPR.CPR n.val) ≠ 0) ∧
    (∃ (s : State), s.powered = true ∧ ∃ (n : Fin 16), BitVec.toNat s.dt % 3000 = 0 ∧ s.bit (AX_CTL.EN n.val) = true ∧ s.fld (AX_STAT.STATE
    n.val) = 2) ∧
    (∃ (s : State), s.powered = true ∧ ∃ (n : Fin 16), s.fld (AX_STAT.STATE n.val) = 2 ∧ elapsed s.dt (s.axis n.val).lastChange 300000000 =
    true) ∧
    (∃ (s : State), s.powered = true ∧ ∃ (n : Fin 16), s.angleFed n.val = true ∧ elapsed s.dt (s.axis n.val).lastReport 300000 = true ∧ (s.axis
    n.val).srcLostAt = none) ∧
    (∃ (s : State), s.powered = true ∧ ∃ (n : Fin 16) (t : BitVec 64), (s.axis n.val).srcLostAt = some t ∧ s.angleFed n.val = true ∧ elapsed
    s.dt t 3000000 = true) ∧
    (∃ (s : State), s.powered = true ∧ ∃ (m : Fin 8) (fine : Fin 8) (up : Bool), (s.aport m.val).lastEdge = none ∧ s.quadPort m.val = true) ∧
    (∃ (s : State), s.powered = true ∧ ∃ (m : Fin 8) (fine : Fin 8), s.bit (AP_CTL.EN m.val) = true ∧ s.fld (AP_CTL.MODE m.val) = 0 ∧ (∀ n < 16,
    s.consumes n m.val = false) ∧ s.bit CAP_CTL.ARM = false) :=
  ⟨
    ⟨axOff, by decide +kernel, 0, by decide +kernel⟩,
    ⟨axRun, by decide +kernel, 0, by decide +kernel⟩,
    ⟨axRun, by decide +kernel, 0, by decide +kernel⟩,
    ⟨axRun, by decide +kernel, 0, by decide +kernel⟩,
    ⟨axFed, by decide +kernel, 0, by decide +kernel⟩,
    ⟨axLost, by decide +kernel, 0, (axLost.axis ↑0).srcLostAt.the, by decide +kernel⟩,
    ⟨axRun, by decide +kernel, 0, 0, true, by decide +kernel⟩,
    ⟨axFed, by decide +kernel, 0, 0, by decide +kernel⟩⟩

theorem witness_AngleAndTrackers_2 :
    (∃ (s : State), s.powered = true ∧ ∃ (m : Fin 8) (fine : Fin 8), s.bit (AP_CTL.EN m.val) = true ∧ 2 ≤ s.fld (AP_CTL.MODE m.val) ∧ (s.aport
    m.val).deferred = true) ∧
    (∃ (s : State), s.powered = true ∧ ∃ (m : Fin 8) (fine : Fin 8), s.bit (AP_CTL.EN m.val) = true ∧ 2 ≤ s.fld (AP_CTL.MODE m.val) ∧ (s.aport
    m.val).deferred = false) ∧
    (∃ (s : State), s.powered = true ∧ ∃ (m : Fin 8) (fine : Fin 8) (raw : BitVec 31), (s.aport m.val).frameAt = none) ∧
    (∃ (s : State), s.powered = true ∧ ∃ (m : Fin 8) (fine : Fin 8) (raw : BitVec 31) (d : Word) (f : Fin 8), (s.aport m.val).frameAt = some (d,
    f) ∧ s.bit (AP_CTL.EN m.val) = true ∧ s.fld (AP_CTL.MODE m.val) = 2 ∧ (∀ n < 16, s.consumes n m.val = false) ∧ s.bit CAP_CTL.ARM = false) :=
  ⟨
    ⟨apSsiD, by decide +kernel, 0, 0, by decide +kernel⟩,
    ⟨apSsi, by decide +kernel, 0, 0, by decide +kernel⟩,
    ⟨axOff, by decide +kernel, 0, 0, 74565, by decide +kernel⟩,
    ⟨apSsiF, by decide +kernel, 0, 0, 74565, (apSsiF.aport ↑0).frameAt.the.1, (apSsiF.aport ↑0).frameAt.the.2, by decide +kernel⟩⟩

theorem witness_FieldAccessAndCommit_1 :
    (∃ (s : State) (a : ℕ) (v : ℕ) (d : FieldDef), d.lo ≤ d.hi ∧ (d.acc = Acc.ro ∨ d.acc = Acc.wo)) ∧
    (∃ (s : State) (a : ℕ) (v : ℕ) (d : FieldDef), d.lo ≤ d.hi ∧ let c := v / 2 ^ d.lo % 2 ^ (d.hi + 1 - d.lo); (d.acc = Acc.rw ∨ d.acc =
    Acc.rwi) ∧ d.undefinedVal c = false) ∧
    (∃ (s : State) (a : ℕ) (v : ℕ) (d : FieldDef), d.lo ≤ d.hi ∧ let c := v / 2 ^ d.lo % 2 ^ (d.hi + 1 - d.lo); (d.acc = Acc.rw ∨ d.acc =
    Acc.rwi) ∧ d.undefinedVal c = true) ∧
    (∃ (s : State) (a : ℕ) (v : ℕ) (d : FieldDef), d.lo ≤ d.hi ∧ d.acc = Acc.w1c) ∧
    (∃ (s : State) (a : ℕ) (v : ℕ) (d : FieldDef), d.lo ≤ d.hi ∧ d.acc = Acc.w1s) ∧
    (∃ (s : State) (a : ℕ) (v : ℕ) (d : FieldDef), d.lo ≤ d.hi ∧ let f := { addr := a, hi := d.hi, lo := d.lo };
    let c := v / 2 ^ d.lo % 2 ^ (d.hi + 1 - d.lo); d.acc = Acc.rws ∧ c = s.fld f) ∧
    (∃ (s : State) (a : ℕ) (v : ℕ) (d : FieldDef), d.lo ≤ d.hi ∧ let f := { addr := a, hi := d.hi, lo := d.lo };
    let c := v / 2 ^ d.lo % 2 ^ (d.hi + 1 - d.lo); d.acc = Acc.rws ∧ c ≠ s.fld f ∧ s.bit (enableOf a) = true) ∧
    (∃ (s : State) (a : ℕ) (v : ℕ) (d : FieldDef), d.lo ≤ d.hi ∧ let f := { addr := a, hi := d.hi, lo := d.lo };
    let c := v / 2 ^ d.lo % 2 ^ (d.hi + 1 - d.lo); d.acc = Acc.rws ∧ c ≠ s.fld f ∧ s.bit (enableOf a) = false ∧ d.undefinedVal c = false) :=
  ⟨
    ⟨ready, 0, 0, { hi := 5, lo := 2, acc := Acc.ro, rst := 0, grp := true }, by decide +kernel⟩,
    ⟨ready, 0, 0, { hi := 5, lo := 2, acc := Acc.rw, rst := 0 }, by decide +kernel⟩,
    ⟨ready, 0, 0, { hi := 5, lo := 2, acc := Acc.rwi, rst := 0, bad := [(0, 15)] }, by decide +kernel⟩,
    ⟨ready, 0, 0, { hi := 5, lo := 2, acc := Acc.w1c, rst := 0 }, by decide +kernel⟩,
    ⟨ready, 0, 0, { hi := 5, lo := 2, acc := Acc.w1s, rst := 0 }, by decide +kernel⟩,
    ⟨ready, 0, 0, { hi := 5, lo := 2, acc := Acc.rws, rst := 0 }, by decide +kernel⟩,
    ⟨ready.setFld (AX_CTL.EN 0) 1, AX_CTL.addr 0, 4294967295, { hi := 5, lo := 2, acc := Acc.rws, rst := 0 }, by decide +kernel⟩,
    ⟨ready, 0, 4294967295, { hi := 5, lo := 2, acc := Acc.rws, rst := 0 }, by decide +kernel⟩⟩

theorem witness_FieldAccessAndCommit_2 :
    (∃ (s : State) (a : ℕ) (v : ℕ) (d : FieldDef), d.lo ≤ d.hi ∧ let f := { addr := a, hi := d.hi, lo := d.lo };
    let c := v / 2 ^ d.lo % 2 ^ (d.hi + 1 - d.lo); d.acc = Acc.rwl ∧ c ≠ s.fld f ∧ d.grp = false ∧ d.undefinedVal c = false) ∧
    (∃ (s : State) (a : ℕ) (v : ℕ) (d : FieldDef), d.lo ≤ d.hi ∧ let f := { addr := a, hi := d.hi, lo := d.lo };
    let c := v / 2 ^ d.lo % 2 ^ (d.hi + 1 - d.lo); d.acc = Acc.rwl ∧ c ≠ s.fld f ∧ d.grp = true ∧ s.bit (commitOf a) = true) ∧
    (∃ (s : State) (imm : Fld) (c : Fld) (members : List Fld) (check : State → Bool), c ∉ members ∧ let u := s.setFld c 0;
    let applied := List.foldl (fun (s : State) (f : Fld) => s.apply f) u members; s.bit c = true ∧ (members.any fun (f : Fld) => (s.stagedVal
    f).isSome) = true ∧ check applied = true) ∧
    (∃ (s : State) (imm : Fld) (c : Fld) (members : List Fld) (check : State → Bool), c ∉ members ∧ let u := s.setFld c 0;
    let applied := List.foldl (fun (s : State) (f : Fld) => s.apply f) u members; s.bit c = true ∧ (members.any fun (f : Fld) => (s.stagedVal
    f).isSome) = true ∧ check applied = false) ∧
    (∃ (s : State) (imm : Fld) (c : Fld) (members : List Fld) (check : State → Bool), c ∉ members ∧ s.bit c = false ∧ s.bit imm = false) :=
  ⟨
    ⟨ready, 0, 4294967295, { hi := 5, lo := 2, acc := Acc.rwl, rst := 0 }, by decide +kernel⟩,
    ⟨ready.setFld (AX_CTL.COMMIT 0) 1, AX_CTL.addr 0, 4294967295, { hi := 5, lo := 2, acc := Acc.rwl, rst := 0, grp := true },
    by decide +kernel⟩,
    ⟨(ready.stage (AX_CPR.CPR 0) (some 77)).setFld (AX_CTL.COMMIT 0) 1, AX_CTL.COMMIT 0, AX_CTL.COMMIT 0, [AX_CPR.CPR 0], fun s => true,
    by decide +kernel⟩,
    ⟨(ready.stage (AX_CPR.CPR 0) (some 77)).setFld (AX_CTL.COMMIT 0) 1, AX_CTL.COMMIT 0, AX_CTL.COMMIT 0, [AX_CPR.CPR 0], fun s => s.bit
    (AX_CTL.EN 0), by decide +kernel⟩,
    ⟨ready, AX_CTL.COMMIT 0, AX_CTL.COMMIT 0, [AX_CPR.CPR 0], fun s => s.bit (AX_CTL.EN 0), by decide +kernel⟩⟩

theorem witness_RegisterAccesses_1 :
    (∃ (s : State) (a : BitVec 24), s.powered = true ∧ ∃ (who : Requester) (size : Fin 3) (v : Word32), a.toNat % 2 ^ size.val ≠ 0) ∧
    (∃ (s : State) (a : BitVec 24), s.powered = true ∧ ∃ (size : Fin 3) (v : Word32), size.val < 2 ∧ a.toNat % 2 ^ size.val = 0 ∧ isRegister
    (a.toNat / 4 * 4) = true) ∧
    (∃ (s : State) (a : BitVec 24), s.powered = true ∧ ∃ (v : Word32), a.toNat % 4 = 0 ∧ isRegister a.toNat = false) ∧
    (∃ (s : State) (a : BitVec 24), s.powered = true ∧ ∃ (v : Word32), a.toNat % 4 = 0 ∧ isRegister a.toNat = true ∧ isPairLo a.toNat = false ∧
    isPairHi a.toNat = false) ∧
    (∃ (s : State) (a : BitVec 24), s.powered = true ∧ ∃ (v : Word32), a.toNat % 4 = 0 ∧ isRegister a.toNat = true ∧ s.isWorker = false ∧ inBar0
    a.toNat = false) ∧
    (∃ (s : State) (a : BitVec 24), s.powered = true ∧ ∃ (v : Word32), a.toNat % 4 = 0 ∧ isRegister a.toNat = true ∧ s.isWorker = false ∧ s.fld
    HOST_STAT.BAR2 = 0) ∧
    (∃ (s : State) (a : BitVec 24), s.powered = true ∧ ∃ (v : Word32), a.toNat % 4 = 0 ∧ isRegister a.toNat = true ∧ isPairLo a.toNat = false ∧
    isPairHi a.toNat = false ∧ s.isWorker = false ∧ s.fld HOST_STAT.BAR2 = 2) ∧
    (∃ (s : State) (a : BitVec 24), s.powered = true ∧ ∃ (v : Word32), s.isWorker = true) :=
  ⟨
    ⟨ready, 131073, by decide +kernel, Requester.svc, 1, 5, by decide +kernel⟩,
    ⟨ready, 88, by decide +kernel, 0, 5, by decide +kernel⟩,
    ⟨ready, 28672, by decide +kernel, 5, by decide +kernel⟩,
    ⟨ready, 88, by decide +kernel, 5, by decide +kernel⟩,
    ⟨ready, 88, by decide +kernel, 5, by decide +kernel⟩,
    ⟨ready, 88, by decide +kernel, 5, by decide +kernel⟩,
    ⟨ready.setFld HOST_STAT.BAR2 2, 88, by decide +kernel, 5, by decide +kernel⟩,
    ⟨worker, 88, by decide +kernel, 5, by decide +kernel⟩⟩

theorem witness_RegisterAccesses_2 :
    (∃ (s : State) (a : BitVec 24), s.powered = true ∧ ∃ (w : StrId) (v : Word32), a.toNat % 4 = 0 ∧ isRegister a.toNat = true ∧ isPairLo
    a.toNat = true) ∧
    (∃ (s : State) (a : BitVec 24), s.powered = true ∧ ∃ (w : StrId) (l : Word32) (v : Word32), a.toNat % 4 = 0 ∧ isRegister a.toNat = true ∧
    isPairLo a.toNat = false ∧ isPairHi a.toNat = true ∧ (s.latch (Requester.strider w)).2 = some l) ∧
    (∃ (s : State) (a : BitVec 24), s.powered = true ∧ ∃ (blk : Byte) (inst : Byte) (bits : Word32) (k : ℕ), ackAddr (BitVec.toNat blk)
    (BitVec.toNat inst) = some k ∧ k % 4 = 0 ∧ isRegister k = true ∧ isPairLo k = false ∧ isPairHi k = false) ∧
    (∃ (s : State) (a : BitVec 24), s.powered = true ∧ ∃ (who : Requester), (s.regRead who a.toNat).1 ≠ 0) :=
  ⟨
    ⟨ready, 131092, by decide +kernel, w0, 5, by decide +kernel⟩,
    ⟨ready.setLatch (Requester.strider w0) (7, some 9), 131096, by decide +kernel, w0, ((ready.setLatch (Requester.strider w0) (7, some
    9)).latch (Requester.strider w0)).2.the, 5, by decide +kernel⟩,
    ⟨ready, 88, by decide +kernel, 7, 7, 5, (ackAddr (BitVec.toNat (7 : Byte)) (BitVec.toNat (7 : Byte))).the, by decide +kernel⟩,
    ⟨ready, 88, by decide +kernel, Requester.svc, by decide +kernel⟩⟩

theorem witness_CompressionEngineAndResults_1 :
    (∃ (s : State), s.powered = true ∧ ∃ (op : ℕ), (op = 1 ∨ op = 2 ∨ op = 3) ∧ s.bit CMP_JOB_RES.BUSY = true) ∧
    (∃ (s : State), s.powered = true ∧ ∃ (op : ℕ), (op = 1 ∨ op = 2 ∨ op = 3) ∧ ∃ (k : Fin 4) (e : ℕ), s.bit CMP_JOB_RES.BUSY = false ∧ s.bit
    CMP_CTL.EN = true ∧ s.cmp.stopping = false ∧ let u := s.setFld CMP_JOB_RES.DONE 0; u.pickLane none = some k ∧ u.jobRefusal op 0 = e ∧ e = 0
    ∧ (op ≠ 1 ∨ u.maskStale = true)) ∧
    (∃ (s : State), s.powered = true ∧ ∃ (op : ℕ), (op = 1 ∨ op = 2 ∨ op = 3) ∧ ∃ (k : Fin 4) (e : ℕ), s.bit CMP_JOB_RES.BUSY = false ∧ s.bit
    CMP_CTL.EN = true ∧ s.cmp.stopping = false ∧ let u := s.setFld CMP_JOB_RES.DONE 0; u.pickLane none = some k ∧ u.jobRefusal op 0 = e ∧ ∃ (img
    : Option (List Byte × Bool × List Byte)) (v : State), e = 0 ∧ op = 1 ∧ u.maskStale = false ∧ u.readImage = (img, v)) ∧
    (∃ (s : State), s.powered = true ∧ ∃ (op : ℕ), (op = 1 ∨ op = 2 ∨ op = 3) ∧ ∃ (k : Fin 4) (e : ℕ), s.bit CMP_JOB_RES.BUSY = false ∧ s.bit
    CMP_CTL.EN = true ∧ s.cmp.stopping = false ∧ let u := s.setFld CMP_JOB_RES.DONE 0; u.pickLane none = some k ∧ u.jobRefusal op 0 = e ∧ e ≠ 0) ∧
    (∃ (s : State), s.powered = true ∧ ∃ (r : ℕ) (n : ℕ), r < 256) ∧
    (∃ (s : State), s.powered = true ∧ ∃ (mism : Fin 3) (dyn : List ℕ), s.cmp.job = none) ∧
    (∃ (s : State), s.powered = true ∧ ∃ (mism : Fin 3) (dyn : List ℕ) (j : CmpJob) (r : ℕ) (b : BlkRead) (u : State), s.cmp.job = some j ∧ j.op
    = 3 ∧ s.maskStale = false ∧ s.checkBlock j.lane.val mism.val = (some (r, b), u)) ∧
    (∃ (s : State), s.powered = true ∧ s.cmp.job.isSome = true) :=
  ⟨
    ⟨cmpGo, by decide +kernel, 1, by decide +kernel⟩,
    ⟨cmpLate, by decide +kernel, 1, by decide +kernel, ((cmpLate.setFld CMP_JOB_RES.DONE 0).pickLane none).the, (cmpLate.setFld CMP_JOB_RES.DONE
    0).jobRefusal 1 0, by decide +kernel⟩,
    ⟨cmpS, by decide +kernel, 1, by decide +kernel, ((cmpS.setFld CMP_JOB_RES.DONE 0).pickLane none).the, (cmpS.setFld CMP_JOB_RES.DONE
    0).jobRefusal 1 0, by decide +kernel, by decide +kernel, by decide +kernel, by decide +kernel, by decide +kernel, (cmpS.setFld
    CMP_JOB_RES.DONE 0).readImage.1, (cmpS.setFld CMP_JOB_RES.DONE 0).readImage.2, by decide +kernel, by decide +kernel, by decide +kernel, rfl⟩,
    ⟨cmpS.setFld CMP_JOB_SRC_LO.SRC 4, by decide +kernel, 1, by decide +kernel, (((cmpS.setFld CMP_JOB_SRC_LO.SRC 4).setFld CMP_JOB_RES.DONE
    0).pickLane none).the, ((cmpS.setFld CMP_JOB_SRC_LO.SRC 4).setFld CMP_JOB_RES.DONE 0).jobRefusal 1 0, by decide +kernel⟩,
    ⟨cmpLate, by decide +kernel, 1, 1, by decide +kernel⟩,
    ⟨cmpLate, by decide +kernel, 0, [], by decide +kernel⟩,
    ⟨cmpVerL, by decide +kernel, 0, [], cmpVerL.cmp.job.the, (cmpVerL.checkBlock cmpVerL.cmp.job.the.lane.val ↑0).1.the.1, (cmpVerL.checkBlock
    cmpVerL.cmp.job.the.lane.val ↑0).1.the.2, (cmpVerL.checkBlock cmpVerL.cmp.job.the.lane.val ↑0).2, by decide +kernel⟩,
    ⟨cmpGo, by decide +kernel⟩⟩

theorem witness_CompressionEngineAndResults_2 :
    (∃ (s : State), s.powered = true ∧ ∃ (k : Fin 4) (n : Fin 3) (r : CmpReq) (u : State), s.laneBusy k.val = some r ∧ s.maskStale = false ∧
    s.cmpRun (k.val) r n.val = some u) ∧
    (∃ (r : ℕ), r = 34) ∧
    (∃ (d : CmpDesc) (lb : ℕ) (n : ℕ) (pitch : ℕ) (len : ℕ), delivered? d lb = some (n, pitch, len)) :=
  ⟨
    ⟨cmpRunL, by decide +kernel, 0, 0, (cmpRunL.laneBusy ↑0).the, (cmpRunL.cmpRun (↑0) (cmpRunL.laneBusy ↑0).the ↑0).the, by decide +kernel⟩,
    ⟨34, by decide +kernel⟩,
    ⟨readDesc [262144, 2048 + 8 * 2 ^ 32, 65536 + 2 ^ 24, lastWord], 1, (delivered? (readDesc [262144, 2048 + 8 * 2 ^ 32, 65536 + 2 ^ 24,
    lastWord]) 1).the.1, (delivered? (readDesc [262144, 2048 + 8 * 2 ^ 32, 65536 + 2 ^ 24, lastWord]) 1).the.2.1, (delivered? (readDesc [262144,
    2048 + 8 * 2 ^ 32, 65536 + 2 ^ 24, lastWord]) 1).the.2.2, by decide +kernel⟩⟩

theorem witness_PondCommandsAndDma_1 :
    (∃ (s : State) (p : Fin 68), s.powered = true ∧ s.fld (POND_STAT.ROLE p.val) = 2) ∧
    (∃ (s : State) (p : Fin 68), s.powered = true ∧ s.fld (POND_STAT.ROLE p.val) ≠ 2 ∧ s.bit (L2_MAINT.BUSY p.val) = false ∧ (s.setFld
    (L2_MAINT.AHI p.val) 0).bit (L2_MAINT.BUSY p.val) = false ∧ ∃ (h : BitVec 3), (s.setFld (L2_MAINT.AHI p.val) h.toNat).bit (L2_MAINT.BUSY
    p.val) = false) ∧
    (∃ (s : State) (p : Fin 68), s.powered = true ∧ s.fld (POND_STAT.ROLE p.val) ≠ 2 ∧ s.bit (L2_MAINT.BUSY p.val) = true) ∧
    (∃ (s : State) (p : Fin 68), s.powered = true ∧ s.fld (POND_STAT.ROLE p.val) ≠ 2 ∧ s.bit (L2_CTL.EN p.val) = true) ∧
    (∃ (s : State) (p : Fin 68), s.powered = true ∧ s.fld (POND_STAT.ROLE p.val) ≠ 2 ∧ s.bit (L2_CTL.EN p.val) = false ∧ (s.pond p.val).l2 = []
    ∧ 8 ≤ (List.filter (s.wayOn p.val) (upTo 16)).length) ∧
    (∃ (s : State) (p : Fin 68), s.powered = true ∧ s.fld (POND_STAT.ROLE p.val) ≠ 2 ∧ s.bit (POND_CTL.EN p.val) = false) ∧
    (∃ (s : State) (p : Fin 68), s.powered = true ∧ s.fld (POND_STAT.ROLE p.val) ≠ 2 ∧ s.bit (PM_CTL.EN p.val) = true ∧ s.bit (POND_CTL.EN
    p.val) = true) ∧
    (∃ (s : State) (p : Fin 68), s.powered = true ∧ s.fld (POND_STAT.ROLE p.val) ≠ 2 ∧ s.bit (PM_CTL.EN p.val) = true ∧ s.bit (POND_CTL.EN
    p.val) = false) :=
  ⟨
    ⟨pondAbsent, 0, by decide +kernel⟩,
    ⟨pondOn, 0, by decide +kernel, by decide +kernel, by decide +kernel, by decide +kernel, 2, by decide +kernel⟩,
    ⟨pondMaint, 0, by decide +kernel⟩,
    ⟨pondOn, 0, by decide +kernel⟩,
    ⟨pondOff, 0, by decide +kernel⟩,
    ⟨pondOff, 0, by decide +kernel⟩,
    ⟨pondOn, 0, by decide +kernel⟩,
    ⟨pmOnly, 0, by decide +kernel⟩⟩

theorem witness_PondCommandsAndDma_2 :
    (∃ (s : State) (p : Fin 68), s.powered = true ∧ s.fld (POND_STAT.ROLE p.val) ≠ 2 ∧ ∃ (m : BitVec 5) (d : BitVec 3), m.toNat = s.fld
    (PM_REGION_SEL.MASTER p.val) ∧ d.toNat = s.fld (PM_REGION_SEL.DESC p.val) ∧ m.toNat < 20) ∧
    (∃ (s : State) (p : Fin 68), s.powered = true ∧ s.fld (POND_STAT.ROLE p.val) ≠ 2 ∧ s.bit (PM_CTL.EN p.val) = false ∧ s.bit (MARCH_STAT.BUSY
    p.val) = false) ∧
    (∃ (s : State) (p : Fin 68), s.powered = true ∧ (s.pond p.val).maint = none) ∧
    (∃ (s : State) (p : Fin 68), s.powered = true ∧ ∃ (op : ℕ) (line : LineNo), (s.pond p.val).maint = some (op, line, [])) ∧
    (∃ (s : State) (p : Fin 68), s.powered = true ∧ elapsed s.dt (s.pond p.val).ceStart (2 ^ 30) = true) ∧
    (∃ (s : State) (p : Fin 68), s.powered = true ∧ (s.pond p.val).wayBusy = []) ∧
    (∃ (s : State) (p : Fin 68), s.powered = true ∧ ∃ (w : ℕ) (rest : List ℕ), (s.pond p.val).wayBusy = w :: rest ∧ (s.pond p.val).maint = none
    ∧ (s.pond p.val).l2 = []) ∧
    (∃ (s : State) (p : Fin 68), s.powered = true ∧ ∃ (banks : ℕ) (repair : Bool) (ue : List (Fin 16 × Fin 4096)), (s.pond p.val).march = some
    (banks, true, repair)) :=
  ⟨
    ⟨pondOn, 0, by decide +kernel, by decide +kernel, 0, 0, by decide +kernel⟩,
    ⟨pondOff, 0, by decide +kernel⟩,
    ⟨pondMarch, 0, by decide +kernel⟩,
    ⟨pondMaint, 0, by decide +kernel, (pondMaint.pond ↑0).maint.the.1, (pondMaint.pond ↑0).maint.the.2.1, by decide +kernel⟩,
    ⟨pondLate, 0, by decide +kernel⟩,
    ⟨pondMarch, 0, by decide +kernel⟩,
    ⟨pondWay, 0, by decide +kernel, (pondWay.pond ↑0).wayBusy.first, (pondWay.pond ↑0).wayBusy.tail, by decide +kernel⟩,
    ⟨pondMarch, 0, by decide +kernel, (pondMarch.pond ↑0).march.the.1, (pondMarch.pond ↑0).march.the.2.2, [], by decide +kernel⟩⟩

theorem witness_PondCommandsAndDma_3 :
    (∃ (s : State), s.powered = true ∧ ∃ (w : StrId) (e : Fin 2) (v : Word) (u : State), s.executes w = true ∧ s.drainStores w = (true, u) ∧
    let x := u.pond w.pond.val; (x.dma e.val).length < 16) ∧
    (∃ (s : State), s.powered = true ∧ ∃ (w : StrId) (e : Fin 2) (v : Word) (u : State), s.executes w = true ∧ s.drainStores w = (true, u) ∧
    let x := u.pond w.pond.val; 16 ≤ (x.dma e.val).length) ∧
    (∃ (s : State), s.powered = true ∧ ∃ (w : StrId) (e : ℕ) (since : Word), (s.str w).run = Run.waiting (Wait.dmaFull e since) ∧ elapsed s.dt
    since (usTicks 2) = true) ∧
    (∃ (s : State), s.powered = true ∧ ∃ (p : Fin 68) (e : Fin 2) (err : MemErr) (r : DmaReq) (rest : List DmaReq) (u : State), ((s.dmaError p e
    err).pond p.val).dma e.val = r :: rest ∧ (s.dmaError p e err).dmaRun p (e.val) r = some u) ∧
    (∃ (s : State), s.powered = true ∧ ∃ (dt : Word) (bad : Bool) (st : ℕ), st < 65536) ∧
    (∃ (s : State) (p : Fin 68), s.powered = true ∧ s.fld (POND_STAT.ROLE p.val) ≠ 2 ∧ s.bit (L2_MAINT.BUSY p.val) = false ∧ (s.setFld
    (L2_MAINT.AHI p.val) 0).bit (L2_MAINT.BUSY p.val) = false) ∧
    (∃ (s : State) (p : Fin 68), s.powered = true ∧ s.fld (POND_STAT.ROLE p.val) ≠ 2 ∧ s.bit (PM_CTL.EN p.val) = false) ∧
    (∃ (s : State) (p : Fin 68), s.powered = true ∧ (s.pond p.val).march = none) :=
  ⟨
    ⟨memory, by decide +kernel, w0, 0, 768, (memory.drainStores w0).2, by decide +kernel⟩,
    ⟨dmaFull, by decide +kernel, w0, 0, 768, (dmaFull.drainStores w0).2, by decide +kernel⟩,
    ⟨dmaWait, by decide +kernel, w0, 0, 9, by decide +kernel⟩,
    ⟨dmaRuns, by decide +kernel, 0, 0, MemErr.none, (((dmaRuns.dmaError 0 0 MemErr.none).pond ↑0).dma ↑0).first, (((dmaRuns.dmaError 0 0
    MemErr.none).pond ↑0).dma ↑0).tail, ((dmaRuns.dmaError 0 0 MemErr.none).dmaRun 0 (↑0) (((dmaRuns.dmaError 0 0 MemErr.none).pond ↑0).dma
    ↑0).first).the, by decide +kernel⟩,
    ⟨pondMarch, by decide +kernel, 9, true, 0, by decide +kernel⟩,
    ⟨pondMarch, 0, by decide +kernel⟩,
    ⟨pondMarch, 0, by decide +kernel⟩,
    ⟨pondMaint, 0, by decide +kernel⟩⟩

theorem witness_PondMemoryReadsWhatWasWritten :
    (∃ (s : State) (p : Fin 68) (off : ℕ) (b : List Byte), off + b.length ≤ pmSize ∧ ∃ (q : Fin 68), ∃ a < pmSize, q ≠ p ∨ a < off ∨ off +
    b.length ≤ a) ∧
    (∃ (s : State) (p : Fin 68) (off : ℕ) (b : List Byte), off + b.length ≤ pmSize ∧ Memory.wf s.pm = true) :=
  ⟨
    ⟨memory, 0, 0, [1, 2, 3], by decide +kernel, 0, 256, by decide +kernel⟩,
    ⟨memory, 0, 0, [1, 2, 3], by decide +kernel⟩⟩

theorem witness_RingRequests_1 :
    (∃ (s : State) (b : Fin 4) (r : Fin 17) (line : LineNo), s.powered = true ∧ let p := stopPond b.val r.val;
    let l := s.l2 p (BitVec.toNat line); s.l2Works (b.val) r (BitVec.toNat line) = true ∧ ∃ (w : ℕ) (u : State), l.st = L2St.i ∧ s.takeWay p
    (BitVec.toNat line) = (some w, u)) ∧
    (∃ (s : State) (b : Fin 4) (r : Fin 17) (line : LineNo), s.powered = true ∧ let p := stopPond b.val r.val;
    let l := s.l2 p (BitVec.toNat line); s.l2Works (b.val) r (BitVec.toNat line) = true ∧ l.st = L2St.s) ∧
    (∃ (s : State) (b : Fin 4) (r : Fin 17) (line : LineNo), s.powered = true ∧ let p := stopPond b.val r.val;
    let l := s.l2 p (BitVec.toNat line); s.l2Works (b.val) r (BitVec.toNat line) = true ∧ ∃ (keep : Bool), l.st = L2St.m ∧ s.wbLines p < 8) ∧
    (∃ (s : State) (b : Fin 4) (r : Fin 17) (line : LineNo), s.powered = true ∧ let p := stopPond b.val r.val;
    let l := s.l2 p (BitVec.toNat line); s.l2Works (b.val) r (BitVec.toNat line) = true ∧ (l.st = L2St.s ∨ l.st = L2St.e)) ∧
    (∃ (s : State) (b : Fin 4) (r : Fin 17) (line : LineNo), s.powered = true ∧ ∃ (who : Option (Fin 17)), s.fencedBasin b.val = false ∧
    s.coherentIn (b.val) (BitVec.toNat line) = true ∧ s.dramServes (64 * BitVec.toNat line) = true ∧ ∃ (x : List (Option Byte)) (y : BitVec 8),
    x.length = 64) ∧
    (∃ (s : State) (b : Fin 4) (r : Fin 17) (line : LineNo), s.powered = true ∧ ∃ (n : ℕ) (keep : Bool) (who : Option (Fin 17)) (x : List
    (Option Byte)) (y : BitVec 8) (set : BitVec 11), s.fencedBasin b.val = false ∧ 16 ≤ n) ∧
    (∃ (s : State) (b : Fin 4) (r : Fin 17) (line : LineNo), s.powered = true ∧ ∃ (t : HomeTxn), s.fencedBasin b.val = false ∧ (s.homeLine
    (b.val) (BitVec.toNat line)).txn = some t ∧ t.busy ≠ Busy.f ∧ t.busy.snoop = Snoop.s) ∧
    (∃ (s : State) (b : Fin 4) (r : Fin 17) (line : LineNo), s.powered = true ∧ ∃ (t : HomeTxn), s.fencedBasin b.val = false ∧ (s.homeLine
    (b.val) (BitVec.toNat line)).txn = some t ∧ t.busy ≠ Busy.f ∧ t.busy.snoop = Snoop.i) :=
  ⟨
    ⟨ring0, 0, 0, lineA, by decide +kernel, by decide +kernel, (ring0.takeWay (stopPond ↑0 ↑0) (BitVec.toNat lineA)).1.the, (ring0.takeWay
    (stopPond ↑0 ↑0) (BitVec.toNat lineA)).2, by decide +kernel⟩,
    ⟨ringL L2St.s, 0, 0, lineA, by decide +kernel⟩,
    ⟨ringL L2St.m, 0, 0, lineA, by decide +kernel, by decide +kernel, true, by decide +kernel⟩,
    ⟨ringL L2St.s, 0, 0, lineA, by decide +kernel⟩,
    ⟨ring0, 0, 0, lineA, by decide +kernel, none, by decide +kernel, by decide +kernel, by decide +kernel, List.replicate 64 (some 1), 0,
    by decide +kernel⟩,
    ⟨ring0, 0, 0, lineA, by decide +kernel, 16, true, none, List.replicate 64 (some 1), 0, 5, by decide +kernel⟩,
    ⟨ringT Busy.s, 0, 0, lineA, by decide +kernel, ((ringT Busy.s).homeLine (↑0) (BitVec.toNat lineA)).txn.the, by decide +kernel⟩,
    ⟨ringT Busy.m, 0, 0, lineA, by decide +kernel, ((ringT Busy.m).homeLine (↑0) (BitVec.toNat lineA)).txn.the, by decide +kernel⟩⟩

theorem witness_RingRequests_2 :
    (∃ (s : State) (b : Fin 4) (r : Fin 17) (line : LineNo), s.powered = true ∧ ∃ (t : HomeTxn), s.fencedBasin b.val = false ∧ (s.homeLine
    (b.val) (BitVec.toNat line)).txn = some t ∧ t.busy ≠ Busy.f ∧ t.busy.snoop = Snoop.d) ∧
    (∃ (s : State) (b : Fin 4) (r : Fin 17) (line : LineNo), s.powered = true ∧ ∃ (t : HomeTxn), s.fencedBasin b.val = false ∧ (s.homeLine
    (b.val) (BitVec.toNat line)).txn = some t ∧ t.busy ≠ Busy.f ∧ ∃ (n : ℕ), 0 < n ∧ n < 16) ∧
    (∃ (s : State) (b : Fin 4) (r : Fin 17) (line : LineNo), s.powered = true ∧ let p := stopPond b.val r.val; ∃ (set : BitVec 11) (t :
    HomeTxn), (s.homeLine (b.val) (flushKey set.toNat)).txn = some t ∧ Tab.get (fun (x : ℕ) => none) t.answers r.val = none ∧ (s.basin
    b.val).flights = [] ∧ s.linesOfSet p set.toNat = []) ∧
    (∃ (s : State) (b : Fin 4) (r : Fin 17) (line : LineNo), s.powered = true ∧ ∃ (n : Nacked), s.fencedBasin b.val = false ∧ (s.basin
    b.val).nacked = [n] ∧ n.msg.who = some r ∧ n.line = line ∧ (s.basin b.val).flights = [] ∧ elapsed s.dt n.since (48 * 2 ^ min n.count 6) =
    true) ∧
    (∃ (s : State) (b : Fin 4) (r : Fin 17) (line : LineNo), s.powered = true ∧ ∃ (set : BitVec 11), s.fencedBasin b.val = false ∧ s.bit
    (SF_CTL.SCRUB_EN b.val) = true) ∧
    (∃ (s : State) (b : Fin 4) (r : Fin 17) (line : LineNo), s.powered = true ∧ s.fencedBasin b.val = false ∧ s.bit (BASIN_CTL.EN b.val) =
    false) ∧
    (∃ (s : State) (b : Fin 4) (r : Fin 17) (line : LineNo), s.powered = true ∧ s.fencedBasin b.val = false ∧ s.bit (BASIN_CTL.EN b.val) = true) ∧
    (∃ (s : State) (b : Fin 4) (r : Fin 17) (line : LineNo), s.powered = true ∧ s.fencedBasin b.val = true) :=
  ⟨
    ⟨ringT Busy.d, 0, 0, lineA, by decide +kernel, ((ringT Busy.d).homeLine (↑0) (BitVec.toNat lineA)).txn.the, by decide +kernel⟩,
    ⟨ringT Busy.s, 0, 0, lineA, by decide +kernel, ((ringT Busy.s).homeLine (↑0) (BitVec.toNat lineA)).txn.the, by decide +kernel,
    by decide +kernel, by decide +kernel, 1, by decide +kernel⟩,
    ⟨ringF, 0, 0, lineA, by decide +kernel, 5, (ringF.homeLine (↑0) (flushKey (BitVec.toNat (5 : BitVec 11)))).txn.the, by decide +kernel⟩,
    ⟨ringN, 0, 0, lineA, by decide +kernel, (ringN.basin ↑0).nacked.first, by decide +kernel⟩,
    ⟨ring0, 0, 0, lineA, by decide +kernel, 5, by decide +kernel⟩,
    ⟨ring0.setFld (BASIN_CTL.EN 0) 0, 0, 0, lineA, by decide +kernel⟩,
    ⟨ring0, 0, 0, lineA, by decide +kernel⟩,
    ⟨ringDown, 0, 0, lineA, by decide +kernel⟩⟩

theorem witness_RingAndSnoopAnswers_1 :
    (∃ (s : State) (b : Fin 4) (r : Fin 17) (line : LineNo) (m : RingMsg) (seq : ℕ) (rest : List Flight), s.powered = true ∧ s.fencedBasin b.val
    = false ∧ (s.basin b.val).flights = { dst := some r, line := line, msg := m, seq := seq } :: rest ∧ let p := stopPond b.val r.val;
    let l := s.l2 p (BitVec.toNat line); ∃ (d : List Byte) (x : BitVec 8), m = RingMsg.dataS d x ∧ l.st = L2St.isd) ∧
    (∃ (s : State) (b : Fin 4) (r : Fin 17) (line : LineNo) (m : RingMsg) (seq : ℕ) (rest : List Flight), s.powered = true ∧ s.fencedBasin b.val
    = false ∧ (s.basin b.val).flights = { dst := some r, line := line, msg := m, seq := seq } :: rest ∧ let p := stopPond b.val r.val;
    let l := s.l2 p (BitVec.toNat line); ∃ (d : List Byte) (x : BitVec 8), m = RingMsg.dataE d x ∧ l.st = L2St.isd) ∧
    (∃ (s : State) (b : Fin 4) (r : Fin 17) (line : LineNo) (m : RingMsg) (seq : ℕ) (rest : List Flight), s.powered = true ∧ s.fencedBasin b.val
    = false ∧ (s.basin b.val).flights = { dst := some r, line := line, msg := m, seq := seq } :: rest ∧ let p := stopPond b.val r.val;
    let l := s.l2 p (BitVec.toNat line); ∃ (d : List Byte) (x : BitVec 8), m = RingMsg.dataM d x ∧ (l.st = L2St.imd ∨ l.st = L2St.smg)) ∧
    (∃ (s : State) (b : Fin 4) (r : Fin 17) (line : LineNo) (m : RingMsg) (seq : ℕ) (rest : List Flight), s.powered = true ∧ s.fencedBasin b.val
    = false ∧ (s.basin b.val).flights = { dst := some r, line := line, msg := m, seq := seq } :: rest ∧ let p := stopPond b.val r.val;
    let l := s.l2 p (BitVec.toNat line); m = RingMsg.grant ∧ l.st = L2St.smg) ∧
    (∃ (s : State) (b : Fin 4) (r : Fin 17) (line : LineNo) (m : RingMsg) (seq : ℕ) (rest : List Flight), s.powered = true ∧ s.fencedBasin b.val
    = false ∧ (s.basin b.val).flights = { dst := some r, line := line, msg := m, seq := seq } :: rest ∧ let p := stopPond b.val r.val;
    let l := s.l2 p (BitVec.toNat line); ∃ (keep : Bool) (k : Bool), m = RingMsg.wback k ∧ l.st = L2St.mia keep) ∧
    (∃ (s : State) (b : Fin 4) (r : Fin 17) (line : LineNo) (m : RingMsg) (seq : ℕ) (rest : List Flight), s.powered = true ∧ s.fencedBasin b.val
    = false ∧ (s.basin b.val).flights = { dst := some r, line := line, msg := m, seq := seq } :: rest ∧ let p := stopPond b.val r.val;
    let l := s.l2 p (BitVec.toNat line); ∃ (k : Bool), m = RingMsg.wback k ∧ l.st = L2St.iia) ∧
    (∃ (s : State) (b : Fin 4) (r : Fin 17) (line : LineNo) (m : RingMsg) (seq : ℕ) (rest : List Flight), s.powered = true ∧ s.fencedBasin b.val
    = false ∧ (s.basin b.val).flights = { dst := some r, line := line, msg := m, seq := seq } :: rest ∧ let p := stopPond b.val r.val;
    let l := s.l2 p (BitVec.toNat line); m = RingMsg.wbackStale ∧ l.st = L2St.iia) ∧
    (∃ (s : State) (b : Fin 4) (r : Fin 17) (line : LineNo) (m : RingMsg) (seq : ℕ) (rest : List Flight), s.powered = true ∧ s.fencedBasin b.val
    = false ∧ (s.basin b.val).flights = { dst := some r, line := line, msg := m, seq := seq } :: rest ∧ let p := stopPond b.val r.val;
    let l := s.l2 p (BitVec.toNat line); m = RingMsg.wbackStale ∧ l.st = L2St.s) :=
  ⟨
    ⟨ringM (RingMsg.dataS (zeros 64) 0) L2St.isd, 0, 0, lineA, RingMsg.dataS (zeros 64) 0, 0, ((ringM (RingMsg.dataS (zeros 64) 0)
    L2St.isd).basin ↑0).flights.tail, by decide +kernel, by decide +kernel, by decide +kernel, zeros 64, 0, by decide +kernel⟩,
    ⟨ringM (RingMsg.dataE (zeros 64) 0) L2St.isd, 0, 0, lineA, RingMsg.dataE (zeros 64) 0, 0, ((ringM (RingMsg.dataE (zeros 64) 0)
    L2St.isd).basin ↑0).flights.tail, by decide +kernel, by decide +kernel, by decide +kernel, zeros 64, 0, by decide +kernel⟩,
    ⟨ringM (RingMsg.dataM (zeros 64) 0) L2St.imd, 0, 0, lineA, RingMsg.dataM (zeros 64) 0, 0, ((ringM (RingMsg.dataM (zeros 64) 0)
    L2St.imd).basin ↑0).flights.tail, by decide +kernel, by decide +kernel, by decide +kernel, zeros 64, 0, by decide +kernel⟩,
    ⟨ringM RingMsg.grant L2St.smg, 0, 0, lineA, RingMsg.grant, 0, ((ringM RingMsg.grant L2St.smg).basin ↑0).flights.tail, by decide +kernel⟩,
    ⟨ringM (RingMsg.wback true) (L2St.mia true), 0, 0, lineA, RingMsg.wback true, 0, ((ringM (RingMsg.wback true) (L2St.mia true)).basin
    ↑0).flights.tail, by decide +kernel, by decide +kernel, by decide +kernel, true, true, by decide +kernel⟩,
    ⟨ringM (RingMsg.wback true) L2St.iia, 0, 0, lineA, RingMsg.wback true, 0, ((ringM (RingMsg.wback true) L2St.iia).basin ↑0).flights.tail,
    by decide +kernel, by decide +kernel, by decide +kernel, true, by decide +kernel⟩,
    ⟨ringM RingMsg.wbackStale L2St.iia, 0, 0, lineA, RingMsg.wbackStale, 0, ((ringM RingMsg.wbackStale L2St.iia).basin ↑0).flights.tail,
    by decide +kernel⟩,
    ⟨ringM RingMsg.wbackStale L2St.s, 0, 0, lineA, RingMsg.wbackStale, 0, ((ringM RingMsg.wbackStale L2St.s).basin ↑0).flights.tail,
    by decide +kernel⟩⟩

theorem witness_RingAndSnoopAnswers_2 :
    (∃ (s : State) (b : Fin 4) (r : Fin 17) (line : LineNo) (m : RingMsg) (seq : ℕ) (rest : List Flight), s.powered = true ∧ s.fencedBasin b.val
    = false ∧ (s.basin b.val).flights = { dst := some r, line := line, msg := m, seq := seq } :: rest ∧ let p := stopPond b.val r.val;
    let l := s.l2 p (BitVec.toNat line); ∃ (t : ℕ), m = RingMsg.nack t ∧ (l.st = L2St.isd ∨ l.st = L2St.imd ∨ l.st = L2St.smg)) ∧
    (∃ (s : State) (b : Fin 4) (r : Fin 17) (line : LineNo) (m : RingMsg) (seq : ℕ) (rest : List Flight), s.powered = true ∧ s.fencedBasin b.val
    = false ∧ (s.basin b.val).flights = { dst := some r, line := line, msg := m, seq := seq } :: rest ∧ ∃ (d : List Byte) (x : BitVec 8), m =
    RingMsg.udata d x) ∧
    (∃ (s : State) (b : Fin 4) (r : Fin 17) (line : LineNo) (m : RingMsg) (seq : ℕ) (rest : List Flight), s.powered = true ∧ s.fencedBasin b.val
    = false ∧ (s.basin b.val).flights = { dst := some r, line := line, msg := m, seq := seq } :: rest ∧ m = RingMsg.cmp) ∧
    (∃ (s : State) (b : Fin 4) (r : Fin 17) (line : LineNo), let p := stopPond b.val r.val; let l := s.l2 p (BitVec.toNat line); s.fld
    (POND_STAT.ROLE p) ≠ 2 ∧ (l.st = L2St.s ∨ l.st = L2St.e ∨ l.st = L2St.m) ∧ l.st ≠ L2St.m) ∧
    (∃ (s : State) (b : Fin 4) (r : Fin 17) (line : LineNo), let p := stopPond b.val r.val; let l := s.l2 p (BitVec.toNat line); s.fld
    (POND_STAT.ROLE p) ≠ 2 ∧ (l.st = L2St.s ∨ l.st = L2St.e ∨ l.st = L2St.m) ∧ l.st = L2St.m) ∧
    (∃ (s : State) (b : Fin 4) (r : Fin 17) (line : LineNo), let p := stopPond b.val r.val; let l := s.l2 p (BitVec.toNat line); s.fld
    (POND_STAT.ROLE p) ≠ 2 ∧ (l.st = L2St.s ∨ l.st = L2St.e ∨ l.st = L2St.m) ∧ ∃ (k : Snoop) (q : ℕ) (a : ℕ), q ≠ p ∨ a ≠ BitVec.toNat line) :=
  ⟨
    ⟨ringM (RingMsg.nack 1) L2St.isd, 0, 0, lineA, RingMsg.nack 1, 0, ((ringM (RingMsg.nack 1) L2St.isd).basin ↑0).flights.tail,
    by decide +kernel, by decide +kernel, by decide +kernel, 1, by decide +kernel⟩,
    ⟨ringM (RingMsg.udata (zeros 64) 0) L2St.i, 0, 0, lineA, RingMsg.udata (zeros 64) 0, 0, ((ringM (RingMsg.udata (zeros 64) 0) L2St.i).basin
    ↑0).flights.tail, by decide +kernel, by decide +kernel, by decide +kernel, zeros 64, 0, by decide +kernel⟩,
    ⟨ringM RingMsg.cmp L2St.i, 0, 0, lineA, RingMsg.cmp, 0, ((ringM RingMsg.cmp L2St.i).basin ↑0).flights.tail, by decide +kernel⟩,
    ⟨ringM RingMsg.wbackStale L2St.s, 0, 0, lineA, by decide +kernel⟩,
    ⟨ringL L2St.m, 0, 0, lineA, by decide +kernel⟩,
    ⟨ringM RingMsg.wbackStale L2St.s, 0, 0, lineA, by decide +kernel, by decide +kernel, Snoop.s, 1, 1, by decide +kernel⟩⟩

theorem witness_MemoryChannels_1 :
    (∃ (s : State) (c : Fin 8), s.powered = true ∧ s.mcState c.val = 5) ∧
    (∃ (s : State) (c : Fin 8), s.powered = true ∧ s.mcState c.val = 2 ∧ s.bit (MC_CTL.EN c.val) = true ∧ s.bit (MC_TRAIN.BUSY c.val) = true) ∧
    (∃ (s : State) (c : Fin 8), s.powered = true ∧ s.mcState c.val = 2 ∧ s.bit (MC_CTL.EN c.val) = false) ∧
    (∃ (s : State) (c : Fin 8), s.powered = true ∧ s.mcState c.val = 2 ∧ s.bit (MC_CTL.EN c.val) = true ∧ s.bit (MC_TRAIN.BUSY c.val) = false) ∧
    (∃ (s : State) (c : Fin 8), s.powered = true ∧ s.mcState c.val = 2 ∧ c.val ≤ 1 ∧ ∃ (low : Bool), let n := (s.mc c.val).nextRank; n < 4 ∧
    (s.fld (MC_RANK.PRESENT c.val)).testBit n = true) ∧
    (∃ (s : State) (c : Fin 8), s.powered = true ∧ s.mcState c.val = 2 ∧ s.bit (MC_CTL.SCRUB_EN c.val) = true ∧ s.storedAt (c.val) (64 * (s.mc
    c.val).scrubBlk) = none ∧ 64 * ((s.mc c.val).scrubBlk + 1) < s.capacity c.val) ∧
    (∃ (s : State) (c : Fin 8), s.powered = true ∧ s.mcState c.val = 2 ∧ ∃ (i : BitVec 6), s.rgnBusy = false ∧ (s.region i.toNat).valid = true) ∧
    (∃ (s : State) (c : Fin 8), s.powered = true ∧ s.mcState c.val = 2 ∧ ∃ (i : BitVec 6), s.rgnBusy = false ∧
    let u := s.setFld (MC_RGN_SEL.INDEX c.val) i.toNat; (s.region i.toNat).valid = false ∧ u.rgnRefusal (u.rgnWindow c.val) ≠ 0) :=
  ⟨
    ⟨mcOff, 0, by decide +kernel⟩,
    ⟨mcTrains, 0, by decide +kernel⟩,
    ⟨mcStopped, 0, by decide +kernel⟩,
    ⟨mcOn, 0, by decide +kernel⟩,
    ⟨mcOn, 0, by decide +kernel, by decide +kernel, by decide +kernel, true, by decide +kernel⟩,
    ⟨mcOn, 0, by decide +kernel⟩,
    ⟨mcRegion, 0, by decide +kernel, by decide +kernel, 0, by decide +kernel⟩,
    ⟨mcRegion, 0, by decide +kernel, by decide +kernel, 1, by decide +kernel⟩⟩

theorem witness_MemoryChannels_2 :
    (∃ (s : State) (c : Fin 8), s.powered = true ∧ s.mcState c.val = 2 ∧ ∃ (i : BitVec 6), s.rgnBusy = false ∧
    let u := s.setFld (MC_RGN_SEL.INDEX c.val) i.toNat; (s.region i.toNat).valid = false ∧ u.rgnRefusal (u.rgnWindow c.val) = 0) ∧
    (∃ (s : State) (c : Fin 8), s.powered = true ∧ s.mcState c.val ≠ 2 ∧ s.mcState c.val ≠ 3) ∧
    (∃ (s : State) (c : Fin 8), s.powered = true ∧ ∃ (t : BitVec 8), let u := s.setFld (MC_TEMP.CUR_T c.val) t.toNat; (s.mc c.val).drifted =
    false ∧ u.fld (MC_TEMP.DRIFT_THR c.val) ≤ (u.sfld (MC_TEMP.CUR_T c.val) - u.sfld (MC_TEMP.TRAIN_T c.val)).natAbs) ∧
    (∃ (s : State) (c : Fin 8), s.powered = true ∧ s.bit (MC_TRAIN.BUSY c.val) = false) ∧
    (∃ (s : State) (c : Fin 8), s.powered = true ∧ ∃ (eyes : List (BitVec 8 × BitVec 8)), s.bit (MC_TRAIN.BUSY c.val) = true ∧ (s.mc
    c.val).stopping = false ∧ (∀ e ∈ List.take 10 eyes, s.fld (MC_TRAIN.MIN_EYE c.val) ≤ e.1.toNat ∧ s.fld (MC_TRAIN.MIN_EYE c.val) ≤ e.2.toNat)
    ∧ eyes.length = 10 ∧ (s.mc c.val).trainRank < 4) ∧
    (∃ (s : State) (c : Fin 8), s.powered = true ∧ ((s.mc c.val).mig = none ∨ (s.fld PIN_STAT.LEVEL).testBit 6 = false)) ∧
    (∃ (s : State) (c : Fin 8), s.powered = true ∧ ∃ (src : ℕ) (tgt : ℕ) (next : ℕ), (s.mc c.val).mig = some (src, tgt, next) ∧ s.mcState c.val
    = 2 ∧ (s.fld PIN_STAT.LEVEL).testBit 6 = true ∧ (s.mc c.val).serials.length ≤ src ∧ s.rankBytes c.val ≤ 64 * (next + 1) ∧ s.storedAt (c.val)
    ((List.findIdx? (fun (r : ℕ) => r == src) (s.logicalRanks c.val)).getD 0 * s.rankBytes c.val + 64 * next) = none) ∧
    (∃ (s : State) (c : Fin 8), s.powered = true ∧ s.dram.filling = none) :=
  ⟨
    ⟨mcOn, 0, by decide +kernel, by decide +kernel, 0, by decide +kernel⟩,
    ⟨mcOff, 0, by decide +kernel⟩,
    ⟨mcOff, 0, by decide +kernel, 120, by decide +kernel⟩,
    ⟨mcOff, 0, by decide +kernel⟩,
    ⟨mcTrains, 0, by decide +kernel, List.replicate 10 (255, 255), by decide +kernel, by decide +kernel,
    (by intro e h; rw [List.eq_of_mem_replicate (List.mem_of_mem_take h)]; decide +kernel), by decide +kernel⟩,
    ⟨mcOff, 0, by decide +kernel⟩,
    ⟨mcMig, 0, by decide +kernel, (mcMig.mc ↑0).mig.the.1, (mcMig.mc ↑0).mig.the.2.1, (mcMig.mc ↑0).mig.the.2.2, by decide +kernel⟩,
    ⟨mcOff, 0, by decide +kernel⟩⟩

theorem witness_MemoryChannels_3 :
    ∃ (s : State) (c : Fin 8), s.powered = true ∧ ∃ (i : ℕ) (k : ℕ), s.dram.filling = some (i, k) :=
    ⟨mcFills, 0, by decide +kernel, mcFills.dram.filling.the.1, mcFills.dram.filling.the.2, by decide +kernel⟩

theorem witness_FaultBits :
    (∃ (s : State) (b : FaultBit), s.bit b.fld = false ∧ b.row.cls = Cls.d ∧ s.holds b.blk b.inst Cls.d = false) ∧
    (∃ (s : State) (b : FaultBit), s.bit b.fld = false ∧ b.row.cls = Cls.s) ∧
    (∃ (s : State) (b : FaultBit), s.bit b.fld = false) ∧
    (∃ (s : State) (b : FaultBit), s.bit b.fld = true) ∧
    (∃ (s : State) (b : FaultBit) (c : Cls), s.holds b.blk b.inst c = true ∧ c ≠ Cls.s) ∧
    (∃ (s : State) (b : FaultBit), s.bit b.fld = false ∧ b.row.cls = Cls.c ∧ s.holds b.blk b.inst Cls.c = false) ∧
    (∃ (s : State) (b : FaultBit), s.bit b.fld = true ∧ (if b.row.counts = true then s.actsAs b.blk b.inst 3 b.row.cls else b.row.cls) =
    b.row.cls) :=
  ⟨
    ⟨ready, Flt.FC_DOWN 0, by decide +kernel⟩,
    ⟨ready, Flt.TIME_TBCLK_LOSS, by decide +kernel⟩,
    ⟨ready, Flt.DEV_REG_TMO, by decide +kernel⟩,
    ⟨ready.raise (Flt.FC_DOWN 0), Flt.FC_DOWN 0, by decide +kernel⟩,
    ⟨ready.raise (Flt.POND_PM_UE 0), Flt.POND_PM_UE 0, Cls.r, by decide +kernel⟩,
    ⟨ready.raise (Flt.POND_PM_UE 0), Flt.POND_PM_CE 0, by decide +kernel⟩,
    ⟨ready.raise Flt.TIME_REGPAR, Flt.TIME_REGPAR, by decide +kernel⟩⟩

theorem witness_ServiceCommands_1 :
    (∃ (s : State), s.powered = true ∧ ∃ (ch : Fin 96) (id : ℕ), s.recOf (ch.val) id = none) ∧
    (∃ (s : State), s.powered = true ∧ s.fwRuns = true ∧ s.svc.waiting = [] ∧ s.upPort 0 = false) ∧
    (∃ (s : State), s.powered = true ∧ ∃ (blk : Byte) (inst : Byte) (bit : Byte) (a : AckDue), s.ackDue blk inst bit = some a ∧ s.fwRuns = true
    ∧ a.byFirmware = true ∧ a.cls = 0 ∧ s.bit SVC_FLTCTL.C_AUTO = true ∧ s.irqOn a.bitOf = true) ∧
    (∃ (s : State), s.powered = true ∧ ∃ (blk : Byte) (inst : Byte) (bit : Byte) (a : AckDue), s.ackDue blk inst bit = some a ∧ s.fwRuns = true
    ∧ a.byFirmware = true ∧ ∃ (t : Word), a.cls = 1 ∧ a.at_ = some t ∧ s.bit SVC_FLTCTL.R_AUTO = true ∧ elapsed s.dt t (usTicks (1000 * s.fld
    SVC_FLTCTL.R_HOLD)) = true) ∧
    (∃ (s : State), s.powered = true ∧ ∃ (p : Fin 68) (ids : List (BitVec 48)), s.svc.tarnDue = []) ∧
    (∃ (s : State), s.powered = true ∧ s.bit SVC_STAT.STANDBY = false) ∧
    (∃ (s : State), s.powered = true ∧ s.bit SVC_STAT.STANDBY = true) ∧
    (∃ (s : State), s.powered = true ∧ s.pinHigh 7 = true ∧ s.bit CAP_CTL.ARM = false) :=
  ⟨
    ⟨svcAck 0, by decide +kernel, 0, 1, by decide +kernel⟩,
    ⟨svcAck 0, by decide +kernel⟩,
    ⟨svcAck 0, by decide +kernel, 2, 0, 2, ((svcAck 0).ackDue 2 0 2).the, by decide +kernel⟩,
    ⟨svcAck 1, by decide +kernel, 0, 0, 0, ((svcAck 1).ackDue 0 0 0).the, by decide +kernel, by decide +kernel, by decide +kernel, ((svcAck
    1).ackDue 0 0 0).the.at_.the, by decide +kernel⟩,
    ⟨svcAck 0, by decide +kernel, 0, [], by decide +kernel⟩,
    ⟨svcAck 0, by decide +kernel⟩,
    ⟨svcStand, by decide +kernel⟩,
    ⟨svcAck 0, by decide +kernel⟩⟩

theorem witness_ServiceCommands_2 :
    (∃ (s : State), s.powered = true ∧ s.pinHigh 6 = true ∧ s.bit CAP_CTL.ARM = false) ∧
    (∃ (s : State), s.powered = true ∧ s.pinHigh 6 = false) ∧
    (∃ (s : State), s.powered = true ∧ s.svc.pfwAt = none) ∧
    (∃ (s : State), s.powered = true ∧ ∃ (t : Word) (r : List Byte), s.svc.pfwAt = some t ∧ s.tree.heldTail = some r ∧ 24 ≤ r.length ∧
    s.isWorker = false) ∧
    (∃ (s : State), s.powered = true ∧ s.bit SVC_STAT.SAFE = true ∧ ∃ (c : ℕ) (b : ℕ) (i : ℕ), c ≠ 5 ∨ s.fld SVC_SAFE.CAUSE ≠ 4) :=
  ⟨
    ⟨svcAck 0, by decide +kernel⟩,
    ⟨pinsDown, by decide +kernel⟩,
    ⟨svcAck 0, by decide +kernel⟩,
    ⟨svcPfw, by decide +kernel, svcPfw.svc.pfwAt.the, svcPfw.tree.heldTail.the, by decide +kernel⟩,
    ⟨svcSafe, by decide +kernel, by decide +kernel, 1, 1, 1, by decide +kernel⟩⟩

theorem witness_SecurityCommands_1 :
    (∃ (s : State), s.powered = true ∧ ∃ (k : Fin 16), s.bit (SEC_PG_CTL.EN k.val) = false ∧ (s.bit (SEC_PG_CTL.KBASE k.val) = false ∨ s.bit
    SEC_STAT.SYS_VALID = true)) ∧
    (∃ (s : State), s.powered = true ∧ ∃ (k : Fin 16), s.bit (SEC_PG_CTL.EN k.val) = false ∧ s.bit (SEC_PG_CTL.KBASE k.val) = true ∧ s.bit
    SEC_STAT.SYS_VALID = false) ∧
    (∃ (s : State), s.powered = true ∧ ∃ (k : Fin 16), s.bit (SEC_PG_CTL.EN k.val) = true) ∧
    (∃ (s : State), s.powered = true ∧ ∃ (k : Fin 16), s.pageState k.val = 1) ∧
    (∃ (s : State), s.powered = true ∧ ∃ (k : Fin 16), s.pageState k.val = 3 ∧ s.pageBusy k.val = false) ∧
    (∃ (s : State), s.powered = true ∧ ∃ (v : Word32), (∀ k < 16, s.bit (SEC_PG_CTL.EN k) = false ∨ s.bit (SEC_PG_CTL.KBASE k) = false) ∧
    s.sec.secret.length < 7) ∧
    (∃ (s : State), s.powered = true ∧ ∃ (v : Word32), (∀ k < 16, s.bit (SEC_PG_CTL.EN k) = false ∨ s.bit (SEC_PG_CTL.KBASE k) = false) ∧
    s.sec.secret.length = 7) ∧
    (∃ (s : State), s.powered = true ∧ ∃ (u : State), u = ({ s with sec := { s.sec with secret := [] } }.setFld SEC_KEYLD_CTL.WIDX 0).setFld
    SEC_STAT.SYS_VALID 0) :=
  ⟨
    ⟨sec7, by decide +kernel, 0, by decide +kernel⟩,
    ⟨secSys, by decide +kernel, 0, by decide +kernel⟩,
    ⟨secPg 0, by decide +kernel, 0, by decide +kernel⟩,
    ⟨secPg 1, by decide +kernel, 0, by decide +kernel⟩,
    ⟨secPg 3, by decide +kernel, 0, by decide +kernel⟩,
    ⟨secPg 0, by decide +kernel, 5, by decide +kernel⟩,
    ⟨sec7, by decide +kernel, 5, by decide +kernel⟩,
    ⟨secPg 0, by decide +kernel, _, rfl⟩⟩

theorem witness_SecurityCommands_2 :
    (∃ (s : State), s.powered = true ∧ ∃ (t : Word), s.sec.rngBack = some t ∧ elapsed s.dt t (usTicks 2000) = true) ∧
    (∃ (s : State), s.powered = true ∧ s.sec.rngReady = 0) ∧
    (∃ (s : State), s.powered = true ∧ 0 < s.sec.rngReady) ∧
    (∃ (s : State), s.powered = true ∧ ∃ (x : BitVec 1024), s.rngUp = true ∧ healthFails x = true) ∧
    (∃ (s : State), s.powered = true ∧ ∃ (v : Word32), s.bit SEC_SHA_CTL.BUSY = false) ∧
    (∃ (s : State), s.powered = true ∧ s.bit SEC_SHA_CTL.BUSY = true) :=
  ⟨
    ⟨secBack, by decide +kernel, secBack.sec.rngBack.the, by decide +kernel⟩,
    ⟨secPg 0, by decide +kernel⟩,
    ⟨secRng, by decide +kernel⟩,
    ⟨secPg 0, by decide +kernel, 446371678960830626287503741310750946166416432579510853360#1024, by decide +kernel⟩,
    ⟨secPg 0, by decide +kernel, 5, by decide +kernel⟩,
    ⟨secSha, by decide +kernel⟩⟩

theorem witness_HostBlock_1 :
    (∃ (s : State), s.powered = true ∧ ∃ (io : HostIo), s.host.d3 = true) ∧
    (∃ (s : State), s.powered = true ∧ ∃ (q : Fin 16) (v : BitVec 12) (p : QPair), s.isWorker = false ∧ s.qpair q.val = some p ∧ p.deleting =
    false ∧ p.size ≤ v.toNat) ∧
    (∃ (s : State), s.powered = true ∧ ∃ (q : Fin 16) (v : BitVec 12) (p : QPair), s.isWorker = false ∧ s.qpair q.val = some p ∧ p.deleting =
    false ∧ v.toNat < p.size ∧ (v.toNat + p.size - p.cqHead) % p.size ≤ p.unreleased) ∧
    (∃ (s : State), s.powered = true ∧ ∃ (q : Fin 16) (v : BitVec 12), s.isWorker = false ∧ s.qpair q.val = none) ∧
    (∃ (s : State), s.powered = true ∧ ∃ (q : Fin 16) (p : QPair), s.qpair q.val = some p ∧ 0 < p.unsent ∧ elapsed s.dt p.oldest (usTicks
    p.ctime) = true) ∧
    (∃ (s : State), s.powered = true ∧ s.bit HOST_CTL.EN = true) ∧
    (∃ (s : State), s.powered = true ∧ s.bit HOST_CTL.EN = false ∧ 2 ≤ s.fld AQ_CFG.SIZE) ∧
    (∃ (s : State), s.powered = true ∧ s.isWorker = true) :=
  ⟨
    ⟨hostD3, by decide +kernel, { reads := [], bad := [], head := 0 }, by decide +kernel⟩,
    ⟨hostQ, by decide +kernel, 0, 300, (hostQ.qpair ↑0).the, by decide +kernel⟩,
    ⟨hostQ, by decide +kernel, 0, 3, (hostQ.qpair ↑0).the, by decide +kernel⟩,
    ⟨hostOff, by decide +kernel, 0, 3, by decide +kernel⟩,
    ⟨hostCoal, by decide +kernel, 0, (hostCoal.qpair ↑0).the, by decide +kernel⟩,
    ⟨hostOn, by decide +kernel⟩,
    ⟨hostOff, by decide +kernel⟩,
    ⟨worker, by decide +kernel⟩⟩

theorem witness_HostBlock_2 :
    (∃ (s : State), s.powered = true ∧ ∃ (v : Fin 64), s.isWorker = false ∧ Tab.get (fun (x : ℕ) => false) s.host.msixPend v.val = true ∧
    s.host.d3 = false) ∧
    (∃ (s : State), s.powered = true ∧ ∃ (a : ℕ) (b : List Byte), s.host.d3 = false) ∧
    (∃ (s : State), s.powered = true ∧ elapsed s.dt s.host.lastDp (usTicks 10) = true) :=
  ⟨
    ⟨hostPend, by decide +kernel, 0, by decide +kernel⟩,
    ⟨hostQ, by decide +kernel, 65536, [1], by decide +kernel⟩,
    ⟨hostQ, by decide +kernel⟩⟩

theorem witness_CompletionsAndRefusals_1 :
    (∃ (e : CqEntry) (q : ℕ) (ph : Bool), e.status < 65536 ∧ e.detail < 65536 ∧ q < 256 ∧ e.device < 256 ∧ e.rbytes < 2 ^ 31 ∧ e.sqhd < 65536) ∧
    (∃ (s : State) (q : ℕ) (e : CqEntry) (p : QPair), s.qpair q = some p ∧ p.err = false ∧ s.host.d3 = false ∧ s.hostOk (p.cqBase + 32 *
    p.cqTail) 32 = true ∧ p.unsent + 1 < p.ccount) ∧
    (∃ (s : State) (q : ℕ) (e : CqEntry) (p : QPair), s.qpair q = some p ∧ p.err = false ∧ s.host.d3 = false ∧ s.hostOk (p.cqBase + 32 *
    p.cqTail) 32 = false) ∧
    (∃ (s : State) (c : HostCmd) (st : ℕ) (det : ℕ) (res : List Byte), c.routed = false ∧ c.sq < 16 ∧ res.length ≤ 16) ∧
    (∃ (s : State) (q : Fin 16) (op : ℕ) (c : HostCmd) (f : State → HostCmd → State), List.find? (fun (c : HostCmd) => c.sq % 16 == q.val &&
    s.mine c) s.host.accepted = some c ∧ c.opcode ≠ op) ∧
    (∃ (s : State) (q : Fin 16) (op : ℕ) (c : HostCmd) (f : State → HostCmd → State), List.find? (fun (c : HostCmd) => c.sq % 16 == q.val &&
    s.mine c) s.host.accepted = some c ∧ let u := s.startCmd c; let d := u.cmdNow c; c.opcode = op ∧ s.orderOk c = true ∧ s.unitFree c = true ∧
    u.resultFits d = false) ∧
    (∃ (s : State) (q : Fin 16) (op : ℕ) (c : HostCmd) (f : State → HostCmd → State), List.find? (fun (c : HostCmd) => c.sq % 16 == q.val &&
    s.mine c) s.host.accepted = some c ∧ let u := s.startCmd c; let d := u.cmdNow c; c.opcode = op ∧ s.orderOk c = true ∧ s.unitFree c = true ∧
    u.resultFits d = true ∧ u.pwr.phase ≠ Phase.ready ∧ beforeReady op = false) ∧
    (∃ (s : State) (q : Fin 16) (op : ℕ) (c : HostCmd) (f : State → HostCmd → State), List.find? (fun (c : HostCmd) => c.sq % 16 == q.val &&
    s.mine c) s.host.accepted = some c ∧ let u := s.startCmd c; let d := u.cmdNow c; c.opcode = op ∧ s.orderOk c = true ∧ s.unitFree c = true ∧
    u.resultFits d = true ∧ u.pwr.phase = Phase.ready ∧ u.bit SVC_STAT.SAFE = true ∧ unsafeCmd d = true) :=
  ⟨
    ⟨{ tag := 7, status := 66, detail := 3, sqhd := 5, device := 0, rbytes := 16, res := List.replicate 16 1 }, 0, true, by decide +kernel⟩,
    ⟨hostQ.setQpair 0 (some (newPair 65536 131072 16 3 0 4 0)), 0,
    { tag := 7, status := 66, detail := 3, sqhd := 5, device := 0, rbytes := 16, res := List.replicate 16 1 }, ((hostQ.setQpair 0 (some (newPair
    65536 131072 16 3 0 4 0))).qpair 0).the, by decide +kernel⟩,
    ⟨hostNoDma, 0, { tag := 7, status := 66, detail := 3, sqhd := 5, device := 0, rbytes := 16, res := List.replicate 16 1 }, (hostNoDma.qpair
    0).the, by decide +kernel⟩,
    ⟨hostQ, cmdA, 0, 0, List.replicate 16 1, by decide +kernel⟩,
    ⟨hc 515 (bs [0]), 0, 1026, cmdP 515 (bs [0]), fun s c => s.finishCmd c 0 0 [], by decide +kernel⟩,
    ⟨{ hc 515 (bs [0]) with host := { (hc 515 (bs [0])).host with accepted := [{ cmdP 515 [] with rbuf := false }] } }, 0, 515,
    { cmdP 515 [] with rbuf := false }, fun s c => s.finishCmd c 0 0 [], by decide +kernel⟩,
    ⟨{ hc 515 [] with pwr := { ready.pwr with phase := Phase.starting } }, 0, 515, cmdP 515 (bs [0]), fun s c => s.finishCmd c 0 0 [],
    by decide +kernel⟩,
    ⟨(hc 1026 []).setFld SVC_STAT.SAFE 1, 0, 1026, cmdP 1026 [], fun s c => s.finishCmd c 0 0 [], by decide +kernel⟩⟩

theorem witness_CompletionsAndRefusals_2 :
    ∃ (s : State) (q : Fin 16) (op : ℕ) (c : HostCmd) (f : State → HostCmd → State), List.find? (fun (c : HostCmd) => c.sq % 16 == q.val &&
    s.mine c) s.host.accepted = some c ∧ let u := s.startCmd c; let d := u.cmdNow c; c.opcode = op ∧ s.orderOk c = true ∧ s.unitFree c = true ∧
    u.resultFits d = true ∧ u.pwr.phase = Phase.ready ∧ u.bit SVC_STAT.SAFE = false ∧ u.expRefused d = true :=
    ⟨{ hc 3842 [] with host := { (hc 3842 []).host with expOff := true } }, 0, 3842, cmdP 3842 [], fun s c => s.finishCmd c 0 0 [],
    by decide +kernel⟩

theorem witness_DeviceHostAxisChannelCommands_1 :
    (∃ (s : State) (u : State) (q : Fin 16) (c : HostCmd) (op : ℕ), s.begins (q.val) op c u ∧ op = 1) ∧
    (∃ (s : State) (u : State) (q : Fin 16) (c : HostCmd) (op : ℕ), s.begins (q.val) op c u ∧ op = 2) ∧
    (∃ (s : State) (u : State) (q : Fin 16) (c : HostCmd) (op : ℕ), s.begins (q.val) op c u ∧ op = 3) ∧
    (∃ (s : State) (u : State) (q : Fin 16) (c : HostCmd) (op : ℕ), s.begins (q.val) op c u ∧ let p := c.params; op = 4 ∧ (u.worker (prm p 0
    1)).summary = none) ∧
    (∃ (s : State) (u : State) (q : Fin 16) (c : HostCmd) (op : ℕ), s.begins (q.val) op c u ∧ let p := c.params; op = 16 ∧ (u.qpair (prm p 0
    1)).isNone = true) ∧
    (∃ (s : State) (u : State) (q : Fin 16) (c : HostCmd) (op : ℕ), s.begins (q.val) op c u ∧ let p := c.params; op = 17 ∧ ∃ (x : QPair),
    u.qpair (prm p 0 1) = some x) ∧
    (∃ (s : State) (u : State) (q : Fin 16) (c : HostCmd) (op : ℕ), s.begins (q.val) op c u ∧ let p := c.params; op = 18 ∧ prm p 0 1 = 0) ∧
    (∃ (s : State) (u : State) (q : Fin 16) (c : HostCmd) (op : ℕ), s.begins (q.val) op c u ∧ let p := c.params; op = 19 ∧ u.bit
    HOST_STAT.BAR2_LOCKED = false ∧ prm p 1 1 = 0) :=
  ⟨
    ⟨hc 1 (bs []), hc 1 (bs []), 0, cmdP 1 (bs []), 1, by unfold Sys2Proof.Machine.State.begins; decide +kernel, by decide +kernel⟩,
    ⟨hc 2 (bs []), hc 2 (bs []), 0, cmdP 2 (bs []), 2, by unfold Sys2Proof.Machine.State.begins; decide +kernel, by decide +kernel⟩,
    ⟨hc 3 (bs [5]), hc 3 (bs [5]), 0, cmdP 3 (bs [5]), 3, by unfold Sys2Proof.Machine.State.begins; decide +kernel, by decide +kernel⟩,
    ⟨hc 4 (bs [3]), hc 4 (bs [3]), 0, cmdP 4 (bs [3]), 4, by unfold Sys2Proof.Machine.State.begins; decide +kernel, by decide +kernel⟩,
    ⟨hc 16 (bs [2, 1, 16, 0, 3, 1, 4, 0, 0, 0, 1]), hc 16 (bs [2, 1, 16, 0, 3, 1, 4, 0, 0, 0, 1]), 0, cmdP 16 (bs [2, 1, 16, 0, 3, 1, 4, 0, 0,
    0, 1]), 16, by unfold Sys2Proof.Machine.State.begins; decide +kernel, by decide +kernel⟩,
    ⟨hc 17 (bs [0]), hc 17 (bs [0]), 0, cmdP 17 (bs [0]), 17, by unfold Sys2Proof.Machine.State.begins; decide +kernel, by decide +kernel, ((hc
    17 (bs [0])).qpair (prm (cmdP 17 (bs [0])).params 0 1)).the, by decide +kernel⟩,
    ⟨hc 18 (bs [0]), hc 18 (bs [0]), 0, cmdP 18 (bs [0]), 18, by unfold Sys2Proof.Machine.State.begins; decide +kernel, by decide +kernel⟩,
    ⟨hc 19 (bs [2]), hc 19 (bs [2]), 0, cmdP 19 (bs [2]), 19, by unfold Sys2Proof.Machine.State.begins; decide +kernel, by decide +kernel⟩⟩

theorem witness_DeviceHostAxisChannelCommands_2 :
    (∃ (s : State) (u : State) (q : Fin 16) (c : HostCmd) (op : ℕ), s.begins (q.val) op c u ∧ op = 257) ∧
    (∃ (s : State) (u : State) (q : Fin 16) (c : HostCmd) (op : ℕ), s.begins (q.val) op c u ∧ let p := c.params; op = 258 ∧ (u.host.patterns.any
    fun (e : ℕ × ℕ × ℕ × ℕ) => e.1 == prm p 0 4) = false) ∧
    (∃ (s : State) (u : State) (q : Fin 16) (c : HostCmd) (op : ℕ), s.begins (q.val) op c u ∧ op = 259) ∧
    (∃ (s : State) (u : State) (q : Fin 16) (c : HostCmd) (op : ℕ), s.begins (q.val) op c u ∧ op = 260 ∧ u.host.patterns = []) ∧
    (∃ (s : State) (u : State) (q : Fin 16) (c : HostCmd) (op : ℕ), s.begins (q.val) op c u ∧ op = 261) ∧
    (∃ (s : State) (u : State) (q : Fin 16) (c : HostCmd) (op : ℕ), s.begins (q.val) op c u ∧ op = 513) ∧
    (∃ (s : State) (u : State) (q : Fin 16) (c : HostCmd) (op : ℕ), s.begins (q.val) op c u ∧ op = 514) ∧
    (∃ (s : State) (u : State) (q : Fin 16) (c : HostCmd) (op : ℕ), s.begins (q.val) op c u ∧ op = 515) :=
  ⟨
    ⟨hc 257 (bs [7]), hc 257 (bs [7]), 0, cmdP 257 (bs [7]), 257, by unfold Sys2Proof.Machine.State.begins; decide +kernel, by decide +kernel⟩,
    ⟨hc 258 (bs [7]), hc 258 (bs [7]), 0, cmdP 258 (bs [7]), 258, by unfold Sys2Proof.Machine.State.begins; decide +kernel, by decide +kernel⟩,
    ⟨hc 259 (bs []), hc 259 (bs []), 0, cmdP 259 (bs []), 259, by unfold Sys2Proof.Machine.State.begins; decide +kernel, by decide +kernel⟩,
    ⟨hc 260 (bs []), hc 260 (bs []), 0, cmdP 260 (bs []), 260, by unfold Sys2Proof.Machine.State.begins; decide +kernel, by decide +kernel⟩,
    ⟨hc 261 (bs []), hc 261 (bs []), 0, cmdP 261 (bs []), 261, by unfold Sys2Proof.Machine.State.begins; decide +kernel, by decide +kernel⟩,
    ⟨hc 513 (bs [0]), hc 513 (bs [0]), 0, cmdP 513 (bs [0]), 513, by unfold Sys2Proof.Machine.State.begins; decide +kernel, by decide +kernel⟩,
    ⟨hc 514 (bs [0]), hc 514 (bs [0]), 0, cmdP 514 (bs [0]), 514, by unfold Sys2Proof.Machine.State.begins; decide +kernel, by decide +kernel⟩,
    ⟨hc 515 (bs [0]), hc 515 (bs [0]), 0, cmdP 515 (bs [0]), 515, by unfold Sys2Proof.Machine.State.begins; decide +kernel, by decide +kernel⟩⟩

theorem witness_DeviceHostAxisChannelCommands_3 :
    (∃ (s : State) (u : State) (q : Fin 16) (c : HostCmd) (op : ℕ), s.begins (q.val) op c u ∧ op = 769) ∧
    (∃ (s : State) (u : State) (q : Fin 16) (c : HostCmd) (op : ℕ), s.begins (q.val) op c u ∧ op = 770) ∧
    (∃ (s : State) (u : State) (q : Fin 16) (c : HostCmd) (op : ℕ), s.begins (q.val) op c u ∧ op = 771) ∧
    (∃ (s : State) (u : State) (q : Fin 16) (c : HostCmd) (op : ℕ), s.begins (q.val) op c u ∧ op = 772) ∧
    (∃ (s : State) (u : State) (q : Fin 16) (c : HostCmd) (op : ℕ), s.begins (q.val) op c u ∧ op = 773) ∧
    (∃ (s : State) (u : State) (q : Fin 16) (c : HostCmd) (op : ℕ), s.begins (q.val) op c u ∧ op = 774) ∧
    (∃ (s : State) (u : State) (q : Fin 16) (c : HostCmd) (op : ℕ), s.begins (q.val) op c u ∧ op = 775) :=
  ⟨
    ⟨hc 769 (bs [1]), hc 769 (bs [1]), 0, cmdP 769 (bs [1]), 769, by unfold Sys2Proof.Machine.State.begins; decide +kernel, by decide +kernel⟩,
    ⟨hc 770 (bs [1]), hc 770 (bs [1]), 0, cmdP 770 (bs [1]), 770, by unfold Sys2Proof.Machine.State.begins; decide +kernel, by decide +kernel⟩,
    ⟨hc 771 (bs [1]), hc 771 (bs [1]), 0, cmdP 771 (bs [1]), 771, by unfold Sys2Proof.Machine.State.begins; decide +kernel, by decide +kernel⟩,
    ⟨hc 772 (bs [1]), hc 772 (bs [1]), 0, cmdP 772 (bs [1]), 772, by unfold Sys2Proof.Machine.State.begins; decide +kernel, by decide +kernel⟩,
    ⟨hc 773 (bs [1]), hc 773 (bs [1]), 0, cmdP 773 (bs [1]), 773, by unfold Sys2Proof.Machine.State.begins; decide +kernel, by decide +kernel⟩,
    ⟨hc 774 (bs [1]), hc 774 (bs [1]), 0, cmdP 774 (bs [1]), 774, by unfold Sys2Proof.Machine.State.begins; decide +kernel, by decide +kernel⟩,
    ⟨hc 775 (bs [1]), hc 775 (bs [1]), 0, cmdP 775 (bs [1]), 775, by unfold Sys2Proof.Machine.State.begins; decide +kernel, by decide +kernel⟩⟩

theorem witness_TaskMemoryPowerFaultSecurityCommands_1 :
    (∃ (s : State) (u : State) (q : Fin 16) (c : HostCmd) (op : ℕ), s.begins (q.val) op c u ∧ op = 1281) ∧
    (∃ (s : State) (u : State) (q : Fin 16) (c : HostCmd) (op : ℕ), s.begins (q.val) op c u ∧ op = 1282) ∧
    (∃ (s : State) (u : State) (q : Fin 16) (c : HostCmd) (op : ℕ), s.begins (q.val) op c u ∧ let p := c.params; op = 1283 ∧ u.bit (PM_CTL.EN
    (prm p 0 1)) = true) ∧
    (∃ (s : State) (u : State) (q : Fin 16) (c : HostCmd) (op : ℕ), s.begins (q.val) op c u ∧ op = 1284) ∧
    (∃ (s : State) (u : State) (q : Fin 16) (c : HostCmd) (op : ℕ), s.begins (q.val) op c u ∧ op = 1285) ∧
    (∃ (s : State) (u : State) (q : Fin 16) (c : HostCmd) (op : ℕ), s.begins (q.val) op c u ∧ op = 1286) ∧
    (∃ (s : State) (u : State) (q : Fin 16) (c : HostCmd) (op : ℕ), s.begins (q.val) op c u ∧ op = 1287) ∧
    (∃ (s : State) (u : State) (q : Fin 16) (c : HostCmd) (op : ℕ), s.begins (q.val) op c u ∧ let p := c.params; op = 2049 ∧ prm p 0 8 = 2 ∧
    u.pwr.request = 0 ∧ u.pwr.entryAt = none) :=
  ⟨
    ⟨hc 1281 (bs [0]), hc 1281 (bs [0]), 0, cmdP 1281 (bs [0]), 1281, by unfold Sys2Proof.Machine.State.begins; decide +kernel,
    by decide +kernel⟩,
    ⟨hc 1282 (bs [0]), hc 1282 (bs [0]), 0, cmdP 1282 (bs [0]), 1282, by unfold Sys2Proof.Machine.State.begins; decide +kernel,
    by decide +kernel⟩,
    ⟨hc 1283 (bs [0]), hc 1283 (bs [0]), 0, cmdP 1283 (bs [0]), 1283, by unfold Sys2Proof.Machine.State.begins; decide +kernel,
    by decide +kernel⟩,
    ⟨hc 1284 (bs [0]), hc 1284 (bs [0]), 0, cmdP 1284 (bs [0]), 1284, by unfold Sys2Proof.Machine.State.begins; decide +kernel,
    by decide +kernel⟩,
    ⟨hc 1285 (bs [0]), hc 1285 (bs [0]), 0, cmdP 1285 (bs [0]), 1285, by unfold Sys2Proof.Machine.State.begins; decide +kernel,
    by decide +kernel⟩,
    ⟨hc 1286 (bs [0, 0]), hc 1286 (bs [0, 0]), 0, cmdP 1286 (bs [0, 0]), 1286, by unfold Sys2Proof.Machine.State.begins; decide +kernel,
    by decide +kernel⟩,
    ⟨hc 1287 (bs [0]), hc 1287 (bs [0]), 0, cmdP 1287 (bs [0]), 1287, by unfold Sys2Proof.Machine.State.begins; decide +kernel,
    by decide +kernel⟩,
    ⟨hc 2049 (bs [2]), hc 2049 (bs [2]), 0, cmdP 2049 (bs [2]), 2049, by unfold Sys2Proof.Machine.State.begins; decide +kernel,
    by decide +kernel⟩⟩

theorem witness_TaskMemoryPowerFaultSecurityCommands_2 :
    (∃ (s : State) (u : State) (q : Fin 16) (c : HostCmd) (op : ℕ), s.begins (q.val) op c u ∧ op = 2050) ∧
    (∃ (s : State) (u : State) (q : Fin 16) (c : HostCmd) (op : ℕ), s.begins (q.val) op c u ∧ op = 2051) ∧
    (∃ (s : State) (u : State) (q : Fin 16) (c : HostCmd) (op : ℕ), s.begins (q.val) op c u ∧ let p := c.params; op = 1537 ∧ ∃ (a : ℕ), ackAddr
    (prm p 0 1) (if prm p 1 1 = 1 then 128 + prm p 2 2 else prm p 2 2) = some a) ∧
    (∃ (s : State) (u : State) (q : Fin 16) (c : HostCmd) (op : ℕ), s.begins (q.val) op c u ∧ op = 1538) ∧
    (∃ (s : State) (u : State) (q : Fin 16) (c : HostCmd) (op : ℕ), s.begins (q.val) op c u ∧ op = 1539) ∧
    (∃ (s : State) (u : State) (q : Fin 16) (c : HostCmd) (op : ℕ), s.begins (q.val) op c u ∧ op = 1540) ∧
    (∃ (s : State) (u : State) (q : Fin 16) (c : HostCmd) (op : ℕ), s.begins (q.val) op c u ∧ let p := c.params; op = 1541 ∧ prm p 0 8 = 0) ∧
    (∃ (s : State) (u : State) (q : Fin 16) (c : HostCmd) (op : ℕ), s.begins (q.val) op c u ∧ op = 1542) :=
  ⟨
    ⟨hc 2050 (bs [0]), hc 2050 (bs [0]), 0, cmdP 2050 (bs [0]), 2050, by unfold Sys2Proof.Machine.State.begins; decide +kernel,
    by decide +kernel⟩,
    ⟨hc 2051 (bs []), hc 2051 (bs []), 0, cmdP 2051 (bs []), 2051, by unfold Sys2Proof.Machine.State.begins; decide +kernel, by decide +kernel⟩,
    ⟨hc 1537 (bs [2, 0, 0]), hc 1537 (bs [2, 0, 0]), 0, cmdP 1537 (bs [2, 0, 0]), 1537,
    by unfold Sys2Proof.Machine.State.begins; decide +kernel, by decide +kernel, (ackAddr (prm (cmdP 1537 (bs [2, 0, 0])).params 0 1) (if prm
    (cmdP 1537 (bs [2, 0, 0])).params 1 1 = 1 then 128 + prm (cmdP 1537 (bs [2, 0, 0])).params 2 2 else prm (cmdP 1537 (bs [2, 0, 0])).params 2
    2)).the, by decide +kernel⟩,
    ⟨hc 1538 (bs []), hc 1538 (bs []), 0, cmdP 1538 (bs []), 1538, by unfold Sys2Proof.Machine.State.begins; decide +kernel, by decide +kernel⟩,
    ⟨hc 1539 (bs []), hc 1539 (bs []), 0, cmdP 1539 (bs []), 1539, by unfold Sys2Proof.Machine.State.begins; decide +kernel, by decide +kernel⟩,
    ⟨hc 1540 (bs [0]), hc 1540 (bs [0]), 0, cmdP 1540 (bs [0]), 1540, by unfold Sys2Proof.Machine.State.begins; decide +kernel,
    by decide +kernel⟩,
    ⟨hc 1541 (bs [0]), hc 1541 (bs [0]), 0, cmdP 1541 (bs [0]), 1541, by unfold Sys2Proof.Machine.State.begins; decide +kernel,
    by decide +kernel⟩,
    ⟨hc 1542 (bs [1]), hc 1542 (bs [1]), 0, cmdP 1542 (bs [1]), 1542, by unfold Sys2Proof.Machine.State.begins; decide +kernel,
    by decide +kernel⟩⟩

theorem witness_TaskMemoryPowerFaultSecurityCommands_3 :
    (∃ (s : State) (u : State) (q : Fin 16) (c : HostCmd) (op : ℕ), s.begins (q.val) op c u ∧ let p := c.params; op = 1543 ∧ prm p 0 2 = 0) ∧
    (∃ (s : State) (u : State) (q : Fin 16) (c : HostCmd) (op : ℕ), s.begins (q.val) op c u ∧ op = 1544) ∧
    (∃ (s : State) (u : State) (q : Fin 16) (c : HostCmd) (op : ℕ), s.begins (q.val) op c u ∧ op = 1545) ∧
    (∃ (s : State) (u : State) (q : Fin 16) (c : HostCmd) (op : ℕ), s.begins (q.val) op c u ∧ op = 1793) ∧
    (∃ (s : State) (u : State) (q : Fin 16) (c : HostCmd) (op : ℕ), s.begins (q.val) op c u ∧ let p := c.params; op = 1794 ∧ prm p 0 1 = 0) ∧
    (∃ (s : State) (u : State) (q : Fin 16) (c : HostCmd) (op : ℕ), s.begins (q.val) op c u ∧ op = 1795) ∧
    (∃ (s : State) (u : State) (q : Fin 16) (c : HostCmd) (op : ℕ), s.begins (q.val) op c u ∧ op = 1797) ∧
    (∃ (s : State) (u : State) (q : Fin 16) (c : HostCmd) (op : ℕ), s.begins (q.val) op c u ∧ op = 1798) :=
  ⟨
    ⟨hc 1543 (bs [0]), hc 1543 (bs [0]), 0, cmdP 1543 (bs [0]), 1543, by unfold Sys2Proof.Machine.State.begins; decide +kernel,
    by decide +kernel⟩,
    ⟨hc 1544 (bs [0]), hc 1544 (bs [0]), 0, cmdP 1544 (bs [0]), 1544, by unfold Sys2Proof.Machine.State.begins; decide +kernel,
    by decide +kernel⟩,
    ⟨hc 1545 (bs [0]), hc 1545 (bs [0]), 0, cmdP 1545 (bs [0]), 1545, by unfold Sys2Proof.Machine.State.begins; decide +kernel,
    by decide +kernel⟩,
    ⟨hc 1793 (bs []), hc 1793 (bs []), 0, cmdP 1793 (bs []), 1793, by unfold Sys2Proof.Machine.State.begins; decide +kernel, by decide +kernel⟩,
    ⟨hc 1794 (bs [0]), hc 1794 (bs [0]), 0, cmdP 1794 (bs [0]), 1794, by unfold Sys2Proof.Machine.State.begins; decide +kernel,
    by decide +kernel⟩,
    ⟨hc 1795 (bs []), hc 1795 (bs []), 0, cmdP 1795 (bs []), 1795, by unfold Sys2Proof.Machine.State.begins; decide +kernel, by decide +kernel⟩,
    ⟨hc 1797 (bs [0, 3]), hc 1797 (bs [0, 3]), 0, cmdP 1797 (bs [0, 3]), 1797, by unfold Sys2Proof.Machine.State.begins; decide +kernel,
    by decide +kernel⟩,
    ⟨hc 1798 (bs []), hc 1798 (bs []), 0, cmdP 1798 (bs []), 1798, by unfold Sys2Proof.Machine.State.begins; decide +kernel, by decide +kernel⟩⟩

theorem witness_TaskMemoryPowerFaultSecurityCommands_4 :
    (∃ (s : State) (u : State) (q : Fin 16) (c : HostCmd) (op : ℕ), s.begins (q.val) op c u ∧ let p := c.params; op = 1799 ∧ ∃ (sig : List
    Byte), prm p 1 7 = 1 ∧ (u.slot (prm p 0 1)).prog = false) ∧
    (∃ (s : State) (u : State) (q : Fin 16) (c : HostCmd) (op : ℕ), s.begins (q.val) op c u ∧ op = 1800) ∧
    (∃ (s : State) (u : State) (q : Fin 16) (c : HostCmd) (op : ℕ), s.begins (q.val) op c u ∧ op = 1801) ∧
    (∃ (s : State) (u : State) (q : Fin 16) (c : HostCmd) (op : ℕ), s.begins (q.val) op c u ∧ let p := c.params; op = 1802 ∧ ∃ (sig : List
    Byte), u.sec.chal = none ∧ u.hostOk (prm p 16 8) (prm p 24 2) = true) ∧
    (∃ (s : State) (u : State) (q : Fin 16) (c : HostCmd) (op : ℕ), s.begins (q.val) op c u ∧ let p := c.params; op = 3841 ∧ prm p 4 2 = 1) ∧
    (∃ (s : State) (u : State) (q : Fin 16) (c : HostCmd) (op : ℕ), s.begins (q.val) op c u ∧ let p := c.params; op = 3842 ∧ prm p 0 8 = 1) ∧
    (∃ (s : State) (u : State) (q : Fin 16) (c : HostCmd) (op : ℕ), s.begins (q.val) op c u ∧ op = 3843) ∧
    (∃ (s : State) (u : State) (q : Fin 16) (c : HostCmd) (op : ℕ), s.begins (q.val) op c u ∧ op = 3844) :=
  ⟨
    ⟨hc 1799 (bs [0, 1]), hc 1799 (bs [0, 1]), 0, cmdP 1799 (bs [0, 1]), 1799, by unfold Sys2Proof.Machine.State.begins; decide +kernel,
    by decide +kernel, List.replicate 16 0, by decide +kernel⟩,
    ⟨hc 1800 (bs [8]), hc 1800 (bs [8]), 0, cmdP 1800 (bs [8]), 1800, by unfold Sys2Proof.Machine.State.begins; decide +kernel,
    by decide +kernel⟩,
    ⟨hc 1801 (bs []), hc 1801 (bs []), 0, cmdP 1801 (bs []), 1801, by unfold Sys2Proof.Machine.State.begins; decide +kernel, by decide +kernel⟩,
    ⟨hc 1802 (bs []), hc 1802 (bs []), 0, cmdP 1802 (bs []), 1802, by unfold Sys2Proof.Machine.State.begins; decide +kernel, by decide +kernel,
    List.replicate 16 0, by decide +kernel⟩,
    ⟨hc 3841 (bs [0, 0, 0, 0, 1, 0]), hc 3841 (bs [0, 0, 0, 0, 1, 0]), 0, cmdP 3841 (bs [0, 0, 0, 0, 1, 0]), 3841,
    by unfold Sys2Proof.Machine.State.begins; decide +kernel, by decide +kernel⟩,
    ⟨hc 3842 (bs [1]), hc 3842 (bs [1]), 0, cmdP 3842 (bs [1]), 3842, by unfold Sys2Proof.Machine.State.begins; decide +kernel,
    by decide +kernel⟩,
    ⟨hc 3843 (bs []), hc 3843 (bs []), 0, cmdP 3843 (bs []), 3843, by unfold Sys2Proof.Machine.State.begins; decide +kernel, by decide +kernel⟩,
    ⟨hc 3844 (bs []), hc 3844 (bs []), 0, cmdP 3844 (bs []), 3844, by unfold Sys2Proof.Machine.State.begins; decide +kernel, by decide +kernel⟩⟩

theorem witness_TaskMemoryPowerFaultSecurityCommands_5 :
    (∃ (s : State) (u : State) (q : Fin 16) (c : HostCmd) (op : ℕ), s.begins (q.val) op c u ∧ op = 3856) ∧
    (∃ (s : State) (u : State) (q : Fin 16) (c : HostCmd) (op : ℕ), s.begins (q.val) op c u ∧ let p := c.params; op = 3857 ∧ prm p 0 2 = 0 ∧
    6144 ≤ prm p 2 2 ∧ prm p 2 2 + prm p 4 2 ≤ 8192) ∧
    (∃ (s : State) (u : State) (q : Fin 16) (c : HostCmd) (op : ℕ), s.begins (q.val) op c u ∧ op = 1025) ∧
    (∃ (s : State) (u : State) (q : Fin 16) (c : HostCmd) (op : ℕ), s.begins (q.val) op c u ∧ op = 1026) ∧
    (∃ (s : State) (u : State) (q : Fin 16) (c : HostCmd) (op : ℕ), s.begins (q.val) op c u ∧ op = 1027) ∧
    (∃ (s : State) (u : State) (q : Fin 16) (c : HostCmd) (op : ℕ), s.begins (q.val) op c u ∧ op = 1028) ∧
    (∃ (s : State) (u : State) (q : Fin 16) (c : HostCmd) (op : ℕ), s.begins (q.val) op c u ∧ op = 1029) :=
  ⟨
    ⟨hc 3856 (bs []), hc 3856 (bs []), 0, cmdP 3856 (bs []), 3856, by unfold Sys2Proof.Machine.State.begins; decide +kernel, by decide +kernel⟩,
    ⟨hc 3857 (bs [0, 0, 0, 24, 2, 0]), hc 3857 (bs [0, 0, 0, 24, 2, 0]), 0, cmdP 3857 (bs [0, 0, 0, 24, 2, 0]), 3857,
    by unfold Sys2Proof.Machine.State.begins; decide +kernel, by decide +kernel⟩,
    ⟨hc 1025 (bs [0, 0, 1]), hc 1025 (bs [0, 0, 1]), 0, cmdP 1025 (bs [0, 0, 1]), 1025,
    by unfold Sys2Proof.Machine.State.begins; decide +kernel, by decide +kernel⟩,
    ⟨hc 1026 (bs [0]), hc 1026 (bs [0]), 0, cmdP 1026 (bs [0]), 1026, by unfold Sys2Proof.Machine.State.begins; decide +kernel,
    by decide +kernel⟩,
    ⟨hc 1027 (bs [1, 1]), hc 1027 (bs [1, 1]), 0, cmdP 1027 (bs [1, 1]), 1027, by unfold Sys2Proof.Machine.State.begins; decide +kernel,
    by decide +kernel⟩,
    ⟨hc 1028 (bs [0]), hc 1028 (bs [0]), 0, cmdP 1028 (bs [0]), 1028, by unfold Sys2Proof.Machine.State.begins; decide +kernel,
    by decide +kernel⟩,
    ⟨hc 1029 (bs [1]), hc 1029 (bs [1]), 0, cmdP 1029 (bs [1]), 1029, by unfold Sys2Proof.Machine.State.begins; decide +kernel,
    by decide +kernel⟩⟩

theorem witness_TierLinkUp_1 :
    (∃ (s : State) (t : Fin 8), s.powered = true ∧ s.bit (TIER_CTL.EN t.val) = false ∧ s.portAllowed t.val = true) ∧
    (∃ (s : State) (t : Fin 8), s.powered = true ∧ s.bit (TIER_CTL.EN t.val) = false ∧ s.portAllowed t.val = false) ∧
    (∃ (s : State) (t : Fin 8), s.powered = true ∧ s.bit (TIER_CTL.EN t.val) = true) ∧
    (∃ (s : State) (t : Fin 8), s.powered = true ∧ let p := s.tport t.val; let st := s.tierState t.val; p.attempt.isSome = true ∧ p.lock = false
    ∧ st = 1) ∧
    (∃ (s : State) (t : Fin 8), s.powered = true ∧ let p := s.tport t.val; let st := s.tierState t.val; p.attempt.isSome = true ∧ p.lock = false
    ∧ st = 4) ∧
    (∃ (s : State) (t : Fin 8), s.powered = true ∧ let st := s.tierState t.val; st = 3) ∧
    (∃ (s : State) (t : Fin 8), s.powered = true ∧ let p := s.tport t.val; let st := s.tierState t.val; st = 2 ∧ (∀ (a : Word), p.lastHello =
    some a → elapsed s.dt a (usTicks 10) = true) ∧ (s.upPort t.val = false ∨ p.helloOk = true ∨ p.firstUp = true)) ∧
    (∃ (s : State) (t : Fin 8), s.powered = true ∧ let p := s.tport t.val; let st := s.tierState t.val; ∃ (f : Frame), f.type = 1 ∧ (st = 2 ∨ st
    = 4) ∧ p.attempt.isSome = true ∧ frameGood f = true ∧ s.tierRefuses (t.val) f = true) :=
  ⟨
    ⟨tpOff, 1, by decide +kernel⟩,
    ⟨tpDeep, 1, by decide +kernel⟩,
    ⟨tpLink, 1, by decide +kernel⟩,
    ⟨tpLink, 1, by decide +kernel⟩,
    ⟨tpRetrain, 1, by decide +kernel⟩,
    ⟨tpUp, 1, by decide +kernel⟩,
    ⟨tpHello, 1, by decide +kernel, by decide +kernel,
    (by intro t h; rw [show ((tpHello.tport (1 : Fin 8).val).lastHello) = none by decide +kernel] at h; cases h), by decide +kernel⟩,
    ⟨tpHello, 1, by decide +kernel, tFrame 1 0 0 false (List.replicate 64 0), by decide +kernel, by decide +kernel, by decide +kernel,
    by decide +kernel, by decide +kernel⟩⟩

theorem witness_TierLinkUp_2 :
    (∃ (s : State) (t : Fin 8), s.powered = true ∧ let p := s.tport t.val; let st := s.tierState t.val; ∃ (f : Frame), f.type = 1 ∧ (st = 2 ∨ st
    = 4) ∧ p.attempt.isSome = true ∧ frameGood f = true ∧ s.tierRefuses (t.val) f = false) ∧
    (∃ (s : State) (t : Fin 8), s.powered = true ∧ let p := s.tport t.val; p.prevValid = false) ∧
    (∃ (s : State) (t : Fin 8), s.powered = true ∧ let p := s.tport t.val; ∃ (a : Word), p.attempt = some a ∧ elapsed s.dt a (usTicks 500) =
    true) ∧
    (∃ (s : State) (t : Fin 8), s.powered = true ∧ let p := s.tport t.val; p.episode = none) ∧
    (∃ (s : State) (t : Fin 8), s.powered = true ∧ let p := s.tport t.val; p.episode.isSome = true ∧ 2 ≤ s.fld (TIER_STAT.RTR_TRY t.val)) ∧
    (∃ (s : State) (t : Fin 8), s.powered = true ∧ let p := s.tport t.val; let st := s.tierState t.val; ∃ (a : Word), p.retryAt = some a ∧ (st =
    1 ∨ st = 4) ∧ dtGe s.dt a = true) :=
  ⟨
    ⟨tpHello, 1, by decide +kernel, tFrame 1 0 0 false tHello, by decide +kernel, by decide +kernel, by decide +kernel, by decide +kernel,
    by decide +kernel⟩,
    ⟨tpOff, 1, by decide +kernel⟩,
    ⟨tpLink, 1, by decide +kernel, (tpLink.tport ↑1).attempt.the, by decide +kernel⟩,
    ⟨tpOff, 1, by decide +kernel⟩,
    ⟨tpLast, 1, by decide +kernel⟩,
    ⟨tpRetry, 1, by decide +kernel, (tpRetry.tport ↑1).retryAt.the, by decide +kernel⟩⟩

theorem witness_TierSequencingRoutesSafe_1 :
    (∃ (s : State) (t : Fin 8), s.powered = true ∧ s.tierState t.val = 3 ∧ ∃ (f : Frame), frameGood f = true ∧ s.tierBad (t.val) f = false ∧
    f.ackv = true ∧ f.type = 3) ∧
    (∃ (s : State) (t : Fin 8), s.powered = true ∧ s.tierState t.val = 3 ∧ ∃ (f : Frame), frameGood f = true ∧ s.tierBad (t.val) f = false ∧
    f.ackv = true ∧ f.type = 0) ∧
    (∃ (s : State) (t : Fin 8), s.powered = true ∧ s.tierState t.val = 3 ∧ ∃ (f : Frame), frameGood f = true ∧ s.tierBad (t.val) f = false ∧
    f.ackv = true ∧ f.type = 4) ∧
    (∃ (s : State) (t : Fin 8), s.powered = true ∧ s.tierState t.val = 3 ∧ let p := s.tport t.val; ∃ (a : BitVec 16) (o : TierFrame) (rest :
    List TierFrame), p.unacked = o :: rest ∧ (a - o.seq).toNat + 1 ≤ p.unacked.length) ∧
    (∃ (s : State) (t : Fin 8), s.powered = true ∧ s.tierState t.val = 3 ∧ let p := s.tport t.val; ∃ (q : BitVec 16) (e : TierFrame), List.find?
    (fun (e : TierFrame) => e.seq == q) p.unacked = some e ∧ (p.resend = [] ∨ 32 ≤ (q - p.resendAt).toNat) ∧ 7 ≤ e.resends) ∧
    (∃ (s : State) (t : Fin 8), s.powered = true ∧ s.tierState t.val = 3 ∧ let p := s.tport t.val; ∃ (q : BitVec 16) (e : TierFrame), List.find?
    (fun (e : TierFrame) => e.seq == q) p.unacked = some e ∧ (p.resend = [] ∨ 32 ≤ (q - p.resendAt).toNat) ∧ e.resends < 7) ∧
    (∃ (s : State) (t : Fin 8), s.powered = true ∧ s.tierState t.val = 3 ∧ let p := s.tport t.val; ∃ (q : BitVec 16), p.resend ≠ [] ∧ (q -
    p.resendAt).toNat < 32) ∧
    (∃ (s : State) (t : Fin 8), s.powered = true ∧ s.tierState t.val = 3 ∧ s.tierSafeDue t.val = true) :=
  ⟨
    ⟨tpUp, 1, by decide +kernel, by decide +kernel, tFrame 3 0 0 true [], by decide +kernel⟩,
    ⟨tpUp, 1, by decide +kernel, by decide +kernel, tFrame 0 0 0 true [], by decide +kernel⟩,
    ⟨tpUp, 1, by decide +kernel, by decide +kernel, tFrame 4 0 0 true [], by decide +kernel⟩,
    ⟨tpResend, 1, by decide +kernel, by decide +kernel, 2, (tpResend.tport ↑1).unacked.first, (tpResend.tport ↑1).unacked.tail,
    by decide +kernel⟩,
    ⟨tpUnack 7, 1, by decide +kernel, by decide +kernel, 1, (List.find? (fun e => e.seq == 1) ((tpUnack 7).tport ↑1).unacked).the,
    by decide +kernel⟩,
    ⟨tpUnack 0, 1, by decide +kernel, by decide +kernel, 1, (List.find? (fun e => e.seq == 1) ((tpUnack 0).tport ↑1).unacked).the,
    by decide +kernel⟩,
    ⟨tpResend, 1, by decide +kernel, by decide +kernel, 1, by decide +kernel⟩,
    ⟨tpSafe, 1, by decide +kernel⟩⟩

theorem witness_TierSequencingRoutesSafe_2 :
    (∃ (s : State) (t : Fin 8), s.powered = true ∧ s.tierState t.val = 3 ∧ ∃ (k : BadFrame), k ≠ BadFrame.abort) ∧
    (∃ (s : State) (t : Fin 8), s.powered = true ∧ s.tierState t.val = 3 ∧ let p := s.tport t.val; ∃ (e : TierFrame) (rest : List TierFrame),
    p.unacked = e :: rest ∧ elapsed s.dt e.sentAt (usTicks (s.fld (TIER_CTL.RESEND_TMO t.val))) = true) ∧
    (∃ (s : State) (t : Fin 8), s.powered = true ∧ s.tierState t.val = 3 ∧ let p := s.tport t.val; elapsed s.dt p.lastRx (usTicks 40) = true) ∧
    (∃ (s : State) (t : Fin 8), s.powered = true ∧ s.tierState t.val = 3 ∧ let p := s.tport t.val; ∃ (q : BitVec 16) (rest : List (BitVec 16))
    (e : TierFrame), s.tierSafeDue t.val = false ∧ p.resend = q :: rest ∧ List.find? (fun (e : TierFrame) => e.seq == q) p.unacked = some e) ∧
    (∃ (s : State) (t : Fin 8), s.powered = true ∧ s.tierState t.val = 3 ∧ let p := s.tport t.val; ∃ (r : BitVec 16) (b : List Byte) (p' :
    TierPort), s.tierSafeDue t.val = false ∧ p.resend = [] ∧ p.unacked.length < 32 ∧ p.takeNext = some ((r, b), p')) ∧
    (∃ (s : State) (t : Fin 8), s.powered = true ∧ s.tierState t.val = 3 ∧ let p := s.tport t.val; s.tierSafeDue t.val = false ∧ p.resend = [] ∧
    p.unacked.length < 32 ∧ p.takeNext = none ∧ p.nakDue = true ∧ p.lastNak = none) ∧
    (∃ (s : State) (t : Fin 8), s.powered = true ∧ s.tierState t.val = 3 ∧ let p := s.tport t.val; s.tierSafeDue t.val = false ∧ p.resend = [] ∧
    p.unacked.length < 32 ∧ p.takeNext = none ∧ p.nakDue = false ∧ p.ackDue = true) ∧
    (∃ (s : State) (t : Fin 8), s.powered = true ∧ s.tierState t.val = 3 ∧ let p := s.tport t.val; s.tierSafeDue t.val = false ∧ p.resend = [] ∧
    p.unacked.length < 32 ∧ p.takeNext = none ∧ p.nakDue = false ∧ p.ackDue = false ∧ elapsed s.dt p.lastTx (usTicks 4) = true) :=
  ⟨
    ⟨tpUp, 1, by decide +kernel, by decide +kernel, BadFrame.crc, by decide +kernel⟩,
    ⟨tpResend, 1, by decide +kernel, by decide +kernel, (tpResend.tport ↑1).unacked.first, (tpResend.tport ↑1).unacked.tail, by decide +kernel⟩,
    ⟨tpResend, 1, by decide +kernel⟩,
    ⟨tpResend, 1, by decide +kernel, by decide +kernel, (tpResend.tport ↑1).resend.first, (tpResend.tport ↑1).resend.tail, (List.find? (fun e =>
    e.seq == (tpResend.tport ↑1).resend.first) (tpResend.tport ↑1).unacked).the, by decide +kernel⟩,
    ⟨tpMsg, 1, by decide +kernel, by decide +kernel, (tpMsg.tport ↑1).takeNext.the.1.1, (tpMsg.tport ↑1).takeNext.the.1.2, (tpMsg.tport
    ↑1).takeNext.the.2, by decide +kernel⟩,
    ⟨tpNak, 1, by decide +kernel⟩,
    ⟨tpAck, 1, by decide +kernel⟩,
    ⟨tpUnack 0, 1, by decide +kernel⟩⟩

theorem witness_TierSequencingRoutesSafe_3 :
    (∃ (s : State) (t : Fin 8), s.powered = true ∧ s.tierState t.val = 3 ∧ let p := s.tport t.val; s.tierSafeDue t.val = false ∧ p.resend = [] ∧
    p.unacked.length < 32 ∧ p.takeNext = none ∧ p.nakDue = false ∧ p.ackDue = false ∧ elapsed s.dt p.lastTx (usTicks 4) = false) ∧
    (∃ (s : State) (t : Fin 8), s.powered = true ∧ s.tierState t.val = 3 ∧ let p := s.tport t.val; ∃ (f : Frame), frameGood f = true ∧ f.type =
    2 ∧ f.ackv = false ∧ s.tierBad (t.val) f = false ∧ f.route.toNat % 64 ≠ s.tree.num ∧ f.seq = p.rxNext) ∧
    (∃ (s : State) (t : Fin 8), s.powered = true ∧ s.tierState t.val = 3 ∧ let p := s.tport t.val; ∃ (f : Frame), frameGood f = true ∧ f.type =
    2 ∧ f.ackv = false ∧ s.tierBad (t.val) f = false ∧ f.route.toNat % 64 ≠ s.tree.num ∧ 1 ≤ (f.seq - p.rxNext).toNat ∧ (f.seq - p.rxNext).toNat
    ≤ 31) ∧
    (∃ (s : State) (t : Fin 8), s.powered = true ∧ s.tierState t.val = 3 ∧ let p := s.tport t.val; ∃ (f : Frame), frameGood f = true ∧ f.type =
    2 ∧ f.ackv = false ∧ s.tierBad (t.val) f = false ∧ f.route.toNat % 64 ≠ s.tree.num ∧ 32 ≤ (f.seq - p.rxNext).toNat) ∧
    (∃ (s : State) (t : Fin 8), s.powered = true ∧ s.tierState t.val = 3 ∧ ∃ (f : Frame), frameGood f = true ∧ s.tierBad (t.val) f = true ∧
    f.type ≠ 2) ∧
    (∃ (s : State) (t : Fin 8), s.powered = true ∧ s.tierState t.val = 3 ∧ let p := s.tport t.val; p.violTimes.length < 15) ∧
    (∃ (s : State), s.powered = true ∧ ∃ (t : ℕ) (r : BitVec 16) (b : List Byte), leAt b 0 1 ≠ 9 ∧ ∃ (u : ℕ), s.routePort (r.toNat % 64) = some
    u) ∧
    (∃ (s : State), s.powered = true ∧ ∃ (t : ℕ) (r : BitVec 16) (b : List Byte), leAt b 0 1 ≠ 9 ∧ s.routePort (r.toNat % 64) = none ∧
    s.isWorker = false) :=
  ⟨
    ⟨tpUp, 1, by decide +kernel⟩,
    ⟨tpUp, 1, by decide +kernel, by decide +kernel, tFrame 2 0 5 false (leBytes 16 259), by decide +kernel⟩,
    ⟨tpUp, 1, by decide +kernel, by decide +kernel, tFrame 2 3 5 false (leBytes 16 259), by decide +kernel⟩,
    ⟨tpUp, 1, by decide +kernel, by decide +kernel, tFrame 2 65520 5 false (leBytes 16 259), by decide +kernel⟩,
    ⟨tpUp, 1, by decide +kernel, by decide +kernel, tFrame 3 0 77 true [], by decide +kernel⟩,
    ⟨tpUp, 1, by decide +kernel⟩,
    ⟨tpRoute, by decide +kernel, 1, 2, leBytes 16 257, by decide +kernel, (tpRoute.routePort (BitVec.toNat (2 : BitVec 16) % 64)).the,
    by decide +kernel⟩,
    ⟨tpUp, by decide +kernel, 1, 0, leBytes 16 257, by decide +kernel⟩⟩

theorem witness_TierSequencingRoutesSafe_4 :
    (∃ (s : State), s.powered = true ∧ ∃ (w : State), w = s.setFld (TIER_CTL.COMMIT 0) 1 ∧ (upTo 8).any w.tierSends = true) ∧
    (∃ (s : State), s.powered = true ∧ ∃ (w : State), w = s.setFld (TIER_CTL.COMMIT 0) 1 ∧ (upTo 8).any w.tierSends = false) ∧
    (∃ (s : State), s.powered = true ∧ ∃ (w : State), w = s.setFld (TIER_CTL.COMMIT 0) 1 ∧ w.routesStaged = true ∧ w.routesOk = false) ∧
    (∃ (s : State), s.powered = true ∧ ∃ (t : Fin 8) (f : Frame), frameGood f = true ∧ f.type = 11 ∧ s.tierState t.val = 4 ∧ s.bit
    (TIER_CTL.SAFE_PROP t.val) = true ∧ s.bit SVC_STAT.SAFE = false) ∧
    (∃ (s : State), s.powered = true ∧ s.bit SVC_STAT.SAFE = false) :=
  ⟨
    ⟨tpUp, by decide +kernel, tpUp.setFld (TIER_CTL.COMMIT 0) 1, by decide +kernel⟩,
    ⟨tpProp, by decide +kernel, tpProp.setFld (TIER_CTL.COMMIT 0) 1, by decide +kernel⟩,
    ⟨tpStaged, by decide +kernel, tpStaged.setFld (TIER_CTL.COMMIT 0) 1, by decide +kernel⟩,
    ⟨tpProp, by decide +kernel, 1, tFrame 11 0 0 false (List.replicate 16 0), by decide +kernel⟩,
    ⟨tpUp, by decide +kernel⟩⟩

theorem witness_TreeMessages_1 :
    (∃ (s : State) (t : ℕ) (f : Frame), s.tierState t = 3 ∧ frameGood f = true ∧ s.tierBad t f = false ∧ f.type = 2 ∧ f.ackv = false ∧ f.seq =
    (s.tport t).rxNext ∧ f.route.toNat % 64 = s.tree.num ∧ (s.tport t).partials = [] ∧ let b := f.payload; 1 ≤ leAt b 0 1 ∧ leAt b 0 1 ≤ 9 ∧
    leAt b 0 1 ≠ 5 ∧ leAt b 4 4 = 0 ∧ leAt b 8 8 < 2 ^ 62 ∧ leAt b 1 1 = 3) ∧
    (∃ (s : State) (t : ℕ) (f : Frame), s.tierState t = 3 ∧ frameGood f = true ∧ s.tierBad t f = false ∧ f.type = 2 ∧ f.ackv = false ∧ f.seq =
    (s.tport t).rxNext ∧ f.route.toNat % 64 = s.tree.num ∧ (s.tport t).partials = [] ∧ let b := f.payload; 1 ≤ leAt b 0 1 ∧ leAt b 0 1 ≤ 9 ∧
    leAt b 0 1 ≠ 5 ∧ leAt b 4 4 = 0 ∧ leAt b 8 8 < 2 ^ 62 ∧ leAt b 1 1 = 1) ∧
    (∃ (s : State) (t : ℕ) (f : Frame), s.tierState t = 3 ∧ frameGood f = true ∧ s.tierBad t f = false ∧ f.type = 2 ∧ f.ackv = false ∧ f.seq =
    (s.tport t).rxNext ∧ f.route.toNat % 64 = s.tree.num ∧ (s.tport t).partials = [] ∧ let b := f.payload; 1 ≤ leAt b 0 1 ∧ leAt b 0 1 ≤ 9 ∧
    leAt b 0 1 ≠ 5 ∧ leAt b 4 4 = 0 ∧ leAt b 8 8 < 2 ^ 62 ∧ leAt b 1 1 % 2 = 0) ∧
    (∃ (s : State) (t : ℕ) (m : TierMsg), m.mtype = 1 ∧ s.upPort t = true) ∧
    (∃ (s : State) (t : ℕ) (m : TierMsg), m.mtype = 1 ∧ s.upPort t = false) ∧
    (∃ (s : State) (t : ℕ) (m : TierMsg), m.mtype = 2 ∧ s.isWorker = false) ∧
    (∃ (s : State) (t : ℕ) (m : TierMsg), m.mtype = 3 ∧ s.isWorker = false ∧ m.src ≤ 8 ∧ m.body.length = 32) ∧
    (∃ (s : State) (t : ℕ) (m : TierMsg), m.mtype = 4 ∧ s.isWorker = false) :=
  ⟨
    ⟨tpUp, 1, tFrame 2 0 128 false (tMsg 2 3 32), by decide +kernel⟩,
    ⟨tpUp, 1, tFrame 2 0 128 false (tMsg 2 1 32), by decide +kernel⟩,
    ⟨tpUp, 1, tFrame 2 0 128 false (tMsg 2 0 32), by decide +kernel⟩,
    ⟨wkUp, 0, { src := 2, mtype := 1, body := List.replicate 128 0, poison := [] }, by decide +kernel⟩,
    ⟨tpUp, 0, { src := 2, mtype := 1, body := List.replicate 128 0, poison := [] }, by decide +kernel⟩,
    ⟨tpUp, 0, { src := 2, mtype := 2, body := List.replicate 32 0, poison := [] }, by decide +kernel⟩,
    ⟨tpUp, 0, { src := 2, mtype := 3, body := List.replicate 32 0, poison := [] }, by decide +kernel⟩,
    ⟨tpUp, 0, { src := 2, mtype := 4, body := List.replicate 1600 0, poison := [] }, by decide +kernel⟩⟩

theorem witness_TreeMessages_2 :
    (∃ (s : State) (t : ℕ) (m : TierMsg), m.mtype = 7 ∧ s.upPort t = false ∧ leAt m.body 0 4 = 0) ∧
    (∃ (s : State) (t : ℕ) (m : TierMsg), m.mtype = 7 ∧ s.upPort t = false ∧ leAt m.body 0 4 ≠ 0 ∧ (s.tport t).bootTries ≤ 1) ∧
    (∃ (s : State) (t : ℕ) (m : TierMsg), m.mtype = 8 ∧ s.upPort t = true ∧ leAt m.body 0 1 = 1) ∧
    (∃ (s : State) (t : ℕ) (m : TierMsg), m.mtype = 8 ∧ s.upPort t = true ∧ leAt m.body 0 1 = 2) ∧
    (∃ (s : State) (t : ℕ) (m : TierMsg), m.mtype = 9 ∧ s.isWorker = false ∧ m.src ≤ 8 ∧ m.body.length = 32) ∧
    (∃ (s : State) (src : ℕ) (b : List Byte), ∃ had < 3136, 3136 ≤ b.length) ∧
    (∃ (s : State) (src : ℕ) (b : List Byte) (had : ℕ), 3136 ≤ had) ∧
    (∃ (s : State) (src : ℕ) (r : List Byte), leAt r 9 1 = 6 ∧ leAt r 13 1 / 4 % 4 = 3 ∧ src ≠ 0) :=
  ⟨
    ⟨tpUp, 0, { src := 2, mtype := 7, body := List.replicate 4 0, poison := [] }, by decide +kernel⟩,
    ⟨tpUp, 0, { src := 2, mtype := 7, body := List.replicate 4 1, poison := [] }, by decide +kernel⟩,
    ⟨wkUp, 0, { src := 0, mtype := 8, body := List.replicate 33 1, poison := [] }, by decide +kernel⟩,
    ⟨wkUp, 0, { src := 0, mtype := 8, body := List.replicate 33 2, poison := [] }, by decide +kernel⟩,
    ⟨tpUp, 0, { src := 2, mtype := 9, body := List.replicate 32 0, poison := [] }, by decide +kernel⟩,
    ⟨tpUp, 0, List.replicate 3200 1, 0, by decide +kernel⟩,
    ⟨tpUp, 0, List.replicate 3200 1, 3136, by decide +kernel⟩,
    ⟨tpUp, 1, bs [0, 0, 0, 0, 0, 0, 0, 0, 0, 6, 0, 0, 0, 12, 0, 0], by decide +kernel⟩⟩

theorem witness_TreeMessages_3 :
    (∃ (s : State) (c : HostCmd) (src : ℕ) (b : List Byte), s.isWorker = false ∧ List.find? (fun (c : HostCmd) => !c.routed && c.sent.contains
    src && c.devices.contains src) s.host.accepted = some c ∧ leAt b 4 4 = 0) ∧
    (∃ (s : State), s.powered = true ∧ s.summaryDue = true) ∧
    (∃ (s : State), s.powered = true ∧ s.summaryDue = false) :=
  ⟨
    ⟨tpReply, cmdR, 2, bs [0, 0, 0, 0, 0, 0, 0, 0, 0, 6, 0, 0, 0, 12, 0, 0], by decide +kernel⟩,
    ⟨wkUp, by decide +kernel⟩,
    ⟨tpUp, by decide +kernel⟩⟩

theorem witness_PowerStates_1 :
    (∃ (s : State), s.powered = true ∧ s.pwr.request = 1 ∧ s.napWhy = 0 ∧ s.commandRuns = false ∧ s.napping = false) ∧
    (∃ (s : State), s.powered = true ∧ s.pwr.request = 1 ∧ s.napWhy ≠ 0) ∧
    (∃ (s : State), s.powered = true ∧ s.pwr.request = 2 ∧ s.sleepWhy = 0 ∧ s.commandRuns = false) ∧
    (∃ (s : State), s.powered = true ∧ ∃ (t : Word), s.bit PWR_CTL.NAP_AUTO = true ∧ s.fld PWR_STAT.DSTATE = 1 ∧ s.pwr.phase = Phase.ready ∧
    s.napWhy = 0 ∧ s.commandRuns = false ∧ s.pwr.napSince = some t ∧ elapsed s.dt t (usTicks (s.fld PWR_CTL.NAP_HOLD)) = true) ∧
    (∃ (s : State), s.powered = true ∧ ∃ (t : Word), s.bit PWR_CTL.NAP_AUTO = true ∧ s.fld PWR_STAT.DSTATE = 1 ∧ s.pwr.phase = Phase.ready ∧
    s.napWhy = 0 ∧ s.commandRuns = false ∧ s.pwr.napSince = some t ∧ elapsed s.dt t (usTicks (s.fld PWR_CTL.NAP_HOLD)) = false) ∧
    (∃ (s : State), s.powered = true ∧ s.napping = true) ∧
    (∃ (s : State), s.powered = true ∧ s.pwr.entryAt = none) ∧
    (∃ (s : State), s.powered = true ∧ ∃ (t : Word), s.pwr.entryAt = some t ∧ (upTo 68).any s.l2Held = true) :=
  ⟨
    ⟨pwReq 1, by decide +kernel⟩,
    ⟨pwBusy, by decide +kernel⟩,
    ⟨pwSleepReq, by decide +kernel⟩,
    ⟨pwAuto, by decide +kernel, pwAuto.pwr.napSince.the, by decide +kernel⟩,
    ⟨pwAuto2, by decide +kernel, pwAuto2.pwr.napSince.the, by decide +kernel⟩,
    ⟨pwNap, by decide +kernel⟩,
    ⟨pwReq 0, by decide +kernel⟩,
    ⟨pwEntryHeld, by decide +kernel, pwEntryHeld.pwr.entryAt.the, by decide +kernel⟩⟩

theorem witness_PowerStates_2 :
    (∃ (s : State), s.powered = true ∧ ∃ (t : Word), s.pwr.entryAt = some t ∧ (upTo 68).any s.l2Held = false ∧ s.isWorker = false) ∧
    (∃ (s : State), s.powered = true ∧ s.pwr.phase = Phase.resuming) ∧
    (∃ (s : State), s.powered = true ∧ ∃ (ok : Bool), s.pwr.phase ≠ Phase.resuming) ∧
    (∃ (s : State), s.powered = true ∧ ∃ (p : Fin 68), (s.fld (POND_STAT.ROLE p.val) ≠ 0 ∨ (s.fld (POND_IDLE.PGATE (p.val / 32))).testBit (p.val
    % 32) = true) ∧ s.pondQuiet p = true) ∧
    (∃ (s : State), s.powered = true ∧ ∃ (p : Fin 68), s.isGated p.val = false) ∧
    (∃ (s : State), s.powered = true ∧ ∃ (p : Fin 68) (w : StrId) (t : Word) (c : RegNo), w ∈ pondStriders p ∧ s.isGated p.val = true ∧
    s.napping = false ∧ (s.str w).run = Run.waiting (Wait.waitt t c) ∧ 0 < dtDiff t s.dt ∧ dtDiff t s.dt ≤ ↑(usTicks 3)) ∧
    (∃ (s : State) (k : ℕ), (s.fld PWR_WAKE_EN.EN).testBit k = true ∧ s.pwr.phase = Phase.asleep) ∧
    (∃ (s : State) (k : ℕ), (s.fld PWR_WAKE_EN.EN).testBit k = false) :=
  ⟨
    ⟨pwEntry, by decide +kernel, pwEntry.pwr.entryAt.the, by decide +kernel⟩,
    ⟨pwResume, by decide +kernel⟩,
    ⟨pwReq 0, by decide +kernel, true, by decide +kernel⟩,
    ⟨pwGate, by decide +kernel, 0, by decide +kernel⟩,
    ⟨pwReq 0, by decide +kernel, 0, by decide +kernel⟩,
    ⟨pwGated, by decide +kernel, 0, w0, 5000, 6, by decide +kernel⟩,
    ⟨pwAsleep, 1, by decide +kernel⟩,
    ⟨pwReq 0, 7, by decide +kernel⟩⟩

theorem witness_PowerStates_3 :
    (∃ (s : State), s.powered = false) ∧
    (∃ (s : State), s.pair PWR_WAKE_DT_LO.DT PWR_WAKE_DT_HI.DT ≠ 0 ∧ dtGe s.dt (s.pair PWR_WAKE_DT_LO.DT PWR_WAKE_DT_HI.DT) = true) ∧
    (∃ (s : State) (t : Fin 8), (s.tport t.val).armed = true) ∧
    (∃ (s : State) (t : Fin 8), (s.tport t.val).armed = false) ∧
    (∃ (s : State), s.powered = true ∧ ∃ (p : Fin 68), (s.fld (POND_STAT.ROLE p.val) ≠ 0 ∨ (s.fld (POND_IDLE.PGATE (p.val / 32))).testBit (p.val
    % 32) = true) ∧ s.pondQuiet p = false) :=
  ⟨
    ⟨pwAsleep, by decide +kernel⟩,
    ⟨pwWakeDt, by decide +kernel⟩,
    ⟨tps 0 fun p => { p with armed := true }, 1, by decide +kernel⟩,
    ⟨pwReq 0, 1, by decide +kernel⟩,
    ⟨runs.setFld (POND_IDLE.PGATE 0) 1, by decide +kernel, 0, by decide +kernel⟩⟩

theorem witness_ClocksVoltageTemperature_1 :
    (∃ (s : State), s.powered = true ∧ ∃ (k : Fin 8), k = 0) ∧
    (∃ (s : State), s.powered = true ∧ ∃ (k : Fin 8), k ≠ 0) ∧
    (∃ (s : State), s.powered = true ∧ ∃ (k : Fin 8), s.bit (PLL_STAT.RUN k.val) = true) ∧
    (∃ (s : State), s.powered = true ∧ s.pwr.nak = none ∧ s.pwr.raise ≠ []) ∧
    (∃ (s : State), s.powered = true ∧ ∃ (t : Word), s.pwr.nak = some t ∧ elapsed s.dt t (usTicks 100) = true) ∧
    (∃ (s : State), s.powered = true ∧ ∃ (t : Word), s.pwr.voltAt = some t ∧ elapsed s.dt t (usTicks (s.fld AVS_CTL.SETTLE)) = true) ∧
    (∃ (s : State), s.powered = true ∧ ∃ (b : Fin 4), 700 ≤ s.eclk b.val ∧ s.eclk b.val ≤ 3000) ∧
    (∃ (s : State), s.powered = true ∧ ∃ (ts : List (BitVec 16)), ts.length ≤ 16 ∧ ∃ t ∈ ts, sensorOk t.toInt = true ∧ 2240 ≤ t.toInt) :=
  ⟨
    ⟨hot, by decide +kernel, 0, by decide +kernel⟩,
    ⟨ready, by decide +kernel, 3, by decide +kernel⟩,
    ⟨ready, by decide +kernel, 0, by decide +kernel⟩,
    ⟨avsUp, by decide +kernel⟩,
    ⟨avsNak, by decide +kernel, avsNak.pwr.nak.the, by decide +kernel⟩,
    ⟨avsVolt, by decide +kernel, avsVolt.pwr.voltAt.the, by decide +kernel⟩,
    ⟨hot, by decide +kernel, 0, by decide +kernel⟩,
    ⟨ready, by decide +kernel, [2240], by decide +kernel, 2240, by decide +kernel⟩⟩

theorem witness_ClocksVoltageTemperature_2 :
    (∃ (s : State), s.powered = true ∧ ∃ (b : Fin 4), s.throttled b.val = false ∧ s.basinHot b.val ↑(s.fld THERM_LIMIT.THROT) = true) ∧
    (∃ (s : State), s.powered = true ∧ ∃ (b : Fin 4), s.throttled b.val = false) ∧
    (∃ (s : State), s.powered = true ∧ ∃ (b : Fin 4), s.throttled b.val = true ∧ s.basinHot (b.val) (↑(s.fld THERM_LIMIT.THROT) - ↑(s.fld
    THERM_LIMIT.HYST)) = true ∧ s.pwr.cooling.toNat.testBit b.val = false) ∧
    (∃ (s : State), s.powered = true ∧ ∃ (b : Fin 4), s.throttled b.val = true ∧ s.basinHot (b.val) (↑(s.fld THERM_LIMIT.THROT) - ↑(s.fld
    THERM_LIMIT.HYST)) = false) :=
  ⟨
    ⟨hot, by decide +kernel, 0, by decide +kernel⟩,
    ⟨ready, by decide +kernel, 0, by decide +kernel⟩,
    ⟨hotThr, by decide +kernel, 0, by decide +kernel⟩,
    ⟨coolThr, by decide +kernel, 0, by decide +kernel⟩⟩

theorem witness_ResetsAndStart :
    (∃ (s : State) (ph : Phase) (cause : ℕ), cause < 8) ∧
    (∃ (s : State) (role : BitVec 2) (boot : BitVec 2) (c : StartCfg), s.pwr.phase = Phase.held) ∧
    (∃ (s : State) (role : BitVec 2) (boot : BitVec 2) (c : StartCfg), role = 3) ∧
    (∃ (s : State) (role : BitVec 2) (boot : BitVec 2) (c : StartCfg), role = 0 ∧ boot ≠ 3 ∧ c.fail ≠ 0) ∧
    (∃ (s : State), s.powered = true ∧ s.pwr.phase = Phase.starting ∧ s.fld BOOT_STAGE.STAGE = 5 ∧ s.rgnBusy = false) ∧
    (∃ (s : State), s.powered = true ∧ s.pwr.phase = Phase.ready) :=
  ⟨
    ⟨ready, Phase.held, 1, by decide +kernel⟩,
    ⟨pwHeld, 3, 0, cfgA, by decide +kernel⟩,
    ⟨ready, 3, 0, cfgA, by decide +kernel⟩,
    ⟨ready, 0, 0, cfgF, by decide +kernel⟩,
    ⟨bootEnd, by decide +kernel⟩,
    ⟨ready, by decide +kernel⟩⟩

theorem witness_PinsSmbusJtag_1 :
    (∃ (s : State), s.powered = true ∧ ∃ n < 96, s.bit (WEIR_CTL.EN n) = true) ∧
    (∃ (s : State), s.powered = true ∧ ∀ n < 96, s.bit (WEIR_CTL.EN n) = false) ∧
    (∃ (s : State), s.powered = true ∧ ∃ (t : Word), s.pwr.testAt = some t ∧ elapsed s.dt t (usTicks 10000) = true) ∧
    (∃ (s : State), s.powered = true ∧ s.pwr.testAt = none) ∧
    (∃ (s : State) (code : ℕ) (pec : Pec) (data : List Byte), code < 256 ∧ s.pwr.phase = Phase.ready ∧ s.fld PWR_STAT.DSTATE ≠ 3 ∧ (pec =
    Pec.good ∨ pec = Pec.none ∧ s.bit SMB_CTL.PEC_REQ = false)) ∧
    (∃ (s : State) (code : ℕ) (pec : Pec) (data : List Byte), code < 256 ∧ s.pwr.phase = Phase.ready ∧ s.fld PWR_STAT.DSTATE ≠ 3 ∧ (pec =
    Pec.bad ∨ pec = Pec.none ∧ s.bit SMB_CTL.PEC_REQ = true)) ∧
    (∃ (s : State) (code : ℕ) (pec : Pec) (data : List Byte), s.pwr.phase = Phase.asleep ∧ code ≠ 0) ∧
    (∃ (s : State), s.pwr.phase = Phase.ready ∧ s.smbAlert = true) :=
  ⟨
    ⟨weir, by decide +kernel, 0, by decide +kernel⟩,
    ⟨ready, by decide +kernel⟩,
    ⟨testing, by decide +kernel, testing.pwr.testAt.the, by decide +kernel⟩,
    ⟨ready, by decide +kernel⟩,
    ⟨ready, 65, Pec.good, [1], by decide +kernel⟩,
    ⟨ready, 65, Pec.bad, [1], by decide +kernel⟩,
    ⟨asleep, 65, Pec.good, [1], by decide +kernel⟩,
    ⟨svcSafe, by decide +kernel⟩⟩

theorem witness_PinsSmbusJtag_2 :
    (∃ (s : State), s.pwr.phase = Phase.ready ∧ s.smbAlert = false) ∧
    (∃ (s : State) (low : Bool), low = (s.pwr.phase == Phase.held || s.pwr.phase == Phase.tripped)) :=
  ⟨
    ⟨ready, by decide +kernel⟩,
    ⟨ready, ready.pwr.phase == Phase.held || ready.pwr.phase == Phase.tripped, by decide +kernel⟩⟩

theorem witness_SettleCalm :
    ∃ (s₀ : State) (s : State), s.calm :=
    ⟨ready, ready, by unfold Sys2Proof.Machine.State.calm; decide +kernel⟩

theorem witness_IntegerFrame :
    ∃ (s : State) (w : StrId) (p : Pfx) (c : Instr) (d : RegNo) (flagged : Bool), s.issues w p ∧ p.nt = false ∧ (s.str w).haltDue = false ∧ ((∃
    (f : FmtB), p.wide = false ∧ d = f.d ∧ (c ∈ [Instr.add w p f, Instr.sub w p f, Instr.and w p f, Instr.or w p f, Instr.xor w p f, Instr.shl w
    p f, Instr.shr w p f, Instr.sar w p f, Instr.mul w p f, Instr.mulh w p f, Instr.mulhu w p f] ∧ flagged = f.x ∨ c ∈ [Instr.min w p f,
    Instr.max w p f] ∧ flagged = false ∨ c ∈ [Instr.div w p f, Instr.divu w p f, Instr.rem w p f, Instr.remu w p f] ∧ (s.str w).xr f.b ≠ 0 ∧
    flagged = f.x ∨ c ∈ [Instr.clz w p f, Instr.popc w p f] ∧ f.b = 0 ∧ f.x = false ∧ flagged = false ∨ c ∈ [Instr.cmp w p f, Instr.tst w p f] ∧
    f.d = 0 ∧ f.x = false ∧ flagged = true)) ∨ ∃ (f : FmtI), d = f.d ∧ (c ∈ [Instr.addi w p f, Instr.andi w p f, Instr.ori w p f, Instr.xori w p
    f, Instr.muli w p f] ∧ f.x.toNat ≤ 1 ∧ flagged = (f.x.toNat == 1) ∨ c ∈ [Instr.cmpi w p f] ∧ f.d = 0 ∧ f.x = 0 ∧ flagged = true ∨ c ∈
    [Instr.movi w p f] ∧ f.a = 0 ∧ f.x = 0 ∧ flagged = false)) :=
    ⟨runs, w0, pfx, Instr.add w0 pfx (fb 6 1 2 true), 6, true, by unfold Sys2Proof.Machine.State.issues; decide +kernel, by decide +kernel,
    by decide +kernel, Or.inl ⟨fb 6 1 2 true, by decide +kernel, by decide +kernel, Or.inl ⟨by simp, by decide +kernel⟩⟩⟩

end Sys2Proof.Tests
end

section
/-!
PROOFS. Register writes by access class and commit groups (chapter 2): what writeField does in each case of R38 to R42 and R45, what a
commit group does at its commit point (R44, R45, R49), and the obligation of access classes and commit groups.
-/

namespace Sys2Proof.Machine

/-! ### One field of a register write -/

/-- The field that a row of the table of the register at `a` describes. -/
def FieldDef.fldAt (d : FieldDef) (a : Nat) : Fld := ⟨a, d.hi, d.lo⟩

/-- The value a 32-bit write of `v` carries for a field (R38). -/
def FieldDef.carried (d : FieldDef) (v : Nat) : Nat := v / 2 ^ d.lo % 2 ^ (d.hi + 1 - d.lo)

theorem FieldDef.carried_lt (d : FieldDef) (v a : Nat) : d.carried v < 2 ^ (d.fldAt a).width :=
  Nat.mod_lt _ (Nat.two_pow_pos _)

/-- A field set to the value carried for it reads that value: nothing is cut off. -/
theorem State.fld_setFld_carried (s : State) (a v : Nat) (d : FieldDef) :
    (s.setFld (d.fldAt a) (d.carried v)).fld (d.fldAt a) = d.carried v := by
  rw [State.fld_setFld_same, Nat.mod_eq_of_lt (d.carried_lt v a)]

section WriteField
variable {s₀ s : State} {a v : Nat} {extra : Nat → Nat → Bool} {d : FieldDef}

theorem writeField_ro_wo (h : d.acc = .ro ∨ d.acc = .wo) : writeField s₀ a v extra s d = s := by
  obtain h | h := h <;> simp only [writeField, h]

/-- RW and RWI fields (R40, R42): an undefined encoding is refused, any other value is taken at once. -/
theorem writeField_rw (h : d.acc = .rw ∨ d.acc = .rwi) : writeField s₀ a v extra s d =
    if d.undefinedVal (d.carried v) || extra d.lo (d.carried v) then s.reject a d.lo else s.setFld (d.fldAt a) (d.carried v) := by
  obtain h | h := h <;> simp only [writeField, h] <;> rfl

theorem writeField_w1c (h : d.acc = .w1c) : writeField s₀ a v extra s d =
    s.setFld (d.fldAt a) (s.fld (d.fldAt a) - (s.fld (d.fldAt a) &&& d.carried v)) := by
  simp only [writeField, h] <;> rfl

theorem writeField_w1s (h : d.acc = .w1s) : writeField s₀ a v extra s d =
    s.setFld (d.fldAt a) (s.fld (d.fldAt a) ||| d.carried v) := by
  simp only [writeField, h] <;> rfl

/-- RWS fields (R38, R42): the value in force does not reach the field; another one is refused while the block is enabled. -/
theorem writeField_rws (h : d.acc = .rws) : writeField s₀ a v extra s d =
    if d.carried v = s₀.fld (d.fldAt a) then s
    else if s₀.bit (enableOf a) then s.reject a d.lo
    else if d.undefinedVal (d.carried v) || extra d.lo (d.carried v) then s.reject a d.lo
    else s.setFld (d.fldAt a) (d.carried v) := by
  simp only [writeField, h] <;> rfl

/-- RWL fields (R39, R42, R45): a value other than the one in force is staged; a member of a commit group is refused while its COMMIT
reads 1, any other field when the encoding is undefined. -/
theorem writeField_rwl (h : d.acc = .rwl) : writeField s₀ a v extra s d =
    if d.carried v = s₀.fld (d.fldAt a) then s
    else if d.grp then (if s₀.bit (commitOf a) then s.reject a d.lo else s.stage (d.fldAt a) (some (d.carried v)))
    else if d.undefinedVal (d.carried v) || extra d.lo (d.carried v) then s.reject a d.lo
    else s.stage (d.fldAt a) (some (d.carried v)) := by
  simp only [writeField, h] <;> rfl

end WriteField

/-! ### Commit groups -/

/-- A field with a staged value takes it, and nothing stays staged for it. -/
theorem State.apply_of_stagedVal {s : State} {f : Fld} {v : Nat} (h : s.stagedVal f = some v) :
    s.apply f = (s.stage f none).setFld f v := by
  simp only [State.apply, h] <;> rfl

/-- Every member's staged value applied, in the group's order. -/
def State.applyAll (s : State) (members : List Fld) : State := members.foldl (fun s f => s.apply f) s

/-- Every member's staged value discarded. -/
def State.discardAll (s : State) (members : List Fld) : State := members.foldl (fun s f => s.stage f none) s

section CommitGroup
variable {s : State} {imm commit : Fld} {members : List Fld} {check : State → Bool}

/-- No COMMIT and no IMMED mode: the group is left alone (R44, R49). -/
theorem commitGroup_of_not_due (hc : s.bit commit = false) (hi : s.bit imm = false) :
    s.commitGroup imm commit members check = (s, false) := by
  simp [State.commitGroup, hc, hi]

/-- A group with a staged member, at its commit point by COMMIT or in IMMED mode: applied whole when its check passes, else discarded whole
with CFG_MISMATCH (R45, R49). -/
theorem commitGroup_of_staged (hdue : s.bit commit = true ∨ s.bit imm = true)
    (hany : members.any (fun f => (s.stagedVal f).isSome) = true) :
    s.commitGroup imm commit members check =
      if check ((s.setFld commit 0).applyAll members) then ((s.setFld commit 0).applyAll members, true)
      else (((s.setFld commit 0).discardAll members).mismatch commit.addr commit.lo, false) := by
  have hgo : (s.bit commit || (s.bit imm && true)) = true := by simpa using hdue
  simp only [State.commitGroup, hany, hgo, State.applyAll, State.discardAll, if_true, Bool.not_true, Bool.false_eq_true, if_false]
    <;> rfl

end CommitGroup

/-- Settles O33: one clause of the obligation is one case of the equation of its access class, or of a commit group at its commit point. -/
theorem fieldAccessAndCommit : Obligations.FieldAccessAndCommit := by
  refine ⟨fun s a v d _ => ⟨writeField_ro_wo, fun h (hv : d.undefinedVal (d.carried v) = false) => ?rwTaken,
      fun h (hv : d.undefinedVal (d.carried v) = true) => ?rwRefused, writeField_w1c, writeField_w1s,
      fun h hc => ?rwsInForce, fun h hc he => ?rwsEnabled, fun h hc he (hv : d.undefinedVal (d.carried v) = false) => ?rwsTaken,
      fun h hc hg (hv : d.undefinedVal (d.carried v) = false) => ?rwlStaged,
      fun h hc hg hb => ?rwlRefused⟩,
    fun s imm c members check _ => ⟨fun hc hany => ⟨fun hok => ?applied, fun hbad => ?discarded⟩, commitGroup_of_not_due,
      fun f v => State.apply_of_stagedVal (State.stagedVal_stage_same s f (some v))⟩⟩
  case rwTaken =>
    have hw : writeField s a v plain s d = s.setFld (d.fldAt a) (d.carried v) :=
      (writeField_rw h).trans (if_neg (by simp [plain, hv]))
    exact ⟨hw, hw ▸ s.fld_setFld_carried a v d⟩
  case rwRefused => exact (writeField_rw h).trans (if_pos (by simp [plain, hv]))
  case rwsInForce => exact (writeField_rws h).trans (if_pos hc)
  case rwsEnabled => exact (writeField_rws h).trans ((if_neg hc).trans (if_pos he))
  case rwsTaken =>
    have hw : writeField s a v plain s d = s.setFld (d.fldAt a) (d.carried v) :=
      (writeField_rws h).trans ((if_neg hc).trans ((if_neg (by simp [he])).trans (if_neg (by simp [plain, hv]))))
    exact ⟨hw, hw ▸ s.fld_setFld_carried a v d⟩
  case rwlStaged =>
    have hw : writeField s a v plain s d = s.stage (d.fldAt a) (some (d.carried v)) :=
      (writeField_rwl h).trans ((if_neg hc).trans ((if_neg (by simp [hg])).trans (if_neg (by simp [plain, hv]))))
    exact ⟨hw, hw ▸ s.fld_stage (d.fldAt a) _ (d.fldAt a)⟩
  case rwlRefused => exact (writeField_rwl h).trans ((if_neg hc).trans ((if_pos hg).trans (if_pos hb)))
  case applied => exact (commitGroup_of_staged (.inl hc) hany).trans (if_pos hok)
  case discarded => exact (commitGroup_of_staged (.inl hc) hany).trans (if_neg (Bool.eq_false_iff.mp hbad))

end Sys2Proof.Machine
end

section
/-!
PROOFS. The state after reset: every accessor reads the default of its table, so a field reads the value of its row in the register map
and memory reads zeros; and the obligation of the state after reset.
-/

namespace Sys2Proof.Machine

/-! ### Reads at reset: nothing is listed, so every read gives the default of its table -/

@[simp] theorem State.fld_reset (f : Fld) : State.reset.fld f = fieldReset f.key := rfl

@[simp] theorem State.str_reset (w : StrId) : State.reset.str w = StrSt.init := rfl

/-- Memory reads zeros at reset. -/
@[simp] theorem State.pmBytes_reset (p off n : Nat) : State.reset.pmBytes p off n = zeros n := by
  have hget (k : Nat) : pmGet State.reset.pm k = 0 := by rw [State.reset_pm]; rfl
  simp only [State.pmBytes, zeros, hget, List.map_const', List.length_range]

/-! ### Reset values from the register map -/

/-- The row of a block's register table that describes the field at an offset and a lowest bit. -/
def Blk.fieldRow (b : Blk) (off lo : Nat) : Option FieldDef :=
  (b.table.find? (fun e => e.1 == off)).bind (fun e => e.2.find? (fun d => d.lo == lo))

/-- A field of a register whose reset value does not depend on the instance has, at reset, the value of its row. -/
theorem State.fld_reset_of_fieldRow {a i off : Nat} {b : Blk} {d : FieldDef} (hlo : d.lo < 32) (hloc : locate a = some (b, i, off))
    (hinst : instReset b i off d.lo = none) (hrow : b.fieldRow off d.lo = some d) : State.reset.fld (d.fldAt a) = d.rst := by
  have haddr : (32 * a + d.lo) / 32 = a := by omega
  have hbit : (32 * a + d.lo) % 32 = d.lo := by omega
  obtain ⟨e, he, hd⟩ := Option.bind_eq_some_iff.mp hrow
  simp only [State.fld_reset, Fld.key, FieldDef.fldAt, fieldReset, haddr, hbit, hloc, hinst, fieldDefs, he, hd]

/-- The instance and the offset of an address in a block of several instances (Table 02-1). -/
theorem Blk.div_mod_stride {b : Blk} {n off : Nat} (hoff : off < b.stride) :
    (b.base + off + b.stride * n - b.base) / b.stride = n ∧ (b.base + off + b.stride * n - b.base) % b.stride = off := by
  rw [Nat.add_assoc, Nat.add_sub_cancel_left, Nat.add_mul_div_left _ _ (Nat.zero_lt_of_lt hoff), Nat.div_eq_of_lt hoff,
    Nat.zero_add, Nat.add_mul_mod_self_left, Nat.mod_eq_of_lt hoff]
  exact ⟨rfl, rfl⟩

/-- An address between the bases of the FC block and of the pond block is one of an FC (Table 02-1). -/
theorem locate_fc {n off : Nat} (hn : n < Blk.fc.count) (hoff : off < Blk.fc.stride) :
    locate (Blk.fc.base + off + Blk.fc.stride * n) = some (.fc, n, off) := by
  obtain ⟨hi, ho⟩ := Blk.div_mod_stride (b := .fc) (n := n) hoff
  generalize ha : Blk.fc.base + off + Blk.fc.stride * n = a at hi ho ⊢
  have hlow : 0x100000 ≤ a := by simp only [Blk.base] at ha; omega
  have hhigh : a < 0x400000 := by simp only [Blk.base, Blk.stride, Blk.count] at ha hn hoff; omega
  unfold locate
  iterate 8 rw [if_neg (by omega)]
  simp only [if_pos hhigh, hi, ho, if_pos hn]

/-- An address between the bases of the tier block and of the service block is one of a tier port (Table 02-1). -/
theorem locate_tier {n off : Nat} (hn : n < Blk.tier.count) (hoff : off < Blk.tier.stride) :
    locate (Blk.tier.base + off + Blk.tier.stride * n) = some (.tier, n, off) := by
  obtain ⟨hi, ho⟩ := Blk.div_mod_stride (b := .tier) (n := n) hoff
  generalize ha : Blk.tier.base + off + Blk.tier.stride * n = a at hi ho ⊢
  have hlow : 0xC80000 ≤ a := by simp only [Blk.base] at ha; omega
  have hhigh : a < 0xD00000 := by simp only [Blk.base, Blk.stride, Blk.count] at ha hn hoff; omega
  unfold locate
  iterate 16 rw [if_neg (by omega)]
  simp only [if_pos hhigh, hi, ho, if_pos hn]

/-! ### The fields that tell the state of the device, its channels, weirs and tier ports -/

theorem State.pwrReady_reset : State.reset.fld PWR_STAT.READY = 0 :=
  State.fld_reset_of_fieldRow (d := ⟨24, 24, .ro, 0, [], false⟩) (b := .pwr) (i := 0) (off := 0x004) (by decide) rfl rfl rfl

theorem State.bootStage_reset : State.reset.fld BOOT_STAGE.STAGE = 1 :=
  State.fld_reset_of_fieldRow (d := ⟨7, 0, .ro, 1, [], false⟩) (b := .pwr) (i := 0) (off := 0x034) (by decide) rfl rfl rfl

theorem State.fcState_reset {n : Nat} (hn : n < 96) : State.reset.fcState n = 0 :=
  State.fld_reset_of_fieldRow (d := ⟨28, 26, .ro, 0, [], false⟩) (by decide) (locate_fc (off := 0x004) hn (by decide)) rfl rfl

theorem State.weirState_reset {n : Nat} (hn : n < 96) : State.reset.fld (WEIR_STAT.STATE n) = 0 :=
  State.fld_reset_of_fieldRow (d := ⟨20, 18, .ro, 0, [], false⟩) (by decide) (locate_fc (off := 0x018) hn (by decide)) rfl rfl

theorem State.tierState_reset {t : Nat} (ht : t < 8) : State.reset.tierState t = 0 :=
  State.fld_reset_of_fieldRow (d := ⟨28, 26, .ro, 0, [], false⟩) (by decide) (locate_tier (off := 0x004) ht (by decide)) rfl rfl

/-- Settles O35: each clause is a read of an empty table, and a register field's value then comes from its row in the register map. -/
theorem resetState : Obligations.ResetState := by
  refine ⟨rfl, State.fld_reset, rfl, rfl, rfl, fun w => ⟨State.str_reset w, ?notRunning⟩, rfl, rfl, State.pwrReady_reset,
    State.bootStage_reset, fun n hn => ⟨State.fcState_reset hn, State.weirState_reset hn⟩, fun t ht => State.tierState_reset ht,
    fun i => State.pmBytes_reset i.val 0 8⟩
  case notRunning => simp [StrSt.init]

end Sys2Proof.Machine
end

section
/-!
PROOFS. Register accesses (chapter 2): which accesses of a requester reach their block, what a register write and the register
commands do, and the obligation of register accesses.
-/

namespace Sys2Proof.Machine

/-! ### Which accesses reach their block (R22, R432, R453) -/

@[simp] theorem State.mayAccess_svc (s : State) (a : Nat) (w : Bool) : s.mayAccess .svc a w = (true, s) := rfl

@[simp] theorem State.mayAccess_strider (s : State) (u : StrId) (a : Nat) (w : Bool) : s.mayAccess (.strider u) a w = (true, s) := rfl

section MayAccess
variable {s : State} {a : Nat} {w : Bool}

theorem State.mayAccess_bar0 (hw : s.isWorker = false) : s.mayAccess .bar0 a w = (inBar0 a, s.napEnd) := by
  simp [State.mayAccess, hw]

theorem State.mayAccess_bar0_worker (hw : s.isWorker = true) : s.mayAccess .bar0 a w = (false, s) := by
  simp [State.mayAccess, hw]

theorem State.mayAccess_bar2_worker (hw : s.isWorker = true) : s.mayAccess .bar2 a w = (false, s) := by
  simp [State.mayAccess, hw]

/-- Every BAR2 access is refused and reported in mode 0 (R453). -/
theorem State.mayAccess_bar2_off (hw : s.isWorker = false) (hm : s.fld HOST_STAT.BAR2 = 0) :
    s.mayAccess .bar2 a true = (false, s.bar2Off a 1) := by
  simp [State.mayAccess, hw, hm]

/-- In mode 2 BAR2 reads and writes (R453). -/
theorem State.mayAccess_bar2_full (hw : s.isWorker = false) (hm : s.fld HOST_STAT.BAR2 = 2) :
    s.mayAccess .bar2 a w = (true, s.napEnd) := by
  simp [State.mayAccess, hw, hm]

end MayAccess

theorem State.noteBar2_of_ne (s : State) {who : Requester} (a : Nat) (h : who ≠ .bar2) : s.noteBar2 who a = s := if_neg h

/-! ### A 32-bit register write (R34, R36) -/

section RegWrite
variable {s u : State} {who : Requester} {a : Nat} {v : Word32}

/-- A write that may not proceed, is not aligned or meets no register has no effect beside that of the access itself. -/
theorem State.regWrite_ignored {ok : Bool} (h : s.mayAccess who a true = (ok, u))
    (hno : ok = false ∨ a % 4 ≠ 0 ∨ isRegister a = false) : s.regWrite who a v = u := by
  have hskip : (!ok || a % 4 != 0 || !isRegister a) = true := by simpa [or_assoc] using hno
  simp only [State.regWrite, h, hskip, if_true]

/-- A write that may proceed, by the place of its register in a pair. -/
theorem State.regWrite_reaches (h : s.mayAccess who a true = (true, u)) (ha : a % 4 = 0) (hr : isRegister a = true) :
    s.regWrite who a v =
      if isPairLo a then u.stageLow who v
      else if isPairHi a then (u.noteBar2 who a).commitPair who a v.toNat
      else (u.noteBar2 who a).writeReg who a v.toNat := by
  simp [State.regWrite, h, ha, hr]

theorem State.regWrite_pairLo (h : s.mayAccess who a true = (true, u)) (ha : a % 4 = 0) (hr : isRegister a = true)
    (hlo : isPairLo a = true) : s.regWrite who a v = u.stageLow who v :=
  (State.regWrite_reaches h ha hr).trans (if_pos hlo)

theorem State.regWrite_pairHi (h : s.mayAccess who a true = (true, u)) (ha : a % 4 = 0) (hr : isRegister a = true)
    (hlo : isPairLo a = false) (hhi : isPairHi a = true) :
    s.regWrite who a v = (u.noteBar2 who a).commitPair who a v.toNat := by
  simp [State.regWrite_reaches h ha hr, hlo, hhi]

theorem State.regWrite_single (h : s.mayAccess who a true = (true, u)) (ha : a % 4 = 0) (hr : isRegister a = true)
    (hlo : isPairLo a = false) (hhi : isPairHi a = false) :
    s.regWrite who a v = (u.noteBar2 who a).writeReg who a v.toNat := by
  simp [State.regWrite_reaches h ha hr, hlo, hhi]

/-- Service firmware reaches every register. -/
theorem State.regWrite_svc_single (ha : a % 4 = 0) (hr : isRegister a = true) (hlo : isPairLo a = false) (hhi : isPairHi a = false) :
    s.regWrite .svc a v = s.writeReg .svc a v.toNat := by
  rw [State.regWrite_single (s.mayAccess_svc a true) ha hr hlo hhi, State.noteBar2_of_ne s a (by decide)]

/-- The high half of a pair with a low half staged: both halves are one write (R36). -/
theorem State.commitPair_of_staged {l : Word32} {n : Nat} (h : (s.latch who).2 = some l) :
    s.commitPair who a n = ((s.setLatch who ((s.latch who).1, none)).writeHalf who (a - 4) l.toNat).writeReg who a n := by
  simp only [State.commitPair, h]

/-- A read of the low half latches the high half (R35). -/
theorem State.regRead_pairLo (h : s.mayAccess who a false = (true, u)) (ha : a % 4 = 0) (hlo : isPairLo a = true) :
    s.regRead who a = (u.peek a, u.setLatch who (u.peek (a + 4), (u.latch who).2)) := by
  simp [State.regRead, h, ha, hlo]

/-- A read that is not aligned reads 0 (R34). -/
theorem State.regRead_unaligned (ha : a % 4 ≠ 0) : (s.regRead who a).1 = 0 := by
  simp [State.regRead, ha]

end RegWrite

/-! ### The register commands -/

section Commands
variable {s : State} {a : BitVec 24} {who : Requester}

theorem exec_regWrite_unaligned (hp : s.powered = true) {size : Fin 3} (v : Word32) (h : a.toNat % 2 ^ size.val ≠ 0) :
    exec (.regWrite who a size v) s = .next (settle s s) := by
  rw [exec_regWrite, execRegWrite, run_powered hp, if_pos (by simpa using h)]

/-- A write narrower than 32 bits of service firmware is refused by its block (R34). -/
theorem exec_regWrite_narrow (hp : s.powered = true) {size : Fin 3} (v : Word32) (hsize : size.val < 2)
    (ha : a.toNat % 2 ^ size.val = 0) : exec (.regWrite .svc a size v) s = .next (settle s (s.narrowWrite a.toNat)) := by
  simp [exec_regWrite, execRegWrite, run_powered hp, hsize, ha]

theorem exec_regWrite_word (hp : s.powered = true) (v : Word32) (ha : a.toNat % 4 = 0) :
    exec (.regWrite who a 2 v) s = .next (settle s (s.regWrite who a.toNat v)) := by
  simp [exec_regWrite, execRegWrite, run_powered hp, ha]

/-- A write over a host path that is refused has the effect of the refusal alone. -/
theorem exec_regWrite_refused (hp : s.powered = true) (v : Word32) (ha : a.toNat % 4 = 0) {u : State}
    (h : s.mayAccess who a.toNat true = (false, u)) : exec (.regWrite who a 2 v) s = .next (settle s u) := by
  rw [exec_regWrite_word hp v ha, State.regWrite_ignored h (.inl rfl)]

theorem exec_pairLoRead_of_pairLo (hp : s.powered = true) (h : isPairLo a.toNat = true) :
    exec (.pairLoRead who a) s = .next (settle s ((s.regRead who a.toNat).2.emit (.read a.toNat (s.regRead who a.toNat).1))) := by
  simp [exec_pairLoRead, execPairLoRead, run_powered hp, h]

theorem exec_pairLoWrite_of_pairLo (hp : s.powered = true) (v : Word32) (h : isPairLo a.toNat = true) :
    exec (.pairLoWrite who a v) s = .next (settle s (s.regWrite who a.toNat v)) := by
  simp [exec_pairLoWrite, execPairLoWrite, run_powered hp, h]

theorem exec_pairHiWrite_of_pairHi (hp : s.powered = true) (v : Word32) (h : isPairHi a.toNat = true) :
    exec (.pairHiWrite who a v) s = .next (settle s (s.regWrite who a.toNat v)) := by
  simp [exec_pairHiWrite, execPairHiWrite, run_powered hp, h]

theorem exec_regTmo_of_register (hp : s.powered = true) (h : isRegister a.toNat = true) :
    exec (.regTmo a) s = .next (settle s (s.raise Flt.DEV_REG_TMO)) := by
  simp [exec_regTmo, execRegTmo, run_powered hp, h]

theorem exec_faultAck_of_ackAddr (hp : s.powered = true) {blk inst : Byte} (bits : Word32) {k : Nat}
    (h : ackAddr blk.toNat inst.toNat = some k) : exec (.faultAck blk inst bits) s = .next (settle s (s.regWrite .svc k bits)) := by
  simp [exec_faultAck, execFaultAck, run_powered hp, h]

/-- DEV_CFGMODE is a register by itself, in the device block, which service firmware writes (R50). -/
theorem exec_devCfgmodeWrite_eq (hp : s.powered = true) (v : Word32) :
    exec (.devCfgmodeWrite v) s = .next (settle s ((s.writeCfgmode v.toNat).ackWritten s DEV_CFGMODE.addr)) := by
  have hroute : s.routeWrite .svc DEV_CFGMODE.addr v.toNat = s.writeCfgmode v.toNat := rfl
  rw [exec_devCfgmodeWrite, execDevCfgmodeWrite, run_powered hp,
    State.regWrite_svc_single (by decide) (by decide) (by decide) (by decide), State.writeReg, hroute]

end Commands

/-- Settles O34: each clause is the equation of its command, with the access granted or refused, and the case of the register
written (none, one by itself, the low or the high half of a pair). -/
theorem registerAccesses : Obligations.RegisterAccesses := by
  refine fun s a hp => ⟨fun _ _ v h => exec_regWrite_unaligned hp v h, fun size v hsize ha hr => ?narrow,
    fun v ha => ⟨fun hr => ?noRegister, fun hr hlo hhi => ?single⟩, fun v ha _ hw hout => ?bar0Outside,
    fun v ha _ hw hm => exec_regWrite_refused hp v ha (State.mayAccess_bar2_off hw hm), fun v ha hr hlo hhi hw hm => ?bar2Write,
    fun v hw => ?bar2Worker, fun w ha hlo => ?lowRead, fun w v ha hr hlo => ?lowWrite, fun w l v ha hr hlo hhi hl => ?highWrite,
    fun hr => exec_regTmo_of_register hp hr, fun v => exec_devCfgmodeWrite_eq hp v,
    fun blk inst bits k hk ha hr hlo hhi => ?acknowledged, fun who => ?alignedRead⟩
  case narrow => rw [exec_regWrite_narrow hp v hsize ha, State.narrowWrite, if_pos hr]
  case noRegister => rw [exec_regWrite_word hp v ha, State.regWrite_ignored (s.mayAccess_svc _ _) (.inr (.inr hr))]
  case single => rw [exec_regWrite_word hp v ha, State.regWrite_svc_single ha hr hlo hhi]
  case bar0Outside => exact exec_regWrite_refused hp v ha (hout ▸ State.mayAccess_bar0 hw)
  case bar2Write => rw [exec_regWrite_word hp v ha, State.regWrite_single (State.mayAccess_bar2_full hw hm) ha hr hlo hhi]
  case bar2Worker =>
    by_cases ha : a.toNat % 4 = 0
    · exact exec_regWrite_refused hp v ha (State.mayAccess_bar2_worker hw)
    · exact exec_regWrite_unaligned hp v ha
  case lowRead => rw [exec_pairLoRead_of_pairLo hp hlo, State.regRead_pairLo (s.mayAccess_strider w _ _) ha hlo]
  case lowWrite =>
    rw [exec_pairLoWrite_of_pairLo hp v hlo, State.regWrite_pairLo (s.mayAccess_strider w _ _) ha hr hlo, State.stageLow]
  case highWrite =>
    rw [exec_pairHiWrite_of_pairHi hp v hhi, State.regWrite_pairHi (s.mayAccess_strider w _ _) ha hr hlo hhi,
      State.noteBar2_of_ne s _ (by simp), State.commitPair_of_staged hl]
  case acknowledged => rw [exec_faultAck_of_ackAddr hp bits hk, State.regWrite_svc_single ha hr hlo hhi]
  case alignedRead => exact fun hread => by_contra fun ha => hread (State.regRead_unaligned ha)

end Sys2Proof.Machine
end

section
/-!
PROOFS. The host block (chapter 15): what leaves its bookkeeping as it was, doorbells, the enable, masks and D3hot, the data port, and
the obligation of the host block.
-/

namespace Sys2Proof.Machine

/-- A fold whose steps keep a view of the state keeps it. -/
theorem foldl_keeps {σ α β : Type} (view : σ → β) {f : σ → α → σ} (h : ∀ s x, view (f s x) = view s) (l : List α) (s : σ) :
    view (l.foldl f s) = view s := by
  induction l generalizing s with
  | nil => rfl
  | cons x l ih => exact (ih (f s x)).trans (h s x)

/-! ### What leaves the host's bookkeeping as it was -/

@[simp] theorem State.host_setBit (s : State) (f : Fld) (v : Bool) : (s.setBit f v).host = s.host := rfl

@[simp] theorem State.host_eclkPlls (s : State) (on : Bool) : (s.eclkPlls on).host = s.host := by
  unfold State.eclkPlls
  exact foldl_keeps State.host (fun _ _ => by simp) _ s

@[simp] theorem State.host_selfRefresh (s : State) (on : Bool) : (s.selfRefresh on).host = s.host := by
  refine foldl_keeps State.host (fun s c => ?_) _ s
  split_ifs <;> rfl

@[simp] theorem State.host_napEnd (s : State) : s.napEnd.host = s.host := by
  unfold State.napEnd
  split_ifs <;> simp

@[simp] theorem State.qpair_napEnd (s : State) (q : Nat) : s.napEnd.qpair q = s.qpair q := by simp [State.qpair]

@[simp] theorem State.host_apply (s : State) (f : Fld) : (s.apply f).host = s.host := by
  unfold State.apply
  split <;> rfl

@[simp] theorem State.host_applyStaged (s : State) (p : Nat → Bool) : (s.applyStaged p).host = s.host := by
  refine foldl_keeps State.host (fun s e => ?_) _ s
  split
  · split_ifs <;> simp
  · rfl

@[simp] theorem State.qpair_setQpair_same (s : State) (q : Nat) (v : Option QPair) : (s.setQpair q v).qpair q = v := by
  simp [State.qpair, State.setQpair]

@[simp] theorem State.fld_setQpair (s : State) (q : Nat) (v : Option QPair) (f : Fld) : (s.setQpair q v).fld f = s.fld f := rfl

/-! ### Registers of the host block -/

/-- An address between the bases of the host block and of the tier block is one of the host block (Table 02-1). -/
theorem locate_host {off : Nat} (h : off < 0x80000) : locate (Blk.host.base + off) = some (.host, 0, off) := by
  simp only [Blk.base]
  unfold locate
  iterate 15 rw [if_neg (by omega)]
  rw [if_pos (by omega)]
  simp [Blk.base]

/-- A write of a register that holds no fault bit acknowledges nothing. -/
theorem State.ackWritten_of_noFaultBits {s s₀ : State} {a : Nat} (h : faultBitsOf a = []) : s.ackWritten s₀ a = s := by
  simp [State.ackWritten, h]

/-- A register of one field that takes every value: the field is set (R38). -/
theorem writePlain_oneField {s : State} {a v : Nat} {d : FieldDef} (hd : fieldDefs a = [d]) (hacc : d.acc = .rw ∨ d.acc = .rwi)
    (hbad : d.bad = []) : writePlain s a v [] plain = s.setFld (d.fldAt a) (d.carried v) := by
  have hgood : (d.undefinedVal (d.carried v) || plain d.lo (d.carried v)) = false := by simp [FieldDef.undefinedVal, hbad, plain]
  simp [writePlain, hd, writeField_rw hacc, hgood]

/-! ### Doorbells (R435) -/

section Doorbells
variable {s : State} {q : Nat} {v : Nat} {who : Requester} {p : QPair}

theorem State.sqDoorbell_noQueue (h : s.qpair q = none) : s.sqDoorbell who q v = s.napEnd.bellBad who (sqBell q) := by
  simp [State.sqDoorbell, h]

theorem State.sqDoorbell_tooLarge (h : s.qpair q = some p) (hv : p.size ≤ v) :
    s.sqDoorbell who q v = s.napEnd.bellBad who (sqBell q) := by
  simp [State.sqDoorbell, h, hv]

theorem State.sqDoorbell_moves (h : s.qpair q = some p) (hdel : p.deleting = false) (hv : v < p.size) :
    s.sqDoorbell who q v = (s.napEnd.setFld (SQ_TAIL.TAIL q) v).setQpair q (some { p with sqTail := v }) := by
  simp [State.sqDoorbell, h, hdel, hv]

theorem State.cqDoorbell_noQueue (h : s.qpair q = none) : s.cqDoorbell who q v = s.napEnd.bellBad who (cqBell q) := by
  simp [State.cqDoorbell, h]

theorem State.cqDoorbell_moves (h : s.qpair q = some p) (hdel : p.deleting = false) (hv : v < p.size)
    (hrel : (v + p.size - p.cqHead) % p.size ≤ p.unreleased) :
    s.cqDoorbell who q v = (s.napEnd.setFld (CQ_HEAD.HEAD q) v).setQpair q (some { p with cqHead := v }) := by
  simp [State.cqDoorbell, h, hdel, hv, hrel]

end Doorbells

/-- The doorbells are registers by themselves, on the BAR0 path, and hold no fault bit. -/
theorem sqTail_register : ∀ q : Fin 16, isRegister (SQ_TAIL.addr q) = true ∧ isPairLo (SQ_TAIL.addr q) = false ∧
    isPairHi (SQ_TAIL.addr q) = false ∧ inBar0 (SQ_TAIL.addr q) = true ∧ faultBitsOf (SQ_TAIL.addr q) = [] := by decide

theorem cqHead_register : ∀ q : Fin 16, isRegister (CQ_HEAD.addr q) = true ∧ isPairLo (CQ_HEAD.addr q) = false ∧
    isPairHi (CQ_HEAD.addr q) = false ∧ inBar0 (CQ_HEAD.addr q) = true ∧ faultBitsOf (CQ_HEAD.addr q) = [] := by decide

/-- A write over the BAR0 path to the doorbell page: submission and completion doorbells alternate (R435). -/
theorem State.routeWrite_doorbell (s : State) {off : Nat} (v : Nat) (h : 0x100 ≤ off ∧ off < 0x180) :
    s.routeWrite .bar0 (Blk.host.base + off) v =
      if off % 8 = 0 then s.sqDoorbell .bar0 ((off - 0x100) / 8) (v % 4096) else s.cqDoorbell .bar0 ((off - 0x100) / 8) (v % 4096) := by
  have hne {a : Nat} (ha : a < Blk.host.base + 0x100) : Blk.host.base + off ≠ a := by omega
  have hoff : Blk.host.base + off - HOST_CTL.addr = off := Nat.add_sub_cancel_left ..
  unfold State.routeWrite State.writeHost
  rw [locate_host (by omega)]
  simp only [ hoff, h, hne (a := HOST_CTL.addr) (by decide), hne (a := HOST_ACK.addr) (by decide),
    hne (a := DP_CTL.addr) (by decide), hne (a := DP_ADDR_LO.addr) (by decide), hne (a := DP_ADDR_HI.addr) (by decide), or_self,
    and_self, if_false, if_true]

theorem State.regWrite_sqTail {s : State} (hw : s.isWorker = false) (q : Fin 16) (v : BitVec 12) :
    s.regWrite .bar0 (SQ_TAIL.addr q) (v.setWidth 32) = s.napEnd.sqDoorbell .bar0 q v.toNat := by
  obtain ⟨hr, hlo, hhi, hin, hbits⟩ := sqTail_register q
  have haddr : SQ_TAIL.addr q = Blk.host.base + (0x100 + 8 * q) := by simp only [SQ_TAIL.addr, Blk.base]; omega
  have hv : v.toNat % 4294967296 % 4096 = v.toNat := by omega
  rw [State.regWrite_single (hin ▸ State.mayAccess_bar0 hw) (by simp only [SQ_TAIL.addr]; omega) hr hlo hhi,
    State.noteBar2_of_ne _ _ (by decide), State.writeReg, State.ackWritten_of_noFaultBits hbits, haddr,
    State.routeWrite_doorbell _ _ (by omega), if_pos (by omega)]
  simp [hv]

theorem State.regWrite_cqHead {s : State} (hw : s.isWorker = false) (q : Fin 16) (v : BitVec 12) :
    s.regWrite .bar0 (CQ_HEAD.addr q) (v.setWidth 32) = s.napEnd.cqDoorbell .bar0 q v.toNat := by
  obtain ⟨hr, hlo, hhi, hin, hbits⟩ := cqHead_register q
  have haddr : CQ_HEAD.addr q = Blk.host.base + (0x104 + 8 * q) := by simp only [CQ_HEAD.addr, Blk.base]; omega
  have hq : (0x104 + 8 * q.val - 0x100) / 8 = q := by omega
  have hv : v.toNat % 4294967296 % 4096 = v.toNat := by omega
  rw [State.regWrite_single (hin ▸ State.mayAccess_bar0 hw) (by simp only [CQ_HEAD.addr]; omega) hr hlo hhi,
    State.noteBar2_of_ne _ _ (by decide), State.writeReg, State.ackWritten_of_noFaultBits hbits, haddr,
    State.routeWrite_doorbell _ _ (by omega), if_neg (by omega), hq]
  simp [hv]

theorem exec_sqTail_bar0 {s : State} (hp : s.powered = true) (hw : s.isWorker = false) (q : Fin 16) (v : BitVec 12) :
    exec (.sqTail .bar0 q v) s = .next (settle s (s.napEnd.sqDoorbell .bar0 q v.toNat)) := by
  rw [exec_sqTail, execSqTail, run_powered hp, State.regWrite_sqTail hw]

theorem exec_cqHead_bar0 {s : State} (hp : s.powered = true) (hw : s.isWorker = false) (q : Fin 16) (v : BitVec 12) :
    exec (.cqHead .bar0 q v) s = .next (settle s (s.napEnd.cqDoorbell .bar0 q v.toNat)) := by
  rw [exec_cqHead, execCqHead, run_powered hp, State.regWrite_cqHead hw]

/-! ### Rounds, signals and the enable (R434, R437, R438, R457) -/

section Effects
variable {s : State}

/-- In D3hot a round is the commit point of the host block and nothing more (R431). -/
theorem State.arbRound_d3 (io : HostIo) (h : s.host.d3 = true) :
    s.arbRound io = { s with host := { s.host with dmaBad := io.bad, headWord := io.head } }.applyStaged inHost := by
  simp [State.arbRound, h]

theorem State.coalesce_due {q : Nat} {p : QPair} (hq : s.qpair q = some p) (hn : 0 < p.unsent)
    (ht : elapsed s.dt p.oldest (usTicks p.ctime) = true) :
    s.coalesce q = (s.setQpair q (some { p with unsent := 0 })).msix p.vector := by
  simp [State.coalesce, State.signalQueue, hq, hn, ht, Nat.ne_of_gt hn]

/-- Enabling makes the admin pair from AQ_BASE and AQ_CFG (R434). -/
theorem State.hostEnable_makesAdminPair (hen : s.bit HOST_CTL.EN = false) (hsize : 2 ≤ s.fld AQ_CFG.SIZE) :
    s.hostEnable true =
      (((s.setFld HOST_CTL.EN 1).setFld (SQ_TAIL.TAIL 0) 0).setFld (CQ_HEAD.HEAD 0) 0).setQpair 0
        (some (newPair (s.fld AQ_BASE_HI.BASE * 2 ^ 32 + s.fld AQ_BASE_LO.BASE * 2 ^ 12)
          (s.fld AQ_BASE_HI.BASE * 2 ^ 32 + s.fld AQ_BASE_LO.BASE * 2 ^ 12 + (64 * s.fld AQ_CFG.SIZE + 4095) / 4096 * 4096)
          (s.fld AQ_CFG.SIZE) 3 0 1 0)) := by
  simp only [State.hostEnable, hen, if_true, Bool.false_eq_true, if_false, Nat.not_lt.mpr hsize]

theorem State.fld_admin_en (s : State) :
    (((s.setFld HOST_CTL.EN 1).setFld (SQ_TAIL.TAIL 0) 0).setFld (CQ_HEAD.HEAD 0) 0).fld HOST_CTL.EN = 1 := by
  have hcq : HOST_CTL.EN.key ≠ (CQ_HEAD.HEAD 0).key := by decide
  have hsq : HOST_CTL.EN.key ≠ (SQ_TAIL.TAIL 0).key := by decide
  rw [State.fld_setFld_other _ _ hcq, State.fld_setFld_other _ _ hsq, State.fld_setFld_same]
  rfl

theorem State.fld_admin_tail (s : State) : ((s.setFld (SQ_TAIL.TAIL 0) 0).setFld (CQ_HEAD.HEAD 0) 0).fld (SQ_TAIL.TAIL 0) = 0 := by
  have hcq : (SQ_TAIL.TAIL 0).key ≠ (CQ_HEAD.HEAD 0).key := by decide
  rw [State.fld_setFld_other _ _ hcq, State.fld_setFld_same, Nat.zero_mod]

theorem State.hostEnable_stops (hen : s.bit HOST_CTL.EN = true) :
    s.hostEnable false = { s with host := { s.host with stopping := true } } := by
  simp [State.hostEnable, hen]

/-- Service firmware writes the enable with a value other than the one it reads. -/
theorem State.hostCtlEn_svc {en : Bool} (h : s.bit HOST_CTL.EN = !en) : s.hostCtlEn .svc en = s.hostEnable en := by
  cases en <;> simp [State.hostCtlEn, State.enWrite, h]

/-! ### Masks and D3hot (R431, R433) -/

/-- Unmasking a vector that is pending sends its message. -/
theorem State.msixUnmask_pending {v : Nat} (hpend : Tab.get (fun _ => false) s.host.msixPend v = true) (hd3 : s.host.d3 = false) :
    ∃ u : State, s.msixUnmask v = (u.setPend v false).emit (.msix v) :=
  ⟨_, if_pos (by simp [hpend, hd3])⟩

/-- Whether the function is in D3hot, and what is held until it leaves it. -/
def State.heldBack (s : State) : Bool × List (Nat × List Byte) := (s.host.d3, s.host.held)

/-- Back in D0 nothing is held any more: the writes and messages held go out, and sending holds nothing back. -/
theorem State.heldBack_d0 (s : State) : (s.powerFunction false).heldBack = (false, []) := by
  unfold State.powerFunction
  rw [if_neg (by decide)]
  refine (foldl_keeps State.heldBack (fun s v => ?message) _ _).trans (foldl_keeps State.heldBack (fun s e => ?write) _ _)
  case message => split_ifs <;> rfl
  case write => rfl

theorem State.powerFunction_d0 (s : State) : (s.powerFunction false).host.d3 = false ∧ (s.powerFunction false).host.held = [] :=
  Prod.mk_inj.mp s.heldBack_d0

theorem State.hostPut_d0 (a : Nat) (b : List Byte) (h : s.host.d3 = false) : s.hostPut a b = s.emit (.host a b) := by
  simp [State.hostPut, h]

theorem State.hostPut_d3 (a : Nat) (b : List Byte) (h : s.host.d3 = true) :
    s.hostPut a b = { s with host := { s.host with held := s.host.held ++ [(a, b)] } } := by
  simp [State.hostPut, h]

end Effects

/-! ### The data port (R450, R451) -/

section DataPort
variable {s : State}

/-- A half of DP_ADDR takes every value at once. -/
theorem writePlain_dpAddr (s : State) {f : Fld} (hf : f = DP_ADDR_LO.ADDR ∨ f = DP_ADDR_HI.ADDR) (v : Word32) :
    writePlain s f.addr v.toNat [] plain = s.setFld f v.toNat := by
  have hcarried : (⟨31, 0, .rwi, 0, [], false⟩ : FieldDef).carried v.toNat = v.toNat := by
    simp [FieldDef.carried, Nat.mod_eq_of_lt v.isLt]
  obtain rfl | rfl := hf <;> rw [writePlain_oneField (d := ⟨31, 0, .rwi, 0, [], false⟩) rfl (.inr rfl) rfl, hcarried] <;> rfl

/-- Both halves of DP_ADDR, the low one first, are one write, which takes both (R36, R450). -/
theorem State.regWrite_dpAddr (s : State) (lo hi : Word32) :
    ∃ u : State, (s.regWrite .svc DP_ADDR_LO.addr lo).regWrite .svc DP_ADDR_HI.addr hi =
      ((u.setFld DP_ADDR_LO.ADDR lo.toNat).setFld DP_ADDR_HI.ADDR hi.toNat).dropPrefetch := by
  have hlow (u : State) : u.writeHalf .svc DP_ADDR_LO.addr lo.toNat = u.setFld DP_ADDR_LO.ADDR lo.toNat :=
    writePlain_dpAddr u (.inl rfl) lo
  have hhigh (u : State) : u.writeReg .svc DP_ADDR_HI.addr hi.toNat = (u.setFld DP_ADDR_HI.ADDR hi.toNat).dropPrefetch := by
    rw [State.writeReg, State.ackWritten_of_noFaultBits (by decide), ← writePlain_dpAddr u (.inr rfl) hi]
    rfl
  let t := s.stageLow .svc lo
  have hstaged : (t.latch .svc).2 = some lo := by simp [t, State.stageLow, State.latch, State.setLatch]
  refine ⟨t.setLatch .svc ((t.latch .svc).1, none), ?_⟩
  rw [State.regWrite_pairLo (s.mayAccess_svc _ _) (by decide) (by decide) (by decide),
    State.regWrite_pairHi (State.mayAccess_svc _ _ _) (by decide) (by decide) (by decide) (by decide),
    State.noteBar2_of_ne _ _ (by decide), State.commitPair_of_staged hstaged, hhigh]
  exact congrArg (fun u : State => (u.setFld DP_ADDR_HI.ADDR hi.toNat).dropPrefetch) (hlow _)

/-- The data-port address reads what its two halves were set to. -/
theorem State.dpAddr_halves (s : State) (lo hi : Word32) :
    ((s.setFld DP_ADDR_LO.ADDR lo.toNat).setFld DP_ADDR_HI.ADDR hi.toNat).dropPrefetch.dpAddr = hi.toNat * 2 ^ 32 + lo.toNat := by
  have hlo : ((s.setFld DP_ADDR_LO.ADDR lo.toNat).setFld DP_ADDR_HI.ADDR hi.toNat).fld DP_ADDR_LO.ADDR = lo.toNat := by
    rw [State.fld_setFld_other _ _ (by decide), State.fld_setFld_same]
    exact Nat.mod_eq_of_lt lo.isLt
  have hhi : ((s.setFld DP_ADDR_LO.ADDR lo.toNat).setFld DP_ADDR_HI.ADDR hi.toNat).fld DP_ADDR_HI.ADDR = hi.toNat := by
    rw [State.fld_setFld_same]
    exact Nat.mod_eq_of_lt hi.isLt
  have hkeep (u : State) (f : Fld) : u.dropPrefetch.fld f = u.fld f := rfl
  simp only [State.dpAddr, State.pair, hkeep, hlo, hhi, BitVec.toNat_ofNat]
  omega

/-- DP_CTL is a register by itself, in the host block. -/
theorem State.regWrite_dpCtl (s : State) (v : Word32) : s.regWrite .svc DP_CTL.addr v = (s.dpCtl v).ackWritten s DP_CTL.addr := by
  have hroute : s.routeWrite .svc DP_CTL.addr v.toNat = s.dpCtl (BitVec.ofNat 32 v.toNat) := rfl
  rw [State.regWrite_svc_single (by decide) (by decide) (by decide) (by decide), State.writeReg, hroute, BitVec.ofNat_toNat,
    BitVec.setWidth_eq]

/-- The only command accepted waits for a tier port that has not reached its state in 5 ms (R478). -/
theorem State.portTimeouts_single {q : Fin 16} {c : HostCmd} {t : Nat} {en : Bool} {since : Word} (hacc : s.host.accepted = [c])
    (hwait : c.wait = .port t en since) (hq : c.sq = q.val) (ht : elapsed s.dt since (usTicks 5000) = true)
    (hport : s.portReached t en = false) : s.portTimeouts q = s.finishCmd c 0x42 0 [] := by
  simp [State.portTimeouts, hacc, hwait, hq, ht, hport, Nat.mod_eq_of_lt q.isLt]

end DataPort

/-- A host command reaches a device that is not a worker (R22). -/
theorem run_notWorker {s : State} (hp : s.powered = true) (hw : s.isWorker = false) (f : State → State) :
    run s (fun s => if s.isWorker then s else f s) = .next (settle s (f s)) := by
  simp [run_powered hp, hw]

/-- Settles O45: each clause is the equation of its command, with the doorbell, the enable, the mask or the half of DP_ADDR it writes;
on a worker no access over BAR0 proceeds. -/
theorem hostBlock : Obligations.HostBlock := by
  refine fun s hp => ⟨fun io => ?round, fun io hd3 => State.arbRound_d3 io hd3, fun q v p hw hq hdel => ⟨fun hv => ?sqMoves,
      fun hv => ?sqTooLarge, fun hv hrel => ?cqMoves⟩, fun q v hw hq => ⟨?sqNoQueue, ?cqNoQueue⟩, fun q p hq hn ht => ?coalesced,
    fun en w => ?striderRefused, fun hen => ?stops, fun hen hsize => ?makesAdminPair, fun hw down d3 v q i units n e => ?worker,
    fun down hw => ?reset, fun v hw => ⟨?unmask, State.msixUnmask_pending⟩, fun hw => ?toD3, fun hw => ?toD0,
    fun a b => ⟨State.hostPut_d0 a b, State.hostPut_d3 a b⟩, fun v => ⟨?dpAddrCommand, ?dpAddrReads⟩, fun v => ?dpCtl,
    fun units hw => ⟨?dpWrite, rfl⟩, fun n e hw => ?dpRead, fun ht => ?expire, fun q c t since hacc hwait hq ht hport => ?portTimeout⟩
  case round => rw [exec_hostArbRound, execHostArbRound, run_powered hp]
  case sqMoves => rw [exec_sqTail_bar0 hp hw, State.sqDoorbell_moves (by simpa using hq) hdel hv]
  case sqTooLarge => rw [exec_sqTail_bar0 hp hw, State.sqDoorbell_tooLarge (by simpa using hq) hv]
  case cqMoves => rw [exec_cqHead_bar0 hp hw, State.cqDoorbell_moves (by simpa using hq) hdel hv hrel]
  case sqNoQueue => rw [exec_sqTail_bar0 hp hw, State.sqDoorbell_noQueue (by simpa using hq)]
  case cqNoQueue => rw [exec_cqHead_bar0 hp hw, State.cqDoorbell_noQueue (by simpa using hq)]
  case coalesced => rw [exec_cqCoalesceTimeout, execCqCoalesceTimeout, run_powered hp, State.coalesce_due hq hn ht]
  case striderRefused =>
    rw [exec_hostCtlEn, execHostCtlEn, run_powered hp]
    rfl
  case stops => rw [exec_hostCtlEn, execHostCtlEn, run_powered hp, State.hostCtlEn_svc hen, State.hostEnable_stops hen]
  case makesAdminPair =>
    refine ⟨s.hostEnable true, _, rfl, ?_, ?_, ?_, ?_, ?_⟩
    · rw [exec_hostCtlEn, execHostCtlEn, run_powered hp, State.hostCtlEn_svc hen]
    all_goals rw [State.hostEnable_makesAdminPair hen hsize]
    · rw [State.bit, State.fld_setQpair, State.fld_admin_en]
      rfl
    · rw [State.fld_setQpair, State.fld_admin_tail]
    · rw [State.fld_setQpair, State.fld_setFld_same, Nat.zero_mod]
    · exact State.qpair_setQpair_same ..
  case worker =>
    have hidle {f : State → State} (hf : f s = s) : run s f = .next (settle s s) := by rw [run_powered hp, hf]
    have hbell (x : Nat) (y : Word32) : s.regWrite .bar0 x y = s := State.regWrite_ignored (State.mayAccess_bar0_worker hw) (.inl rfl)
    exact ⟨(exec_hostReset ..).trans (hidle (if_pos hw)), (exec_msixUnmask ..).trans (hidle (if_pos hw)),
      (exec_d3hot ..).trans (hidle (if_pos hw)), (exec_sqTail ..).trans (hidle (hbell _ _)), (exec_cqHead ..).trans (hidle (hbell _ _)),
      (exec_dpDataWrite ..).trans (hidle (if_pos hw)), (exec_dpDataRead ..).trans (hidle (if_pos hw))⟩
  case reset => rw [exec_hostReset, execHostReset, run_notWorker hp hw]
  case unmask => rw [exec_msixUnmask, execMsixUnmask, run_notWorker hp hw]
  case toD3 =>
    rw [exec_d3hot, execD3hot, run_notWorker hp hw]
    rfl
  case toD0 =>
    refine ⟨s.powerFunction false, ?_, s.powerFunction_d0⟩
    rw [exec_d3hot, execD3hot, run_notWorker hp hw]
  case dpAddrCommand => rw [exec_dpAddrWrite, execDpAddrWrite, run_powered hp]
  case dpAddrReads =>
    obtain ⟨u, hu⟩ := s.regWrite_dpAddr (v.setWidth 32) ((v >>> 32).setWidth 32)
    rw [hu, State.dpAddr_halves]
    simp only [BitVec.toNat_setWidth, BitVec.toNat_ushiftRight, Nat.shiftRight_eq_div_pow]
    omega
  case dpCtl => rw [exec_dpCtlWrite, execDpCtlWrite, run_powered hp, State.regWrite_dpCtl]
  case dpWrite => rw [exec_dpDataWrite, execDpDataWrite, run_notWorker hp hw]
  case dpRead => rw [exec_dpDataRead, execDpDataRead, run_notWorker hp hw]
  case expire =>
    rw [exec_dpPrefetchExpire, execDpPrefetchExpire, run_powered hp, State.dpExpire, if_pos ht]
    rfl
  case portTimeout =>
    rw [exec_devPortTimeout, execDevPortTimeout, run_powered hp, State.portTimeouts_single hacc hwait hq ht hport]

end Sys2Proof.Machine
end

section
/-!
PROOFS. The compression engine (chapter 6): what leaves its bookkeeping as it was, how a job and a request begin and end, the request
port, bytes of little-endian words, and the obligation of the compression engine.
-/

namespace Sys2Proof.Machine

/-! ### Faults and their records leave the engine's bookkeeping as it was -/

-- The next three are proved by rewriting, not by `rfl`: a definitional step would leave the kernel to compare two states field by field.

@[simp] theorem State.cmp_addSat (s : State) (f : Fld) (k : Nat) : (s.addSat f k).cmp = s.cmp := by
  rw [State.addSat, State.setFld_cmp]

@[simp] theorem State.cmp_addWrap (s : State) (f : Fld) (k : Nat) : (s.addWrap f k).cmp = s.cmp := by
  rw [State.addWrap, State.setFld_cmp]

@[simp] theorem State.cmp_setPair (s : State) (lo hi : Fld) (v : Word) : (s.setPair lo hi v).cmp = s.cmp := by
  rw [State.setPair, State.setFld_cmp, State.setFld_cmp]

@[simp] theorem State.cmp_recordLater (s : State) (r : Record) : (s.recordLater r).cmp = s.cmp := rfl

@[simp] theorem State.cmp_awaitAck (s : State) (b : FaultBit) (act : Cls) : (s.awaitAck b act).cmp = s.cmp := rfl

@[simp] theorem State.cmp_countClass (s : State) (act : Cls) : (s.countClass act).cmp = s.cmp := by
  cases act <;> rfl

@[simp] theorem State.cmp_hostPut (s : State) (a : Nat) (b : List Byte) : (s.hostPut a b).cmp = s.cmp := by
  unfold State.hostPut
  split_ifs <;> rfl

@[simp] theorem State.cmp_msix (s : State) (v : Nat) : (s.msix v).cmp = s.cmp := by
  unfold State.msix
  split_ifs <;> rfl

@[simp] theorem State.cmp_logDrop (s : State) : s.logDrop.cmp = s.cmp := rfl

@[simp] theorem State.cmp_logBytes (s : State) (b : List Byte) : (s.logBytes b).cmp = s.cmp := by
  unfold State.logBytes
  split
  · rfl
  · dsimp only
    split_ifs <;> simp

@[simp] theorem State.cmp_sendMsg (s : State) (t cls mtype dest : Nat) (body : List Byte) (poison : List Nat) :
    (s.sendMsg t cls mtype dest body poison).cmp = s.cmp := by
  unfold State.sendMsg
  dsimp only
  split_ifs <;> simp

@[simp] theorem State.cmp_writeRecord (s : State) (r : Record) : (s.writeRecord r).cmp = s.cmp := by
  unfold State.writeRecord
  dsimp only
  split_ifs <;> simp

@[simp] theorem State.cmp_recordNow (s : State) (r : Record) : (s.recordNow r).cmp = s.cmp := by
  simp [State.recordNow, State.numberRecord]

@[simp] theorem State.cmp_firstOf (s : State) (valid src ovf : Fld) (bit : Nat) : (s.firstOf valid src ovf bit).cmp = s.cmp := by
  unfold State.firstOf
  split_ifs <;> rfl

@[simp] theorem State.cmp_firstStat (s : State) (first ovf : Fld) (bit : Nat) : (s.firstStat first ovf bit).cmp = s.cmp := by
  unfold State.firstStat
  split_ifs <;> rfl

@[simp] theorem State.cmp_capture (s : State) (base : Nat) (hasHi : Bool) (bit addr info : Nat) :
    (s.capture base hasHi bit addr info).cmp = s.cmp := by
  have hword (i v : Nat) (l : List FieldDef) : (l.foldl (fun s d => s.setFld ⟨i, d.hi, d.lo⟩ (v / 2 ^ d.lo)) s).cmp = s.cmp :=
    foldl_keeps State.cmp (fun _ _ => by simp) l s
  unfold State.capture
  dsimp only
  split_ifs <;> simp [hword]

@[simp] theorem State.cmp_first (s : State) (b : FaultBit) (addr info : Nat) : (s.first b addr info).cmp = s.cmp := by
  unfold State.first
  split
  · simp
  · split <;> simp [apply_ite State.cmp]

@[simp] theorem State.cmp_raiseActing (s : State) (b : FaultBit) (cls act : Cls) (addr info detail : Nat) :
    (s.raiseActing b cls act addr info detail).cmp = s.cmp := by
  unfold State.raiseActing
  dsimp only
  split_ifs <;> cases act <;> simp

@[simp] theorem State.cmp_raise (s : State) (b : FaultBit) : (s.raise b).cmp = s.cmp := s.cmp_raiseActing ..

/-! ### Commit points and the stopped state leave the job as it was -/

@[simp] theorem State.cmp_apply (s : State) (f : Fld) : (s.apply f).cmp = s.cmp := by
  unfold State.apply
  split <;> rfl

@[simp] theorem State.cmp_applyStaged (s : State) (p : Nat → Bool) : (s.applyStaged p).cmp = s.cmp := by
  refine foldl_keeps State.cmp (fun s e => ?_) _ s
  split <;> simp [apply_ite State.cmp]

@[simp] theorem State.cmp_commitGroup (s : State) (imm commit : Fld) (members : List Fld) (check : State → Bool) :
    (s.commitGroup imm commit members check).1.cmp = s.cmp := by
  have happly (u : State) : (members.foldl (fun s f => s.apply f) u).cmp = u.cmp := foldl_keeps State.cmp (fun _ _ => by simp) members u
  have hdiscard (u : State) : (members.foldl (fun s f => s.stage f none) u).cmp = u.cmp :=
    foldl_keeps State.cmp (fun _ _ => by simp) members u
  unfold State.commitGroup
  dsimp only
  split_ifs <;> simp [happly, hdiscard, State.mismatch]

@[simp] theorem State.cmp_cmpPoint (s : State) : s.cmpPoint.cmp = s.cmp := by
  unfold State.cmpPoint
  split_ifs <;> simp

theorem State.cmpPoint_of_job {s : State} (h : s.cmp.job.isSome = true) : s.cmpPoint = s := if_pos h

@[simp] theorem State.job_cmpStopPoint (s : State) : s.cmpStopPoint.cmp.job = s.cmp.job := by
  unfold State.cmpStopPoint
  split_ifs <;> rfl

/-- The engine does not stop while requests wait (R182). -/
theorem State.cmpStopPoint_of_waiting {s : State} (h : s.cmp.fifo ≠ []) : s.cmpStopPoint = s := by
  simp [State.cmpStopPoint, h]

@[simp] theorem State.cmp_cmpReport (s : State) (reason page : Nat) : (s.cmpReport reason page).cmp = s.cmp := by
  unfold State.cmpReport State.pageDenied
  cases cmpFault reason <;> simp [apply_ite State.cmp]

/-- When a job has ended the engine has none. -/
theorem State.job_jobEnd (s : State) (reason blen : Nat) : (s.jobEnd reason blen).cmp.job = none := by
  simp [State.jobEnd]

/-! ### How a job begins (R170, R171, R174) -/

section JobStart
variable {s : State} {op use : Nat} {k : Fin 4}

theorem State.jobStart_busy (h : s.bit CMP_JOB_RES.BUSY = true) : s.jobStart op use = s.setFld CMP_STAT.CFG_REJECT 1 := if_pos h

/-- A job begins, with the image `img` of its tile: it takes lane `k` and the job registers as they stand in `u`. -/
def State.withJob (v u : State) (op : Nat) (k : Fin 4) (img : Option (List Byte × Bool × List Byte)) (use : Nat) : State :=
  { v.setFld CMP_JOB_RES.BUSY 1 with
    cmp := { v.cmp with job := some { op := op, lane := k, cfg := u.jobRegs, image := img, use := use } } }

section Taken
variable (hop : op ≠ 0) (hbusy : s.bit CMP_JOB_RES.BUSY = false) (hen : s.bit CMP_CTL.EN = true) (hstop : s.cmp.stopping = false)
  (hk : (s.setFld CMP_JOB_RES.DONE 0).pickLane none = some k)
include hop hbusy hen hstop hk

/-- A job that the engine takes up: refused by its checks, or begun, a COMPRESS job with its image when the masks answer. -/
theorem State.jobStart_taken :
    s.jobStart op use =
      let u := s.setFld CMP_JOB_RES.DONE 0
      if u.jobRefusal op use ≠ 0 then u.jobEnd (u.jobRefusal op use) 0
      else if op = 1 ∧ u.maskStale = false then u.readImage.2.withJob u op k u.readImage.1 use
      else u.withJob u op k none use := by
  have hkey : CMP_CTL.EN.key ≠ CMP_JOB_RES.DONE.key := by decide
  have henKept : (s.setFld CMP_JOB_RES.DONE 0).bit CMP_CTL.EN = true := by rw [State.bit_setFld_other s 0 hkey, hen]
  unfold State.jobStart
  simp only [hbusy, hop, henKept, State.setFld_cmp, hstop, hk, Bool.false_eq_true, if_false, Bool.not_true, Bool.or_self]
  split_ifs <;> rfl

theorem State.jobStart_refused (he : (s.setFld CMP_JOB_RES.DONE 0).jobRefusal op use ≠ 0) :
    s.jobStart op use = (s.setFld CMP_JOB_RES.DONE 0).jobEnd ((s.setFld CMP_JOB_RES.DONE 0).jobRefusal op use) 0 :=
  (State.jobStart_taken hop hbusy hen hstop hk).trans (if_pos he)

theorem State.jobStart_noImage (he : (s.setFld CMP_JOB_RES.DONE 0).jobRefusal op use = 0)
    (hno : op ≠ 1 ∨ (s.setFld CMP_JOB_RES.DONE 0).maskStale = true) :
    s.jobStart op use = (s.setFld CMP_JOB_RES.DONE 0).withJob (s.setFld CMP_JOB_RES.DONE 0) op k none use :=
  (State.jobStart_taken hop hbusy hen hstop hk).trans ((if_neg (not_not.mpr he)).trans
    (if_neg fun h => hno.elim (· h.1) fun hstale => Bool.noConfusion (hstale.symm.trans h.2)))

theorem State.jobStart_image {img : Option (List Byte × Bool × List Byte)} {v : State}
    (he : (s.setFld CMP_JOB_RES.DONE 0).jobRefusal op use = 0) (hone : op = 1)
    (hm : (s.setFld CMP_JOB_RES.DONE 0).maskStale = false) (himg : (s.setFld CMP_JOB_RES.DONE 0).readImage = (img, v)) :
    s.jobStart op use = v.withJob (s.setFld CMP_JOB_RES.DONE 0) op k img use := by
  rw [State.jobStart_taken hop hbusy hen hstop hk]
  exact (if_neg (not_not.mpr he)).trans ((if_pos ⟨hone, hm⟩).trans (by rw [himg]))

end Taken

end JobStart

/-! ### How a job ends (R170, R171) -/

section JobEnd
variable {s : State} {mism : Nat} {dyn : List Nat} {j : CmpJob}

theorem State.jobComplete_none (h : s.cmp.job = none) : s.jobComplete mism dyn = s := by
  simp [State.jobComplete, h]

theorem State.jobComplete_compress (h : s.cmp.job = some j) (hop : j.op = 1) (hm : s.maskStale = false) :
    s.jobComplete mism dyn = s.jobCompress j.lane.val mism dyn := by
  simp [State.jobComplete, h, hop, hm]

theorem State.jobComplete_decompress (h : s.cmp.job = some j) (hop : j.op ≠ 1) (hm : s.maskStale = false) :
    s.jobComplete mism dyn = s.jobDecompress j.op j.lane.val mism := by
  simp [State.jobComplete, h, hop, hm]

/-- A tile read with poison ends its job (R171). -/
theorem State.jobCompress_poisoned {lane : Nat} {tile pre : List Byte} (h : s.cmp.job = some j) (hi : j.image = some (tile, true, pre)) :
    s.jobCompress lane mism dyn = s.jobEnd 0x11 0 := by
  simp [State.jobCompress, h, hi]

/-- A block coded and written is counted and reported (Table 06-6 step 6). -/
theorem State.jobCompress_written {lane reason : Nat} {tile pre body : List Byte} {hd : BlkHdr} {u v : State}
    (h : s.cmp.job = some j) (hi : j.image = some (tile, false, pre))
    (hcode : s.codeJob lane mism dyn tile pre = (some (hd, body, reason), u))
    (hwrite : u.writeBlock u.jobNow.dst u.jobNow.page hd body = (true, v)) :
    s.jobCompress lane mism dyn = v.blockDone hd reason := by
  simp [State.jobCompress, h, hi, hcode, State.finishBlock, hwrite]

/-- A VERIFY job ends with what the check of its block answers. -/
theorem State.jobDecompress_verify {lane r : Nat} {b : BlkRead} {u : State} (hcheck : s.checkBlock lane mism = (some (r, b), u)) :
    s.jobDecompress 3 lane mism = u.jobEnd r 0 := by
  simp [State.jobDecompress, hcheck]

/-- A DECOMPRESS job whose block is good writes its tile. -/
theorem State.jobDecompress_written {lane : Nat} {b : BlkRead} {u v : State} (hcheck : s.checkBlock lane mism = (some (0, b), u))
    (hput : u.masterPut u.jobNow.dst b.tile 0 4 = (true, v)) : s.jobDecompress 2 lane mism = v.jobEnd 0 0 := by
  simp only [State.jobDecompress, hcheck, ne_eq, not_true_eq_false, if_false, if_true, hput]

end JobEnd

/-! ### Bytes of little-endian words -/

@[simp] theorem length_leBytes (n v : Nat) : (leBytes n v).length = n := by
  induction n generalizing v with
  | zero => rfl
  | succ n ih => simp [leBytes, ih]

theorem leNat_leBytes (n v : Nat) : leNat (leBytes n v) = v % 256 ^ n := by
  induction n generalizing v with
  | zero => simp [leBytes, leNat, Nat.mod_one]
  | succ n ih => simp [leBytes, leNat, ih, Nat.pow_succ', Nat.mod_mul]

/-- The number in the middle of a row of bytes. -/
theorem leAt_middle {x y z : List Byte} {o n : Nat} (hx : x.length = o) (hy : y.length = n) : leAt (x ++ (y ++ z)) o n = leNat y := by
  subst hx hy
  simp [leAt, slice]

/-! ### The request port (R172, R173, R178) -/

section Port
variable {s u t : State} {w : StrId} {v : Word}

/-- The word of a store of eight bytes. -/
theorem ofNat_leNat_leBytes (v : Word) : BitVec.ofNat 64 (leNat (leBytes 8 v.toNat)) = v := by
  rw [leNat_leBytes, Nat.mod_eq_of_lt (by omega), BitVec.ofNat_toNat, BitVec.setWidth_eq]

theorem State.submitTo_accepted (hx : s.executes w = true) (hd : s.drainStores w = (true, u)) (h : u.cmpSubmit w v = (true, t)) :
    s.submitTo w 0 v = t := by
  simp [State.submitTo, hx, hd, State.portStore, ofNat_leNat_leBytes, h]

/-- At a full port the descriptor's last word is kept and the strider waits (R178). -/
theorem State.submitTo_full (hx : s.executes w = true) (hd : s.drainStores w = (true, u)) (h : u.cmpSubmit w v = (false, t)) :
    s.submitTo w 0 v =
      t.setStr w { t.str w with cmpBuf := Tab.set (fun _ => 0) (t.str w).cmpBuf 3 v, run := .waiting (.cmpFull t.dt) } := by
  simp [State.submitTo, hx, hd, State.portStore, ofNat_leNat_leBytes, h]

/-- A lane that has run its request takes the next. -/
theorem State.cmpComplete_ran {lane errs : Nat} {r : CmpReq} (hbusy : s.laneBusy lane = some r) (hm : s.maskStale = false)
    (hrun : s.cmpRun lane r errs = some u) : s.cmpComplete lane errs = (u.setLane lane none).cmpNext := by
  simp [State.cmpComplete, hbusy, hm, hrun]

/-- Disabling waits for the requests the engine holds (R182). -/
theorem State.cmpEnable_stops (hen : s.bit CMP_CTL.EN = true) (hfifo : s.cmp.fifo ≠ []) :
    s.cmpEnable false = { s with cmp := { s.cmp with stopping := true } } := by
  rw [State.cmpEnable, if_neg (by decide), if_pos hen]
  exact State.cmpStopPoint_of_waiting hfifo

/-- An enable written with a value other than the one it reads acts. -/
theorem State.enWrite_changed {f : Fld} {en : Bool} {h : State → State} (hen : s.bit f = !en) : s.enWrite f en h = h s := by
  cases en <;> simp [State.enWrite, hen]

end Port

/-! ### Statuses, the delivered range and the completion word (R173, Tables 06-9 and 06-10) -/

theorem cmpStatus_eq_zero_iff (r : Nat) : cmpStatus r = 0 ↔ r < 0x10 := by
  unfold cmpStatus
  split_ifs <;> simp <;> omega

theorem cmpStatus_le (r : Nat) : cmpStatus r ≤ 0x50 := by
  unfold cmpStatus
  split_ifs <;> decide

/-- What is delivered lies within the tile (R173). -/
theorem delivered_within {d : CmpDesc} {lb n pitch len : Nat} (h : delivered? d lb = some (n, pitch, len)) :
    d.line0 + n ≤ tileH lb ∧ d.line0 < tileH lb ∧ len = (n - 1) * pitch + lb ∧ (d.nlines ≠ 0 → n = d.nlines) := by
  obtain ⟨⟨hline, hlast⟩, rfl, rfl, rfl⟩ : (d.line0 < tileH lb ∧ _) ∧ _ = n ∧ _ = pitch ∧ _ = len := by
    simpa only [delivered?, Option.ite_none_right_eq_some, Option.some.injEq, Prod.mk.injEq] using h
  exact ⟨hlast, hline, rfl, fun hn => if_neg hn⟩

/-- The fields of the completion word, from low to high (Table 06-10). -/
theorem leAt_doneWord (dt : Word) (retried : Bool) (lane reason : Nat) :
    leAt (doneWord dt retried lane reason) 0 2 = cmpStatus reason % 256 ^ 2 ∧
    leAt (doneWord dt retried lane reason) 2 1 = reason % 256 ^ 1 ∧
    leAt (doneWord dt retried lane reason) 3 1 = (0x80 + lane + if retried then 4 else 0) % 256 ^ 1 ∧
    leAt (doneWord dt retried lane reason) 4 4 = dt.toNat % 256 ^ 4 := by
  simp only [doneWord, List.append_assoc, ← leNat_leBytes]
  refine ⟨leAt_middle (x := []) rfl (length_leBytes ..), leAt_middle (length_leBytes ..) (length_leBytes ..), ?flags, ?time⟩
  case flags =>
    rw [← List.append_assoc]
    exact leAt_middle (by simp) (length_leBytes ..)
  case time =>
    rw [← List.append_assoc, ← List.append_assoc, ← List.append_nil (leBytes 4 dt.toNat)]
    exact (leAt_middle (by simp) (length_leBytes ..)).trans (by rw [List.append_nil])

/-! ### The commands -/

section Commands
variable {s t : State}

/-- Jobs of service firmware use bit 0 of SEC_PG_OWN.USE (Table 14-7). -/
theorem jobUse_svc : jobUse .svc = 0 := rfl

/-- A job command of each operation starts a job for service firmware (R170). -/
theorem exec_cmpJob (hp : s.powered = true) {op : Nat} (h : s.jobStart op 0 = t) :
    (op = 1 → exec .cmpJobCompress s = .next (settle s t)) ∧ (op = 2 → exec .cmpJobDecompress s = .next (settle s t)) ∧
      (op = 3 → exec .cmpJobVerify s = .next (settle s t)) := by
  subst h
  refine ⟨?compress, ?decompress, ?verify⟩ <;> rintro rfl
  case compress => rw [exec_cmpJobCompress, execCmpJobCompress, run_powered hp, jobUse_svc]
  case decompress => rw [exec_cmpJobDecompress, execCmpJobDecompress, run_powered hp, jobUse_svc]
  case verify => rw [exec_cmpJobVerify, execCmpJobVerify, run_powered hp, jobUse_svc]

theorem exec_cmpJobDone_eq (hp : s.powered = true) {mism : Fin 3} {dyn : List Nat} (h : s.jobComplete mism dyn = t) :
    exec (.cmpJobDone mism dyn) s = .next (settle s t) := by
  rw [exec_cmpJobDone, execCmpJobDone, run_powered hp, h]

theorem exec_cmpRequestSubmit_eq (hp : s.powered = true) {w : StrId} {v : Word} (h : s.submitTo w 0 v = t) :
    exec (.cmpRequestSubmit w v) s = .next (settle s t) := by
  rw [exec_cmpRequestSubmit, execCmpRequestSubmit, run_powered hp, h]

/-- A submission that has waited 2 µs for a full port ends with BUSY (R178). -/
theorem exec_cmpPortFullTimeout_due (hp : s.powered = true) {w : StrId} {since : Word} (hrun : (s.str w).run = .waiting (.cmpFull since))
    (ht : elapsed s.dt since (usTicks 2) = true) :
    exec (.cmpPortFullTimeout w) s = .next (settle s ((s.cmpFull w (Tab.get (fun _ => 0) (s.str w).cmpBuf 3)).resume w)) := by
  simp [exec_cmpPortFullTimeout, execCmpPortFullTimeout, run_powered hp, hrun, ht]

theorem exec_cmpCtlEn_changed (hp : s.powered = true) {en : Bool} (hen : s.bit CMP_CTL.EN = !en) :
    exec (.cmpCtlEn en) s = .next (settle s (s.cmpEnable en).cmpPoint) := by
  rw [exec_cmpCtlEn, execCmpCtlEn, run_powered hp, State.enWrite_changed hen]

end Commands

/-- Settles O36: each clause about a command is its equation, with the case of the job's checks, its end or the port it meets; the
clauses about statuses, the delivered range and the completion word are equations of their functions. -/
theorem compressionEngineAndResults : Obligations.CompressionEngineAndResults := by
  refine ⟨fun s hp => ⟨fun op hop => ⟨fun hbusy => exec_cmpJob hp (State.jobStart_busy hbusy), fun k e hbusy hen hstop hk he => ?start⟩,
      fun r n _ => s.job_jobEnd r n, fun mism dyn h => exec_cmpJobDone_eq hp (State.jobComplete_none h),
      fun mism dyn j tile pre hj hop hm => ⟨fun hi => ?poisoned, fun h body reason u v hi hcode hwrite => ?written⟩,
      fun mism dyn j r b u hj hop hm hcheck => ?verified, fun mism dyn j b u v hj hop hm hcheck hput => ?decompressed,
      ?tableCommit, State.cmpPoint_of_job, fun w v u t hx hd => ⟨fun h => exec_cmpRequestSubmit_eq hp (State.submitTo_accepted hx hd h),
        fun h => exec_cmpRequestSubmit_eq hp (State.submitTo_full hx hd h)⟩,
      fun w since hrun ht => exec_cmpPortFullTimeout_due hp hrun ht, fun k n r u hbusy hm hrun => ?requestDone,
      fun hen => exec_cmpCtlEn_changed hp hen, fun hen hfifo => ?stops⟩,
    fun r => ?statuses, fun d lb n pitch len => delivered_within, fun dt retried lane reason hlane hreason => ?word⟩
  case start =>
    have hop0 : op ≠ 0 := by omega
    subst he
    exact ⟨fun he hno => exec_cmpJob hp (State.jobStart_noImage hop0 hbusy hen hstop hk he hno),
      fun img v he hone hm himg => exec_cmpJob hp (State.jobStart_image hop0 hbusy hen hstop hk he hone hm himg),
      fun he => exec_cmpJob hp (State.jobStart_refused hop0 hbusy hen hstop hk he)⟩
  case poisoned => exact exec_cmpJobDone_eq hp ((State.jobComplete_compress hj hop hm).trans (State.jobCompress_poisoned hj hi))
  case written =>
    exact exec_cmpJobDone_eq hp ((State.jobComplete_compress hj hop hm).trans (State.jobCompress_written hj hi hcode hwrite))
  case verified =>
    refine exec_cmpJobDone_eq hp ?_
    rw [State.jobComplete_decompress hj (by omega) hm, hop, State.jobDecompress_verify hcheck]
  case decompressed =>
    refine exec_cmpJobDone_eq hp ?_
    rw [State.jobComplete_decompress hj (by omega) hm, hop, State.jobDecompress_written hcheck hput]
  case tableCommit => rw [exec_cmpTblCommit, execCmpTblCommit, run_powered hp]
  case requestDone =>
    rw [exec_cmpRequestComplete, execCmpRequestComplete, run_powered hp, State.cmpComplete_ran hbusy hm hrun]
  case stops => rw [exec_cmpCtlEn_changed hp (en := false) hen, State.cmpEnable_stops hen hfifo]
  case statuses =>
    exact ⟨cmpStatus_eq_zero_iff r, by rintro (rfl | rfl) <;> rfl, fun hlow hhigh => by interval_cases r <;> rfl,
      by rintro (rfl | rfl) <;> rfl, by rintro rfl; rfl, by rintro rfl; rfl⟩
  case word =>
    obtain ⟨hstatus, hcode, hflags, htime⟩ := leAt_doneWord dt retried lane reason
    have hle := cmpStatus_le reason
    refine ⟨by simp [doneWord], hstatus.trans (by omega), hcode.trans (by omega), hflags.trans ?_, htime⟩
    split_ifs <;> omega

end Sys2Proof.Machine
end

section
/-!
PROOFS. A step on an empty queue (R57, R59, R60, R63): which clock carries DT and when DT stays, and the obligation of the empty queue.
-/

namespace Sys2Proof.Machine

section Ticks
variable {s : State}

/-- TBCLK carries DT whenever the always-on clock does not. -/
theorem tick_tbclk (h : s.aonCarries = false) : tick s = s.dtTick := by simp [tick, h]

/-- The always-on clock carries DT, and outside a resume it does nothing else. -/
theorem tick_aon (h : s.aonCarries = true) (hr : s.pwr.phase ≠ .resuming) : tick s = s.aonTick := by simp [tick, h, hr]

/-- The load of a resume writes down the DT it goes on from. -/
@[simp] theorem State.dt_wakeLoad (s : State) : s.wakeLoad.time.dt = s.time.dt := by
  unfold State.wakeLoad
  split_ifs <;> rfl

theorem State.dtTick_of_stopped (h : s.timeRuns = false) : s.dtTick = s := by simp [State.dtTick, h]

theorem State.aonTick_of_stopped (h : (s.time.locked && s.bit TIME_CTL.EN) = false) : s.aonTick = s := by simp [State.aonTick, h]

/-- A DT that neither clock carries stays: the tick of a resume may still load it (R63). -/
theorem dt_tick_of_stopped (htb : s.timeRuns = false) (haon : (s.time.locked && s.bit TIME_CTL.EN) = false) :
    (tick s).time.dt = s.time.dt := by
  simp only [tick, State.aonTick_of_stopped haon, State.dtTick_of_stopped htb]
  split_ifs <;> simp

theorem State.aonTick_of_running (hl : s.time.locked = true) (hen : s.bit TIME_CTL.EN = true) :
    s.aonTick = { s with time := { s.time with
      dt := s.time.dt + BitVec.ofNat 64 ((s.time.aonFrac + 64 * s.fld AON_CAL.TICKS) / 2 ^ 16),
      aonFrac := (s.time.aonFrac + 64 * s.fld AON_CAL.TICKS) % 2 ^ 16 } } := by
  simp [State.aonTick, hl, hen]

end Ticks

/-- Settles O2: by the clock that carries DT; before the first lock of TBCLK and while EN is 0 neither does. -/
theorem emptyQueueTicks : Obligations.EmptyQueueTicks := by
  refine fun s hq => ⟨by simp only [step, hq], fun hstop => ?stays,
    fun haon hr hl hen => (tick_aon haon hr).trans (State.aonTick_of_running hl hen), tick_tbclk⟩
  case stays =>
    obtain hen | ⟨hl, htb⟩ := hstop
    · exact dt_tick_of_stopped (by simp [State.timeRuns, hen]) (by simp [hen])
    · exact dt_tick_of_stopped (by simp [State.timeRuns, htb]) (by simp [hl])

end Sys2Proof.Machine
end

section
/-!
PROOFS. Device time and firefly sync (chapter 3): writes of TIME_CTL and DT_SLEW, calibration and capture, the SYNC frames of an exchange,
what a worker makes of an answer, and the obligation of the time base and firefly.
-/

namespace Sys2Proof.Machine

/-- A command of a powered device whose effect is known. -/
theorem run_eq {s t : State} {f : State → State} (hp : s.powered = true) (h : f s = t) : run s f = .next (settle s t) :=
  h ▸ run_powered hp f

/-! ### Writes of TIME_CTL and DT_SLEW (R60, R61) -/

/-- What uses DT has its enables above the registers of TIME, which no write of TIME changes. -/
theorem State.timeUsers_setFld (s : State) {f : Fld} (v : Nat) (hf : f.key < 32 * 0x30000) : (s.setFld f v).timeUsers = s.timeUsers := by
  have hbit : ∀ g : Fld, 0x30000 ≤ g.addr → (s.setFld f v).bit g = s.bit g := fun g hg =>
    s.bit_setFld_other v (by simp only [Fld.key] at hf ⊢; omega)
  have hfc : ∀ n, (s.setFld f v).bit (FC_CTL.EN n) = s.bit (FC_CTL.EN n) := fun n => hbit _ (by simp only [FC_CTL.EN, FC_CTL.addr]; omega)
  have hweir : ∀ n, (s.setFld f v).bit (WEIR_CTL.EN n) = s.bit (WEIR_CTL.EN n) := fun n =>
    hbit _ (by simp only [WEIR_CTL.EN, WEIR_CTL.addr]; omega)
  have hax : ∀ n, (s.setFld f v).bit (AX_CTL.EN n) = s.bit (AX_CTL.EN n) := fun n => hbit _ (by simp only [AX_CTL.EN, AX_CTL.addr]; omega)
  have htier : ∀ t, (s.setFld f v).bit (TIER_CTL.EN t) = s.bit (TIER_CTL.EN t) := fun t =>
    hbit _ (by simp only [TIER_CTL.EN, TIER_CTL.addr]; omega)
  simp only [State.timeUsers, hfc, hweir, hax, htier]

section TimeWrites
variable {s : State} {cal : Bool}

theorem State.timeUsers_setBit_cal (s : State) (v : Bool) : (s.setBit TIME_CTL.AON_CAL_EN v).timeUsers = s.timeUsers :=
  s.timeUsers_setFld _ (by decide)

theorem State.load_setBit_cal (s : State) (v : Bool) : (s.setBit TIME_CTL.AON_CAL_EN v).bit TIME_CTL.LOAD = s.bit TIME_CTL.LOAD :=
  s.bit_setFld_other _ (by decide)

/-- The state in which an enable with LOAD leaves the time base: DT from DT_SET, without fine ticks (R60). -/
def State.dtLoaded (s : State) : State :=
  { s.setFld TIME_CTL.EN 1 with time := { s.time with dt := s.pair DT_SET_LO.V DT_SET_HI.V, fine := 0 } }

theorem State.pair_dtSet_setFld (s : State) {f : Fld} (v : Nat) (hlo : DT_SET_LO.V.key ≠ f.key) (hhi : DT_SET_HI.V.key ≠ f.key) :
    (s.setFld f v).pair DT_SET_LO.V DT_SET_HI.V = s.pair DT_SET_LO.V DT_SET_HI.V := by
  simp only [State.pair, s.fld_setFld_other v hlo, s.fld_setFld_other v hhi]

@[simp] theorem State.bit_dtLoaded (s : State) (f : Fld) : s.dtLoaded.bit f = (s.setFld TIME_CTL.EN 1).bit f := by
  simp only [State.bit, State.fld, State.dtLoaded]

theorem State.en_dtLoaded (s : State) : s.dtLoaded.bit TIME_CTL.EN = true := by
  rw [State.bit_dtLoaded, State.bit, State.fld_setFld_same]; rfl

theorem State.writeTimeCtl_load (hen : s.bit TIME_CTL.EN = false) (hload : s.bit TIME_CTL.LOAD = true) :
    s.writeTimeCtl true true cal = (s.setBit TIME_CTL.AON_CAL_EN cal).dtLoaded := by
  have hkept : ((s.setBit TIME_CTL.AON_CAL_EN cal).setFld TIME_CTL.EN 1).bit TIME_CTL.LOAD = true :=
    (State.bit_setFld_other _ 1 (by decide)).trans ((s.load_setBit_cal cal).trans hload)
  have hset := (s.setBit TIME_CTL.AON_CAL_EN cal).pair_dtSet_setFld (f := TIME_CTL.EN) 1 (by decide) (by decide)
  simp [State.writeTimeCtl, State.dtLoaded, hen, hload, s.load_setBit_cal, hkept, hset]

/-- A disable: refused while something uses DT (R60). -/
theorem State.writeTimeCtl_disable (hen : s.bit TIME_CTL.EN = true) (hload : s.bit TIME_CTL.LOAD = false) :
    s.writeTimeCtl false false cal =
      if s.timeUsers then (s.setBit TIME_CTL.AON_CAL_EN cal).setFld TIME_STAT.CFG_REJECT 1
      else (s.setBit TIME_CTL.AON_CAL_EN cal).setFld TIME_CTL.EN 0 := by
  simp [State.writeTimeCtl, hen, hload, s.load_setBit_cal, s.timeUsers_setBit_cal]

theorem State.aonWindow_running {count : Nat} (hcal : s.bit TIME_CTL.AON_CAL_EN = true) (htb : s.time.tbclk = true) :
    s.aonWindow count = if count < 93703125 ∨ 93796875 < count then s.raise Flt.TIME_AON_CAL_RANGE
      else ((s.setFld AON_CAL.TICKS count).setFld AON_CAL.VALID 1).setFld TIME_STAT.AON_CAL_VALID 1 := by
  have hrange : (93750000 + 46875 < count ∨ count + 46875 < 93750000) ↔ (count < 93703125 ∨ 93796875 < count) := by omega
  simp only [State.aonWindow, hcal, htb, Bool.and_self, if_true, hrange]

theorem State.captureEvent_armed {k : Nat} {t : Word} {fine : Nat} (harm : s.bit CAP_CTL.ARM = true) (hsrc : s.fld CAP_CTL.SRC = k)
    (hk : k ≠ 0) : s.captureEvent k t fine =
      (((s.setPair CAP_LO.V CAP_HI.V t).setFld CAP_CTL.FINE fine).setFld CAP_CTL.DONE 1).setFld CAP_CTL.ARM 0 := by
  simp [State.captureEvent, harm, hsrc, hk]

theorem State.captureEvent_unarmed {k : Nat} {t : Word} {fine : Nat} (harm : s.bit CAP_CTL.ARM = false) : s.captureEvent k t fine = s := by
  simp [State.captureEvent, harm]

end TimeWrites

/-! ### The frames of an exchange (R76 to R78, R80) -/

theorem length_ffBytes (p : FfPayload) : (ffBytes p).length = 48 := by simp [ffBytes, zeros]

section Frames
variable {s : State} {p : FfPayload}

theorem State.ffKind_known {t : Nat} {f : State → State} (h : p.kind = 1 ∨ p.kind = 2) : s.ffKind t p f = f s := if_pos h

theorem State.ffKind_unknown {t : Nat} {f : State → State} (h₁ : p.kind ≠ 1) (h₂ : p.kind ≠ 2) : s.ffKind t p f = s.tierViolation t :=
  if_neg (not_or.mpr ⟨h₁, h₂⟩)

/-- The REQ that a worker sends now (R77, R78, R80). -/
def State.ffReq (s : State) (fine : Fin 8) : FfPayload :=
  { kind := 1, origin := BitVec.ofNat 8 (s.fld DEV_POS.DEVICE), target := 0, exchSeq := s.time.ffSeq, t1 := s.dt, t2 := 0, t3 := 0,
    fine1 := BitVec.ofNat 3 fine.val, fine2 := 0, fine3 := 0, corrUp := 0, corrDn := 0, asym := s.asymTerm 0 }

theorem State.ffSend_due {fine : Fin 8} (hw : s.isWorker = true) (hen : s.bit FF_CTL.FF_EN = true) (hrun : s.timeRuns = true)
    (hopen : s.time.ffOpen = none) (hslot : s.dt.toNat % 3000000 = s.fld DEV_POS.DEVICE * 45000) :
    s.ffSend fine = State.putSync { s with time := { s.time with ffOpen := some (s.dt, fine, s.time.ffSeq), ffSeq := s.time.ffSeq + 1 } }
      0 0 (s.fld DEV_POS.DEVICE) (s.ffReq fine) := by
  simp [State.ffSend, State.ffReq, hw, hen, hrun, hopen, hslot]

theorem State.ffAnswer_req {port fineIn fineOut : Fin 8} {turn : Nat} (hw : s.isWorker = false) (hk : p.kind = 1) :
    s.ffAnswer port p fineIn turn fineOut = s.putSync port.val p.origin.toNat 0 (s.ffResp port.val p fineIn turn fineOut) := by
  simp [State.ffAnswer, State.ffKind_known (.inl hk), hw, hk]

section Relay
variable {m : Fin 8} {res : Int} (hw : s.isWorker = true) (hd : s.fld DEV_POS.DEPTH = 1) (hk : p.kind = 1 ∨ p.kind = 2)
include hw hd hk

theorem State.ffForward_up (hm : m ≠ 0) : s.ffForward m p res = s.putSync 0 0 p.origin.toNat
    { p with corrUp := p.corrUp + res, asym := p.asym + s.asymTerm 0 - s.asymTerm m.val } := by
  simp [State.ffForward, State.ffKind_known hk, hw, hd, hm]

theorem State.ffForward_down {t : Nat} (hm : m = 0) (ht : s.routePort p.origin.toNat = some t) :
    s.ffForward m p res = s.putSync t p.origin.toNat 0 { p with corrDn := p.corrDn + res } := by
  simp [State.ffForward, State.ffKind_known hk, hw, hd, hm, ht]

end Relay

end Frames

/-! ### What a worker makes of an answer (R79, R82) -/

section Answers
variable {s : State} {p : FfPayload} {fine : Fin 8}

/-- The round trip of an answer that arrives now, in 1/8 fine tick (R79). -/
def State.ffRtt (s : State) (p : FfPayload) (fine : Fin 8) : Int :=
  8 * (plcDiff (plc s.dt fine.val) (plc p.t1 p.fine1.toNat) - plcDiff (plc p.t3 p.fine3.toNat) (plc p.t2 p.fine2.toNat)) -
    p.corrUp - p.corrDn

/-- The offset of an answer that arrives now: half of what the way down takes longer than the way up, less the asymmetry (R79, R80). -/
def State.ffTheta (s : State) (p : FfPayload) (fine : Fin 8) : Int :=
  ((8 * plcDiff (plc s.dt fine.val) (plc p.t3 p.fine3.toNat) - p.corrDn) -
    (8 * plcDiff (plc p.t2 p.fine2.toNat) (plc p.t1 p.fine1.toNat) - p.corrUp) - p.asym) / 2

theorem State.ffReceive_closed (h : s.time.ffOpen = none) : s.ffReceive p fine = s := by simp [State.ffReceive, h]

/-- The first answer of all is itself the least round trip, so it is never discarded. -/
theorem State.ffReceive_first {t₁ : Word} {f₁ : Fin 8} (hopen : s.time.ffOpen = some (t₁, f₁, p.exchSeq)) (hw : s.isWorker = true)
    (hk : p.kind = 2) (hnew : s.time.ffRtts = []) : s.ffReceive p fine =
      (State.setFld { s with time := { s.time with ffOpen := none, ffRtts := [s.ffRtt p fine] } } FF_ERR.RTT_MIN
        (min 0xFFFF (s.ffRtt p fine / 64).toNat)).ffServo (s.ffTheta p fine) := by
  simp [State.ffReceive, State.ffRtt, State.ffTheta, hopen, hw, hk, hnew]

/-- The eighth missed exchange of a locked device begins HOLDOVER (Table 03-8). -/
theorem State.ffMiss_eighth (hst : s.fld FF_STAT.STATE = 2) (hn : s.time.ffMissed = 7) :
    s.ffMiss = { s.setFld FF_STAT.STATE 3 with time := { s.time with ffMissed := 8, holdAt := s.dt } } := by
  have hdue : s.fld FF_STAT.STATE = 2 ∧ 8 ≤ s.time.ffMissed + 1 := ⟨hst, hn.symm ▸ le_rfl⟩
  exact (if_pos hdue).trans (by rw [hn]; rfl)

theorem State.ffHoldover_due (hst : s.fld FF_STAT.STATE = 3)
    (ht : elapsed s.dt s.time.holdAt (3000000 * 2 ^ s.fld FF_CTL.HOLD_MAX) = true) :
    s.ffHoldover = (s.setFld FF_STAT.STATE 4).raise Flt.TIME_FF_LOST := if_pos ⟨hst, ht⟩

end Answers

/-- Settles O31: each clause about a command is its equation in the case of the clause; the rest are the equations of the operations
it names. -/
theorem timeBaseAndFirefly : Obligations.TimeBaseAndFirefly := by
  refine ⟨fun s hp => ⟨fun hen hload _ => ?load, fun hen hload _ husers => ?refused, fun hen hload _ husers => ?disabled,
      fun v hv => ⟨fun hst => ?slewRefused, fun hst => ?slewStaged⟩, (exec_timeCommitPoint s).trans (run_powered hp _),
      fun count hcal htb => ⟨fun hlo hhi => ?calibrated, fun hout => ?outOfRange⟩, fun hlock => ?unlocked,
      fun htb => ⟨?relocked, ?tbclkLost⟩, (exec_capArm s).trans (run_powered hp _), fun k t fine => State.captureEvent_armed⟩,
    fun s hp => ⟨fun fine hw hen hrun hopen hslot => ⟨s.ffReq fine, ?req, rfl, rfl, rfl, ?reqFine, rfl, rfl, ?reqOrigin, rfl⟩,
      fun port p fi fo turn hw hk => ⟨s.ffResp port.val p fi turn fo, ?resp, rfl, rfl, rfl, rfl, rfl, rfl, rfl⟩,
      fun port p fi fo turn h₁ h₂ => (exec_ffRxReq ..).trans (run_eq hp (State.ffKind_unknown h₁ h₂)),
      fun m p res hw hd hk => ⟨fun hm => (exec_ffRelay ..).trans (run_eq hp (State.ffForward_up hw hd hk hm)),
        fun t hm ht => (exec_ffRelay ..).trans (run_eq hp (State.ffForward_down hw hd hk hm ht))⟩,
      fun t dst src p => ⟨length_ffBytes p, fun ht => if_pos ht, fun ht => if_neg ht⟩,
      fun p fine hopen hk => ?closed, fun p t₁ f₁ fine hopen hw hk hnew => ?answer, fun hst hn => ?holdover,
      fun hst ht => (exec_holdoverTimeout s).trans (run_eq hp (State.ffHoldover_due hst ht))⟩⟩
  case load =>
    exact ⟨_, (exec_timeCtlEn ..).trans (run_eq hp (State.writeTimeCtl_load hen hload)), State.en_dtLoaded _,
      s.pair_dtSet_setFld _ (by decide) (by decide), rfl⟩
  case refused => exact (exec_timeCtlEn ..).trans (run_eq hp ((State.writeTimeCtl_disable hen hload).trans (if_pos husers)))
  case disabled =>
    refine ⟨_, (exec_timeCtlEn ..).trans (run_eq hp ((State.writeTimeCtl_disable hen hload).trans (if_neg (by simp [husers])))), ?_, rfl⟩
    simp [State.bit]
  case slewRefused => exact (exec_dtSlew ..).trans (run_eq hp ((if_neg hv).trans (if_pos hst)))
  case slewStaged => exact (exec_dtSlew ..).trans (run_eq hp ((if_neg hv).trans (if_neg (not_not.mpr hst))))
  case calibrated => exact (exec_aonCalWindow ..).trans (run_eq hp ((State.aonWindow_running hcal htb).trans (if_neg (by omega))))
  case outOfRange => exact (exec_aonCalWindow ..).trans (run_eq hp ((State.aonWindow_running hcal htb).trans (if_pos hout)))
  case unlocked => exact (exec_fineUnlock s).trans (run_eq hp (if_pos hlock))
  case relocked => exact (exec_fineRelock s).trans (run_eq hp (if_pos htb))
  case tbclkLost => exact (exec_tbclkLoss s).trans (run_eq hp (if_pos htb))
  case req => exact (exec_ffReqSend ..).trans (run_eq hp (State.ffSend_due hw hen hrun hopen hslot))
  case reqFine => exact (BitVec.toNat_ofNat ..).trans (Nat.mod_eq_of_lt fine.isLt)
  case reqOrigin => exact BitVec.toNat_ofNat ..
  case resp => exact (exec_ffRxReq ..).trans (run_eq hp (State.ffAnswer_req hw hk))
  case closed => exact (exec_ffRxResp ..).trans (run_eq hp ((State.ffKind_known hk).trans (State.ffReceive_closed hopen)))
  case answer => exact (exec_ffRxResp ..).trans (run_eq hp ((State.ffKind_known (.inr hk)).trans (State.ffReceive_first hopen hw hk hnew)))
  case holdover => exact State.ffMiss_eighth hst hn ▸ ⟨s.fld_setFld_same FF_STAT.STATE 3, rfl⟩

end Sys2Proof.Machine
end

section
/-!
PROOFS. Angle ports and trackers (chapter 3): what a port does that feeds no tracker, the commands of a tracker, and the obligation of
angle ports and trackers.
-/

namespace Sys2Proof.Machine

/-- A fold whose steps leave the state they meet as it is. -/
theorem foldl_eq_self {α β : Type} {f : α → β → α} {a : α} {l : List β} (h : ∀ b ∈ l, f a b = a) : l.foldl f a = a := by
  induction l with
  | nil => rfl
  | cons b l ih =>
    rw [List.foldl_cons, h b (List.mem_cons_self ..)]
    exact ih fun c hc => h c (List.mem_cons_of_mem _ hc)

/-! ### Commands that feed the weirs (R93) -/

section Feeds
variable {s : State} {f g : State → State}

/-- What is fed depends on what the command makes of this state alone. -/
theorem State.withRevolution_congr (h : f s = g s) : s.withRevolution f = s.withRevolution g := by
  simp only [State.withRevolution, h]

theorem State.feedAll_congr (h : f s = g s) : s.feedAll f = s.feedAll g :=
  State.withRevolution_congr (by simp only [h])

/-- A command on the trackers whose effect on this state is that of `g`. -/
theorem run_feedAll (hp : s.powered = true) (h : f s = g s) : run s (fun s => s.feedAll f) = .next (settle s (s.feedAll g)) :=
  run_eq hp (State.feedAll_congr h)

end Feeds

/-! ### Registers of a port and of a tracker -/

section Keys
variable {s : State} {m n : Nat} {f : Fld} {v : Nat}

/-- A write to the registers of the angle ports changes no tracker's enable and source. -/
theorem State.consumes_setFld_port (hn : n < 16) (hf : 32 * 0x30400 ≤ f.key) : (s.setFld f v).consumes n m = s.consumes n m := by
  have hkey : ∀ lo < 32, 32 * AX_CTL.addr n + lo ≠ f.key := fun lo hlo => by simp only [AX_CTL.addr]; omega
  have hen : (s.setFld f v).bit (AX_CTL.EN n) = s.bit (AX_CTL.EN n) := s.bit_setFld_other v (hkey 0 (by decide))
  have hsrct : (s.setFld f v).bit (AX_CTL.SRCT n) = s.bit (AX_CTL.SRCT n) := s.bit_setFld_other v (hkey 12 (by decide))
  have hsrci : (s.setFld f v).fld (AX_CTL.SRCI n) = s.fld (AX_CTL.SRCI n) := s.fld_setFld_other v (hkey 13 (by decide))
  simp only [State.consumes, hen, hsrct, hsrci]

/-- A write to the registers of the angle ports leaves the capture unit as it was. -/
theorem State.arm_setFld_port (hf : 32 * 0x30400 ≤ f.key) : (s.setFld f v).bit CAP_CTL.ARM = s.bit CAP_CTL.ARM :=
  s.bit_setFld_other v (by simp only [Fld.key, CAP_CTL.ARM, CAP_CTL.addr] at hf ⊢; omega)

theorem zcapLo_key (m : Nat) : 32 * 0x30400 ≤ (AP_ZCAP_LO.V m).key := by simp only [Fld.key, AP_ZCAP_LO.V, AP_ZCAP_LO.addr]; omega

theorem zcapHi_key (m : Nat) : 32 * 0x30400 ≤ (AP_ZCAP_HI.V m).key := by simp only [Fld.key, AP_ZCAP_HI.V, AP_ZCAP_HI.addr]; omega

theorem cnt_key (m : Nat) : 32 * 0x30400 ≤ (AP_CNT.V m).key := by simp only [Fld.key, AP_CNT.V, AP_CNT.addr]; omega

/-- The sample latch of a port (R66, R67) is no register of a tracker. -/
theorem State.consumes_setZcap {k : Nat} (t : Word) (hn : n < 16) :
    (s.setPair (AP_ZCAP_LO.V k) (AP_ZCAP_HI.V k) t).consumes n m = s.consumes n m :=
  (State.consumes_setFld_port hn (zcapHi_key k)).trans (State.consumes_setFld_port hn (zcapLo_key k))

theorem State.captureEvent_setZcap {k src fine : Nat} {d t : Word} (harm : s.bit CAP_CTL.ARM = false) :
    (s.setPair (AP_ZCAP_LO.V k) (AP_ZCAP_HI.V k) d).captureEvent src t fine = s.setPair (AP_ZCAP_LO.V k) (AP_ZCAP_HI.V k) d :=
  State.captureEvent_unarmed ((State.arm_setFld_port (zcapHi_key k)).trans ((State.arm_setFld_port (zcapLo_key k)).trans harm))

end Keys

/-! ### Ports that feed no tracker (R65 to R67) -/

section Ports
variable {s : State} {m : Nat} {fine : Fin 8}

/-- No tracker takes port `m`. -/
def State.portAlone (s : State) (m : Nat) : Prop := ∀ n < 16, s.consumes n m = false

/-- The trackers of a port that feeds none stay as they are. -/
theorem State.feedConsumers_alone {f : State → Nat → State} (h : s.portAlone m) :
    (upTo 16).foldl (fun s n => if s.consumes n m then f s n else s) s = s :=
  foldl_eq_self fun n hn => if_neg (by simp [h n (List.mem_range.mp hn)])

/-- A sample of a port that feeds no tracker is refused by none. -/
theorem State.sampleConsumers_alone {v : Nat} {t : Plc} (h : s.portAlone m) :
    (upTo 16).foldl (fun (r : State × Bool) n =>
      if r.1.consumes n m then ((r.1.ssiTo n m v t).1, r.2 && (r.1.ssiTo n m v t).2) else r) (s, true) = (s, true) :=
  foldl_eq_self fun n hn => if_neg (by simp [h n (List.mem_range.mp hn)])

theorem State.portIndex_alone (hen : s.bit (AP_CTL.EN m) = true) (hmode : s.fld (AP_CTL.MODE m) = 0) (halone : s.portAlone m)
    (harm : s.bit CAP_CTL.ARM = false) :
    s.portIndex m fine = s.setPair (AP_ZCAP_LO.V m) (AP_ZCAP_HI.V m) (s.stamp m fine).tick := by
  have hlatched : (s.setPair (AP_ZCAP_LO.V m) (AP_ZCAP_HI.V m) (s.stamp m fine).tick).portAlone m := fun n hn =>
    (State.consumes_setZcap _ hn).trans (halone n hn)
  rw [State.portIndex, if_neg (by simp [hen, hmode])]
  simp only [State.captureEvent_setZcap harm]
  exact State.feedConsumers_alone hlatched

/-- The edge at port `m` is counted, its time noted, and the pins read `b` after it (R65). -/
def State.edgeCounted (s : State) (m : Nat) (b : BitVec 3) (up : Bool) (fine : Fin 8) : State :=
  (((s.fresh).2.setAport m { s.aport m with pins := b }).setSFld (AP_CNT.V m) (s.sfld (AP_CNT.V m) + (if up then 1 else -1))).setAport m
    { s.aport m with pins := b, lastEdge := some ((s.stamp m fine).tick, Fin.ofNat 8 (s.stamp m fine).fine) }

theorem State.edgeCounted_alone {b : BitVec 3} {up : Bool} (h : s.portAlone m) : (s.edgeCounted m b up fine).portAlone m := fun n hn =>
  (State.consumes_setFld_port hn (cnt_key m)).trans (h n hn)

/-- The first counted edge of a port has no edge before it to be too close to (R65). -/
theorem State.quadEdge_first {up : Bool} (hlast : (s.aport m).lastEdge = none) (hquad : s.quadPort m = true) (halone : s.portAlone m) :
    s.quadEdge m (if up then .up else .down) fine = s.edgeCounted m (BitVec.ofNat 3 (Config.free s.freeCtr)) up fine := by
  have hport : s.fresh.2.aport m = s.aport m := rfl
  have hidle := State.edgeCounted_alone (b := BitVec.ofNat 3 (Config.free s.freeCtr)) (up := up) (fine := fine) halone
  simp only [State.edgeCounted, hlast] at hidle ⊢
  cases up
  all_goals
    simp only [State.quadEdge, hquad, hport, hlast, State.setSFld, State.aport_setFld, State.aport_setAport_same, Bool.not_true,
      Bool.false_eq_true, if_false, if_true]
    exact State.feedConsumers_alone hidle

theorem State.ssiPollOp_high (hen : s.bit (AP_CTL.EN m) = true) (hmode : 2 ≤ s.fld (AP_CTL.MODE m)) :
    s.ssiPollOp m true fine = s.setAport m { s.aport m with pins := 2, deferred := false, frameAt := some (s.dt, fine) } := by
  simp [State.ssiPollOp, hen, hmode]

/-- A low line defers the frame once, then is an error (R67). -/
theorem State.ssiPollOp_low (hen : s.bit (AP_CTL.EN m) = true) (hmode : 2 ≤ s.fld (AP_CTL.MODE m)) :
    s.ssiPollOp m false fine = if (s.aport m).deferred then
      (s.setAport m { s.aport m with pins := 0, deferred := false }).raise (Flt.AP_SSIERR m)
    else s.setAport m { s.aport m with pins := 0, deferred := true } := by
  simp [State.ssiPollOp, hen, hmode]

theorem State.ssiDone_idle {raw : Nat} (h : (s.aport m).frameAt = none) : s.ssiDone m raw = s := by simp [State.ssiDone, h]

theorem State.ssiDone_alone {raw : Nat} {d : Word} {f : Fin 8} (hframe : (s.aport m).frameAt = some (d, f))
    (hen : s.bit (AP_CTL.EN m) = true) (hmode : s.fld (AP_CTL.MODE m) = 2) (halone : s.portAlone m) (harm : s.bit CAP_CTL.ARM = false) :
    s.ssiDone m raw = ((s.setAport m { s.aport m with frameAt := none }).setPair (AP_ZCAP_LO.V m) (AP_ZCAP_HI.V m) d).setFld (AP_CNT.V m)
      (raw % 2 ^ s.fld (AP_CTL.SSI_BITS m) % 2 ^ s.fld (AP_CTL.SSI_ST m)) := by
  have hdone : State.portAlone ((s.setAport m { s.aport m with frameAt := none }).setPair (AP_ZCAP_LO.V m) (AP_ZCAP_HI.V m) d) m :=
    fun n hn => (State.consumes_setZcap _ hn).trans (halone n hn)
  have hfed := State.sampleConsumers_alone (v := raw % 2 ^ s.fld (AP_CTL.SSI_BITS m) % 2 ^ s.fld (AP_CTL.SSI_ST m)) (t := plc d f.val) hdone
  have harmed : (s.setAport m { s.aport m with frameAt := none }).bit CAP_CTL.ARM = false := harm
  simp [State.ssiDone, hframe, hen, hmode, State.captureEvent_setZcap harmed, hfed]

end Ports

/-! ### What the commands of a tracker do to it (R69 to R74) -/

section Trackers
variable {s : State} {n : Nat}

theorem State.axisEnable_on (h : s.bit (AX_CTL.EN n) = false) :
    let count : Int := if s.bit (AX_CTL.SRCT n) then 0 else s.signedCount n (s.sfld (AP_CNT.V (s.fld (AX_CTL.SRCI n) % 8)))
    s.axisEnable n true = ((s.setFld (AX_CTL.EN n) 1).setFld (AX_STAT.STATE n) 1).setAxis n
      { AxisSt.init with lastCount := count, lastChange := s.dt, lastReport := s.dt } :=
  (if_neg (by simp [h])).trans (if_pos rfl)

theorem State.axisEnable_off (h : s.bit (AX_CTL.EN n) = true) :
    s.axisEnable n false = ((s.setFld (AX_CTL.EN n) 0).setFld (AX_STAT.STATE n) 0).setAxis n AxisSt.init :=
  (if_neg (by simp [h])).trans (if_neg Bool.false_ne_true)

/-- A running tracker takes a commit at its own commit point. -/
theorem State.axisCommit_waits (hen : s.bit (AX_CTL.EN n) = true) (hcpr : s.fld (AX_CPR.CPR n) ≠ 0) :
    s.axisCommit n = s.setFld (AX_CTL.COMMIT n) 1 :=
  if_neg (by simp [State.axisNow, hen, hcpr])

theorem State.axisCommit_now (hen : s.bit (AX_CTL.EN n) = false) : s.axisCommit n = (s.setFld (AX_CTL.COMMIT n) 1).axisPoint n :=
  if_pos (by simp [State.axisNow, hen])

theorem State.standstill_due (hst : s.fld (AX_STAT.STATE n) = 2) (ht : elapsed s.dt (s.axis n).lastChange 300000000 = true) :
    s.standstill n = ((s.setFld (AX_STAT.STATE n) 3).setAxis n { s.axis n with
      maHeld := s.maNow n (plc s.dt 0), acc := 0, winCount := 0 }).update n (s.maNow n (plc s.dt 0)) :=
  if_pos ⟨hst, ht⟩

theorem State.srcLost_first (h : (s.axis n).srcLostAt = none) :
    s.srcLost n = (s.setAxis n { s.axis n with srcLostAt := some s.dt }).raise (Flt.AX_SRCLOST n) :=
  if_neg (by simp [h])

theorem State.srcLostEnd_due {t : Word} (hlost : (s.axis n).srcLostAt = some t) (hfed : s.angleFed n = true)
    (ht : elapsed s.dt t 3000000 = true) : s.srcLostEnd n = (s.raise (Flt.AX_LOST n)).axisLost n := by
  simp [State.srcLostEnd, hlost, hfed, ht]

end Trackers

/-- Settles O32: each command feeds the weirs with what it does to its tracker or port, and that is the equation of the clause's case. -/
theorem angleAndTrackers : Obligations.AngleAndTrackers := by
  refine fun s hp => ⟨fun n => ⟨fun hen => (exec_trackerEnable ..).trans (run_feedAll hp (State.axisEnable_on hen)),
      fun hen => (exec_trackerEnable ..).trans (run_feedAll hp (State.axisEnable_off hen)),
      fun hen hcpr => (exec_axCommit ..).trans (run_feedAll hp (State.axisCommit_waits hen hcpr)),
      fun hen => (exec_axCommit ..).trans (run_feedAll hp (State.axisCommit_now hen)), fun hdt hen _ => ?update,
      State.standstill_due, (exec_standstillTimeout ..).trans (run_powered hp _),
      fun _ _ hnew => ⟨(exec_srclostTimeout ..).trans (run_powered hp _), State.srcLost_first hnew⟩,
      fun t hlost hfed ht => ⟨(exec_srclostLost ..).trans (run_powered hp _), State.srcLostEnd_due hlost hfed ht⟩⟩,
    fun m fine => ⟨fun up hlast hquad => ⟨_, _, rfl, State.quadEdge_first hlast hquad⟩,
      fun k => (exec_apQuadEdge ..).trans (run_powered hp _), (exec_apIndex ..).trans (run_powered hp _), State.portIndex_alone,
      fun hen hmode => ⟨⟨fun high => (exec_ssiPoll ..).trans (run_powered hp _), State.ssiPollOp_high hen hmode⟩,
        fun hd => (State.ssiPollOp_low hen hmode).trans (if_pos hd),
        fun hd => (State.ssiPollOp_low hen hmode).trans (if_neg (by simp [hd]))⟩,
      fun raw => ⟨(exec_ssiFrameDone ..).trans (run_powered hp _), State.ssiDone_idle, fun d f => State.ssiDone_alone⟩⟩⟩
  case update =>
    refine (exec_trackerUpdate ..).trans (run_eq hp (State.withRevolution_congr ?_))
    exact if_pos ⟨hdt, hen⟩

end Sys2Proof.Machine
end

section
/-!
PROOFS. What the recording of a fault leaves as it was: every view of the state that no fault record touches, proved once for all of them.
-/

namespace Sys2Proof.Machine

/-! ### What the recording of a fault leaves as it was -/

/-- A view of the state that no fault record changes: it does not depend on the registers, the bookkeeping of the service complex and of the
host, the tier ports and the tree, what is driven outward, and what falls due. -/
structure FaultBlind {α : Type} (view : State → α) : Prop where
  flds (s : State) (v) : view { s with flds := v } = view s
  host (s : State) (v) : view { s with host := v } = view s
  svc (s : State) (v) : view { s with svc := v } = view s
  out (s : State) (v) : view { s with out := v } = view s
  due (s : State) (v) : view { s with due := v } = view s
  tports (s : State) (v) : view { s with tports := v } = view s
  tree (s : State) (v) : view { s with tree := v } = view s

theorem faultBlind_adt : FaultBlind State.adt := by constructor <;> intros <;> rfl

section FaultBlind
variable {α : Type} {view : State → α} (h : FaultBlind view)
include h

theorem FaultBlind.setFld (s : State) (f : Fld) (v : Nat) : view (s.setFld f v) = view s := h.flds s _

theorem FaultBlind.addSat (s : State) (f : Fld) (k : Nat) : view (s.addSat f k) = view s := h.setFld s f _

theorem FaultBlind.emit (s : State) (o : Out) : view (s.emit o) = view s := h.out s _

theorem FaultBlind.countClass (s : State) (act : Cls) : view (s.countClass act) = view s := by
  cases act <;> exact h.addSat ..

theorem FaultBlind.awaitAck (s : State) (b : FaultBit) (act : Cls) : view (s.awaitAck b act) = view s := h.svc s _

theorem FaultBlind.recordLater (s : State) (r : Record) : view (s.recordLater r) = view s := h.svc s _

theorem FaultBlind.hostPut (s : State) (a : Nat) (b : List Byte) : view (s.hostPut a b) = view s := by
  unfold State.hostPut
  split_ifs
  · exact h.host s _
  · exact h.emit s _

theorem FaultBlind.msix (s : State) (v : Nat) : view (s.msix v) = view s := by
  unfold State.msix
  split_ifs
  · rfl
  · exact h.host s _
  · exact h.emit s _

theorem FaultBlind.logDrop (s : State) : view s.logDrop = view s := (h.due _ _).trans (h.addSat ..)

theorem FaultBlind.logBytes (s : State) (b : List Byte) : view (s.logBytes b) = view s := by
  unfold State.logBytes
  split
  · rfl
  · dsimp only
    split_ifs <;> simp only [h.logDrop, h.msix, h.hostPut, h.due, h.addSat, h.host]

theorem FaultBlind.sendMsg (s : State) (t cls mtype dest : Nat) (body : List Byte) (poison : List Nat) :
    view (s.sendMsg t cls mtype dest body poison) = view s := by
  unfold State.sendMsg
  dsimp only
  split_ifs
  · exact h.tree s _
  · exact (h.tree _ _).trans (h.tports s _)

theorem FaultBlind.recordNow (s : State) (r : Record) : view (s.recordNow r) = view s := by
  have hwrite (s : State) (r : Record) : view (s.writeRecord r) = view s := by
    unfold State.writeRecord
    dsimp only
    split_ifs <;> simp only [h.sendMsg, h.logBytes, h.svc]
  exact (hwrite _ _).trans ((h.setFld ..).trans (h.svc s _))

theorem FaultBlind.firstOf (s : State) (valid src ovf : Fld) (bit : Nat) : view (s.firstOf valid src ovf bit) = view s := by
  unfold State.firstOf
  split_ifs
  · exact h.setFld ..
  · exact (h.setFld ..).trans (h.setFld ..)

theorem FaultBlind.firstStat (s : State) (first ovf : Fld) (bit : Nat) : view (s.firstStat first ovf bit) = view s := by
  unfold State.firstStat
  split_ifs <;> exact h.setFld ..

theorem FaultBlind.capture (s : State) (base : Nat) (hasHi : Bool) (bit addr info : Nat) :
    view (s.capture base hasHi bit addr info) = view s := by
  have hword (i v : Nat) (l : List FieldDef) (s : State) : view (l.foldl (fun s d => s.setFld ⟨i, d.hi, d.lo⟩ (v / 2 ^ d.lo)) s) = view s :=
    foldl_keeps view (fun s _ => h.setFld s _ _) l s
  unfold State.capture
  dsimp only
  split_ifs <;> simp only [h.setFld, hword]

theorem FaultBlind.first (s : State) (b : FaultBit) (addr info : Nat) : view (s.first b addr info) = view s := by
  unfold State.first
  split
  · exact h.capture ..
  · split <;> simp only [h.firstOf, h.firstStat, apply_ite view, ite_self]

/-- An occurrence of a fault changes nothing but what a fault record may change (R378, R379). -/
theorem FaultBlind.raise (s : State) (b : FaultBit) : view (s.raise b) = view s := by
  have hacting (cls act : Cls) (addr info detail : Nat) : view (s.raiseActing b cls act addr info detail) = view s := by
    unfold State.raiseActing
    dsimp only
    split_ifs <;> cases act <;>
      simp only [h.recordLater, h.recordNow, h.due, h.svc, h.awaitAck, h.countClass, h.setFld, h.first]
  exact hacting ..

end FaultBlind

@[simp] theorem State.adt_raise (s : State) (b : FaultBit) : (s.raise b).adt = s.adt := faultBlind_adt.raise s b

end Sys2Proof.Machine
end

section
/-!
PROOFS. The ADT and DPT window (chapter 4): 32-bit words of an entry, what READ, WRITE, an access of ADT_DATA and a scrub step do, and the
obligation of the actuator tables.
-/

namespace Sys2Proof.Machine

/-! ### 32-bit words of a number -/

theorem upTo_succ (k : Nat) : upTo (k + 1) = upTo k ++ [k] := List.range_succ

/-- The number whose 32-bit words are `word 0` to `word (k - 1)`, least significant first. -/
def packWords (word : Nat → Nat) (k : Nat) : Nat := (upTo k).foldl (fun v j => v + word j * 2 ^ (32 * j)) 0

theorem packWords_succ (word : Nat → Nat) (k : Nat) : packWords word (k + 1) = packWords word k + word k * 2 ^ (32 * k) := by
  simp [packWords, upTo_succ]

theorem packWords_congr {word word' : Nat → Nat} {k : Nat} (h : ∀ j < k, word j = word' j) : packWords word k = packWords word' k := by
  induction k with
  | zero => rfl
  | succ k ih => rw [packWords_succ, packWords_succ, ih fun j hj => h j (by omega), h k (by omega)]

section Words
variable {word : Nat → Nat} (hword : ∀ j, word j < 2 ^ 32)
include hword

theorem packWords_lt (k : Nat) : packWords word k < 2 ^ (32 * k) := by
  induction k with
  | zero => simp [packWords, upTo]
  | succ k ih =>
    calc packWords word (k + 1) < 2 ^ (32 * k) + word k * 2 ^ (32 * k) := by rw [packWords_succ]; omega
      _ = (word k + 1) * 2 ^ (32 * k) := by ring
      _ ≤ 2 ^ 32 * 2 ^ (32 * k) := Nat.mul_le_mul_right _ (hword k)
      _ = 2 ^ (32 * (k + 1)) := by ring

theorem packWords_word {j k : Nat} (hj : j < k) : packWords word k / 2 ^ (32 * j) % 2 ^ 32 = word j := by
  induction k with
  | zero => omega
  | succ k ih =>
    rw [packWords_succ]
    rcases Nat.lt_succ_iff_lt_or_eq.mp hj with hlt | rfl
    · obtain ⟨m, rfl⟩ := Nat.exists_eq_add_of_lt hlt
      have hshift : word (j + m + 1) * 2 ^ (32 * (j + m + 1)) = 2 ^ (32 * j) * (2 ^ 32 * (word (j + m + 1) * 2 ^ (32 * m))) := by ring
      rw [hshift, Nat.add_mul_div_left _ _ (Nat.two_pow_pos _), Nat.add_mul_mod_self_left, ih hlt]
    · rw [Nat.add_mul_div_right _ _ (Nat.two_pow_pos _), Nat.div_eq_of_lt (packWords_lt hword j), Nat.zero_add, Nat.mod_eq_of_lt (hword j)]

end Words

/-- A number packed from its own words. -/
theorem packWords_words (v k : Nat) : packWords (fun j => v / 2 ^ (32 * j) % 2 ^ 32) k = v % 2 ^ (32 * k) := by
  induction k with
  | zero => simp [packWords, upTo, Nat.mod_one]
  | succ k ih => rw [packWords_succ, ih, Nat.mul_succ, Nat.pow_add, Nat.mod_mul, Nat.mul_comm (2 ^ (32 * k))]

theorem testBit_of_mod_ones {m j k : Nat} (h : m % 2 ^ k = 2 ^ k - 1) (hj : j < k) : Nat.testBit m j = true := by
  have hbit := Nat.testBit_mod_two_pow m k j
  rw [h, Nat.testBit_two_pow_sub_one] at hbit
  simpa [hj] using hbit.symm

theorem testBit_of_mod_zero {m j k : Nat} (h : m % 2 ^ k = 0) (hj : j < k) : Nat.testBit m j = false := by
  have hbit := Nat.testBit_mod_two_pow m k j
  rw [h, Nat.zero_testBit] at hbit
  simpa [hj] using hbit.symm

/-! ### The window on the ADT and DPT (R87, R114) -/

theorem Tab.get_foldl_set {d : Nat → Word32} {g : Nat → Word32} {j k : Nat} (t : Tab Word32) (hj : j < k) :
    Tab.get d ((upTo k).foldl (fun t i => Tab.set d t i (g i)) t) j = g j := by
  induction k with
  | zero => omega
  | succ k ih =>
    simp only [upTo_succ, List.foldl_append, List.foldl_cons, List.foldl_nil, Tab.get_set]
    split_ifs with hjk
    · rw [hjk]
    · exact ih (by omega)

section Window
variable {s : State}

theorem State.adtRead_refused (h : s.bit ADT_CTL.EN = false) : s.adtRead = s.setFld ADT_STAT.CFG_REJECT 1 := by
  simp [State.adtRead, h]

theorem State.adtWrite_refused (h : s.bit ADT_CTL.EN = false) : s.adtWrite = s.setFld ADT_STAT.CFG_REJECT 1 := by
  simp [State.adtWrite, h]

/-- The word of an entry that a window WRITE makes of its word `j`: the buffer's where the mask selects it. -/
def State.windowWord (s : State) (old j : Nat) : Nat :=
  if Nat.testBit (s.fld ADT_MASK.MASK) j then (Tab.get (fun _ => 0) s.adt.buf j).toNat else old / 2 ^ (32 * j) % 2 ^ 32

theorem State.windowWord_lt (s : State) (old j : Nat) : s.windowWord old j < 2 ^ 32 := by
  unfold State.windowWord
  split_ifs
  · exact BitVec.isLt _
  · exact Nat.mod_lt _ (by decide)

theorem State.windowWord_masked {old j k : Nat} (hmask : s.fld ADT_MASK.MASK % 2 ^ k = 2 ^ k - 1) (hj : j < k) :
    s.windowWord old j = (Tab.get (fun _ => 0) s.adt.buf j).toNat :=
  if_pos (testBit_of_mod_ones hmask hj)

/-- With no word selected the packed words are the entry's own. -/
theorem State.packWords_unmasked {old k : Nat} (hmask : s.fld ADT_MASK.MASK % 2 ^ k = 0) :
    packWords (s.windowWord old) k = old % 2 ^ (32 * k) := by
  rw [← packWords_words]
  exact packWords_congr fun j hj => if_neg (by simp [testBit_of_mod_zero hmask hj])

section WindowOpen
variable (hen : s.bit ADT_CTL.EN = true) (hbusy : s.bit ADT_STAT.BUSY = false)
include hen hbusy

theorem State.adtRead_open : s.adtRead =
    let v := if s.bit ADT_SEL.TBL then (s.dptE (s.fld ADT_SEL.INDEX)).toNat else (s.adtE (s.fld ADT_SEL.INDEX)).toNat
    { s with adt := { s.adt with
      buf := (upTo (if s.bit ADT_SEL.TBL then 16 else 8)).foldl
        (fun t j => Tab.set (fun _ => 0) t j (BitVec.ofNat 32 (v / 2 ^ (32 * j)))) s.adt.buf } } := by
  simp only [State.adtRead, hen, hbusy, Bool.not_true, Bool.or_self, Bool.false_eq_true, if_false]

theorem State.adtWrite_adt (htbl : s.bit ADT_SEL.TBL = false) :
    s.adtWrite.adt.adt = Tab.set (fun _ => 0) s.adt.adt (s.fld ADT_SEL.INDEX)
      (BitVec.ofNat 256 (packWords (s.windowWord (s.adtE (s.fld ADT_SEL.INDEX)).toNat) 8)) := by
  generalize hv : packWords (s.windowWord (s.adtE (s.fld ADT_SEL.INDEX)).toNat) 8 = v
  unfold packWords State.windowWord at hv
  simp only [State.adtWrite, hen, hbusy, htbl, Bool.not_true, Bool.or_self, Bool.false_eq_true, if_false, hv]
  split_ifs <;> rfl

theorem State.adtWrite_dpt (htbl : s.bit ADT_SEL.TBL = true) :
    s.adtWrite.adt.dpt = Tab.set (fun _ => 0) s.adt.dpt (s.fld ADT_SEL.INDEX)
      (BitVec.ofNat 512 (packWords (s.windowWord (s.dptE (s.fld ADT_SEL.INDEX)).toNat) 16)) := by
  generalize hv : packWords (s.windowWord (s.dptE (s.fld ADT_SEL.INDEX)).toNat) 16 = v
  unfold packWords State.windowWord at hv
  simp only [State.adtWrite, hen, hbusy, htbl, Bool.not_true, Bool.or_self, Bool.false_eq_true, if_false, if_true, hv]
  split_ifs <;> rfl

end WindowOpen

/-- The words of an entry of `k` words written with every word selected are the buffer's. -/
theorem State.windowEntry_word {old j k : Nat} (hmask : s.fld ADT_MASK.MASK % 2 ^ k = 2 ^ k - 1) (hj : j < k) :
    (BitVec.ofNat (32 * k) (packWords (s.windowWord old) k)).toNat / 2 ^ (32 * j) % 2 ^ 32 = (Tab.get (fun _ => 0) s.adt.buf j).toNat := by
  rw [BitVec.toNat_ofNat, Nat.mod_eq_of_lt (packWords_lt (s.windowWord_lt old) k), packWords_word (s.windowWord_lt old) hj,
    State.windowWord_masked hmask hj]

/-- An entry written with no word selected stays as it is. -/
theorem State.windowEntry_unmasked {k : Nat} (e : BitVec (32 * k)) (hmask : s.fld ADT_MASK.MASK % 2 ^ k = 0) :
    BitVec.ofNat (32 * k) (packWords (s.windowWord e.toNat) k) = e := by
  rw [State.packWords_unmasked hmask, Nat.mod_eq_of_lt e.isLt, BitVec.ofNat_toNat, BitVec.setWidth_eq]

theorem State.adtNext_adt (htbl : s.bit ADT_SEL.TBL = false) (a : AdtSt) :
    { s with adt := a }.adtNext = { s with adt := a }.setFld ADT_WIDX.WIDX ((s.fld ADT_WIDX.WIDX + 1) % 8) := by
  have htbl' : State.bit { s with adt := a } ADT_SEL.TBL = false := htbl
  simp only [State.adtNext, htbl', Bool.false_eq_true, if_false]
  rfl

/-- A word index within an ADT entry: the access is made, and the index advances. -/
theorem State.adtAccess_within (htbl : s.bit ADT_SEL.TBL = false) (hidx : s.fld ADT_WIDX.WIDX < 8) (write : Option Word32) :
    s.adtAccess write = { s with adt := { s.adt with
      buf := match write with
        | none => s.adt.buf
        | some v => Tab.set (fun _ => 0) s.adt.buf (s.fld ADT_WIDX.WIDX) v } }.setFld ADT_WIDX.WIDX ((s.fld ADT_WIDX.WIDX + 1) % 8) := by
  have hin : ¬ 7 < s.fld ADT_WIDX.WIDX := by omega
  cases write <;> simpa [State.adtAccess, htbl, hin] using State.adtNext_adt htbl _

end Window

/-! ### The scrub pass (R87, Table 04-23) -/

section Scrub
variable {s : State} (hen : s.bit ADT_CTL.SCRUB_EN = true) (hpos : s.fld ADT_SCRUB.POS < 4095) (hdpt : s.adt.scrubDpt = false)
include hen hpos hdpt

/-- The entry at the position of the pass, now the ADT's, is read and the position advances; `e` is what was found. -/
theorem State.adtScrub_within (e : EccErr) :
    s.adtScrub e =
      let u := s.setFld ADT_SCRUB.POS (s.fld ADT_SCRUB.POS + 1)
      match e with
      | .none => u
      | .ce => (u.addSat ADT_ECC.CE_CNT 1).raise Flt.ADT_CE
      | .ue => (State.addSat { u with adt := { u.adt with
          adtPoison := Tab.set (fun _ => false) u.adt.adtPoison (s.fld ADT_SCRUB.POS) true } } ADT_ECC.UE_CNT 1).raise Flt.ADT_UE := by
  have hlast : s.fld ADT_SCRUB.POS ≠ 131071 := by omega
  have hsame : { s with adt := { s.adt with scrubDpt := false } } = s := by rw [← hdpt]
  cases e <;> simp only [State.adtScrub, hen, hdpt, hlast, hsame, Bool.not_true, Bool.false_eq_true, if_false]

theorem State.adtScrub_clean : s.adtScrub .none = s.setFld ADT_SCRUB.POS (s.fld ADT_SCRUB.POS + 1) :=
  State.adtScrub_within hen hpos hdpt .none

/-- A corrected error changes no entry. -/
theorem State.adt_adtScrub_ce : (s.adtScrub .ce).adt = s.adt := by
  rw [State.adtScrub_within hen hpos hdpt]
  simp only [State.adt_raise, State.addSat, State.setFld_adt]

/-- An entry that cannot be corrected is poisoned. -/
theorem State.adtBad_adtScrub_ue : (s.adtScrub .ue).adtBad (s.fld ADT_SCRUB.POS) = true := by
  rw [State.adtScrub_within hen hpos hdpt]
  simp only [State.adtBad, State.adt_raise, State.addSat, State.setFld_adt, Tab.get_set_same]

end Scrub

/-- Settles O26: a window READ is a copy of the entry's words, a WRITE packs the words that the mask selects, and the fault of a scrub
step leaves both tables as they are but for the poison of the entry. -/
theorem actuatorTables : Obligations.ActuatorTables := by
  refine fun s hp => ⟨fun hen hbusy => ⟨fun htbl => ?readAdt, fun htbl hmask => ?writeAdt, fun htbl => ?readDpt, fun htbl hmask => ?writeDpt,
      fun htbl hmask => ?maskedAdt⟩,
    fun hen => ⟨(exec_adtOpRead ..).trans (run_eq hp (State.adtRead_refused hen)),
      (exec_adtOpWrite ..).trans (run_eq hp (State.adtWrite_refused hen))⟩,
    fun v htbl hidx => ⟨(exec_adtDataAccess ..).trans (run_eq hp (State.adtAccess_within htbl hidx (some v))), ?dataRead⟩,
    fun e hen hpos hdpt _ => ⟨s.adtScrub e, (exec_adtScrubStep ..).trans (run_powered hp _), ?clean, ?uncorrected, ?corrected⟩⟩
  case readAdt =>
    refine ⟨_, (exec_adtOpRead ..).trans (run_eq hp (State.adtRead_open hen hbusy)), rfl, fun j hj => ?_⟩
    simp only [htbl, Bool.false_eq_true, if_false]
    exact Tab.get_foldl_set _ hj
  case readDpt =>
    refine ⟨_, (exec_adtOpRead ..).trans (run_eq hp (State.adtRead_open hen hbusy)), rfl, fun j hj => ?_⟩
    simp only [htbl, if_true]
    exact Tab.get_foldl_set _ hj
  case writeAdt =>
    exact ⟨_, _, (exec_adtOpWrite ..).trans (run_powered hp _), State.adtWrite_adt hen hbusy htbl,
      fun j hj => State.windowEntry_word (k := 8) hmask hj⟩
  case writeDpt =>
    exact ⟨_, _, (exec_adtOpWrite ..).trans (run_powered hp _), State.adtWrite_dpt hen hbusy htbl,
      fun j hj => State.windowEntry_word (k := 16) hmask hj⟩
  case maskedAdt =>
    refine ⟨_, (exec_adtOpWrite ..).trans (run_powered hp _), ?_⟩
    rw [State.adtWrite_adt hen hbusy htbl, State.windowEntry_unmasked (k := 8) _ hmask]
  case dataRead =>
    have hread := State.adtAccess_within (s := s.emit (.read ADT_DATA.addr s.adtData)) htbl hidx none
    exact (exec_adtDataAccess ..).trans (run_eq hp hread)
  case clean => exact fun he => he ▸ State.adtScrub_clean hen hpos hdpt
  case uncorrected => exact fun he => he ▸ State.adtBad_adtScrub_ue hen hpos hdpt
  case corrected => exact fun he => he ▸ State.adt_adtScrub_ce hen hpos hdpt

end Sys2Proof.Machine
end

section
/-!
PROOFS. EMIT (chapters 4 and 7): how an output comes to its effect, the checks of an EMIT in their order, and the obligation of what EMIT
ends with.
-/

namespace Sys2Proof.Machine

/-! ### Outputs (R191, R208, R211, R316, R388) -/

section Outputs
variable {s d v u : State} {w : StrId} {f : FmtB} {n : Nat} {bytes : List Byte} {k : List Byte → State → Res}

/-- An output that is no duplicate goes on with its buffer once the older stores are performed. -/
theorem State.output_new (hord : (s.str w).oord ≠ 0xFFFFFFFF) (halign : ((s.str w).xr f.a).toNat % 8 = 0)
    (hdrain : s.drainAll w = (true, d)) (hload : d.load w ((s.str w).xr f.a).toNat n false = (.ok bytes, v))
    (hdup : v.duplicate (basinOfStr w) ((s.str w).taskId.setWidth 48) (s.str w).oord = (none, u)) :
    s.output w f n k = k bytes u := by
  simp only [State.output, if_neg hord, State.readBuffer, halign, hdrain, hload, MemRes.andThen, StrSt.task, hdup, ne_eq, not_true_eq_false,
    if_false]

/-- An instruction whose effect begins to wait retires with the strider waiting (R194). -/
theorem State.outcome_wait (s u : State) (w : StrId) (p : Pfx) (len : Nat) (kind : Wait) :
    s.outcome w p.rep ((s.str w).pc + BitVec.ofNat 64 (prefixLen p + len)) (.wait kind u) =
      s.retire w p len (u.setStr w { u.str w with run := .waiting kind }) := rfl

/-- An output without prefixes, as issued, makes its effect; `r` is what it comes to (R194). -/
theorem State.outB_issued {p : Pfx} {body : State → Res} {r : Res} (h : s.issues w p) (hp : p.bare) (hbody : body s = r) :
    s.outB w p false (fun s => s.micro w p body) = s.outcome w p.rep ((s.str w).pc + BitVec.ofNat 64 (prefixLen p + 3)) r := by
  obtain ⟨hrep, hnt, hwide⟩ := hp
  obtain ⟨-, -, -, -, herr, -⟩ := id h
  have hlen : prefixLen p + 3 = 3 := by simp [prefixLen, hrep, hnt, hwide]
  have hmicro : s.micro w p body = r := by simp only [State.micro, herr, hbody]
  have hpfx : (badPfx p false false false || false) = false := by simp [badPfx, hrep, hnt, hwide]
  rw [State.outB, hpfx, State.instr_issued _ h (by decide), hmicro, hlen]

end Outputs

/-! ### EMIT (R88 to R90) -/

section Emit
variable {s d v u : State} {w : StrId} {p : Pfx} {f : FmtB} {bytes : List Byte}

/-- The channel of an ATX's actuator, by its ADT entry (Table 04-2). -/
def State.channelOf (u : State) (a : Atx) : Nat := getE (u.adtE a.actIdx.toNat) ADT.CHAN

/-- The part of an ATX's ADT entry that goes to its weir with it. -/
def State.adtLowOf (u : State) (a : Atx) : Word := (u.adtE a.actIdx.toNat).setWidth 64

/-- The effect of an EMIT once its buffer is read: the checks of the front end, then those of the weir (Table 04-4). -/
def State.emitChecked (u : State) (w : StrId) (d : RegNo) (a : Atx) : Res :=
  let front := u.frontRefusal a
  if front ≠ 0 then .next ((u.setFld WEIRG_STAT.LAST_REFUSE front).outputDone w d (BitVec.ofNat 64 front) true)
  else
    let n := u.channelOf a
    let low := u.adtLowOf a
    let code := u.weirRefusal n a low
    if code ≠ 0 then .next ((u.weirRefused n code).outputDone w d (BitVec.ofNat 64 code) true)
    else if u.waitRefusal n = 0 ∧ (u.weir n).waiters = [] then .next (u.emitAccept w n a low d)
    else .wait (.emit a n low u.dt (if u.waitRefusal n = 0 then 1 else u.waitRefusal n) d)
      (u.setWeir n { u.weir n with waiters := (u.weir n).waiters ++ [w] })

/-- An EMIT of legal form whose buffer can be read comes to its checks. -/
theorem exec_emit_checked (h : s.issues w p) (hp : p.bare) (hb : f.b = 0) (hx : f.x = false) (hord : (s.str w).oord ≠ 0xFFFFFFFF)
    (halign : ((s.str w).xr f.a).toNat % 8 = 0) (hdrain : s.drainAll w = (true, d))
    (hload : d.load w ((s.str w).xr f.a).toNat 32 false = (.ok bytes, v))
    (hdup : v.duplicate (basinOfStr w) ((s.str w).taskId.setWidth 48) (s.str w).oord = (none, u)) :
    exec (.emit w p f) s = .next (settle s
      (s.outcome w p.rep ((s.str w).pc + BitVec.ofNat 64 (prefixLen p + 3)) (u.emitChecked w f.d (atxOf bytes)))) := by
  obtain ⟨hpow, -⟩ := id h
  have hissue : s.emitIssue w f = u.emitChecked w f.d (atxOf bytes) := State.output_new hord halign hdrain hload hdup
  have hform : (!zeroReg f.b || f.x) = false := by simp [zeroReg, hb, hx]
  exact (exec_emit ..).trans (run_eq hpow (by rw [hform]; exact State.outB_issued h hp hissue))

section Checks
variable {a : Atx} {r : RegNo}

theorem State.emitChecked_front (h : u.frontRefusal a ≠ 0) : u.emitChecked w r a =
    .next ((u.setFld WEIRG_STAT.LAST_REFUSE (u.frontRefusal a)).outputDone w r (BitVec.ofNat 64 (u.frontRefusal a)) true) := if_pos h

variable (hfront : u.frontRefusal a = 0)
include hfront

theorem State.emitChecked_weir (hweir : u.weirRefusal (u.channelOf a) a (u.adtLowOf a) ≠ 0) : u.emitChecked w r a =
    .next ((u.weirRefused (u.channelOf a) (u.weirRefusal (u.channelOf a) a (u.adtLowOf a))).outputDone w r
      (BitVec.ofNat 64 (u.weirRefusal (u.channelOf a) a (u.adtLowOf a))) true) :=
  (if_neg (not_not.mpr hfront)).trans (if_pos hweir)

variable (hweir : u.weirRefusal (u.channelOf a) a (u.adtLowOf a) = 0)
include hweir

theorem State.emitChecked_accepted (hwait : u.waitRefusal (u.channelOf a) = 0) (hnone : (u.weir (u.channelOf a)).waiters = []) :
    u.emitChecked w r a = .next (u.emitAccept w (u.channelOf a) a (u.adtLowOf a) r) :=
  (if_neg (not_not.mpr hfront)).trans ((if_neg (not_not.mpr hweir)).trans (if_pos ⟨hwait, hnone⟩))

theorem State.emitChecked_waits (hwait : u.waitRefusal (u.channelOf a) ≠ 0 ∨ (u.weir (u.channelOf a)).waiters ≠ []) :
    u.emitChecked w r a =
      .wait (.emit a (u.channelOf a) (u.adtLowOf a) u.dt (if u.waitRefusal (u.channelOf a) = 0 then 1 else u.waitRefusal (u.channelOf a)) r)
        (u.setWeir (u.channelOf a) { u.weir (u.channelOf a) with waiters := (u.weir (u.channelOf a)).waiters ++ [w] }) :=
  (if_neg (not_not.mpr hfront)).trans ((if_neg (not_not.mpr hweir)).trans (if_neg fun ⟨hz, hnone⟩ => hwait.elim (· hz) (· hnone)))

end Checks

end Emit

/-- Settles O17: an EMIT comes to its checks, and each clause is what one outcome of the checks does. -/
theorem emitOutcomes : Obligations.EmitOutcomes := by
  intro s d v w p f bytes h hp hb hx t hord halign hdrain hload u hdup a e n low
  have hexec := exec_emit_checked h hp hb hx hord halign hdrain hload hdup
  refine ⟨fun hfront => ?front, fun hfront hweir => ?weir, fun hfront hweir hwait hnone => ?accepted, fun hfront hweir hwait => ?waits⟩
  case front => rw [hexec, State.emitChecked_front hfront, State.outcome_next]
  case weir =>
    rw [hexec, State.emitChecked_weir hfront hweir, State.outcome_next]
    rfl
  case accepted =>
    rw [hexec, State.emitChecked_accepted hfront hweir hwait hnone, State.outcome_next]
    rfl
  case waits =>
    rw [hexec, State.emitChecked_waits hfront hweir hwait, State.outcome_wait]
    rfl

end Sys2Proof.Machine
end

section
/-!
PROOFS. Launches (chapter 4): ACT records, the launch decision and a record's times, the one DATA frame of a launch, and their obligations.
-/

namespace Sys2Proof.Machine

/-! ### ACT records (Table 05-12) -/

section ActRecord
variable (r : XRec) (xid : Word32) (ds : Plc) (late : Bool) (d : BitVec 512)

theorem length_actRecord : (actRecord r xid ds late d).length = 24 := by simp [actRecord]

theorem leAt_actRecord_ds : leAt (actRecord r xid ds late d) 2 6 = ds.tick.toNat % 2 ^ 48 := by
  simp only [actRecord, List.append_assoc]
  rw [leAt_middle (length_leBytes ..) (length_leBytes ..), leNat_leBytes]
  norm_num

theorem leAt_actRecord_xid : leAt (actRecord r xid ds late d) 8 4 = xid.toNat := by
  simp only [actRecord, List.append_assoc]
  rw [← List.append_assoc, leAt_middle (by simp) (length_leBytes ..), leNat_leBytes]
  exact Nat.mod_eq_of_lt xid.isLt

end ActRecord

/-! ### What the bookkeeping of a weir leaves as it was -/

section Bookkeeping
variable (s : State) (n i : Nat)

@[simp] theorem State.striders_pubArmed : (s.pubArmed n).striders = s.striders := rfl

@[simp] theorem State.dram_pubArmed : (s.pubArmed n).dram = s.dram := rfl

@[simp] theorem State.striders_setRec (r : XRec) : (s.setRec n r).striders = s.striders := rfl

@[simp] theorem State.dram_setRec (r : XRec) : (s.setRec n r).dram = s.dram := rfl

@[simp] theorem State.striders_setAdtE (e : BitVec 256) : (s.setAdtE i e).striders = s.striders := rfl

@[simp] theorem State.dram_setAdtE (e : BitVec 256) : (s.setAdtE i e).dram = s.dram := rfl

@[simp] theorem State.striders_setDptE (e : BitVec 512) : (s.setDptE i e).striders = s.striders := rfl

@[simp] theorem State.dram_setDptE (e : BitVec 512) : (s.setDptE i e).dram = s.dram := rfl

end Bookkeeping

/-! ### The launch decision (R95, R520) -/

section Launch
variable {s : State} {n id seq : Nat} {tL : Plc} {r : XRec} {p : Placement}

/-- The drive start of a record launched in time at `tL`: its own, or one channel latency later once that has passed (R95). -/
def State.driveStart (s : State) (n : Nat) (tL : Plc) (p : Placement) : Plc :=
  if plcDiff tL (p.ds - plcOf (s.lat n)) ≤ 0 then p.ds else tL + plcOf (s.lat n)

/-- Is a drive start too near the last of the record's actuator (R520)? -/
def State.clashes (s : State) (r : XRec) (ds : Plc) : Bool :=
  conflicts (getE (s.adtE r.atx.actIdx.toNat) ADT.LAST_DS) (getE (s.dptE r.profile) DPT.MIN_GAP) ds

/-- In time, a record's drive start is fixed, and slips when the launch comes after its aim. -/
theorem State.launchDecision (hdll : plcDiff tL p.dll ≤ 0) :
    (if 0 < plcDiff tL p.dll then none
      else if plcDiff tL (p.ds - plcOf (s.lat n)) ≤ 0 then some (p.ds, false) else some (tL + plcOf (s.lat n), true)) =
    some (s.driveStart n tL p, decide (0 < plcDiff tL (p.ds - plcOf (s.lat n)))) := by
  rw [if_neg (not_lt.mpr hdll), State.driveStart]
  split_ifs with haim
  · rw [decide_eq_false (not_lt.mpr haim)]
  · rw [decide_eq_true (not_le.mp haim)]

section Armed
variable (h : s.recOf n id = some r) (hl : r.lateNo = none) (ha : s.adtBad r.atx.actIdx.toNat = false) (hd : s.dptBad r.profile = false)
  (hp : s.placement n r = some p)
include h hl ha hd hp

theorem State.launchRec_passed (hdll : 0 < plcDiff tL p.dll) : s.launchRec n id tL seq = (none, s.lateRec n id) := by
  simp [State.launchRec, h, hl, ha, hd, hp, hdll]

variable (hdll : plcDiff tL p.dll ≤ 0)
include hdll

theorem State.launchRec_clash (hc : s.clashes r (s.driveStart n tL p) = true) :
    s.launchRec n id tL seq = (none, s.finish n id .failed 0x14) := by
  unfold State.clashes at hc
  simp only [State.launchRec, h, hl, ha, hd, hp, State.launchDecision hdll, hc, Bool.or_self, Bool.false_eq_true, if_false, if_true,
    Option.isSome_none]

/-- A record driven at its drive start: its ACT record carries the next XID of the channel, and the launch changes nothing of the striders
or of the memory. -/
theorem State.launchRec_driven (hx : r.xid = none) (hc : s.clashes r (s.driveStart n tL p) = false) : ∃ (r' : XRec) (u : State),
    s.launchRec n id tL seq = (some (actRecord r' (s.chan n).xidNext (s.driveStart n tL p) false (s.dptE r.profile)), u) ∧
      u.striders = s.striders ∧ u.dram = s.dram := by
  unfold State.clashes at hc
  simp only [State.launchRec, h, hl, ha, hd, hp, State.launchDecision hdll, hc, hx, Bool.or_self, Bool.false_eq_true, if_false,
    Option.isSome_none, Option.getD_none, Option.isNone_none, if_true]
  refine ⟨_, _, rfl, ?_, ?_⟩
  · simp only [State.striders_pubArmed, State.setWeir_striders, State.striders_setDptE, State.striders_setAdtE, State.striders_setRec,
      State.setChan_striders]
  · simp only [State.dram_pubArmed, State.setWeir_dram, State.dram_setDptE, State.dram_setAdtE, State.dram_setRec, State.setChan_dram]

end Armed

/-- The times of an armed record with a target time (R83, R92). -/
theorem State.placement_armed {t : Plc} (ha : r.state = .armed) (hc : r.conv = .at t) :
    s.placement n r = some
      { ds := t - plcOf r.lead
        tll := t - plcOf r.lead - plcOf (s.lat n) - plcOf s.marginM
        wo := t - plcOf r.lead - plcOf (s.lat n) - plcOf s.marginM - plcOf s.advA
        dll := t + plcOf r.atx.lateWin.toNat - plcOf r.lead - plcOf (s.lat n) } := by
  simp [State.placement, ha, hc]

end Launch

/-- Settles O23: the launch decision is taken on the record's drive start, and its ACT record is 24 bytes that carry that start and the
channel's next XID. -/
theorem launchTimesAndDecision : Obligations.LaunchTimesAndDecision := by
  refine ⟨fun s n id seq tL r p h _ hl ha hd hp => ⟨State.launchRec_passed h hl ha hd hp, State.launchRec_clash h hl ha hd hp,
    fun hdll hc hx => ?driven⟩, fun s n r t ha hc => ⟨_, State.placement_armed ha hc, rfl, ?aim, ?window, rfl⟩⟩
  case driven =>
    obtain ⟨r', u, hlaunch, hstriders, hdram⟩ := State.launchRec_driven (seq := seq) h hl ha hd hp hdll hx hc
    exact ⟨_, u, hlaunch, length_actRecord .., leAt_actRecord_ds .., leAt_actRecord_xid .., hstriders, hdram⟩
  case aim => rw [State.marginM, Int.mul_comm]
  case window => rw [State.advA, Int.mul_comm]

/-! ### A launch (R94, R95, R129, R143, R144) -/

section Launches
variable {s u : State} {n k : Nat} {fine : Fin 8} {recs : List (Nat × List Byte)}

/-- How many unfired records the partner of a channel holds (R94); none without a partner. -/
def State.partnerDepth (s : State) (n : Nat) : Nat :=
  match (s.chan n).partner with
  | none => 0
  | some p => p.armedDepth

/-- One DATA frame of records begins on the channel: sequenced, held until acknowledged, and open until its end is sent. -/
def State.dataFrame (u : State) (n : Nat) (recs : List (Nat × List Byte)) : State :=
  let c := u.chan n
  (u.setChan n { c with
    txNext := c.txNext + 1, txOpen := true,
    unacked := c.unacked ++ [{ seq := c.txNext, recs := recs, sentAt := u.dt, resends := 0 }] }).putFrame n
      (u.mkFrame n 2 c.txNext recs.length false (recs.flatMap (·.2)))

/-- A channel that accepts DATA takes the records whose turn it is, in one frame when there are any. -/
theorem State.weirLaunch_packed (hacc : s.fcAccepts n = true) (hfine : s.bit TIME_STAT.FINE_LOCK = true) (hurgent : s.urgentWaits n = false)
    (hweir : s.fld (WEIR_STAT.STATE n) ≠ 0)
    (hpack : s.packFrame n (plc s.dt fine.val) (s.partnerDepth n) (s.chan n).txNext.toNat 64 (min k (s.recLimit n)) [] = (recs, u)) :
    s.weirLaunch n fine k = if recs.isEmpty then u else u.dataFrame n recs := by
  have hopen : (!(s.fcAccepts n && s.bit TIME_STAT.FINE_LOCK) || s.urgentWaits n || s.fld (WEIR_STAT.STATE n) == 0) = false := by
    simp [hacc, hfine, hurgent, hweir]
  unfold State.partnerDepth at hpack
  cases hpartner : (s.chan n).partner <;> rw [hpartner] at hpack
  all_goals
    simp only [State.weirLaunch, hopen, hpartner, hpack, Bool.false_eq_true, if_false]
    rfl

end Launches

/-- Settles O22: the launch is the packing of records, followed by one frame when there are any. -/
theorem weirLaunchesInOneFrame : Obligations.WeirLaunchesInOneFrame := by
  intro s n fine k recs u hp hacc hfine hurgent hweir depth seq hpack
  have hlaunch := State.weirLaunch_packed hacc hfine hurgent hweir hpack
  refine ⟨fun hnone => ?empty, fun hsome => ?frame⟩
  case empty => exact (exec_weirLaunch ..).trans (run_eq hp (hlaunch.trans (if_pos (List.isEmpty_iff.mpr hnone))))
  case frame => exact (exec_weirLaunch ..).trans (run_eq hp (hlaunch.trans (if_neg (by simpa using hsome))))

end Sys2Proof.Machine
end

section
/-!
PROOFS. What ends a transaction (chapter 4): the late policies, the timeouts and reports, and their obligation.
-/

namespace Sys2Proof.Machine

/-! ### Records of a weir -/

theorem XRec.find?_replaced {l : List XRec} {r r' : XRec} {id : Nat} (h : l.find? (fun x => x.id == id) = some r) (hid : r'.id = r.id) :
    (l.map fun x => if x.id = r'.id then r' else x).find? (fun x => x.id == id) = some r' := by
  have hkeeps : ((fun x : XRec => x.id == id) ∘ fun x => if x.id = r'.id then r' else x) = fun x => x.id == id := by
    funext x
    by_cases hx : x.id = r'.id <;> simp [hx]
  rw [List.find?_map, hkeeps, h, Option.map_some, if_pos hid.symm]

/-! ### What is found late (R96, R97, Table 04-6) -/

section Late
variable {s : State} {n id : Nat} {r : XRec}

/-- The late policy in force for a record: its ATX's own, or its weir's (Table 04-6). -/
def State.latePolicy (s : State) (n : Nat) (r : XRec) : Nat :=
  if r.atx.late = 0 then s.fld (WEIR_CTL.LATE n) else r.atx.late.toNat - 1

theorem State.lateRec_drop (h : s.recOf n id = some r) (hp : s.latePolicy n r = 0) : s.lateRec n id = s.finish n id .late 1 := by
  simp only [State.latePolicy] at hp
  simp only [State.lateRec, h, hp]

theorem State.lateRec_stop (h : s.recOf n id = some r) (hp : s.latePolicy n r = 2) :
    s.lateRec n id = (s.finish n id .late 3).raise (Flt.WEIR_STOPLATE n) := by
  simp only [State.latePolicy] at hp
  simp only [State.lateRec, h, hp]

/-- A record kept under SEND_LATE, with its place among those found late. -/
def State.keptLate (s : State) (n : Nat) (r : XRec) : XRec :=
  { r with lateNo := some (s.weir n).nextLate, tlat := r.tlatOf.getD (plc s.dt 0) }

theorem State.lateRec_sendLate (h : s.recOf n id = some r) (hp : s.latePolicy n r = 1) :
    s.lateRec n id = s.setWeir n { s.weir n with
      nextLate := (s.weir n).nextLate + 1, recs := (s.weir n).recs.map fun x => if x.id = r.id then s.keptLate n r else x } := by
  simp only [State.latePolicy] at hp
  simp only [State.lateRec, h, hp, State.keptLate]

theorem State.recOf_lateRec_sendLate (h : s.recOf n id = some r) (hp : s.latePolicy n r = 1) :
    (s.lateRec n id).recOf n id = some (s.keptLate n r) := by
  rw [State.lateRec_sendLate h hp, State.recOf, State.weir_setWeir_same]
  exact XRec.find?_replaced (r' := s.keptLate n r) h rfl

theorem State.lateFound_passed {p : Placement} (h : s.recOf n id = some r) (ha : r.state = .armed) (hl : r.lateNo = none)
    (hp : s.placement n r = some p) (hd : 0 < plcDiff (plc s.dt 0) p.dll) : s.lateFound n id = s.lateRec n id := by
  simp [State.lateFound, h, ha, hl, hp, hd]

theorem State.heldTimeout_due {since : Word} (h : s.recOf n id = some r) (ha : r.state = .armed) (hl : r.lateNo = none)
    (hc : r.conv = .held since) (hm : s.fld WEIRG_TMO.NONEMAX ≠ 0) (ht : (3000000 * s.fld WEIRG_TMO.NONEMAX : Int) < dtDiff s.dt since) :
    s.heldTimeout n id = s.finish n id .failed 0x21 := by
  simp [State.heldTimeout, h, ha, hl, hc, hm, ht]

end Late

/-! ### How a transaction ends (R98, R101, Table 04-7) -/

section Ends
variable {s : State} {n id : Nat} {r : XRec}

/-- A final transaction does not change again (R98). -/
theorem State.finish_final {st : XState} {reason : Nat} (h : s.recOf n id = some r) (hf : r.state.final = true) :
    s.finish n id st reason = s := by
  simp [State.finish, h, hf]

theorem State.verifyTimeout_delivered (h : s.recOf n id = some r) (hst : r.state = .delivered)
    (hd : 0 < plcDiff (plc s.dt 0) (s.verifyLimit n r)) : s.verifyTimeout n id = s.finish n id .failed 0x11 := by
  simp [State.verifyTimeout, h, hst, hd]

theorem State.verifyTimeout_unconfirmed (h : s.recOf n id = some r) (hst : r.state = .unconfirmed)
    (hd : 0 < plcDiff (plc s.dt 0) (s.verifyLimit n r)) : s.verifyTimeout n id = s.finish n id .failed 0x12 := by
  simp [State.verifyTimeout, h, hst, hd]

theorem State.reportRetry_single (h : (s.weir n).recs = [r]) (hf : r.state.final = true) (hd : r.reportDue.isSome = true) :
    s.reportRetry n = s.postReport n r := by
  simp [State.reportRetry, h, hf, hd]

end Ends

/-- Settles O24: each way a transaction ends or waits is the equation of the operation that finds it. -/
theorem transactionEnds : Obligations.TransactionEnds := by
  refine ⟨fun s n id r h => ⟨State.lateRec_drop h, State.lateRec_stop h, fun hp => ?sendLate⟩,
    fun s n id r st reason => State.finish_final,
    fun s n id r hpow h => ⟨fun p ha hl hp hd => ?lateFound, fun since ha hl hc hm ht => ?held,
      fun hd => ⟨fun hst => ?delivered, fun hst => ?unconfirmed⟩, fun hrecs hf hdue => ?retry⟩⟩
  case sendLate =>
    refine ⟨s.keptLate n r, State.recOf_lateRec_sendLate h hp, rfl, rfl, ?_⟩
    rw [State.lateRec_sendLate h hp, State.weir_setWeir_same]
  case lateFound => exact (exec_atxLateFound ..).trans (run_eq hpow (State.lateFound_passed h ha hl hp hd))
  case held => exact (exec_atxHeldTimeout ..).trans (run_eq hpow (State.heldTimeout_due h ha hl hc hm ht))
  case delivered => exact (exec_verifyTimeout ..).trans (run_eq hpow (State.verifyTimeout_delivered h hst hd))
  case unconfirmed => exact (exec_verifyTimeout ..).trans (run_eq hpow (State.verifyTimeout_unconfirmed h hst hd))
  case retry => exact (exec_reportRetry ..).trans (run_eq hpow (State.reportRetry_single hrecs hf hdue))

end Sys2Proof.Machine
end

section
/-!
PROOFS. Weir controls, SPEED_LIMIT and slack (chapter 4): each command's cases, the code of SPEEDLIM, and their obligation.
-/

namespace Sys2Proof.Machine

/-! ### Enabling, disabling and committing a weir (R44, R107, Table 04-15) -/

section Controls
variable {s : State} {n : Nat}

theorem State.weirEnable_on (hen : s.bit (WEIR_CTL.EN n) = false) (hg : s.bit WEIRG_CTL.EN = true) :
    s.weirEnable n true = (s.setFld (WEIR_CTL.EN n) 1).syncWeir n := by
  simp [State.weirEnable, hen, hg]

theorem State.weirEnable_refused (hen : s.bit (WEIR_CTL.EN n) = false) (hg : s.bit WEIRG_CTL.EN = false) :
    s.weirEnable n true = s.setFld (WEIR_STAT.CFG_REJECT n) 1 := by
  simp [State.weirEnable, hen, hg]

theorem State.weirEnable_off (hen : s.bit (WEIR_CTL.EN n) = true) :
    s.weirEnable n false = ((s.setFld (WEIR_STAT.STATE n) 2).failRecs n 0x31
      (fun r => r.state == .armed || r.state == .reissue)).weirStopCheck n := by
  simp [State.weirEnable, hen]

end Controls

/-! ### SPEED_LIMIT (R111, R112, Table 04-19) -/

section Speed
variable {s : State} {rated req : Nat}

/-- A nonzero REQ with RATED as it stands: the limit is asked for, and never raised above one in force (R111). -/
theorem State.speedReq_nonzero (hrated : rated = s.fld WEIRG_SPDREQ.RATED) (hreq : req ≠ 0) :
    s.speedReq rated req = (s.setFld WEIRG_SPDREQ.REQ req).speedRaise
      (if s.bit WEIRG_STAT.SPD_ACTIVE then min (s.fld WEIRG_SPDREC.REC_RPM) req else req) 2 := by
  have hbit : (s.setFld WEIRG_SPDREQ.REQ req).bit WEIRG_STAT.SPD_ACTIVE = s.bit WEIRG_STAT.SPD_ACTIVE :=
    s.bit_setFld_other req (by decide)
  have hrec : (s.setFld WEIRG_SPDREQ.REQ req).fld WEIRG_SPDREC.REC_RPM = s.fld WEIRG_SPDREC.REC_RPM :=
    s.fld_setFld_other req (by decide)
  simp only [State.speedReq, if_pos hrated, if_neg hreq, hbit, hrec]

theorem exec_spdreqWrite_nonzero {rated req : BitVec 16} (hp : s.powered = true) (hrated : rated.toNat = s.fld WEIRG_SPDREQ.RATED)
    (hreq : req ≠ 0) : exec (.spdreqWrite rated req) s = .next (settle s ((s.setFld WEIRG_SPDREQ.REQ req.toNat).speedRaise
      (if s.bit WEIRG_STAT.SPD_ACTIVE then min (s.fld WEIRG_SPDREC.REC_RPM) req.toNat else req.toNat) 2)) :=
  (exec_spdreqWrite ..).trans (run_eq hp (State.speedReq_nonzero hrated fun h => hreq (BitVec.eq_of_toNat_eq h)))

/-- Code `c` of Table 04-19: (16 − c)/16 of the rated speed is reached. -/
def codeReached (rated rpm c : Nat) : Prop := rated * (16 - c) ≤ rpm * 16

/-- The code of a rated speed is the first of 1 to 15 that is reached, or 15 when none is. -/
theorem speedCode_first {rated rpm : Nat} (hr : 0 < rated) :
    1 ≤ speedCode rated rpm ∧ speedCode rated rpm ≤ 15 ∧ (speedCode rated rpm < 15 → codeReached rated rpm (speedCode rated rpm)) ∧
      ∀ c, 1 ≤ c → c < speedCode rated rpm → ¬ codeReached rated rpm c := by
  have hcode : speedCode rated rpm =
      (((List.range 15).find? fun k => decide (rated * (16 - (k + 1)) ≤ rpm * 16)).map (· + 1)).getD 15 := by
    rw [speedCode, if_neg (by omega), List.find?_map]
    rfl
  have hsucc {c : Nat} (h : 1 ≤ c) : c - 1 + 1 = c := by omega
  rw [hcode]
  cases hfind : (List.range 15).find? fun k => decide (rated * (16 - (k + 1)) ≤ rpm * 16) with
  | none =>
    have hnone := List.find?_range_eq_none.mp hfind
    refine ⟨by simp, by simp, by simp, fun c h1 (hc : c < 15) => ?_⟩
    have hmiss := hnone (c - 1) (by omega)
    rw [hsucc h1] at hmiss
    simpa [codeReached] using hmiss
  | some k =>
    obtain ⟨hk, hmem, hbefore⟩ := List.find?_range_eq_some.mp hfind
    have hlt := List.mem_range.mp hmem
    refine ⟨Nat.succ_pos k, hlt, fun _ => by simpa [codeReached] using hk, fun c h1 (hc : c < k + 1) => ?_⟩
    have hmiss := hbefore (c - 1) (by omega)
    rw [hsucc h1] at hmiss
    simpa [codeReached] using hmiss

theorem speedCode_bounds (rated rpm : Nat) : 1 ≤ speedCode rated rpm ∧ speedCode rated rpm ≤ 15 := by
  rcases Nat.eq_zero_or_pos rated with rfl | hr
  · exact ⟨by simp [speedCode], by simp [speedCode]⟩
  · obtain ⟨hlo, hhi, -, -⟩ := speedCode_first (rpm := rpm) hr
    exact ⟨hlo, hhi⟩

end Speed

/-! ### The slack evaluation (R109, R110) -/

section Slack
variable {s : State}

theorem State.slackEval_idle (h : s.weirgPoint.weirs = []) : s.slackEval = s.weirgPoint := by
  simp [State.slackEval, h]

/-- One weir with transactions: its slack is kept, published, and the worst of the device. -/
theorem State.slackEval_single {n : Nat} {w : WeirSt} {x : Int} (h : s.weirgPoint.weirs = [(n, w)]) (hx : s.weirgPoint.slackOf n = some x) :
    s.slackEval =
      ((((s.weirgPoint.setWeir n { w with
          neg := w.neg || decide (x < 0), unclear := w.unclear || decide (x < s.weirgPoint.fld WEIRG_SPEED.HYST * 24000),
          worst := min w.worst x }).setSFld (WEIR_SLACK.SLACK n) (slackUnits x)).setSFld WEIRG_SLACKMIN.SLACK (slackUnits x)).setFld
        WEIRG_SLACKMIN.CH n).setFld WEIRG_STAT.WORST_CH n := by
  have hw : s.weirgPoint.weir n = w := by simp [State.weir, h, Tab.get]
  simp only [State.slackEval, h, List.map_cons, List.map_nil, List.foldl_cons, List.foldl_nil, hx, hw]

end Slack

/-- Settles O25: each clause is the equation of its command's case; the code of SPEEDLIM is the first that the recommendation reaches. -/
theorem weirControlsAndSpeed : Obligations.WeirControlsAndSpeed := by
  refine ⟨fun s hp => ⟨fun n hen hg => ?enable, fun n hen hg => ?refused, fun n hen => ?disable, fun n => ?commit,
      (exec_spdClr ..).trans (run_powered hp _), fun rated req hrated hreq hact => ?request, fun rated req hrated hreq hact => ?lower,
      fun h => ?idle, fun n w x h hx => ?slack⟩, fun rated rpm => ⟨(speedCode_bounds ..).1, (speedCode_bounds ..).2,
      fun hr hlt => ?reached, fun hr hc => ?before⟩⟩
  case enable => exact (exec_weirEnable ..).trans (run_eq hp (by rw [State.weirEnable_on hen hg]))
  case refused => exact (exec_weirEnable ..).trans (run_eq hp (by rw [State.weirEnable_refused hen hg]))
  case disable => exact (exec_weirEnable ..).trans (run_eq hp (by rw [State.weirEnable_off hen]))
  case commit => exact (exec_weirCommit ..).trans (run_powered hp _)
  case request => rw [exec_spdreqWrite_nonzero hp hrated hreq, if_neg (by simp [hact])]
  case lower => rw [exec_spdreqWrite_nonzero hp hrated hreq, if_pos hact]
  case idle => exact (exec_slackEvaluation ..).trans (run_eq hp (State.slackEval_idle h))
  case slack => exact (exec_slackEvaluation ..).trans (run_eq hp (State.slackEval_single h hx))
  case reached =>
    obtain ⟨-, -, hreached, -⟩ := speedCode_first (rpm := rpm) hr
    exact hreached hlt
  case before =>
    obtain ⟨-, hle, -, hmiss⟩ := speedCode_first (rpm := rpm) hr
    have hshare : 16 - (speedCode rated rpm - 1) = 17 - speedCode rated rpm := by omega
    have hbefore := hmiss (speedCode rated rpm - 1) (by omega) (by omega)
    rw [codeReached, hshare] at hbefore
    exact Nat.lt_of_not_le hbefore

end Sys2Proof.Machine
end

section
/-!
PROOFS. Link-up and failure of a field channel (chapter 5): enable and disable, the attempts of Table 05-6, the group PLL, what a failed
attempt leads to, and their obligation.
-/

namespace Sys2Proof.Machine

/-! ### The state of a channel (Table 05-5) -/

@[simp] theorem State.fcState_setChan (s : State) (n k : Nat) (v : ChanSt) : (s.setChan n v).fcState k = s.fcState k := rfl

/-! ### Enable, disable and stop (R131, R136, R137) -/

section Enable
variable {s t : State} {n : Nat} {f : State → State}

/-- A write to FC_CTL: its effect, and then perhaps the commit point of a channel that sends no frames. -/
theorem run_fcWritten (hp : s.powered = true) (h : f s = t) :
    run s (fun s => (f s).fcWritten n) = .next (settle s (t.fcWritten n)) :=
  run_eq hp (congrArg (State.fcWritten · n) h)

theorem State.fcEnable_down (hst : s.fcState n = 6) : s.fcEnable n = s := if_pos (by simp [hst])

/-- The link state of a channel as it is enabled (R131): new, but for its XIDs, the time of its last REJECT and a latency set by hand. -/
def State.newLink (s : State) (n : Nat) : State :=
  let c := s.chan n
  let u := s.setChan n { ChanSt.init with
    xidNext := c.xidNext, xidCount := c.xidCount, lastTx := s.dt, lastRx := s.dt, lastReject := c.lastReject }
  if s.bit (FC_CTL.LAT_AUTO n) then u else u.setFld (FC_LAT.LAT_FINE n) 0

theorem State.fcEnable_starts (hen : s.bit (FC_CTL.EN n) = false) (hst : s.fcState n ≠ 6) :
    s.fcEnable n =
      (((((s.newLink n).setFld (FC_CTL.EN n) 1).setFld (FC_STAT.RTR_TRY n) 0).setFld (FC_STAT.TCLASS n) 0).setFc n 1).startAttempt n false :=
  if_neg (by simp [hen, hst])

section Disable
variable (hrun : s.bit (FC_CTL.EN n) = true ∨ s.fcState n = 6) (hst : s.fcState n ≠ 7)
include hrun hst

theorem State.fcDisable_runs : ¬ ((!s.bit (FC_CTL.EN n) && s.fcState n != 6) || s.fcState n == 7) = true := by
  rcases hrun with h | h <;> simp [h, hst]

theorem State.fcDisable_refused (hweir : s.bit (WEIR_CTL.EN n) = true) : s.fcDisable n = s.setFld (FC_STAT.CFG_REJECT n) 1 := by
  rw [State.fcDisable, if_neg (State.fcDisable_runs hrun hst), if_pos hweir]

theorem State.fcDisable_stops (hweir : s.bit (WEIR_CTL.EN n) = false) :
    s.fcDisable n = ((s.setChan n { (s.chan n).clearLink with stopAt := some s.dt }).setFc n 7).fcPoint n := by
  rw [State.fcDisable, if_neg (State.fcDisable_runs hrun hst), if_neg (by simp [hweir])]

end Disable

/-- A channel that has stopped is disabled. -/
def State.fcDisabled (s : State) (n : Nat) : State :=
  ((s.setChan n { s.chan n with stopAt := none }).setFld (FC_CTL.EN n) 0).setFc n 0

theorem State.fcStopped_due {t : Word} (ht : (s.chan n).stopAt = some t) (hst : s.fcState n = 7)
    (hdue : elapsed s.dt t (usTicks 1) = true) :
    s.fcStopped n =
      if (upTo 8).any (fun i => (s.fcDisabled n).bit (FC_CTL.EN (n / 8 * 8 + i))) then s.fcDisabled n
      else (s.fcDisabled n).setGroup (n / 8) false := by
  simp only [State.fcStopped, ht, hst, hdue, and_self, if_true]
  rfl

end Enable

/-! ### Attempts (Table 05-6, R131, R135, R154) -/

section Attempts
variable {s : State} {n : Nat} {t : Word}

section SymbolLock
variable (hgroup : s.groupLocked n = true) (hatt : (s.chan n).attempt.isSome = true) (hhello : (s.chan n).inHello = false)
include hgroup hatt hhello

theorem State.symbolLock_linkup (hst : s.fcState n = 1) :
    s.symbolLock n = (s.setChan n { s.chan n with inHello := true, lastHello := none }).setFc n 2 := by
  simp [State.symbolLock, hgroup, hatt, hhello, hst]

theorem State.symbolLock_retrain (hst : s.fcState n = 4) :
    s.symbolLock n = s.setChan n { s.chan n with inHello := true, lastHello := none } := by
  simp [State.symbolLock, hgroup, hatt, hhello, hst]

end SymbolLock

theorem State.attemptTimeout_due (ht : (s.chan n).attempt = some t) (hst : s.fcState n ≠ 5)
    (hdue : elapsed s.dt t (usTicks 1000) = true) : s.attemptTimeout n = s.attemptFails n := by
  simp [State.attemptTimeout, ht, hst, hdue]

theorem State.retrainAttempt_due (ht : (s.chan n).retryAt = some t) (hst : s.fcState n = 1 ∨ s.fcState n = 4) (hdue : dtGe s.dt t = true)
    (hlock : (s.chan n).relock = false) : s.retrainAttempt n = s.startAttempt n false := by
  simp [State.retrainAttempt, ht, hst, hdue, hlock]

/-- A quarantine that fails becomes an episode whose first attempt has failed (R154). -/
theorem State.quarTimeout_due (ht : (s.chan n).quarAt = some t) (hst : s.fcState n = 5)
    (hdue : elapsed s.dt t (usTicks 1000) = true) : s.quarTimeout n = s.startEpisode n true := by
  simp [State.quarTimeout, State.attemptFails, ht, hst, hdue]

theorem State.helloTimer_first (hhello : (s.chan n).inHello = true) (hok : (s.chan n).helloOk = false)
    (hlast : (s.chan n).lastHello = none) (hopen : (s.chan n).txOpen = false) : s.helloTimer n = s.sendHello n := by
  simp [State.helloTimer, hhello, hok, hlast, hopen]

end Attempts

/-! ### The group PLL (R116) -/

section GroupPll
variable {s : State} {n g : Nat}

theorem State.groupLock_enabled (h : (upTo 8).any (fun i => s.bit (FC_CTL.EN (8 * g + i))) = true) :
    s.groupLock g = (upTo 8).foldl (fun s i =>
      if (s.chan (8 * g + i)).relock then s.setChan (8 * g + i) { s.chan (8 * g + i) with relock := false } else s) (s.setGroup g true) :=
  if_pos h

theorem State.groupLoss_locked (h : Tab.get (fun _ => false) s.gplls g = true) :
    s.groupLoss g = (upTo 8).foldl (fun s i => s.pllHit (8 * g + i)) (s.setGroup g false) :=
  if_pos h

theorem State.pllHit_carrying (hen : s.bit (FC_CTL.EN n) = true) (hst : s.fcState n = 3 ∨ s.fcState n = 5) :
    s.pllHit n = (s.linkFault n (Flt.FC_PLL n)).startEpisode n false := by
  rcases hst with hst | hst <;> simp [State.pllHit, hen, hst]

end GroupPll

/-! ### What a failed attempt leads to (R131, R135) -/

section Failure
variable {s : State} {n : Nat}

/-- A channel between two attempts: the next comes 100 µs after the failure of the last. -/
def State.awaitAttempt (s : State) (n : Nat) : State :=
  s.setChan n { s.chan n with attempt := none, inHello := false, helloOk := false, syncOpen := [], retryAt := some (s.dt + 300000) }

variable (hst : s.fcState n ≠ 5)
include hst

theorem State.attemptFails_third (hep : (s.chan n).inEpisode = true) (htry : 2 ≤ s.fld (FC_STAT.RTR_TRY n)) :
    s.attemptFails n = ((s.setFld (FC_STAT.RTR_TRY n) 3).setChan n { s.chan n with
      attempt := none, inHello := false, retryAt := none }).raise (Flt.FC_DOWN n) := by
  have hmin : min 3 (s.fld (FC_STAT.RTR_TRY n) + 1) = 3 := by omega
  have hlast : 3 ≤ s.fld (FC_STAT.RTR_TRY n) + 1 := by omega
  simp only [State.attemptFails, hst, hep, hmin, hlast, if_true, if_false, State.chan_setFld]

theorem State.attemptFails_before_third (hep : (s.chan n).inEpisode = true) (htry : s.fld (FC_STAT.RTR_TRY n) < 2) :
    s.attemptFails n = (s.setFld (FC_STAT.RTR_TRY n) (s.fld (FC_STAT.RTR_TRY n) + 1)).awaitAttempt n := by
  have hmin : min 3 (s.fld (FC_STAT.RTR_TRY n) + 1) = s.fld (FC_STAT.RTR_TRY n) + 1 := by omega
  have hmore : ¬ 3 ≤ s.fld (FC_STAT.RTR_TRY n) + 1 := by omega
  simp only [State.attemptFails, hst, hep, hmin, hmore, if_true, if_false]
  rfl

theorem State.attemptFails_linkup (hep : (s.chan n).inEpisode = false) : s.attemptFails n = (s.setFc n 1).awaitAttempt n := by
  simp only [State.attemptFails, hst, hep, Bool.false_eq_true, if_false]
  rfl

end Failure

/-- Settles O27: each clause about a command is its equation in the case of the clause; the rest are the three outcomes of an attempt's
failure. -/
theorem channelLinkUpAndFailure : Obligations.ChannelLinkUpAndFailure := by
  refine ⟨fun s n hp => ⟨fun _ hst => ?down, fun hen hst => ?enable, fun hrun hweir hst => ?refused, fun hrun hweir hst => ?disable,
      fun t ht hst hdue => ?stopped, fun hgroup hatt hhello hst => ?lockLinkup, fun hgroup hatt hhello hst => ?lockRetrain,
      fun hst => ?lockLoss, fun t ht hst hdue => ?attemptTimeout, fun t ht hst hdue hlock => ?nextAttempt, fun t ht hst hdue => ?quarantine,
      fun hhello hok hlast hopen => ?hello, fun g h => ?pllLock, fun g h => ?pllLoss, fun hen hst => State.pllHit_carrying hen hst⟩,
    fun s n hst => ⟨State.attemptFails_third hst, State.attemptFails_before_third hst, State.attemptFails_linkup hst⟩⟩
  case down => exact (exec_fcEnable ..).trans (run_fcWritten hp (State.fcEnable_down hst))
  case enable => exact (exec_fcEnable ..).trans (run_fcWritten hp (State.fcEnable_starts hen hst))
  case refused => exact (exec_fcDisable ..).trans (run_fcWritten hp (State.fcDisable_refused hrun hst hweir))
  case disable => exact (exec_fcDisable ..).trans (run_fcWritten hp (State.fcDisable_stops hrun hst hweir))
  case stopped => exact (exec_fcStopComplete ..).trans (run_eq hp (State.fcStopped_due ht hst hdue))
  case lockLinkup => exact (exec_symbolLock ..).trans (run_eq hp (State.symbolLock_linkup hgroup hatt hhello hst))
  case lockRetrain => exact (exec_symbolLock ..).trans (run_eq hp (State.symbolLock_retrain hgroup hatt hhello hst))
  case lockLoss => exact (exec_symbolLockLoss ..).trans (run_eq hp (if_pos hst))
  case attemptTimeout => exact (exec_linkupAttemptTimeout ..).trans (run_eq hp (State.attemptTimeout_due ht hst hdue))
  case nextAttempt => exact (exec_retrainAttempt ..).trans (run_eq hp (State.retrainAttempt_due ht hst hdue hlock))
  case quarantine => exact (exec_quarantineTimeout ..).trans (run_eq hp (State.quarTimeout_due ht hst hdue))
  case hello => exact (exec_helloTimer ..).trans (run_eq hp (State.helloTimer_first hhello hok hlast hopen))
  case pllLock => exact (exec_groupPllLock ..).trans (run_eq hp (State.groupLock_enabled h))
  case pllLoss => exact (exec_groupPllLoss ..).trans (run_eq hp (State.groupLoss_locked h))

end Sys2Proof.Machine
end

section
/-!
PROOFS. What a field channel receives (chapter 5): the link layer of a valid frame, the content of each type, the partner's HELLO, damage and
violations, and their obligation.
-/

namespace Sys2Proof.Machine

/-! ### The link layer while UP (R119 to R127, R519) -/

section LinkLayer
variable {s : State} {n : Nat} {f : Frame} {fine : Fin 8} {t : BitVec 4}

@[simp] theorem State.fcState_takeAck (s : State) (n k : Nat) (a : BitVec 16) : (s.takeAck n a).fcState k = s.fcState k := by
  simp only [State.takeAck]
  split
  · rfl
  · split_ifs <;> rfl

/-- A valid frame is a sign of life of the partner (R130). -/
def State.partnerAlive (s : State) (n : Nat) : State := s.setChan n { s.chan n with lastRx := s.dt, silences := 0 }

/-- A valid frame also releases what it acknowledges (R126). -/
def State.heard (s : State) (n : Nat) (f : Frame) : State :=
  if f.ackv then (s.partnerAlive n).takeAck n f.ackSeq else s.partnerAlive n

@[simp] theorem State.fcState_heard (s : State) (n k : Nat) (f : Frame) : (s.heard n f).fcState k = s.fcState k := by
  unfold State.heard State.partnerAlive
  split_ifs <;> simp

/-- The sequenced frame that is expected is taken and acknowledged (R123, R124). -/
def State.taken (u : State) (n : Nat) : State :=
  u.setChan n { u.chan n with rxNext := (u.chan n).rxNext + 1, rxAny := true, ackDue := true }

/-- A sequenced frame by its turn (R123 to R125): in order it leads to `content`, ahead of its turn it asks for a resend, and one already
taken is acknowledged again. -/
def State.inOrder (u : State) (n : Nat) (f : Frame) (content : State) : State :=
  let d := (f.seq - (u.chan n).rxNext).toNat
  if d = 0 then content else if d ≤ 31 then u.setChan n { u.chan n with nakDue := true } else u.setChan n { u.chan n with ackDue := true }

/-- What a frame leads to after its acknowledgement: its content, in its turn if it is sequenced, while the channel is still UP. -/
def State.linkContent (u : State) (n : Nat) (f : Frame) (fine : Fin 8) : State :=
  if u.fcState n ≠ 3 then u
  else if !sequenced f.type.toNat then u.frameContent n f fine
  else u.inOrder n f ((u.taken n).frameContent n f fine)

/-- The link layer in its steps (R519): the rules, a HELLO, the acknowledgement, a NAK, and the content. -/
theorem State.linkUp_eq (s : State) (n : Nat) (f : Frame) (fine : Fin 8) (overrun : Bool) :
    s.linkUp n f fine overrun =
      if s.frameFault n f overrun ≠ 0 then s.violation n (s.frameFault n f overrun) (some f) 0xFFFF
      else if f.type = 1 then (s.partnerAlive n).helloWhileUp n f
      else (if f.type = 4 then (s.heard n f).startResend n (f.ackSeq + 1) else s.heard n f).linkContent n f fine := rfl

section Valid
variable {m : Fin 96} (hst : s.fcState m = 3) (hgood : frameGood f = true) (hvalid : s.frameFault m f false = 0) (ht : f.type = t)
include hst hgood hvalid ht

/-- A valid frame while UP, other than a HELLO. -/
theorem State.rxOfType_valid (hhello : t ≠ 1) :
    s.rxOfType m f fine t = (if t = 4 then (s.heard m f).startResend m (f.ackSeq + 1) else s.heard m f).linkContent m f fine := by
  have hlink : s.rxOfType m f fine t = s.linkUp m f fine false := by simp [State.rxOfType, State.rxFrame, ht, hst, hgood]
  rw [hlink, State.linkUp_eq, if_neg (by simp [hvalid]), ht, if_neg hhello]

/-- A NAK starts a resend after what it acknowledges (R125), and carries nothing else. -/
theorem State.rxOfType_nak (hnak : t = 4) : s.rxOfType m f fine t = (s.heard m f).startResend m (f.ackSeq + 1) := by
  have hcontent (u : State) : u.linkContent m f fine = u := by simp [State.linkContent, State.frameContent, sequenced, ht, hnak]
  rw [State.rxOfType_valid hst hgood hvalid ht (by simp [hnak]), if_pos hnak, hcontent]

theorem State.rxOfType_unsequenced (hseq : t ≠ 1 ∧ t ≠ 4 ∧ sequenced t.toNat = false) :
    s.rxOfType m f fine t = (s.heard m f).frameContent m f fine := by
  obtain ⟨hhello, hnak, hseq⟩ := hseq
  rw [State.rxOfType_valid hst hgood hvalid ht hhello, if_neg hnak, State.linkContent, if_neg (by simp [hst]), if_pos (by simp [ht, hseq])]

theorem State.rxOfType_sequenced (hseq : t ≠ 1 ∧ t ≠ 4 ∧ sequenced t.toNat = true) :
    s.rxOfType m f fine t = (s.heard m f).inOrder m f (((s.heard m f).taken m).frameContent m f fine) := by
  obtain ⟨hhello, hnak, hseq⟩ := hseq
  rw [State.rxOfType_valid hst hgood hvalid ht hhello, if_neg hnak, State.linkContent, if_neg (by simp [hst]), if_neg (by simp [ht, hseq])]

end Valid

end LinkLayer

/-! ### The content of a frame (R139, R145 to R147) -/

section Content
variable {s : State} {n : Nat} {f : Frame} {fine : Fin 8}

theorem State.frameContent_idle (ht : f.type = 0) : s.frameContent n f fine = s := by simp [State.frameContent, ht]

theorem State.frameContent_ack (ht : f.type = 3) : s.frameContent n f fine = s := by simp [State.frameContent, ht]

theorem State.frameContent_sync (ht : f.type = 5) (hok : syncPayloadOk f.payload = true) :
    s.frameContent n f fine = s.syncResp n f.payload fine := by
  simp [State.frameContent, ht, hok]

theorem State.frameContent_angle (ht : f.type = 6) :
    s.frameContent n f fine = s.withRevolution (fun s => s.eachRecord n f (fun s b => s.angleRecord n b)) := by
  simp [State.frameContent, ht]

theorem State.frameContent_verify (ht : f.type = 7) : s.frameContent n f fine = s.eachRecord n f (fun s b => s.verifyRecord n b) := by
  simp [State.frameContent, ht]

/-- A SENSE record, posted with the time it arrived, or found bad (R147, Table 05-14). -/
def State.senseRecord (s : State) (n : Nat) (b : List Byte) : Bool × State :=
  if senseOk b then (true, s.postSense n { since := s.dt, bytes := senseMsg 1 n b (b.drop 8) (leBytes 8 s.dt.toNat) }) else (false, s)

theorem State.frameContent_sense (ht : f.type = 8) : s.frameContent n f fine = s.eachRecord n f (fun s b => s.senseRecord n b) := by
  simp [State.frameContent, ht, State.senseRecord]

/-- A STATUS message (R147): a fault that the partner names is recorded, and the message posted. -/
def State.statusTaken (s : State) (n : Nat) (f : Frame) : State :=
  let v := if leAt f.payload 0 1 / 2 % 16 ≠ 0 then s.raise (Flt.FC_PARTNER n) else s
  v.postSense n { since := v.dt, bytes := senseMsg 2 n f.payload (f.payload.drop 8) (f.payload.drop 16) }

theorem State.frameContent_status (ht : f.type = 9) (hbits : leAt f.payload 0 1 < 32) (hrsv : leAt f.payload 1 1 = 0) :
    s.frameContent n f fine = s.statusTaken n f := by
  simp [State.frameContent, ht, hbits, hrsv, State.statusTaken]

end Content

/-! ### A partner's HELLO (R133, Table 05-6 step 5) -/

section Hello
variable {s : State} {n : Nat} {f : Frame}

/-- The partner of a HELLO is kept, with its class and what it says it has received. -/
def State.keepPartner (s : State) (n : Nat) (f : Frame) : State :=
  let p := partnerOf f.payload
  (s.setChan n { s.chan n with
    partner := some p, accepted := some (p.vendor, p.product, p.serial), helloOk := true, lastSync := none, syncGood := 0,
    delays := [], prevAck := BitVec.ofNat 16 (leAt f.payload 4 2), prevValid := leAt f.payload 6 1 % 2 == 1 }).setFld
      (FC_STAT.TCLASS n) p.tclass

@[simp] theorem State.fcState_setTclass (s : State) (n v : Nat) : (s.setFld (FC_STAT.TCLASS n) v).fcState n = s.fcState n :=
  s.fld_setFld_other v (by simp [Fld.key, FC_STAT.STATE, FC_STAT.TCLASS])

theorem State.takeHello_first (hst : s.fcState n = 2) (hok : s.helloRefusal n f = 0) (hfirst : (s.chan n).firstUp = false) :
    s.takeHello n f false = s.keepPartner n f := by
  simp [State.takeHello, State.keepPartner, hst, hok, hfirst]

theorem State.rxOfType_hello {m : Fin 96} (ht : f.type = 1) (hst : s.fcState m = 2) (hgood : frameGood f = true)
    (hhello : (s.chan m).inHello = true) (hok : (s.chan m).helloOk = false) : s.rxOfType m f 0 1 = s.takeHello m f false := by
  simp [State.rxOfType, State.rxFrame, ht, hst, hgood, hhello, hok]

end Hello

/-! ### Damage and violations (R121, R124, R136, R150) -/

section Damage
variable {s : State} {n : Nat} {f : Frame} {k : BadFrame}

theorem State.rxBad_crc (hst : s.fcState n = 3) : s.rxBad n .crc = (s.raise (Flt.FC_LINKERR n)).wantNak n := by
  simp [State.rxBad, hst]

theorem State.rxBad_abort (hst : s.fcState n = 3) : s.rxBad n .abort = s.raise (Flt.FC_LINKERR n) := by
  simp [State.rxBad, hst]

/-- A channel that is DOWN receives nothing (R136). -/
theorem State.rxBad_down (hst : s.fcState n = 6) : s.rxBad n k = s := by
  simp [State.rxBad, hst]

theorem State.rxFrame_violation {overrun : Bool} (hst : s.fcState n = 3) (hread : overrun = true ∨ frameGood f = true)
    (hbad : s.frameFault n f overrun ≠ 0) :
    s.rxFrame n f 0 overrun = s.violation n (s.frameFault n f overrun) (some f) 0xFFFF := by
  have hlink : (overrun || frameGood f) = true := by simpa using hread
  simp [State.rxFrame, State.linkUp, hst, hlink, hbad]

end Damage

/-- Settles O28: a valid frame is one the channel has heard and then the content of its type, in its turn; the other clauses are the cases
of a HELLO, of damage and of a violation. -/
theorem framesAndHelloReceived : Obligations.FramesAndHelloReceived := by
  refine ⟨fun s n f hp hst hgood hvalid => ⟨fun ht => ?idle, fun ht => ?ack, fun ht => ?nak, fun ht hok fine => ?sync, fun ht => ?angle,
      fun ht => ?verify, fun ht => ?sense, fun ht hbits hrsv => ?status⟩,
    fun s n f hp => ⟨fun ht hst hgood hhello hok haccept hfirst => ?hello, fun hst => ⟨?crc, ?abort⟩, fun k hst => ?down,
      fun overrun hst hread hbad => ?violation, (exec_fcViolClr ..).trans (run_powered hp _)⟩⟩
  case idle =>
    exact (exec_fcRxIdle ..).trans
      (run_eq hp ((State.rxOfType_unsequenced hst hgood hvalid ht (by decide)).trans (State.frameContent_idle ht)))
  case ack =>
    exact (exec_fcRxAck ..).trans
      (run_eq hp ((State.rxOfType_unsequenced hst hgood hvalid ht (by decide)).trans (State.frameContent_ack ht)))
  case nak => exact (exec_fcRxNak ..).trans (run_eq hp (State.rxOfType_nak hst hgood hvalid ht rfl))
  case sync =>
    exact (exec_fcRxSync ..).trans
      (run_eq hp ((State.rxOfType_unsequenced hst hgood hvalid ht (by decide)).trans (State.frameContent_sync ht hok)))
  case angle =>
    exact (exec_fcRxAngle ..).trans
      (run_eq hp ((State.rxOfType_unsequenced hst hgood hvalid ht (by decide)).trans (State.frameContent_angle ht)))
  case verify =>
    exact (exec_fcRxVerify ..).trans (run_eq hp ((State.rxOfType_sequenced hst hgood hvalid ht (by decide)).trans
      (congrArg (State.inOrder _ _ _) (State.frameContent_verify ht))))
  case sense =>
    exact (exec_fcRxSense ..).trans (run_eq hp ((State.rxOfType_sequenced hst hgood hvalid ht (by decide)).trans
      (congrArg (State.inOrder _ _ _) (State.frameContent_sense ht))))
  case status =>
    exact (exec_fcRxStatus ..).trans (run_eq hp ((State.rxOfType_sequenced hst hgood hvalid ht (by decide)).trans
      (congrArg (State.inOrder _ _ _) (State.frameContent_status ht hbits hrsv))))
  case hello =>
    exact (exec_fcRxHello ..).trans
      (run_eq hp ((State.rxOfType_hello ht hst hgood hhello hok).trans (State.takeHello_first hst haccept hfirst)))
  case crc => exact (exec_fcRxBadFrame ..).trans (run_eq hp (State.rxBad_crc hst))
  case abort => exact (exec_fcRxBadFrame ..).trans (run_eq hp (State.rxBad_abort hst))
  case down => exact (exec_fcRxBadFrame ..).trans (run_eq hp (State.rxBad_down hst))
  case violation => exact (exec_fcRxViolation ..).trans (run_eq hp (State.rxFrame_violation hst hread hbad))

end Sys2Proof.Machine
end

section
/-!
PROOFS. What a field channel sends (chapter 5): the transmitter's priorities, the go-back-N resend, and their obligation.
-/

namespace Sys2Proof.Machine

/-! ### The transmitter's priorities (R124, R125, R129, R148, R152) -/

section Transmit
variable {s : State} {n : Nat} {fine : Fin 8}

/-- A frame in progress is ended before anything else is sent. -/
theorem State.fcTransmit_ends (hopen : (s.chan n).txOpen = true) :
    s.fcTransmit n fine = (s.setChan n { s.chan n with txOpen := false }).fcPoint n := by
  simp [State.fcTransmit, State.endFrame, hopen]

section Closed
variable (hopen : (s.chan n).txOpen = false)
include hopen

theorem State.fcTransmit_safe {k : Nat} (hsafe : s.safeDue n = some k) : s.fcTransmit n fine = s.sendSafe n k := by
  simp [State.fcTransmit, hopen, hsafe]

variable (hsafe : s.safeDue n = none)
include hsafe

/-- A channel that exchanges no frames, or is DOWN, sends nothing but SAFE frames. -/
theorem State.fcTransmit_silent (h : s.fcSends n = false ∨ s.fcState n = 6) : s.fcTransmit n fine = s := by
  rcases h with h | h <;> simp [State.fcTransmit, hopen, hsafe, h]

section Sending
variable (hsends : s.fcSends n = true)
include hsends

theorem State.fcTransmit_reject {r : Reject} {rest : List Reject} (hdown : s.fcState n ≠ 6) (hrej : (s.chan n).rejects = r :: rest) :
    s.fcTransmit n fine = (s.setChan n { s.chan n with rejects := rest }).sendFrame n 10 r.bytes := by
  simp [State.fcTransmit, State.sendReject, hopen, hsafe, hsends, hdown, hrej]

variable (hrej : (s.chan n).rejects = [])
include hrej

theorem State.fcTransmit_sync (hdown : s.fcState n ≠ 6) (hsync : s.syncDue n = true) : s.fcTransmit n fine = s.sendSync n fine := by
  simp [State.fcTransmit, hopen, hsafe, hsends, hdown, hrej, hsync]

variable (hsync : s.syncDue n = false)
include hsync

theorem State.fcTransmit_linkup (hdown : s.fcState n ≠ 6) (hst : s.fcState n ≠ 3) : s.fcTransmit n fine = s.keepAlive n := by
  simp [State.fcTransmit, hopen, hsafe, hsends, hdown, hrej, hsync, hst]

section Up
variable (hst : s.fcState n = 3)
include hst

theorem State.fcTransmit_resend {q : BitVec 16} {rest : List (BitVec 16)} (hre : (s.chan n).resend = q :: rest) :
    s.fcTransmit n fine = s.sendResend n q rest fine := by
  simp [State.fcTransmit, hopen, hsafe, hsends, hrej, hsync, hst, hre]

variable (hre : (s.chan n).resend = [])
include hre

/-- A frame of the previous epoch waits until fewer than 32 frames are unacknowledged (R134). -/
theorem State.fcTransmit_carry {e : TxFrame} {rest : List TxFrame} (hcarry : (s.chan n).carry = e :: rest)
    (hroom : (s.chan n).unacked.length < 32) : s.fcTransmit n fine = s.sendCarry n e rest fine := by
  simp [State.fcTransmit, hopen, hsafe, hsends, hrej, hsync, hst, hre, hcarry, hroom]

variable (hcarry : (s.chan n).carry = [])
include hcarry

theorem State.fcTransmit_nak (hnak : s.nakWaits n = true) :
    s.fcTransmit n fine = (s.setChan n { s.chan n with nakDue := false, lastNak := some s.dt }).sendFrame n 4 [] := by
  simp [State.fcTransmit, hopen, hsafe, hsends, hrej, hsync, hst, hre, hcarry, hnak]

variable (hnak : s.nakWaits n = false)
include hnak

theorem State.fcTransmit_ack (hack : (s.chan n).ackDue = true) : s.fcTransmit n fine = s.sendFrame n 3 [] := by
  simp [State.fcTransmit, hopen, hsafe, hsends, hrej, hsync, hst, hre, hcarry, hnak, hack]

theorem State.fcTransmit_idle (hack : (s.chan n).ackDue = false) : s.fcTransmit n fine = s.keepAlive n := by
  simp [State.fcTransmit, hopen, hsafe, hsends, hrej, hsync, hst, hre, hcarry, hnak, hack]

end Up
end Sending
end Closed
end Transmit

/-! ### The go-back-N resend (R125, R128) -/

section Resend
variable {s : State} {n : Nat} {e : TxFrame} {rest : List TxFrame}

/-- The frames from the oldest on, within the window of a resend, are all that are unacknowledged. -/
theorem TxFrame.filter_window (h : ∀ x ∈ rest, (x.seq - e.seq).toNat < 32) :
    (e :: rest).filter (fun x => decide ((x.seq - e.seq).toNat < 32)) = e :: rest :=
  List.filter_eq_self.mpr (List.forall_mem_cons.mpr ⟨by simp, fun x hx => decide_eq_true (h x hx)⟩)

section Oldest
variable (hun : (s.chan n).unacked = e :: rest) (hre : (s.chan n).resend = [])
include hun hre

/-- A frame that has been resent seven times has failed (R128). -/
theorem State.startResend_exhausted (he : 7 ≤ e.resends) : s.startResend n e.seq = s.startEpisode n false := by
  simp [State.startResend, hun, hre, he]

theorem State.startResend_oldest (he : e.resends < 7) (hwin : ∀ x ∈ rest, (x.seq - e.seq).toNat < 32) :
    s.startResend n e.seq = s.setChan n { s.chan n with resendAt := e.seq, resend := (e :: rest).map (·.seq) } := by
  have hfew : ¬ 7 ≤ e.resends := not_le.mpr he
  simp only [State.startResend, hun, hre, hfew, List.find?_cons_of_pos, beq_self_eq_true, TxFrame.filter_window hwin, ne_eq,
    not_true_eq_false, false_and, if_false]

end Oldest

/-- A frame of a resend that is in progress starts none (assumption 118). -/
theorem State.startResend_inProgress {q : BitVec 16} (hre : (s.chan n).resend ≠ []) (hwin : (q - (s.chan n).resendAt).toNat < 32) :
    s.startResend n q = s := by
  simp only [State.startResend]
  split
  · rfl
  · exact if_pos ⟨hre, hwin⟩

end Resend

/-- Settles O29: the transmitter in the case of each clause, and the three outcomes of a request to resend. -/
theorem transmitOrderAndResend : Obligations.TransmitOrderAndResend := by
  refine ⟨fun s n fine hp => ?transmitter, fun s n => ⟨fun e rest hun hre => ⟨State.startResend_exhausted hun hre,
    State.startResend_oldest hun hre⟩, fun q => State.startResend_inProgress⟩⟩
  have sends {u : State} (h : s.fcTransmit n fine = u) : exec (.fcTxFrame n fine) s = .next (settle s u) :=
    (exec_fcTxFrame ..).trans (run_eq hp h)
  refine ⟨fun hopen => ?ends, fun k hopen hsafe => ?safe, fun hopen hsafe h => ?silent, fun hopen hsafe hsends hdown =>
    ⟨fun r rest hrej => ?reject, fun hrej hsync => ?sync, fun hrej hsync hst => ?linkup, fun hrej hsync hst =>
      ⟨fun q rest hre => ?resend, fun hre e rest hcarry hroom => ?carry, fun hre hcarry =>
        ⟨fun hnak => ?nak, fun hnak hack => ?ack, fun hnak hack => ?idle⟩⟩⟩⟩
  case ends => exact sends (State.fcTransmit_ends hopen)
  case safe => exact sends (State.fcTransmit_safe hopen hsafe)
  case silent => exact sends (State.fcTransmit_silent hopen hsafe h)
  case reject => exact sends (State.fcTransmit_reject hopen hsafe hsends hdown hrej)
  case sync => exact sends (State.fcTransmit_sync hopen hsafe hsends hrej hdown hsync)
  case linkup => exact sends (State.fcTransmit_linkup hopen hsafe hsends hrej hsync hdown hst)
  case resend => exact sends (State.fcTransmit_resend hopen hsafe hsends hrej hsync hst hre)
  case carry => exact sends (State.fcTransmit_carry hopen hsafe hsends hrej hsync hst hre hcarry hroom)
  case nak => exact sends (State.fcTransmit_nak hopen hsafe hsends hrej hsync hst hre hcarry hnak)
  case ack => exact sends (State.fcTransmit_ack hopen hsafe hsends hrej hsync hst hre hcarry hnak hack)
  case idle => exact sends (State.fcTransmit_idle hopen hsafe hsends hrej hsync hst hre hcarry hnak hack)

end Sys2Proof.Machine
end

section
/-!
PROOFS. The timers of a field channel (chapter 5): resend, keep-alive, silence, SYNC, sense messages and SAFE frames, and their obligation.
-/

namespace Sys2Proof.Machine

section Timers
variable {s : State} {n : Nat}

/-! ### Resend, keep-alive and silence (R125, R129, R130) -/

theorem State.resendTimeout_due {e : TxFrame} {rest : List TxFrame} (hun : (s.chan n).unacked = e :: rest) (hst : s.fcState n = 3)
    (hdue : elapsed s.dt e.sentAt (usTicks (s.fld (FC_CTL.RESEND_TMO n))) = true) : s.resendTimeout n = s.startResend n e.seq := by
  simp [State.resendTimeout, hun, hst, hdue]

/-- Nothing waits that goes before a keep-alive: outside UP only an urgent frame could. -/
theorem State.keepAlive_due (hsends : s.fcSends n = true) (hdown : s.fcState n ≠ 6) (hstop : s.fcState n ≠ 7)
    (hdue : elapsed s.dt (s.chan n).lastTx (usTicks 4) = true) (hopen : (s.chan n).txOpen = false) (hurgent : s.urgentWaits n = false)
    (hup : s.fcState n = 3 →
      (s.chan n).resend = [] ∧ (s.chan n).carry = [] ∧ s.nakWaits n = false ∧ (s.chan n).ackDue = false) :
    s.keepAlive n = s.sendFrame n 0 [] := by
  by_cases hst : s.fcState n = 3
  · obtain ⟨hre, hcarry, hnak, hack⟩ := hup hst
    simp [State.keepAlive, hsends, hst, hdue, hopen, hurgent, hre, hcarry, hnak, hack]
  · simp [State.keepAlive, hsends, hdown, hstop, hdue, hopen, hurgent, hst]

theorem State.silence_due (hst : s.fcState n = 3)
    (hdue : elapsed s.dt (s.chan n).lastRx (usTicks 40 * ((s.chan n).silences + 1)) = true) :
    s.silence n = (s.setChan n { s.chan n with silences := (s.chan n).silences + 1 }).violation n 6 none 0xFFFF :=
  if_pos ⟨hst, hdue⟩

/-! ### SYNC (R129, R138, R139, Table 05-9) -/

section Sync
variable {fine : Fin 8}

/-- The payload of the next SYNC REQ (Table 05-9): its count, the time it leaves with its fine ticks, and what the partner is told of the
exchanges before it. -/
def State.syncBody (s : State) (n : Nat) (fine : Fin 8) : List Byte :=
  leBytes 2 0x11 ++ zeros 2 ++ leBytes 4 ((s.chan n).syncSeq + 1).toNat ++ leBytes 8 s.dt.toNat ++ zeros 16 ++ leBytes 2 fine.val ++
    zeros 2 ++ leBytes 4 (((s.chan n).ofsCorr.getD 0) % 2 ^ 32).toNat ++ leBytes 4 ((delayOf (s.chan n).delays) % 2 ^ 32).toNat ++ zeros 4

@[simp] theorem length_zeros (k : Nat) : (zeros k).length = k := List.length_replicate ..

theorem State.length_syncBody : (s.syncBody n fine).length = 48 := by simp [State.syncBody]

theorem State.leAt_syncBody_count : leAt (s.syncBody n fine) 4 4 = ((s.chan n).syncSeq + 1).toNat := by
  simp only [State.syncBody, List.append_assoc]
  rw [← List.append_assoc, leAt_middle (by simp) (length_leBytes ..), leNat_leBytes]
  exact Nat.mod_eq_of_lt (BitVec.isLt _)

theorem State.leAt_syncBody_time : leAt (s.syncBody n fine) 8 8 = s.dt.toNat := by
  simp only [State.syncBody, List.append_assoc]
  rw [← List.append_assoc, ← List.append_assoc, leAt_middle (by simp) (length_leBytes ..), leNat_leBytes]
  exact Nat.mod_eq_of_lt (BitVec.isLt _)

theorem State.leAt_syncBody_fine : leAt (s.syncBody n fine) 32 2 = fine.val := by
  simp only [State.syncBody, List.append_assoc]
  iterate 4 rw [← List.append_assoc]
  rw [leAt_middle (by simp) (length_leBytes ..), leNat_leBytes]
  exact Nat.mod_eq_of_lt (by omega)

/-- A SYNC REQ leaves, and its exchange is in flight (R138). -/
theorem State.sendSync_eq (s : State) (n : Nat) (fine : Fin 8) :
    s.sendSync n fine = (s.setChan n { s.chan n with
      syncSeq := (s.chan n).syncSeq + 1, syncOpen := (s.chan n).syncOpen ++ [((s.chan n).syncSeq + 1, plc s.dt fine.val)],
      lastSync := some s.dt, ofsCorr := none }).sendFrame n 5 (s.syncBody n fine) := rfl

theorem State.syncReq_due (hdue : s.syncDue n = true) (hopen : (s.chan n).txOpen = false) (hsafe : s.safeDue n = none)
    (hrej : (s.chan n).rejects = []) : s.syncReq n fine = s.sendSync n fine :=
  if_pos (by simp [hdue, hopen, hsafe, hrej])

theorem State.syncDue_up (hst : s.fcState n = 3) (hfine : s.bit TIME_STAT.FINE_LOCK = true)
    (hper : ∀ t, (s.chan n).lastSync = some t → elapsed s.dt t (s.syncPer n) = true) : s.syncDue n = true := by
  cases hlast : (s.chan n).lastSync with
  | none => simp [State.syncDue, hst, hfine, hlast]
  | some t => simp [State.syncDue, hst, hfine, hlast, hper t hlast]

theorem State.syncMissed_due {q : Word32} {t : Plc} {rest : List (Word32 × Plc)} (hfly : (s.chan n).syncOpen = (q, t) :: rest)
    (hdue : 480000 ≤ plcDiff (plc s.dt 0) t) : s.syncMissed n = (s.setChan n { s.chan n with syncOpen := rest }).syncBad n := by
  simp [State.syncMissed, hfly, hdue]

end Sync

/-! ### Sense messages and SAFE frames (R136, R147, R148) -/

theorem State.senseRetry_single {m : SenseMsg} (h : (s.chan n).senseQ = [m]) :
    s.senseRetry n = (s.setChan n { s.chan n with senseQ := [] }).postSense n m := by
  simp [State.senseRetry, h]

theorem State.safeTimer_due {k : Nat} (hsafe : s.safeDue n = some k) (hopen : (s.chan n).txOpen = false) :
    s.safeTimer n = s.sendSafe n k := by
  simp [State.safeTimer, hsafe, hopen]

theorem State.safeDue_cause {k : Nat} (hcause : s.safeCauseOf n = some k)
    (hper : ∀ t, (s.chan n).lastSafe = some t → elapsed s.dt t (usTicks 2) = true) (hgroup : s.groupLocked n = true)
    (hoff : s.fcState n ≠ 0) (hstop : s.fcState n ≠ 7) : s.safeDue n = some k := by
  cases hlast : (s.chan n).lastSafe with
  | none => simp [State.safeDue, hcause, hlast, hgroup, hoff, hstop]
  | some t => simp [State.safeDue, hcause, hlast, hper t hlast, hgroup, hoff, hstop]

end Timers

/-- Settles O30: each timer that is due does what its clause says; a SYNC REQ carries its count and the time it leaves. -/
theorem channelTimers : Obligations.ChannelTimers := by
  intro s n hp
  refine ⟨fun e rest hun hst hdue => ?resend, fun hsends hdown hstop hdue hopen hurgent hup => ?keepAlive, fun hst hdue => ?silence,
    fun fine hdue hopen hsafe hrej => ?sync, State.syncDue_up, fun q t rest hfly hdue => ?missed, fun m h => ?sense,
    fun k hsafe hopen => ?safe, fun k => State.safeDue_cause⟩
  case resend => exact (exec_resendTimeout ..).trans (run_eq hp (State.resendTimeout_due hun hst hdue))
  case keepAlive =>
    exact (exec_idleKeepalive ..).trans (run_eq hp (State.keepAlive_due hsends hdown hstop hdue hopen hurgent hup))
  case silence => exact (exec_silence ..).trans (run_eq hp (State.silence_due hst hdue))
  case sync =>
    exact ⟨s.syncBody n.val fine, State.length_syncBody, State.leAt_syncBody_count, State.leAt_syncBody_time, State.leAt_syncBody_fine,
      (exec_syncPeriod ..).trans (run_eq hp ((State.syncReq_due hdue hopen hsafe hrej).trans (State.sendSync_eq ..)))⟩
  case missed => exact (exec_syncRespMissed ..).trans (run_eq hp (State.syncMissed_due hfly hdue))
  case sense => exact (exec_sensePostRetry ..).trans (run_eq hp (State.senseRetry_single h))
  case safe => exact (exec_safeFrameTimer ..).trans (run_eq hp (State.safeTimer_due hsafe hopen))

end Sys2Proof.Machine
end

section
/-!
PROOFS. The forms of a strider's instructions (chapter 7): what a legal form is, and how an issued instruction of legal form comes to what
its effect gives.
-/

namespace Sys2Proof.Machine

/-! ### Legal forms (Table 07-4, R187, R188, R198) -/

/-- An instruction of `len` bytes with prefixes `p` is legal: none of its checks, `bad`, fails, `n` bytes follow the prefixes, and it is not
longer than 15 bytes. -/
def LegalForm (p : Pfx) (len : Nat) (bad : Bool) (n : Nat) : Prop := bad = false ∧ len = prefixLen p + n ∧ len ≤ 15

/-- One more check that holds. -/
theorem LegalForm.and {p : Pfx} {len n : Nat} {bad c : Bool} (h : LegalForm p len bad n) (hc : c = false) : LegalForm p len (bad || c) n := by
  obtain ⟨hbad, hlen⟩ := h
  exact ⟨by simp [hbad, hc], hlen⟩

theorem prefixLen_bare {p : Pfx} (hp : p.bare) : prefixLen p = 0 := by
  obtain ⟨hrep, hnt, hwide⟩ := hp
  simp [prefixLen, hrep, hnt, hwide]

theorem prefixLen_plain_le {p : Pfx} (hp : p.plain) : prefixLen p ≤ 1 := by
  obtain ⟨hnt, hwide⟩ := hp
  simp only [prefixLen, hnt, hwide]
  split <;> simp

theorem badPfx_bare {p : Pfx} (hp : p.bare) (rep nt wide : Bool) : badPfx p rep nt wide = false := by
  obtain ⟨hrep, hnt, hwide⟩ := hp
  simp [badPfx, hrep, hnt, hwide]

/-- An instruction without prefixes that takes none. -/
theorem legal_bare {p : Pfx} (hp : p.bare) {n : Nat} (hn : n ≤ 15 := by decide) : LegalForm p n (badPfx p false false false) n :=
  ⟨badPfx_bare hp .., by rw [prefixLen_bare hp, Nat.zero_add], hn⟩

/-- An instruction that takes a REP, and has no other before it. -/
theorem legal_plain {p : Pfx} (hp : p.plain) {n : Nat} (hn : n ≤ 14 := by decide) :
    LegalForm p (prefixLen p + n) (badPfx p true false false) n := by
  obtain ⟨hnt, hwide⟩ := id hp
  exact ⟨by simp [badPfx, hnt, hwide], rfl, by have := prefixLen_plain_le hp; omega⟩

/-! ### Issued instructions (R194, R197, R200) -/

/-- One whose effect ends the task leaves the state that the end gives (R212). -/
theorem State.outcome_over (s u : State) (w : StrId) (rep : Bool) (next : Word) : s.outcome w rep next (.over_ u) = u := rfl

theorem State.outcome_trapNext (s u : State) (w : StrId) (rep : Bool) (next : Word) (c : Nat) (v : Word) :
    s.outcome w rep next (.trapNext c v u) = u.takeTrap w c v next false := rfl

theorem State.outcome_goto (s u : State) (w : StrId) (rep : Bool) (next pc : Word) :
    s.outcome w rep next (.goto_ pc u) = (u.setStr w { u.str w with pc := pc }).haltPoint w := rfl

section Issued
variable {s u : State} {w : StrId} {p : Pfx} {len n : Nat} {bad : Bool} {body : State → Res}

theorem State.issues.powered (h : s.issues w p) : s.powered = true := by
  obtain ⟨hp, -⟩ := h
  exact hp

theorem State.issues.running (h : s.issues w p) : (s.str w).run = .running := by
  obtain ⟨-, hx, -⟩ := h
  simp only [State.executes, Bool.and_eq_true, beq_iff_eq] at hx
  obtain ⟨⟨hrun, -⟩, -⟩ := hx
  exact hrun

/-- With no error found, a microcoded instruction makes its effect (R251). -/
theorem State.issues.micro (h : s.issues w p) (k : State → Res) : s.micro w p k = k s := by
  obtain ⟨-, -, -, -, he, -⟩ := h
  simp only [State.micro, he]

variable (h : s.issues w p) (hl : LegalForm p len bad n)
include h hl

/-- An issued instruction of legal form makes one execution of its effect. -/
theorem State.instr_legal {r : Res} (hbody : body s = r) : s.instr w p len bad body =
    s.outcome w p.rep ((s.str w).pc + BitVec.ofNat 64 (prefixLen p + n)) r := by
  obtain ⟨hbad, hlen, hmax⟩ := hl
  rw [hbad, State.instr_issued body h hmax, hbody, hlen]

theorem run_issued {r : Res} (hbody : body s = r) : run s (fun s => s.instr w p len bad body) =
    .next (settle s (s.outcome w p.rep ((s.str w).pc + BitVec.ofNat 64 (prefixLen p + n)) r)) :=
  run_eq h.powered (State.instr_legal h hl hbody)

theorem run_retires (hbody : body s = .next u) :
    run s (fun s => s.instr w p len bad body) = .next (settle s (s.retire w p n u)) := by
  rw [run_issued h hl hbody, State.outcome_next]

theorem run_jumps {pc : Word} (hbody : body s = .jump pc u) :
    run s (fun s => s.instr w p len bad body) = .next (settle s (s.jumpTo w pc u)) := by
  rw [run_issued h hl hbody, State.outcome_jump]

theorem run_traps {c : Nat} {v : Word} {i : Bool} (hbody : body s = .trap c v i u) :
    run s (fun s => s.instr w p len bad body) = .next (settle s (u.takeTrap w c v (s.str w).pc i)) := by
  rw [run_issued h hl hbody, State.outcome_trap]

theorem run_waits {k : Wait} (hbody : body s = .wait k u) : run s (fun s => s.instr w p len bad body) =
    .next (settle s (s.retire w p n (u.setStr w { u.str w with run := .waiting k }))) := by
  rw [run_issued h hl hbody, State.outcome_wait]

theorem run_ends (hbody : body s = .over_ u) : run s (fun s => s.instr w p len bad body) = .next (settle s u) := by
  rw [run_issued h hl hbody, State.outcome_over]

/-- A trap of an instruction without prefixes whose TPC is the next one (Table 07-13). -/
theorem run_trapsNext (hp : p.bare) {c : Nat} {v : Word} (hbody : body s = .trapNext c v u) : run s (fun s => s.instr w p len bad body) =
    .next (settle s (u.takeTrap w c v ((s.str w).pc + BitVec.ofNat 64 n) false)) := by
  rw [run_issued h hl hbody, prefixLen_bare hp, Nat.zero_add, State.outcome_trapNext]

/-- A return goes on at its address without the loop comparison (R194). -/
theorem run_returns {pc : Word} (hbody : body s = .goto_ pc u) : run s (fun s => s.instr w p len bad body) =
    .next (settle s ((u.setStr w { u.str w with pc := pc }).haltPoint w)) := by
  rw [run_issued h hl hbody, State.outcome_goto]

end Issued

/-! ### Instructions whose fetch is made (R187, R197, R201) -/

section Fetched
variable {s : State} {w : StrId} {p : Pfx} {len : Nat} {bad : Bool} (body : State → Res) (hx : s.executes w = true)
  (ht : s.timeUp w = false) (he : p.err = .none)
include hx ht he

/-- Once its bytes are fetched, an instruction is checked for its form, and then for its repeat count. -/
theorem State.instr_fetched (hf : s.fetchCheck w (min len 15) = .ok) : s.instr w p len bad body =
    if bad || decide (15 < len) then s.takeTrap w Cause.illegal p.raw (s.str w).pc false
    else if p.rep && (s.str w).rc = 0 then s.complete w (!pswH (s.str w).psw) ((s.str w).pc + BitVec.ofNat 64 len)
    else s.outcome w p.rep ((s.str w).pc + BitVec.ofNat 64 len) (body s) := by
  simp only [State.instr, hx, ht, he, State.pipeline_none, State.fetch_ok hf, Bool.not_true, Bool.false_eq_true, if_false]

/-- With a repeat count of 0 nothing is executed, and the PC goes on (R197). -/
theorem State.instr_skipped (hf : s.fetchCheck w (min len 15) = .ok) (hbad : bad = false) (hlen : len ≤ 15) (hrep : p.rep = true)
    (hrc : (s.str w).rc = 0) : s.instr w p len bad body = s.jumpTo w ((s.str w).pc + BitVec.ofNat 64 len) s := by
  have hform : ¬(bad || decide (15 < len)) = true := by simp [hbad, hlen]
  rw [State.instr_fetched body hx ht he hf, if_neg hform, if_pos (by simp [hrep, hrc]), State.jumpTo]

theorem State.instr_fetchTrapped {c v : Nat} (hf : s.fetchCheck w (min len 15) = .trap c v) :
    s.instr w p len bad body = s.takeTrap w c (BitVec.ofNat 64 v) (s.str w).pc false := by
  have hfetch : s.fetch w (min len 15) = (.trap c v, s) := by simp only [State.fetch, hf]
  simp only [State.instr, hx, ht, he, State.pipeline_none, hfetch, Bool.not_true, Bool.false_eq_true, if_false]

/-- An instruction of illegal form traps with its first bytes in TVAL, whatever its repeat count (R187, R188). -/
theorem run_illegal (hp : s.powered = true) (hf : ∀ n ≤ 15, s.fetchCheck w n = .ok) (hbad : bad = true ∨ 15 < len) :
    run s (fun s => s.instr w p len bad body) = .next (settle s (s.takeTrap w Cause.illegal p.raw (s.str w).pc false)) := by
  have hcheck : (bad || decide (15 < len)) = true := by simpa using hbad
  refine run_eq hp ((State.instr_fetched body hx ht he (hf _ (Nat.min_le_right ..))).trans (if_pos hcheck))

end Fetched

end Sys2Proof.Machine
end

section
/-!
PROOFS. Jumps and hardware loops (Table 07-7, R189, R193, R195) and their obligation.
-/

namespace Sys2Proof.Machine

/-! ### Hardware loops (R193, R195) -/

section Loops
variable {s : State} {w : StrId} {len : Nat} {count : Word} {span : BitVec 16} (hld : pswLd (s.str w).psw < 4)
include hld

theorem State.pushLoop_empty (hc : count = 0) :
    s.pushLoop w len count span = .jump ((s.str w).pc + BitVec.ofNat 64 len + span.setWidth 64) s := by
  simp only [State.pushLoop, if_neg (not_le.mpr hld), if_pos hc]

theorem State.pushLoop_pushes (hc : count ≠ 0) : s.pushLoop w len count span =
    .next (s.setStr w { s.str w with
      ls := Tab.set (fun _ => 0) (s.str w).ls (pswLd (s.str w).psw) ((s.str w).pc + BitVec.ofNat 64 len)
      le := Tab.set (fun _ => 0) (s.str w).le (pswLd (s.str w).psw) ((s.str w).pc + BitVec.ofNat 64 len + span.setWidth 64)
      lc := Tab.set (fun _ => 0) (s.str w).lc (pswLd (s.str w).psw) count
      psw := pswSetLd (s.str w).psw (pswLd (s.str w).psw + 1) }) := by
  simp only [State.pushLoop, if_neg (not_le.mpr hld), if_neg hc]

end Loops

/-- Settles O7: each clause is a legal form whose effect is a jump or a next state. -/
theorem controlFlow : Obligations.ControlFlow := by
  intro s w p h hp t ld
  refine ⟨(exec_nop ..).trans (run_retires h (legal_bare hp) rfl), fun d => ⟨(exec_j ..).trans (run_jumps h (legal_bare hp) rfl),
      (exec_call ..).trans (run_jumps h (legal_bare hp) rfl)⟩, fun f hx => ⟨?jr, ?callr⟩, (exec_ret ..).trans (run_jumps h (legal_bare hp) rfl),
    fun f hz hc => ?br, fun f hz hlen hld => ?loop, fun f hlen hld => ?loopi, fun hld => ?lpop⟩
  case jr => exact (exec_jr ..).trans (run_jumps h ((legal_bare hp).and (bne_eq_false_iff_eq.mpr hx)) rfl)
  case callr => exact (exec_callr ..).trans (run_jumps h ((legal_bare hp).and (bne_eq_false_iff_eq.mpr hx)) rfl)
  case br =>
    have hl := (legal_bare hp (n := 6)).and (bne_eq_false_iff_eq.mpr hz) |>.and (beq_eq_false_iff_ne.mpr hc)
    by_cases hcond : condHolds t.psw f.cond.toNat = true
    · rw [if_pos hcond]
      exact (exec_br ..).trans (run_jumps h hl (if_pos hcond))
    · rw [if_neg hcond]
      exact (exec_br ..).trans (run_retires h hl (if_neg hcond))
  case loop =>
    have hl := (legal_bare hp (n := 4)).and (bne_eq_false_iff_eq.mpr hz) |>.and (beq_eq_false_iff_ne.mpr hlen)
    by_cases hcount : t.xr f.a = 0
    · rw [if_pos hcount]
      exact (exec_loop ..).trans (run_jumps h hl (State.pushLoop_empty hld hcount))
    · rw [if_neg hcount]
      exact (exec_loop ..).trans (run_retires h hl (State.pushLoop_pushes hld hcount))
  case loopi =>
    have hl := (legal_bare hp (n := 5)).and (beq_eq_false_iff_ne.mpr hlen)
    have hcount : f.count = 0 ↔ f.count.setWidth 64 = (0 : Word) := by bv_omega
    by_cases hzero : f.count = 0
    · rw [if_pos hzero]
      exact (exec_loopi ..).trans (run_jumps h hl (State.pushLoop_empty hld (hcount.mp hzero)))
    · rw [if_neg hzero]
      exact (exec_loopi ..).trans (run_retires h hl (State.pushLoop_pushes hld (mt hcount.mpr hzero)))
  case lpop => exact (exec_lpop ..).trans (run_retires h (legal_bare hp) (if_neg hld))

end Sys2Proof.Machine
end

section
/-!
PROOFS. Traps, returns and system registers (Tables 07-2 and 07-3, R200 to R204), and REP and the loop comparison (R194,
R197).
-/

namespace Sys2Proof.Machine

/-! ### System registers (R184, Table 07-2) -/

theorem sysReads_iff (h : Bool) (n : Nat) : (h || taskReads n) = true ↔ h = true ∨ ¬(8 ≤ n ∧ n ≤ 11) := by
  simp only [taskReads, Bool.or_eq_true, Bool.not_eq_true', decide_eq_false_iff_not]

theorem sysWrites_iff (h : Bool) (n : Nat) : sysWrites h n = true ↔
    n ≤ 3 ∨ (0x10 ≤ n ∧ n ≤ 0x1B) ∨ n = 0x24 ∨ (h = true ∧ (n = 4 ∨ n = 8 ∨ n = 9)) := by
  simp only [sysWrites, Bool.or_eq_true, Bool.and_eq_true, decide_eq_true_eq, beq_iff_eq, or_assoc]

/-- Settles O14: each clause is the read or write granted or refused as Table 07-2 has it. -/
theorem systemRegisters : Obligations.SystemRegisters := by
  intro s w p h hp t
  refine ⟨fun f hlisted => ?listed, fun f => ⟨fun hx => ?ticks, fun hx => ?fineTicks⟩⟩
  case listed =>
    intro n mayRead mayWrite denied
    have hl : LegalForm p 3 (badPfx p false false false || !sysListed f.n.toNat) 3 := (legal_bare hp).and (by simp [hlisted])
    have hread := sysReads_iff (pswH t.psw) n
    have hwrite := sysWrites_iff (pswH t.psw) n
    have hfcsr : f.n = 1 ↔ n = 1 := by rw [← BitVec.toNat_inj]; rfl
    refine ⟨fun hr => ?read, fun hr => ?readDenied, fun hw hrm => ?write, fun hn hrm => ?rounding, fun hw => ?writeDenied⟩
    case read => exact (exec_mfs ..).trans (run_retires h hl (if_pos (hread.mpr hr)))
    case readDenied => exact (exec_mfs ..).trans (run_traps h hl (if_neg (mt hread.mp hr)))
    case write =>
      exact (exec_mts ..).trans (run_retires h hl
        ((if_neg (by simpa using hwrite.mpr hw)).trans (if_neg fun ⟨hn, h5⟩ => hrm ⟨hfcsr.mp hn, h5⟩)))
    case rounding =>
      have hw : mayWrite := .inl (by omega)
      exact (exec_mts ..).trans (run_traps h hl ((if_neg (by simpa using hwrite.mpr hw)).trans (if_pos ⟨hfcsr.mpr hn, hrm⟩)))
    case writeDenied => exact (exec_mts ..).trans (run_traps h hl (if_pos (by simpa using mt hwrite.mp hw)))
  case ticks =>
    exact (exec_rdt ..).trans (run_retires h ((legal_bare hp).and (by simp [hx])) (by rw [if_pos hx]; rfl))
  case fineTicks =>
    exact (exec_rdt ..).trans (run_retires h ((legal_bare hp).and (by simp [hx])) (by rw [if_neg (by simp [hx])]; rfl))

/-! ### Bits of the status (Table 07-3) -/

theorem getLsbD_pswPut (p m v : Word32) {i : Nat} (hi : i < 32) :
    (pswPut p m v).getLsbD i = if m.getLsbD i then v.getLsbD i else p.getLsbD i := by
  simp only [pswPut, BitVec.getLsbD_or, BitVec.getLsbD_and, BitVec.getLsbD_not, hi, decide_true, Bool.true_and]
  cases m.getLsbD i <;> simp

theorem pswLd_eq_extract (p : Word32) : pswLd p = (p.extractLsb' 8 3).toNat := by
  simp [pswLd, BitVec.extractLsb'_toNat, Nat.shiftRight_eq_div_pow]

/-- The loop depth is three bits. -/
theorem pswLd_lt (p : Word32) : pswLd p < 8 := Nat.mod_lt _ (by decide)

/-- The loop depth depends on its three bits only. -/
theorem pswLd_congr {p q : Word32} (h : ∀ i < 3, p.getLsbD (8 + i) = q.getLsbD (8 + i)) : pswLd p = pswLd q := by
  rw [pswLd_eq_extract, pswLd_eq_extract]
  congr 1
  ext i hi
  simpa [hi] using h i hi

@[simp] theorem pswLd_pswSetLd (p : Word32) {n : Nat} (hn : n < 8) : pswLd (pswSetLd p n) = n := by
  have hmask : ∀ i < 3, (0x700 : Word32).getLsbD (8 + i) = true := by decide
  calc pswLd (pswSetLd p n) = pswLd (BitVec.ofNat 32 (n * 2 ^ 8)) :=
        pswLd_congr fun i hi => (getLsbD_pswPut _ _ _ (by omega)).trans (if_pos (hmask i hi))
    _ = n := by simp only [pswLd, BitVec.toNat_ofNat]; omega

/-- A write of the status changes the loop depth by itself, and every other bit that its mask names. -/
theorem getLsbD_pswWrite (old v : Word32) {i : Nat} (hi : i < 32) (hld : i ∉ [8, 9, 10]) :
    (pswWrite old v).getLsbD i = if (0x88F : Word32).getLsbD i then v.getLsbD i else old.getLsbD i := by
  have hmask : ∀ i < 32, i ∉ [8, 9, 10] → (0x700 : Word32).getLsbD i = false := by decide
  rw [← getLsbD_pswPut _ _ _ hi, pswWrite]
  split
  · rw [pswSetLd, getLsbD_pswPut _ _ _ hi, hmask i hi hld, if_neg Bool.false_ne_true]
  · rfl

theorem pswLd_pswWrite (old v : Word32) : pswLd (pswWrite old v) = if pswLd v ≤ 4 then pswLd v else pswLd old := by
  have hmask : ∀ i < 3, (0x88F : Word32).getLsbD (8 + i) = false := by decide
  unfold pswWrite
  split
  · exact pswLd_pswSetLd _ (pswLd_lt v)
  · exact pswLd_congr fun i hi => (getLsbD_pswPut _ _ _ (by omega)).trans (if_neg (hmask i hi ▸ Bool.false_ne_true))

/-! ### Traps and halts (R200, R204, R216) -/

section Traps
variable {s u : State} {w : StrId}

theorem State.haltPoint_none (hd : (s.str w).haltDue = false) : s.haltPoint w = s := by simp [State.haltPoint, hd]

theorem State.haltPoint_due (hd : (s.str w).haltDue = true) :
    s.haltPoint w = (s.setStr w { s.str w with haltDue := false }).abandonTask w 4 := by simp [State.haltPoint, hd]

variable {cause : Nat} {tval tpc : Word} (hs : s.drainStores w = (true, u))
include hs

theorem State.takeTrap_task (hh : pswH (u.str w).psw = false) : s.takeTrap w cause tval tpc false =
    State.haltPoint (u.setStr w { u.str w with
      tpc := tpc, tpsw := (u.str w).psw, tcause := BitVec.ofNat 32 cause, tval := tval
      psw := pswSetH (u.str w).psw true, pc := (u.str w).tbase / 256 * 256 + BitVec.ofNat 64 (16 * cause)
      uc := (u.str w).uc.filter (fun x => !x.ready) }) w := by
  simp only [State.takeTrap, hs, hh, Bool.not_true, Bool.false_eq_true, if_false]

theorem State.takeTrap_handler (hh : pswH (u.str w).psw = true) : s.takeTrap w cause tval tpc false = u.abandonTask w 2 := by
  simp only [State.takeTrap, hs, hh, Bool.not_true, Bool.false_eq_true, if_false, if_true]

end Traps

/-! ### The return from a trap (R203, R258) -/

/-- Does a return resume the instruction at TPC: TPSW has UIP, and there is a record of it (R258)? -/
def StrSt.resumes (t : StrSt) : Bool := pswUip (pswWrite t.psw t.tpsw) && t.uc.any (fun u => u.addr == t.tpc)

section Return
variable {s : State} {w : StrId}

theorem State.tretOp_plain (h : (s.str w).resumes = false) :
    s.tretOp w = .goto_ (s.str w).tpc
      (s.setStr w { s.str w with psw := pswSetUip (pswWrite (s.str w).psw (s.str w).tpsw) false, uc := [] }) := by
  unfold StrSt.resumes at h
  simp only [State.tretOp, h, Bool.false_eq_true, if_false]

theorem State.tretOp_resumes (h : (s.str w).resumes = true) :
    s.tretOp w = .goto_ (s.str w).tpc (s.setStr w { s.str w with
      psw := pswWrite (s.str w).psw (s.str w).tpsw, uc := (s.str w).uc.map (fun u => { u with ready := true }) }) := by
  unfold StrSt.resumes at h
  simp only [State.tretOp, h, if_true]

variable {p : Pfx} (h : s.issues w p) (hp : p.bare)
include h hp

/-- TRET in handler mode goes on where the return goes. -/
theorem exec_tret_handler (hh : pswH (s.str w).psw = true) {t : StrSt} {pc : Word} (hret : s.tretOp w = .goto_ pc (s.setStr w t)) :
    exec (.tret w p) s = .next (settle s ((s.setStr w { t with pc := pc }).haltPoint w)) := by
  refine ((exec_tret ..).trans (run_returns h (legal_bare hp) ((h.micro _).trans ((if_pos hh).trans hret)))).trans ?_
  rw [State.str_setStr_same, State.setStr_setStr]

theorem exec_tret_task (hh : pswH (s.str w).psw = false) :
    exec (.tret w p) s = .next (settle s
      (s.fresh.2.takeTrap w Cause.access (BitVec.ofNat 64 (Config.free s.fresh.1)) (s.str w).pc false)) :=
  (exec_tret ..).trans (run_traps h (legal_bare hp) ((h.micro _).trans (if_neg (by simp [hh]))))

end Return

/-- Settles O12: BRK and TRAP trap past themselves, TRET is the return of its mode; taking a trap, a halt and a write of PSW are the
equations of their operations. -/
theorem trapsAndReturns : Obligations.TrapsAndReturns := by
  refine ⟨fun s w p h hp => ?instructions,
    fun s u w cause tval tpc hs => ⟨State.takeTrap_task hs, State.takeTrap_handler hs, State.haltPoint_none, State.haltPoint_due⟩,
    fun old v => ⟨fun i hi hmem => ?kept, fun i hmem => ?written, pswLd_pswWrite old v⟩⟩
  case instructions =>
    refine ⟨(exec_brk ..).trans (run_trapsNext h (legal_bare hp) hp rfl),
      fun f => (exec_trap ..).trans (run_trapsNext h (legal_bare hp) hp rfl), fun hh hr => ?_, fun hh huip hrec => ?_,
      fun hh => ⟨_, exec_tret_task h hp hh⟩⟩
    · have hret := exec_tret_handler h hp hh (State.tretOp_plain hr)
      exact hret
    · have hret := exec_tret_handler h hp hh (State.tretOp_resumes (by simp only [StrSt.resumes, huip, hrec, Bool.and_self]))
      exact hret
  case kept =>
    have hmask : ∀ i < 32, i ∉ [0, 1, 2, 3, 7, 8, 9, 10, 11] → (0x88F : Word32).getLsbD i = false ∧ i ∉ [8, 9, 10] := by decide
    obtain ⟨hm, hld⟩ := hmask i hi hmem
    exact (getLsbD_pswWrite old v hi hld).trans (if_neg (hm ▸ Bool.false_ne_true))
  case written =>
    have hmask : ∀ i ∈ [0, 1, 2, 3, 7, 11], (0x88F : Word32).getLsbD i = true ∧ i ∉ [8, 9, 10] ∧ i < 32 := by decide
    obtain ⟨hm, hld, hi⟩ := hmask i hmem
    exact (getLsbD_pswWrite old v hi hld).trans (if_pos hm)

/-! ### REP (R197) -/

section Repeat
variable {s : State} {w : StrId} {task : Bool} {next : Word}

/-- An execution that leaves a repeat count keeps the PC. -/
theorem State.iterate_repeats (hrc : (s.str w).rc ≠ 1) : s.iterate w true task next =
    (s.setStr w { s.str w with rc := (s.str w).rc - 1, uc := (s.str w).uc.filter (fun x => !x.ready) }).haltPoint w := by
  have hrc' : (s.str w).rc - 1 ≠ 0 := by bv_omega
  simp only [State.iterate, if_true, if_neg hrc']

/-- The last execution outside every loop moves the PC on. -/
theorem State.iterate_last (hrc : (s.str w).rc = 1) (hld : pswLd (s.str w).psw = 0) : s.iterate w true task next =
    (s.setStr w { s.str w with rc := 0, pc := next, uc := (s.str w).uc.filter (fun x => !x.ready) }).haltPoint w := by
  have hloop : ∀ t : StrSt, t.psw = (s.str w).psw → (if task = true then loopEnd 4 next t else (next, t)) = (next, t) := fun t ht => by
    rw [loopEnd_none 4 next t (ht ▸ hld), ite_self]
  simp [State.iterate, State.complete, hrc, hloop]

end Repeat

/-! ### The loop comparison (R194) -/

section LoopEnd
variable {n : Nat} {pc : Word} {t : StrSt}

theorem loopEnd_outside (h : pswLd t.psw = 0 ∨ t.ler (pswLd t.psw - 1) ≠ pc) : loopEnd n pc t = (pc, t) := by
  cases n with
  | zero => rfl
  | succ n => exact if_pos h

theorem loopEnd_again (hld : pswLd t.psw ≠ 0) (hend : t.ler (pswLd t.psw - 1) = pc) (hcount : 1 < (t.lcr (pswLd t.psw - 1)).toNat) :
    loopEnd (n + 1) pc t = (t.lsr (pswLd t.psw - 1),
      { t with lc := Tab.set (fun _ => 0) t.lc (pswLd t.psw - 1) (t.lcr (pswLd t.psw - 1) - 1) }) :=
  (if_neg (by simp [hld, hend])).trans (if_pos hcount)

/-- The innermost loop popped. -/
def StrSt.popLoop (t : StrSt) : StrSt :=
  { t with lc := Tab.set (fun _ => 0) t.lc (pswLd t.psw - 1) 0, psw := pswSetLd t.psw (pswLd t.psw - 1) }

theorem StrSt.pswLd_popLoop (t : StrSt) : pswLd t.popLoop.psw = pswLd t.psw - 1 :=
  pswLd_pswSetLd _ (by have := pswLd_lt t.psw; omega)

theorem loopEnd_pops (hld : pswLd t.psw ≠ 0) (hend : t.ler (pswLd t.psw - 1) = pc) (hcount : (t.lcr (pswLd t.psw - 1)).toNat ≤ 1) :
    loopEnd (n + 1) pc t = loopEnd n pc t.popLoop :=
  (if_neg (by simp [hld, hend])).trans (if_neg (not_lt.mpr hcount))

/-- A comparison of as many levels as there are loops reaches every loop. -/
theorem loopEnd_enough (h : pswLd t.psw ≤ n) : loopEnd (n + 1) pc t = loopEnd n pc t := by
  induction n generalizing t with
  | zero => exact loopEnd_outside (.inl (Nat.le_zero.mp h))
  | succ n ih =>
    by_cases hout : pswLd t.psw = 0 ∨ t.ler (pswLd t.psw - 1) ≠ pc
    · rw [loopEnd_outside hout, loopEnd_outside hout]
    · obtain ⟨hld, hend⟩ := not_or.mp hout
      rw [not_not] at hend
      by_cases hcount : 1 < (t.lcr (pswLd t.psw - 1)).toNat
      · rw [loopEnd_again hld hend hcount, loopEnd_again hld hend hcount]
      · have hle := not_lt.mp hcount
        rw [loopEnd_pops hld hend hle, loopEnd_pops hld hend hle, ih (by rw [t.pswLd_popLoop]; omega)]

end LoopEnd

/-- An instruction that began in task mode completes as its loop comparison says. -/
theorem State.complete_of_loopEnd {s : State} {w : StrId} {next pc : Word} {t : StrSt} (h : loopEnd 4 next (s.str w) = (pc, t)) :
    s.complete w true next = (s.setStr w { t with pc := pc, uc := t.uc.filter (fun u => !u.ready) }).haltPoint w := by
  simp only [State.complete, if_true, h]

/-- Settles O15: each clause is a case of the repeat count or of the loop comparison. -/
theorem repeatAndLoops : Obligations.RepeatAndLoops := by
  refine ⟨fun s w next task => ⟨State.iterate_repeats, State.iterate_last, fun p f hp hx ht hf he hplain hrep hrc => ?zero⟩,
    fun s w next => ⟨fun hout => State.complete_of_loopEnd (loopEnd_outside hout),
      fun hld hend hcount => State.complete_of_loopEnd (loopEnd_again hld hend hcount), fun hld hend hcount => ?last,
      fun hld hle hend hcount => ?pops, rfl⟩⟩
  case zero =>
    have hlen : prefixLen p + 3 = 4 := by
      obtain ⟨hnt, hwide⟩ := hplain
      simp [prefixLen, hrep, hnt, hwide]
    obtain ⟨hbad, -, hmax⟩ := (legal_plain hplain (n := 3)).and (c := false) rfl
    have hskip : s.fmtB w p false (fun s => s.intB w f (· + ·) flagsAdd) = s.jumpTo w ((s.str w).pc + 4) s :=
      (State.instr_skipped _ hx ht he (hf _ (Nat.min_le_right ..)) hbad hmax hrep hrc).trans (by rw [hlen]; rfl)
    exact (exec_add ..).trans (run_eq hp hskip)
  case last =>
    have hk : pswLd (s.str w).psw - 1 = 0 := by omega
    have hpop : (s.str w).popLoop =
        { s.str w with lc := Tab.set (fun _ => 0) (s.str w).lc 0 0, psw := pswSetLd (s.str w).psw 0 } := by simp only [StrSt.popLoop, hk]
    have hend' : loopEnd 4 next (s.str w) = (next, (s.str w).popLoop) :=
      (loopEnd_pops (by omega) (hk.symm ▸ hend) (hk.symm ▸ hcount)).trans
        (loopEnd_outside (.inl (by rw [StrSt.pswLd_popLoop, hk])))
    rw [State.complete_of_loopEnd hend', hpop]
  case pops =>
    have hpop : loopEnd 4 next (s.str w) = loopEnd 4 next (s.str w).popLoop :=
      (loopEnd_pops (by omega) hend hcount).trans (loopEnd_enough (n := 3) (by rw [StrSt.pswLd_popLoop]; omega)).symm
    have hset : (s.setStr w (s.str w).popLoop).complete w true next = s.complete w true next := by
      simp only [State.complete, if_true, State.str_setStr_same, State.setStr_setStr, hpop]
    exact hset.symm

end Sys2Proof.Machine
end

section
/-!
PROOFS. Memory instructions (Tables 07-9 and 07-10): what a load, a store and a line operation come to once their access answers, and the
obligations of loads and stores and of STI, AMO and CMO.
-/

namespace Sys2Proof.Machine

/-! ### Loads and stores -/

section Accesses
variable {s v : State} {w : StrId} {p : Pfx} {f : FmtM} {n : Nat} {e : MemErr} {b : List Byte} {k : State → List Byte → State}

/-- At most two of the three prefixes stand before an instruction. -/
theorem prefixLen_le_two (h : ¬(p.rep = true ∧ p.nt = true ∧ p.wide = true)) : prefixLen p ≤ 2 := by
  unfold prefixLen
  split_ifs with hrep hnt hwide
  · exact absurd ⟨hrep, hnt, hwide⟩ h
  all_goals simp

/-- A store takes REP and NT. -/
theorem legal_store (hw : p.wide = false) : LegalForm p (prefixLen p + 5) (badPfx p true true false) 5 :=
  ⟨by simp [badPfx, hw], rfl, by have := prefixLen_le_two (p := p) (by simp [hw]); omega⟩

theorem badUpdate_eq_false (h : f.x.getLsbD 3 = true → f.d = f.a → f.d = 0) : badUpdate f = false := by
  rw [Bool.eq_false_iff]
  intro hbad
  simp only [badUpdate, Bool.and_eq_true, beq_iff_eq, Bool.not_eq_true'] at hbad
  obtain ⟨⟨hu, ha⟩, hd⟩ := hbad
  simp [zeroReg, h hu ha] at hd

/-- The registers of a pair: an even first one, and size 8. -/
theorem badPair_eq_false (hd : f.d.val % 2 = 0) (hsize : f.x.toNat % 4 = 3) (hx : f.x.toNat < 16) : badPair f = false := by
  simp [badPair, hd, hsize, hx]

theorem MemRes.andThen_ok {r : MemRes × State} {k : List Byte → State → Res} (h : r = (.ok b, v)) : MemRes.andThen r k = k b v := by
  rw [h, MemRes.andThen]

theorem MemRes.andThen_trap {r : MemRes × State} {k : List Byte → State → Res} {c t : Nat} (h : r = (.trap c t, v)) :
    MemRes.andThen r k = .trap c (BitVec.ofNat 64 t) false v := by
  rw [h, MemRes.andThen]

/-- A load whose access answers puts what it loaded where it goes, and then moves its base (R199). -/
theorem State.loadM_ok (hdev : e = .devErr → (s.addrM w f).toNat < devBase)
    (hload : (s.memError w (s.addrM w f).toNat 0 true e).load w (s.addrM w f).toNat n true = (.ok b, v)) :
    s.loadM w f n e k = .next ((k v b).postInc w f.a ((s.str w).xr f.a) (disp16 f.disp) (f.x.getLsbD 3)) := by
  have hplain : ¬(e = .devErr ∧ devBase ≤ (s.addrM w f).toNat) := fun ⟨he, ha⟩ => absurd (hdev he) (not_lt.mpr ha)
  simp only [State.loadM, if_neg hplain]
  exact MemRes.andThen_ok hload

theorem State.drainStores_empty (h : (s.str w).sb = []) : s.drainStores w = (true, s) := by simp [State.drainStores, State.drainSb, h]

/-- A load that device space refuses (Table 07-13). -/
theorem State.loadM_refused (hdev : devBase ≤ (s.addrM w f).toNat) (hacc : s.accTrap w (s.addrM w f).toNat n 1 true = none)
    (hsb : (s.str w).sb = []) : s.loadM w f n .devErr k = .trap Cause.devErr (s.addrM w f) false s := by
  have hload : s.loadRefused w (s.addrM w f).toNat n = (.trap Cause.devErr (s.addrM w f).toNat, s) := by
    simp only [State.loadRefused, hacc, State.drainStores_empty hsb]
  simp only [State.loadM, hdev, and_self, if_true]
  rw [MemRes.andThen_trap hload, BitVec.ofNat_toNat, BitVec.setWidth_eq]

theorem storeThen_done {r : StRes × State} {k : State → State} (h : r = (.done none, v)) : storeThen r k = .next (k v) := by
  rw [h, storeThen]

/-- A store that its access takes completes, and then moves its base (R199). -/
theorem State.storeM_done (hstore : s.store w (s.addrM w f).toNat b p.nt true = (.done none, v)) :
    s.storeM w p f b = .next (v.postInc w f.a ((s.str w).xr f.a) (disp16 f.disp) (f.x.getLsbD 3)) := storeThen_done hstore

end Accesses

/-- Settles O8: each clause is a legal form whose access answers, with its base moved after it. -/
theorem loadsAndStores : Obligations.LoadsAndStores := by
  intro s w p f h hwide hx t base disp u a n bump value
  have hsize : decide (16 ≤ f.x.toNat) = false := decide_eq_false (not_le.mpr hx)
  have hload (hnt : p.nt = false) := legal_plain ⟨hnt, hwide⟩ (n := 5)
  have hstore := legal_store hwide
  refine ⟨fun e b v hnt hupd hdev hacc => ?ld, fun e b v hnt hfp hupd hdev hacc => ?ldf,
    fun e b v hnt heven hpair hupd halign hdev hacc => ?ldp, fun v hsext hacc => ?st, fun v hsext hfp hacc => ?stf,
    fun v hsext heven hpair halign hacc => ?stp, fun hnt hupd hdev hacc hsb => ?devErr⟩
  case ld =>
    have hl := (hload hnt).and (Bool.or_eq_false_iff.mpr ⟨hsize, badUpdate_eq_false hupd⟩)
    exact (exec_ld ..).trans (run_retires h hl (State.loadM_ok hdev hacc))
  case ldf =>
    have hform : (decide (16 ≤ f.x.toNat) || decide (f.x.toNat % 4 < 2) || badUpdate f) = false := by
      simp only [hsize, decide_eq_false (not_lt.mpr hfp), badUpdate_eq_false hupd, Bool.or_false]
    exact (exec_ldf ..).trans (run_retires h ((hload hnt).and hform) (State.loadM_ok hdev hacc))
  case ldp =>
    have hl := (hload hnt).and (Bool.or_eq_false_iff.mpr ⟨badPair_eq_false heven hpair hx, badUpdate_eq_false hupd⟩)
    exact (exec_ldp ..).trans (run_retires h hl ((if_neg (not_not.mpr halign)).trans (State.loadM_ok hdev hacc)))
  case st =>
    exact (exec_st ..).trans (run_retires h (hstore.and (Bool.or_eq_false_iff.mpr ⟨hsize, hsext⟩)) (State.storeM_done hacc))
  case stf =>
    have hform : (decide (16 ≤ f.x.toNat) || f.x.getLsbD 2 || decide (f.x.toNat % 4 < 2)) = false := by
      simp only [hsize, hsext, decide_eq_false (not_lt.mpr hfp), Bool.or_false]
    exact (exec_stf ..).trans (run_retires h (hstore.and hform) (State.storeM_done hacc))
  case stp =>
    have hl := hstore.and (Bool.or_eq_false_iff.mpr ⟨badPair_eq_false heven hpair hx, hsext⟩)
    exact (exec_stp ..).trans (run_retires h hl ((if_neg (not_not.mpr halign)).trans (State.storeM_done hacc)))
  case devErr =>
    have hl := (hload hnt).and (Bool.or_eq_false_iff.mpr ⟨hsize, badUpdate_eq_false hupd⟩)
    exact (exec_ld ..).trans (run_traps h hl (State.loadM_refused hdev hacc hsb))

/-! ### STI, AMO and CMO -/

/-- The form of an STI of at most 15 bytes: WIDE goes with size 8 only (Table 07-10). -/
theorem legal_sti {p : Pfx} {x : Nat} (hx : x < 8) (hwide : p.wide = true → x % 4 = 3)
    (hlen : ¬(p.rep = true ∧ p.nt = true ∧ p.wide = true)) :
    LegalForm p (prefixLen p + 1 + lenS p) (badPfx p true true true || decide (8 ≤ x) || (p.wide && decide (x % 4 ≠ 3)))
      (if p.wide then 13 else 9) := by
  have hsize : (p.wide && decide (x % 4 ≠ 3)) = false := by
    cases hw : p.wide
    · rfl
    · simp [hwide hw]
  refine ⟨Bool.or_eq_false_iff.mpr ⟨by simp [badPfx, hx], hsize⟩, ?_, ?_⟩
  · cases hw : p.wide <;> simp [lenS, hw, Nat.add_assoc]
  · have hpre := prefixLen_le_two hlen
    have himm : lenS p ≤ 12 := by unfold lenS; split <;> simp
    omega

section Line
variable {s v : State} {w : StrId} {p : Pfx} {f : FmtA} {e : MemErr} {b : List Byte} (h : s.issues w p) (hp : p.bare)
include h hp

/-- A line operation that completes (R279, R281): an error of the L2 changes the state first only where its line is looked up. -/
theorem exec_cmo_completes (hx : f.x.toNat < 4) (he : f.x = 0 ∨ (e ≠ .l2Ce ∧ e ≠ .l2Ue ∧ ∀ y, e ≠ .l2TagUe y))
    (hcmo : s.cmo w f.x.toNat ((s.str w).xr f.r).toNat = (.ok b, v)) :
    exec (.cmo w p f e) s = .next (settle s (s.retire w p 2 v)) := by
  have hx4 : f.x ≠ 4 := by bv_omega
  have hl := (legal_bare hp (n := 2)).and (decide_eq_false (p := 4 < f.x.toNat) (by omega))
  refine (exec_cmo ..).trans (run_retires h hl ?_)
  rw [h.micro]
  refine (if_neg hx4).trans ?_
  split
  · exact MemRes.andThen_ok hcmo
  case isFalse hlook =>
    simp only [Bool.or_eq_true, decide_eq_true_eq, not_or] at hlook
    obtain ⟨-, hx0⟩ := hlook
    obtain ⟨hce, hue, htag⟩ := he.resolve_left hx0
    split
    · exact absurd rfl (htag _)
    · exact absurd rfl hce
    · exact absurd rfl hue
    · exact MemRes.andThen_ok hcmo

/-- The operation on the L1I (R279). -/
theorem exec_cmo_l1i (hx : f.x = 4) (hr : f.r = 0) : exec (.cmo w p f e) s = .next (settle s (s.retire w p 2 (s.dropOwnL1i w))) := by
  have hl := (legal_bare hp (n := 2)).and (decide_eq_false (p := 4 < f.x.toNat) (by simp [hx]))
  exact (exec_cmo ..).trans (run_retires h hl ((h.micro _).trans ((if_pos hx).trans (if_pos (by simp [zeroReg, hr])))))

/-- An uncorrectable tag of the line's set (R280). -/
theorem exec_cmo_tag {y : Fin 16} (h1 : 1 ≤ f.x.toNat) (h3 : f.x.toNat ≤ 3) (hok : s.cmoAllowed w ((s.str w).xr f.r).toNat = true) :
    exec (.cmo w p f (.l2TagUe y)) s = .next (settle s ((s.l2Error w.pond.val ((s.str w).xr f.r).toNat w.slot.val 7 (.l2TagUe y)).takeTrap w
      Cause.poison ((s.str w).xr f.r) (s.str w).pc false)) := by
  have hx4 : f.x ≠ 4 := by bv_omega
  have hx0 : f.x ≠ 0 := by bv_omega
  have hl := (legal_bare hp (n := 2)).and (decide_eq_false (p := 4 < f.x.toNat) (by omega))
  exact (exec_cmo ..).trans (run_traps h hl ((h.micro _).trans ((if_neg hx4).trans (if_neg (by simpa [hok] using hx0)))))

end Line

theorem amoNew_min (old b c : Word) : ∃ m, amoNew 5 old b c = some m ∧ (m = old ∨ m = b) ∧ m.toInt = min old.toInt b.toInt := by
  by_cases hle : old.toInt ≤ b.toInt
  · exact ⟨old, by simp [amoNew, hle], .inl rfl, (min_eq_left hle).symm⟩
  · exact ⟨b, by simp [amoNew, hle], .inr rfl, (min_eq_right (by omega)).symm⟩

theorem amoNew_max (old b c : Word) : ∃ m, amoNew 6 old b c = some m ∧ (m = old ∨ m = b) ∧ m.toInt = max old.toInt b.toInt := by
  by_cases hle : old.toInt ≤ b.toInt
  · exact ⟨b, by simp [amoNew, hle], .inr rfl, (max_eq_right hle).symm⟩
  · exact ⟨old, by simp [amoNew, hle], .inl rfl, (max_eq_left (by omega)).symm⟩

/-- Settles O9: STI and AMO complete as their accesses answer, CMO in each of its forms; the value an AMO stores is its operation's. -/
theorem storeImmediateAmoCmo : Obligations.StoreImmediateAmoCmo := by
  refine ⟨fun s w p h => ⟨fun f v hx hwide hlen => ?sti, fun f hrep hnt hwide => ?long, fun f e b v hp hx hc hacc => ?amo,
      fun f e b v hp hx he hcmo => exec_cmo_completes h hp hx he hcmo, fun f e hp hx hr => exec_cmo_l1i h hp hx hr,
      fun f y hp h1 h3 hok => exec_cmo_tag h hp h1 h3 hok⟩,
    fun old b c => ⟨rfl, rfl, rfl, rfl, rfl, amoNew_min old b c, amoNew_max old b c, rfl⟩⟩
  case sti =>
    intro base disp u imm hstore
    exact (exec_sti ..).trans (run_retires h (legal_sti hx hwide hlen) (storeThen_done hstore))
  case long =>
    obtain ⟨hpow, hexec, htime, hfetch, herr, -⟩ := h
    exact (exec_sti ..).trans (run_illegal _ hexec htime herr hpow hfetch (.inr (by simp [prefixLen, lenS, hrep, hnt, hwide])))
  case amo =>
    have hform : (decide (8 ≤ f.x.toNat) || (f.x != 7 && !zeroReg f.c)) = false := by
      obtain hcas | hzero := hc
      · simp [hcas]
      · simp [hx, zeroReg, hzero]
    exact (exec_amo ..).trans (run_retires h ((legal_plain hp).and hform) ((h.micro _).trans (MemRes.andThen_ok hacc)))

end Sys2Proof.Machine
end

section
/-!
PROOFS. POST and COMMIT (R208, R390): what each does with its buffer read, duplicates and the last ordinal, how a waiting output ends, and
the obligation of outputs made once only.
-/

namespace Sys2Proof.Machine

/-! ### Duplicates and the last ordinal (R18, R208, R211, R388) -/

section Output
variable {s d v u : State} {w : StrId} {f : FmtB} {n : Nat} {bytes : List Byte} {k : List Byte → State → Res}

theorem State.output_ordinal (hord : (s.str w).oord = 0xFFFFFFFF) : s.output w f n k = .trap Cause.ordinal 0xFFFFFFFF false s := by
  refine (if_pos hord).trans ?_
  rw [hord]
  rfl

/-- A duplicate completes with the result that its first making recorded. -/
theorem State.output_duplicate {r : Word} (hord : (s.str w).oord ≠ 0xFFFFFFFF) (halign : ((s.str w).xr f.a).toNat % 8 = 0)
    (hdrain : s.drainAll w = (true, d)) (hload : d.load w ((s.str w).xr f.a).toNat n false = (.ok bytes, v))
    (hdup : v.duplicate (basinOfStr w) ((s.str w).taskId.setWidth 48) (s.str w).oord = (some r, u)) :
    s.output w f n k = .next (u.outputDone w f.d r false) := by
  simp only [State.output, if_neg hord, State.readBuffer, halign, hdrain, hload, MemRes.andThen, StrSt.task, hdup, ne_eq, not_true_eq_false,
    if_false]

end Output

/-! ### POST and COMMIT with their buffer read (R208, R390) -/

section Issue
variable {s d v u : State} {w : StrId} {f : FmtB} {bytes : List Byte} (hord : (s.str w).oord ≠ 0xFFFFFFFF)
  (halign : ((s.str w).xr f.a).toNat % 8 = 0) (hdrain : s.drainAll w = (true, d))
  (hload : d.load w ((s.str w).xr f.a).toNat 64 false = (.ok bytes, v))
  (hdup : v.duplicate (basinOfStr w) ((s.str w).taskId.setWidth 48) (s.str w).oord = (none, u))
include hord halign hdrain hload hdup

/-- A selector of no queue (Table 07-15). -/
theorem State.postIssue_noQueue (hx : 256 ≤ ((u.str w).xr f.b).toNat) : s.postIssue w f = .next (u.outputDone w f.d 2 true) :=
  (State.output_new hord halign hdrain hload hdup).trans (if_pos (by omega))

section Queue
variable {b q : Nat} (hx : ((u.str w).xr f.b).toNat < 256) (hq : u.postTarget ((u.str w).xr f.b) = (b, q))
include hx hq

theorem State.postIssue_taken (hcheck : u.taskPostCheck b q bytes = .ok) : s.postIssue w f = .next ((u.enqueue b q bytes).accepted w f.d 2 0) := by
  refine (State.output_new hord halign hdrain hload hdup).trans ((if_neg (by omega)).trans ?_)
  simp only [hq, hcheck]

theorem State.postIssue_waits (hcheck : u.taskPostCheck b q bytes = .full) :
    s.postIssue w f = .wait (.post ((u.str w).xr f.b).toNat bytes u.dt f.d) u := by
  refine (State.output_new hord halign hdrain hload hdup).trans ((if_neg (by omega)).trans ?_)
  simp only [hq, hcheck, Nat.mod_eq_of_lt hx]

theorem State.postIssue_refused (hok : u.taskPostCheck b q bytes ≠ .ok) (hfull : u.taskPostCheck b q bytes ≠ .full) :
    s.postIssue w f = .next (u.postRefuse w b q (u.taskPostCheck b q bytes).code f.d) := by
  refine (State.output_new hord halign hdrain hload hdup).trans ((if_neg (by omega)).trans ?_)
  cases hcheck : u.taskPostCheck b q bytes with
  | ok => exact absurd hcheck hok
  | full => exact absurd hcheck hfull
  | badq | baddesc | journal => simp only [hq, hcheck]

end Queue

section Page
variable {h : List Byte} {busy : Bool}

theorem State.commitIssue_noPage (hpage : u.pageHeader w ((u.str w).xr f.b).toNat = none) :
    s.commitIssue w f busy = .next (u.outputDone w f.d 1 true) := by
  refine (State.output_new hord halign hdrain hload hdup).trans ?_
  simp only [hpage]

variable (hpage : u.pageHeader w ((u.str w).xr f.b).toNat = some h)
include hpage

theorem State.commitIssue_reserve (hfull : u.olReserve = true) : s.commitIssue w f busy = .next (u.outputDone w f.d 2 true) := by
  refine (State.output_new hord halign hdrain hload hdup).trans ?_
  simp only [hpage, hfull, if_true]

variable (hroom : u.olReserve = false)
include hroom

theorem State.commitIssue_busy :
    s.commitIssue w f true = .wait (.commit ((u.str w).xr f.a) ((u.str w).xr f.b) u.dt f.d) u := by
  refine (State.output_new hord halign hdrain hload hdup).trans ?_
  simp only [hpage, hroom, Bool.false_eq_true, if_false, if_true]

/-- The two block writes of a COMMIT, its source and the new header. -/
theorem State.commitIssue_made {m c : State} {h' : List Byte} (hsrc : u.commitWrite w ((u.str w).xr f.b).toNat bytes = (true, m))
    (hh : h' = headerAfter h ((u.str w).taskId.setWidth 48) (u.str w).oord (((u.str w).xr f.b).toNat % 4096 / 64) m.dt)
    (hhead : m.commitWrite w (((u.str w).xr f.b).toNat / 4096 * 4096) h' = (true, c)) :
    s.commitIssue w f false = .next (c.accepted w f.d 3 (BitVec.ofNat 64 (leAt h' 8 8))) := by
  refine (State.output_new hord halign hdrain hload hdup).trans ?_
  subst hh
  simp only [hpage, hroom, State.commitApply, StrSt.task, hsrc, hhead, Bool.false_eq_true, if_false]

end Page

end Issue

/-! ### The commands -/

section Commands
variable {s t : State} {w : StrId} {p : Pfx} {f : FmtB} {k : Wait} {c : Nat} {x : Word} (h : s.issues w p) (hp : p.bare) (hx : f.x = false)
include h hp hx

theorem exec_post_retires (hissue : s.postIssue w f = .next t) : exec (.post w p f) s = .next (settle s (s.retire w p 3 t)) :=
  (exec_post ..).trans (run_retires h ((legal_bare hp).and hx) ((h.micro _).trans hissue))

theorem exec_post_waits (hissue : s.postIssue w f = .wait k t) :
    exec (.post w p f) s = .next (settle s (s.retire w p 3 (t.setStr w { t.str w with run := .waiting k }))) :=
  (exec_post ..).trans (run_waits h ((legal_bare hp).and hx) ((h.micro _).trans hissue))

theorem exec_post_traps (hissue : s.postIssue w f = .trap c x false t) :
    exec (.post w p f) s = .next (settle s (t.takeTrap w c x (s.str w).pc false)) :=
  (exec_post ..).trans (run_traps h ((legal_bare hp).and hx) ((h.micro _).trans hissue))

variable {busy : Bool}

omit hp hx in
/-- A strider that runs does not wait in a COMMIT: the command is one that is issued. -/
theorem exec_commit_issues : exec (.commit w p f busy) s =
    run s (fun s => s.outB w p f.x (fun s => s.micro w p (fun s => s.commitIssue w f busy))) := by
  rw [exec_commit, execCommit, run_powered h.powered, run_powered h.powered, h.running]

theorem exec_commit_retires (hissue : s.commitIssue w f busy = .next t) :
    exec (.commit w p f busy) s = .next (settle s (s.retire w p 3 t)) :=
  (exec_commit_issues h).trans (run_retires h ((legal_bare hp).and hx) ((h.micro _).trans hissue))

theorem exec_commit_waits (hissue : s.commitIssue w f busy = .wait k t) :
    exec (.commit w p f busy) s = .next (settle s (s.retire w p 3 (t.setStr w { t.str w with run := .waiting k }))) :=
  (exec_commit_issues h).trans (run_waits h ((legal_bare hp).and hx) ((h.micro _).trans hissue))

theorem exec_commit_traps (hissue : s.commitIssue w f busy = .trap c x false t) :
    exec (.commit w p f busy) s = .next (settle s (t.takeTrap w c x (s.str w).pc false)) :=
  (exec_commit_issues h).trans (run_traps h ((legal_bare hp).and hx) ((h.micro _).trans hissue))

end Commands

/-- Settles O18: with its buffer read an output is what its receiver answers; a duplicate and the last ordinal come before that. -/
theorem postCommitOnceOnly : Obligations.PostCommitOnceOnly := by
  refine ⟨fun s y v u w p f bytes h hp hx hord halign hdrain hload hdup => ?new, fun s y v u w p f bytes r h hp hx => ⟨fun hord => ?ordinal,
    fun hord halign hdrain hload hdup => ?duplicate⟩⟩
  case new =>
    refine ⟨fun hsel hok => ?taken, fun hsel hok hfull => ?refused, fun hsel hfull => ?full, fun hsel => ?noQueue, fun hpage => ?noPage,
      fun hd busy hpage hres => ?reserve, fun hd hpage hres => ?busy, fun hd m h' c hpage hres hsrc hh hhead => ?made⟩
    case taken => exact exec_post_retires h hp hx (State.postIssue_taken hord halign hdrain hload hdup hsel rfl hok)
    case refused => exact exec_post_retires h hp hx (State.postIssue_refused hord halign hdrain hload hdup hsel rfl hok hfull)
    case full => exact exec_post_waits h hp hx (State.postIssue_waits hord halign hdrain hload hdup hsel rfl hfull)
    case noQueue => exact exec_post_retires h hp hx (State.postIssue_noQueue hord halign hdrain hload hdup hsel)
    case noPage => exact exec_commit_retires h hp hx (State.commitIssue_noPage hord halign hdrain hload hdup hpage)
    case reserve => exact exec_commit_retires h hp hx (State.commitIssue_reserve hord halign hdrain hload hdup hpage hres)
    case busy => exact exec_commit_waits h hp hx (State.commitIssue_busy hord halign hdrain hload hdup hpage hres)
    case made => exact exec_commit_retires h hp hx (State.commitIssue_made hord halign hdrain hload hdup hpage hres hsrc hh hhead)
  case ordinal =>
    refine ⟨exec_post_traps h hp hx (State.output_ordinal hord), fun busy => exec_commit_traps h hp hx (State.output_ordinal hord),
      fun hb => ?_⟩
    have hform : (!zeroReg f.b || f.x) = false := by simp [zeroReg, hb, hx]
    exact (exec_emit ..).trans (run_traps h ((legal_bare hp).and hform) ((h.micro _).trans (State.output_ordinal hord)))
  case duplicate =>
    exact ⟨exec_post_retires h hp hx (State.output_duplicate hord halign hdrain hload hdup),
      exec_commit_retires h hp hx (State.output_duplicate hord halign hdrain hload hdup)⟩

end Sys2Proof.Machine
end

section
/-!
PROOFS. The waits and RECV as they are issued (R209, R217 to R222, R393), the ends of waits and of waiting outputs (R89, R208, R390, Table
07-19), and their obligations.
-/

namespace Sys2Proof.Machine

/-! ### Waits at issue (R217 to R221) -/

theorem State.axisGone_iff (s : State) (n : Nat) :
    s.axisGone n = true ↔ s.fld (AX_STAT.STATE n) = 0 ∨ s.fld (AX_STAT.STATE n) = 4 := by
  simp only [State.axisGone, Bool.or_eq_true, beq_iff_eq]

/-- A tracker that tracks has reached a target. -/
theorem State.axisReached_iff (s : State) (n : Nat) (target : Word) :
    (s.axisTracks n && s.maReached n target) = true ↔ s.fld (AX_STAT.STATE n) = 2 ∧ s.maReached n target = true := by
  simp only [State.axisTracks, Bool.and_eq_true, beq_iff_eq]

/-- A wait that ends at issue retires with its code, Z saying that it is not 0. -/
theorem State.outcome_waitNow (s u : State) (w : StrId) (p : Pfx) (n : Nat) (d : RegNo) (code : Nat) :
    s.outcome w p.rep ((s.str w).pc + BitVec.ofNat 64 (prefixLen p + n)) (u.waitNow w d code) =
      s.retire w p n (u.writeResult w d (BitVec.ofNat 64 code) (code != 0)) := rfl

/-- The strider once a wait has begun: its run time stands still (R214). -/
def State.waitBegun (u : State) (w : StrId) (k : Wait) : State :=
  let x := u.setStr w { u.str w with waitAt := some u.dt }
  x.setStr w { x.str w with run := .waiting k }

theorem State.outcome_beginWait (s u : State) (w : StrId) (p : Pfx) (n : Nat) (k : Wait) :
    s.outcome w p.rep ((s.str w).pc + BitVec.ofNat 64 (prefixLen p + n)) (u.beginWait w k) = s.retire w p n (u.waitBegun w k) := rfl

section Issue
variable {s u : State} {w : StrId} (hdrain : s.drainAll w = (true, u))
include hdrain

theorem State.afterDrain_drained (k : State → Res) : s.afterDrain w k = k u := by simp only [State.afterDrain, hdrain]

/-- WAITA with its buffers drained: no tracker of that number, one that is gone, the target reached, the deadline passed, or a wait (R218). -/
theorem State.waitaIssue_drained (f : FmtC) : s.waitaIssue w f =
    let a := ((u.str w).xr f.a).toNat
    let target := (u.str w).xr f.b
    if 16 ≤ a then u.waitNow w f.d 3
    else if u.fld (AX_STAT.STATE a) = 0 ∨ u.fld (AX_STAT.STATE a) = 4 then u.waitNow w f.d 2
    else if u.fld (AX_STAT.STATE a) = 2 ∧ u.maReached a target = true then u.waitNow w f.d 0
    else if deadlinePassed u.dt ((u.str w).xr f.c) then u.waitNow w f.d 1
    else u.beginWait w (.waita a target ((u.str w).xr f.c) f.d) := by
  rw [State.waitaIssue, State.afterDrain_drained hdrain]
  simp only [State.axisGone_iff, State.axisReached_iff]

variable {p : Pfx} (h : s.issues w p)
include h

/-- A wait of legal form comes to what its effect gives on the state with the buffers drained (R217). -/
theorem run_drained {len : Nat} {bad : Bool} (hl : LegalForm p len bad len) (k : State → Res) :
    run s (fun s => s.instr w p len bad (fun s => s.micro w p (fun s => s.afterDrain w k))) =
      .next (settle s (s.outcome w p.rep ((s.str w).pc + BitVec.ofNat 64 (prefixLen p + len)) (k u))) :=
  run_issued h hl ((h.micro _).trans (State.afterDrain_drained hdrain k))

variable (hp : p.bare)
include hp

theorem exec_waitt_issued {f : FmtB} (hb : f.b = 0) (hx : f.x = false) : exec (.waitt w p f) s = .next (settle s
    (if dtGe u.dt ((u.str w).xr f.a) then s.retire w p 3 (u.writeResult w f.d 0 false)
     else s.retire w p 3 (u.waitBegun w (.waitt ((u.str w).xr f.a) f.d)))) := by
  have hform : (!zeroReg f.b || f.x) = false := by simp [zeroReg, hb, hx]
  refine ((exec_waitt ..).trans (run_drained hdrain h ((legal_bare hp).and hform) _)).trans ?_
  simp only [apply_ite (s.outcome w p.rep _), State.outcome_waitNow, State.outcome_beginWait]
  rfl

theorem exec_waita_issued {f : FmtC} (hx : f.x = 0) : exec (.waita w p f) s = .next (settle s
    (let a := ((u.str w).xr f.a).toNat
     let target := (u.str w).xr f.b
     if 16 ≤ a then s.retire w p 4 (u.writeResult w f.d 3 true)
     else if u.fld (AX_STAT.STATE a) = 0 ∨ u.fld (AX_STAT.STATE a) = 4 then s.retire w p 4 (u.writeResult w f.d 2 true)
     else if u.fld (AX_STAT.STATE a) = 2 ∧ u.maReached a target = true then s.retire w p 4 (u.writeResult w f.d 0 false)
     else if deadlinePassed u.dt ((u.str w).xr f.c) then s.retire w p 4 (u.writeResult w f.d 1 true)
     else s.retire w p 4 (u.waitBegun w (.waita a target ((u.str w).xr f.c) f.d)))) := by
  have hl := (legal_bare hp (n := 4)).and (bne_eq_false_iff_eq.mpr hx)
  refine ((exec_waita ..).trans (run_issued h hl ((h.micro _).trans (State.waitaIssue_drained hdrain f)))).trans ?_
  simp only [apply_ite (s.outcome w p.rep _), State.outcome_waitNow, State.outcome_beginWait]
  rfl

theorem exec_waitq_issued {f : FmtB} (hx : f.x = false) : exec (.waitq w p f) s = .next (settle s
    (let k := u.qsel w ((u.str w).xr f.a).toNat
     if k = .bad then s.retire w p 3 (u.writeResult w f.d 3 true)
     else if u.qselReady w k then s.retire w p 3 ((u.takeEvent w k).writeResult w f.d 0 false)
     else if deadlinePassed u.dt ((u.str w).xr f.b) then s.retire w p 3 (u.writeResult w f.d 1 true)
     else s.retire w p 3 (u.waitBegun w (.waitq ((u.str w).xr f.a) ((u.str w).xr f.b) f.d)))) := by
  refine ((exec_waitq ..).trans (run_drained hdrain h ((legal_bare hp).and hx) _)).trans ?_
  simp only [apply_ite (s.outcome w p.rep _), State.outcome_waitNow, State.outcome_beginWait]
  rfl

theorem exec_sleep_issued {f : FmtA} (hx : f.x = 0) : exec (.sleep w p f) s = .next (settle s
    (if deadlinePassed u.dt ((u.str w).xr f.r) ∨ (u.str w).evlatch ≠ 0 then s.retire w p 2 u
     else s.retire w p 2 (u.waitBegun w (.sleep ((u.str w).xr f.r))))) := by
  have hl := (legal_bare hp (n := 2)).and (bne_eq_false_iff_eq.mpr hx)
  refine ((exec_sleep ..).trans (run_drained hdrain h hl _)).trans ?_
  simp only [apply_ite (s.outcome w p.rep _), State.outcome_next, State.outcome_beginWait, Bool.or_eq_true, bne_iff_ne]

end Issue

/-! ### RECV (R209, R393) -/

theorem firstUntaken_eq_none {l : List QEntry} (h : ∀ e ∈ l, e.taken.isSome) (k : Nat) : firstUntaken k l = none := by
  induction l generalizing k with
  | nil => rfl
  | cons e l ih =>
    have htaken : e.taken.isNone = false := by simpa using h e (List.mem_cons_self ..)
    simp only [firstUntaken, htaken, Bool.false_eq_true, if_false]
    exact ih (fun x hx => h x (List.mem_cons_of_mem _ hx)) (k + 1)

/-- The oldest untaken entry stands after taken ones only. -/
theorem firstUntaken_append {pre post : List QEntry} {e : QEntry} (hpre : ∀ c ∈ pre, c.taken.isSome) (he : e.taken = none) (k : Nat) :
    firstUntaken k (pre ++ e :: post) = some (k + pre.length, e) := by
  induction pre generalizing k with
  | nil => simp [firstUntaken, he]
  | cons c pre ih =>
    have htaken : c.taken.isNone = false := by simpa using hpre c (List.mem_cons_self ..)
    simp only [List.cons_append, firstUntaken, htaken, Bool.false_eq_true, if_false, List.length_cons]
    rw [ih (fun x hx => hpre x (List.mem_cons_of_mem _ hx)) (k + 1)]
    congr 2
    omega

/-- The entry that the task's journal holds for its next RECV of queue `q` (R393). -/
def State.journaled (s : State) (w : StrId) (q : Nat) : Option (List Byte) :=
  (s.taskOf w).bind (fun j => (j.recv[j.returned]?).bind (fun e => if e.1 = q then some e.2 else none))

section Recv
variable {s v : State} {w : StrId} {f : FmtB} {q : Nat} {bytes : List Byte}

theorem State.journaled_eq_some {j : TaskJrn} (hj : s.taskOf w = some j) (he : j.recv[j.returned]? = some (q, bytes)) :
    s.journaled w q = some bytes := by simp [State.journaled, hj, he]

theorem State.journaled_eq_none (h : ∀ j, s.taskOf w = some j → ∀ e, j.recv[j.returned]? = some e → e.1 ≠ q) : s.journaled w q = none := by
  simp only [State.journaled, Option.bind_eq_none_iff]
  exact fun j hj e he => if_neg (h j hj e he)

theorem State.ownQueue_iff (s : State) (w : StrId) (x : Nat) : s.ownQueue w x = true ↔
    x / 64 = basinOfStr w ∧ (s.queue (basinOfStr w) (x % 64)).qen = true ∧ (s.queue (basinOfStr w) (x % 64)).mode = false := by
  simp only [State.ownQueue, Bool.and_eq_true, decide_eq_true_eq, Bool.not_eq_true', and_assoc]

/-- An entry that its buffer takes is given to the task. -/
theorem State.recvInto_done {take : State → State} (halign : ((s.str w).xr f.a).toNat % 8 = 0)
    (hstore : s.store w ((s.str w).xr f.a).toNat bytes false false = (.done none, v)) :
    s.recvInto w f bytes take = .next ((take v).writeResult w f.d 0 false) := by
  simp only [State.recvInto, halign, ne_eq, not_true_eq_false, if_false, hstore]

theorem State.recvIssue_noQueue (hown : s.ownQueue w ((s.str w).xr f.b).toNat = false) :
    s.recvIssue w f = .next (s.writeResult w f.d 2 true) := if_pos (by simp [hown])

variable (hown : s.ownQueue w ((s.str w).xr f.b).toNat = true)
include hown

/-- What the journal holds for this RECV is given again. -/
theorem State.recvIssue_journaled (hj : s.journaled w (((s.str w).xr f.b).toNat % 64) = some bytes) : s.recvIssue w f =
    s.recvInto w f bytes (fun s' => s'.updJrn (basinOfStr w) ((s.str w).taskId.setWidth 48) (fun j => { j with returned := j.returned + 1 })) := by
  unfold State.journaled at hj
  simp only [State.recvIssue, hown, Bool.not_true, Bool.false_eq_true, if_false, hj, StrSt.task]

variable (hj : s.journaled w (((s.str w).xr f.b).toNat % 64) = none)
include hj

theorem State.recvIssue_empty (hnone : firstUntaken 0 (s.queue (basinOfStr w) (((s.str w).xr f.b).toNat % 64)).entries = none) :
    s.recvIssue w f = .next (s.writeResult w f.d 1 true) := by
  unfold State.journaled at hj
  simp only [State.recvIssue, hown, Bool.not_true, Bool.false_eq_true, if_false, hj, hnone]

/-- The entry taken stays in its queue with the task's mark, and is recorded in the task's journal. -/
theorem State.recvIssue_takes {k : Nat} {e : QEntry}
    (hfirst : firstUntaken 0 (s.queue (basinOfStr w) (((s.str w).xr f.b).toNat % 64)).entries = some (k, e)) : s.recvIssue w f =
    let b := basinOfStr w
    let q := ((s.str w).xr f.b).toNat % 64
    let id := (s.str w).taskId.setWidth 48
    s.recvInto w f e.bytes (fun s =>
      (s.setQueue b q { s.queue b q with entries := (s.queue b q).entries.set k { e with taken := some id } }).updJrn b id
        (fun j => { j with recv := j.recv ++ [(q, e.bytes)], returned := j.returned + 1 })) := by
  unfold State.journaled at hj
  simp only [State.recvIssue, hown, Bool.not_true, Bool.false_eq_true, if_false, hj, hfirst, StrSt.task]

end Recv

theorem exec_recv_retires {s t : State} {w : StrId} {p : Pfx} {f : FmtB} (h : s.issues w p) (hp : p.bare) (hx : f.x = false)
    (hissue : s.recvIssue w f = .next t) : exec (.recv w p f) s = .next (settle s (s.retire w p 3 t)) :=
  (exec_recv ..).trans (run_retires h ((legal_bare hp).and hx) ((h.micro _).trans hissue))

/-- Settles O19: each wait is its equation at issue; RECV is given a journaled entry, the oldest untaken one, or none. -/
theorem recvAndWaits : Obligations.RecvAndWaits := by
  refine ⟨fun s u w p h hp hdrain => ⟨fun f hb hx => exec_waitt_issued hdrain h hp hb hx, fun f hx => exec_waita_issued hdrain h hp hx,
      fun f hx => exec_waitq_issued hdrain h hp hx, fun f hx => exec_sleep_issued hdrain h hp hx⟩,
    fun s w p f h hp hx => ?recv⟩
  case recv =>
    intro t b x y
    have hown := s.ownQueue_iff w x
    refine ⟨fun hbad => ?noQueue, fun j bytes v hb hen hmsg hj he halign hstore => ?journaled, fun hb hen hmsg hheld htaken => ?empty,
      fun pre post e v hb hen hmsg hheld hsplit hpre he halign hstore => ?takes⟩
    case noQueue =>
      exact exec_recv_retires h hp hx (State.recvIssue_noQueue (Bool.eq_false_iff.mpr (mt hown.mp hbad)))
    case journaled =>
      exact exec_recv_retires h hp hx ((State.recvIssue_journaled (hown.mpr ⟨hb, hen, hmsg⟩) (State.journaled_eq_some hj he)).trans
        (State.recvInto_done halign hstore))
    case empty =>
      exact exec_recv_retires h hp hx (State.recvIssue_empty (hown.mpr ⟨hb, hen, hmsg⟩) (State.journaled_eq_none hheld)
        (firstUntaken_eq_none htaken 0))
    case takes =>
      have hfirst : firstUntaken 0 y.entries = some (pre.length, e) := by
        rw [hsplit, firstUntaken_append hpre he, Nat.zero_add]
      exact exec_recv_retires h hp hx ((State.recvIssue_takes (hown.mpr ⟨hb, hen, hmsg⟩) (State.journaled_eq_none hheld) hfirst).trans
        (State.recvInto_done halign hstore))

/-! ### The ends of waits (R217 to R223, Table 07-19) -/

section Ends
variable {s : State} {w : StrId} {d : RegNo}

theorem State.canWake_of_clocked (h : s.eclkOn (basinOfStr w) = true ∨ s.napping = true) : s.canWake w = true := by
  simpa only [State.canWake, Bool.or_eq_true] using h

/-- A wait that ends in a pond that is awake wakes nothing else. -/
theorem State.endWait_awake (hnap : s.napping = false) (hgate : s.isGated w.pond.val = false) (code : Nat) :
    s.endWait w d code = (s.resume w).writeResult w d (BitVec.ofNat 64 code) (code != 0) := by
  have hwake : s.wakePond w.pond.val = s := if_neg (Bool.eq_false_iff.mp hgate)
  simp only [State.endWait, State.napEnd, hnap, Bool.false_eq_true, if_false, hwake]

variable (hwake : s.canWake w = true)
include hwake

theorem State.waittEnd_due {target : Word} (hrun : (s.str w).run = .waiting (.waitt target d)) (hdt : dtGe s.dt target = true) :
    s.waittEnd w = s.endWait w d 0 := by
  simp only [State.waittEnd, hrun, hwake, hdt, Bool.and_self, if_true]

theorem State.sleepEnd_due {wake : Word} (hrun : (s.str w).run = .waiting (.sleep wake))
    (hdue : deadlinePassed s.dt wake = true ∨ (s.str w).evlatch ≠ 0) : s.sleepEnd w = (s.napEnd.wakePond w.pond.val).resume w := by
  have hgo : (s.canWake w && (deadlinePassed s.dt wake || (s.str w).evlatch != 0)) = true := by simpa [hwake] using hdue
  simp only [State.sleepEnd, hrun, hgo, if_true]

section Waita
variable {a : Nat} {target dl : Word} (hrun : (s.str w).run = .waiting (.waita a target dl d))
include hrun

theorem State.waitaEnd_gone (hgone : s.axisGone a = true) : s.waitaEnd w = s.endWait w d (s.goneCode a target) := by
  simp only [State.waitaEnd, hrun, hwake, hgone, Bool.not_true, Bool.false_eq_true, if_false, if_true]

theorem State.waitaEnd_reached (htracks : s.fld (AX_STAT.STATE a) = 2) (hma : s.maReached a target = true) :
    s.waitaEnd w = s.endWait w d 0 := by
  have hhere : s.axisGone a = false := by simp [State.axisGone, htracks]
  have hreached := (s.axisReached_iff a target).mpr ⟨htracks, hma⟩
  simp only [State.waitaEnd, hrun, hwake, hhere, hreached, Bool.not_true, Bool.false_eq_true, if_false, if_true]

/-- At the deadline of a WAITA a tracker that is gone, or a target reached, wins. -/
theorem State.waitLate_waita (hdl : deadlinePassed s.dt dl = true) : s.waitLate w = s.endWait w d
    (if s.fld (AX_STAT.STATE a) = 0 ∨ s.fld (AX_STAT.STATE a) = 4 then s.goneCode a target
     else if s.fld (AX_STAT.STATE a) = 2 ∧ s.maReached a target = true then 0 else 1) := by
  simp only [State.waitLate, hrun, hwake, hdl, Bool.and_self, Bool.not_true, Bool.false_eq_true, if_false, State.axisGone_iff,
    State.axisReached_iff, apply_ite (s.endWait w d)]

end Waita

section Waitq
variable {sel dl : Word} (hrun : (s.str w).run = .waiting (.waitq sel dl d))
include hrun

theorem State.waitqEnd_woken (hwoken : (s.str w).woken = true) : s.waitqEnd w = s.endWait w d 0 := by
  simp only [State.waitqEnd, hrun, hwake, hwoken, Bool.not_true, Bool.false_eq_true, if_false, if_true]

variable (hwoken : (s.str w).woken = false)
include hwoken

theorem State.waitqEnd_bad (hbad : s.qsel w sel.toNat = .bad) : s.waitqEnd w = s.endWait w d 3 := by
  simp only [State.waitqEnd, hrun, hwake, hwoken, hbad, Bool.not_true, Bool.false_eq_true, if_false, if_true]

theorem State.waitqEnd_ready (hgood : s.qsel w sel.toNat ≠ .bad) (hready : s.qselReady w (s.qsel w sel.toNat) = true) :
    s.waitqEnd w = (s.takeEvent w (s.qsel w sel.toNat)).endWait w d 0 := by
  simp only [State.waitqEnd, hrun, hwake, hwoken, if_neg hgood, hready, Bool.not_true, Bool.false_eq_true, if_false, if_true]

theorem State.waitLate_waitq (hnot : s.qselReady w (s.qsel w sel.toNat) = false) (hdl : deadlinePassed s.dt dl = true) :
    s.waitLate w = s.endWait w d 1 := by
  simp only [State.waitLate, hrun, hwake, hwoken, hnot, hdl, Bool.and_self, Bool.not_true, Bool.false_eq_true, if_false]

end Waitq

end Ends

/-! ### The ends of waiting outputs (R89, R208, R390) -/

section Outputs
variable {s : State} {w : StrId} {d : RegNo} {since : Word}

/-- The oldest EMIT of a weir is accepted when every check passes. -/
theorem State.emitServe_accepts {n m : Nat} {a : Atx} {low : Word} {code : Nat} {rest : List StrId} (hw : (s.weir n).waiters = w :: rest)
    (hrun : (s.str w).run = .waiting (.emit a m low since code d)) (hweir : s.weirRefusal m a low = 0) (hwait : s.waitRefusal m = 0) :
    s.emitServe n = (s.emitLeaves w).emitAccept w m a low d := by
  simp only [State.emitServe, hw, hrun, hweir, hwait, and_self, if_true]

theorem State.emitTimeout_due {n : Nat} {a : Atx} {low : Word} {code : Nat} (hrun : (s.str w).run = .waiting (.emit a n low since code d))
    (hlate : elapsed s.dt since (30 * s.fld WEIRG_EMITWAIT.EMIT_WAIT_MAX) = true) : s.emitTimeout w = s.emitRefuse w n code d := by
  simp only [State.emitTimeout, hrun, hlate, if_true]

theorem State.postTimeout_due {x : Nat} {bytes : List Byte} (hrun : (s.str w).run = .waiting (.post x bytes since d))
    (hlate : elapsed s.dt since (usTicks 2) = true)
    (hfull : s.taskPostCheck (s.postTarget (BitVec.ofNat 64 x)).1 (s.postTarget (BitVec.ofNat 64 x)).2 bytes = .full) :
    s.postTimeout w =
      (s.resume w).postRefuse w (s.postTarget (BitVec.ofNat 64 x)).1 (s.postTarget (BitVec.ofNat 64 x)).2 1 d := by
  simp only [State.postTimeout, State.postRetry, hrun, hlate, hfull, if_true]

theorem State.commitTimeout_due {src dst : Word} (hrun : (s.str w).run = .waiting (.commit src dst since d))
    (hlate : elapsed s.dt since (usTicks 2) = true) : s.commitTimeout w = (s.resume w).outputDone w d 3 true := by
  simp only [State.commitTimeout, hrun, hlate, if_true]

end Outputs

/-- Settles O20: each clause about a command is the equation of the end it makes. -/
theorem waitsAndOutputsEnd : Obligations.WaitsAndOutputsEnd := by
  refine ⟨fun s w hp hclock => ?waits, fun s w d since hp => ⟨fun n a low code rest hw hrun hweir hwait => ?accepts,
    fun n a low code hrun hlate => ?emitLate, fun x bytes hrun hlate hfull => ?postLate, fun src dst hrun hlate => ?commitLate⟩⟩
  case waits =>
    have hwake := State.canWake_of_clocked hclock
    refine ⟨fun target d hrun hdt => ?waitt, fun a target dl d hrun => ⟨fun htracks hma => ?reached, fun hgone => ?gone, fun hdl => ?late⟩,
      fun sel dl d hrun => ⟨fun hwoken => ?woken, fun hwoken hbad => ?bad, fun hwoken hgood hready => ?ready,
        fun hwoken hnot hdl => ?lateq⟩, fun wake hrun hdue => ?sleep, fun d code hnap hgate => State.endWait_awake hnap hgate code⟩
    case waitt => exact (exec_waittComplete ..).trans (run_eq hp (State.waittEnd_due hwake hrun hdt))
    case reached => exact (exec_waitaComplete ..).trans (run_eq hp (State.waitaEnd_reached hwake hrun htracks hma))
    case gone => exact (exec_waitaComplete ..).trans (run_eq hp (State.waitaEnd_gone hwake hrun ((s.axisGone_iff a).mpr hgone)))
    case late => exact (exec_waitDeadline ..).trans (run_eq hp (State.waitLate_waita hwake hrun hdl))
    case woken => exact (exec_waitqComplete ..).trans (run_eq hp (State.waitqEnd_woken hwake hrun hwoken))
    case bad => exact (exec_waitqComplete ..).trans (run_eq hp (State.waitqEnd_bad hwake hrun hwoken hbad))
    case ready => exact (exec_waitqComplete ..).trans (run_eq hp (State.waitqEnd_ready hwake hrun hwoken hgood hready))
    case lateq => exact (exec_waitDeadline ..).trans (run_eq hp (State.waitLate_waitq hwake hrun hwoken hnot hdl))
    case sleep => exact (exec_sleepComplete ..).trans (run_eq hp (State.sleepEnd_due hwake hrun hdue))
  case accepts => exact (exec_emitStallAccept ..).trans (run_eq hp (State.emitServe_accepts hw hrun hweir hwait))
  case emitLate => exact (exec_emitWaitTimeout ..).trans (run_eq hp (State.emitTimeout_due hrun hlate))
  case postLate => exact (exec_postWaitTimeout ..).trans (run_eq hp (State.postTimeout_due hrun hlate hfull))
  case commitLate => exact (exec_commitBusyTimeout ..).trans (run_eq hp (State.commitTimeout_due hrun hlate))

end Sys2Proof.Machine
end

section
/-!
PROOFS. How tasks begin and end (R207, R212, R215, R343, R392): TASKEND and the end message, the time limit, dispatch, and the state in
which a strider starts a task.
-/

namespace Sys2Proof.Machine

/-! ### Ends (R212, R215) -/

section End
variable {s u : State} {w : StrId}

/-- TASKEND with its buffers drained leaves the loops and ends the task. -/
theorem State.taskendIssue_drained {f : FmtA} (hdrain : s.drainAll w = (true, u)) : s.taskendIssue w f =
    .over_ ((u.setStr w { u.str w with psw := pswSetLd (u.str w).psw 0 }).endTask w 0 (((u.str w).xr f.r).setWidth 16)) :=
  State.afterDrain_drained hdrain _

theorem State.endRetry_waiting {code : BitVec 16} {reason : Nat} {since : Word}
    (hrun : ((s.retryEnds (basinOfStr w)).str w).run = .waiting (.taskEnd code reason since)) : s.endRetry w =
    if elapsed (s.retryEnds (basinOfStr w)).dt since (usTicks 1) then (s.retryEnds (basinOfStr w)).endTask w reason code
    else s.retryEnds (basinOfStr w) := by
  simp only [State.endRetry, hrun]

theorem State.abandonTask_drained (hdrain : s.drainAll w = (true, u)) (reason : Nat) :
    s.abandonTask w reason = (u.leaveWeir w).abandon w reason := by
  simp only [State.abandonTask, hdrain]

end End

/-! ### Dispatch (R207, R343, R392) -/

section Dispatch
variable {s : State} {w : StrId} {b q : Nat} (hb : basinOf w.pond.val = b) (htake : s.canTake w = true)
include hb htake

/-- A pending replay that fits the strider goes first. -/
theorem State.dispatch_replay {j : TaskJrn} (hj : (s.basin b).jrn.find? (s.replayFits w) = some j) : s.dispatch b q w =
    ((s.updJrn b j.taskId (fun j => { j with replays := j.replays + 1 })).addSat TJ_REPLAY.REPLAYED 1).startTask w j := by
  subst hb
  have hgo : ¬(basinOf w.pond.val ≠ basinOf w.pond.val ∨ (!s.canTake w) = true) := by simp [htake]
  simp only [State.dispatch, if_neg hgo, hj, State.startReplay, basinOfStr]

/-- The journal entry of a task at its first dispatch. -/
def State.firstEntry (s : State) (w : StrId) (e : QEntry) : TaskJrn :=
  { taskId := BitVec.ofNat 48 (leAt e.bytes 0 6), desc := e.bytes, dtDispatch := s.dt, strider := 0, phys := w,
    replays := 0, pending := false, log := [], cursor := 0, recv := [], returned := 0 }

/-- With no such replay, the head of the served queue leaves it and is journaled. -/
theorem State.dispatch_head {e : QEntry} {rest : List QEntry} (hj : (s.basin b).jrn.find? (s.replayFits w) = none)
    (hfits : s.headFits b q w = true) (hserved : s.servedNext b q = true) (hq : (s.queue b q).entries = e :: rest) : s.dispatch b q w =
    let u := s.setQueue b q { s.queue b q with entries := rest }
    (u.setBasin b { u.basin b with
      jrn := (u.basin b).jrn ++ [s.firstEntry w e]
      rotate := Tab.set (fun _ => 63) (u.basin b).rotate (s.queue b q).prio.toNat q }).startTask w (s.firstEntry w e) := by
  have hgo : ¬(basinOf w.pond.val ≠ b ∨ (!s.canTake w) = true) := by simp [hb, htake]
  have hserve : ¬(!(s.headFits b q w && s.servedNext b q)) = true := by simp [hfits, hserved]
  simp only [State.dispatch, if_neg hgo, hj, if_neg hserve, hq, State.firstEntry]

end Dispatch

/-! ### The start of a task (R207, R301) -/

@[simp] theorem State.str_wakePond (s : State) (p : Nat) (w : StrId) : (s.wakePond p).str w = s.str w := by
  simp only [State.wakePond]
  split_ifs <;> rfl

@[simp] theorem State.dt_wakePond (s : State) (p : Nat) : (s.wakePond p).dt = s.dt := by
  simp only [State.wakePond]
  split_ifs <;> rfl

/-- A started strider stands as R207 has it, its limit sampled from the descriptor or from its pond. -/
theorem State.str_startTask (s : State) (w : StrId) (j : TaskJrn) : (s.startTask w j).str w = startStr (s.str w) j.desc j.taskId s.dt
    (if leAt j.desc 56 4 = 0 then s.fld (POND_CTL.TASK_MAX w.pond.val) else leAt j.desc 56 4) := by
  simp only [State.startTask, State.addWrap, State.str_setFld, State.str_setStr_same, State.updJrn, State.str_setBasin, State.str_wakePond,
    State.dt_setBasin, State.dt_wakePond]

section Start
variable (old : StrSt) (desc : List Byte) (id : BitVec 48) (now : Word) (limit : Nat)

/-- The general registers at the start: the four arguments of the descriptor. -/
theorem xr_startStr (r : RegNo) : (startStr old desc id now limit).xr r =
    if r = 1 then BitVec.ofNat 64 (leAt desc 32 8) else if r = 2 then BitVec.ofNat 64 (leAt desc 40 8)
    else if r = 3 then BitVec.ofNat 64 (leAt desc 48 8) else if r = 31 then BitVec.ofNat 64 (leAt desc 24 8) else 0 := by
  simp only [StrSt.xr, startStr, Tab.get_set, Tab.get, Fin.ext_iff]
  grind

end Start

/-- Settles O21: each clause about a command is the end or the dispatch that it makes; a task's first state is read off its descriptor. -/
theorem tasksBeginAndEnd : Obligations.TasksBeginAndEnd := by
  refine ⟨fun s w hp => ⟨fun p f u h hbare hx hdrain => ?taskend, fun code reason since hrun => ?retry, fun hrun ht => ?limit,
      fun p hexec ht => ?instruction, fun u hdrain => State.abandonTask_drained hdrain 1, fun b q j hnap hb htake hj => ?replay,
      fun b q e rest hnap hb htake hj hfits hserved hq => ?head, s.str_startTask w⟩,
    fun old desc id now limit => ?start⟩
  case taskend =>
    exact (exec_taskend ..).trans (run_ends h ((legal_bare hbare).and (bne_eq_false_iff_eq.mpr hx))
      ((h.micro _).trans (State.taskendIssue_drained hdrain)))
  case retry => exact (exec_endMsgRetry ..).trans (run_eq hp (State.endRetry_waiting hrun))
  case limit => exact (exec_taskAbandon ..).trans (run_eq hp (if_pos ⟨hrun, ht⟩))
  case instruction => exact (exec_nop ..).trans (run_eq hp (State.instr_timeUp _ hexec ht))
  case replay =>
    exact (exec_taskDispatch ..).trans (run_eq hp ((if_neg (by simp [hnap])).trans (State.dispatch_replay hb htake hj)))
  case head =>
    exact (exec_taskDispatch ..).trans (run_eq hp ((if_neg (by simp [hnap])).trans (State.dispatch_head hb htake hj hfits hserved hq)))
  case start =>
    have hx := xr_startStr old desc id now limit
    refine ⟨rfl, rfl, (hx 1).trans rfl, (hx 2).trans rfl, (hx 3).trans rfl, (hx 31).trans rfl, rfl, ?_, rfl, rfl, rfl, fun r hr => ?_,
      fun r => rfl, rfl, rfl, rfl, rfl, rfl, rfl, rfl, rfl, rfl⟩
    · exact BitVec.setWidth_setWidth_of_le id (by decide)
    · simp only [List.mem_cons, List.not_mem_nil, or_false, not_or] at hr
      obtain ⟨h1, h2, h3, h31⟩ := hr
      rw [hx, if_neg h1, if_neg h2, if_neg h3, if_neg h31]

end Sys2Proof.Machine
end

section
/-!
PROOFS. What traps before it has an effect (R187, R188, R190, R198, R201, R270), and a customer instruction of one microword (R252, R255,
R260, Tables 09-2 to 09-7).
-/

namespace Sys2Proof.Machine

/-! ### Illegal instructions and failed fetches -/

/-- Some of the three prefixes does not apply (Table 07-4, R198). -/
theorem badPfx_iff {p : Pfx} {rep nt wide : Bool} : badPfx p rep nt wide = true ↔
    (p.rep = true ∧ rep = false) ∨ (p.nt = true ∧ nt = false) ∨ (p.wide = true ∧ wide = false) := by
  simp only [badPfx, Bool.or_eq_true, Bool.and_eq_true, Bool.not_eq_true', or_assoc]

section Unfetched
variable {s : State} {w : StrId} {p : Pfx} (hp : s.powered = true) (hx : s.executes w = true) (ht : s.timeUp w = false) (he : p.err = .none)
include hp hx ht he

/-- An opcode that no table defines where it stands (R187, R190). -/
theorem exec_undefinedOpcode_illegal {op : Byte} (hf : ∀ n ≤ 15, s.fetchCheck w n = .ok)
    (hundef : (if cxPrefixed p then decide (op.toNat ≤ 0x3F) else opcodeDefined op.toNat) = false) :
    exec (.undefinedOpcode w p op) s = .next (settle s (s.takeTrap w Cause.illegal p.raw (s.str w).pc false)) := by
  refine (exec_undefinedOpcode ..).trans (run_eq hp ((if_neg (Bool.eq_false_iff.mp hundef)).trans ?_))
  exact (State.instr_fetched (p := { p with rep := false }) _ hx ht he (hf _ (Nat.min_le_right ..))).trans (if_pos rfl)

theorem exec_fetchFault_traps {c v : Nat} {x : Bool} (hf : s.fetchCheck w 15 = .trap c v) :
    exec (.instructionFetchFault w p x) s = .next (settle s (s.takeTrap w c (BitVec.ofNat 64 v) (s.str w).pc false)) :=
  (exec_instructionFetchFault ..).trans (run_eq hp (State.instr_fetchTrapped (p := { p with rep := false }) _ hx ht he hf))

/-- Code found uncorrectable as it is fetched (R270). -/
theorem exec_fetchFault_poison (hf : s.fetchCheck w 15 = .ok) :
    exec (.instructionFetchFault w p true) s = .next (settle s (s.takeTrap w Cause.poison (s.str w).pc (s.str w).pc false)) := by
  refine (exec_instructionFetchFault ..).trans (run_eq hp ?_)
  refine (State.instr_fetched (p := { p with rep := false }) _ hx ht he hf).trans ((if_neg (by simp)).trans ((if_neg (by simp)).trans ?_))
  simp only [if_true, State.outcome_trap]

end Unfetched

/-! ### Customer instructions (R252, R255, R260) -/

/-- The state in which a customer instruction starts its first microword (R252). -/
def Mic.start (t : StrSt) (e : Nat) (bad : Option (Bool × Nat)) : Mic :=
  { upc := DE.entry e, mt := List.replicate 8 0, mdr := 0, fl := ⟨false, false, false, false⟩, stack := [], x := t.x, f := t.f,
    stores := [], fmask := 0, bad := bad }

theorem State.cxRun_starts {s : State} {w : StrId} {e : Nat} {o : CxOps} {next : Word} {bad : Option (Bool × Nat)}
    (hnone : (s.str w).uc.find? (fun u => u.ready && u.addr == (s.str w).pc) = none) :
    s.cxRun w e o next bad = runMicro w e o next false 65536 (Mic.start (s.str w) e bad) s := by
  simp only [State.cxRun, hnone, Mic.start]

/-- Replacing the bits of an empty mask changes nothing. -/
theorem pswPut_zero (p v : Word32) : pswPut p 0 v = p := by
  exact BitVec.eq_of_getLsbD_eq fun i hi => (getLsbD_pswPut _ _ _ hi).trans (if_neg (by simp))

/-- A commit without stores and flags puts the registers into force. -/
theorem Mic.commit_registers {m : Mic} (hs : m.stores = []) (hm : m.fmask = 0) (s : State) (w : StrId) :
    m.commit s w = (true, s.setStr w { s.str w with x := m.x, f := m.f }) := by
  have hmask : BitVec.ofNat 32 (fmaskBits 0) = 0 := by decide
  simp only [Mic.commit, hs, hm, hmask, pswPut_zero, List.foldl_nil, if_true]

section Last
variable {s : State} {w : StrId} {e : Nat} {o : CxOps} {next : Word} {uip : Bool} {n : Nat} {m : Mic} {word : Nat}

/-- The registers once a microword has put its result into its destination. -/
def Mic.done (m : Mic) (s : State) (w : StrId) (e : Nat) (o : CxOps) (next : Word) (word : Nat) : Mic :=
  m.dest e o (MW.dest word)
    (microAlu (MW.alu word) (m.source s w e o next word (MW.srcA word)) (m.source s w e o next word (MW.srcB word))).1

/-- A good microword without access, trap and micro-flags that ends the instruction commits what it did (R255). -/
theorem runMicro_last (hword : s.ucWord m.upc = word) (hcs : (s.pond w.pond.val).csBad.contains m.upc = false) (hbad : m.bad = none)
    (hcodes : MW.codesOk word = true) (hufl : MW.ufl word = false) (hten : MW.ten word = false) (hmem : MW.mem word = 0)
    (hseq : MW.seq word = 5) {t : State}
    (hcommit : Mic.commit { m.done s w e o next word with fmask := (m.done s w e o next word).fmask ||| MW.fmask word } s w = (true, t)) :
    runMicro w e o next uip (n + 1) m s = .next t := by
  have hend (m' : Mic) : m'.seqNext word = .inr none := by simp [Mic.seqNext, hseq]
  unfold Mic.done at hcommit
  have hgood (b : Bool) : (none == some (b, m.upc)) = false := rfl
  rw [runMicro]
  simp only [hword, hcs, hbad, hcodes, hufl, hten, hmem, hend, hgood, hcommit, Bool.or_self, Bool.not_true, Bool.false_and,
    Bool.false_eq_true, if_false]

end Last

/-- The checks of Table 09-7 for a format B entry that uses d, a and b. -/
theorem cxBad_formatB {e : Nat} {p : Pfx} {o : CxOps} (hp : p.plain) (hrep : p.rep = true → DE.repok e = true) (hfmt : DE.format e = 2)
    (huse : DE.use e = 14) (hx : o.x ≤ DE.xmax e) (hc : o.c = 0) : cxBad e p o = false := by
  obtain ⟨-, hwide⟩ := hp
  have hrepok : (p.rep && !DE.repok e) = false := by
    cases hr : p.rep
    · rfl
    · simp [hrep hr]
  have huses : Nat.testBit 14 3 = true ∧ Nat.testBit 14 2 = true ∧ Nat.testBit 14 1 = true := by decide
  simp [cxBad, hrepok, hwide, hfmt, huse, huses, hx, hc, zeroReg]

/-- The operands of format B (Table 07-5). -/
theorem cxFields_formatB (ops : List Byte) : cxFields 2 false ops =
    { d := Fin.ofNat 32 (leNat (slice ops 0 2)), a := Fin.ofNat 32 (leNat (slice ops 0 2) / 2 ^ 5),
      b := Fin.ofNat 32 (leNat (slice ops 0 2) / 2 ^ 10), c := 0, x := leNat (slice ops 0 2) / 2 ^ 15 % 2, imm := 0 } := by
  simp [cxFields, cxLen, regAt, bitsFrom]

/-- The registers after a microword that adds a and b into d. -/
theorem Mic.done_adds {s : State} {w : StrId} {e : Nat} {o : CxOps} {next : Word} {word : Nat} {bad : Option (Bool × Nat)}
    (hdf : DE.df e = false) (hsf : DE.sf e = false) (halu : MW.alu word = 2) (ha : MW.srcA word = 3) (hb : MW.srcB word = 4)
    (hd : MW.dest word = 1) : (Mic.start (s.str w) e bad).done s w e o next word =
      { Mic.start (s.str w) e bad with x := ((s.str w).setX o.d ((s.str w).xr o.a + (s.str w).xr o.b)).x } := by
  have hreg (r : RegNo) : (Mic.start (s.str w) e bad).reg false r = (s.str w).xr r := rfl
  simp only [Mic.done, halu, ha, hb, hd, Mic.source, Mic.dest, microAlu, hdf, hsf, hreg]
  simp only [Mic.setReg, StrSt.setX, Bool.false_eq_true, if_false]
  split <;> rfl

/-- What such a microword commits is the sum in d. -/
theorem Mic.commit_sum {s : State} {w : StrId} {e : Nat} {o : CxOps} {next : Word} {word : Nat} {bad : Option (Bool × Nat)}
    (hdf : DE.df e = false) (hsf : DE.sf e = false) (halu : MW.alu word = 2) (ha : MW.srcA word = 3) (hb : MW.srcB word = 4)
    (hd : MW.dest word = 1) (hfm : MW.fmask word = 0) :
    Mic.commit { (Mic.start (s.str w) e bad).done s w e o next word with
        fmask := ((Mic.start (s.str w) e bad).done s w e o next word).fmask ||| MW.fmask word } s w =
      (true, s.setStr w ((s.str w).setX o.d ((s.str w).xr o.a + (s.str w).xr o.b))) := by
  have hset (t : StrSt) (r : RegNo) (v : Word) : { t with x := (t.setX r v).x } = t.setX r v := by
    unfold StrSt.setX
    split <;> rfl
  rw [Mic.done_adds hdf hsf halu ha hb hd, hfm, Mic.commit_registers rfl (Nat.or_zero _), ← hset]
  rfl

section Decoded
variable {s u : State} {w : StrId} {p : Pfx} {op : Fin 64} {ops : List Byte} (h : s.issues w p) (hp : p.plain)
include h hp

/-- The trap of an invalid decode entry, whatever its repeat count (R260). -/
theorem exec_cx_invalid (hvalid : DE.valid (s.ucEntry op.val) = false) : exec (.cxInstruction w p op ops) s =
    .next (settle s (s.takeTrap w Cause.cxundef (BitVec.ofNat 64 op.val) (s.str w).pc false)) := by
  obtain ⟨hnt, -⟩ := id hp
  obtain ⟨hpow, hexec, htime, hfetch, herr, -⟩ := id h
  have honce : s.issues w { p with rep := false } := ⟨hpow, hexec, htime, hfetch, herr, Bool.noConfusion⟩
  have hlen : prefixLen p + 2 ≤ 15 := by have := prefixLen_plain_le hp; omega
  refine (exec_cxInstruction ..).trans (run_eq hpow ?_)
  simp only [hnt, hvalid, Bool.false_eq_true, if_false, Bool.not_false, if_true]
  exact (State.instr_issued _ honce hlen).trans (State.outcome_trap ..)

/-- A customer instruction of format B of legal form makes its microwords. -/
theorem exec_cx_issued {o : CxOps} (ho : cxFields 2 false ops = o) (hvalid : DE.valid (s.ucEntry op.val) = true)
    (hfmt : DE.format (s.ucEntry op.val) = 2) (hrep : p.rep = true → DE.repok (s.ucEntry op.val) = true)
    (huse : DE.use (s.ucEntry op.val) = 14) (hx : o.x ≤ DE.xmax (s.ucEntry op.val)) (hc : o.c = 0)
    (hnone : (s.str w).uc.find? (fun u => u.ready && u.addr == (s.str w).pc) = none)
    (hrun : runMicro w (s.ucEntry op.val) o ((s.str w).pc + BitVec.ofNat 64 (prefixLen p + 2 + 2)) false 65536
      (Mic.start (s.str w) (s.ucEntry op.val) none) s = .next u) :
    exec (.cxInstruction w p op ops) s = .next (settle s (s.retire w p 4 u)) := by
  obtain ⟨hnt, hwide⟩ := id hp
  obtain ⟨hpow, -, -, -, herr, -⟩ := id h
  have hl : LegalForm p (prefixLen p + 2 + 2) (cxBad (s.ucEntry op.val) p o) 4 :=
    ⟨cxBad_formatB hp hrep hfmt huse hx hc, rfl, by have := prefixLen_plain_le hp; omega⟩
  refine (exec_cxInstruction ..).trans (run_eq hpow ?_)
  simp only [hnt, hvalid, hfmt, hwide, herr, ho, Bool.false_eq_true, if_false, Bool.not_true]
  refine (State.instr_legal h hl ?_).trans (State.outcome_next ..)
  exact (State.cxRun_starts hnone).trans hrun

end Decoded

/-- Settles O16: what has an illegal form, no defined opcode or a failed fetch traps; a one-word customer instruction commits its sum. -/
theorem illegalFetchAndCustomer : Obligations.IllegalFetchAndCustomer := by
  refine ⟨fun s w p hp hx ht he hf => ?illegal, fun s w p hp hx ht he => ⟨fun op hf hundef => ?undefined,
      fun c v x hfetch => exec_fetchFault_traps hp hx ht he hfetch, fun hfetch => exec_fetchFault_poison hp hx ht he hfetch⟩,
    fun s w p op ops h hplain => ?customer⟩
  case illegal =>
    intro ill
    have hill {len : Nat} {bad : Bool} (body : State → Res) (hbad : bad = true) : run s (fun s => s.instr w p len bad body) = ill :=
      run_illegal body hx ht he hp hf (.inl hbad)
    have hbare : p.rep = true ∨ p.nt = true ∨ p.wide = true → badPfx p false false false = true := fun h => by
      simpa only [badPfx_iff, and_true] using h
    have hnarrow : p.nt = true ∨ p.wide = true → badPfx p true false false = true := fun h => by
      simpa only [badPfx_iff, and_true, Bool.true_eq_false, and_false, false_or] using h
    refine ⟨fun hpfx => ⟨?nop, fun d => ?j⟩, fun f hpfx => ?add, fun f hbad => ?cmp, fun f hbad => ?sel, fun f hbad => ⟨fun e => ?ld, ?st⟩,
      fun f hbad => ⟨?fopS, ?fopD⟩, fun f hbad => ⟨?mfs, ?mts⟩⟩
    case nop => exact (exec_nop ..).trans (hill _ (hbare hpfx))
    case j => exact (exec_j ..).trans (hill _ (hbare hpfx))
    case add => exact (exec_add ..).trans (hill _ (by simp [hnarrow hpfx]))
    case cmp =>
      have hd : f.d ≠ 0 → zeroReg f.d = false := fun hd => by simpa [zeroReg] using hd
      have hform : (!zeroReg f.d || f.x) = true := by simpa [or_iff_not_imp_left] using fun hz => hbad.resolve_left (mt hd (by simp [hz]))
      exact (exec_cmp ..).trans (hill _ (by rw [hform, Bool.or_true]))
    case sel => exact (exec_sel ..).trans (hill _ (by simp [hbad]))
    case ld => exact (exec_ld ..).trans (hill _ (by simp [hbad]))
    case st => exact (exec_st ..).trans (hill _ (by simp [hbad]))
    case fopS => exact (exec_fopS ..).trans (hill _ (by simp [badFop, hbad]))
    case fopD => exact (exec_fopD ..).trans (hill _ (by simp [badFop, hbad]))
    case mfs => exact (exec_mfs ..).trans (hill _ (by simp [hbad]))
    case mts => exact (exec_mts ..).trans (hill _ (by simp [hbad]))
  case undefined =>
    refine exec_undefinedOpcode_illegal hp hx ht he hf ?_
    split at hundef
    · rw [if_pos ‹_›, decide_eq_false (not_le.mpr hundef)]
    · rw [if_neg ‹_›, hundef]
  case customer =>
    obtain ⟨hnt, hwide⟩ := id hplain
    intro t e v d a b word
    refine ⟨fun hvalid hfmt hrep huse hdf hsf hxmax hcs hnone hcodes hseq halu ha hb hd hmem hfm hufl hten => ?adds, fun hvalid => ?invalid⟩
    case adds =>
      have hsum := Mic.commit_sum (s := s) (w := w) (o := { d := d, a := a, b := b, c := 0, x := v / 2 ^ 15 % 2, imm := 0 })
        (next := t.pc + BitVec.ofNat 64 (prefixLen p + 2 + 2)) (bad := none) hdf hsf halu ha hb hd hfm
      have hrun := runMicro_last (m := Mic.start t e none) (word := word) (uip := false) (n := 65535) rfl hcs rfl hcodes hufl hten hmem hseq hsum
      exact exec_cx_issued h hplain (cxFields_formatB ops) hvalid hfmt hrep huse hxmax rfl hnone hrun
    case invalid => exact exec_cx_invalid h hplain hvalid

end Sys2Proof.Machine
end

section
/-!
PROOFS. The divide group of a strider (Table 07-8, R228, R229) and its obligation.
-/

namespace Sys2Proof.Machine

/-! ### Quotients and remainders (R228, R229) -/

theorem toInt_remS (a b : Word) : (remS a b).toInt = a.toInt.tmod b.toInt := by
  rw [remS, ← BitVec.toInt_srem, BitVec.ofInt_toInt]

/-- Quotient and remainder make the dividend, also where the quotient overflows. -/
theorem remS_eq_sub (a b : Word) : remS a b = a - divS a b * b := by
  refine eq_sub_of_add_eq ?_
  calc remS a b + divS a b * b
      = remS a b + divS a b * BitVec.ofInt 64 b.toInt := by rw [BitVec.ofInt_toInt]
    _ = BitVec.ofInt 64 (a.toInt.tmod b.toInt + a.toInt.tdiv b.toInt * b.toInt) := by
        rw [remS, divS, BitVec.ofInt_add, BitVec.ofInt_mul]
    _ = a := by rw [Int.tmod_add_tdiv_mul, BitVec.ofInt_toInt]

theorem natAbs_remS_lt (a : Word) {b : Word} (hb : b ≠ 0) : (remS a b).toInt.natAbs < b.toInt.natAbs := by
  have hb' : b.toInt ≠ 0 := fun h => hb (BitVec.toInt_inj.mp (h.trans BitVec.toInt_zero.symm))
  rw [toInt_remS, Int.natAbs_tmod]
  exact Nat.mod_lt _ (Int.natAbs_pos.mpr hb')

/-- A remainder that is not 0 takes the dividend's sign. -/
theorem remS_sign (a b : Word) : remS a b = 0 ∨ ((remS a b).toInt < 0 ↔ a.toInt < 0) := by
  by_cases hdvd : b.toInt ∣ a.toInt
  · exact .inl (BitVec.toInt_inj.mp ((toInt_remS a b).trans ((Int.tmod_eq_zero_of_dvd hdvd).trans BitVec.toInt_zero.symm)))
  · have hsign : (remS a b).toInt.sign = a.toInt.sign := by rw [toInt_remS, Int.sign_tmod, if_neg hdvd]
    exact .inr (by rw [← Int.sign_eq_neg_one_iff_neg, hsign, Int.sign_eq_neg_one_iff_neg])

theorem toNat_divU (a b : Word) : (divU a b).toNat = a.toNat / b.toNat :=
  Nat.mod_eq_of_lt ((Nat.div_le_self ..).trans_lt a.isLt)

theorem toNat_remU (a b : Word) : (remU a b).toNat = a.toNat % b.toNat :=
  Nat.mod_eq_of_lt ((Nat.mod_le ..).trans_lt a.isLt)

theorem divU_mul_add_remU (a b : Word) : a.toNat = (divU a b).toNat * b.toNat + (remU a b).toNat := by
  rw [toNat_divU, toNat_remU, Nat.div_add_mod']

theorem remU_lt (a : Word) {b : Word} (hb : b ≠ 0) : (remU a b).toNat < b.toNat := by
  rw [toNat_remU]
  exact Nat.mod_lt _ (Nat.pos_of_ne_zero fun h => hb (BitVec.eq_of_toNat_eq h))

/-! ### Traps and division (R200, R228) -/

/-- Handler mode begins with the flags as they are. -/
theorem getLsbD_pswSetH_flag (p : Word32) (h : Bool) {k : Nat} (hk : k < 4) : (pswSetH p h).getLsbD k = p.getLsbD k := by
  have hmask : ∀ k < 4, (0x80 : Word32).getLsbD k = false := by decide
  rw [pswSetH, getLsbD_pswPut _ _ _ (by omega), if_neg (hmask k hk ▸ Bool.false_ne_true)]

theorem State.haltPoint_setStr {s : State} {w : StrId} {t : StrSt} (hd : t.haltDue = false) : (s.setStr w t).haltPoint w = s.setStr w t :=
  State.haltPoint_none (by rw [State.str_setStr_same, hd])

/-- The registers of a strider without stores to perform and halt to take, once it has trapped in task mode. -/
theorem State.str_takeTrap_task {s : State} {w : StrId} {cause : Nat} {tval tpc : Word} (hh : pswH (s.str w).psw = false)
    (hsb : (s.str w).sb = []) (hd : (s.str w).haltDue = false) : (s.takeTrap w cause tval tpc false).str w =
      { s.str w with
        tpc := tpc, tpsw := (s.str w).psw, tcause := BitVec.ofNat 32 cause, tval := tval
        psw := pswSetH (s.str w).psw true, pc := (s.str w).tbase / 256 * 256 + BitVec.ofNat 64 (16 * cause)
        uc := (s.str w).uc.filter (fun x => !x.ready) } := by
  rw [State.takeTrap_task (State.drainStores_empty hsb) hh, State.haltPoint_setStr, State.str_setStr_same]
  exact hd

section Divide
variable {s : State} {w : StrId} {p : Pfx} {f : FmtB} {op : Word → Word → Word} (h : s.issues w p) (hp : p.plain)
include h hp

theorem run_divide_zero (hb : (s.str w).xr f.b = 0) :
    run s (fun s => s.fmtB w p false (fun s => s.micro w p (fun s => s.divB w f op))) =
      .next (settle s (s.takeTrap w Cause.divz 0 (s.str w).pc false)) :=
  run_traps h ((legal_plain hp (n := 3)).and rfl) ((h.micro _).trans (if_pos hb))

theorem run_divide (hb : (s.str w).xr f.b ≠ 0) :
    run s (fun s => s.fmtB w p false (fun s => s.micro w p (fun s => s.divB w f op))) =
      .next (settle s (s.retire w p 3 (s.setStr w ((s.str w).result f.d (op ((s.str w).xr f.a) ((s.str w).xr f.b)) f.x
        (flagsLogic (op ((s.str w).xr f.a) ((s.str w).xr f.b))))))) :=
  run_retires h ((legal_plain hp (n := 3)).and rfl) ((h.micro _).trans (if_neg hb))

end Divide

/-- Settles O4: by the divisor; what holds of quotient and remainder are the lemmas about them, and the overflow is one division. -/
theorem divideGroup : Obligations.DivideGroup := by
  intro s w p f h hp t a b q r qu ru trapped
  refine ⟨fun hb => ⟨(exec_div ..).trans (run_divide_zero h hp hb), (exec_divu ..).trans (run_divide_zero h hp hb),
      (exec_rem ..).trans (run_divide_zero h hp hb), (exec_remu ..).trans (run_divide_zero h hp hb), fun hh hsb hd => ?kept⟩,
    fun hb => ⟨(exec_div ..).trans (run_divide h hp hb), (exec_rem ..).trans (run_divide h hp hb),
      (exec_divu ..).trans (run_divide h hp hb), (exec_remu ..).trans (run_divide h hp hb), remS_eq_sub a b, natAbs_remS_lt a hb,
      remS_sign a b, fun ha hneg => ?overflow, divU_mul_add_remU a b, remU_lt a hb⟩⟩
  case kept =>
    have htrap : trapped.str w = _ := State.str_takeTrap_task hh hsb hd
    rw [htrap]
    exact ⟨fun x => rfl, fun k hk => getLsbD_pswSetH_flag _ _ hk, rfl⟩
  case overflow =>
    have hmin : divS (BitVec.intMin 64) (-1) = BitVec.intMin 64 ∧ remS (BitVec.intMin 64) (-1) = 0 := by decide
    rw [← ha, ← hneg] at hmin
    exact hmin.imp_left fun hq => hq.trans ha

end Sys2Proof.Machine
end

section
/-!
PROOFS. Floating-point instructions and what holds of signs and NaNs (R232, R239, R240, R242, R245), and their obligation.
-/

namespace Sys2Proof.Machine

/-- The sign bit of a number of the format is set in its upper half. -/
theorem FFmt.signBit_set_iff {f : FFmt} {a : Nat} (h : a < 2 * f.signBit) : a / f.signBit % 2 = 1 ↔ ¬a < f.signBit := by
  have hpos : 0 < f.signBit := Nat.two_pow_pos _
  have hlt : a / f.signBit < 2 := (Nat.div_lt_iff_lt_mul hpos).mpr h
  rw [← Nat.div_eq_zero_iff_lt hpos]
  generalize a / f.signBit = k at hlt ⊢
  omega

/-! ### Operands that are NaNs (R239, R243) -/

/-- The exponent field of a number. -/
def FFmt.expField (f : FFmt) (bits : Nat) : Nat := bits / 2 ^ (f.p - 1) % 2 ^ f.ebits

/-- A NaN has all ones in its exponent field, and comes with its own bits. -/
theorem FFmt.unpack_nan {f : FFmt} {bits n : Nat} {q : Bool} (h : f.unpack bits = .nan n q) : n = bits ∧ f.expField bits = f.emask := by
  simp only [FFmt.unpack] at h
  split_ifs at h with hex
  obtain ⟨rfl, -⟩ := FVal.nan.inj h
  exact ⟨rfl, hex⟩

/-- The zero that stands for a flushed number has exponent field 0. -/
theorem FFmt.expField_flushed (f : FFmt) (k : Nat) : f.expField (k * f.signBit) = 0 := by
  rw [FFmt.expField, FFmt.signBit, pow_add, ← mul_assoc, mul_right_comm, Nat.mul_div_cancel _ (Nat.two_pow_pos _), Nat.mul_mod_left]

section Nan
variable {f : FFmt} (he : 0 < f.ebits) (c : FCtl)
include he

theorem FFmt.unpack_ne_nan {bits n : Nat} {q : Bool} (h : f.expField bits = 0) : f.unpack bits ≠ .nan n q := fun hn => by
  obtain ⟨-, hmask⟩ := FFmt.unpack_nan hn
  have : 2 ≤ 2 ^ f.ebits := Nat.le_self_pow he.ne' 2
  rw [h, FFmt.emask] at hmask
  omega

/-- Flushing makes and removes no NaN. -/
theorem FFmt.unpack_daz_nan_iff {bits n : Nat} {q : Bool} : f.unpack (f.daz c bits).1 = .nan n q ↔ f.unpack bits = .nan n q := by
  unfold FFmt.daz
  split_ifs with hflush
  · simp only [FFmt.isSub, Bool.and_eq_true, decide_eq_true_eq] at hflush
    obtain ⟨-, hzero, -⟩ := hflush
    exact iff_of_false (FFmt.unpack_ne_nan he (FFmt.expField_flushed f _)) (FFmt.unpack_ne_nan he hzero)
  · rfl

end Nan

theorem anySignalling_iff (l : List FVal) : anySignalling l = true ↔ ∃ n, FVal.nan n true ∈ l := by
  induction l with
  | nil => simp [anySignalling]
  | cons v l ih => cases v <;> simp [anySignalling, ih, exists_or]

/-! ### Results that are NaNs (R235, R239) -/

/-- The result of an operation whose first operand is a NaN: it is made quiet, and a signalling operand raises NV. -/
def FFmt.nanRes (f : FFmt) (n : Nat) (a b : FVal) (fl : FFlags) : FRes :=
  ⟨f.quiet n, { fl with nv := fl.nv || anySignalling [a, b] }⟩

section NanFirst
variable (f : FFmt) (c : FCtl) (n : Nat) (q : Bool) (b : FVal) (fl : FFlags)

theorem FFmt.addSub_nan (neg : Bool) : f.addSub c neg (.nan n q) b fl = f.nanRes n (.nan n q) b fl := rfl

theorem FFmt.mul_nan : f.mul c (.nan n q) b fl = f.nanRes n (.nan n q) b fl := rfl

theorem FFmt.div_nan : f.div c (.nan n q) b fl = f.nanRes n (.nan n q) b fl := rfl

end NanFirst

/-- Sum, difference, product and quotient treat a NaN as first operand alike. -/
theorem FFmt.fop_nan {f : FFmt} {c : FCtl} {x a b d n : Nat} {q : Bool} (hx : x ≤ 3) (ha : f.unpack (f.daz c a).1 = .nan n q) :
    f.fop c x a b d =
      some (f.nanRes n (.nan n q) (f.unpack (f.daz c b).1) { id := (f.daz c a).2 || (f.daz c b).2 }) := by
  obtain rfl | rfl | rfl | rfl : x = 0 ∨ x = 1 ∨ x = 2 ∨ x = 3 := by omega
  · simp only [FFmt.fop, ha, FFmt.addSub_nan]
  · simp only [FFmt.fop, ha, FFmt.addSub_nan]
  · simp only [FFmt.fop, ha, FFmt.mul_nan]
  · simp only [FFmt.fop, ha, FFmt.div_nan]

/-- What such an operation raises of NV speaks of the operands as they stand, before DAZ. -/
theorem FFmt.nanRes_nv {f : FFmt} (he : 0 < f.ebits) (c : FCtl) {a b n : Nat} {fl : FFlags} (hfl : fl.nv = false) :
    (f.nanRes n (f.unpack (f.daz c a).1) (f.unpack (f.daz c b).1) fl).flags.nv = true ↔
      (∃ n, f.unpack a = .nan n true) ∨ (∃ n, f.unpack b = .nan n true) := by
  simp only [FFmt.nanRes, hfl, Bool.false_or, anySignalling_iff, List.mem_cons, List.not_mem_nil, or_false, exists_or,
    eq_comm (a := FVal.nan _ true), FFmt.unpack_daz_nan_iff he c]

/-! ### Flags of floating-point instructions (R245) -/

/-- Is one of the flags raised enabled in FCSR? -/
def FFlags.enabledIn (fl : FFlags) (fcsr : Word32) : Prop := (fl.bits % 32) &&& (fcsr.toNat / 2 ^ 8 % 32) ≠ 0

/-- The state with the flags raised gathered in FCSR. -/
def State.gatherFlags (s : State) (w : StrId) (fl : FFlags) : State :=
  s.setStr w { s.str w with fcsr := (s.str w).fcsr ||| BitVec.ofNat 32 fl.bits }

section Float
variable {s : State} {w : StrId} {p : Pfx} {len n : Nat} {bad : Bool} {body : State → Res} {fl : FFlags} {k : State → State}

theorem State.fpDone_gathers (he : ¬fl.enabledIn (s.str w).fcsr) : s.fpDone w fl k = .next (k (s.gatherFlags w fl)) := if_neg he

theorem State.fpDone_traps (he : fl.enabledIn (s.str w).fcsr) : s.fpDone w fl k = .trap Cause.fp (BitVec.ofNat 64 fl.bits) false s :=
  if_pos he

/-- An issued floating-point instruction of legal form writes its result with its flags gathered, or traps with them (R245). -/
theorem run_float (h : s.issues w p) (hl : LegalForm p len bad n) (hbody : body s = s.fpDone w fl k) :
    (¬fl.enabledIn (s.str w).fcsr →
      run s (fun s => s.instr w p len bad body) = .next (settle s (s.retire w p n (k (s.gatherFlags w fl))))) ∧
    (fl.enabledIn (s.str w).fcsr → run s (fun s => s.instr w p len bad body) =
      .next (settle s (s.takeTrap w Cause.fp (BitVec.ofNat 64 fl.bits) (s.str w).pc false))) :=
  ⟨fun he => run_retires h hl (hbody.trans (State.fpDone_gathers he)), fun he => run_traps h hl (hbody.trans (State.fpDone_traps he))⟩

theorem fpBits_s (v : Word) : fpBits FFmt.s v = v.toNat % 2 ^ 32 := if_pos rfl

theorem fpBits_d (v : Word) : fpBits FFmt.d v = v.toNat := if_neg (by decide)

/-- An FOP of a defined code and legal fields. -/
theorem run_fop {f : FmtC} {m : FFmt} {r : FRes} (h : s.issues w p) (hp : p.plain) (hbad : badFop f = false)
    (hr : m.fop (fctl (s.str w).fcsr) f.x.toNat (fpBits m ((s.str w).fr f.a)) (fpBits m ((s.str w).fr f.b)) (fpBits m ((s.str w).fr f.c)) =
      some r) :
    (¬r.flags.enabledIn (s.str w).fcsr → run s (fun s => s.fmtC w p (badFop f) (fun s => s.fopOp w f m)) =
      .next (settle s (s.retire w p 4 ((s.gatherFlags w r.flags).setF w f.d (BitVec.ofNat 64 r.val))))) ∧
    (r.flags.enabledIn (s.str w).fcsr → run s (fun s => s.fmtC w p (badFop f) (fun s => s.fopOp w f m)) =
      .next (settle s (s.takeTrap w Cause.fp (BitVec.ofNat 64 r.flags.bits) (s.str w).pc false))) := by
  have hop : s.fopOp w f m = s.fpDone w r.flags (fun s => s.setF w f.d (BitVec.ofNat 64 r.val)) := by simp only [State.fopOp, hr]
  exact run_float (body := fun s => s.fopOp w f m) (k := fun s => s.setF w f.d (BitVec.ofNat 64 r.val)) h
    ((legal_plain hp (n := 4)).and hbad) hop

end Float

/-- A register field that is not used and holds 0 is legal (R188). -/
theorem zeroReg_zero {r : RegNo} (h : r = 0) : (!zeroReg r) = false := by simp [zeroReg, h]

/-- Settles O11: each instruction ends as its flags say; ABS and NEG move the sign bit, and the operations of two operands begin with the
search for a NaN. -/
theorem floatInstructionsAndSigns : Obligations.FloatInstructionsAndSigns := by
  refine ⟨fun s w p h hp => ?instructions, fun c f hf a b d ha _ _ => ⟨⟨_, rfl, rfl, rfl⟩, ⟨_, rfl, ?neg, rfl⟩, fun x hx hnan => ?nan⟩⟩
  case instructions =>
    intro t ctl enabled gather trap
    refine ⟨fun f r hbad hr => ?fopS, fun f r hbad hr => ?fopD, fun f hd => ?fcmp, fun f r hx hb hc hr => ?fcvt, fun f hb hc => ?fmov⟩
    case fopS =>
      simp only [← fpBits_s] at hr
      rw [exec_fopS]
      exact run_fop h hp hbad hr
    case fopD =>
      simp only [← fpBits_d] at hr
      rw [exec_fopD]
      exact run_fop h hp hbad hr
    case fcmp =>
      intro m r
      rw [exec_fcmp]
      exact run_float (k := fun s => s.setStr w ((s.str w).flags { z := r.z, n := r.n, c := r.c, v := r.v })) h
        ((legal_plain hp (n := 3)).and (zeroReg_zero hd)) rfl
    case fcvt =>
      have hbad : (decide (10 ≤ f.x.toNat) || !zeroReg f.b || !zeroReg f.c) = false := by simp [zeroReg_zero hb, zeroReg_zero hc, hx]
      have hr' : fcvt (fctl (s.str w).fcsr) f.x.toNat (fcvtSource (s.str w) f) = some r := hr
      rw [exec_fcvt]
      refine run_float (k := fun s => if 2 ≤ f.x.toNat ∧ f.x.toNat ≤ 5 then s.setX w f.d (BitVec.ofNat 64 r.val)
        else s.setF w f.d (BitVec.ofNat 64 r.val)) h ((legal_plain hp (n := 4)).and hbad) ?_
      simp only [hr']
    case fmov =>
      have hl (hx : f.x.toNat < 3) := (legal_plain hp (n := 4)).and
        (c := decide (3 ≤ f.x.toNat) || !zeroReg f.b || !zeroReg f.c) (by simp [zeroReg_zero hb, zeroReg_zero hc, hx])
      refine ⟨fun hx => ?toF, fun hx => ?fromX, fun hx => ?toX⟩
      case toF => exact (exec_fmov ..).trans (run_retires h (hl (by simp [hx])) (congrArg Res.next (if_pos hx)))
      case fromX =>
        exact (exec_fmov ..).trans (run_retires h (hl (by simp [hx])) (congrArg Res.next ((if_neg (by simp [hx])).trans (if_pos hx))))
      case toX =>
        exact (exec_fmov ..).trans (run_retires h (hl (by simp [hx]))
          (congrArg Res.next ((if_neg (by simp [hx])).trans (if_neg (by simp [hx])))))
  case neg =>
    simp only [FFmt.signBit_set_iff ha, ite_not]
  case nan =>
    have he : 0 < f.ebits := by
      rcases hf with rfl | rfl <;> decide
    obtain ⟨k, q, hk⟩ := hnan
    obtain ⟨rfl, -⟩ := FFmt.unpack_nan hk
    have hdaz := (FFmt.unpack_daz_nan_iff he c).mpr hk
    refine ⟨_, FFmt.fop_nan hx hdaz, rfl, ?_⟩
    rw [← hdaz]
    exact FFmt.nanRes_nv he c rfl

end Sys2Proof.Machine
end

section
/-!
PROOFS. Task, memory, power, fault, security and expert commands (Tables 15-9 to 15-11): what a command does once firmware executes it, the
branches of those that may refuse, and their obligation.
-/

namespace Sys2Proof.Machine

/-! ### Commands that firmware executes (R440, R443, R445, R453) -/

section Begun
variable {s u : State} {q op n : Nat} {c : HostCmd} {f : State → HostCmd → State}

/-- A command that nothing refuses acts on the state in which it starts. -/
theorem State.begins.runCmd (h : s.begins q op c u) (f : State → HostCmd → State) : s.runCmd q op f = f u c := by
  obtain ⟨-, c₀, hfind, hop, horder, hunit, rfl, rfl, hfits, hready, hsafe, hexp⟩ := h
  have hstart : ¬(c₀.opcode ≠ op ∨ (!s.orderOk c₀) = true ∨ (!s.unitFree c₀) = true) := by simp [hop, horder, hunit]
  have hphase : ¬((s.startCmd c₀).pwr.phase ≠ .ready ∧ (!beforeReady op) = true) := by
    rintro ⟨hne, hlate⟩
    rcases hready with hphase | hearly
    · exact hne hphase
    · simp [hearly] at hlate
  simp only [State.runCmd, hfind, if_neg hstart, hfits, if_neg hphase, hsafe, hexp, Bool.not_true, Bool.false_eq_true, if_false]

/-- What an executed command does: `hf` says what its function makes of the state in which it starts. -/
theorem State.begins.exec_eq {i : Instr} {t : State} (h : s.begins q op c u) (hi : exec i s = run s (fun s => s.runCmd q n f)) (hop : op = n)
    (hf : f u c = t) : exec i s = .next (settle s t) := by
  subst hop
  exact hi.trans (run_eq h.1 ((h.runCmd f).trans hf))

end Begun

section Functions
variable {s : State} {c : HostCmd}

/-! ### Memory and power commands (R299, R351, R353, R486, R488) -/

theorem State.memRegion_busy (h : s.rgnBusy = true) : s.memRegion c = s.finishCmd c 0x11 1 [] := if_pos h

theorem State.memMarch_enabled (h : s.bit (PM_CTL.EN (prm c.params 0 1)) = true) : s.memMarch c = s.finishCmd c 0x11 1 [] :=
  if_pos (by simp [h])

theorem State.memRetrain_busy (h : s.bit (MC_TRAIN.BUSY (prm c.params 0 1)) = true) : s.memRetrain c = s.finishCmd c 0x11 1 [] := if_pos h

theorem State.pwrState_run (h : prm c.params 0 8 ≤ 1) : s.pwrState c = s.napEnd.finishCmd c 0 0 [] := if_pos h

theorem State.pwrState_pending (h : 2 ≤ prm c.params 0 8) (hr : s.pwr.request ≠ 0) : s.pwrState c = s.finishCmd c 0x11 1 [] :=
  (if_neg (by omega)).trans (if_pos (.inl hr))

theorem State.pwrState_nap (h : prm c.params 0 8 = 2) (hr : s.pwr.request = 0) (he : s.pwr.entryAt = none) :
    s.pwrState c = { s with pwr := { s.pwr with request := 1 } }.waitCmd c (.power 2) := by
  simp [State.pwrState, State.pwrRequest, h, hr, he]

/-! ### Fault commands (R373, R398, R402, R454) -/

theorem State.fltAck_found {a : Nat}
    (h : ackAddr (prm c.params 0 1) (if prm c.params 1 1 = 1 then 128 + prm c.params 2 2 else prm c.params 2 2) = some a) :
    s.fltAck c = (s.writeReg .svc a (prm c.params 4 4)).finishCmd c 0 0 (leBytes 4 ((s.writeReg .svc a (prm c.params 4 4)).peek a).toNat) := by
  simp [State.fltAck, h, State.peeks]

theorem State.fltResume_eq : s.fltResume c = if s.bit SVC_STAT.SAFE = false then s.finishCmd c 0 0 []
    else if s.mayResume = true then s.leaveSafe.finishCmd c 0 0 [] else s.finishCmd c 0x40 0 [] := by
  simp [State.fltResume, State.finishOk]

theorem State.fltLogbuf_stop (h : prm c.params 0 8 = 0) :
    s.fltLogbuf c = { s with host := { s.host with log := none } }.finishCmd c 0 0 [] := by
  simp [State.fltLogbuf, State.finishOk, h]

theorem State.fltRecord_list (h : prm c.params 0 2 = 0) : s.fltRecord c = s.finishList c 16 (s.svc.retired.map retiredBytes) := by
  simp [State.fltRecord, h]

/-! ### Security commands (R412, R415, R420, R427) -/

theorem State.secPage_zero (h : prm c.params 0 1 = 0) : s.secPage c = s.finishCmd c 0x30 2 [] := if_pos h

theorem State.secAttest_exhausted (h : s.takeIndex = none) : s.secAttest c = s.finishCmd c 0x22 0 [] := by
  simp [State.secAttest, h]

theorem State.secAttest_quoted {i : Nat} {v : State} (h : s.takeIndex = some (i, v)) : s.secAttest c = v.finishCmd c 0 0
    (v.quote c.params ++ slice (Config.attSign (v.fld SEC_SIG_IDX.KEYGEN) i (v.quote c.params)) 0 5076 ++ v.chainBytes) := by
  simp [State.secAttest, h]

section Slot
variable {sig : List Byte} (hprogram : prm c.params 1 7 = 1)
include hprogram

theorem State.secSlot_programs (h : (s.slot (prm c.params 0 1)).prog = false) : s.secSlot c sig =
    (s.setSlot (prm c.params 0 1) { hash := slice c.params 8 32, prog := true, revoked := false }).finishCmd c 0 0 [] :=
  (if_pos hprogram).trans (if_neg (by simp [h]))

theorem State.secSlot_programmed (h : (s.slot (prm c.params 0 1)).prog = true) : s.secSlot c sig = s.finishCmd c 0x50 1 [] :=
  (if_pos hprogram).trans (if_pos h)

end Slot

section Unlock
variable {sig : List Byte} (hsig : s.hostOk (prm c.params 16 8) (prm c.params 24 2) = true)
include hsig

theorem State.secDbgunlock_unchallenged (h : s.sec.chal = none) : s.secDbgunlock c sig = s.finishCmd c 0x50 1 [] := by
  simp [State.secDbgunlock, hsig, h]

/-- A challenge is good for 60 seconds (R427). -/
theorem State.secDbgunlock_expired {ch : List Byte} {since : Word} (h : s.sec.chal = some (ch, since))
    (hold : elapsed s.dt since (usTicks 60000000) = true) : s.secDbgunlock c sig = s.finishCmd c 0x50 1 [] := by
  simp [State.secDbgunlock, hsig, h, hold]

end Unlock

/-! ### Expert commands (R268, R452) -/

theorem State.expRdreg_one (h : prm c.params 4 2 = 1) : s.expRdreg c =
    (s.regRead .svc (prm c.params 0 4)).2.finishCmd c 0 0 (leBytes 4 (s.regRead .svc (prm c.params 0 4)).1.toNat) := by
  simp [State.expRdreg, h, upTo]

theorem State.expWrreg_one (h : prm c.params 0 8 = 1) : s.expWrreg c =
    (s.regWrite .svc (prm c.params 8 4) (BitVec.ofNat 32 (prm c.params 12 4))).finishCmd c 0 0 (leBytes 4 1) := by
  simp [State.expWrreg, h, upTo]

section Words
variable (hwords : prm c.params 0 2 = 0)
include hwords

/-- The vendor's words are in the control store below word 0x1800, and are not shown (R268). -/
theorem State.expUcread_vendor (h : prm c.params 2 2 < 0x1800) : s.expUcread c = s.finishCmd c 0x30 0 [] :=
  (if_pos hwords).trans (if_pos h)

theorem State.expUcread_customer (hlo : 0x1800 ≤ prm c.params 2 2) (hhi : prm c.params 2 2 + prm c.params 4 2 ≤ 0x2000) :
    s.expUcread c = s.finishList c 20 ((upTo (prm c.params 4 2)).map (fun i => leBytes 20 (s.ucWord (prm c.params 2 2 + i)))) :=
  (if_pos hwords).trans ((if_neg (by omega)).trans (if_neg (by omega)))

end Words

section Stage
variable {image : List Byte}

theorem State.expUcstage_unreadable (h : s.hostOk (prm c.params 8 8) (prm c.params 16 4) = false) :
    s.expUcstage c image = s.finishCmd c 0x24 1 [] := if_pos (by simp [h])

theorem State.expUcstage_staged {x : CxImage} (h : s.hostOk (prm c.params 8 8) (prm c.params 16 4) = true)
    (hx : s.checkImage (slice image 0 (prm c.params 16 4)) = .inr x) (hkeep : prm c.params 0 8 % 2 = 0) : s.expUcstage c image =
      { s with ucode := { s.ucode with staged := slice image 0 (prm c.params 16 4) } }.finishCmd c 0 0 [] := by
  simp [State.expUcstage, State.finishOk, h, hx, hkeep]

end Stage

end Functions

/-- Settles O48: every command acts on the state in which firmware begins it; the clauses of the commands that may refuse are those of
their functions. -/
theorem taskMemoryPowerFaultSecurityCommands : Obligations.TaskMemoryPowerFaultSecurityCommands := by
  refine ⟨fun s u q c op h => ?tables9And10, fun s u q c op h => ?tables10And11⟩
  case tables9And10 =>
    intro p ends
    refine ⟨?taskQconfig, ?taskPost, ?taskPlace, ?taskLimit, ?taskStatus, ?memRegion, ?memCache, ?memMarch, ?memRetrain, ?memSpare, ?memStats,
      ?memScrub, ?pwrState, ?pwrPond, ?pwrStatus, ?fltAck, ?fltSafe, ?fltResume, ?fltLog, ?fltLogbuf, ?fltTailbuf, ?fltRecord, ?fltJournal, ?fltCtl⟩
    case taskQconfig => exact fun hop => h.exec_eq (exec_taskQconfig ..) hop rfl
    case taskPost => exact fun hop => h.exec_eq (exec_taskPost ..) hop rfl
    case taskPlace => exact fun hop => h.exec_eq (exec_taskPlace ..) hop rfl
    case taskLimit => exact fun hop => h.exec_eq (exec_taskLimit ..) hop rfl
    case taskStatus => exact fun hop => h.exec_eq (exec_taskStatus ..) hop rfl
    case memRegion =>
      exact fun hop => ⟨h.exec_eq (exec_memRegion ..) hop rfl, fun hbusy => h.exec_eq (exec_memRegion ..) hop (State.memRegion_busy hbusy)⟩
    case memCache => exact fun hop => h.exec_eq (exec_memCache ..) hop rfl
    case memMarch =>
      exact fun hop => ⟨h.exec_eq (exec_memMarch ..) hop rfl, fun hen => h.exec_eq (exec_memMarch ..) hop (State.memMarch_enabled hen)⟩
    case memRetrain =>
      exact fun hop => ⟨h.exec_eq (exec_memRetrain ..) hop rfl, fun hbusy => h.exec_eq (exec_memRetrain ..) hop (State.memRetrain_busy hbusy)⟩
    case memSpare => exact fun hop => h.exec_eq (exec_memSpare ..) hop rfl
    case memStats => exact fun hop => h.exec_eq (exec_memStats ..) hop rfl
    case memScrub => exact fun hop => h.exec_eq (exec_memScrub ..) hop rfl
    case pwrState =>
      exact fun hop => ⟨fun hrun => h.exec_eq (exec_pwrState ..) hop (State.pwrState_run hrun),
        fun hnap hfree hentry => h.exec_eq (exec_pwrState ..) hop (State.pwrState_nap hnap hfree hentry),
        fun hlow hpending => h.exec_eq (exec_pwrState ..) hop (State.pwrState_pending hlow hpending)⟩
    case pwrPond => exact fun hop => h.exec_eq (exec_pwrPond ..) hop rfl
    case pwrStatus => exact fun hop => h.exec_eq (exec_pwrStatus ..) hop rfl
    case fltAck => exact fun hop a ha => h.exec_eq (exec_fltAck ..) hop (State.fltAck_found ha)
    case fltSafe => exact fun hop => h.exec_eq (exec_fltSafe ..) hop rfl
    case fltResume => exact fun hop => h.exec_eq (exec_fltResume ..) hop State.fltResume_eq
    case fltLog => exact fun hop => h.exec_eq (exec_fltLog ..) hop rfl
    case fltLogbuf => exact fun hop hstop => h.exec_eq (exec_fltLogbuf ..) hop (State.fltLogbuf_stop hstop)
    case fltTailbuf => exact fun hop => h.exec_eq (exec_fltTailbuf ..) hop rfl
    case fltRecord => exact fun hop hlist => h.exec_eq (exec_fltRecord ..) hop (State.fltRecord_list hlist)
    case fltJournal => exact fun hop => h.exec_eq (exec_fltJournal ..) hop rfl
    case fltCtl => exact fun hop => h.exec_eq (exec_fltCtl ..) hop rfl
  case tables10And11 =>
    intro p ends
    refine ⟨?secInfo, ?secPage, ?secSyskey, ?secAttest, ?secLog, ?secRollfwd, ?secSlot, ?secRandom, ?secDbgchal, ?unchallenged, ?expired,
      ?expRdreg, ?expWrreg, ?expRdmem, ?expWrmem, ?expUcinfo, ?vendorWords, ?customerWords, ?imageUnreadable, ?imageStaged⟩
    case secInfo => exact fun hop => h.exec_eq (exec_secInfo ..) hop rfl
    case secPage =>
      exact fun hop => ⟨h.exec_eq (exec_secPage ..) hop rfl, fun hzero => h.exec_eq (exec_secPage ..) hop (State.secPage_zero hzero)⟩
    case secSyskey => exact fun hop => h.exec_eq (exec_secSyskey ..) hop rfl
    case secAttest =>
      exact fun hop => ⟨fun hnone => h.exec_eq (exec_secAttest ..) hop (State.secAttest_exhausted hnone),
        fun i v htake => h.exec_eq (exec_secAttest ..) hop (State.secAttest_quoted htake)⟩
    case secLog => exact fun hop => h.exec_eq (exec_secLog ..) hop rfl
    case secRollfwd => exact fun hop => h.exec_eq (exec_secRollfwd ..) hop rfl
    case secSlot =>
      exact fun hop sig => ⟨fun hprogram hfree => h.exec_eq (exec_secSlot ..) hop (State.secSlot_programs hprogram hfree),
        fun hprogram hused => h.exec_eq (exec_secSlot ..) hop (State.secSlot_programmed hprogram hused)⟩
    case secRandom => exact fun hop => ⟨_, length_leBytes _ _, h.exec_eq (exec_secRandom ..) hop rfl⟩
    case secDbgchal => exact fun hop => ⟨_, length_leBytes _ _, h.exec_eq (exec_secDbgchal ..) hop rfl⟩
    case unchallenged => exact fun hop sig hnone hsig => h.exec_eq (exec_secDbgunlock ..) hop (State.secDbgunlock_unchallenged hsig hnone)
    case expired =>
      exact fun hop sig ch since hchal hsig hold => h.exec_eq (exec_secDbgunlock ..) hop (State.secDbgunlock_expired hsig hchal hold)
    case expRdreg => exact fun hop hone => h.exec_eq (exec_expRdreg ..) hop (State.expRdreg_one hone)
    case expWrreg => exact fun hop hone => h.exec_eq (exec_expWrreg ..) hop (State.expWrreg_one hone)
    case expRdmem => exact fun hop => h.exec_eq (exec_expRdmem ..) hop rfl
    case expWrmem => exact fun hop => h.exec_eq (exec_expWrmem ..) hop rfl
    case expUcinfo => exact fun hop => h.exec_eq (exec_expUcinfo ..) hop rfl
    case vendorWords => exact fun hop hwords hlow => h.exec_eq (exec_expUcread ..) hop (State.expUcread_vendor hwords hlow)
    case customerWords => exact fun hop hwords hlo hhi => h.exec_eq (exec_expUcread ..) hop (State.expUcread_customer hwords hlo hhi)
    case imageUnreadable => exact fun hop image hbad => h.exec_eq (exec_expUcstage ..) hop (State.expUcstage_unreadable hbad)
    case imageStaged =>
      exact fun hop image x hok hx hkeep => h.exec_eq (exec_expUcstage ..) hop (State.expUcstage_staged hok hx hkeep)

end Sys2Proof.Machine
end

section
/-!
PROOFS. Pond memory as its own striders use it (chapters 10 and 11): an access of one line as one part, what the buffers and the poison bits
of a line hold, a store that enters the store buffer, and the obligation of own pond memory and forwarding.
-/

namespace Sys2Proof.Machine

/-- An access of one line of a strider's own pond memory, at an offset in it (Table 10-1, R191). -/
structure State.OwnLine (s : State) (w : StrId) (a off n : Nat) : Prop where
  own : s.addrClass w a = .own off
  line : a % 64 + n ≤ 64
  memory : a < devBase

/-! ### Bits of a mask -/

theorem maskOf_succ (n : Nat) (p : Nat → Bool) : maskOf (n + 1) p = maskOf n p + if p n then 2 ^ n else 0 := by
  simp only [maskOf, upTo_succ, List.foldl_append, List.foldl_cons, List.foldl_nil]
  split_ifs <;> rfl

theorem maskOf_lt (n : Nat) (p : Nat → Bool) : maskOf n p < 2 ^ n := by
  induction n with
  | zero => exact Nat.one_pos
  | succ n ih =>
    rw [maskOf_succ]
    split_ifs <;> omega

theorem testBit_maskOf {n k : Nat} (h : k < n) (p : Nat → Bool) : Nat.testBit (maskOf n p) k = p k := by
  induction n with
  | zero => exact absurd h (Nat.not_lt_zero k)
  | succ n ih =>
    have hlt := maskOf_lt n p
    rw [maskOf_succ]
    rcases Nat.lt_succ_iff_lt_or_eq.mp h with hk | rfl
    · split_ifs
      · rw [Nat.add_comm, Nat.testBit_two_pow_add_gt hk, ih hk]
      · exact ih hk
    · split_ifs with hp
      · rw [Nat.add_comm, Nat.testBit_two_pow_add_eq, Nat.testBit_lt_two_pow hlt, hp]; rfl
      · rw [Nat.add_zero, Nat.testBit_lt_two_pow hlt, Bool.eq_false_of_not_eq_true hp]

/-! ### Entries of the buffers (R310, R312) -/

section Entries
variable {e : BufEntry} {t : StrSt} {a i : Nat} {b : List Byte}

/-- An entry holds the bytes of its line that a store has put in it. -/
theorem BufEntry.byteAt_merge (he : e.addr = a / 64 * 64) (hline : a % 64 + b.length ≤ 64) (hi : i < b.length) :
    (e.merge a b).byteAt (a + i) = some b[i] := by
  have hin : e.addr ≤ a + i ∧ a + i < e.addr + 64 := by omega
  have hat : e.addr + (a + i - e.addr) = a + i := by omega
  have hpos : a + i - e.addr < 64 := by omega
  simp [BufEntry.byteAt, BufEntry.merge, hin, hat, hpos, hi]

/-- A store's bytes enter the youngest entry of the store buffer, which holds their line. -/
theorem StrSt.putSb_youngest (t : StrSt) (a : Nat) (b : List Byte) :
    ∃ (l : List BufEntry) (e : BufEntry), e.addr = a / 64 * 64 ∧ t.putSb a b = { t with sb := l ++ [e.merge a b] } := by
  cases hlast : t.sb.getLast? with
  | none =>
    simp only [StrSt.putSb, hlast]
    exact ⟨[], _, rfl, rfl⟩
  | some e =>
    simp only [StrSt.putSb, hlast]
    split_ifs with he
    · exact ⟨_, e, beq_iff_eq.mp he, rfl⟩
    · exact ⟨t.sb, _, rfl, rfl⟩

/-- The newest bytes of the addresses of a store are its own (R310). -/
theorem StrSt.bufByte_putSb (hcb : t.cb = []) (hline : a % 64 + b.length ≤ 64) (hi : i < b.length) :
    (t.putSb a b).bufByte (a + i) = some b[i] := by
  obtain ⟨l, e, he, hput⟩ := t.putSb_youngest a b
  simp [StrSt.bufByte, hput, hcb, BufEntry.byteAt_merge he hline hi]

/-- The parts of one line need one entry at most. -/
theorem StrSt.newSb_single_le (t : StrSt) (q : Nat × List Byte) : t.newSb [q] ≤ 1 := by
  unfold StrSt.newSb
  split
  · split_ifs <;> simp
  · simp

end Entries

/-! ### Accesses of one line of own pond memory -/

section Own
variable {s : State} {w : StrId} {a off n : Nat} {b : List Byte} {perm : BitVec 4}

theorem accParts_line (hline : a % 64 + n ≤ 64) : accParts a n = [(a, n)] := if_pos hline

theorem alignTrap_memory (ha : a < devBase) (dev : Bool) : alignTrap a n dev = none := by simp [alignTrap, Nat.not_le.mpr ha]

/-- An access that a region descriptor grants meets no trap (R293). -/
theorem State.OwnLine.firstTrap (h : s.OwnLine w a off n) (hok : s.pmAllowed w.pond.val w.slot.val off n perm = true) (dev : Bool) :
    s.firstTrap w perm dev [(a, n)] = none := by
  have hpart : s.partTrap w a n perm dev = none := by simp [State.partTrap, h.own, hok]
  simp [State.firstTrap, hpart]

/-- A load of one line gives the strider's own buffered bytes over those of memory (R310), unless a word it takes from memory is poisoned
(R292). -/
theorem State.OwnLine.load (h : s.OwnLine w a off n) (hok : s.pmAllowed w.pond.val w.slot.val off n 1#4 = true)
    (hclean : ∀ i < n, ((s.str w).bufByte (a + i)).isNone → s.pmPoisoned w.pond.val (off / 64 * 8 + (a + i) % 64 / 8) = false) :
    s.load w a n true =
      (.ok ((List.range n).map fun i => ((s.str w).bufByte (a + i)).getD ((s.pmBytes w.pond.val off n).getD i 0)), s) := by
  have hdev : ¬devBase ≤ a := Nat.not_le.mpr h.memory
  have hword (i : Nat) : (a + i) % 64 / 8 < 8 := by omega
  have hbit (i : Nat) (f : Nat → Bool) : (BitVec.ofNat 8 (maskOf 8 f)).getLsbD ((a + i) % 64 / 8) = f ((a + i) % 64 / 8) := by
    rw [BitVec.getLsbD_ofNat, testBit_maskOf (hword i), decide_eq_true (hword i), Bool.true_and]
  have hpart : s.loadPart w a n =
      (.ok ((List.range n).map fun i => ((s.str w).bufByte (a + i)).getD ((s.pmBytes w.pond.val off n).getD i 0)), s) := by
    simp only [State.loadPart, State.memPart, h.own, if_neg hdev, hbit]
    rw [if_neg]
    simpa only [List.any_eq_true, List.mem_range, Bool.and_eq_true, not_exists, not_and, Bool.not_eq_true] using hclean
  simp [State.load, alignTrap_memory h.memory, State.deviceFirst, hdev, accParts_line h.line, State.loadParts, h.firstTrap hok, hpart]

/-- A store of one line enters the store buffer while that has room and the combining buffer is empty (R312). -/
theorem State.OwnLine.store (h : s.OwnLine w a off b.length) (hok : s.pmAllowed w.pond.val w.slot.val off b.length 2#4 = true)
    (hcb : (s.str w).cb = []) (hroom : (s.str w).sb.length < 8) :
    s.store w a b false true = (.done none, s.setStr w ((s.str w).putSb a b)) := by
  have hacc : s.accTrap w a b.length 2 true = none := by
    simp only [State.accTrap, alignTrap_memory h.memory, accParts_line h.line]
    exact h.firstTrap hok true
  have hover : State.drainOver w a b.length 4 s = (true, s) := by simp [State.drainOver, hcb]
  have hsb : State.roomSb w ((s.str w).newSb [(a, b)]) 8 s = (true, s) := by
    have := (s.str w).newSb_single_le (a, b)
    exact if_pos (by omega)
  have hcls : (s.setStr w ((s.str w).putSb a b)).addrClass w a = .own off := h.own
  have hput : s.putStore w false (a, b) = s.setStr w ((s.str w).putSb a b) := by simp [State.putStore, hcls]
  have hbuf : s.bufferStore w false [(a, b)] = (true, s.setStr w ((s.str w).putSb a b)) := by
    simp [State.bufferStore, hover, hsb, hput]
  simp only [State.store, hacc, h.own, accParts_line h.line, cutParts, List.take_length, hbuf]

/-- With nothing buffered an AMO acts on memory and answers the old word (R319). -/
theorem State.amo_own {x : Nat} {y z : Word} (hown : s.addrClass w a = .own off) (halign : a % 8 = 0)
    (hok : s.pmAllowed w.pond.val w.slot.val off 8 11#4 = true) (hsb : (s.str w).sb = []) (hcb : (s.str w).cb = [])
    (hclean : s.pmPoisoned w.pond.val (off / 8) = false) :
    s.amo w a x y z = (.ok (s.pmBytes w.pond.val off 8),
      match amoNew x (BitVec.ofNat 64 (leNat (s.pmBytes w.pond.val off 8))) y z with
      | some v => s.pmWrite w.pond off (leBytes 8 v.toNat)
      | none => s) := by
  have hover : State.drainOver w a 8 4 s = (true, s) := by simp [State.drainOver, hcb]
  have hok' : s.pmAllowed w.pond.val w.slot.val off 8 11 = true := hok
  simp only [State.amo, halign, ne_eq, not_true, if_false, hown, hok', Bool.not_true, Bool.false_eq_true, State.drainStores_empty hsb, hover,
    hclean]
  cases amoNew x (BitVec.ofNat 64 (leNat (s.pmBytes w.pond.val off 8))) y z <;> rfl

/-- A strider reads what it stored (R310): the store buffer holds every byte of the range, so none is taken from memory. -/
theorem State.OwnLine.load_putSb (h : s.OwnLine w a off b.length) (hok : s.pmAllowed w.pond.val w.slot.val off b.length 1#4 = true)
    (hcb : (s.str w).cb = []) : ((s.setStr w ((s.str w).putSb a b)).load w a b.length true).1 = .ok b := by
  have hstored : (s.setStr w ((s.str w).putSb a b)).OwnLine w a off b.length := ⟨h.own, h.line, h.memory⟩
  have hbyte {i : Nat} (hi : i < b.length) : ((s.str w).putSb a b).bufByte (a + i) = some b[i] := StrSt.bufByte_putSb hcb h.line hi
  rw [hstored.load hok fun i hi hnone => by simp [hbyte hi] at hnone]
  refine congrArg MemRes.ok (List.ext_getElem (by simp) fun i _ hi => ?_)
  simp [hbyte hi]

end Own

/-- Settles O10: an access of one line is one part, which its descriptor grants, and the youngest entry of the store buffer holds what a
store has put there. -/
theorem ownPondMemoryAndForwarding : Obligations.OwnPondMemoryAndForwarding := by
  refine ⟨fun s w a off n hown _ hline ha => ⟨fun hok => State.OwnLine.load ⟨hown, hline, ha⟩ hok, ?store, ?amo⟩,
    fun s w a off b hown _ hline ha hread hwrite hcb hroom => ?forward⟩
  case store =>
    rintro b rfl hok hcb hroom
    exact State.OwnLine.store ⟨hown, hline, ha⟩ hok hcb hroom
  case amo => exact fun x b c halign _ hok hsb hcb hclean => State.amo_own hown halign hok hsb hcb hclean
  case forward =>
    have h : s.OwnLine w a off b.length := ⟨hown, hline, ha⟩
    exact ⟨_, h.store hwrite hcb hroom, h.load_putSb hread hcb⟩

end Sys2Proof.Machine
end

section
/-!
PROOFS. Bytes of pond memory (chapter 10): what a write leaves at the addresses it names and at every other, and the obligation of reads of
what was written.
-/

namespace Sys2Proof.Machine

/-! ### Bytes written one after the other -/

section Written
variable {base k : Nat} {b : List Byte}

/-- Addresses before and past the bytes of a write keep what they hold. -/
theorem pmGet_written_outside {n : Nat} (h : k < base + n ∨ base + n + b.length ≤ k) (m : List Host.Cell) :
    pmGet ((b.zipIdx n).foldl (fun m e => pmSet m (base + e.2) e.1) m) k = pmGet m k := by
  induction b generalizing n m with
  | nil => rfl
  | cons x b ih =>
    simp only [List.length_cons] at h
    rw [List.zipIdx_cons, List.foldl_cons, ih (by omega), pmGet_pmSet_other m x (by omega)]

/-- The address of a byte of a write holds it: the bytes after it lie above. -/
theorem pmGet_written_inside {n i : Nat} (h : i < b.length) (m : List Host.Cell) :
    pmGet ((b.zipIdx n).foldl (fun m e => pmSet m (base + e.2) e.1) m) (base + n + i) = b[i] := by
  induction b generalizing n i m with
  | nil => exact absurd h (Nat.not_lt_zero i)
  | cons x b ih =>
    rw [List.zipIdx_cons, List.foldl_cons]
    cases i with
    | zero => exact (pmGet_written_outside (.inl (by omega)) _).trans (pmGet_pmSet_same m _ x)
    | succ i =>
      rw [show base + n + (i + 1) = base + (n + 1) + i by omega, ih (Nat.lt_of_succ_lt_succ h)]
      rfl

end Written

/-! ### A write to pond memory (R288, R291) -/

section Writes
variable {s : State} {p : Fin 68} {off : Nat} {b : List Byte}

/-- A write is read back. -/
theorem State.pmBytes_pmWrite_same : (s.pmWrite p off b).pmBytes p.val off b.length = b := by
  refine List.ext_getElem (by simp [State.pmBytes]) fun i hi hb => ?_
  simp only [State.pmBytes, List.getElem_map, List.getElem_range, State.pmWrite_pm, State.pmPut_pm]
  simpa only [Nat.add_zero] using pmGet_written_inside (base := p.val * pmSize + off) (n := 0) hb s.pm

/-- A byte outside a write keeps its value. -/
theorem State.pmBytes_pmWrite_other {q a : Nat}
    (h : q * pmSize + a < p.val * pmSize + off ∨ p.val * pmSize + off + b.length ≤ q * pmSize + a) :
    (s.pmWrite p off b).pmBytes q a 1 = s.pmBytes q a 1 := by
  have hkey : pmGet (s.pmWrite p off b).pm (q * pmSize + a) = pmGet s.pm (q * pmSize + a) := by
    rw [State.pmWrite_pm, State.pmPut_pm]
    exact pmGet_written_outside (base := p.val * pmSize + off) (n := 0) (by simpa only [Nat.add_zero] using h) s.pm
  simpa [State.pmBytes] using hkey

theorem State.pmWrite_wf (h : Memory.wf s.pm = true) : Memory.wf (s.pmWrite p off b).pm = true := by
  rw [State.pmWrite_pm]
  exact State.pmPut_wf p off b h

/-- Offsets within two ponds, or apart within one, are apart in the list of cells. -/
theorem pmKey_outside {q : Fin 68} {a n : Nat} (hoff : off + n ≤ pmSize) (ha : a < pmSize) (h : q ≠ p ∨ a < off ∨ off + n ≤ a) :
    q.val * pmSize + a < p.val * pmSize + off ∨ p.val * pmSize + off + n ≤ q.val * pmSize + a := by
  have hq : q ≠ p → q.val ≠ p.val := fun hne heq => hne (Fin.ext heq)
  unfold pmSize at *
  omega

end Writes

/-- Settles O38: a write puts its bytes at rising addresses, so each stays as it was put, and those of other ponds and offsets lie outside. -/
theorem pondMemoryReadsWhatWasWritten : Obligations.PondMemoryReadsWhatWasWritten := fun _ _ _ _ hoff =>
  ⟨State.pmBytes_pmWrite_same, fun _ _ ha hout => State.pmBytes_pmWrite_other (pmKey_outside hoff ha hout), State.pmWrite_wf⟩

end Sys2Proof.Machine
end

section
/-!
PROOFS. Commands on a pond (chapter 10): what a fenced pond refuses, L2 maintenance, the enables, regions, march and way disable, the ports and
engines of the pond DMA, and their obligation.
-/

namespace Sys2Proof.Machine

/-! ### Register writes to a pond (R404) -/

section Pond
variable {s t : State} {p : Fin 68} {f : State → State}

theorem run_fenced (hp : s.powered = true) (hrole : s.fld (POND_STAT.ROLE p.val) = 2) :
    run s (fun s => s.onPond p f) = .next (settle s (s.setFld (POND_STAT.CFG_REJECT p.val) 1)) := run_eq hp (if_pos hrole)

theorem run_onPond (hp : s.powered = true) (hrole : s.fld (POND_STAT.ROLE p.val) ≠ 2) (h : f s = t) :
    run s (fun s => s.onPond p f) = .next (settle s t) := run_eq hp ((if_neg hrole).trans h)

/-- A write that changes an enable of a pond does what the enable does. -/
theorem run_enable (hp : s.powered = true) (hrole : s.fld (POND_STAT.ROLE p.val) ≠ 2) {g : Fld} {en : Bool} (hen : s.bit g = !en)
    (h : f s = t) : run s (fun s => s.onPond p (fun s => s.enWrite g en f)) = .next (settle s t) :=
  run_onPond hp hrole ((State.enWrite_changed hen).trans h)

/-! ### L2 maintenance (R281 to R283) -/

/-- A maintenance operation as it begins on an idle walker: it treats the lines that stand then, and notes those it has still to treat. -/
def State.maintWalk (s : State) (p : Nat) (h : BitVec 3) (op : Nat) : State :=
  let v := s.setFld (L2_MAINT.AHI p) h.toNat
  let line := h.toNat * 2 ^ 32 + v.fld (L2_MAINT_ADDR.ADDR p)
  let all := if op ≤ 3 then [line] else (v.pond p).l2.map (·.1)
  let u := (v.setFld (L2_MAINT.BUSY p) 1).maintApply p op line
  u.setPond p { u.pond p with maint := some (op, BitVec.ofNat 35 line,
    all.filter (fun l => (all.filter (fun k => (v.l2 p k).st.transient)).contains l || u.maintOpen p op l)) }

theorem State.maintOp_busy {op : Nat} {ahi : BitVec 3} (hop : op ≠ 0) (hbusy : s.bit (L2_MAINT.BUSY p.val) = true) :
    s.maintOp p.val op ahi = s.setFld (POND_STAT.CFG_REJECT p.val) 1 := by simp [State.maintOp, hop, hbusy]

theorem State.maintOp_idle {op : Nat} {ahi : BitVec 3} (hop : op ≠ 0 ∧ op ≤ 6) (hidle : s.bit (L2_MAINT.BUSY p.val) = false)
    (hahi : (s.setFld (L2_MAINT.AHI p.val) ahi.toNat).bit (L2_MAINT.BUSY p.val) = false) :
    s.maintOp p.val op ahi = s.maintWalk p.val ahi op := by
  have hkey : (L2_MAINT_ADDR.ADDR p.val).key ≠ (L2_MAINT.AHI p.val).key := by
    simp only [Fld.key, L2_MAINT_ADDR.ADDR, L2_MAINT_ADDR.addr, L2_MAINT.AHI, L2_MAINT.addr]
    omega
  have hstart : ¬(6 < op ∨ s.bit (L2_MAINT.BUSY p.val) = true) := by simp [hidle, hop.2]
  have haddr : s.maintAddr p.val ahi = ahi.toNat * 2 ^ 32 + (s.setFld (L2_MAINT.AHI p.val) ahi.toNat).fld (L2_MAINT_ADDR.ADDR p.val) := by
    rw [State.fld_setFld_other _ _ hkey, State.maintAddr]
  rw [State.maintOp, if_neg hop.1, if_neg hstart, haddr, State.maintStart, if_neg (by simp [hahi])]
  rfl

theorem run_maintOp_busy (hp : s.powered = true) (hrole : s.fld (POND_STAT.ROLE p.val) ≠ 2) {op : Nat} {ahi : BitVec 3} (hop : op ≠ 0)
    (hbusy : s.bit (L2_MAINT.BUSY p.val) = true) :
    run s (fun s => s.onPond p (fun s => s.maintOp p op ahi)) = .next (settle s (s.setFld (POND_STAT.CFG_REJECT p.val) 1)) :=
  run_onPond hp hrole (State.maintOp_busy hop hbusy)

theorem run_maintOp_idle (hp : s.powered = true) (hrole : s.fld (POND_STAT.ROLE p.val) ≠ 2) {op : Nat} {ahi : BitVec 3}
    (hop : op ≠ 0 ∧ op ≤ 6) (hidle : s.bit (L2_MAINT.BUSY p.val) = false)
    (hahi : (s.setFld (L2_MAINT.AHI p.val) ahi.toNat).bit (L2_MAINT.BUSY p.val) = false) :
    run s (fun s => s.onPond p (fun s => s.maintOp p op ahi)) = .next (settle s (s.maintWalk p.val ahi op)) :=
  run_onPond hp hrole (State.maintOp_idle hop hidle hahi)

theorem State.maintEnd_none {tagUe : Bool} (h : (s.pond p.val).maint = none) : s.maintEnd p tagUe = s := by simp [State.maintEnd, h]

/-- An operation that has treated every line ends (R283). -/
theorem State.maintEnd_treated {op : Nat} {line : LineNo} (h : (s.pond p.val).maint = some (op, line, [])) :
    s.maintEnd p false = (((((s.setFld (L2_MAINT.BUSY p.val) 0).setFld (L2_MAINT.DONE p.val) 1).setBit (L2_MAINT.ERR p.val) false).setPond p.val
      { s.pond p.val with maint := none }).l2StopPoint p) := by
  simp [State.maintEnd, h, State.setBit]

/-! ### Enables (R284, R286, R301, R302) -/

theorem State.l2Enable_off (hen : s.bit (L2_CTL.EN p.val) = true) :
    s.l2Enable p false = (s.setPond p.val { s.pond p.val with l2Stop := true }).l2StopPoint p := by simp [State.l2Enable, hen]

/-- The enable of the L2 disables no way. -/
theorem State.wayOn_setFld_l2En (s : State) (v : Nat) : (s.setFld (L2_CTL.EN p.val) v).wayOn p.val = s.wayOn p.val := by
  have hkey (lo hi : Nat) (h : lo < 32) : Fld.key ⟨L2_WAYOFF.addr p.val, hi, lo⟩ ≠ (L2_CTL.EN p.val).key := by
    simp only [Fld.key, L2_WAYOFF.addr, L2_CTL.EN, L2_CTL.addr]
    omega
  funext w
  simp only [State.wayOn, L2_WAYOFF.OFF, L2_WAYOFF.AUTO, State.fld_setFld_other s v (hkey 0 15 (by decide)),
    State.fld_setFld_other s v (hkey 16 31 (by decide))]

/-- An empty L2 with ways enough is enabled with no line evicted and no fault raised (R278, R286). -/
theorem State.l2Enable_on (hen : s.bit (L2_CTL.EN p.val) = false) (hempty : (s.pond p.val).l2 = [])
    (hways : 8 ≤ ((upTo 16).filter (s.wayOn p.val)).length) :
    s.l2Enable p true = (s.setPond p.val { s.pond p.val with l2Stop := false }).setFld (L2_CTL.EN p.val) 1 := by
  have hway (x : PondSt) : (s.setPond p.val x).wayOn p.val = s.wayOn p.val := rfl
  simp [State.l2Enable, hen, hempty, State.wayMin, State.wayOn_setFld_l2En, hway, hways]

theorem State.pondEnable_off (hen : s.bit (POND_CTL.EN p.val) = true) :
    s.pondEnable p false = if s.pondBusy p then s.setPond p.val { s.pond p.val with stopping := true } else s.setFld (POND_CTL.EN p.val) 0 := by
  simp [State.pondEnable, hen]

/-- Pond memory stays enabled while its pond is (R302). -/
theorem State.pmEnable_off_refused (hen : s.bit (PM_CTL.EN p.val) = true) (hpond : s.bit (POND_CTL.EN p.val) = true) :
    s.pmEnable p.val false = s.setFld (POND_STAT.CFG_REJECT p.val) 1 := by simp [State.pmEnable, hen, hpond]

theorem State.pmEnable_off (hen : s.bit (PM_CTL.EN p.val) = true) (hpond : s.bit (POND_CTL.EN p.val) = false) :
    s.pmEnable p.val false = (s.setPond p.val { s.pond p.val with pmStop := true }).pmStopPoint p.val := by simp [State.pmEnable, hen, hpond]

/-! ### Regions, march and way disable (R277, R294, R299) -/

/-- A commit that keeps the selection is the commit point of the selected descriptor (R47). -/
theorem State.writeRegionSel_commit {m : BitVec 5} {d : BitVec 3} (hm : m.toNat = s.fld (PM_REGION_SEL.MASTER p.val))
    (hd : d.toNat = s.fld (PM_REGION_SEL.DESC p.val)) (hlt : m.toNat < 20) :
    s.writeRegionSel p.val m d true = (s.setFld (PM_REGION_SEL.COMMIT p.val) 1).descPoint p.val := by
  have hgood : ¬20 ≤ m.toNat := by omega
  simp [State.writeRegionSel, hgood, ← hm, ← hd]

theorem State.marchBegin_enabled (hen : s.bit (PM_CTL.EN p.val) = true) :
    s.marchBegin p.val = s.setFld (POND_STAT.CFG_REJECT p.val) 1 := by simp [State.marchBegin, hen]

/-- The status that a starting march clears lies past its controls. -/
theorem State.fld_marchCleared {g : Fld} (haddr : g.addr = MARCH_CTL.addr p.val) (hlo : g.lo < 32) :
    (((s.setFld (MARCH_STAT.BUSY p.val) 1).setFld (MARCH_STAT.UNREP p.val) 0).setFld (MARCH_STAT.FAILBANK p.val) 0).fld g = s.fld g := by
  have hkey {f : Fld} (hf : f.addr = MARCH_STAT.addr p.val) : g.key ≠ f.key := by
    simp only [Fld.key, haddr, hf, MARCH_CTL.addr, MARCH_STAT.addr]
    omega
  rw [State.fld_setFld_other _ _ (hkey rfl), State.fld_setFld_other _ _ (hkey rfl), State.fld_setFld_other _ _ (hkey rfl)]

/-- A march uses the BANKS, PRESERVE and REPAIR of its start (R40). -/
theorem State.marchBegin_idle (hen : s.bit (PM_CTL.EN p.val) = false) (hidle : s.bit (MARCH_STAT.BUSY p.val) = false) :
    s.marchBegin p.val =
      (((s.setFld (MARCH_STAT.BUSY p.val) 1).setFld (MARCH_STAT.UNREP p.val) 0).setFld (MARCH_STAT.FAILBANK p.val) 0).setPond p.val
        { s.pond p.val with
          failRow := [], march := some (s.fld (MARCH_CTL.BANKS p.val), s.bit (MARCH_CTL.PRESERVE p.val), s.bit (MARCH_CTL.REPAIR p.val)) } := by
  have hbanks := s.fld_marchCleared (p := p) (g := MARCH_CTL.BANKS p.val) rfl (by simp [MARCH_CTL.BANKS])
  have hpreserve := s.fld_marchCleared (p := p) (g := MARCH_CTL.PRESERVE p.val) rfl (by simp [MARCH_CTL.PRESERVE])
  have hrepair := s.fld_marchCleared (p := p) (g := MARCH_CTL.REPAIR p.val) rfl (by simp [MARCH_CTL.REPAIR])
  rw [State.marchBegin, if_neg (by simp [hen, hidle])]
  simp only [State.bit, hbanks, hpreserve, hrepair, State.pond_setFld]

theorem State.marchEnd_none {bad : List (Fin 16 × Fin 130)} {ue : List (Fin 16 × Fin 4096)} (h : (s.pond p.val).march = none) :
    s.marchEnd p.val bad ue = s := by simp [State.marchEnd, h]

/-- A march that preserves memory and meets no failing row only ends (R299). -/
theorem State.marchEnd_clean {banks : Nat} {repair : Bool} {ue : List (Fin 16 × Fin 4096)}
    (h : (s.pond p.val).march = some (banks, true, repair)) :
    s.marchEnd p.val [] ue =
      ((s.setFld (MARCH_STAT.BUSY p.val) 0).setFld (MARCH_STAT.DONE p.val) 1).setPond p.val { s.pond p.val with march := none } := by
  simp only [State.marchEnd, h]
  refine (foldl_eq_self fun k _ => ?_).trans (by simp)
  simp

theorem State.wayDone_none (h : (s.pond p.val).wayBusy = []) : s.wayDone p.val = s := by
  simp only [State.wayDone, h]

/-- With no line left in it, a way that is being disabled goes off (R277). -/
theorem State.wayDone_empty {w : Nat} {rest : List Nat} (hway : (s.pond p.val).wayBusy = w :: rest) (hmaint : (s.pond p.val).maint = none)
    (hempty : (s.pond p.val).l2 = []) :
    s.wayDone p.val = (((s.setPond p.val { s.pond p.val with wayBusy := rest }).setFld (L2_WAYOFF.AUTO p.val)
      (s.fld (L2_WAYOFF.AUTO p.val) ||| 2 ^ w)).pondRaise Flt.POND_WAY_OFF p.val 0 20 7 0).wayMin p.val := by
  simp [State.wayDone, hway, hmaint, hempty]

end Pond

/-! ### The pond DMA engines (R296, R297) -/

section Dma
variable {s u : State} {w : StrId} {e : Fin 2} {v : Word}

/-- A submission by a strider whose older stores have left comes to the engine's port (R296). -/
theorem State.submitTo_dma (hx : s.executes w = true) (hdrain : s.drainStores w = (true, u)) : s.submitTo w (e.val + 1) v =
    match u.dmaSubmit w e.val v with
    | (true, t) => t
    | (false, t) => t.setStr w { t.str w with
        dmaBuf := Tab.set (fun _ => 0) (t.str w).dmaBuf (4 * e.val + 3) v, run := .waiting (.dmaFull e.val t.dt) } := by
  simp only [State.submitTo, hx, Bool.not_true, Bool.false_eq_true, if_false, hdrain, State.portStore, length_leBytes, ne_eq, not_true,
    ofNat_leNat_leBytes, Nat.add_one_ne_zero, Nat.add_sub_cancel]
  cases u.dmaSubmit w e.val v with
  | mk taken t => cases taken <;> simp

theorem State.dmaSubmit_taken (h : ((u.pond w.pond.val).dma e.val).length < 16) :
    let x := u.pond w.pond.val
    let buf := (u.str w).dmaBuf
    let d := portDesc (buf.filterMap (fun k => if k.1 / 4 = e.val then some (k.1 % 4, k.2) else none)) v
    u.dmaSubmit w e.val v = (true, (u.setPond w.pond.val (x.setDma e.val (x.dma e.val ++ [{ who := w, desc := d }]))).setStr w
      { u.str w with dmaBuf := buf.filter (fun k => k.1 / 4 != e.val) }) := if_neg (Nat.not_le.mpr h)

theorem State.dmaSubmit_full (h : 16 ≤ ((u.pond w.pond.val).dma e.val).length) : u.dmaSubmit w e.val v = (false, u) := if_pos h

/-- The oldest request leaves its engine when it has run (R297). -/
theorem State.dmaComplete_ran {p : Fin 68} {r : DmaReq} {rest : List DmaReq} (hreq : (s.pond p.val).dma e.val = r :: rest)
    (hrun : s.dmaRun p e.val r = some u) : s.dmaComplete p e.val =
      (u.setPond p.val ((u.pond p.val).setDma e.val (((u.pond p.val).dma e.val).drop 1))).pmStopPoint p.val := by
  simp only [State.dmaComplete, hreq, hrun]

/-- A submission that has waited 2 µs for a full engine ends with BUSY (R296). -/
theorem exec_dmaFullTimeout_due (hp : s.powered = true) {e : Nat} {since : Word} (hrun : (s.str w).run = .waiting (.dmaFull e since))
    (ht : elapsed s.dt since (usTicks 2) = true) : exec (.dmaFullTimeout w) s =
      .next (settle s ((s.dmaBusy w e (Tab.get (fun _ => 0) (s.str w).dmaBuf (4 * e + 3))).resume w)) :=
  (exec_dmaFullTimeout ..).trans (run_eq hp (by simp only [hrun, ht, if_true]))

/-- The fields of the completion word (Table 10-6). -/
theorem leAt_dmaWord (dt : Word) (bad : Bool) (st : Nat) :
    leAt (dmaWord dt bad st) 0 2 = st % 256 ^ 2 ∧ leAt (dmaWord dt bad st) 2 2 = (0x8000 + if bad then 1 else 0) % 256 ^ 2 ∧
      leAt (dmaWord dt bad st) 4 4 = dt.toNat % 256 ^ 4 := by
  simp only [dmaWord, List.append_assoc, ← leNat_leBytes]
  refine ⟨leAt_middle (x := []) rfl (length_leBytes ..), leAt_middle (length_leBytes ..) (length_leBytes ..), ?_⟩
  rw [← List.append_assoc, ← List.append_nil (leBytes 4 dt.toNat)]
  exact (leAt_middle (by simp) (length_leBytes ..)).trans (by rw [List.append_nil])

end Dma

/-- Settles O37: a command on a fenced pond is refused, and on another it is the equation of its case; a submission to a DMA engine is taken
or waits by the room of its queue. -/
theorem pondCommandsAndDma : Obligations.PondCommandsAndDma := by
  refine ⟨fun s p hp => ⟨fun hrole => ?fenced, fun hrole => ?present, fun hnone ue => ?maintNone, fun op line hmaint => ?maintTreated,
    (exec_l2Stopped ..).trans (run_eq hp rfl), fun hwindow => ?ceWindow, fun hnone => ?wayNone, fun w rest hway hmaint hempty => ?wayOff,
    (exec_pondRearm ..).trans (run_eq hp rfl), fun hnone bad ue => ?marchNone, fun banks repair ue hmarch => ?marchClean⟩,
    fun s hp => ⟨fun w e v u hx hdrain => ?submit, fun w e since hrun ht => exec_dmaFullTimeout_due hp hrun ht,
      fun p e err r rest u hreq hrun => ?complete, fun dt bad st hst => ?word⟩⟩
  case fenced =>
    have h {f : State → State} := run_fenced (f := f) hp hrole
    exact ⟨fun ahi => ⟨(exec_l2Clean ..).trans h, (exec_l2Invalidate ..).trans h, (exec_l2CleanInvalidate ..).trans h⟩,
      (exec_l2CleanAll ..).trans h, (exec_l2InvalidateAll ..).trans h, (exec_l2CleanInvalidateAll ..).trans h,
      fun en => ⟨(exec_l2CtlEn ..).trans h, (exec_pondCtlEn ..).trans h, (exec_pmCtlEn ..).trans h⟩,
      fun m d c => (exec_pmRegionCommit ..).trans h, (exec_pmConflictClr ..).trans h, (exec_marchStart ..).trans h⟩
  case present =>
    have h {f : State → State} {t : State} (hf : f s = t) := run_onPond hp hrole hf
    have he {g : Fld} {en : Bool} {f : State → State} {t : State} (hen : s.bit g = !en) (hf : f s = t) := run_enable hp hrole hen hf
    refine ⟨fun hidle hahi => ⟨fun ahi hahi => ?line, ?all⟩, fun hbusy ahi => ?busy, fun hen => ?l2Off, fun hen hempty hways => ?l2On,
      fun hen => (exec_pondCtlEn ..).trans (he hen rfl), fun hen => (exec_pmCtlEn ..).trans (he hen rfl),
      fun hen => ?pondOff, fun hen hpond => ?pmRefused, fun hen hpond => ?pmOff,
      fun m d hm hd hlt => (exec_pmRegionCommit ..).trans (h (State.writeRegionSel_commit hm hd hlt)),
      (exec_pmConflictClr ..).trans (h rfl),
      fun hen => (exec_marchStart ..).trans (h (State.marchBegin_enabled hen)),
      fun hen hidle => (exec_marchStart ..).trans (h (State.marchBegin_idle hen hidle))⟩
    case line =>
      have hwalk {op : Nat} (hop : op ≠ 0 ∧ op ≤ 6) := run_maintOp_idle hp hrole hop hidle hahi
      exact ⟨(exec_l2Clean ..).trans (hwalk (by decide)), (exec_l2Invalidate ..).trans (hwalk (by decide)),
        (exec_l2CleanInvalidate ..).trans (hwalk (by decide))⟩
    case all =>
      have hwalk {op : Nat} (hop : op ≠ 0 ∧ op ≤ 6) := run_maintOp_idle (ahi := 0) hp hrole hop hidle hahi
      exact ⟨(exec_l2CleanAll ..).trans (hwalk (by decide)), (exec_l2InvalidateAll ..).trans (hwalk (by decide)),
        (exec_l2CleanInvalidateAll ..).trans (hwalk (by decide))⟩
    case busy =>
      exact ⟨(exec_l2Clean ..).trans (run_maintOp_busy hp hrole (by decide) hbusy),
        (exec_l2CleanAll ..).trans (run_maintOp_busy hp hrole (by decide) hbusy)⟩
    case l2Off => exact (exec_l2CtlEn ..).trans (he hen (State.l2Enable_off hen))
    case l2On =>
      refine ⟨_, (exec_l2CtlEn ..).trans (he hen (State.l2Enable_on hen hempty hways)), ?_, by simp⟩
      rw [State.bit, State.fld_setFld_same]
      rfl
    case pondOff => exact (exec_pondCtlEn ..).trans (he hen (State.pondEnable_off hen))
    case pmRefused => exact (exec_pmCtlEn ..).trans (he hen (State.pmEnable_off_refused hen hpond))
    case pmOff => exact (exec_pmCtlEn ..).trans (he hen (State.pmEnable_off hen hpond))
  case maintNone => exact (exec_l2MaintDone ..).trans (run_eq hp (State.maintEnd_none hnone))
  case maintTreated => exact (exec_l2MaintDone ..).trans (run_eq hp (State.maintEnd_treated hmaint))
  case ceWindow => exact (exec_l2CeWindow ..).trans (run_eq hp (if_pos hwindow))
  case wayNone => exact (exec_wayDisableDone ..).trans (run_eq hp (State.wayDone_none hnone))
  case wayOff => exact (exec_wayDisableDone ..).trans (run_eq hp (State.wayDone_empty hway hmaint hempty))
  case marchNone => exact (exec_marchDone ..).trans (run_eq hp (State.marchEnd_none hnone))
  case marchClean =>
    refine ⟨_, (exec_marchDone ..).trans (run_eq hp (State.marchEnd_clean hmarch)), by simp, ?busy, ?done, rfl⟩
    case busy =>
      have hkey : (MARCH_STAT.BUSY p.val).key ≠ (MARCH_STAT.DONE p.val).key := by simp [Fld.key, MARCH_STAT.BUSY, MARCH_STAT.DONE]
      rw [State.bit_setPond, State.bit_setFld_other _ _ hkey, State.bit, State.fld_setFld_same]
      rfl
    case done =>
      rw [State.bit_setPond, State.bit, State.fld_setFld_same]
      rfl
  case submit =>
    refine ⟨fun hroom => (exec_dmaRequestSubmit ..).trans (run_eq hp ?taken),
      fun hfull => (exec_dmaRequestSubmit ..).trans (run_eq hp ?full)⟩
    case taken => rw [State.submitTo_dma hx hdrain, State.dmaSubmit_taken hroom]
    case full => rw [State.submitTo_dma hx hdrain, State.dmaSubmit_full hfull]
  case complete => exact (exec_dmaRequestComplete ..).trans (run_eq hp (State.dmaComplete_ran hreq hrun))
  case word =>
    obtain ⟨hstatus, hflags, htime⟩ := leAt_dmaWord dt bad st
    refine ⟨by simp [dmaWord], hstatus.trans (Nat.mod_eq_of_lt hst), hflags.trans ?_, htime⟩
    cases bad <;> rfl

end Sys2Proof.Machine
end

section
/-!
PROOFS. Barriers and drains (chapter 11). Performing an entry of a buffer may write any register, so FENCE.ALL leaves both buffers empty only
if no register write fills a store buffer: first come the operations that leave the striders as they are, one lemma for each, then those
that leave the store buffers, then the drains, the barriers and the obligation.
-/

namespace Sys2Proof.Machine

/-! ### Operations that leave the striders as they are -/

section Striders
variable {s : State}

@[simp] theorem State.striders_ite {c : Prop} [Decidable c] (a b : State) :
    (if c then a else b).striders = if c then a.striders else b.striders := apply_ite State.striders c a b

@[simp] theorem State.snd_ite {α : Type} {c : Prop} [Decidable c] (a b : α × State) : (if c then a else b).2 = if c then a.2 else b.2 :=
  apply_ite Prod.snd c a b

@[simp] theorem State.striders_foldl {α : Type} {f : State → α → State} (h : ∀ t x, (f t x).striders = t.striders) (l : List α) :
    (l.foldl f s).striders = s.striders := foldl_keeps State.striders h l s

/-- The state in an answer that was asked of an operation. -/
theorem State.striders_answer {α : Type} {r : α × State} {x : α} {t : State} (h : r = (x, t)) (hr : r.2.striders = s.striders) :
    t.striders = s.striders := by
  subst h
  exact hr

/-! #### Registers -/

@[simp] theorem State.striders_setBit {f : Fld} {v : Bool} : (s.setBit f v).striders = s.striders := rfl
@[simp] theorem State.striders_addSat {f : Fld} {k : Nat} : (s.addSat f k).striders = s.striders := by simp [State.addSat]
@[simp] theorem State.striders_addWrap {f : Fld} {k : Nat} : (s.addWrap f k).striders = s.striders := (rfl)
@[simp] theorem State.striders_setSFld {f : Fld} {v : Int} : (s.setSFld f v).striders = s.striders := rfl

@[simp] theorem State.striders_apply {f : Fld} : (s.apply f).striders = s.striders := by
  simp only [State.apply]
  split <;> simp

@[simp] theorem State.striders_setPair {lo hi : Fld} {v : Word} : (s.setPair lo hi v).striders = s.striders := by simp [State.setPair]
@[simp] theorem State.striders_reject {a lo : Nat} : (s.reject a lo).striders = s.striders := rfl
@[simp] theorem State.striders_mismatch {a lo : Nat} : (s.mismatch a lo).striders = s.striders := rfl

@[simp] theorem striders_writeField {s₀ : State} {a v : Nat} {extra : Nat → Nat → Bool} {d : FieldDef} :
    (writeField s₀ a v extra s d).striders = s.striders := by
  simp only [writeField]
  split <;> simp

@[simp] theorem striders_writePlain {a v : Nat} {skip : List Nat} {extra : Nat → Nat → Bool} :
    (writePlain s a v skip extra).striders = s.striders := by simp [writePlain]
@[simp] theorem State.striders_fresh : s.fresh.2.striders = s.striders := rfl

/-! #### What leaves to the host -/

@[simp] theorem State.striders_hostPut {a : Nat} {b : List Byte} : (s.hostPut a b).striders = s.striders := by simp [State.hostPut]
@[simp] theorem State.striders_setPend {v : Nat} {p : Bool} : (s.setPend v p).striders = s.striders := rfl
@[simp] theorem State.striders_msix {v : Nat} : (s.msix v).striders = s.striders := by simp [State.msix]
@[simp] theorem State.striders_sendMsg {t cls mtype dest : Nat} {body : List Byte} {poison : List Nat} :
    (s.sendMsg t cls mtype dest body poison).striders = s.striders := by simp [State.sendMsg]
@[simp] theorem State.striders_logDrop : s.logDrop.striders = s.striders := rfl

@[simp] theorem State.striders_logBytes {b : List Byte} : (s.logBytes b).striders = s.striders := by
  simp only [State.logBytes]
  split <;> simp

@[simp] theorem State.striders_writeRecord {r : Record} : (s.writeRecord r).striders = s.striders := by
  simp only [State.writeRecord]
  split <;> simp

@[simp] theorem State.striders_numberRecord {r : Record} : (s.numberRecord r).2.striders = s.striders := rfl
@[simp] theorem State.striders_recordNow {r : Record} : (s.recordNow r).striders = s.striders := by simp [State.recordNow]
@[simp] theorem State.striders_recordLater {r : Record} : (s.recordLater r).striders = s.striders := rfl

@[simp] theorem State.striders_notice {inst detail : Nat} : (s.notice inst detail).striders = s.striders := by
  simp only [State.notice]
  split <;> simp

/-! #### Faults -/

@[simp] theorem State.striders_firstOf {valid src ovf : Fld} {bit : Nat} :
    (s.firstOf valid src ovf bit).striders = s.striders := by simp [State.firstOf]
@[simp] theorem State.striders_firstStat {first ovf : Fld} {bit : Nat} :
    (s.firstStat first ovf bit).striders = s.striders := by simp [State.firstStat]

@[simp] theorem State.striders_capture {base : Nat} {hasHi : Bool} {bit addr info : Nat} :
    (s.capture base hasHi bit addr info).striders = s.striders := by
  have hword (v : Nat) (f : FieldDef → Fld) (t : State) (l : List FieldDef) :
      (l.foldl (fun s d => s.setFld (f d) (v / 2 ^ d.lo)) t).striders = t.striders :=
    foldl_keeps State.striders (fun t d => t.setFld_striders (f d) (v / 2 ^ d.lo)) l t
  simp only [State.capture]
  repeat' split
  all_goals simp [hword]

@[simp] theorem State.striders_first {b : FaultBit} {addr info : Nat} : (s.first b addr info).striders = s.striders := by
  simp only [State.first]
  repeat' split
  all_goals simp

@[simp] theorem State.striders_countClass {k : Cls} : (s.countClass k).striders = s.striders := by
  simp only [State.countClass]
  split <;> simp

@[simp] theorem State.striders_awaitAck {b : FaultBit} {act : Cls} : (s.awaitAck b act).striders = s.striders := rfl

@[simp] theorem State.striders_raiseActing {b : FaultBit} {cls act : Cls} {addr info detail : Nat} :
    (s.raiseActing b cls act addr info detail).striders = s.striders := by
  unfold State.raiseActing
  split <;> simp

@[simp] theorem State.striders_raiseAs {b : FaultBit} {cls : Cls} {addr info detail : Nat} :
    (s.raiseAs b cls addr info detail).striders = s.striders := by simp [State.raiseAs]
@[simp] theorem State.striders_raiseAt {b : FaultBit} {addr info detail : Nat} :
    (s.raiseAt b addr info detail).striders = s.striders := by simp [State.raiseAt]
@[simp] theorem State.striders_raise {b : FaultBit} : (s.raise b).striders = s.striders := by simp [State.raise]

@[simp] theorem State.striders_clearFirst {blk inst : Nat} : (s.clearFirst blk inst).striders = s.striders := by
  simp only [State.clearFirst]
  repeat' split
  all_goals simp

@[simp] theorem State.striders_rearm {blk inst : Nat} : (s.rearm blk inst).striders = s.striders := by
  simp only [State.rearm]
  split <;> simp

@[simp] theorem State.striders_acked {b : FaultBit} : (s.acked b).striders = s.striders := by simp [State.acked]

/-! #### Time -/

@[simp] theorem State.striders_applyStaged {p : Nat → Bool} :
    (s.applyStaged p).striders = s.striders := foldl_keeps State.striders (fun t e => by split <;> simp) _ s

@[simp] theorem State.striders_commitGroup {imm commit : Fld} {members : List Fld} {check : State → Bool} :
    (s.commitGroup imm commit members check).1.striders = s.striders := by
  have hstage (t : State) : (members.foldl (fun s f => s.stage f none) t).striders = t.striders :=
    foldl_keeps State.striders (fun t f => t.stage_striders f none) members t
  simp only [State.commitGroup]
  repeat' split
  all_goals simp [hstage]

@[simp] theorem State.striders_writeTimeCtl {en load aonCal : Bool} :
    (s.writeTimeCtl en load aonCal).striders = s.striders := by simp [State.writeTimeCtl]
@[simp] theorem State.striders_writeDtSlew {v : Word32} : (s.writeDtSlew v).striders = s.striders := by simp [State.writeDtSlew]
@[simp] theorem State.striders_ffDisable : s.ffDisable.striders = s.striders := rfl

/-! #### DRAM -/

@[simp] theorem State.striders_setRegion {i : Nat} {r : Region} : (s.setRegion i r).striders = s.striders := rfl
@[simp] theorem State.striders_vmapAccess {r : Region} {a : Nat} : (s.vmapAccess r a).striders = s.striders := by simp [State.vmapAccess]
@[simp] theorem State.striders_setPoisonWord {w : Nat} {p : Bool} : (s.setPoisonWord w p).striders = s.striders := rfl
@[simp] theorem State.striders_setLinePoison {line : Nat} {m : BitVec 8} :
    (s.setLinePoison line m).striders = s.striders := foldl_keeps State.striders (fun t x => by simp) _ _
@[simp] theorem State.striders_noRegion {a master atype : Nat} :
    (s.noRegion a master atype).striders = s.striders := by simp [State.noRegion]

@[simp] theorem State.striders_dramRead {line master : Nat} : (s.dramRead line master).2.2.striders = s.striders := by
  simp only [State.dramRead]
  repeat' split
  all_goals simp

@[simp] theorem State.striders_dramWrite {line : Nat} {b : List (Option Byte)} {poison : BitVec 8} {master : Nat} :
    (s.dramWrite line b poison master).striders = s.striders := by
  simp only [State.dramWrite]
  split <;> simp

@[simp] theorem State.striders_dramWriteFull {line : Nat} {b : List Byte} {poison : BitVec 8} {master : Nat} :
    (s.dramWriteFull line b poison master).striders = s.striders := by simp [State.dramWriteFull]
@[simp] theorem State.striders_trainStart {c : Nat} : (s.trainStart c).striders = s.striders := by simp [State.trainStart]
@[simp] theorem State.striders_mcStopPoint {c : Nat} : (s.mcStopPoint c).striders = s.striders := by simp [State.mcStopPoint]

@[simp] theorem State.striders_mcEnable {c : Nat} {en : Bool} : (s.mcEnable c en).striders = s.striders := by
  simp only [State.mcEnable]
  repeat' split
  all_goals simp

@[simp] theorem State.striders_setRgnWindow {c : Nat} {r : Region} : (s.setRgnWindow c r).striders = s.striders := rfl
@[simp] theorem State.striders_startFill {c idx : Nat} {r : Region} : (s.startFill c idx r).striders = s.striders := rfl
@[simp] theorem State.striders_rgnRead {c idx : Nat} : (s.rgnRead c idx).striders = s.striders := by simp [State.rgnRead]
@[simp] theorem State.striders_rgnWrite {c idx : Nat} : (s.rgnWrite c idx).striders = s.striders := by simp [State.rgnWrite]
@[simp] theorem State.striders_rgnInvalidate {c idx : Nat} : (s.rgnInvalidate c idx).striders = s.striders := by simp [State.rgnInvalidate]
@[simp] theorem State.striders_rgnRebind {c idx : Nat} : (s.rgnRebind c idx).striders = s.striders := by simp [State.rgnRebind]

/-! #### L1 caches -/

@[simp] theorem State.striders_dropL1 {p line : Nat} {own : Option Nat} : (s.dropL1 p line own).striders = s.striders := rfl

/-! #### Queues -/

@[simp] theorem State.striders_setQueue {b q : Nat} {v : Queue} : (s.setQueue b q v).striders = s.striders := by simp [State.setQueue]
@[simp] theorem State.striders_countRefused {b q : Nat} : (s.countRefused b q).striders = s.striders := rfl

/-! #### L2 caches, the ring and the home -/

@[simp] theorem State.striders_putL2 {p line : Nat} {v : L2Line} {own : Option Nat} : (s.putL2 p line v own).striders = s.striders := rfl
@[simp] theorem State.striders_setL2 {p line : Nat} {v : L2Line} : (s.setL2 p line v).striders = s.striders := rfl
@[simp] theorem State.striders_useWay {p line way : Nat} : (s.useWay p line way).striders = s.striders := rfl
@[simp] theorem State.striders_setHome {b line : Nat} {v : HomeLine} : (s.setHome b line v).striders = s.striders := by simp [State.setHome]
@[simp] theorem State.striders_sendRing {b : Nat} {dst : Option (Fin 17)} {line : Nat} {m : RingMsg} :
    (s.sendRing b dst line m).striders = s.striders := rfl
@[simp] theorem State.striders_protoError {b line stop msg : Nat} :
    (s.protoError b line stop msg).striders = s.striders := by simp [State.protoError]
@[simp] theorem State.striders_nackReq {b line : Nat} {m : HomeMsg} : (s.nackReq b line m).striders = s.striders := rfl
@[simp] theorem State.striders_returnTicket {b : Nat} {m : HomeMsg} : (s.returnTicket b m).striders = s.striders := rfl
@[simp] theorem State.striders_dropTicket {b : Nat} {m : HomeMsg} : (s.dropTicket b m).striders = s.striders := rfl

@[simp] theorem State.striders_openTxn {b line : Nat} {busy : Busy} {m : HomeMsg} : (s.openTxn b line busy m).striders = s.striders := by
  simp only [State.openTxn]
  repeat' split
  all_goals simp

@[simp] theorem State.striders_grantNew {b line : Nat} {m : HomeMsg} {reserved : Bool} :
    (s.grantNew b line m reserved).striders = s.striders := by simp [State.grantNew]

@[simp] theorem State.striders_allocate {b line : Nat} {m : HomeMsg} : (s.allocate b line m).striders = s.striders := by
  simp only [State.allocate]
  repeat' split
  all_goals simp

@[simp] theorem State.striders_freeWay {b set : Nat} : (s.freeWay b set).striders = s.striders := by
  simp only [State.freeWay]
  split <;> simp

@[simp] theorem State.striders_homeAct {b line : Nat} {m : HomeMsg} : (s.homeAct b line m).striders = s.striders := by
  unfold State.homeAct
  split <;> simp

@[simp] theorem State.striders_homeRequest {b line : Nat} {m : HomeMsg} :
    (s.homeRequest b line m).striders = s.striders := by simp [State.homeRequest]
@[simp] theorem State.striders_removeHolder {b line : Nat} {r : Fin 17} :
    (s.removeHolder b line r).striders = s.striders := by simp [State.removeHolder]

@[simp] theorem State.striders_receive {b : Nat} {r : Fin 17} {f : Flight} : (s.receive b r f).striders = s.striders := by
  simp only [State.receive]
  split <;> simp

@[simp] theorem State.striders_deliverBefore {b : Nat} {r : Fin 17} {seq n : Nat} : (s.deliverBefore b r seq n).striders = s.striders := by
  induction n generalizing s with
  | zero => rfl
  | succ n ih =>
    simp only [State.deliverBefore]
    split
    · split <;> simp [ih]
    · rfl

@[simp] theorem State.striders_snoopL2 {b r line : Nat} {k : Snoop} : (s.snoopL2 b r line k).2.striders = s.striders := by
  simp only [State.snoopL2]
  repeat' split
  all_goals simp

@[simp] theorem State.striders_addAnswer {b line : Nat} {r : Fin 17} : (s.addAnswer b line r).striders = s.striders := by
  simp only [State.addAnswer]
  split <;> simp

@[simp] theorem State.striders_flushStop {b r set : Nat} :
    (s.flushStop b r set).striders = s.striders := foldl_keeps State.striders (fun t x => by dsimp only; split <;> simp) _ _

@[simp] theorem State.striders_runQueue {b line n : Nat} : (s.runQueue b line n).striders = s.striders := by
  induction n generalizing s with
  | zero => rfl
  | succ n ih =>
    simp only [State.runQueue]
    split
    · rfl
    · split <;> simp [ih]

@[simp] theorem State.striders_completeFlush {b set : Nat} : (s.completeFlush b set).striders = s.striders := by
  simp only [State.completeFlush]
  split <;> simp

@[simp] theorem State.striders_completeTxn {b line : Nat} : (s.completeTxn b line).striders = s.striders := by
  simp only [State.completeTxn]
  repeat' split
  all_goals simp

@[simp] theorem State.striders_deliverOne {b : Nat} {r : Fin 17} : (s.deliverOne b r).striders = s.striders := by
  simp only [State.deliverOne]
  split <;> simp

@[simp] theorem State.striders_deliverAll {b : Nat} {r : Fin 17} {n : Nat} : (s.deliverAll b r n).striders = s.striders := by
  induction n generalizing s with
  | zero => rfl
  | succ n ih => simp [State.deliverAll, ih]

@[simp] theorem State.striders_settleLine {b line : Nat} {r : Option (Fin 17)} {n : Nat} :
    (s.settleLine b line r n).striders = s.striders := by
  induction n generalizing s with
  | zero => rfl
  | succ n ih =>
    simp only [State.settleLine]
    split <;> split <;> simp [ih]

@[simp] theorem State.striders_l2Send {b : Nat} {r : Fin 17} {line : Nat} {req : HomeReq} :
    (s.l2Send b r line req).striders = s.striders := by simp [State.l2Send]

@[simp] theorem State.striders_evict {p line : Nat} {keep : Bool} : (s.evict p line keep).2.striders = s.striders := by
  simp only [State.evict]
  split <;> simp

@[simp] theorem State.striders_takeWay {p line : Nat} : (s.takeWay p line).2.striders = s.striders := by
  simp only [State.takeWay]
  repeat' split
  all_goals simp

@[simp] theorem State.striders_acquire {p line : Nat} {store : Bool} : (s.acquire p line store).2.striders = s.striders := by
  unfold State.acquire
  extract_lets b r used done st l t u
  have hused (x : Bool × State) : (used x).2.striders = x.2.striders := by simp only [used]; split <;> simp
  have hdone (t : State) : (done t).2.striders = t.striders := by
    simp only [done, hused]
    split
    · split <;> simp
    · rfl
  clear_value st used done
  split
  · rfl
  · split
    · cases st
      case i =>
        dsimp only
        split
        · exact State.striders_answer ‹_› State.striders_takeWay
        · have hway := State.striders_answer ‹_› State.striders_takeWay
          simp [hdone, hway]
      all_goals simp [hdone, t, u]
    · cases st
      case i =>
        dsimp only
        split
        · exact State.striders_answer ‹_› State.striders_takeWay
        · have hway := State.striders_answer ‹_› State.striders_takeWay
          simp [hused, hway]
      all_goals simp [hused]

@[simp] theorem State.striders_l2Store {p line : Nat} {b : List (Option Byte)} {poison : BitVec 8} {own : Option Nat} :
    (s.l2Store p line b poison own).striders = s.striders := rfl
@[simp] theorem State.striders_withdraw {b : Nat} {who : Option (Fin 17)} {line : Nat} :
    (s.withdraw b who line).striders = s.striders := rfl

@[simp] theorem State.striders_masterRead {who : Option (Fin 17)} {line master : Nat} :
    (s.masterRead who line master).2.striders = s.striders := by
  simp only [State.masterRead]
  repeat' split
  all_goals simp

@[simp] theorem State.striders_masterWrite {who : Option (Fin 17)} {line : Nat} {b : List (Option Byte)} {poison : BitVec 8} {master : Nat} :
    (s.masterWrite who line b poison master).2.striders = s.striders := by
  simp only [State.masterWrite]
  repeat' split
  all_goals simp

@[simp] theorem State.striders_masterBytes {a n master : Nat} : (s.masterBytes a n master).2.striders = s.striders := by
  refine foldl_keeps (fun r : Option (List Byte × List Bool) × State => r.2.striders) (fun r e => ?_) _ _
  dsimp only
  split
  · rfl
  · split <;> exact State.striders_answer ‹_› State.striders_masterRead

/-! #### Ponds -/

@[simp] theorem State.striders_pmPut {p : Fin 68} {off : Nat} {b : List Byte} :
    (s.pmPut p off b).striders = s.striders := by simp [State.pmPut]
@[simp] theorem State.striders_setPmDesc {p m d : Nat} {v : PmDesc} : (s.setPmDesc p m d v).striders = s.striders := rfl
@[simp] theorem State.striders_pondRaise {f : Nat → FaultBit} {p addr master atype space : Nat} :
    (s.pondRaise f p addr master atype space).striders = s.striders := by simp [State.pondRaise]
@[simp] theorem State.striders_showDesc {p : Nat} : (s.showDesc p).striders = s.striders := rfl
@[simp] theorem State.striders_descPoint {p : Nat} : (s.descPoint p).striders = s.striders := by simp [State.descPoint]
@[simp] theorem State.striders_writeRegionSel {p : Nat} {master : BitVec 5} {desc : BitVec 3} {commit : Bool} :
    (s.writeRegionSel p master desc commit).striders = s.striders := by simp [State.writeRegionSel]
@[simp] theorem State.striders_clearConflict {p : Nat} : (s.clearConflict p).striders = s.striders := rfl
@[simp] theorem State.striders_pmStopPoint {p : Nat} : (s.pmStopPoint p).striders = s.striders := by simp [State.pmStopPoint]
@[simp] theorem State.striders_marchBegin {p : Nat} : (s.marchBegin p).striders = s.striders := by simp [State.marchBegin]
@[simp] theorem State.striders_wayMin {p : Nat} : (s.wayMin p).striders = s.striders := by simp [State.wayMin]

@[simp] theorem State.striders_maintLine {p line op : Nat} : (s.maintLine p line op).striders = s.striders := by
  simp only [State.maintLine]
  split <;> simp

@[simp] theorem State.striders_maintApply {p op line : Nat} : (s.maintApply p op line).striders = s.striders := by simp [State.maintApply]
@[simp] theorem State.striders_maintStart {p op line : Nat} : (s.maintStart p op line).striders = s.striders := by simp [State.maintStart]
@[simp] theorem State.striders_l2StopPoint {p : Fin 68} : (s.l2StopPoint p).striders = s.striders := by simp [State.l2StopPoint]
@[simp] theorem State.striders_l2Enable {p : Fin 68} {en : Bool} : (s.l2Enable p en).striders = s.striders := by simp [State.l2Enable]
@[simp] theorem State.striders_pondEnable {p : Fin 68} {en : Bool} : (s.pondEnable p en).striders = s.striders := by simp [State.pondEnable]
@[simp] theorem State.striders_pmEnable {p : Nat} {en : Bool} : (s.pmEnable p en).striders = s.striders := by simp [State.pmEnable]
@[simp] theorem State.striders_basinEnable {b : Nat} {en : Bool} : (s.basinEnable b en).striders = s.striders := by simp [State.basinEnable]

/-! #### Security -/

@[simp] theorem State.striders_pageEnable {k : Nat} : (s.pageEnable k).striders = s.striders := by simp [State.pageEnable]
@[simp] theorem State.striders_pageDisable {k : Nat} : (s.pageDisable k).striders = s.striders := by simp [State.pageDisable]
@[simp] theorem State.striders_pageDenied {k : Nat} : (s.pageDenied k).striders = s.striders := rfl
@[simp] theorem State.striders_keyload {v : Word32} : (s.keyload v).striders = s.striders := by simp [State.keyload]
@[simp] theorem State.striders_keyClear : s.keyClear.striders = s.striders := rfl
@[simp] theorem State.striders_otpLocked : s.otpLocked.striders = s.striders := rfl
@[simp] theorem State.striders_rngStart : s.rngStart.striders = s.striders := rfl
@[simp] theorem State.striders_shaStart : s.shaStart.striders = s.striders := rfl
@[simp] theorem State.striders_shaFeed {v : Word32} : (s.shaFeed v).striders = s.striders := by simp [State.shaFeed]
@[simp] theorem State.striders_shaEnd : s.shaEnd.striders = s.striders := by simp [State.shaEnd]

/-! #### Compression -/

@[simp] theorem State.striders_cmpPoint : s.cmpPoint.striders = s.striders := by simp [State.cmpPoint]

@[simp] theorem State.striders_cmpReport {reason page : Nat} : (s.cmpReport reason page).striders = s.striders := by
  unfold State.cmpReport
  cases cmpFault reason <;> simp

@[simp] theorem State.striders_cmpStopPoint : s.cmpStopPoint.striders = s.striders := by simp [State.cmpStopPoint]
@[simp] theorem State.striders_jobEnd {reason blen : Nat} : (s.jobEnd reason blen).striders = s.striders := by simp [State.jobEnd]

@[simp] theorem State.striders_presetBytes : s.presetBytes.2.striders = s.striders := by
  unfold State.presetBytes
  split
  · split <;> exact State.striders_answer ‹_› (by simp)
  · rfl

@[simp] theorem State.striders_readImage : s.readImage.2.striders = s.striders := by
  unfold State.readImage
  split
  · rfl
  · have hread := State.striders_answer ‹_› State.striders_masterBytes
    split
    · rfl
    · exact State.striders_answer ‹_› (State.striders_presetBytes.trans hread)

@[simp] theorem State.striders_jobStart {op use : Nat} : (s.jobStart op use).striders = s.striders := by
  simp only [State.jobStart]
  repeat' split
  all_goals simp

@[simp] theorem State.striders_cmpEnable {en : Bool} : (s.cmpEnable en).striders = s.striders := by simp [State.cmpEnable]
@[simp] theorem State.striders_laneEnWritten : s.laneEnWritten.striders = s.striders := rfl

/-! #### Axis trackers -/

@[simp] theorem State.striders_axisPoint {n : Nat} : (s.axisPoint n).striders = s.striders := by simp [State.axisPoint]
@[simp] theorem State.striders_axisCommit {n : Nat} : (s.axisCommit n).striders = s.striders := by simp [State.axisCommit]
@[simp] theorem State.striders_axisEnable {n : Nat} {en : Bool} : (s.axisEnable n en).striders = s.striders := by simp [State.axisEnable]

/-! #### Weirs -/

@[simp] theorem State.striders_inc64 {lo hi : Fld} : (s.inc64 lo hi).striders = s.striders := by simp [State.inc64]
@[simp] theorem State.striders_syncWeir {n : Nat} : (s.syncWeir n).striders = s.striders := rfl
@[simp] theorem State.striders_weirStopCheck {n : Nat} : (s.weirStopCheck n).striders = s.striders := by simp [State.weirStopCheck]
@[simp] theorem State.striders_dropRec {n id : Nat} : (s.dropRec n id).striders = s.striders := rfl
@[simp] theorem State.striders_speedRaise {rpm src : Nat} : (s.speedRaise rpm src).striders = s.striders := by simp [State.speedRaise]
@[simp] theorem State.striders_speedReq {rated req : Nat} : (s.speedReq rated req).striders = s.striders := by simp [State.speedReq]
@[simp] theorem State.striders_adtRead : s.adtRead.striders = s.striders := by simp [State.adtRead]
@[simp] theorem State.striders_adtWrite : s.adtWrite.striders = s.striders := by simp [State.adtWrite]
@[simp] theorem State.striders_adtNext : s.adtNext.striders = s.striders := rfl

@[simp] theorem State.striders_adtAccess {write : Option Word32} : (s.adtAccess write).striders = s.striders := by
  unfold State.adtAccess
  split <;> simp

/-! #### Field channels -/

@[simp] theorem State.striders_setFc {n st : Nat} : (s.setFc n st).striders = s.striders := rfl
@[simp] theorem State.striders_fcWritten {n : Nat} : (s.fcWritten n).striders = s.striders := by simp [State.fcWritten]
@[simp] theorem State.striders_startAttempt {n : Nat} {hello : Bool} : (s.startAttempt n hello).striders = s.striders := rfl

@[simp] theorem State.striders_fcEnable {n : Nat} : (s.fcEnable n).striders = s.striders := by
  simp only [State.fcEnable]
  repeat' split
  all_goals simp

@[simp] theorem State.striders_violClear {n : Nat} : (s.violClear n).striders = s.striders := rfl

/-! #### Tier ports -/

@[simp] theorem State.striders_setTier {t st : Nat} : (s.setTier t st).striders = s.striders := rfl

@[simp] theorem State.striders_routePoint {t : Nat} : (s.routePoint t).striders = s.striders := by
  have hdrop :
      ((upTo 8).foldl (fun s u => (s.stage (TIER_ROUTE_LO.ROUTE u) none).stage (TIER_ROUTE_HI.ROUTE u) none) s).striders = s.striders :=
    State.striders_foldl (fun t u => by rw [State.stage_striders, State.stage_striders]) _
  unfold State.routePoint
  cases s.bit (TIER_CTL.COMMIT 0) || (s.bit DEV_CFGMODE.IMM_TIER && s.routesStaged)
  · rfl
  · cases s.routesStaged <;> cases s.routesOk <;> simp [hdrop]

@[simp] theorem State.striders_routeCommit : s.routeCommit.striders = s.striders := by simp [State.routeCommit]
@[simp] theorem State.striders_tierAttempt {t : Nat} : (s.tierAttempt t).striders = s.striders := by simp [State.tierAttempt]
@[simp] theorem State.striders_tierOn {t : Nat} : (s.tierOn t).striders = s.striders := by simp [State.tierOn]
@[simp] theorem State.striders_tierOff {t : Nat} : (s.tierOff t).striders = s.striders := rfl

/-! #### Clocks and power -/

@[simp] theorem State.striders_selfRefresh {on : Bool} : (s.selfRefresh on).striders = s.striders := by simp [State.selfRefresh]
@[simp] theorem State.striders_eclkPlls {on : Bool} : (s.eclkPlls on).striders = s.striders := rfl
@[simp] theorem State.striders_napEnd : s.napEnd.striders = s.striders := by simp [State.napEnd]
@[simp] theorem State.striders_chainStart : s.chainStart.striders = s.striders := by simp [State.chainStart]

/-! #### Host -/

@[simp] theorem State.striders_setQpair {q : Nat} {v : Option QPair} : (s.setQpair q v).striders = s.striders := rfl
@[simp] theorem State.striders_stat {k : Nat} : (s.stat k).striders = s.striders := rfl
@[simp] theorem State.striders_hostRaise {b : FaultBit} {addr master atype space queue : Nat} :
    (s.hostRaise b addr master atype space queue).striders = s.striders := by simp [State.hostRaise]
@[simp] theorem State.striders_bellBad {who : Requester} {a : Nat} : (s.bellBad who a).striders = s.striders := by simp [State.bellBad]

@[simp] theorem State.striders_sqDoorbell {who : Requester} {q v : Nat} : (s.sqDoorbell who q v).striders = s.striders := by
  simp only [State.sqDoorbell]
  split <;> simp

@[simp] theorem State.striders_cqDoorbell {who : Requester} {q v : Nat} : (s.cqDoorbell who q v).striders = s.striders := by
  simp only [State.cqDoorbell]
  split <;> simp

@[simp] theorem State.striders_hostEnable {en : Bool} : (s.hostEnable en).striders = s.striders := by simp [State.hostEnable]
@[simp] theorem State.striders_dropPrefetch : s.dropPrefetch.striders = s.striders := rfl
@[simp] theorem State.striders_dpCtl {v : Word32} : (s.dpCtl v).striders = s.striders := by simp [State.dpCtl]

/-! #### Start -/

@[simp] theorem State.striders_wipeRegs {lo hi : Nat} : (s.wipeRegs lo hi).striders = s.striders := rfl

@[simp] theorem State.striders_blockReset {blk inst : Nat} : (s.blockReset blk inst).striders = s.striders := by
  simp only [State.blockReset]
  split <;> simp

/-! #### Register writes, by block -/

@[simp] theorem State.striders_ackWritten {s₀ : State} {a : Nat} : (s.ackWritten s₀ a).striders = s.striders := by simp [State.ackWritten]

@[simp] theorem State.striders_enWrite {f : Fld} {en : Bool} {h : State → State} (hh : ∀ t, (h t).striders = t.striders) :
    (s.enWrite f en h).striders = s.striders := by
  simp only [State.enWrite]
  split
  · rfl
  · exact hh s

@[simp] theorem State.striders_writeCfgmode {v : Nat} : (s.writeCfgmode v).striders = s.striders := by simp [State.writeCfgmode]
@[simp] theorem State.striders_writeTime {a v : Nat} : (s.writeTime a v).striders = s.striders := by simp [State.writeTime]
@[simp] theorem State.striders_axisWritten {n : Nat} : (s.axisWritten n).striders = s.striders := by simp [State.axisWritten]
@[simp] theorem State.striders_writeAxis {n a v : Nat} : (s.writeAxis n a v).striders = s.striders := by simp [State.writeAxis]
@[simp] theorem State.striders_portEnable {m : Nat} {en : Bool} : (s.portEnable m en).striders = s.striders := by simp [State.portEnable]
@[simp] theorem State.striders_writePort {m a v : Nat} : (s.writePort m a v).striders = s.striders := by simp [State.writePort]
@[simp] theorem State.striders_weirgEnable {en : Bool} : (s.weirgEnable en).striders = s.striders := by simp [State.weirgEnable]
@[simp] theorem State.striders_spdClr : s.spdClr.striders = s.striders := rfl
@[simp] theorem State.striders_writeWeirg {a v : Nat} : (s.writeWeirg a v).striders = s.striders := by simp [State.writeWeirg]

@[simp] theorem State.striders_writeAdt {a v : Nat} : (s.writeAdt a v).striders = s.striders := by
  simp only [State.writeAdt]
  repeat' split
  all_goals simp

@[simp] theorem State.striders_maintOp {p op : Nat} {ahi : BitVec 3} : (s.maintOp p op ahi).striders = s.striders := by simp [State.maintOp]
@[simp] theorem State.striders_writePondReg {p : Fin 68} {a v : Nat} :
    (s.writePondReg p a v).striders = s.striders := by simp [State.writePondReg]
@[simp] theorem State.striders_writeFenced {blk i a v ackAddr faultAddr rejectAddr : Nat} :
    (s.writeFenced blk i a v ackAddr faultAddr rejectAddr).striders = s.striders := by simp [State.writeFenced]
@[simp] theorem State.striders_writePond {who : Requester} {p : Fin 68} {a v : Nat} :
    (s.writePond who p a v).striders = s.striders := by simp [State.writePond]
@[simp] theorem State.striders_writeQcfg {b v : Nat} : (s.writeQcfg b v).striders = s.striders := by simp [State.writeQcfg]
@[simp] theorem State.striders_writeBasin {b a v : Nat} : (s.writeBasin b a v).striders = s.striders := by simp [State.writeBasin]

@[simp] theorem State.striders_rgnOp {c op idx : Nat} : (s.rgnOp c op idx).striders = s.striders := by
  simp only [State.rgnOp]
  split <;> simp

@[simp] theorem State.striders_writeMc {c a v : Nat} : (s.writeMc c a v).striders = s.striders := by simp [State.writeMc]
@[simp] theorem State.striders_cmpWritten : s.cmpWritten.striders = s.striders := by simp [State.cmpWritten]
@[simp] theorem State.striders_writeCmp {who : Requester} {a v : Nat} :
    (s.writeCmp who a v).striders = s.striders := by simp [State.writeCmp]
@[simp] theorem State.striders_writeShaCtl {v : Nat} : (s.writeShaCtl v).striders = s.striders := by simp [State.writeShaCtl]
@[simp] theorem State.striders_secEnable {en : Bool} : (s.secEnable en).striders = s.striders := by simp [State.secEnable]
@[simp] theorem State.striders_writeSec {who : Requester} {a v : Nat} :
    (s.writeSec who a v).striders = s.striders := by simp [State.writeSec]
@[simp] theorem State.striders_writePage {who : Requester} {k a v : Nat} :
    (s.writePage who k a v).striders = s.striders := by simp [State.writePage]

@[simp] theorem State.striders_writeHost {who : Requester} {a v : Nat} : (s.writeHost who a v).striders = s.striders := by
  simp only [State.writeHost]
  split <;> simp

@[simp] theorem State.striders_writeTier {t a v : Nat} : (s.writeTier t a v).striders = s.striders := by simp [State.writeTier]
@[simp] theorem State.striders_writeSvc {a v : Nat} : (s.writeSvc a v).striders = s.striders := by simp [State.writeSvc]
@[simp] theorem State.striders_pwrRequest {target : Nat} : (s.pwrRequest target).striders = s.striders := by simp [State.pwrRequest]
@[simp] theorem State.striders_rstKind {kind : Nat} : (s.rstKind kind).striders = s.striders := by simp [State.rstKind]
@[simp] theorem State.striders_writePwr {a v : Nat} : (s.writePwr a v).striders = s.striders := by simp [State.writePwr]
@[simp] theorem State.striders_writeTherm {a v : Nat} : (s.writeTherm a v).striders = s.striders := by simp [State.writeTherm]
@[simp] theorem State.striders_bar2Off {a atype : Nat} : (s.bar2Off a atype).striders = s.striders := by simp [State.bar2Off]

@[simp] theorem State.striders_mayAccess {who : Requester} {a : Nat} {w : Bool} : (s.mayAccess who a w).2.striders = s.striders := by
  simp only [State.mayAccess]
  split <;> simp

@[simp] theorem State.striders_stageLow {who : Requester} {v : Word32} : (s.stageLow who v).striders = s.striders := rfl

@[simp] theorem State.striders_writeHalf {who : Requester} {a v : Nat} : (s.writeHalf who a v).striders = s.striders := by
  simp only [State.writeHalf]
  repeat' split
  all_goals simp

@[simp] theorem State.striders_noteBar2 {who : Requester} {a : Nat} : (s.noteBar2 who a).striders = s.striders := by simp [State.noteBar2]
@[simp] theorem State.striders_narrowWrite {a : Nat} : (s.narrowWrite a).striders = s.striders := by simp [State.narrowWrite]

/-! #### Stores of a strider -/

@[simp] theorem State.striders_staleRisk {p line : Nat} : (s.staleRisk p line).striders = s.striders := by simp [State.staleRisk]

end Striders

/-! ### Operations that leave the store buffers as they are -/

/-- What the store buffer of each strider holds. -/
def storeBuffers (t : Tab StrSt) (w : StrId) : List BufEntry := (Tab.get (fun _ => StrSt.init) t (strIdx w)).sb

theorem State.storeBuffers_eq (s : State) (w : StrId) : storeBuffers s.striders w = (s.str w).sb := rfl

section StoreBuffers
variable {s : State} {n : Nat}

/-- The state in an answer that was asked of an operation. -/
theorem State.storeBuffers_answer {α : Type} {r : α × State} {x : α} {t : State} (h : r = (x, t))
    (hr : storeBuffers r.2.striders = storeBuffers s.striders) : storeBuffers t.striders = storeBuffers s.striders := by
  subst h
  exact hr

/-- A strider that keeps its store buffer leaves that of every other. -/
theorem State.storeBuffers_setStr {w : StrId} {v : StrSt} (h : v.sb = (s.str w).sb) :
    storeBuffers (s.setStr w v).striders = storeBuffers s.striders := by
  funext u
  rw [State.storeBuffers_eq, State.storeBuffers_eq]
  by_cases hu : u = w
  · rw [hu, State.str_setStr_same, h]
  · rw [State.str_setStr_other s v hu]

@[simp] theorem storeBuffers_ite {c : Prop} [Decidable c] (a b : Tab StrSt) :
    storeBuffers (if c then a else b) = if c then storeBuffers a else storeBuffers b := apply_ite storeBuffers c a b

@[simp] theorem State.storeBuffers_foldl {α : Type} {f : State → α → State}
    (h : ∀ t x, storeBuffers (f t x).striders = storeBuffers t.striders) (l : List α) :
    storeBuffers (l.foldl f s).striders = storeBuffers s.striders := foldl_keeps (fun t : State => storeBuffers t.striders) h l s

/-- A table whose entries keep their places and a view of what they hold. -/
theorem Tab.get_map_view {α β : Type} (view : α → β) {d : Nat → α} {g : Nat × α → Nat × α} (hkey : ∀ e, (g e).1 = e.1)
    (hview : ∀ e, view (g e).2 = view e.2) (t : Tab α) (k : Nat) : view (Tab.get d (t.map g) k) = view (Tab.get d t k) := by
  induction t with
  | nil => rfl
  | cons e t ih =>
    have hg := hkey e
    have hv := hview e
    cases he : g e with
    | mk i b =>
      obtain ⟨j, a⟩ := e
      rw [he] at hg hv
      simp only at hg hv
      simp only [List.map_cons, he, Tab.get, hg]
      split
      · exact hv
      · exact ih

/-- A strider that is woken keeps its store buffer. -/
@[simp] theorem State.storeBuffers_wakeWaiters {b q : Nat} : storeBuffers (s.wakeWaiters b q).striders = storeBuffers s.striders := by
  funext w
  refine Tab.get_map_view StrSt.sb (fun e => ?_) (fun e => ?_) s.striders (strIdx w)
  all_goals
    split
    · split <;> rfl
    · rfl

/-- An entry that comes into a queue wakes its waiters and touches the striders no further. -/
theorem State.striders_enqueue {b q : Nat} {x : List Byte} : (s.enqueue b q x).striders = (s.wakeWaiters b q).striders := by
  unfold State.enqueue
  extract_lets
  split
  · rw [State.striders_setQueue, State.setBasin_striders]
  · rw [State.striders_setQueue]

@[simp] theorem State.storeBuffers_enqueue {b q : Nat} {x : List Byte} : storeBuffers (s.enqueue b q x).striders = storeBuffers s.striders := by
  rw [State.striders_enqueue, State.storeBuffers_wakeWaiters]

@[simp] theorem State.storeBuffers_postMsg {b q : Nat} {x : List Byte} : storeBuffers (s.postMsg b q x).2.striders = storeBuffers s.striders := by
  simp only [State.postMsg]
  split <;> simp

@[simp] theorem State.storeBuffers_postReport {r : XRec} : storeBuffers (s.postReport n r).striders = storeBuffers s.striders := by
  simp only [State.postReport]
  cases r.reportDue <;> simp

@[simp] theorem State.storeBuffers_finish {id : Nat} {st : XState} {reason : Nat} :
    storeBuffers (s.finish n id st reason).striders = storeBuffers s.striders := by
  unfold State.finish
  split
  · rfl
  · split
    · rfl
    · extract_lets r recorded late adt dpt w ended counted shown
      have hadt : adt.striders = s.striders := by
        simp only [adt]
        split
        · simp [late, recorded]
        · exact (State.striders_setAdtE ..).trans (by simp [late, recorded])
      have hdpt : dpt.striders = s.striders := by
        simp only [dpt]
        split
        · exact hadt
        · exact (State.striders_setDptE ..).trans hadt
      have hended : ended.striders = s.striders := by simp [ended, hdpt, recorded]
      have hshown : shown.striders = s.striders := by simp [shown, counted, hended]
      split <;> simp [hshown]

@[simp] theorem State.storeBuffers_lateRec {id : Nat} : storeBuffers (s.lateRec n id).striders = storeBuffers s.striders := by
  simp only [State.lateRec]
  split
  · rfl
  · split <;> simp

@[simp] theorem State.storeBuffers_failRecs {reason : Nat} {p : XRec → Bool} :
    storeBuffers (s.failRecs n reason p).striders = storeBuffers s.striders := by
  simp [State.failRecs]

@[simp] theorem State.storeBuffers_poisonedRec {id : Nat} : storeBuffers (s.poisonedRec n id).striders = storeBuffers s.striders := by
  simp [State.poisonedRec]

@[simp] theorem State.storeBuffers_convertRec {id : Nat} : storeBuffers (s.convertRec n id).striders = storeBuffers s.striders := by
  simp only [State.convertRec]
  repeat' split
  all_goals simp

@[simp] theorem State.storeBuffers_convertAll {p : XRec → Bool} : storeBuffers (s.convertAll n p).striders = storeBuffers s.striders := by
  simp [State.convertAll]

@[simp] theorem State.storeBuffers_weirPoint : storeBuffers (s.weirPoint n).striders = storeBuffers s.striders := by
  simp only [State.weirPoint]
  repeat' split
  all_goals simp

@[simp] theorem State.storeBuffers_weirCommit : storeBuffers (s.weirCommit n).striders = storeBuffers s.striders := by
  simp [State.weirCommit]

@[simp] theorem State.storeBuffers_weirWritten : storeBuffers (s.weirWritten n).striders = storeBuffers s.striders := by
  simp [State.weirWritten]

@[simp] theorem State.storeBuffers_fcPoint : storeBuffers (s.fcPoint n).striders = storeBuffers s.striders := by
  simp [State.fcPoint]

@[simp] theorem State.storeBuffers_fcDisable : storeBuffers (s.fcDisable n).striders = storeBuffers s.striders := by
  simp [State.fcDisable]

@[simp] theorem State.storeBuffers_weirEnable {en : Bool} : storeBuffers (s.weirEnable n en).striders = storeBuffers s.striders := by
  simp [State.weirEnable]

@[simp] theorem State.storeBuffers_enWrite {f : Fld} {en : Bool} {h : State → State}
    (hh : ∀ t, storeBuffers (h t).striders = storeBuffers t.striders) : storeBuffers (s.enWrite f en h).striders = storeBuffers s.striders := by
  simp only [State.enWrite]
  split
  · rfl
  · exact hh s

@[simp] theorem State.storeBuffers_writeFc {a v : Nat} : storeBuffers (s.writeFc n a v).striders = storeBuffers s.striders := by
  simp [State.writeFc]

@[simp] theorem State.storeBuffers_routeWrite {who : Requester} {a v : Nat} :
    storeBuffers (s.routeWrite who a v).striders = storeBuffers s.striders := by
  simp only [State.routeWrite]
  repeat' split
  all_goals simp

@[simp] theorem State.storeBuffers_writeReg {who : Requester} {a v : Nat} :
    storeBuffers (s.writeReg who a v).striders = storeBuffers s.striders := by
  simp [State.writeReg]

@[simp] theorem State.storeBuffers_commitPair {who : Requester} {a v : Nat} :
    storeBuffers (s.commitPair who a v).striders = storeBuffers s.striders := by
  simp only [State.commitPair]
  split <;> simp

@[simp] theorem State.storeBuffers_regWrite {who : Requester} {a : Nat} {v : Word32} :
    storeBuffers (s.regWrite who a v).striders = storeBuffers s.striders := by
  simp [State.regWrite]

@[simp] theorem State.storeBuffers_regStore {who : Requester} {a : Nat} {b : List Byte} :
    storeBuffers (s.regStore who a b).striders = storeBuffers s.striders := by
  simp [State.regStore]

@[simp] theorem State.storeBuffers_latchEvent {w : StrId} {e : Nat} : storeBuffers (s.latchEvent w e).striders = storeBuffers s.striders :=
  State.storeBuffers_setStr rfl

@[simp] theorem State.storeBuffers_pmWriteMask {p : Fin 68} {off : Nat} {b : List (Option Byte)} :
    storeBuffers (s.pmWriteMask p off b).striders = storeBuffers s.striders := by
  simp [State.pmWriteMask, State.ringDoorbell]

/-! ### Drains -/

/-- Performing an entry of the store buffer takes none out of it and puts none in. -/
@[simp] theorem State.storeBuffers_performEntry {w : StrId} {e : BufEntry} :
    storeBuffers (s.performEntry w e).2.striders = storeBuffers s.striders := by
  simp only [State.performEntry]
  split
  case h_1 => simp
  case h_2 =>
    split
    · simp [State.striders_answer ‹_› State.striders_acquire]
    · rw [State.striders_answer ‹_› State.striders_acquire]
  case h_3 => simp
  case h_4 => simp
  case h_5 => split <;> simp

@[simp] theorem State.storeBuffers_performNt {w : StrId} {e : BufEntry} :
    storeBuffers (s.performNt w e).2.striders = storeBuffers s.striders := by
  simp only [State.performNt]
  repeat' split
  all_goals simp

theorem State.storeBuffers_drainNt {w : StrId} {i : Nat} : storeBuffers (s.drainNt w i).2.striders = storeBuffers s.striders := by
  simp only [State.drainNt]
  split
  · rfl
  · split
    · refine (State.storeBuffers_setStr ?_).trans (State.storeBuffers_answer ‹_› State.storeBuffers_performNt)
      rfl
    · exact State.storeBuffers_answer ‹_› State.storeBuffers_performNt

theorem State.storeBuffers_drainCb {w : StrId} : storeBuffers (State.drainCb w n s).2.striders = storeBuffers s.striders := by
  induction n generalizing s with
  | zero => rfl
  | succ n ih =>
    simp only [State.drainCb]
    split
    · rfl
    · split
      · exact ih.trans (State.storeBuffers_answer ‹_› State.storeBuffers_drainNt)
      · exact State.storeBuffers_answer ‹_› State.storeBuffers_drainNt

end StoreBuffers

section Drained
variable {s u : State} {w : StrId} {n : Nat}

/-- The store buffer has drained when its drain says so. -/
theorem State.drainSb_drained (h : State.drainSb w n s = (true, u)) : (u.str w).sb = [] := by
  induction n generalizing s with
  | zero =>
    obtain ⟨hempty, rfl⟩ := Prod.mk.inj h
    exact List.isEmpty_iff.mp hempty
  | succ n ih =>
    simp only [State.drainSb] at h
    split at h
    · obtain ⟨-, rfl⟩ := Prod.mk.inj h
      exact List.isEmpty_iff.mp ‹_›
    · split at h
      · exact ih h
      · simp at h

theorem State.drainCb_drained (h : State.drainCb w n s = (true, u)) : (u.str w).cb = [] := by
  induction n generalizing s with
  | zero =>
    obtain ⟨hempty, rfl⟩ := Prod.mk.inj h
    exact List.isEmpty_iff.mp hempty
  | succ n ih =>
    simp only [State.drainCb] at h
    split at h
    · obtain ⟨-, rfl⟩ := Prod.mk.inj h
      exact List.isEmpty_iff.mp ‹_›
    · split at h
      · exact ih h
      · simp at h

/-- FENCE.ALL drains the store buffer first, and the drain of the combining buffer puts nothing into it (R315). -/
theorem State.drainAll_drained (h : s.drainAll w = (true, u)) : (u.str w).sb = [] ∧ (u.str w).cb = [] := by
  simp only [State.drainAll] at h
  split at h
  · rename_i v hstores
    have hkept : storeBuffers u.striders = storeBuffers v.striders := State.storeBuffers_answer h State.storeBuffers_drainCb
    refine ⟨?_, State.drainCb_drained h⟩
    calc (u.str w).sb = (v.str w).sb := congrFun hkept w
      _ = [] := State.drainSb_drained hstores
  · simp at h

end Drained

/-! ### Barriers (R315) -/

section Barrier
variable {s u : State} {w : StrId} {p : Pfx} {ok : Bool} {drain : State → Bool × State}

/-- A barrier retires when its buffers have drained, and is issued again while they have not. -/
theorem run_barrier (h : s.issues w p) (hp : p.bare) (hd : drain s = (ok, u)) :
    run s (fun s => s.instr w p 1 (badPfx p false false false) (fun s => barrier (drain s))) =
      .next (settle s (if ok then s.retire w p 1 u else u)) := by
  have hlegal := legal_bare hp (n := 1) (by decide)
  cases ok
  case true => exact run_retires h hlegal (by simp [barrier, hd])
  case false => exact run_issued h hlegal (r := .stall u) (by simp [barrier, hd])

end Barrier

/-! ### A refreshed control store (R251) -/

/-- A strider that waits for a word of its control store goes on. -/
def State.wordResume (s : State) (w : StrId) : State :=
  match (s.str w).run with
  | .waiting .csWord => s.resume w
  | _ => s

theorem execCsWordRefresh_eq (p : Fin 68) (s : State) : execCsWordRefresh p s =
    run s (fun s => (List.finRange 17).foldl (fun s k => s.wordResume ⟨p, k⟩) (s.setPond p.val { s.pond p.val with csBad := [] })) := rfl

section Refresh
variable {s : State} {p : Fin 68} {k : Fin 17}

theorem State.wordResume_waiting {w : StrId} (h : (s.str w).run = .waiting .csWord) : s.wordResume w = s.resume w := by
  simp only [State.wordResume, h]

theorem State.wordResume_other {w : StrId} (h : (s.str w).run ≠ .waiting .csWord) : s.wordResume w = s := by
  unfold State.wordResume
  split
  · exact absurd ‹_› h
  · rfl

theorem State.str_resume_other {u w : StrId} (h : u ≠ w) : (s.resume w).str u = s.str u := State.str_setStr_other s _ h

/-- When one strider of the pond waits for a word, the refresh resumes this one. -/
theorem State.foldl_wordResume {l : List (Fin 17)} (hl : l.Nodup) (hk : k ∈ l) (hwait : (s.str ⟨p, k⟩).run = .waiting .csWord)
    (hother : ∀ j, j ≠ k → (s.str ⟨p, j⟩).run ≠ .waiting .csWord) :
    l.foldl (fun s j => s.wordResume ⟨p, j⟩) s = s.resume ⟨p, k⟩ := by
  induction l with
  | nil => exact absurd hk List.not_mem_nil
  | cons j l ih =>
    obtain ⟨hj, hl⟩ := List.nodup_cons.mp hl
    rw [List.foldl_cons]
    by_cases hjk : j = k
    · subst hjk
      rw [State.wordResume_waiting hwait]
      refine foldl_eq_self fun i hi => State.wordResume_other ?_
      have hij : i ≠ j := fun e => hj (e ▸ hi)
      rw [State.str_resume_other (fun e => hij (StrId.mk.inj e).2)]
      exact hother i hij
    · rw [State.wordResume_other (hother j hjk)]
      exact ih hl ((List.mem_cons.mp hk).resolve_left (Ne.symm hjk))

end Refresh

/-- Settles O13: each barrier ends as its drain does, FENCE.ALL leaves both buffers empty, and each drain or repair is the equation of its
command. -/
theorem barriersAndDrains : Obligations.BarriersAndDrains := by
  refine ⟨fun s u w p ok h hp => ⟨fun hd => ?fenceSl, fun hd => ?fenceN, fun hd => ?fenceIo, fun hd => ?fenceAll⟩,
    fun s u w => State.drainAll_drained,
    fun s hp => ⟨fun w x e rest v hsb hm hv => ?sbEntry, fun w i x e v hcb hm hv => ?cbEntry, fun p k hwait hother => ?refresh,
      fun p => ⟨(exec_csBackgroundPass ..).trans (run_eq hp rfl), ?corrected, ?bad⟩⟩⟩
  case fenceSl => exact (exec_fenceSl ..).trans (run_barrier (drain := fun s => s.drainStores w) h hp hd)
  case fenceN => exact (exec_fenceN ..).trans (run_barrier (drain := State.drainCb w 4) h hp hd)
  case fenceIo => exact (exec_fenceIo ..).trans (run_barrier (drain := State.drainDev w 8) h hp hd)
  case fenceAll => exact (exec_fenceAll ..).trans (run_barrier (drain := fun s => s.drainAll w) h hp hd)
  case sbEntry => exact (exec_sbEntryDrain ..).trans (run_eq hp (by simp only [hsb, State.drainOne, hm, hv]))
  case cbEntry => exact (exec_cbEntryDrain ..).trans (run_eq hp (by simp only [hcb, State.drainNt, hm, hv]))
  case refresh =>
    exact (exec_csWordRefresh ..).trans ((execCsWordRefresh_eq ..).trans (run_eq hp
      (State.foldl_wordResume (List.nodup_finRange 17) (List.mem_finRange k) hwait hother)))
  case corrected => exact ⟨Config.free s.fresh.1, (exec_csBackgroundPass ..).trans (run_eq hp rfl)⟩
  case bad => exact ⟨Config.free s.fresh.1, (exec_csBackgroundPass ..).trans (run_eq hp rfl)⟩

end Sys2Proof.Machine
end

section
/-!
PROOFS. Messages on the ring and answers to snoops (chapter 11): what a line of an L2 reads after it changes, how an answer arrives, what
a miss does while L2 maintenance holds its line, and the obligations of ring and snoop answers and of the requests that stops and the home
send.
-/

namespace Sys2Proof.Machine

/-! ### Lines of an L2 -/

section Line
variable {s : State} {p line : Nat} {v : L2Line}

theorem State.l2_setL2 (hv : v.st ≠ .i) : (s.setL2 p line v).l2 p line = v := by
  simp [State.setL2, State.putL2, State.l2, hv, Tab.get_insert_same]

/-- A line in state I leaves the L2. -/
theorem State.l2_setL2_invalid (hv : v.st = .i) : (s.setL2 p line v).l2 p line = L2Line.none := by
  simp [State.setL2, State.putL2, State.l2, hv]

theorem State.l2_setL2_other {q a : Nat} (h : q ≠ p ∨ a ≠ line) : (s.setL2 p line v).l2 q a = s.l2 q a := by
  by_cases hq : q = p
  · have ha : a ≠ line := h.resolve_left (not_not_intro hq)
    subst hq
    simp only [State.setL2, State.putL2, State.l2, State.pond_setPond_same]
    split
    · exact Tab.get_erase_other _ _ ha
    · exact (Tab.get_insert_other _ _ _ ha).trans (Tab.get_erase_other _ _ ha)
  · simp only [State.setL2, State.putL2, State.l2, State.pond_setPond_other _ _ hq]

/-- A line that leaves the L1D caches stays in the L2. -/
@[simp] theorem State.l2_dropL1 (s : State) (p line : Nat) (own : Option Nat) (q a : Nat) : (s.dropL1 p line own).l2 q a = s.l2 q a := by
  by_cases hq : q = p
  · subst hq
    simp [State.dropL1, State.l2]
  · simp only [State.dropL1, State.l2, State.pond_setPond_other _ _ hq]

@[simp] theorem State.l2_setBasin (s : State) (n : Nat) (v : BasinSt) (p line : Nat) : (s.setBasin n v).l2 p line = s.l2 p line := rfl

end Line

/-! ### A message over the ring (R325) -/

section Ring
variable {s : State} {b : Fin 4} {stop msg line : Nat} {f : State → State}

/-- A message of which no hop is sent again has its effect. -/
theorem State.overRing_clean (h : s.fencedBasin b.val = false) : s.overRing b 0 stop msg line f = f s := by simp [State.overRing, h]

theorem run_overRing {t : State} (hp : s.powered = true) (hb : s.fencedBasin b.val = false) (h : f s = t) :
    run s (fun s => s.overRing b 0 stop msg line f) = .next (settle s t) := run_eq hp ((State.overRing_clean hb).trans h)

end Ring

/-! ### Answers that arrive (Table 11-7) -/

section Arrive
variable {s : State} {b : Fin 4} {r : Fin 17} {line : LineNo} {m : RingMsg} {seq : Nat} {rest : List Flight} {k : MsgKind}
  (h : (s.basin b.val).flights = { dst := some r, line := line, msg := m, seq := seq } :: rest)
include h

/-- The oldest message in flight to a stop is received there if the command names its kind. -/
theorem State.arrive_eq : s.arrive b.val (some r) line.toNat k =
    if m.kind = k then (s.setBasin b.val { s.basin b.val with flights := rest }).receive b.val r { dst := some r, line := line, msg := m, seq := seq }
    else s := by
  simp [State.arrive, h, takeFlight]

theorem State.arrive_named (hk : m.kind = k) : s.arrive b.val (some r) line.toNat k =
    (s.setBasin b.val { s.basin b.val with flights := rest }).receive b.val r { dst := some r, line := line, msg := m, seq := seq } :=
  (State.arrive_eq h).trans (if_pos hk)

theorem State.arrive_unnamed (hk : m.kind ≠ k) : s.arrive b.val (some r) line.toNat k = s := (State.arrive_eq h).trans (if_neg hk)

end Arrive

/-! ### Answers to snoops (Table 11-6) -/

section Snooped
variable {s : State} {b r line : Nat}

/-- A line given up to SNPI is gone from the L2. -/
theorem State.l2_snoopL2_invalidated (hrole : s.fld (POND_STAT.ROLE (stopPond b r)) ≠ 2)
    (hst : (s.l2 (stopPond b r) line).st = .s ∨ (s.l2 (stopPond b r) line).st = .e ∨ (s.l2 (stopPond b r) line).st = .m) :
    (s.snoopL2 b r line .i).2.l2 (stopPond b r) line = L2Line.none := by
  obtain h | h | h := hst <;> simp only [State.snoopL2, hrole, h, if_false] <;> exact State.l2_setL2_invalid rfl

/-- A line that SNPS finds is held in S after it. -/
theorem State.l2_snoopL2_shared (hrole : s.fld (POND_STAT.ROLE (stopPond b r)) ≠ 2)
    (hst : (s.l2 (stopPond b r) line).st = .s ∨ (s.l2 (stopPond b r) line).st = .e ∨ (s.l2 (stopPond b r) line).st = .m) :
    ((s.snoopL2 b r line .s).2.l2 (stopPond b r) line).st = .s := by
  obtain h | h | h := hst <;> simp [State.snoopL2, hrole, h, State.l2_setL2]

/-- A snoop touches no other line of any L2. -/
theorem State.l2_snoopL2_other (k : Snoop) {q a : Nat} (h : q ≠ stopPond b r ∨ a ≠ line) :
    (s.snoopL2 b r line k).2.l2 q a = s.l2 q a := by
  simp only [State.snoopL2]
  split
  · rfl
  · split <;> simp [State.l2_setL2_other h]

end Snooped

section Settled
variable {s : State} {b : Fin 4} {r : Fin 17} {line : LineNo} {m : RingMsg} {seq : Nat} {rest : List Flight}

/-- A message that the command names is received by its stop. -/
theorem run_arrives (hp : s.powered = true) (hb : s.fencedBasin b.val = false)
    (hfl : (s.basin b.val).flights = { dst := some r, line := line, msg := m, seq := seq } :: rest) {stop msg : Nat} {t : State}
    (h : (s.setBasin b.val { s.basin b.val with flights := rest }).receive b.val r { dst := some r, line := line, msg := m, seq := seq } = t) :
    run s (fun s => s.overRing b 0 stop msg line.toNat (fun s => s.arrive b (some r) line.toNat m.kind)) = .next (settle s t) :=
  run_overRing hp hb ((State.arrive_named hfl rfl).trans h)

end Settled

/-- Settles O40: an arriving answer is received by its row of Table 11-7, and a snoop is answered by its row of Table 11-6. -/
theorem ringAndSnoopAnswers : Obligations.RingAndSnoopAnswers := by
  refine ⟨fun s b r line m seq rest hp hb hfl => ?arrives, fun s b r line hrole hst => ?snooped⟩
  case arrives =>
    have harr {stop msg : Nat} {t : State} := run_arrives hp hb hfl (stop := stop) (msg := msg) (t := t)
    refine ⟨?dataS, ?dataE, ?dataM, ?grant, ?wback, ?wbackGone, ?stale, ?staleError, ?nack, ?udata, ?cmp, ?unnamed⟩
    case dataS =>
      rintro d x rfl hst
      exact (exec_dataS ..).trans (harr (by simp [State.receive, hst]))
    case dataE =>
      rintro d x rfl hst
      exact (exec_dataE ..).trans (harr (by simp [State.receive, hst]))
    case dataM =>
      rintro d x rfl (hst | hst) <;> exact (exec_dataM ..).trans (harr (by simp [State.receive, hst]))
    case grant =>
      rintro rfl hst
      exact (exec_grant ..).trans (harr (by simp [State.receive, hst]))
    case wback =>
      rintro keep k rfl hst
      exact (exec_wback ..).trans (harr (by simp [State.receive, hst]))
    case wbackGone =>
      rintro k rfl hst
      exact (exec_wback ..).trans (harr (by simp [State.receive, hst]))
    case stale =>
      rintro rfl hst
      exact (exec_wbackStale ..).trans (harr (by simp [State.receive, hst]))
    case staleError =>
      rintro rfl hst
      exact (exec_wbackStale ..).trans (harr (by simp [State.receive, hst, RingMsg.code]))
    case nack =>
      rintro t rfl (hst | hst | hst) <;> exact (exec_nack ..).trans (harr (by simp [State.receive, hst]))
    case udata =>
      rintro d x rfl
      exact (exec_udata ..).trans (harr (by simp [State.receive]))
    case cmp =>
      rintro rfl
      exact (exec_ucwrComplete ..).trans (harr (by simp [State.receive]))
    case unnamed =>
      rintro rfl
      exact (exec_dataS ..).trans (run_overRing hp hb (State.arrive_unnamed hfl (by decide)))
  case snooped =>
    refine ⟨State.l2_snoopL2_invalidated hrole hst, fun hclean => ?clean, fun hm k => ?dirty, State.l2_snoopL2_shared hrole hst, ?kept,
      fun k q a h => State.l2_snoopL2_other k h⟩
    case clean =>
      obtain h | h := or_assoc.mpr hst |>.resolve_right hclean <;> simp [State.snoopL2, hrole, h]
    case dirty => cases k <;> simp [State.snoopL2, hrole, hm]
    case kept => obtain h | h | h := hst <;> simp [State.snoopL2, hrole, h]

/-! ### A miss that L2 maintenance holds (R281) -/

/-- Line 0x40 of a basin-coherent region of basin 0: pond 2 owns it and pond 1 has asked for it, and pond 0, whose L2 does not hold it, runs
a clean of this line. -/
def missHeld : State :=
  let s := ((State.reset.setFld (L2_CTL.EN 0) 1).setFld (MC_STAT.STATE 0) 2).setFld (L2_MAINT.BUSY 0) 1
  let s := { s with dram := { s.dram with regions := [(0, ⟨true, 0, 0xFF, false, 0, 0, 0, true, 0, false, true, false⟩)] } }
  let t : HomeTxn := { busy := .s, msg := { who := some 1, req := .gets, ticket := none }, answers := [], seq := 0 }
  (s.setHome 0 0x40 { HomeLine.np with holders := 4, owner := true, txn := some t }).setPond 0 { s.pond 0 with maint := some (1, 0x40, []) }

/-- The state that the obligation expects of GETS there, before what waited goes on. -/
def missSent : State :=
  (missHeld.setL2 0 0x40 { st := .isd, way := 0, data := zeros 64, poison := 0 }).homeRequest 0 0x40
    { who := some 0, req := .gets, ticket := none }

theorem missHeld_powered : missHeld.powered = true := by decide

/-- The L2 works and a way is free for the line. -/
theorem missHeld_misses : missHeld.l2Works 0 0 0x40 = true ∧ (missHeld.l2 0 0x40).st = .i ∧ missHeld.takeWay 0 0x40 = (some 0, missHeld) :=
  ⟨by decide, by decide, rfl⟩

/-- The miss waits for the maintenance operation: nothing leaves. -/
theorem exec_gets_missHeld : exec (.gets 0 0 0x40 0) missHeld = .next (settle missHeld missHeld) :=
  (exec_gets ..).trans (run_eq missHeld_powered rfl)

theorem l2_settle_missHeld : ((settle missHeld missHeld).l2 0 0x40).st = .i := by decide

theorem l2_settle_missSent : ((settle missHeld missSent).l2 0 0x40).st = .isd := by decide

/-- Refutes O39: while a by-address maintenance operation runs on a line that the L2 does not hold, a miss on it sends no GETS (R281), and the
first clause does not ask that none runs. -/
theorem not_ringRequests : ¬ Obligations.RingRequests := by
  intro h
  obtain ⟨hworks, hline, hway⟩ := missHeld_misses
  obtain ⟨hstop, -⟩ := h missHeld 0 0 0x40 missHeld_powered
  obtain ⟨hmiss, -⟩ := hstop hworks
  obtain ⟨hgets, -⟩ := hmiss 0 missHeld hline hway
  have heq : settle missHeld missHeld = settle missHeld missSent := Host.Outcome.next.inj (exec_gets_missHeld.symm.trans hgets)
  have hst := l2_settle_missHeld
  rw [heq, l2_settle_missSent] at hst
  exact absurd hst (by decide)

end Sys2Proof.Machine
end

section
/-!
PROOFS. The D-NAP invariant (R486, R487) holds at reset and every step keeps it: a command ends by `napCheck`, which leaves D-NAP when its
conditions fail, and by `napWatch`, which makes the time since which they hold follow the state; a tick touches neither.
-/

namespace Sys2Proof.Machine

/-! ### What a command leaves of D-NAP (R487) -/

/-- In D-NAP no strider runs and the device is not in the safe state. -/
def State.napQuiet (s : State) : Prop := s.napping = true → s.anyRuns = false ∧ s.bit SVC_STAT.SAFE = false

/-- The time since which the conditions of automatic D-NAP hold is kept only while they do (R486). -/
def State.napTimed (s : State) : Prop :=
  s.pwr.napSince ≠ none → s.bit PWR_CTL.NAP_AUTO = true ∧ s.fld PWR_STAT.DSTATE = 1 ∧ s.napWhy = 0 ∧ s.commandRuns = false

/-- Leaving D-NAP leaves it. -/
theorem State.napping_napEnd (s : State) : s.napEnd.napping = false := by
  unfold State.napEnd
  split_ifs with h
  · simp only [State.napping, State.fld_setFld_same]
    decide
  · exact Bool.eq_false_iff.mpr h

theorem State.napQuiet_napCheck (s s₀ : State) : (s.napCheck s₀).napQuiet := by
  unfold State.napCheck
  split_ifs with hnap hends
  · exact fun h => absurd h (by simp [State.napping_napEnd])
  · simp only [Bool.or_eq_true, not_or, Bool.not_eq_true] at hends
    obtain ⟨⟨⟨⟨⟨⟨hsafe, hruns⟩, -⟩, -⟩, -⟩, -⟩, -⟩ := hends
    exact fun _ => ⟨hruns, hsafe⟩
  · exact fun h => absurd h hnap

/-- The watch touches nothing but its own time. -/
theorem State.napWatch_eq (s : State) : ∃ t, s.napWatch = { s with pwr := { s.pwr with napSince := t } } := by
  unfold State.napWatch
  split_ifs
  · exact ⟨_, rfl⟩
  · exact ⟨_, rfl⟩
  · exact ⟨_, rfl⟩

theorem State.napQuiet_napWatch {s : State} (h : s.napQuiet) : s.napWatch.napQuiet := by
  obtain ⟨t, ht⟩ := s.napWatch_eq
  rw [ht]
  exact h

/-- The watch keeps a time only while the conditions hold. -/
theorem State.napTimed_napWatch (s : State) : s.napWatch.napTimed := by
  intro h
  obtain ⟨t, ht⟩ := s.napWatch_eq
  have hcond : (s.bit PWR_CTL.NAP_AUTO && s.fld PWR_STAT.DSTATE == 1 && s.napWhy == 0 && !s.commandRuns) = true := by
    by_contra hc
    simp [State.napWatch, hc] at h
  simp only [Bool.and_eq_true, beq_iff_eq, Bool.not_eq_true'] at hcond
  obtain ⟨⟨⟨hauto, hrun⟩, hwhy⟩, hcmd⟩ := hcond
  rw [ht]
  exact ⟨hauto, hrun, hwhy, hcmd⟩

theorem settle_nap (s₀ s : State) : (settle s₀ s).napQuiet ∧ (settle s₀ s).napTimed :=
  ⟨State.napQuiet_napWatch (State.napQuiet_napCheck _ s₀), State.napTimed_napWatch _⟩

/-! ### A tick (R57, R63) -/

/-- Two states that D-NAP cannot tell apart: they differ in what the clocks write. -/
structure State.NapAlike (s t : State) : Prop where
  fld : ∀ f ∈ [PWR_STAT.DSTATE, SVC_STAT.SAFE, PWR_CTL.NAP_AUTO], t.fld f = s.fld f
  rest : (t.striders, t.weirs, t.cmp, t.ponds, t.host, t.pwr) = (s.striders, s.weirs, s.cmp, s.ponds, s.host, s.pwr)

theorem State.NapAlike.refl (s : State) : s.NapAlike s := ⟨fun _ _ => rfl, rfl⟩

theorem State.NapAlike.trans {s t u : State} (h : s.NapAlike t) (k : t.NapAlike u) : s.NapAlike u :=
  ⟨fun f hf => (k.fld f hf).trans (h.fld f hf), k.rest.trans h.rest⟩

theorem State.NapAlike.keeps {s t : State} (h : s.NapAlike t) (hs : s.napQuiet ∧ s.napTimed) : t.napQuiet ∧ t.napTimed := by
  obtain ⟨hfld, hrest⟩ := h
  simp only [Prod.mk.injEq] at hrest
  obtain ⟨hstr, hweirs, hcmp, hponds, hhost, hpwr⟩ := hrest
  have hd := hfld PWR_STAT.DSTATE (by simp)
  have hsafe := hfld SVC_STAT.SAFE (by simp)
  have hauto := hfld PWR_CTL.NAP_AUTO (by simp)
  simpa only [State.napQuiet, State.napTimed, State.napping, State.anyRuns, State.bit, State.napWhy, State.xjOpen, State.enginesBusy,
    State.laneBusy, State.commandRuns, hd, hsafe, hauto, hstr, hweirs, hcmp, hponds, hhost, hpwr] using hs

/-- A write to a field that D-NAP does not read. -/
theorem State.NapAlike.setFld (s : State) {g : Fld} (v : Nat)
    (h : ∀ f ∈ [PWR_STAT.DSTATE, SVC_STAT.SAFE, PWR_CTL.NAP_AUTO], f.key ≠ g.key) : s.NapAlike (s.setFld g v) :=
  ⟨fun f hf => s.fld_setFld_other v (h f hf), rfl⟩

theorem State.NapAlike.time (s : State) (tm : TimeSt) : s.NapAlike { s with time := tm } := ⟨fun _ _ => rfl, rfl⟩

theorem State.NapAlike.slewTick (s : State) : s.NapAlike s.slewTick := by
  have hslew (tm : TimeSt) (v : Int) : s.NapAlike (State.setSFld { s with time := tm } DT_SLEW.V v) :=
    .trans (.time s tm) (.setFld _ _ (by decide))
  unfold State.slewTick
  dsimp only
  by_cases hfree : (s.fld FF_STAT.STATE == 0) = true
  · simp only [if_pos hfree]
    split_ifs
    · exact .time s _
    · exact .time s _
    · exact hslew _ _
    · exact hslew _ _
  · simp only [if_neg hfree]
    split_ifs <;> exact .time s _

theorem State.NapAlike.rateTick (s : State) : s.NapAlike s.rateTick := by
  unfold State.rateTick
  dsimp only
  split_ifs <;> exact .time s _

theorem State.NapAlike.dtTick (s : State) : s.NapAlike s.dtTick := by
  unfold State.dtTick
  split_ifs
  · exact (NapAlike.time s _).trans ((NapAlike.slewTick _).trans (.rateTick _))
  · exact .refl s

theorem State.NapAlike.aonTick (s : State) : s.NapAlike s.aonTick := by
  unfold State.aonTick
  split_ifs
  · exact .time s _
  · exact .refl s

theorem State.NapAlike.wakeLoad (s : State) : s.NapAlike s.wakeLoad := by
  unfold State.wakeLoad
  split_ifs
  · exact .refl s
  · exact ((NapAlike.setFld s _ (by decide)).trans (.setFld _ _ (by decide))).trans (.time _ _)

theorem tick_napAlike (s : State) : s.NapAlike (tick s) := by
  unfold tick
  split_ifs
  · exact (State.NapAlike.aonTick s).trans (.wakeLoad _)
  · exact .aonTick s
  · exact .dtTick s

/-! ### Every step -/

/-- Settles O59: a tick keeps what D-NAP reads, a command without effect keeps the state, and every other command ends by `settle`. -/
theorem napKept : Obligations.NapKept := by
  intro s t hquiet htimed hstep
  have hs : s.napQuiet ∧ s.napTimed := ⟨hquiet, htimed⟩
  suffices h : t.napQuiet ∧ t.napTimed from h
  unfold step at hstep
  split at hstep
  case h_1 =>
    obtain rfl := Host.Outcome.next.inj hstep
    exact (tick_napAlike s).keeps hs
  case h_2 c rest hpend =>
    obtain hidle | ⟨u, hends⟩ := (exec_form c { s with pending := rest }).answers
    · obtain rfl := Host.Outcome.next.inj (hidle.symm.trans hstep)
      exact hs
    · obtain rfl := Host.Outcome.next.inj (hends.symm.trans hstep)
      exact settle_nap _ u

/-- Settles O60: after reset DSTATE is D-RUN and nothing is timed. -/
theorem napKeptAtReset : Obligations.NapKeptAtReset :=
  ⟨fun h => absurd h (by decide), rfl⟩

/-- Settles O1: the queue is not empty. -/
theorem stepRunsTheFrontCommand : Obligations.StepRunsTheFrontCommand := fun s c rest h => by
  unfold step
  split
  case h_1 hnil => exact absurd (hnil.symm.trans h) (by simp)
  case h_2 c' rest' hcons =>
    obtain ⟨rfl, rfl⟩ := List.cons.inj (hcons.symm.trans h)
    rfl

end Sys2Proof.Machine
end

section
/-!
PROOFS. Every command answers a next state, and which commands act without power (R481, R493, R516).
-/

namespace Sys2Proof.Machine

/-- The inputs of the always-on domain: resets, wake events, SMBus and JTAG (R481, R493, R516). -/
def AlwaysOn (c : Instr) : Prop :=
  c = .rstNFall ∨ (∃ r b k, c = .rstNRise r b k) ∨ c = .powerOn ∨ (∃ l, c = .perstN l) ∨ c = .wakeNFall ∨ c = .wakeTimer ∨
  (∃ t, c = .tierActivityWake t) ∨
  (∃ e, c = .smbBootStage e ∨ c = .smbState e ∨ c = .smbTj e ∨ c = .smbPower e ∨ c = .smbSerial e ∨ c = .smbClassDs e ∨ c = .smbMcTemp e) ∨
  (∃ k e, c = .smbThermSense k e) ∨ (∃ a e, c = .smbArp a e) ∨ c = .smbAlertResponse ∨
  c ∈ [Instr.extest, .samplePreload, .idcode, .clamp, .highz, .dbgPort, .mbist, .bypass]

/-- Every command but the always-on inputs acts through `run`, which without power does nothing. -/
theorem exec_gated_or_alwaysOn (c : Instr) (s : State) : (∃ f, exec c s = run s f) ∨ AlwaysOn c := by
  cases c with
  | rstNFall | rstNRise | powerOn | perstN | wakeNFall | wakeTimer | tierActivityWake | smbBootStage | smbState | smbTj | smbPower
  | smbSerial | smbClassDs | smbMcTemp | smbThermSense | smbArp | smbAlertResponse | extest | samplePreload | idcode | clamp | highz
  | dbgPort | mbist | bypass => exact .inr (by simp [AlwaysOn])
  | _ =>
    dsimp only [exec]
    exact .inl ⟨_, rfl⟩

/-- Settles O58: `run` is the gate of every command that is not always on. -/
theorem everyCommandAnswersAndPowerGates : Obligations.EveryCommandAnswersAndPowerGates := by
  refine ⟨fun c s => (exec_form c s).answers.elim (fun h => ⟨_, h⟩) fun ⟨_, h⟩ => ⟨_, h⟩, fun c s hp => ?_⟩
  obtain ⟨f, hf⟩ | hon := exec_gated_or_alwaysOn c s
  · exact .inl (hf.trans (run_unpowered hp f))
  · exact .inr hon

end Sys2Proof.Machine
end

section
/-!
PROOFS. The integer instructions of a strider (chapter 7, Tables 07-6, 07-8 and 07-9): their effects in the formats B, C and I, what CLZ and
POPC count, what the conditions say after a comparison, and the obligations of the register and immediate forms.
-/

namespace Sys2Proof.Machine

/-! ### The formats B, C and I (R186, R188) -/

section Formats
variable {s : State} {w : StrId} {p : Pfx} (h : s.issues w p)
include h

section FormatB
variable (hp : p.plain) {f : FmtB}
include hp

/-- A format-B instruction whose effect gives a next state retires. -/
theorem run_fmtB {bad : Bool} {body : State → Res} {u : State} (hbad : bad = false) (hbody : body s = .next u) :
    run s (fun s => s.fmtB w p bad body) = .next (settle s (s.retire w p 3 u)) :=
  run_retires h ((legal_plain hp (n := 3)).and hbad) hbody

theorem run_intB (op : Word → Word → Word) (fl : Word → Word → Flags) : run s (fun s => s.fmtB w p false (fun s => s.intB w f op fl)) =
    .next (settle s (s.retire w p 3 (s.setStr w ((s.str w).result f.d (op ((s.str w).xr f.a) ((s.str w).xr f.b)) f.x
      (fl ((s.str w).xr f.a) ((s.str w).xr f.b)))))) :=
  run_fmtB h hp rfl rfl

end FormatB

/-- The bytes of a format-I instruction after its prefixes. -/
def lenOfI (p : Pfx) : Nat := if p.wide then 11 else 7

omit h in
/-- Format I takes REP and WIDE (Table 07-4). -/
theorem legal_immediate (hnt : p.nt = false) : LegalForm p (prefixLen p + 1 + lenI p) (badPfx p true false true) (lenOfI p) := by
  refine ⟨by simp [badPfx, hnt], ?_, ?_⟩
  · unfold lenI lenOfI
    split_ifs <;> omega
  · simp only [prefixLen, lenI, hnt]
    split_ifs <;> simp at *

variable (hnt : p.nt = false) {f : FmtI}
include hnt

/-- A format-I instruction whose effect gives a next state retires. -/
theorem run_fmtI {bad : Bool} {body : State → Res} {u : State} (hbad : bad = false) (hbody : body s = .next u) :
    run s (fun s => s.fmtI w p bad body) = .next (settle s (s.retire w p (lenOfI p) u)) :=
  run_retires h ((legal_immediate hnt).and hbad) hbody

theorem run_intI (hx : f.x.toNat ≤ 1) (op : Word → Word → Word) (fl : Word → Word → Flags) :
    run s (fun s => s.fmtI w p (decide (1 < f.x.toNat)) (fun s => s.intI w p f op fl)) =
      .next (settle s (s.retire w p (lenOfI p) (s.setStr w ((s.str w).result f.d (op ((s.str w).xr f.a) (immOf p f.imm)) (f.x.getLsbD 0)
        (fl ((s.str w).xr f.a) (immOf p f.imm)))))) :=
  run_fmtI h hnt (by simpa using hx) rfl

end Formats

/-! ### MIN and MAX -/

/-- The lesser of two words: which of two equal ones is taken makes no difference. -/
theorem below_min (u : Bool) (a b : Word) : (if below u a b then a else b) =
    if u then (if a.toNat ≤ b.toNat then a else b) else (if a.toInt ≤ b.toInt then a else b) := by
  cases u
  · have hab : a.toInt = b.toInt → a = b := BitVec.eq_of_toInt_eq
    simp only [below]
    grind
  · have hab : a.toNat = b.toNat → a = b := BitVec.eq_of_toNat_eq
    simp only [below]
    grind

theorem below_max (u : Bool) (a b : Word) : (if below u a b then b else a) =
    if u then (if a.toNat ≤ b.toNat then b else a) else (if a.toInt ≤ b.toInt then b else a) := by
  cases u
  · have hab : a.toInt = b.toInt → a = b := BitVec.eq_of_toInt_eq
    simp only [below]
    grind
  · have hab : a.toNat = b.toNat → a = b := BitVec.eq_of_toNat_eq
    simp only [below]
    grind

/-- Settles O3: every form is the effect of format B with its operation and its flags. -/
theorem integerRegisterForms : Obligations.IntegerRegisterForms := by
  intro s w p f h hp t a b n
  refine ⟨(exec_add ..).trans (run_intB h hp _ _), (exec_sub ..).trans (run_intB h hp _ _), (exec_and ..).trans (run_intB h hp _ _),
    (exec_or ..).trans (run_intB h hp _ _), (exec_xor ..).trans (run_intB h hp _ _), (exec_shl ..).trans (run_intB h hp _ _),
    (exec_shr ..).trans (run_intB h hp _ _), (exec_sar ..).trans (run_intB h hp _ _), (exec_mul ..).trans (run_intB h hp _ _),
    (exec_mulh ..).trans (run_intB h hp _ _), (exec_mulhu ..).trans (run_intB h hp _ _), ?min, ?max⟩
  case min =>
    rw [← below_min]
    exact (exec_min ..).trans (run_fmtB h hp rfl rfl)
  case max =>
    rw [← below_max]
    exact (exec_max ..).trans (run_fmtB h hp rfl rfl)

/-! ### Counting bits (Table 07-8) -/

theorem leadingZeros_le (a : Word) : leadingZeros a ≤ 64 := by
  unfold leadingZeros
  split_ifs <;> omega

/-- No bit above the counted zeros is 1. -/
theorem lt_of_leadingZeros (a : Word) : a.toNat < 2 ^ (64 - leadingZeros a) := by
  unfold leadingZeros
  split_ifs with h
  · simp [h]
  · have hlt : a.toNat.log2 < 64 := (Nat.log2_lt (by simpa [← BitVec.toNat_inj] using h)).mpr a.isLt
    rw [show 64 - (63 - a.toNat.log2) = a.toNat.log2 + 1 by omega]
    exact Nat.lt_log2_self

/-- The bit below them is 1. -/
theorem le_of_leadingZeros {a : Word} (h : leadingZeros a < 64) : 2 ^ (63 - leadingZeros a) ≤ a.toNat := by
  unfold leadingZeros at h ⊢
  split_ifs at h ⊢ with hz
  · omega
  · have hne : a.toNat ≠ 0 := by simpa [← BitVec.toNat_inj] using hz
    have hlt : a.toNat.log2 < 64 := (Nat.log2_lt hne).mpr a.isLt
    rw [show 63 - (63 - a.toNat.log2) = a.toNat.log2 by omega]
    exact Nat.log2_self_le hne

/-! ### Conditions after a comparison (Tables 07-6 and 07-8) -/

/-- The flags as bits 0 to 3 of a word. -/
def Flags.word (f : Flags) : Word32 := pswBit f.z 0 ||| pswBit f.n 1 ||| pswBit f.c 2 ||| pswBit f.v 3

theorem Flags.word_bits (f : Flags) :
    f.word.getLsbD 0 = f.z ∧ f.word.getLsbD 1 = f.n ∧ f.word.getLsbD 2 = f.c ∧ f.word.getLsbD 3 = f.v := by
  obtain ⟨z, n, c, v⟩ := f
  revert z n c v
  decide

theorem getLsbD_pswFlags (p : Word32) (f : Flags) {k : Nat} (hk : k < 4) : (pswFlags p f).getLsbD k = f.word.getLsbD k := by
  have hmask : ∀ k < 4, (0xF : Word32).getLsbD k = true := by decide
  rw [pswFlags, getLsbD_pswPut _ _ _ (by omega), if_pos (hmask k hk), Flags.word]

/-- The flags written are the flags read. -/
theorem pswFlags_bits (p : Word32) (f : Flags) :
    pswZ (pswFlags p f) = f.z ∧ pswN (pswFlags p f) = f.n ∧ pswC (pswFlags p f) = f.c ∧ pswV (pswFlags p f) = f.v := by
  simpa only [pswZ, pswN, pswC, pswV, getLsbD_pswFlags p f (show 0 < 4 by decide), getLsbD_pswFlags p f (show 1 < 4 by decide),
    getLsbD_pswFlags p f (show 2 < 4 by decide), getLsbD_pswFlags p f (show 3 < 4 by decide)] using f.word_bits

/-- N and V differ after a subtraction exactly when the first number is the smaller one, read as signed. -/
theorem signed_lt_iff (a b : Word) : ((a - b).msb != decide (a.toInt - b.toInt ≠ (a - b).toInt)) = decide (a.toInt < b.toInt) := by
  have ha := a.toInt_lt
  have ha' := a.le_toInt
  have hb := b.toInt_lt
  have hb' := b.le_toInt
  have hr : (a - b).toInt = (a.toInt - b.toInt).bmod (2 ^ 64) := BitVec.toInt_sub ..
  have hm : (a - b).msb = decide ((a - b).toInt < 0) := BitVec.msb_eq_toInt
  rw [hm, hr, Int.bmod_def]
  grind

theorem sub_eq_zero_word (a b : Word) : ((a - b == 0) = true) ↔ a = b := by
  rw [beq_iff_eq, sub_eq_zero]

/-- Settles O5: the forms are effects of the formats B and C, and a condition reads the flags of the subtraction. -/
theorem compareCountSelectConditions : Obligations.CompareCountSelectConditions := by
  refine ⟨?forms, ?conditions⟩
  case' forms =>
    intro s w p h hp t
    refine ⟨fun f hd hx => ?compare, fun f hb hx => ?count, fun f hc hx => ?select⟩
  case compare =>
    have hbad : (!zeroReg f.d || f.x) = false := by simp [zeroReg_zero hd, hx]
    exact ⟨(exec_cmp ..).trans (run_fmtB h hp hbad rfl), (exec_tst ..).trans (run_fmtB h hp hbad rfl)⟩
  case count =>
    have hbad : (!zeroReg f.b || f.x) = false := by simp [zeroReg_zero hb, hx]
    exact ⟨leadingZeros (t.xr f.a), onesIn (t.xr f.a), (exec_clz ..).trans (run_fmtB h hp hbad rfl),
      (exec_popc ..).trans (run_fmtB h hp hbad rfl), leadingZeros_le _, lt_of_leadingZeros _, le_of_leadingZeros, List.countP_eq_length_filter⟩
  case select =>
    have hbad : (!zeroReg f.c || f.x == 15) = false := by simp [zeroReg_zero hc, hx]
    exact (exec_sel ..).trans (run_retires h ((legal_plain hp (n := 4)).and hbad) rfl)
  case conditions =>
    intro t a b p
    obtain ⟨hz, hn, hc, hv⟩ := pswFlags_bits t.psw (flagsSub a b)
    have hzero : pswZ p = true ↔ a = b := by
      rw [← sub_eq_zero_word]
      exact Bool.coe_iff_coe.mpr hz
    have hlt : (pswN p != pswV p) = decide (a.toInt < b.toInt) := by
      rw [← signed_lt_iff]
      exact congrArg₂ _ hn hv
    have hbelow : pswC p = decide (a.toNat < b.toNat) := hc
    have hover : pswV p = true ↔ a.toInt - b.toInt ≠ (a - b).toInt := by
      rw [show pswV p = decide (a.toInt - b.toInt ≠ (a - b).toInt) from hv, decide_eq_true_iff]
    have hint : a.toInt = b.toInt ↔ a = b := BitVec.toInt_inj
    have hnat : a.toNat = b.toNat ↔ a = b := BitVec.toNat_inj
    have hge : (pswN p == pswV p) = decide (b.toInt ≤ a.toInt) := by
      rw [← Bool.not_not (pswN p == pswV p)]
      exact (congrArg _ hlt).trans (by simp [← decide_not])
    simp only [condHolds, Bool.not_eq_true', Bool.or_eq_true, Bool.and_eq_true, ← Bool.not_eq_true, hzero, hlt, hge, hbelow, hover,
      decide_eq_true_iff]
    refine ⟨trivial, trivial, trivial, trivial, trivial, by omega, ?_, ?_, ?_, ?_, ne_comm⟩
    · rw [← hint]; omega
    · rw [← hint]; omega
    · rw [← hnat]; omega
    · rw [← hnat]; omega

/-- Settles O6: every form is the effect of format I with its operation and its flags. -/
theorem integerImmediateForms : Obligations.IntegerImmediateForms := by
  intro s w p f h hnt t a imm len fb
  refine ⟨fun hx => ⟨(exec_addi ..).trans (run_intI h hnt hx _ _), (exec_andi ..).trans (run_intI h hnt hx _ _),
    (exec_ori ..).trans (run_intI h hnt hx _ _), (exec_xori ..).trans (run_intI h hnt hx _ _), (exec_muli ..).trans (run_intI h hnt hx _ _)⟩,
    fun hx himm => ⟨shiKind f.x, ?kind, (exec_shi ..).trans (run_fmtI h hnt ?shifts rfl)⟩,
    fun hd hx => (exec_cmpi ..).trans (run_fmtI h hnt (by simp [zeroReg_zero hd, hx]) rfl),
    fun ha hx => (exec_movi ..).trans (run_fmtI h hnt (by simp [zeroReg_zero ha, hx]) rfl)⟩
  case kind =>
    rw [shiKind, Nat.mod_eq_of_lt (by omega)]
  case shifts =>
    have himm : (immOf p f.imm).toNat ≤ 63 := himm
    simp [hx, himm]

end Sys2Proof.Machine
end

section
/-!
PROOFS. The frame of the integer instructions (Tables 07-8 and 07-9): their effects are all one write of Xd, with the flags where they are
set; what the loop comparison and REP do when the instruction retires (R194, R197) leaves the rest of the strider as it was.
-/

namespace Sys2Proof.Machine

/-! ### Parts of the status (Table 07-3) -/

/-- The later of two writes of LD counts. -/
theorem pswSetLd_pswSetLd (p : Word32) (m n : Nat) : pswSetLd (pswSetLd p m) n = pswSetLd p n := by
  refine BitVec.eq_of_getLsbD_eq fun i hi => ?_
  simp only [pswSetLd, getLsbD_pswPut _ _ _ hi]
  split_ifs <;> rfl

/-- Under a write of the flags an earlier one does not show. -/
theorem pswFlags_hides (p : Word32) (n : Nat) (f g : Flags) :
    pswFlags (pswSetLd (pswFlags p f) n) g = pswFlags (pswSetLd p n) g := by
  refine BitVec.eq_of_getLsbD_eq fun i hi => ?_
  simp only [pswFlags, pswSetLd, getLsbD_pswPut _ _ _ hi]
  split_ifs <;> rfl

theorem pswLd_pswFlags (p : Word32) (f : Flags) : pswLd (pswFlags p f) = pswLd p := by
  have hmask : ∀ i < 3, (0xF : Word32).getLsbD (8 + i) = false := by decide
  refine pswLd_congr fun i hi => ?_
  rw [pswFlags, getLsbD_pswPut _ _ _ (by omega), if_neg (Bool.eq_false_iff.mp (hmask i hi))]

/-! ### What the end of an instruction leaves (R194, R197) -/

/-- Strider `v` is `t` but for PC, RC, the resume records and what the loop comparison changes: the counts, and LD in the status. -/
def StrSt.EndsAs (t v : StrSt) : Prop :=
  v = { t with pc := v.pc, rc := v.rc, psw := v.psw, lc := v.lc, uc := v.uc } ∧ pswSetLd v.psw 0 = pswSetLd t.psw 0 ∧
  (pswLd t.psw = 0 → v.lc = t.lc)

/-- The loop comparison touches the counts and LD only, and outside every loop nothing. -/
theorem loopEnd_endsAs (n : Nat) : ∀ (pc : Word) (t : StrSt), t.EndsAs (loopEnd n pc t).2 ∧ (loopEnd n pc t).2.rc = t.rc := by
  induction n with
  | zero => exact fun pc t => ⟨⟨rfl, rfl, fun _ => rfl⟩, rfl⟩
  | succ n ih =>
    intro pc t
    simp only [loopEnd]
    split_ifs with hout hagain
    · exact ⟨⟨rfl, rfl, fun _ => rfl⟩, rfl⟩
    · exact ⟨⟨rfl, rfl, fun hld => absurd (.inl hld) hout⟩, rfl⟩
    · obtain ⟨⟨heq, hpsw, -⟩, hrc⟩ := ih pc { t with
        lc := Tab.set (fun _ => 0) t.lc (pswLd t.psw - 1) 0, psw := pswSetLd t.psw (pswLd t.psw - 1) }
      exact ⟨⟨heq, hpsw.trans (pswSetLd_pswSetLd ..), fun hld => absurd (.inl hld) hout⟩, hrc⟩

section Retire
variable {s : State} {w : StrId} {t : StrSt} (hd : t.haltDue = false)
include hd

theorem State.complete_endsAs (task : Bool) (pc : Word) :
    ∃ v, (s.setStr w t).complete w task pc = s.setStr w v ∧ t.EndsAs v ∧ v.rc = t.rc := by
  simp only [State.complete, State.str_setStr_same, State.setStr_setStr]
  cases task
  · exact ⟨_, State.haltPoint_setStr hd, ⟨rfl, rfl, fun _ => rfl⟩, rfl⟩
  · obtain ⟨⟨heq, hpsw, hlc⟩, hrc⟩ := loopEnd_endsAs 4 pc t
    have hd' : (loopEnd 4 pc t).2.haltDue = false := by
      rw [heq]
      exact hd
    refine ⟨_, State.haltPoint_setStr hd', ⟨?_, hpsw, hlc⟩, hrc⟩
    conv_lhs => rw [if_pos rfl, heq]
    rfl

/-- What an instruction leaves of its strider when its effect gave `t` and no halt is due. -/
theorem State.retire_endsAs (p : Pfx) (n : Nat) : ∃ v, s.retire w p n (s.setStr w t) = s.setStr w v ∧ t.EndsAs v ∧
    (p.rep = false → v.rc = t.rc) ∧ (p.rep = true → v.rc = t.rc - 1) := by
  simp only [State.retire, State.iterate]
  cases hrep : p.rep
  · obtain ⟨v, hv, hends, hrc⟩ := State.complete_endsAs (s := s) (w := w) hd (!pswH (s.str w).psw)
      ((s.str w).pc + BitVec.ofNat 64 (prefixLen p + n))
    exact ⟨v, hv, hends, fun _ => hrc, fun h => absurd h (by decide)⟩
  · simp only [if_true, State.str_setStr_same, State.setStr_setStr]
    split_ifs
    · obtain ⟨v, hv, ⟨heq, hpsw, hlc⟩, hrc⟩ := State.complete_endsAs (s := s) (w := w)
        (t := { t with rc := t.rc - 1, uc := t.uc.filter (fun x => !x.ready) }) hd (!pswH (s.str w).psw)
        ((s.str w).pc + BitVec.ofNat 64 (prefixLen p + n))
      exact ⟨v, hv, ⟨heq, hpsw, hlc⟩, fun h => absurd h (by decide), fun _ => hrc⟩
    · exact ⟨_, State.haltPoint_setStr hd, ⟨rfl, rfl, fun _ => rfl⟩, fun h => absurd h (by decide), fun _ => rfl⟩

end Retire

/-! ### One write of Xd -/

theorem StrSt.result_zero (t : StrSt) {d : RegNo} (hd : d = 0) (r : Word) (fl : Flags) : t.result d r true fl = t.flags fl := by
  simp only [StrSt.result, if_true, StrSt.setX_zero t r (congrArg Fin.val hd)]

theorem StrSt.setX_eq (t : StrSt) (d : RegNo) (r : Word) : t.setX d r = { t with x := (t.setX d r).x } := by
  unfold StrSt.setX
  split_ifs <;> rfl

/-- What an integer result leaves of its strider: Xd and, with F, the flags are all it writes. -/
theorem StrSt.result_eq (t : StrSt) (d : RegNo) (r : Word) (f : Bool) (fl : Flags) :
    t.result d r f fl = { t with x := (t.setX d r).x, psw := if f then pswFlags t.psw fl else t.psw } := by
  have hx := t.setX_eq d r
  cases f
  · exact hx
  · simp only [StrSt.result, if_true]
    rw [hx]
    rfl

theorem StrSt.xr_result_other (t : StrSt) {d q : RegNo} (r : Word) (f : Bool) (fl : Flags) (h : q ≠ d) :
    (t.result d r f fl).xr q = t.xr q := by
  rw [t.result_eq]
  exact t.xr_setX_other r h

/-- Command `c` of strider `w` is an integer instruction whose effect is one write of Xd, with the flags if `flagged`. -/
def State.WritesXd (s : State) (w : StrId) (p : Pfx) (c : Instr) (d : RegNo) (flagged : Bool) : Prop :=
  ∃ (n : Nat) (r : Word) (fl : Flags),
    exec c s = .next (settle s (s.retire w p n (s.setStr w ((s.str w).result d r flagged fl))))

/-- What such an instruction leaves: the frame of Tables 07-8 and 07-9. -/
theorem State.WritesXd.frame {s : State} {w : StrId} {p : Pfx} {c : Instr} {d : RegNo} {flagged : Bool} (h : s.WritesXd w p c d flagged)
    (hd : (s.str w).haltDue = false) : ∃ u : State, exec c s = .next (settle s u) ∧
      u = s.setStr w { s.str w with
        x := (u.str w).x, pc := (u.str w).pc, rc := (u.str w).rc, psw := (u.str w).psw, lc := (u.str w).lc, uc := (u.str w).uc } ∧
      (∀ r : RegNo, r ≠ d → (u.str w).xr r = (s.str w).xr r) ∧ (u.str w).xr 0 = 0 ∧
      (p.rep = false → (u.str w).rc = (s.str w).rc) ∧ (p.rep = true → (u.str w).rc = (s.str w).rc - 1) ∧
      (flagged = false → pswSetLd (u.str w).psw 0 = pswSetLd (s.str w).psw 0) ∧
      pswFlags (pswSetLd (u.str w).psw 0) (flagsLogic 0) = pswFlags (pswSetLd (s.str w).psw 0) (flagsLogic 0) ∧
      ((s.str w).psw = pswSetLd (s.str w).psw 0 → (u.str w).lc = (s.str w).lc) := by
  obtain ⟨n, r, fl, hexec⟩ := h
  have heff := (s.str w).result_eq d r flagged fl
  obtain ⟨v, hv, ⟨hveq, hvpsw, hvlc⟩, hone, hrep⟩ := State.retire_endsAs (s := s) (w := w) (t := (s.str w).result d r flagged fl)
    (by rw [heff]; exact hd) p n
  refine ⟨_, hexec, ?_⟩
  simp only [hv, State.str_setStr_same]
  refine ⟨?whole, fun q hq => ?others, StrSt.xr_zero v rfl, fun h => (hone h).trans (by rw [heff]), fun h => (hrep h).trans (by rw [heff]),
    fun hf => ?status, ?statusButFlags, fun hld => ?counts⟩
  case whole =>
    have hx : v.x = ((s.str w).result d r flagged fl).x := by rw [hveq]
    have hx' : ((s.str w).result d r flagged fl).x = ((s.str w).setX d r).x := by rw [heff]
    rw [hx, hx']
    exact congrArg (s.setStr w) (hveq.trans (by rw [heff]))
  case others =>
    rw [← (s.str w).xr_result_other r flagged fl hq, hveq]
    rfl
  case status => rw [hvpsw, heff, hf, if_neg (by decide)]
  case statusButFlags =>
    rw [hvpsw, heff]
    cases flagged
    · rfl
    · exact pswFlags_hides ..
  case counts =>
    have hz : pswLd (s.str w).psw = 0 := by rw [hld, pswLd_pswSetLd _ (by decide)]
    refine (hvlc ?_).trans (by rw [heff])
    rw [heff]
    cases flagged
    · exact hz
    · exact (pswLd_pswFlags ..).trans hz

/-! ### The integer instructions (Table 07-8) -/

section Forms
variable {s : State} {w : StrId} {p : Pfx} {c : Instr} (h : s.issues w p)
include h

theorem writesXd_register {f : FmtB} (hp : p.plain)
    (hc : c ∈ [Instr.add w p f, .sub w p f, .and w p f, .or w p f, .xor w p f, .shl w p f, .shr w p f, .sar w p f, .mul w p f,
      .mulh w p f, .mulhu w p f]) : s.WritesXd w p c f.d f.x := by
  obtain ⟨hadd, hsub, hand, hor, hxor, hshl, hshr, hsar, hmul, hmulh, hmulhu, -⟩ := integerRegisterForms s w p f h hp
  simp only [List.mem_cons, List.not_mem_nil, or_false] at hc
  rcases hc with rfl | rfl | rfl | rfl | rfl | rfl | rfl | rfl | rfl | rfl | rfl
  exacts [⟨_, _, _, hadd⟩, ⟨_, _, _, hsub⟩, ⟨_, _, _, hand⟩, ⟨_, _, _, hor⟩, ⟨_, _, _, hxor⟩, ⟨_, _, _, hshl⟩, ⟨_, _, _, hshr⟩,
    ⟨_, _, _, hsar⟩, ⟨_, _, _, hmul⟩, ⟨_, _, _, hmulh⟩, ⟨_, _, _, hmulhu⟩]

theorem writesXd_minMax {f : FmtB} (hp : p.plain) (hc : c ∈ [Instr.min w p f, .max w p f]) : s.WritesXd w p c f.d false := by
  obtain ⟨-, -, -, -, -, -, -, -, -, -, -, hmin, hmax⟩ := integerRegisterForms s w p f h hp
  simp only [List.mem_cons, List.not_mem_nil, or_false] at hc
  rcases hc with rfl | rfl
  exacts [⟨3, _, flagsLogic 0, hmin⟩, ⟨3, _, flagsLogic 0, hmax⟩]

theorem writesXd_divide {f : FmtB} (hp : p.plain) (hb : (s.str w).xr f.b ≠ 0)
    (hc : c ∈ [Instr.div w p f, .divu w p f, .rem w p f, .remu w p f]) : s.WritesXd w p c f.d f.x := by
  obtain ⟨-, hquot⟩ := divideGroup s w p f h hp
  obtain ⟨hdiv, hrem, hdivu, hremu, -⟩ := hquot hb
  simp only [List.mem_cons, List.not_mem_nil, or_false] at hc
  rcases hc with rfl | rfl | rfl | rfl
  exacts [⟨_, _, _, hdiv⟩, ⟨_, _, _, hdivu⟩, ⟨_, _, _, hrem⟩, ⟨_, _, _, hremu⟩]

theorem writesXd_count {f : FmtB} (hp : p.plain) (hb : f.b = 0) (hx : f.x = false) (hc : c ∈ [Instr.clz w p f, .popc w p f]) :
    s.WritesXd w p c f.d false := by
  obtain ⟨-, hcount, -⟩ := compareCountSelectConditions.1 s w p h hp
  obtain ⟨z, n, hclz, hpopc, -⟩ := hcount f hb hx
  simp only [List.mem_cons, List.not_mem_nil, or_false] at hc
  rcases hc with rfl | rfl
  exacts [⟨3, _, flagsLogic 0, hclz⟩, ⟨3, _, flagsLogic 0, hpopc⟩]

theorem writesXd_compare {f : FmtB} (hp : p.plain) (hd : f.d = 0) (hx : f.x = false) (hc : c ∈ [Instr.cmp w p f, .tst w p f]) :
    s.WritesXd w p c f.d true := by
  obtain ⟨hcompare, -⟩ := compareCountSelectConditions.1 s w p h hp
  obtain ⟨hcmp, htst⟩ := hcompare f hd hx
  simp only [← StrSt.result_zero _ hd 0] at hcmp htst
  simp only [List.mem_cons, List.not_mem_nil, or_false] at hc
  rcases hc with rfl | rfl
  exacts [⟨_, _, _, hcmp⟩, ⟨_, _, _, htst⟩]

omit h in
/-- The F bit of an immediate form is bit 0 of x. -/
theorem immediate_flagged {x : BitVec 6} (hx : x.toNat ≤ 1) : x.getLsbD 0 = (x.toNat == 1) := by
  interval_cases hn : x.toNat <;> simp [BitVec.getLsbD, hn]

theorem writesXd_immediate {f : FmtI} (hnt : p.nt = false) (hx : f.x.toNat ≤ 1)
    (hc : c ∈ [Instr.addi w p f, .andi w p f, .ori w p f, .xori w p f, .muli w p f]) : s.WritesXd w p c f.d (f.x.toNat == 1) := by
  obtain ⟨hforms, -⟩ := integerImmediateForms s w p f h hnt
  obtain ⟨haddi, handi, hori, hxori, hmuli⟩ := hforms hx
  rw [← immediate_flagged hx]
  simp only [List.mem_cons, List.not_mem_nil, or_false] at hc
  rcases hc with rfl | rfl | rfl | rfl | rfl
  exacts [⟨_, _, _, haddi⟩, ⟨_, _, _, handi⟩, ⟨_, _, _, hori⟩, ⟨_, _, _, hxori⟩, ⟨_, _, _, hmuli⟩]

theorem writesXd_cmpi {f : FmtI} (hnt : p.nt = false) (hd : f.d = 0) (hx : f.x = 0) : s.WritesXd w p (.cmpi w p f) f.d true := by
  obtain ⟨-, -, hcmpi, -⟩ := integerImmediateForms s w p f h hnt
  have hcmpi := hcmpi hd hx
  simp only [← StrSt.result_zero _ hd 0] at hcmpi
  exact ⟨_, _, _, hcmpi⟩

theorem writesXd_movi {f : FmtI} (hnt : p.nt = false) (ha : f.a = 0) (hx : f.x = 0) : s.WritesXd w p (.movi w p f) f.d false := by
  obtain ⟨-, -, -, hmovi⟩ := integerImmediateForms s w p f h hnt
  exact ⟨_, _, flagsLogic 0, hmovi ha hx⟩

end Forms

/-- Settles O57: every form is one write of Xd, and such an instruction has the frame. -/
theorem integerFrame : Obligations.IntegerFrame := by
  intro s w p c d flagged h hnt hd hform
  suffices hw : s.WritesXd w p c d flagged from hw.frame hd
  obtain ⟨f, hwide, rfl, hform⟩ | ⟨f, rfl, hform⟩ := hform
  · have hp : p.plain := ⟨hnt, hwide⟩
    obtain ⟨hc, rfl⟩ | ⟨hc, rfl⟩ | ⟨hc, hb, rfl⟩ | ⟨hc, hb, hx, rfl⟩ | ⟨hc, hz, hx, rfl⟩ := hform
    · exact writesXd_register h hp hc
    · exact writesXd_minMax h hp hc
    · exact writesXd_divide h hp hb hc
    · exact writesXd_count h hp hb hx hc
    · exact writesXd_compare h hp hz hx hc
  · obtain ⟨hc, hx, rfl⟩ | ⟨hc, hz, hx, rfl⟩ | ⟨hc, ha, hx, rfl⟩ := hform
    · exact writesXd_immediate h hnt hx hc
    · obtain rfl := List.mem_singleton.mp hc
      exact writesXd_cmpi h hnt hz hx
    · obtain rfl := List.mem_singleton.mp hc
      exact writesXd_movi h hnt ha hx

end Sys2Proof.Machine
end

section
/-!
PROOFS. In a calm state nothing follows a command: each part of `settle` finds nothing to let go on.
-/

namespace Sys2Proof.Machine

/-- What a table answers is an entry's value or the default. -/
theorem Tab.get_mem_or_default {α : Type} (d : Nat → α) (t : Tab α) (k : Nat) : (∃ e ∈ t, e.2 = Tab.get d t k) ∨ Tab.get d t k = d k := by
  induction t with
  | nil => exact .inr rfl
  | cons e t ih =>
    simp only [Tab.get]
    split_ifs
    · exact .inl ⟨e, List.mem_cons_self .., rfl⟩
    · obtain ⟨e', he', heq⟩ | hd := ih
      · exact .inl ⟨e', List.mem_cons_of_mem _ he', heq⟩
      · exact .inr hd

section Calm
variable {s : State}

theorem State.drain_none (n : Nat) (h : s.due = []) : State.drain n s = s := by
  cases n with
  | zero => rfl
  | succ n => simp [State.drain, State.dueWaits, h]

theorem State.weirgStopPoint_running (h : s.speed.stopping = false) : s.weirgStopPoint = s := by simp [State.weirgStopPoint, h]

theorem State.secStopPoint_running (h : s.sec.stopping = false) : s.secStopPoint = s := by simp [State.secStopPoint, h]

theorem State.hostStopPoint_running (h : s.host.stopping = false) : s.hostStopPoint = s := by simp [State.hostStopPoint, h]

theorem State.retryStr_unpolled {w : StrId} (h : (s.str w).run.polled = false) : s.retryStr w = s := by
  unfold State.retryStr
  split <;> simp_all [Run.polled]

theorem State.retryStriders_unpolled (h : ∀ e ∈ s.striders, e.2.run.polled = false) : s.retryStriders = s := by
  refine foldl_eq_self fun k _ => State.retryStr_unpolled ?_
  obtain ⟨e, he, heq⟩ | hinit := Tab.get_mem_or_default (fun _ => StrSt.init) s.striders (strIdx (strOf k))
  · exact (congrArg (fun t : StrSt => t.run.polled) heq).symm.trans (h e he)
  · exact (congrArg (fun t : StrSt => t.run.polled) hinit).trans rfl

theorem State.sweepFenced_none (h : ∀ b < 4, s.fencedBasin b = false) : s.sweepFenced = s :=
  foldl_eq_self fun b hb => by simp [h b (List.mem_range.mp hb)]

theorem State.admission_followed (h : if s.xjAdmit then s.fld WEIRG_STAT.ADMIT_CLOSED = 0 ∧ s.fld WEIRG_JRN.ADMIT_OPEN = 1
    else s.fld WEIRG_STAT.ADMIT_CLOSED = 1) : s.admission = s := by
  unfold State.admission
  split_ifs at h ⊢ with hadmit hshown <;> simp_all [State.bit]

theorem State.bootPushes_none
    (h : ∀ t < 8, (!s.upPort t && s.tierState t == 3 && (s.tport t).peerFw == 0 && (s.tport t).bootTries == 0) = false) : s.bootPushes = s := by
  unfold State.bootPushes
  split_ifs
  · rfl
  · exact foldl_eq_self fun t ht => if_neg (Bool.eq_false_iff.mp (h t (List.mem_range.mp ht)))

theorem State.hostWaits_none (h : s.host.accepted = []) : s.hostWaits = s := by simp [State.hostWaits, h]

theorem State.routeCommands_none (h : s.host.accepted = []) : s.routeCommands = s := by simp [State.routeCommands, h]

theorem State.reapQueues_none (h : ∀ e ∈ s.host.pairs, ∀ p, e.2 = some p → p.deleting = false) : s.reapQueues = s := by
  refine foldl_eq_self fun q _ => ?_
  split
  case h_1 p hq =>
    obtain ⟨e, he, heq⟩ | hnone := Tab.get_mem_or_default (fun _ => none) s.host.pairs q
    · simp [h e he p (heq.trans hq)]
    · exact absurd (hq.symm.trans hnone) (by simp)
  case h_2 => rfl

theorem State.napCheck_awake (s₀ : State) (h : s.napping = false) : s.napCheck s₀ = s := by simp [State.napCheck, h]

theorem State.napWatch_off (h : s.bit PWR_CTL.NAP_AUTO = false) (hsince : s.pwr.napSince = none) : s.napWatch = s := by
  simp only [State.napWatch, h, Bool.false_and, Bool.false_eq_true, if_false, ← hsince]

end Calm

/-- Settles O56: the parts of `settle`, in its order. -/
theorem settleCalm : Obligations.SettleCalm := by
  rintro s₀ s ⟨hdue, hspeed, hsec, hhost, hacc, hpolled, hpairs, hfenced, hboot, hadmit, hnap, hauto, hsince⟩
  simp only [settle, State.drain_none _ hdue, State.weirgStopPoint_running hspeed, State.secStopPoint_running hsec,
    State.retryStriders_unpolled hpolled, State.sweepFenced_none hfenced, State.admission_followed hadmit, State.bootPushes_none hboot,
    State.hostWaits_none hacc, State.reapQueues_none hpairs, State.routeCommands_none hacc, State.hostStopPoint_running hhost,
    State.napCheck_awake s₀ hnap, State.napWatch_off hauto hsince]

end Sys2Proof.Machine
end

section
/-!
PROOFS. Reads of one-bit fields and of register pairs after a write to them.
-/

namespace Sys2Proof.Machine

/-- A one-bit field reads 1 after a write exactly when the value written is odd. -/
theorem State.bit_setFld_same (s : State) {f : Fld} (v : Nat) (hf : f.width = 1) : (s.setFld f v).bit f = (v % 2 == 1) := by
  rw [State.bit, State.fld_setFld_same, hf, pow_one]

/-- A pair of 32-bit halves reads the word written to it. -/
theorem State.pair_setPair_same (s : State) {lo hi : Fld} (v : Word) (hlo : lo.width = 32) (hhi : hi.width = 32) (hkey : lo.key ≠ hi.key) :
    (s.setPair lo hi v).pair lo hi = v := by
  have hl : v.toNat % 2 ^ 32 % 2 ^ 32 = v.toNat % 2 ^ 32 := Nat.mod_mod ..
  have hh : v.toNat / 2 ^ 32 % 2 ^ 32 = v.toNat / 2 ^ 32 := Nat.mod_eq_of_lt (by omega)
  rw [State.pair, State.setPair, State.fld_setFld_same, State.fld_setFld_other _ _ hkey, State.fld_setFld_same, hlo, hhi, hl, hh,
    Nat.div_add_mod' v.toNat (2 ^ 32), BitVec.ofNat_toNat, BitVec.setWidth_eq]

theorem State.fld_setPair_other (s : State) {lo hi g : Fld} (v : Word) (hlo : g.key ≠ lo.key) (hhi : g.key ≠ hi.key) :
    (s.setPair lo hi v).fld g = s.fld g := by
  rw [State.setPair, State.fld_setFld_other _ _ hhi, State.fld_setFld_other _ _ hlo]

end Sys2Proof.Machine
end

section
/-!
PROOFS. The chain test, SMBus and JTAG (chapter 18): when the chain test runs and ends, when a read is answered and when it is NACKed, and which
JTAG instructions act as BYPASS; and the obligation about them.
-/

namespace Sys2Proof.Machine

section Chain
variable {s : State}

/-- An enabled weir keeps the chain test from starting (Table 18-15). -/
theorem State.chainStart_refused (h : ∃ n < 96, s.bit (WEIR_CTL.EN n) = true) : s.chainStart = s.setFld THERM_STAT.CFG_REJECT 1 := by
  obtain ⟨n, hn, hen⟩ := h
  exact if_pos (List.any_eq_true.mpr ⟨n, List.mem_range.mpr hn, hen⟩)

theorem State.chainStart_begins (h : ∀ n < 96, s.bit (WEIR_CTL.EN n) = false) : s.chainStart =
    { s.setFld PIN_CTL.CHAIN_TEST 1 with pwr := { s.pwr with testAt := some s.dt } } := by
  refine if_neg fun hany => ?_
  obtain ⟨n, hn, hen⟩ := List.any_eq_true.mp hany
  exact absurd hen (by simp [h n (List.mem_range.mp hn)])

theorem State.chainTimeout_due {t : Word} (ht : s.pwr.testAt = some t) (hdue : elapsed s.dt t (usTicks 10000) = true) :
    s.chainTimeout = s.chainStop := by
  simp only [State.chainTimeout, ht, hdue, if_true]

theorem State.chainTimeout_idle (ht : s.pwr.testAt = none) : s.chainTimeout = s := by simp only [State.chainTimeout, ht]

end Chain

section Smbus
variable {s : State} {code : Nat} {pec : Pec} {data : List Byte}

/-- A working device answers a read whose PEC is right, or absent where none is required (R512). -/
theorem State.smbRead_answers (hph : s.pwr.phase = .ready) (hd : s.fld PWR_STAT.DSTATE ≠ 3)
    (hpec : pec = .good ∨ (pec = .none ∧ s.bit SMB_CTL.PEC_REQ = false)) :
    s.smbRead code pec data = (s.setFld SMB_STAT.LAST_CMD code).emit (.smb data) := by
  obtain rfl | ⟨rfl, hreq⟩ := hpec
  · simp [State.smbRead, hph, hd]
  · simp [State.smbRead, hph, hd, hreq]

/-- A wrong PEC is NACKed, and a missing one where it is required. -/
theorem State.smbRead_nacks (hph : s.pwr.phase = .ready) (hpec : pec = .bad ∨ (pec = .none ∧ s.bit SMB_CTL.PEC_REQ = true)) :
    s.smbRead code pec data = (s.addSat SMB_STAT.ERRS 1).emit .smbNack := by
  obtain rfl | ⟨rfl, hreq⟩ := hpec
  · simp [State.smbRead, hph]
  · simp [State.smbRead, hph, hreq]

/-- Asleep, the device answers code 0 alone. -/
theorem State.smbRead_asleep (hph : s.pwr.phase = .asleep) (hcode : code ≠ 0) :
    s.smbRead code pec data = (s.addSat SMB_STAT.ERRS 1).emit .smbNack := by
  simp [State.smbRead, hph, hcode]

theorem State.smbAssign_good {a : BitVec 7} (hph : s.pwr.phase = .ready) (hd : s.fld PWR_STAT.DSTATE ≠ 3) :
    s.smbAssign a .good = s.setFld SMB_CTL.ADDR a.toNat := by
  simp [State.smbAssign, hph, hd]

theorem State.smbAssign_bad {a : BitVec 7} (hph : s.pwr.phase = .ready) :
    s.smbAssign a .bad = (s.addSat SMB_STAT.ERRS 1).emit .smbNack := by
  simp [State.smbAssign, hph]

theorem State.smbAnswer_ready (hph : s.pwr.phase = .ready) :
    s.smbAnswer = if s.smbAlert then s.emit (.smb (leBytes 1 (2 * s.fld SMB_CTL.ADDR))) else s := by
  simp only [State.smbAnswer, hph]

end Smbus

/-- What JTAG_STAT.IR holds after an instruction (R514): EXTEST, CLAMP and HIGHZ need RST_N low, the debug instructions an open port. -/
theorem State.jtagIr_eq (s : State) (k : Nat) {low : Bool} (hlow : low = (s.pwr.phase == .held || s.pwr.phase == .tripped)) :
    s.jtagIr k = s.setFld JTAG_STAT.IR (if (if k = 0 ∨ k = 3 ∨ k = 4 then low else if k = 0x10 ∨ k = 0x11 then s.bit SEC_STAT.DBG_OPEN else true)
      then k else 0xFF) := by
  subst hlow
  rfl

/-- A command of the always-on domain whose effect is known. -/
theorem runAlways_eq {s t : State} {f : State → State} (h : f s = t) : runAlways s f = .next (settle s t) := by
  rw [runAlways, h]

/-- Settles O55: each row by the equation of its operation. -/
theorem pinsSmbusJtag : Obligations.PinsSmbusJtag := by
  intro s
  refine ⟨fun hp => ⟨fun h => (exec_chainTest s).trans (run_eq hp (State.chainStart_refused h)),
      fun h => (exec_chainTest s).trans (run_eq hp (State.chainStart_begins h)),
      fun t ht hdue => (exec_chainTestEnd s).trans (run_eq hp (State.chainTimeout_due ht hdue)),
      fun ht => (exec_chainTestEnd s).trans (run_eq hp (State.chainTimeout_idle ht))⟩,
    fun code pec data _ hph hd => ⟨State.smbRead_answers hph hd, State.smbRead_nacks hph⟩,
    fun code pec data hph hcode => State.smbRead_asleep hph hcode, fun pec => ?reads,
    fun a hph hd => ⟨(exec_smbArp ..).trans (runAlways_eq (State.smbAssign_good hph hd)),
      (exec_smbArp ..).trans (runAlways_eq (State.smbAssign_bad hph))⟩,
    fun hph => ⟨fun ha => (exec_smbAlertResponse s).trans (runAlways_eq ((State.smbAnswer_ready hph).trans (if_pos ha))),
      fun ha => (exec_smbAlertResponse s).trans (runAlways_eq ((State.smbAnswer_ready hph).trans (if_neg (by simp [ha]))))⟩, ?jtag⟩
  case reads =>
    exact ⟨exec_smbBootStage .., exec_smbState .., exec_smbTj .., exec_smbPower .., exec_smbSerial .., exec_smbClassDs .., exec_smbMcTemp ..,
      fun k => exec_smbThermSense ..⟩
  case jtag =>
    intro ir low hlow
    exact ⟨(exec_extest s).trans (runAlways_eq (s.jtagIr_eq 0 hlow)), (exec_clamp s).trans (runAlways_eq (s.jtagIr_eq 3 hlow)),
      (exec_highz s).trans (runAlways_eq (s.jtagIr_eq 4 hlow)), (exec_samplePreload s).trans (runAlways_eq (s.jtagIr_eq 1 hlow)),
      (exec_idcode s).trans (runAlways_eq (congrArg (State.emit · _) (s.jtagIr_eq 2 hlow))),
      (exec_dbgPort s).trans (runAlways_eq (s.jtagIr_eq 0x10 hlow)), (exec_mbist s).trans (runAlways_eq (s.jtagIr_eq 0x11 hlow)),
      (exec_bypass s).trans (runAlways_eq (s.jtagIr_eq 0xFF hlow))⟩

end Sys2Proof.Machine
end

section
/-!
PROOFS. Resets and the start (R491 to R497, Tables 17-5 and 17-7): what a device reset leaves, where a start stops, what READY sets, and the
obligation of resets.
-/

namespace Sys2Proof.Machine

/-- A field write changes fields only. -/
theorem State.setFld_onlyFlds {s t : State} (f : Fld) (v : Nat) (h : ∃ fl, t = { s with flds := fl }) :
    ∃ fl, t.setFld f v = { s with flds := fl } := by
  obtain ⟨fl, rfl⟩ := h
  exact ⟨_, rfl⟩

/-- The ordering code writes fields only. -/
theorem State.codeReset_eq (s : State) : ∃ fl, s.codeReset = { s with flds := fl } := by
  unfold State.codeReset
  split_ifs
  · exact foldl_keep (fun t : State => ∃ fl, t = { s with flds := fl }) _
      (fun t b h => State.setFld_onlyFlds _ _ (State.setFld_onlyFlds _ _ h)) _ s ⟨_, rfl⟩
  · exact ⟨_, rfl⟩

section CodeReset
variable (s : State)

@[simp] theorem State.pwr_codeReset : s.codeReset.pwr = s.pwr := by
  obtain ⟨fl, h⟩ := s.codeReset_eq
  rw [h]

@[simp] theorem State.striders_codeReset : s.codeReset.striders = s.striders := by
  obtain ⟨fl, h⟩ := s.codeReset_eq
  rw [h]

@[simp] theorem State.host_codeReset : s.codeReset.host = s.host := by
  obtain ⟨fl, h⟩ := s.codeReset_eq
  rw [h]

@[simp] theorem State.out_codeReset : s.codeReset.out = s.out := by
  obtain ⟨fl, h⟩ := s.codeReset_eq
  rw [h]

@[simp] theorem State.pending_codeReset : s.codeReset.pending = s.pending := by
  obtain ⟨fl, h⟩ := s.codeReset_eq
  rw [h]

end CodeReset

/-- A device reset leaves the striders idle and no command accepted, and records its cause (Table 17-5). -/
theorem State.afterDevice_leaves (s : State) (ph : Phase) {cause : Nat} (hc : cause < 8) :
    (s.afterDevice ph cause).pwr.phase = ph ∧ (s.afterDevice ph cause).fld RST_CAUSE.LAST = cause ∧
    (∀ w, (s.afterDevice ph cause).str w = State.reset.str w) ∧ (s.afterDevice ph cause).host.accepted = [] ∧
    (s.afterDevice ph cause).out = s.out ∧ (s.afterDevice ph cause).pending = s.pending := by
  have hcause : cause % 2 ^ RST_CAUSE.LAST.width = cause := Nat.mod_eq_of_lt (lt_trans hc (by decide))
  simp only [State.afterDevice, State.setFld_pwr, State.pwr_codeReset, State.fld_setFld_same, hcause, State.str, State.setFld_striders,
    State.striders_codeReset, State.setFld_host, State.host_codeReset, State.setFld_out, State.out_codeReset, State.setFld_pending,
    State.pending_codeReset, implies_true, true_and, and_true]
  rfl

/-- A power-on leaves power and striders as a reset state has them. -/
theorem State.afterPowerOn_leaves (s : State) :
    s.afterPowerOn.pwr = State.reset.pwr ∧ s.afterPowerOn.striders = State.reset.striders := by
  simp only [State.afterPowerOn, State.pwr_codeReset, State.striders_codeReset, and_self]

section Start
variable {s : State} {role boot : Nat} {c : StartCfg}

/-- ROLE = 3 stops the start (R496). -/
theorem State.startRom_badRole : (s.startRom 3 boot c).pwr.phase = .stopped := by
  simp only [State.startRom, if_pos, State.stopStart]

/-- A manager's start stops when its image fails (Table 17-7 step 4). -/
theorem State.startRom_badImage (hb : boot ≠ 3) (hf : c.fail ≠ 0) : (s.startRom 0 boot c).pwr.phase = .stopped := by
  simp only [State.startRom, if_neg (show ¬(0 = 3) by decide), if_neg (show ¬(0 = 1) by decide), if_neg hb, ne_eq, hf, not_false_eq_true,
    if_true, State.stopStart]

theorem State.rstRise_held {role boot : BitVec 2} (h : s.pwr.phase = .held) :
    s.rstRise role boot c = s.startRom role.toNat boot.toNat c := if_pos (.inl h)

theorem State.rstRise_ready {role boot : BitVec 2} (h : s.pwr.phase = .ready) : s.rstRise role boot c = s := by
  simp [State.rstRise, h]

end Start

section Perst
variable {s : State}

theorem State.perst_rises : s.perst false = s.setPin 9 true := by simp [State.perst]

theorem State.powered_setPin (k : Nat) (v : Bool) : (s.setPin k v).powered = s.powered := by
  unfold State.setPin
  dsimp only
  split_ifs <;> rfl

theorem State.fld_setPin_other (k : Nat) (v : Bool) {f : Fld} (h : f.key ≠ PIN_STAT.LEVEL.key) : (s.setPin k v).fld f = s.fld f := by
  unfold State.setPin
  dsimp only
  split_ifs
  · rfl
  · exact State.fld_setFld_other _ _ h
  · exact State.fld_setFld_other _ _ h

/-- PERST_N falls on a device with power (R431, R491, R493). -/
theorem State.perst_falls (hp : s.powered = true) : s.perst true =
    if s.bit PWR_CTL.PERST_DEV && !s.isWorker
      then ((s.setPin 9 false).afterDevice .starting 3).restart (s.fld STRAP.ROLE) (s.fld STRAP.BOOT)
    else (s.setPin 9 false).hostBlockReset true := by
  have hbit : (s.setPin 9 false).bit PWR_CTL.PERST_DEV = s.bit PWR_CTL.PERST_DEV := congrArg (· == 1) (State.fld_setPin_other _ _ (by decide))
  have hworker : (s.setPin 9 false).isWorker = s.isWorker := congrArg (· == 1) (State.fld_setPin_other _ _ (by decide))
  have hrole : (s.setPin 9 false).fld STRAP.ROLE = s.fld STRAP.ROLE := State.fld_setPin_other _ _ (by decide)
  have hboot : (s.setPin 9 false).fld STRAP.BOOT = s.fld STRAP.BOOT := State.fld_setPin_other _ _ (by decide)
  simp only [State.perst, hp, Bool.not_true, Bool.or_self, Bool.false_eq_true, if_false, hbit, hworker, hrole, hboot]

end Perst

section Ready
variable {s : State}

/-- What READY sets before its notice leaves (Table 17-7 step 8). -/
def State.readySet (s : State) : State :=
  ((((({ s with pwr := { s.pwr with phase := .ready }, sec := { s.sec with boots := s.sec.boots + 1 } } : State).setFld PWR_STAT.READY 1).setFld
    DEV_CTL.CFG_LOCK 1).setFld BOOT_STAGE.STAGE 0x0F).setPair DEV_READY_DT_LO.DT DEV_READY_DT_HI.DT s.dt)

theorem State.goReady_due (hph : s.pwr.phase = .starting) (hst : s.fld BOOT_STAGE.STAGE = 5) (hrgn : s.rgnBusy = false) :
    s.goReady = s.readySet.notice 0 3 := by
  refine if_neg ?_
  simp [hph, hst, hrgn]

theorem State.goReady_ready (hph : s.pwr.phase = .ready) : s.goReady = s := by simp [State.goReady, hph]

theorem State.readySet_sets : s.readySet.pwr.phase = .ready ∧ s.readySet.bit PWR_STAT.READY = true ∧ s.readySet.bit DEV_CTL.CFG_LOCK = true ∧
    s.readySet.fld BOOT_STAGE.STAGE = 0x0F ∧ s.readySet.pair DEV_READY_DT_LO.DT DEV_READY_DT_HI.DT = s.dt ∧
    s.readySet.sec.boots = s.sec.boots + 1 := by
  refine ⟨rfl, ?ready, ?lock, ?stage, State.pair_setPair_same _ _ rfl rfl (by decide), rfl⟩
  case ready =>
    simp only [State.bit, State.readySet, State.fld_setPair_other _ _ (show PWR_STAT.READY.key ≠ DEV_READY_DT_LO.DT.key by decide)
      (show PWR_STAT.READY.key ≠ DEV_READY_DT_HI.DT.key by decide),
      State.fld_setFld_other _ _ (show PWR_STAT.READY.key ≠ BOOT_STAGE.STAGE.key by decide),
      State.fld_setFld_other _ _ (show PWR_STAT.READY.key ≠ DEV_CTL.CFG_LOCK.key by decide), State.fld_setFld_same]
    rfl
  case lock =>
    simp only [State.bit, State.readySet, State.fld_setPair_other _ _ (show DEV_CTL.CFG_LOCK.key ≠ DEV_READY_DT_LO.DT.key by decide)
      (show DEV_CTL.CFG_LOCK.key ≠ DEV_READY_DT_HI.DT.key by decide),
      State.fld_setFld_other _ _ (show DEV_CTL.CFG_LOCK.key ≠ BOOT_STAGE.STAGE.key by decide), State.fld_setFld_same]
    rfl
  case stage =>
    rw [State.readySet, State.fld_setPair_other _ _ (by decide) (by decide), State.fld_setFld_same]
    rfl

end Ready

/-- Settles O54: each row by the equation of its operation. -/
theorem resetsAndStart : Obligations.ResetsAndStart := by
  refine fun s => ⟨exec_rstNFall s, fun ph cause hc => s.afterDevice_leaves ph hc, fun role boot c => ⟨fun h => ?_, fun h => ?_, fun h => ?_,
    fun h hb hf => ?_⟩, ⟨exec_powerOn s, s.afterPowerOn_leaves⟩, fun hp => (exec_perstN ..).trans (runAlways_eq (State.perst_falls hp)),
    (exec_perstN ..).trans (runAlways_eq State.perst_rises), fun hp => ⟨(exec_rstCtlKind ..).trans (run_eq hp rfl),
      (exec_rstCtlKind ..).trans (run_eq hp rfl), (exec_rstCtlKind ..).trans (run_eq hp rfl), (exec_rstCtlKind ..).trans (run_eq hp rfl),
      fun blk inst => (exec_blkGo ..).trans (run_eq hp rfl), fun hph hst hrgn => ⟨s.readySet,
        (exec_ready s).trans (run_eq hp (State.goReady_due hph hst hrgn)), State.readySet_sets⟩,
      fun hph => (exec_ready s).trans (run_eq hp (State.goReady_ready hph))⟩⟩
  · exact (exec_rstNRise ..).trans (runAlways_eq (State.rstRise_held h))
  · exact (exec_rstNRise ..).trans (runAlways_eq (State.rstRise_ready h))
  · subst h
    exact State.startRom_badRole
  · subst h
    exact State.startRom_badImage (fun hb' => hb (BitVec.eq_of_toNat_eq hb')) hf

end Sys2Proof.Machine
end

section
/-!
PROOFS. The fields an occurrence of a fault may write (R372, R378, R379): its bit, the capture registers of its block, the counters of the
service complex. Every other field reads as it did.
-/

namespace Sys2Proof.Machine

/-- The fields of the capture registers that stand at `base`. -/
def captureFlds (base : Nat) (hasHi : Bool) : List Fld :=
  let i := if hasHi then base + 8 else base + 4
  ⟨i, 30, 30⟩ :: ⟨base, 31, 0⟩ :: ⟨base + 4, 31, 0⟩ :: ⟨i + 4, 31, 0⟩ :: ⟨i + 8, 31, 0⟩ :: (fieldDefs i).map (fun d => ⟨i, d.hi, d.lo⟩)

/-- The fields the first-error capture of a block may write. -/
def FaultBit.firstFlds (b : FaultBit) : List Fld :=
  match captureBase b.blk b.inst with
  | some (a, hi) => captureFlds a hi
  | none =>
    match b.blk with
    | 0x0 => [DEV_FIRST.VALID, DEV_FIRST.SRC, DEV_FIRST.OVF]
    | 0x1 => [PWR_FIRST.VALID, PWR_FIRST.SRC, PWR_FIRST.OVF]
    | 0x2 => [TIME_FIRST.VALID, TIME_FIRST.SRC, TIME_FIRST.OVF]
    | 0x3 => [AX_STAT.FIRST b.inst, AX_STAT.OVF b.inst]
    | 0x4 => [AP_STAT.FIRST b.inst, AP_STAT.OVF b.inst]
    | 0x5 => [WEIRG_FIRST.VALID, WEIRG_FIRST.SRC, WEIRG_FIRST.OVF]
    | 0x6 => [ADT_FIRST.VALID, ADT_FIRST.SRC, ADT_FIRST.OVF]
    | 0x7 => [FC_STAT.FIRST b.inst, FC_STAT.OVF b.inst, WEIR_STAT.FIRST b.inst, WEIR_STAT.OVF b.inst]
    | 0xB => [CMP_FIRST.VALID, CMP_FIRST.SRC, CMP_FIRST.OVF]
    | 0xC => [SEC_FIRST.VALID, SEC_FIRST.SRC, SEC_FIRST.OVF]
    | 0xE => [TIER_STAT.FIRST b.inst, TIER_STAT.OVF b.inst]
    | 0xF => [SVC_FIRST.VALID, SVC_FIRST.SRC, SVC_FIRST.OVF]
    | 0x10 => [THERM_FIRST.VALID, THERM_FIRST.SRC, THERM_FIRST.OVF]
    | _ => []

/-- The counters an occurrence and its record may move. -/
def recordFlds : List Fld :=
  [SVC_CNT_C.COUNT, SVC_CNT_R.COUNT, SVC_CNT_DS.D, SVC_CNT_DS.S, SVC_LOGCNT.RECORDS, SVC_LOGCNT.DROPPED]

/-- A field stands apart from all of a list. -/
abbrev Fld.apart (g : Fld) (l : List Fld) : Prop := ∀ f ∈ l, g.key ≠ f.key


section FieldFrame
variable (s : State) {g : Fld}

theorem State.fld_addSat_other {f : Fld} (k : Nat) (h : g.key ≠ f.key) : (s.addSat f k).fld g = s.fld g := s.fld_setFld_other _ h

theorem State.fld_addWrap_other {f : Fld} (k : Nat) (h : g.key ≠ f.key) : (s.addWrap f k).fld g = s.fld g := s.fld_setFld_other _ h

theorem State.fld_firstOf_other {valid src ovf : Fld} (bit : Nat) (h : g.apart [valid, src, ovf]) :
    (s.firstOf valid src ovf bit).fld g = s.fld g := by
  simp only [List.forall_mem_cons, List.not_mem_nil, false_imp_iff, implies_true, and_true] at h
  obtain ⟨hvalid, hsrc, hovf⟩ := h
  unfold State.firstOf
  split_ifs
  · exact s.fld_setFld_other _ hovf
  · rw [State.fld_setFld_other _ _ hsrc, State.fld_setFld_other _ _ hvalid]

theorem State.fld_firstStat_other {first ovf : Fld} (bit : Nat) (h : g.apart [first, ovf]) :
    (s.firstStat first ovf bit).fld g = s.fld g := by
  simp only [List.forall_mem_cons, List.not_mem_nil, false_imp_iff, implies_true, and_true] at h
  obtain ⟨hfirst, hovf⟩ := h
  unfold State.firstStat
  split_ifs
  · exact s.fld_setFld_other _ hfirst
  · exact s.fld_setFld_other _ hovf

theorem foldl_setFld_other {α : Type} (f : α → Fld) (v : α → Nat) (l : List α) (s : State) (h : ∀ x ∈ l, g.key ≠ (f x).key) :
    (l.foldl (fun s x => s.setFld (f x) (v x)) s).fld g = s.fld g := by
  induction l generalizing s with
  | nil => rfl
  | cons x l ih =>
    obtain ⟨hx, hl⟩ := List.forall_mem_cons.mp h
    exact (ih _ hl).trans (s.fld_setFld_other _ hx)

theorem State.fld_capture_other {base : Nat} {hasHi : Bool} (bit addr info : Nat) (h : g.apart (captureFlds base hasHi)) :
    (s.capture base hasHi bit addr info).fld g = s.fld g := by
  simp only [captureFlds, List.forall_mem_cons, List.forall_mem_map] at h
  obtain ⟨hovf, hlo, hhi, hdtLo, hdtHi, hword⟩ := h
  unfold State.capture
  dsimp only
  cases hasHi <;> simp only [Bool.false_eq_true, if_true, if_false] at * <;> split_ifs <;>
    simp only [State.fld_setFld_other _ _ hovf, State.fld_setFld_other _ _ hlo, State.fld_setFld_other _ _ hhi,
      State.fld_setFld_other _ _ hdtLo, State.fld_setFld_other _ _ hdtHi, foldl_setFld_other _ _ _ _ hword]

/-- The capture of a first fault writes the capture registers of its block only (R378). -/
theorem State.fld_first_other {b : FaultBit} (addr info : Nat) (h : g.apart b.firstFlds) : (s.first b addr info).fld g = s.fld g := by
  unfold State.first
  cases hbase : captureBase b.blk b.inst with
  | some base =>
    simp only [FaultBit.firstFlds, hbase] at h
    exact s.fld_capture_other _ _ _ h
  | none =>
    dsimp only
    simp only [FaultBit.firstFlds, hbase] at h
    rcases b with ⟨blk, inst, bit⟩
    dsimp only at h ⊢
    split at h
    case h_4 | h_5 | h_11 => exact s.fld_firstStat_other _ h
    case h_8 =>
      obtain ⟨hfc, hweir⟩ := (List.forall_mem_append (l₁ := [FC_STAT.FIRST inst, FC_STAT.OVF inst])).mp h
      show (if bit < 32 then _ else _ : State).fld g = _
      split_ifs
      · exact s.fld_firstStat_other _ hfc
      · exact s.fld_firstStat_other _ hweir
    case h_9 =>
      show (if inst = 0 then _ else _ : State).fld g = _
      split_ifs
      · exact s.fld_firstOf_other _ h
      · rfl
    case h_14 => simp_all
    all_goals exact s.fld_firstOf_other _ h

theorem State.fld_awaitAck (b : FaultBit) (act : Cls) : (s.awaitAck b act).fld g = s.fld g := rfl

theorem State.fld_recordLater (r : Record) : (s.recordLater r).fld g = s.fld g := rfl

theorem State.fld_withHost (x : HostSt) : { s with host := x }.fld g = s.fld g := rfl

theorem State.fld_withSvc (x : SvcSt) : { s with svc := x }.fld g = s.fld g := rfl

theorem State.fld_withDue (x : List Due) : { s with due := x }.fld g = s.fld g := rfl

theorem State.fld_sendMsg (t cls mtype dest : Nat) (body : List Byte) (poison : List Nat) :
    (s.sendMsg t cls mtype dest body poison).fld g = s.fld g := by
  unfold State.sendMsg
  dsimp only
  split_ifs <;> rfl

theorem State.fld_hostPut (a : Nat) (b : List Byte) : (s.hostPut a b).fld g = s.fld g := by
  unfold State.hostPut
  split_ifs <;> rfl

theorem State.fld_msix (v : Nat) : (s.msix v).fld g = s.fld g := by
  unfold State.msix
  split_ifs <;> rfl

variable (h : g.apart recordFlds)
include h

theorem State.fld_countClass_other (act : Cls) : (s.countClass act).fld g = s.fld g := by
  cases act <;> exact s.fld_addSat_other 1 (h _ (by simp [recordFlds]))

theorem State.fld_logBytes_other (b : List Byte) : (s.logBytes b).fld g = s.fld g := by
  have hdropped (t : State) : (t.addSat SVC_LOGCNT.DROPPED 1).fld g = t.fld g := t.fld_addSat_other 1 (h _ (by simp [recordFlds]))
  unfold State.logBytes
  split
  · rfl
  · dsimp only
    split_ifs <;>
      simp only [State.logDrop, hdropped, State.fld_msix, State.fld_hostPut, State.fld_withHost, State.fld_withDue]

theorem State.fld_numberRecord_other (r : Record) : (s.numberRecord r).2.fld g = s.fld g :=
  State.fld_addWrap_other _ 1 (h _ (by simp [recordFlds]))

theorem State.fld_writeRecord_other (r : Record) : (s.writeRecord r).fld g = s.fld g := by
  unfold State.writeRecord
  dsimp only
  split_ifs <;> simp only [State.fld_sendMsg, State.fld_logBytes_other _ h, State.fld_withSvc]

theorem State.fld_recordNow_other (r : Record) : (s.recordNow r).fld g = s.fld g :=
  (State.fld_writeRecord_other _ h _).trans (s.fld_numberRecord_other h r)

/-- A notice record moves the counters of the log only (R454). -/
theorem State.fld_notice_other (inst detail : Nat) : (s.notice inst detail).fld g = s.fld g := by
  unfold State.notice
  dsimp only
  split_ifs <;> simp only [State.fld_sendMsg, State.fld_logBytes_other _ h, State.fld_withSvc, s.fld_numberRecord_other h]

variable {b : FaultBit} (hbit : g.key ≠ b.fld.key) (hfirst : g.apart b.firstFlds)
include hbit hfirst

/-- An occurrence of a fault writes its bit, the capture of its block and the counters of the service complex only. -/
theorem State.fld_raiseActing_other (cls act : Cls) (addr info detail : Nat) :
    (s.raiseActing b cls act addr info detail).fld g = s.fld g := by
  have hset : ((s.first b addr info).setFld b.fld 1).fld g = s.fld g := by
    rw [State.fld_setFld_other _ _ hbit, s.fld_first_other _ _ hfirst]
  have hcount (t : State) : (t.countClass act).fld g = t.fld g := t.fld_countClass_other h act
  have hnow (t : State) (r : Record) : (t.recordNow r).fld g = t.fld g := t.fld_recordNow_other h r
  unfold State.raiseActing
  dsimp only
  split_ifs <;> cases act <;>
    simp only [hset, hcount, hnow, State.fld_awaitAck, State.fld_recordLater, State.fld_withSvc, State.fld_withDue]

theorem State.fld_raiseAt_other (addr info detail : Nat) : (s.raiseAt b addr info detail).fld g = s.fld g :=
  s.fld_raiseActing_other h hbit hfirst ..

theorem State.fld_raise_other : (s.raise b).fld g = s.fld g := s.fld_raiseAt_other h hbit hfirst ..

end FieldFrame

end Sys2Proof.Machine
end

section
/-!
PROOFS. Clocks, voltage and temperature (R482, R499, R505, R515, R516): where each clock and each limit stands after its event, and the
obligation of clocks, voltage and temperature.
-/

namespace Sys2Proof.Machine

/-! ### The PLLs and the regulator (R482, R499) -/

section Clocks
variable (s : State)

theorem State.pllLost_zero : s.pllLost 0 =
    State.raise { (s.setFld (PLL_STAT.LOCK 0) 0).addSat (PLL_STAT.LOSSES 0) 1 with
      time := { ((s.setFld (PLL_STAT.LOCK 0) 0).addSat (PLL_STAT.LOSSES 0) 1).time with tbclk := false } } Flt.TIME_TBCLK_LOSS := by
  unfold State.pllLost
  exact if_pos rfl

theorem State.pllLost_engine {k : Nat} (hk : k ≠ 0) :
    s.pllLost k = ((s.setFld (PLL_STAT.LOCK k) 0).addSat (PLL_STAT.LOSSES k) 1).raise Flt.PWR_PLL_UNLOCK := if_neg hk

variable {s}

/-- A PLL that runs reads locked after it locks. -/
theorem State.pllLocked_lock {k : Nat} (hrun : s.bit (PLL_STAT.RUN k) = true) : (s.pllLocked k).fld (PLL_STAT.LOCK k) = 1 := by
  have hset : (s.setFld (PLL_STAT.LOCK k) 1).fld (PLL_STAT.LOCK k) = 1 := s.fld_setFld_same _ 1
  unfold State.pllLocked
  rw [if_pos hrun]
  dsimp only
  split_ifs <;> exact hset

theorem State.pllLocked_tbclk (hrun : s.bit (PLL_STAT.RUN 0) = true) (hlocked : s.time.locked = true) :
    (s.pllLocked 0).time.tbclk = true := by
  unfold State.pllLocked
  rw [if_pos hrun]
  dsimp only
  rw [if_pos ⟨rfl, hlocked⟩]

theorem State.avsWrite_nak (hnak : s.pwr.nak = none) (hraise : s.pwr.raise ≠ []) : s.avsWrite false =
    State.raise { s with pwr := { s.pwr with nak := some s.dt, voltAt := none } } Flt.PWR_AVS_NAK := by
  simp [State.avsWrite, hnak, hraise]

theorem State.avsWrite_ack (hnak : s.pwr.nak = none) : s.avsWrite true = s := by simp [State.avsWrite, hnak]

theorem State.avsWrite_retry {t : Word} (hnak : s.pwr.nak = some t) (ht : elapsed s.dt t (usTicks 100) = true) :
    (s.avsWrite true).out = s.out ++ [.avs (s.fld AVS_STAT.VREQ)] ∧ (s.avsWrite true).pwr.nak = none ∧
    (s.avsWrite true).pwr.voltAt = some s.dt := by
  simp only [State.avsWrite, hnak, ht, Bool.not_true, Bool.false_eq_true, if_false, if_true]
  exact ⟨rfl, trivial, rfl⟩

/-- SETTLE after a raise no clock waits for the voltage (R499). -/
theorem State.avsSettled_pwr {t : Word} (hat : s.pwr.voltAt = some t)
    (ht : elapsed s.dt t (usTicks (s.fld AVS_CTL.SETTLE)) = true) : s.avsSettled.pwr.voltAt = none ∧ s.avsSettled.pwr.raise = [] := by
  have hfold (t : State) (l : List (Nat × Nat)) :
      (l.foldl (fun s r => s.setFld (PLL_STAT.MHZ (3 + r.1)) (s.eclkWanted r.1)) t).pwr = t.pwr := 
    foldl_keeps State.pwr (fun t r => t.setFld_pwr _ _) l t
  simp only [State.avsSettled, hat, if_pos ht, hfold, and_self]

variable (s) in
theorem State.eclk_raise_vmargin (b : Fin 4) : (s.raise Flt.PWR_VMARGIN).eclk b.val = s.eclk b.val := by
  have hapart : ∀ b : Fin 4, (PLL_STAT.MHZ (3 + b.val)).apart recordFlds ∧ (PLL_STAT.MHZ (3 + b.val)).key ≠ Flt.PWR_VMARGIN.fld.key ∧
    (PLL_STAT.MHZ (3 + b.val)).apart Flt.PWR_VMARGIN.firstFlds := by decide
  obtain ⟨hrec, hbit, hfirst⟩ := hapart b
  exact s.fld_raise_other hrec hbit hfirst

variable (s) in
theorem State.eclk_writeVolt (mv b : Nat) : (s.writeVolt mv).eclk b = s.eclk b :=
  s.fld_setFld_other _ (by simp only [Fld.key, PLL_STAT.MHZ, PLL_STAT.addr, AVS_STAT.VREQ, AVS_STAT.addr]; omega)

/-- A path monitor with low margin lowers its basin's clock by 100 MHz (R499). -/
theorem State.eclk_pathMargin {b : Fin 4} (hlo : 700 ≤ s.eclk b.val) (hhi : s.eclk b.val ≤ 3000) :
    (s.pathMargin b.val).eclk b.val = s.eclk b.val - 100 := by
  have hraise := s.eclk_raise_vmargin b
  have hset (t : State) : (t.setFld (PLL_STAT.MHZ (3 + b.val)) (s.eclk b.val - 100)).eclk b.val = s.eclk b.val - 100 :=
    (t.fld_setFld_same _ _).trans (Nat.mod_eq_of_lt (by simp only [Fld.width, PLL_STAT.MHZ]; omega))
  have hlim : max 600 ((s.raise Flt.PWR_VMARGIN).eclk b.val - 100) = s.eclk b.val - 100 := by omega
  have hlower : s.eclk b.val - 100 < (s.raise Flt.PWR_VMARGIN).eclk b.val := by omega
  unfold State.pathMargin
  dsimp only
  rw [hlim]
  split_ifs
  · rw [State.eclk_writeVolt, hset]
  · exact hset _
  all_goals exact absurd hlower ‹_›

end Clocks

/-! ### Sensors (R515, R516) -/

/-- The warmest of some readings is not below any of them. -/
theorem le_foldl_warmest (l : List (BitVec 16 × Nat)) (a : BitVec 16 × Nat) (x : BitVec 16 × Nat) (hx : x ∈ a :: l) :
    x.1.toInt ≤ (l.foldl (fun a c => if a.1.toInt < c.1.toInt then c else a) a).1.toInt := by
  induction l generalizing a x with
  | nil => rw [List.mem_singleton.mp hx, List.foldl_nil]
  | cons c l ih =>
    have hstep : x.1.toInt ≤ (if a.1.toInt < c.1.toInt then c else a).1.toInt ∨ x ∈ l := by
      rcases List.mem_cons.mp hx with rfl | hx
      · left; split_ifs <;> omega
      · rcases List.mem_cons.mp hx with rfl | hx
        · left; split_ifs <;> omega
        · exact .inr hx
    rcases hstep with hle | hmem
    · exact hle.trans (ih _ _ List.mem_cons_self)
    · exact ih _ _ (List.mem_cons_of_mem _ hmem)

section Sensors
variable {s : State}

/-- A valid sensor at 140 °C or more trips the device (R516). -/
theorem State.sampleTemps_trips {ts : List (BitVec 16)} (hlen : ts.length ≤ 16)
    (hhot : ∃ t ∈ ts, sensorOk t.toInt = true ∧ 2240 ≤ t.toInt) : ∃ u : State, s.sampleTemps ts = (true, u.setFld THERM_AGE.TRIP 1) := by
  obtain ⟨t, ht, hok, hge⟩ := hhot
  obtain ⟨k, hk⟩ : ∃ k, (t, k) ∈ (ts.take 16).zipIdx := by
    rw [List.take_of_length_le hlen]
    obtain ⟨k, hk, rfl⟩ := List.getElem_of_mem ht
    exact ⟨k, List.mk_mem_zipIdx_iff_getElem?.mpr (List.getElem?_eq_getElem hk)⟩
  have hgood : (t, k) ∈ (ts.take 16).zipIdx.filter (fun e => sensorOk e.1.toInt) := List.mem_filter.mpr ⟨hk, hok⟩
  unfold State.sampleTemps
  dsimp only
  cases hl : (ts.take 16).zipIdx.filter (fun e => sensorOk e.1.toInt) with
  | nil => rw [hl] at hgood; exact absurd hgood List.not_mem_nil
  | cons e rest =>
    have hwarm := le_foldl_warmest rest e (t, k) (hl ▸ hgood)
    dsimp only
    rw [if_pos (hge.trans hwarm)]
    exact ⟨_, rfl⟩

theorem State.thermSample_trips {ts : List (BitVec 16)} (hlen : ts.length ≤ 16)
    (hhot : ∃ t ∈ ts, sensorOk t.toInt = true ∧ 2240 ≤ t.toInt) :
    (s.thermSample ts).pwr.phase = .tripped ∧ (s.thermSample ts).fld THERM_AGE.TRIP = 1 := by
  obtain ⟨u, hu⟩ := s.sampleTemps_trips hlen hhot
  simp only [State.thermSample, hu, if_true]
  exact ⟨trivial, u.fld_setFld_same THERM_AGE.TRIP 1⟩

/-- A state whose basin `b` no longer cools. -/
def State.stopCooling (s : State) (b : Nat) : State :=
  { s with pwr := { s.pwr with cooling := s.pwr.cooling &&& ~~~ BitVec.ofNat 4 (2 ^ b) } }

theorem State.throttled_stopCooling (b : Nat) : (s.stopCooling b).throttled b = s.throttled b := rfl

/-- A basin that becomes hot is marked as throttled before the fault is raised (R516). -/
theorem State.throttleStart_hot {b : Nat} (hb : b < 4) (hnot : s.throttled b = false) (hhot : s.basinHot b (s.fld THERM_LIMIT.THROT) = true) :
    ∃ u : State, s.throttleStart b = u.raise Flt.THERM_THROTTLE ∧ u.throttled b = true := by
  have hnot' : (s.stopCooling b).throttled b = false := hnot
  refine ⟨(s.stopCooling b).setFld THERM_STAT.THR ((s.stopCooling b).fld THERM_STAT.THR + 2 ^ b), ?_, ?_⟩
  · unfold State.throttleStart
    rw [if_pos hhot]
    exact if_neg (ne_true_of_eq_false hnot')
  · rw [State.throttled] at hnot'
    rw [State.throttled, State.fld_setFld_same, Nat.testBit_mod_two_pow, Nat.add_comm, Nat.testBit_two_pow_add_eq, hnot']
    simp [Fld.width, THERM_STAT.THR, hb]

theorem State.thermLim_writeVolt (mv : Nat) : (s.writeVolt mv).pwr.thermLim = s.pwr.thermLim := rfl

theorem State.thermLim_steerEclk (b : Nat) : (s.steerEclk b).pwr.thermLim = s.pwr.thermLim := by
  unfold State.steerEclk
  dsimp only
  split_ifs <;> rfl

theorem State.throttleMove_idle {b : Nat} (h : s.throttled b = false) : s.throttleMove b = s := by simp [State.throttleMove, h]

/-- A basin still hot moves down by 100 MHz, to 600 MHz at least (R516). -/
theorem State.throttleMove_down {b : Nat} (hthr : s.throttled b = true)
    (hhot : s.basinHot b ((s.fld THERM_LIMIT.THROT : Int) - s.fld THERM_LIMIT.HYST) = true) (hcool : Nat.testBit s.pwr.cooling.toNat b = false) :
    Tab.get (fun _ => 0xFFFF) (s.throttleMove b).pwr.thermLim b =
      max 600 (min (limitOf s.pwr.thermLim b) (s.fld (ECLK_CTL.MHZ b)) - 100) := by
  simp [State.throttleMove, hthr, hhot, hcool, State.thermLim_steerEclk]

/-- A basin that has cooled moves up by 100 MHz, or is no longer limited (R516). -/
theorem State.throttleMove_up {b : Nat} (hthr : s.throttled b = true)
    (hhot : s.basinHot b ((s.fld THERM_LIMIT.THROT : Int) - s.fld THERM_LIMIT.HYST) = false) :
    Tab.get (fun _ => 0xFFFF) (s.throttleMove b).pwr.thermLim b = 0xFFFF ∨
    Tab.get (fun _ => 0xFFFF) (s.throttleMove b).pwr.thermLim b = min (limitOf s.pwr.thermLim b) (s.fld (ECLK_CTL.MHZ b)) + 100 := by
  simp only [State.throttleMove, hthr, hhot, Bool.not_true, Bool.not_false, Bool.true_or, if_true, Bool.false_eq_true, if_false, true_and]
  split_ifs
  · left; simp [State.thermLim_steerEclk]
  · right; simp [State.thermLim_steerEclk]

end Sensors

/-- Settles O53: each row is one operation of CLK/PWR or THERM, and the lemmas above say where its clock, limit or field stands. -/
theorem clocksVoltageTemperature : Obligations.ClocksVoltageTemperature := by
  unfold Obligations.ClocksVoltageTemperature
  intro s hp
  refine ⟨?_, ?_, ?_, ?_, ?_, ?_, ?_, ?_, ?_, ?_, ?_⟩
  · intro k u
    refine ⟨?_, fun hk => ?_⟩
    · rintro rfl
      exact (exec_pllLockLoss 0 s).trans (run_eq hp s.pllLost_zero)
    · exact (exec_pllLockLoss k s).trans (run_eq hp (s.pllLost_engine fun h => hk (Fin.ext h)))
  · intro k hrun
    refine ⟨s.pllLocked k.val, (exec_pllRelock k s).trans (run_eq hp rfl), s.pllLocked_lock hrun, ?_⟩
    rintro rfl hlocked
    exact s.pllLocked_tbclk hrun hlocked
  · intro hnak hraise
    exact ⟨(exec_avsWriteRetry false s).trans (run_eq hp (s.avsWrite_nak hnak hraise)),
      (exec_avsWriteRetry true s).trans (run_eq hp (s.avsWrite_ack hnak))⟩
  · intro t hnak ht
    exact ⟨_, (exec_avsWriteRetry true s).trans (run_eq hp rfl), s.avsWrite_retry hnak ht⟩
  · intro t hat ht
    exact ⟨_, (exec_avsSettle s).trans (run_eq hp rfl), s.avsSettled_pwr hat ht⟩
  · intro b
    exact ⟨(exec_vmargin b s).trans (run_eq hp rfl), State.eclk_pathMargin⟩
  · exact (exec_undervoltage s).trans (run_eq hp rfl)
  · intro ts
    exact ⟨(exec_thermSample ts s).trans (run_eq hp rfl), State.thermSample_trips⟩
  · intro b hnot hhot
    exact State.throttleStart_hot b.isLt hnot hhot
  · exact (exec_throttleStep s).trans (run_eq hp rfl)
  · intro b
    exact ⟨State.throttleMove_idle, State.throttleMove_down, State.throttleMove_up⟩

end Sys2Proof.Machine
end

section
/-!
PROOFS. Raising and acknowledging a fault (R372, R375, R378, R379): what falls due with an occurrence, and the obligation of the fault bits.
-/

namespace Sys2Proof.Machine

/-! ### The first-error capture and the counters write fields only -/

section FldBlind
variable {α : Type} {view : State → α} (h : ∀ (s : State) (f : Fld) (v : Nat), view (s.setFld f v) = view s) (s : State)
include h

theorem view_firstOf (valid src ovf : Fld) (bit : Nat) : view (s.firstOf valid src ovf bit) = view s := by
  unfold State.firstOf
  split_ifs <;> simp only [h]

theorem view_firstStat (first ovf : Fld) (bit : Nat) : view (s.firstStat first ovf bit) = view s := by
  unfold State.firstStat
  split_ifs <;> exact h ..

theorem view_capture (base : Nat) (hasHi : Bool) (bit addr info : Nat) : view (s.capture base hasHi bit addr info) = view s := by
  have hword (i v : Nat) (l : List FieldDef) (s : State) : view (l.foldl (fun s d => s.setFld ⟨i, d.hi, d.lo⟩ (v / 2 ^ d.lo)) s) = view s :=
    foldl_keeps view (fun s _ => h s _ _) l s
  unfold State.capture
  dsimp only
  split_ifs <;> simp only [h, hword]

/-- The first-error capture changes fields only. -/
theorem view_first (b : FaultBit) (addr info : Nat) : view (s.first b addr info) = view s := by
  unfold State.first
  split
  · exact view_capture h ..
  · split <;> simp only [view_firstOf h, view_firstStat h, apply_ite view, ite_self]

theorem view_countClass (act : Cls) : view (s.countClass act) = view s := by cases act <;> exact h ..

end FldBlind

/-! ### What falls due when a record is written -/

section Due
variable (s : State)

theorem State.due_hostPut (a : Nat) (b : List Byte) : (s.hostPut a b).due = s.due := by
  unfold State.hostPut
  split_ifs <;> rfl

theorem State.due_msix (v : Nat) : (s.msix v).due = s.due := by
  unfold State.msix
  split_ifs <;> rfl

theorem State.due_sendMsg (t cls mtype dest : Nat) (body : List Byte) (poison : List Nat) :
    (s.sendMsg t cls mtype dest body poison).due = s.due := by
  unfold State.sendMsg
  dsimp only
  split_ifs <;> rfl

/-- What a record adds to what falls due: at most the drop of the record, and nothing without a log. -/
theorem State.due_logBytes (b : List Byte) : ∃ l, (s.logBytes b).due = s.due ++ l ∧ (s.host.log = none → l = []) := by
  unfold State.logBytes
  cases hlog : s.host.log with
  | none => exact ⟨[], by simp, fun _ => rfl⟩
  | some log =>
    dsimp only
    split_ifs
    all_goals first
      | exact ⟨_, rfl, nofun⟩
      | exact ⟨[], by simp only [State.due_msix, State.due_hostPut, List.append_nil], nofun⟩

theorem State.due_recordNow (r : Record) : ∃ l, (s.recordNow r).due = s.due ++ l ∧ (s.host.log = none → l = []) := by
  have hsend (cls mtype dest : Nat) (body : List Byte) (u : State) (hu : u.due = s.due) :
      ∃ l, (u.sendMsg 0 cls mtype dest body []).due = s.due ++ l ∧ (s.host.log = none → l = []) :=
    ⟨[], by rw [State.due_sendMsg, hu, List.append_nil], fun _ => rfl⟩
  unfold State.recordNow State.writeRecord
  dsimp only
  split_ifs
  · exact hsend _ _ _ _ _ rfl
  · exact hsend _ _ _ _ _ rfl
  · exact State.due_logBytes _ _

end Due

section Raise
variable {s : State} {b : FaultBit}

theorem State.actsAs_of_not_holds {c : Cls} (h : s.holds b.blk b.inst c = false) (n : Nat) : s.actsAs b.blk b.inst n c = c := by
  cases n <;> simp [State.actsAs, h]

/-- The record of a new occurrence that acts as class `c`, and the consequence that follows it. -/
def State.recordAs (s : State) (b : FaultBit) (c : Cls) (r : Record) : State :=
  match c with
  | .c | .r => s.recordLater r
  | .d => { s.recordNow r with due := (s.recordNow r).due ++ dueD b false }
  | .s => { s.recordNow r with due := (s.recordNow r).due ++ [.safe (safeCause b) b.blk b.inst] }

/-- A new occurrence of the class of its table writes one record, from a state in which nothing more than before is due. -/
theorem State.raiseActing_new (hbit : s.bit b.fld = false) (addr info detail : Nat) :
    ∃ (u : State) (r : Record), s.raiseActing b b.row.cls b.row.cls addr info detail = u.recordAs b b.row.cls r ∧
      u.due = s.due ∧ u.host.log = s.host.log ∧ u.svc.waiting = s.svc.waiting := by
  have hkeep {α : Type} (view : State → α) (hset : ∀ s f v, view (State.setFld s f v) = view s)
      (hack : ∀ s b c, view (State.awaitAck s b c) = view s) (c : Cls) :
      view ((((s.first b addr info).setFld b.fld 1).countClass c).awaitAck b c) = view s := by
    rw [hack, view_countClass hset, hset, view_first hset]
  unfold State.raiseActing State.recordAs
  simp only [hbit, Bool.false_and, Bool.false_eq_true, if_false, bne_self_eq_false, Bool.and_false]
  have hkept (c : Cls) := And.intro (hkeep State.due (fun _ _ _ => rfl) (fun _ _ _ => rfl) c)
    (And.intro (hkeep (·.host.log) (fun _ _ _ => rfl) (fun _ _ _ => rfl) c) (hkeep (·.svc.waiting) (fun _ _ _ => rfl) (fun _ _ _ => rfl) c))
  cases b.row.cls <;> exact ⟨_, _, rfl, hkept _⟩

theorem State.raise_settled {c : Cls} (h : (if b.row.counts then s.actsAs b.blk b.inst 3 b.row.cls else b.row.cls) = c) :
    s.raise b = s.raiseActing b b.row.cls c 0 0 0 := by rw [State.raise, State.raiseAt, State.raiseAs, h]

variable (hbit : s.bit b.fld = false)
include hbit

/-- A new occurrence of class D that does not escalate puts its unit's consequence last of what falls due. -/
theorem State.due_raise_d (hd : b.row.cls = .d) (hnone : s.holds b.blk b.inst .d = false) :
    ∃ l, (s.raise b).due = s.due ++ l ++ dueD b false ∧ (s.host.log = none → l = []) := by
  obtain ⟨u, r, hu, hdue, hlog, -⟩ := State.raiseActing_new hbit 0 0 0
  obtain ⟨l, hl, hlnone⟩ := u.due_recordNow r
  refine ⟨l, ?_, fun h => hlnone (hlog.trans h)⟩
  rw [State.raise_settled (c := b.row.cls) (by rw [hd, State.actsAs_of_not_holds hnone, ite_self]), hu, hd, State.recordAs, hl, hdue]

/-- A new occurrence of class S asks for the safe state. -/
theorem State.due_raise_s (hs : b.row.cls = .s) :
    ∃ l, (s.raise b).due = s.due ++ l ++ [.safe (safeCause b) b.blk b.inst] ∧ (s.host.log = none → l = []) := by
  obtain ⟨u, r, hu, hdue, hlog, -⟩ := State.raiseActing_new hbit 0 0 0
  obtain ⟨l, hl, hlnone⟩ := u.due_recordNow r
  refine ⟨l, ?_, fun h => hlnone (hlog.trans h)⟩
  rw [State.raise_settled (c := b.row.cls) (by rw [hs, State.actsAs, beq_self_eq_true, if_pos rfl, ite_self]), hu, hs, State.recordAs, hl, hdue]

/-- A new occurrence of class C that does not escalate adds one waiting record and nothing that falls due. -/
theorem State.raise_c (hc : b.row.cls = .c) (hnone : s.holds b.blk b.inst .c = false) :
    (s.raise b).due = s.due ∧ (s.raise b).svc.waiting.length = s.svc.waiting.length + 1 := by
  obtain ⟨u, r, hu, hdue, -, hwaiting⟩ := State.raiseActing_new hbit 0 0 0
  rw [State.raise_settled (c := b.row.cls) (by rw [hc, State.actsAs_of_not_holds hnone, ite_self]), hu, hc]
  exact ⟨hdue, by rw [← hwaiting]; exact List.length_append⟩

end Raise

/-- A set bit whose class does not escalate changes no more than its capture (R379). -/
theorem State.raise_again {s : State} {b : FaultBit} (hbit : s.bit b.fld = true)
    (hact : (if b.row.counts then s.actsAs b.blk b.inst 3 b.row.cls else b.row.cls) = b.row.cls) :
    s.raise b = (s.first b 0 0).setFld b.fld 1 := by
  rw [State.raise_settled hact]
  unfold State.raiseActing
  simp only [hbit, bne_self_eq_false, Bool.not_false, Bool.and_self, if_true]

/-- Settles O42: the occurrence is followed through its capture, its count and its record. -/
theorem faultBits : Obligations.FaultBits := by
  unfold Obligations.FaultBits
  intro s b
  refine ⟨State.raise_again, State.due_raise_d, State.due_raise_s, State.raise_c, fun hbit => ?_, fun hbit => ?_, fun c hholds hc => ?_⟩
  · simp [State.ack, hbit]
  · simp [State.ack, hbit]
  · simp [State.actsAs, hholds, hc]

end Sys2Proof.Machine
end

section
/-!
PROOFS. The SEC block (R411, R418 to R420, R423 to R426): who reaches it, what each of its commands does, and the obligation of the security
commands.
-/

namespace Sys2Proof.Machine

/-! ### Who reaches SEC (R423, R425) -/

section Access
variable {s : State} {a : Nat} {f : State → State}

theorem State.onSec_strider (w : StrId) : s.onSec (.strider w) a f = s.setFld SEC_STAT.CFG_REJECT 1 := rfl

theorem State.onSec_svc : s.onSec .svc a f = f s := rfl

/-- An enable that the service complex changes. -/
theorem State.onSec_enWrite {e : Fld} {en : Bool} {h : State → State} (hen : s.bit e = !en) :
    s.onSec .svc a (fun s => s.enWrite e en h) = h s := State.onSec_svc.trans (State.enWrite_changed hen)

end Access

/-! ### Page keys (R418 to R420, R424) -/

section Pages
variable {s : State} {k : Nat}

theorem State.pageEnable_derives (hen : s.bit (SEC_PG_CTL.EN k) = false) (hbase : s.bit (SEC_PG_CTL.KBASE k) = false ∨ s.bit SEC_STAT.SYS_VALID = true) :
    s.pageEnable k = (s.setFld (SEC_PG_CTL.EN k) 1).setFld (SEC_PG_STAT.STATE k) 1 := by
  have hvalid : (s.bit (SEC_PG_CTL.KBASE k) && !s.bit SEC_STAT.SYS_VALID) = false := by
    rcases hbase with h | h <;> simp [h]
  simp [State.pageEnable, hen, hvalid, Page.deriving_]

theorem State.pageEnable_noSecret (hen : s.bit (SEC_PG_CTL.EN k) = false) (hbase : s.bit (SEC_PG_CTL.KBASE k) = true)
    (hvalid : s.bit SEC_STAT.SYS_VALID = false) : s.pageEnable k = s.setFld SEC_STAT.CFG_REJECT 1 := by
  simp [State.pageEnable, hen, hbase, hvalid]

theorem State.pageDisable_enabled (hen : s.bit (SEC_PG_CTL.EN k) = true) : s.pageDisable k = s.setFld (SEC_PG_STAT.STATE k) 3 := if_pos hen

theorem State.pageDerived_keyed (h : s.pageState k = 1) : s.pageDerived k false =
    (s.setPageKey k (pageKdf (if s.bit (SEC_PG_CTL.KBASE k) then s.sysSecret else slice Config.dus 0 32) k (s.fld (SEC_PG_CTX.CTX k))
      (s.bit (SEC_PG_CTL.KBITS k)))).setFld (SEC_PG_STAT.STATE k) 2 := by
  simp [State.pageDerived, h, Page.deriving_, Page.keyed]

theorem State.pageDerived_parity (h : s.pageState k = 1) : s.pageDerived k true =
    ((s.setFld (SEC_PG_STAT.STATE k) 0).setFld (SEC_PG_CTL.EN k) 0).raise Flt.SEC_DP_PARITY := by
  simp [State.pageDerived, h, Page.deriving_, Page.empty]

theorem State.pageZero_idle (h : s.pageState k = 3) (hbusy : s.pageBusy k = false) : s.pageZero k =
    ((s.setPageKey k []).setFld (SEC_PG_STAT.STATE k) 0).setFld (SEC_PG_CTL.EN k) 0 := by
  simp [State.pageZero, h, hbusy, Page.zeroing, Page.empty]

theorem State.pageZero_busy (hbusy : s.pageBusy k = true) : s.pageZero k = s := by simp [State.pageZero, hbusy]

end Pages

/-! ### The system secret (R419) -/

section Secret
variable {s : State} {v : Word32}

theorem State.keyload_accepts (hfree : ∀ k < 16, s.bit (SEC_PG_CTL.EN k) = false ∨ s.bit (SEC_PG_CTL.KBASE k) = false)
    (hlen : s.sec.secret.length < 8) : s.keyload v =
      let u := { s with sec := { s.sec with secret := s.sec.secret ++ [v] } }.setFld SEC_KEYLD_CTL.WIDX (s.sec.secret ++ [v]).length
      if (s.sec.secret ++ [v]).length = 8 then u.setFld SEC_STAT.SYS_VALID 1 else u := by
  have hnone : ((upTo 16).any fun k => s.bit (SEC_PG_CTL.EN k) && s.bit (SEC_PG_CTL.KBASE k)) = false := by
    rw [List.any_eq_false]
    intro k hk
    rcases hfree k (List.mem_range.mp hk) with h | h <;> simp [h]
  unfold State.keyload
  rw [hnone, if_neg Bool.false_ne_true, if_neg (Nat.not_le.mpr hlen)]

theorem State.keyload_word (hfree : ∀ k < 16, s.bit (SEC_PG_CTL.EN k) = false ∨ s.bit (SEC_PG_CTL.KBASE k) = false)
    (hlen : s.sec.secret.length < 7) : s.keyload v =
      { s with sec := { s.sec with secret := s.sec.secret ++ [v] } }.setFld SEC_KEYLD_CTL.WIDX (s.sec.secret.length + 1) := by
  have hshort : s.sec.secret.length ≠ 7 := by omega
  simp [State.keyload_accepts hfree (by omega : s.sec.secret.length < 8), hshort]

theorem State.keyload_last (hfree : ∀ k < 16, s.bit (SEC_PG_CTL.EN k) = false ∨ s.bit (SEC_PG_CTL.KBASE k) = false)
    (hlen : s.sec.secret.length = 7) : s.keyload v =
      ({ s with sec := { s.sec with secret := s.sec.secret ++ [v] } }.setFld SEC_KEYLD_CTL.WIDX 8).setFld SEC_STAT.SYS_VALID 1 := by
  simp [State.keyload_accepts hfree (by omega : s.sec.secret.length < 8), hlen]

end Secret

/-! ### The noise source (R426) -/

section Noise
variable {s : State}

theorem State.rngBegun_ok {t : Word} (hback : s.sec.rngBack = some t) (ht : elapsed s.dt t (usTicks 2000) = true) : s.rngBegun true =
    { s.setFld SEC_RNG_STAT.RESTARTS 0 with sec := { s.sec with rngBack := none } } := by
  simp [State.rngBegun, hback, ht]

theorem State.regRead_rng : s.regRead .svc SEC_RNG_DATA.addr = s.rngRead := rfl

theorem State.rngRead_empty (h : s.sec.rngReady = 0) : s.rngRead = (0, s.setFld SEC_RNG_STAT.UNDERRUN 1) := if_pos h

theorem State.rngRead_ready (h : 0 < s.sec.rngReady) : ∃ v, s.rngRead =
    (v, { (s.fresh).2 with sec := { s.sec with rngReady := s.sec.rngReady - 1 } }) := ⟨_, if_neg (by omega)⟩

theorem State.rngWindow_good {x : BitVec 1024} (hup : s.rngUp = true) (hx : healthFails x = false) :
    s.rngWindow x = { s with sec := { s.sec with rngReady := 16 } } := by simp [State.rngWindow, hup, hx]

theorem State.rngWindow_bad {x : BitVec 1024} (hup : s.rngUp = true) (hx : healthFails x = true) :
    s.rngWindow x = ((s.addSat SEC_RNG_STAT.HEALTH_FAIL 1).raise Flt.SEC_RNG_HEALTH).rngStart := by simp [State.rngWindow, hup, hx]

end Noise

/-! ### The digest engine (R425) -/

section Digest
variable {s : State}

/-- The fields of SEC_SHA_CTL that a write takes as they are: LASTB is stored and DONE is cleared by 1. -/
theorem writePlain_shaCtl (v : Nat) : ∃ done, writePlain s SEC_SHA_CTL.addr v [0, 1] plain =
    (s.setFld SEC_SHA_CTL.LASTB (v / 2 ^ 4 % 4)).setFld SEC_SHA_CTL.DONE done := ⟨_, rfl⟩

theorem State.writeShaCtl_init (l : Nat) : (s.writeShaCtl (1 + 16 * l)).sec.shaMsg = [] ∧
    (s.writeShaCtl (1 + 16 * l)).bit SEC_SHA_CTL.BUSY = false := by
  obtain ⟨done, hplain⟩ := writePlain_shaCtl (s := s) (1 + 16 * l)
  have h0 : wbit (1 + 16 * l) 0 = true := by simp [wbit, Nat.testBit, Nat.add_mod, Nat.mul_mod]
  have h1 : wbit (1 + 16 * l) 1 = false := by simp [wbit, Nat.testBit, Nat.shiftRight_eq_div_pow]; omega
  simp only [State.writeShaCtl, hplain, h0, h1, if_true, Bool.false_eq_true, if_false]
  exact ⟨rfl, State.bit_setFld_same _ (f := SEC_SHA_CTL.BUSY) 0 rfl⟩

/-- FINAL with LASTB = 0 closes the message as it stands. -/
theorem State.writeShaCtl_final (hbusy : s.bit SEC_SHA_CTL.BUSY = false) :
    (s.writeShaCtl 2).bit SEC_SHA_CTL.BUSY = true ∧ (s.writeShaCtl 2).sec.shaMsg = s.sec.shaMsg := by
  obtain ⟨done, hplain⟩ := writePlain_shaCtl (s := s) 2
  have hidle : ((s.setFld SEC_SHA_CTL.LASTB (2 / 2 ^ 4 % 4)).setFld SEC_SHA_CTL.DONE done).bit SEC_SHA_CTL.BUSY = false := by
    rw [State.bit_setFld_other _ _ (by decide), State.bit_setFld_other _ _ (by decide), hbusy]
  have hlast : ((s.setFld SEC_SHA_CTL.LASTB (2 / 2 ^ 4 % 4)).setFld SEC_SHA_CTL.DONE done).fld SEC_SHA_CTL.LASTB = 0 := by
    rw [State.fld_setFld_other _ _ (by decide), State.fld_setFld_same]; rfl
  simp only [State.writeShaCtl, hplain, show wbit 2 0 = false from rfl, show wbit 2 1 = true from rfl, if_true, Bool.false_eq_true, if_false,
    State.shaEnd, hidle, hlast]
  exact ⟨State.bit_setFld_same _ (f := SEC_SHA_CTL.BUSY) 1 rfl, rfl⟩

theorem State.shaFinish_ok (hbusy : s.bit SEC_SHA_CTL.BUSY = true) : s.shaFinish false =
    { (s.setFld SEC_SHA_CTL.BUSY 0).setFld SEC_SHA_CTL.DONE 1 with sec := { s.sec with shaOut := sha256 s.sec.shaMsg, shaIdx := 0 } } := by
  unfold State.shaFinish
  rw [hbusy]
  rfl

end Digest

/-- Settles O44: each command is one operation of SEC, behind the check of who reaches the block. -/
theorem securityCommands : Obligations.SecurityCommands := by
  unfold Obligations.SecurityCommands
  intro s hp
  refine ⟨?_, ?_, ?_, ?_, ?_, ?_, ?_, ?_, ?_, ?_, ?_, ?_, ?_, ?_, ?_, ?_⟩
  · intro w k v l refused
    exact ⟨(exec_secPageEnable _ k s).trans (run_eq hp rfl), (exec_secPageDisable _ k s).trans (run_eq hp rfl),
      (exec_secKeyload _ v s).trans (run_eq hp rfl), (exec_secKeyloadStart _ s).trans (run_eq hp rfl),
      (exec_secKeyloadClear _ s).trans (run_eq hp rfl), (exec_otpLock _ s).trans (run_eq hp rfl), (exec_rngRestart _ s).trans (run_eq hp rfl),
      (exec_shaInit _ l s).trans (run_eq hp rfl), (exec_shaData _ v s).trans (run_eq hp rfl), (exec_shaFinal _ l s).trans (run_eq hp rfl)⟩
  · intro k
    refine ⟨fun hen hbase => ?_, fun hen hbase hvalid => ?_, fun hen => ?_, fun h => ⟨?_, ?_⟩, fun h hbusy => ?_, fun _ hbusy => ?_⟩
    · exact (exec_secPageEnable _ k s).trans (run_eq hp ((State.onSec_enWrite hen).trans (State.pageEnable_derives hen hbase)))
    · exact (exec_secPageEnable _ k s).trans (run_eq hp ((State.onSec_enWrite hen).trans (State.pageEnable_noSecret hen hbase hvalid)))
    · exact (exec_secPageDisable _ k s).trans (run_eq hp ((State.onSec_enWrite hen).trans (State.pageDisable_enabled hen)))
    · exact (exec_pageKeyDerived k false s).trans (run_eq hp (State.pageDerived_keyed h))
    · exact (exec_pageKeyDerived k true s).trans (run_eq hp (State.pageDerived_parity h))
    · exact (exec_pageZeroed k s).trans (run_eq hp (State.pageZero_idle h hbusy))
    · exact (exec_pageZeroed k s).trans (run_eq hp (State.pageZero_busy hbusy))
  · intro v hfree
    exact ⟨fun hlen => (exec_secKeyload _ v s).trans (run_eq hp (State.keyload_word hfree hlen)),
      fun hlen => (exec_secKeyload _ v s).trans (run_eq hp (State.keyload_last hfree hlen))⟩
  · rintro u rfl
    exact ⟨(exec_secKeyloadStart _ s).trans (run_eq hp rfl), (exec_secKeyloadClear _ s).trans (run_eq hp rfl)⟩
  · exact (exec_otpLock _ s).trans (run_eq hp rfl)
  · exact (exec_rngRestart _ s).trans (run_eq hp rfl)
  · intro t hback ht
    exact (exec_rngRestartDone true s).trans (run_eq hp (State.rngBegun_ok hback ht))
  · intro h
    exact (exec_rngDataRead _ s).trans (run_eq hp (by rw [State.regRead_rng, State.rngRead_empty h]))
  · intro h
    obtain ⟨v, hv⟩ := State.rngRead_ready h
    exact ⟨v, (exec_rngDataRead _ s).trans (run_eq hp (by rw [State.regRead_rng, hv]))⟩
  · intro x hup
    exact ⟨fun hx => (exec_rngHealthTest x s).trans (run_eq hp (State.rngWindow_good hup hx)),
      fun hx => (exec_rngHealthTest x s).trans (run_eq hp (State.rngWindow_bad hup hx))⟩
  · intro hup
    exact (exec_maskReseed s).trans (run_eq hp (if_pos hup))
  · intro l
    exact ⟨_, (exec_shaInit _ l s).trans (run_eq hp State.onSec_svc), State.writeShaCtl_init _⟩
  · intro v hbusy
    exact (exec_shaData _ v s).trans (run_eq hp (State.onSec_svc.trans (if_neg (ne_true_of_eq_false hbusy))))
  · intro hbusy
    exact ⟨_, (exec_shaFinal _ 0 s).trans (run_eq hp State.onSec_svc), State.writeShaCtl_final hbusy⟩
  · intro hbusy
    exact (exec_shaDone false s).trans (run_eq hp (State.shaFinish_ok hbusy))
  · exact (exec_shaDigestRead _ s).trans (run_eq hp rfl)

end Sys2Proof.Machine
end

section
/-!
PROOFS. The service complex (R373, R374, R379, R383, R396 to R399, R403, R509): the housekeeping tick, the automatic acknowledgements, the
pins, the tail report, and the obligation of the service commands.
-/

namespace Sys2Proof.Machine

/-! ### The housekeeping tick (R374, R377, R379) -/

section Tick
variable {s : State}

theorem State.houseTick_idle (h : s.fwRuns = false) : s.houseTick = s := by simp [State.houseTick, h]

/-- A record that its journal copy restores goes on as it was, and so does a channel that holds no such record. -/
theorem State.selfFault_restored (ch : Fin 96) (id : Nat) : s.selfFault (.xrec ch id false) = s := rfl

theorem State.selfFault_noRecord {ch : Fin 96} {id : Nat} (h : s.recOf ch.val id = none) : s.selfFault (.xrec ch id true) = s := by
  simp [State.selfFault, State.recordLost, h]

theorem allUnits_host : allUnits.contains (0xD, 0) = true :=
  List.contains_iff_mem.mpr (List.mem_flatMap.mpr ⟨(0xD, 1), by decide, by decide⟩)

/-- A parity error that HOST finds in its registers raises its bit. -/
theorem State.selfFault_hostParity :
    s.selfFault (.bit 0xD 0 (Fin.ofNat 64 Flt.HOST_REGPAR.bit)) = s.raiseAt Flt.HOST_REGPAR 0 0 0 := by
  unfold State.selfFault
  exact if_pos allUnits_host

/-- With no record waiting and no uplink the tick counts, acknowledges, commits the slow blocks and examines a request. -/
theorem State.houseTick_quiet (hfw : s.fwRuns = true) (hwaiting : s.svc.waiting = []) (hup : s.upPort 0 = false) :
    s.houseTick = ((({ s.addWrap SVC_HB.TICKS 1 with svc := { (s.addWrap SVC_HB.TICKS 1).svc with waiting := [] } }.tickAcks).slowPoint).powerTick) := by
  have hwaiting' : (s.addWrap SVC_HB.TICKS 1).svc.waiting = [] := hwaiting
  have hup' : State.upPort { s.addWrap SVC_HB.TICKS 1 with svc := { (s.addWrap SVC_HB.TICKS 1).svc with waiting := [] } } 0 = false := by
    refine Eq.trans ?_ hup
    simp only [State.upPort, State.isWorker]
    rw [State.fld_withSvc, State.fld_addWrap_other _ _ (by decide)]
  unfold State.houseTick
  simp only [hfw, hwaiting', hup', Bool.not_true, Bool.false_eq_true, if_false, List.foldl_nil, Bool.false_and]

end Tick

/-! ### Automatic acknowledgement (R373) -/

section Acks
variable {s : State} {blk inst bit : Byte} {a : AckDue} (ha : s.ackDue blk inst bit = some a) (hfw : s.fwRuns = true) (hby : a.byFirmware = true)
include ha hfw hby

theorem run_cAutoAck (hp : s.powered = true) (hcls : a.cls = 0) (hauto : s.bit SVC_FLTCTL.C_AUTO = true) (hirq : s.irqOn a.bitOf = true) :
    exec (.cAutoAck blk inst bit) s = .next (settle s (s.ack a.bitOf)) := by
  rw [exec_cAutoAck]
  exact run_eq hp (by simp only [ha, hfw, hby, hcls, hauto, hirq, beq_self_eq_true, Bool.and_self, if_true])

theorem run_rAutoAck (hp : s.powered = true) {t : Word} (hcls : a.cls = 1) (hat : a.at_ = some t) (hauto : s.bit SVC_FLTCTL.R_AUTO = true)
    (ht : elapsed s.dt t (usTicks (1000 * s.fld SVC_FLTCTL.R_HOLD)) = true) :
    exec (.rAutoAck blk inst bit) s = .next (settle s (s.ack a.bitOf)) := by
  rw [exec_rAutoAck]
  exact run_eq hp (by simp only [ha, hat, hfw, hby, hcls, hauto, ht, beq_self_eq_true, Bool.and_self, if_true])

end Acks

/-! ### Failover, pins and the safe state (R396 to R399, R403, R509) -/

section Pins
variable {s : State}

theorem State.tarnReplay_none (h : s.svc.tarnDue = []) (p : Fin 68) (ids : List (BitVec 48)) : s.tarnReplay p ids = s := by
  simp [State.tarnReplay, h]

theorem State.bit_pinEdge_other (k : Nat) {f : Fld} (h : f.key ≠ PIN_EDGE.EDGE.key) : (s.pinEdge k).bit f = s.bit f :=
  s.bit_setFld_other _ h

theorem State.bit_setPin_other (k : Nat) (v : Bool) {f : Fld} (h : f.key ≠ PIN_STAT.LEVEL.key) : (s.setPin k v).bit f = s.bit f := by
  simp only [State.bit, s.fld_setPin_other k v h]

/-- The edge of a pin meets a capture unit that is not armed. -/
theorem State.pinFall_unarmed (k e n : Nat) {t : Word} {fine : Nat} (h : s.bit CAP_CTL.ARM = false) :
    ((s.setPin k false).pinEdge e).captureEvent n t fine = (s.setPin k false).pinEdge e :=
  State.captureEvent_unarmed (by rw [State.bit_pinEdge_other e (by decide), State.bit_setPin_other k false (by decide), h])

/-- A cause that arrives in the safe state is only logged, but for PFW_N in the cycle of ESTOP_N (R396, Table 18-17). -/
theorem State.enterSafe_safe (hsafe : s.bit SVC_STAT.SAFE = true) {c b i : Nat} (hc : c ≠ 5 ∨ s.fld SVC_SAFE.CAUSE ≠ 4) :
    s.enterSafe c b i = (s.setFld SVC_FLTCTL.SAFE_REQ 0).causeRecord c := by
  have hboth : (c == 5 && s.fld SVC_SAFE.CAUSE == 4) = false := by
    rcases hc with h | h <;> simp [h]
  simp only [State.enterSafe, hsafe, hboth, if_true, Bool.false_and, Bool.false_eq_true, if_false]

/-- Of a report only the DT of the first SAFE frame is filled in when it is completed (Table 13-16 step 5). -/
theorem State.tailFinish_manager {r : List Byte} (hheld : s.tree.heldTail = some r) (hlen : 24 ≤ r.length) (hw : s.isWorker = false) :
    ∃ r' : List Byte, s.tailFinish = ((s.holdTail none).putComplete 0 r').tailStat r' ∧ r'.take 16 = r.take 16 ∧ r'.drop 24 = r.drop 24 := by
  refine ⟨patch r 16 (leBytes 8 ((s.svc.firstSafe).getD (s.pair SVC_SAFE_DT_LO.DT SVC_SAFE_DT_HI.DT)).toNat), ?_, ?_, ?_⟩
  · simp only [State.tailFinish, hheld, hw, Bool.false_eq_true, if_false]
  · rw [patch, List.append_assoc, List.take_append_of_le_length (by rw [List.length_take]; omega), List.take_take, Nat.min_self]
  · rw [patch, length_leBytes, List.drop_append_of_le_length (by rw [List.length_append, List.length_take, length_leBytes]; omega)]
    rw [List.drop_of_length_le (by rw [List.length_append, List.length_take, length_leBytes]; omega), List.nil_append]

end Pins

/-- Settles O43: each row is one operation of the service complex, and the lemmas above say what it does in the case stated. -/
theorem serviceCommands : Obligations.ServiceCommands := by
  unfold Obligations.ServiceCommands
  intro s hp
  refine ⟨?_, ?_, ?_, ?_, ?_, ?_, ?_, ?_, ?_, ?_, ?_, ?_, ?_, ?_, ?_, ?_, ?_⟩
  · intro found
    exact (exec_housekeepingTick found s).trans (run_eq hp rfl)
  · intro hfw
    exact (exec_housekeepingTick [] s).trans (run_eq hp (State.houseTick_idle hfw))
  · intro ch id
    exact ⟨State.selfFault_restored ch id, State.selfFault_noRecord⟩
  · exact State.selfFault_hostParity
  · intro hfw hwaiting hup
    exact (exec_housekeepingTick [] s).trans (run_eq hp (State.houseTick_quiet hfw hwaiting hup))
  · intro blk inst bit a ha hfw hby
    exact ⟨run_cAutoAck ha hfw hby hp, fun t => run_rAutoAck ha hfw hby hp⟩
  · intro p ids
    exact ⟨(exec_tarnReplay p ids s).trans (run_eq hp rfl), fun h => State.tarnReplay_none h p ids⟩
  · intro h
    exact (exec_svcFailover s).trans (run_eq hp (if_neg (ne_true_of_eq_false h)))
  · intro h
    exact (exec_svcFailover s).trans (run_eq hp (if_pos h))
  · intro hpin harm
    rw [exec_estopNFall]
    refine run_eq hp ?_
    simp only [hpin, Bool.not_true, Bool.false_eq_true, if_false, State.pinFall_unarmed _ _ _ harm, State.bit_pinEdge_other 2
      (show SVC_FLTCTL.ESTOP_SAFE.key ≠ _ by decide), State.bit_setPin_other 7 false (show SVC_FLTCTL.ESTOP_SAFE.key ≠ _ by decide)]
  · intro ns
    exact (exec_estopNRise ns s).trans (run_eq hp rfl)
  · intro hpin harm
    rw [exec_pfwNFall]
    refine run_eq hp ?_
    simp only [hpin, Bool.not_true, Bool.false_eq_true, if_false, State.pinFall_unarmed _ _ _ harm]
  · intro hpin
    exact (exec_pfwNRise s).trans (run_eq hp (if_neg (ne_true_of_eq_false hpin)))
  · intro h
    exact (exec_tailReportComplete s).trans (run_eq hp (by simp only [h, Option.isSome_none, Bool.false_eq_true, if_false]))
  · intro t r hpfw hheld hlen hw
    obtain ⟨r', hfinish, htake, hdrop⟩ := State.tailFinish_manager hheld hlen hw
    exact ⟨r', (exec_tailReportComplete s).trans (run_eq hp (by simp only [hpfw, Option.isSome_some, if_true, hfinish])), htake, hdrop⟩
  · exact (exec_safeReq s).trans (run_eq hp rfl)
  · intro hsafe c b i
    exact State.enterSafe_safe hsafe

end Sys2Proof.Machine
end

section
/-!
PROOFS. Completions and what keeps a command from being executed (R435, R438, R440, R445, R453, Table 15-4), and their obligation.
-/

namespace Sys2Proof.Machine

/-! ### The bytes of an entry (Table 15-4) -/

/-- A number read behind some bytes. -/
theorem leAt_append_right {x y : List Byte} {o n : Nat} (h : x.length ≤ o) : leAt (x ++ y) o n = leAt y (o - x.length) n := by
  rw [leAt, slice, List.drop_append, List.drop_of_length_le h, List.nil_append, leAt, slice]

/-- The first number of a row of bytes. -/
theorem leAt_leBytes_append {n v : Nat} (hv : v < 256 ^ n) (z : List Byte) : leAt (leBytes n v ++ z) 0 n = v := by
  have hmid := leAt_middle (x := []) (z := z) rfl (length_leBytes n v)
  rw [List.nil_append, leNat_leBytes, Nat.mod_eq_of_lt hv] at hmid
  exact hmid

theorem length_slice (l : List Byte) (o n : Nat) : (slice l o n).length = n := by
  have hle : ((l.drop o).take n).length ≤ n := List.length_take_le ..
  rw [slice, List.length_append, List.length_replicate]
  omega

theorem CqEntry.length_bytes (e : CqEntry) (q : Nat) (ph : Bool) : (e.bytes q ph).length = 32 := by
  simp only [CqEntry.bytes, List.length_append, length_leBytes, length_slice]

section Bytes
variable {e : CqEntry} {q : Nat} {ph : Bool} (hstatus : e.status < 65536) (hdetail : e.detail < 65536) (hq : q < 256) (hdevice : e.device < 256)
  (hrbytes : e.rbytes < 2 ^ 31) (hsqhd : e.sqhd < 65536)
include hstatus hdetail hq hdevice hrbytes hsqhd

theorem CqEntry.bytes_fields :
    leAt (e.bytes q ph) 0 4 = e.tag.toNat ∧ leAt (e.bytes q ph) 4 2 = e.status ∧ leAt (e.bytes q ph) 6 2 = e.detail ∧
    leAt (e.bytes q ph) 8 2 = e.sqhd ∧ leAt (e.bytes q ph) 10 1 = q ∧ leAt (e.bytes q ph) 11 1 = e.device ∧
    leAt (e.bytes q ph) 12 4 = e.rbytes + (if ph then 2 ^ 31 else 0) := by
  have htag : e.tag.toNat < 256 ^ 4 := e.tag.isLt
  have hlast : e.rbytes + (if ph then 2 ^ 31 else 0) < 256 ^ 4 := by split_ifs <;> omega
  simp only [CqEntry.bytes, List.append_assoc]
  refine ⟨leAt_leBytes_append htag _, ?_, ?_, ?_, ?_, ?_, ?_⟩
  all_goals repeat rw [leAt_append_right (by rw [length_leBytes]; decide), length_leBytes]
  · exact leAt_leBytes_append hstatus _
  · exact leAt_leBytes_append hdetail _
  · exact leAt_leBytes_append hsqhd _
  · exact leAt_leBytes_append (n := 1) hq _
  · exact leAt_leBytes_append (n := 1) hdevice _
  · exact leAt_leBytes_append hlast _

end Bytes

/-! ### Writing an entry (R435, R438) -/

section Put
variable {s : State} {q : Nat} {e : CqEntry} {p : QPair} (hp : s.qpair q = some p) (herr : p.err = false)
include hp herr

/-- An entry that signals nothing yet goes to the tail of the ring, which moves on. -/
theorem State.putCq_quiet (hd3 : s.host.d3 = false) (hok : s.hostOk (p.cqBase + 32 * p.cqTail) 32 = true) (hn : p.unsent + 1 < p.ccount) :
    ∃ p' : QPair, s.putCq q e = (s.emit (.host (p.cqBase + 32 * p.cqTail) (e.bytes q p.phase))).setQpair q (some p') ∧
      p'.cqTail = (p.cqTail + 1) % p.size ∧ p'.unsent = p.unsent + 1 ∧ (p'.phase = p.phase ↔ (p.cqTail + 1) % p.size ≠ 0) := by
  have hput : s.hostPut (p.cqBase + 32 * p.cqTail) (e.bytes q p.phase) = s.emit (.host (p.cqBase + 32 * p.cqTail) (e.bytes q p.phase)) :=
    if_neg (ne_true_of_eq_false hd3)
  refine ⟨{ p with cqTail := (p.cqTail + 1) % p.size, phase := if (p.cqTail + 1) % p.size = 0 then !p.phase else p.phase,
                   unsent := p.unsent + 1, oldest := if p.unsent = 0 then s.dt else p.oldest }, ?_, rfl, rfl, ?_⟩
  · simp only [State.putCq, hp, herr, hok, hput, if_true, if_neg (Nat.not_le.mpr hn), Bool.false_eq_true, if_false]
    rfl
  · dsimp only
    split_ifs with h <;> simp [h]

/-- An entry that host memory does not take stops the queue and raises HOST_FAULT.DMA. -/
theorem State.putCq_failed (hok : s.hostOk (p.cqBase + 32 * p.cqTail) 32 = false) :
    ∃ u : State, s.putCq q e = u.hostRaise Flt.HOST_DMA (p.cqBase + 32 * p.cqTail) 4 1 0 q ∧ ((u.qpair q).map (·.err)) = some true := by
  refine ⟨(s.setQpair q (some { p with err := true })).discarded, ?_, ?_⟩
  · simp only [State.putCq, hp, herr, hok, Bool.false_eq_true, if_false]
  · simp [State.discarded, State.stat, State.qpair, State.setQpair]

end Put

/-! ### Completing a command (R438, R440, R442) -/

theorem State.out_stat (s : State) (k : Nat) : (s.stat k).out = s.out := rfl

theorem State.out_statStatus (s : State) (status : Nat) : (s.statStatus status).out = s.out := by
  unfold State.statStatus
  split <;> rfl

theorem State.out_cmdAnswered (s : State) (c : HostCmd) (dev : Nat) : (s.cmdAnswered c dev).out = s.out := by
  unfold State.cmdAnswered
  dsimp only
  split_ifs <;> rfl

/-- A result that fits the entry goes out with it. -/
theorem State.finishCmd_short {s : State} {c : HostCmd} {st det : Nat} {res : List Byte} (hrouted : c.routed = false) (hsq : c.sq < 16)
    (hres : res.length ≤ 16) : ∃ u : State, s.finishCmd c st det res =
      u.putCq c.sq { tag := c.tag, status := st, detail := det, sqhd := c.sqhd, device := s.tree.num, rbytes := 0, res := res } ∧
      u.out = s.out := by
  have hlong : decide (16 < res.length) = false := decide_eq_false (by omega)
  refine ⟨((s.cmdAnswered c s.tree.num).stat 1).statStatus st, ?_, ?_⟩
  · simp only [State.finishCmd, State.finishMarked, State.postFinal, hrouted, hlong, hsq, Bool.not_false, Bool.true_or, Bool.false_and, if_true,
      Bool.false_eq_true, if_false]
  · rw [State.out_statStatus, State.out_stat, State.out_cmdAnswered]

/-! ### What refuses a command (R440, R445, R453) -/

/-- The checks before a started command is executed, in their order. -/
def State.screened (u : State) (d : HostCmd) (op : Nat) (f : State → HostCmd → State) : State :=
  if !u.resultFits d then u.finishCmd d 0x21 2 (leBytes 4 (u.resultLen op d.params))
  else if u.pwr.phase ≠ .ready ∧ !beforeReady op then u.finishCmd d 0x12 0 []
  else if u.bit SVC_STAT.SAFE && unsafeCmd d then u.finishCmd d 0x40 2 []
  else if u.expRefused d then u.finishCmd d 0x30 1 []
  else f u d

section Screened
variable {u : State} {d : HostCmd} {op : Nat} {f : State → HostCmd → State}

theorem State.screened_long (hfits : u.resultFits d = false) :
    u.screened d op f = u.finishCmd d 0x21 2 (leBytes 4 (u.resultLen op d.params)) := by simp [State.screened, hfits]

variable (hfits : u.resultFits d = true)
include hfits

theorem State.screened_notReady (hphase : u.pwr.phase ≠ .ready) (hlate : beforeReady op = false) :
    u.screened d op f = u.finishCmd d 0x12 0 [] := by simp [State.screened, hfits, hphase, hlate]

theorem State.screened_safe (hphase : u.pwr.phase = .ready) (hsafe : u.bit SVC_STAT.SAFE = true) (hcmd : unsafeCmd d = true) :
    u.screened d op f = u.finishCmd d 0x40 2 [] := by simp [State.screened, hfits, hphase, hsafe, hcmd]

theorem State.screened_expOff (hphase : u.pwr.phase = .ready) (hsafe : u.bit SVC_STAT.SAFE = false) (hexp : u.expRefused d = true) :
    u.screened d op f = u.finishCmd d 0x30 1 [] := by simp [State.screened, hfits, hphase, hsafe, hexp]

end Screened

section Refusals
variable {s : State} {q op : Nat} {c : HostCmd} {f : State → HostCmd → State}
  (hfind : s.host.accepted.find? (fun c => c.sq % 16 == q && s.mine c) = some c)
include hfind

/-- A row of another command leaves the queue as it is. -/
theorem State.runCmd_otherOpcode (hop : c.opcode ≠ op) : s.runCmd q op f = s := by
  simp only [State.runCmd, hfind, if_pos (show c.opcode ≠ op ∨ _ from .inl hop)]

/-- A command that may start is checked before it is executed. -/
theorem State.runCmd_starts (hop : c.opcode = op) (horder : s.orderOk c = true) (hunit : s.unitFree c = true) :
    s.runCmd q op f = (s.startCmd c).screened ((s.startCmd c).cmdNow c) op f := by
  have hstart : ¬(c.opcode ≠ op ∨ (!s.orderOk c) = true ∨ (!s.unitFree c) = true) := by simp [hop, horder, hunit]
  simp only [State.runCmd, State.screened, hfind, if_neg hstart]

end Refusals

/-- Settles O46: the bytes of an entry are read back field by field, and the checks before execution are taken in their order. -/
theorem completionsAndRefusals : Obligations.CompletionsAndRefusals := by
  unfold Obligations.CompletionsAndRefusals
  refine ⟨⟨fun e q ph hstatus hdetail hq hdevice hrbytes hsqhd => ?_, fun s q e p hp herr hd3 => ?_, fun s c st det res => ?_⟩, ?_⟩
  · exact ⟨e.length_bytes q ph, CqEntry.bytes_fields hstatus hdetail hq hdevice hrbytes hsqhd⟩
  · exact ⟨State.putCq_quiet hp herr hd3, State.putCq_failed hp herr⟩
  · exact State.finishCmd_short
  · intro s q op c f hfind u d
    refine ⟨State.runCmd_otherOpcode hfind, fun hop horder hunit => ?_⟩
    rw [State.runCmd_starts hfind hop horder hunit]
    exact ⟨State.screened_long, State.screened_notReady, State.screened_safe, State.screened_expOff⟩

end Sys2Proof.Machine
end

section
/-!
PROOFS. Device, host, pattern, axis and channel commands (Tables 15-7 and 15-8): what each does once firmware executes it, and their
obligation.
-/

namespace Sys2Proof.Machine

section Functions
variable {s : State} {c : HostCmd}

/-! ### Device commands (Table 15-7, R478) -/

theorem State.devSummary_known {b : List Byte} (h : (s.worker (prm c.params 0 1)).summary = some b) :
    s.devSummary c = s.finishCmd c 0 0 (slice b 0 1600) := by simp only [State.devSummary, h]

theorem State.devSummary_unknown (h : (s.worker (prm c.params 0 1)).summary = none) : s.devSummary c = s.finishCmd c 0x42 0x11 [] := by
  simp only [State.devSummary, h]

/-- A port that is UP already is waited for as it stands. -/
theorem State.devPort_up (hen : prm c.params 1 1 = 1) (hup : s.tierState (prm c.params 0 1) = 3) :
    s.devPort c = s.waitCmd c (.port (prm c.params 0 1) true s.dt) := by
  simp [State.devPort, hen, hup]

/-! ### Host commands (R434, R453) -/

theorem State.qCreate_exists (h : (s.qpair (prm c.params 0 1)).isSome = true) : s.qCreate c = s.finishCmd c 0x21 7 [] := if_pos h

theorem State.qCreate_new (h : (s.qpair (prm c.params 0 1)).isNone = true) : s.qCreate c =
    ((((s.setFld (SQ_TAIL.TAIL (prm c.params 0 1)) 0).setFld (CQ_HEAD.HEAD (prm c.params 0 1)) 0).setQpair (prm c.params 0 1)
      (some (newPair (prm c.params 8 8) (prm c.params 16 8) (prm c.params 2 2) (prm c.params 4 1) (prm c.params 1 1) (prm c.params 5 1)
        (prm c.params 6 2)))).finishCmd c 0 0 []) := by
  have hsome : ¬(s.qpair (prm c.params 0 1)).isSome = true := by rw [Option.isNone_iff_eq_none.mp h]; exact Bool.false_ne_true
  exact if_neg hsome

theorem State.qDelete_none (h : s.qpair (prm c.params 0 1) = none) : s.qDelete c = s.finishCmd c 0x42 0x11 [] := by
  simp only [State.qDelete, h]

theorem State.qDelete_some {x : QPair} (h : s.qpair (prm c.params 0 1) = some x) : s.qDelete c =
    (s.setQpair (prm c.params 0 1) (some { x with deleting := true })).waitCmd c (.queue (prm c.params 0 1)) := by
  simp only [State.qDelete, h]

theorem State.hostStats_keep (h : prm c.params 0 1 = 0) : s.hostStats c =
    s.finishCmd c 0 0 ((upTo 16).flatMap (fun k => leBytes 4 (Tab.get (fun _ => 0) s.host.stats k))) := by
  simp only [State.hostStats, h, Nat.zero_ne_one, if_false]

theorem State.hostLock_locked (h : s.bit HOST_STAT.BAR2_LOCKED = true) : s.hostLock c = s.finishCmd c 0x30 1 [] := if_pos h

/-- Without LOCK and EXP_OFF only the BAR2 mode is set. -/
theorem State.hostLock_mode (h : s.bit HOST_STAT.BAR2_LOCKED = false) (hplain : prm c.params 1 1 = 0) : s.hostLock c =
    ((s.setFld HOST_STAT.BAR2 (prm c.params 0 1)).setFld HOST_STAT.BAR2_LOCKED 0).finishCmd c 0 0 [] := by
  simp [State.hostLock, h, hplain, State.setBit, State.finishOk]

/-! ### Pattern commands (Table 15-8, R159) -/

theorem State.patLoad_exists {rows : List Byte} (h : s.host.patterns.any (fun e => e.1 == prm c.params 0 4) = true) :
    s.patLoad c rows = s.finishCmd c 0x21 7 [] := if_pos h

theorem State.patDrop_found {e : Nat × Nat × Nat × Nat} (h : s.host.patterns.find? (fun e => e.1 == prm c.params 0 4) = some e) :
    s.patDrop c = { s with host := { s.host with patterns := s.host.patterns.filter (fun e => e.1 != prm c.params 0 4),
                                                 dropped := s.host.dropped ++ [(e.2.1, e.2.2.2, s.dispatched)] } }.finishCmd c 0 0 [] := by
  simp only [State.patDrop, h]
  rfl

theorem State.patDrop_missing (h : s.host.patterns.any (fun e => e.1 == prm c.params 0 4) = false) : s.patDrop c = s.finishCmd c 0x42 0x11 [] := by
  have hnone : s.host.patterns.find? (fun e => e.1 == prm c.params 0 4) = none := by
    rw [List.find?_eq_none]
    exact List.any_eq_false.mp h
  simp only [State.patDrop, hnone]

theorem State.patVerify_none (h : s.host.patterns = []) : s.patVerify c = s.finishCmd c 0x42 0x11 [] := by
  simp only [State.patVerify, h, List.find?_nil]

end Functions

/-- Settles O47: a command that nothing refuses acts on the state in which it starts, by the function of its row. -/
theorem deviceHostAxisChannelCommands : Obligations.DeviceHostAxisChannelCommands := by
  unfold Obligations.DeviceHostAxisChannelCommands
  intro s u q c op h p ends
  refine ⟨?devInfo, ?devTopo, ?devReset, ?devSummary, ?devPort, ?qCreate, ?qDelete, ?hostStats, ?hostLocked, ?hostMode, ?patLoad, ?patDrop,
    ?patList, ?patVerify, ?patTable, ?axConfig, ?axPort, ?axQuery, ?chConfig, ?chEnable, ?chPartner, ?chTable, ?chTableread, ?chStats, ?chSpeed⟩
  case devInfo => exact fun hop => h.exec_eq (exec_devInfo ..) hop rfl
  case devTopo => exact fun hop => h.exec_eq (exec_devTopo ..) hop rfl
  case devReset => exact fun hop => h.exec_eq (exec_devReset ..) hop rfl
  case devSummary =>
    exact fun hop => ⟨fun b hb => h.exec_eq (exec_devSummary ..) hop (State.devSummary_known hb),
      fun hnone => h.exec_eq (exec_devSummary ..) hop (State.devSummary_unknown hnone)⟩
  case devPort => exact fun hop hen hup => h.exec_eq (exec_devPort ..) hop (State.devPort_up hen hup)
  case qCreate =>
    exact fun hop => ⟨fun hsome => h.exec_eq (exec_hostQcreate ..) hop (State.qCreate_exists hsome),
      fun hnone => h.exec_eq (exec_hostQcreate ..) hop (State.qCreate_new hnone)⟩
  case qDelete =>
    exact fun hop => ⟨fun hnone => h.exec_eq (exec_hostQdelete ..) hop (State.qDelete_none hnone),
      fun x hx => h.exec_eq (exec_hostQdelete ..) hop (State.qDelete_some hx)⟩
  case hostStats => exact fun hop hkeep => h.exec_eq (exec_hostStats ..) hop (State.hostStats_keep hkeep)
  case hostLocked => exact fun hop hlock => h.exec_eq (exec_hostLock ..) hop (State.hostLock_locked hlock)
  case hostMode => exact fun hop hfree hplain => h.exec_eq (exec_hostLock ..) hop (State.hostLock_mode hfree hplain)
  case patLoad =>
    exact fun hop rows => ⟨fun hany => h.exec_eq (exec_patLoad ..) hop (State.patLoad_exists hany), h.exec_eq (exec_patLoad ..) hop rfl⟩
  case patDrop =>
    exact fun hop => ⟨fun e he => h.exec_eq (exec_patDrop ..) hop (State.patDrop_found he),
      fun hnone => h.exec_eq (exec_patDrop ..) hop (State.patDrop_missing hnone)⟩
  case patList => exact fun hop => h.exec_eq (exec_patList ..) hop rfl
  case patVerify =>
    exact fun hop => ⟨h.exec_eq (exec_patVerify ..) hop rfl, fun hnone => h.exec_eq (exec_patVerify ..) hop (State.patVerify_none hnone)⟩
  case patTable => exact fun hop => h.exec_eq (exec_patTable ..) hop rfl
  case axConfig => exact fun hop => h.exec_eq (exec_axConfig ..) hop rfl
  case axPort => exact fun hop => h.exec_eq (exec_axPort ..) hop rfl
  case axQuery => exact fun hop => h.exec_eq (exec_axQuery ..) hop rfl
  case chConfig => exact fun hop => h.exec_eq (exec_chConfig ..) hop rfl
  case chEnable => exact fun hop => h.exec_eq (exec_chEnable ..) hop rfl
  case chPartner => exact fun hop => h.exec_eq (exec_chPartner ..) hop rfl
  case chTable => exact fun hop => h.exec_eq (exec_chTable ..) hop rfl
  case chTableread => exact fun hop => h.exec_eq (exec_chTableread ..) hop rfl
  case chStats => exact fun hop => h.exec_eq (exec_chStats ..) hop rfl
  case chSpeed => exact fun hop => h.exec_eq (exec_chSpeed ..) hop rfl

end Sys2Proof.Machine
end

section
/-!
PROOFS. Tier ports (chapter 16) under the operations that the link shares: what a fault record leaves of a port, what a commit point
leaves as it was, and what a port holds after it has sent a frame.
-/

namespace Sys2Proof.Machine

/-! ### Views that a record leaves as they were -/

/-- A view of the state that a fault record, sent to the host or up the tree, does not change. -/
structure LogBlind {α : Type} (view : State → α) : Prop where
  flds (s : State) (v) : view { s with flds := v } = view s
  host (s : State) (v) : view { s with host := v } = view s
  svc (s : State) (v) : view { s with svc := v } = view s
  out (s : State) (v) : view { s with out := v } = view s
  due (s : State) (v) : view { s with due := v } = view s
  sendMsg (s : State) (t cls mtype dest : Nat) (body : List Byte) (poison : List Nat) :
    view (s.sendMsg t cls mtype dest body poison) = view s

section LogBlind
variable {α : Type} {view : State → α} (h : LogBlind view) (s : State)
include h

theorem LogBlind.setFld (f : Fld) (v : Nat) : view (s.setFld f v) = view s := h.flds s _

theorem LogBlind.hostPut (a : Nat) (b : List Byte) : view (s.hostPut a b) = view s := by
  unfold State.hostPut
  split_ifs
  · exact h.host s _
  · exact h.out s _

theorem LogBlind.msix (v : Nat) : view (s.msix v) = view s := by
  unfold State.msix
  split_ifs
  · rfl
  · exact h.host s _
  · exact h.out s _

theorem LogBlind.logBytes (b : List Byte) : view (s.logBytes b) = view s := by
  have hdrop (s : State) : view s.logDrop = view s := (h.due _ _).trans (h.setFld ..)
  unfold State.logBytes
  split
  · rfl
  · dsimp only
    split_ifs <;> simp only [hdrop, h.msix, h.hostPut, h.due, h.host, State.addSat, h.setFld]

theorem LogBlind.recordNow (r : Record) : view (s.recordNow r) = view s := by
  have hwrite (s : State) (r : Record) : view (s.writeRecord r) = view s := by
    unfold State.writeRecord
    dsimp only
    split_ifs <;> simp only [h.sendMsg, h.logBytes, h.svc]
  exact (hwrite _ _).trans ((h.setFld ..).trans (h.svc s _))

theorem LogBlind.raiseActing (b : FaultBit) (cls act : Cls) (addr info detail : Nat) :
    view (s.raiseActing b cls act addr info detail) = view s := by
  have hcount (s : State) : view (s.countClass act) = view s := view_countClass h.setFld s act
  have hfirst : view (s.first b addr info) = view s := view_first h.setFld s b addr info
  unfold State.raiseActing State.awaitAck State.recordLater
  dsimp only
  split_ifs <;> cases act <;> simp only [h.recordNow, h.due, h.svc, hcount, h.setFld, hfirst]

/-- An occurrence of a fault changes no such view. -/
theorem LogBlind.raise (b : FaultBit) : view (s.raise b) = view s := h.raiseActing s ..

end LogBlind

theorem logBlind_num : LogBlind (fun s => s.tree.num) := by
  refine ⟨fun _ _ => rfl, fun _ _ => rfl, fun _ _ => rfl, fun _ _ => rfl, fun _ _ => rfl, fun s t cls mtype dest body poison => ?_⟩
  unfold State.sendMsg
  dsimp only
  split_ifs <;> rfl

theorem logBlind_dt : LogBlind State.dt := by
  refine ⟨fun _ _ => rfl, fun _ _ => rfl, fun _ _ => rfl, fun _ _ => rfl, fun _ _ => rfl, fun s t cls mtype dest body poison => ?_⟩
  unfold State.sendMsg
  dsimp only
  split_ifs <;> rfl

/-- A tier port without the messages that wait on it. -/
def State.portLink (s : State) (t : Nat) : TierPort := { s.tport t with msgs := [] }

theorem logBlind_portLink (t : Nat) : LogBlind (·.portLink t) := by
  refine ⟨fun _ _ => rfl, fun _ _ => rfl, fun _ _ => rfl, fun _ _ => rfl, fun _ _ => rfl, fun s u cls mtype dest body poison => ?_⟩
  unfold State.sendMsg
  dsimp only
  split_ifs
  · rfl
  · by_cases htu : t = u
    · subst htu
      exact congrArg (fun p : TierPort => { p with msgs := [] }) (State.tport_setTport_same s t _)
    · exact congrArg (fun p : TierPort => { p with msgs := [] }) (State.tport_setTport_other s _ htu)

@[simp] theorem State.dt_raise (s : State) (b : FaultBit) : (s.raise b).dt = s.dt := logBlind_dt.raise s b

@[simp] theorem State.num_raise (s : State) (b : FaultBit) : (s.raise b).tree.num = s.tree.num := logBlind_num.raise s b

@[simp] theorem State.portLink_raise (s : State) (b : FaultBit) (t : Nat) : (s.raise b).portLink t = s.portLink t := (logBlind_portLink t).raise s b

section LinkFields
variable (s : State) (b : FaultBit) (t : Nat)

@[simp] theorem State.partials_raise : ((s.raise b).tport t).partials = (s.tport t).partials := (congrArg TierPort.partials (s.portLink_raise b t) :)

@[simp] theorem State.unacked_raise : ((s.raise b).tport t).unacked = (s.tport t).unacked := (congrArg TierPort.unacked (s.portLink_raise b t) :)

@[simp] theorem State.violTimes_raise : ((s.raise b).tport t).violTimes = (s.tport t).violTimes := (congrArg TierPort.violTimes (s.portLink_raise b t) :)

@[simp] theorem State.attempt_raise : ((s.raise b).tport t).attempt = (s.tport t).attempt := (congrArg TierPort.attempt (s.portLink_raise b t) :)

end LinkFields

/-! ### Port states (Table 16-2) -/

section States
variable (s : State) (t : Fin 8)

/-- The faults of a port do not move its state. -/
theorem State.tierState_raise_retrain : (s.raise (Flt.TIER_RETRAIN t.val)).tierState t.val = s.tierState t.val := by
  have hapart : ∀ t : Fin 8, (TIER_STAT.STATE t.val).apart recordFlds ∧ (TIER_STAT.STATE t.val).key ≠ (Flt.TIER_RETRAIN t.val).fld.key ∧
    (TIER_STAT.STATE t.val).apart (Flt.TIER_RETRAIN t.val).firstFlds := by decide
  obtain ⟨hrec, hbit, hfirst⟩ := hapart t
  exact s.fld_raise_other hrec hbit hfirst

theorem State.tierState_raise_linkerr : (s.raise (Flt.TIER_LINKERR t.val)).tierState t.val = s.tierState t.val := by
  have hapart : ∀ t : Fin 8, (TIER_STAT.STATE t.val).apart recordFlds ∧ (TIER_STAT.STATE t.val).key ≠ (Flt.TIER_LINKERR t.val).fld.key ∧
    (TIER_STAT.STATE t.val).apart (Flt.TIER_LINKERR t.val).firstFlds := by decide
  obtain ⟨hrec, hbit, hfirst⟩ := hapart t
  exact s.fld_raise_other hrec hbit hfirst

end States

section PortState
variable (s : State) (t : Nat)

theorem State.tierState_setTier {st : Nat} (h : st < 8) : (s.setTier t st).tierState t = st :=
  (s.fld_setFld_same _ st).trans (Nat.mod_eq_of_lt h)

@[simp] theorem State.tierState_setTport (u : Nat) (p : TierPort) : (s.setTport u p).tierState t = s.tierState t := rfl

@[simp] theorem State.tport_setTier (st k : Nat) : (s.setTier t st).tport k = s.tport k := rfl

theorem State.tport_withTree (x : TreeSt) : { s with tree := x }.tport t = s.tport t := rfl

@[simp] theorem State.upPort_setTport (u : Nat) (p : TierPort) : (s.setTport u p).upPort t = s.upPort t := rfl

end PortState

/-! ### Commit points and frames sent -/

section Commit
variable {α : Type} {view : State → α} (hflds : ∀ (s : State) (v), view { s with flds := v } = view s)
  (hstaged : ∀ (s : State) (v), view { s with staged := v } = view s) (s : State)
include hflds hstaged

theorem view_apply (f : Fld) : view (s.apply f) = view s := by
  unfold State.apply
  split
  · rfl
  · exact (hstaged _ _).trans (hflds _ _)

theorem view_applyStaged (p : Nat → Bool) : view (s.applyStaged p) = view s :=
  foldl_keeps view (fun s e => by
    split
    · split_ifs
      · exact view_apply hflds hstaged s _
      · rfl
    · rfl) s.staged s

theorem view_routePoint (t : Nat) : view (s.routePoint t) = view s := by
  have hset (s : State) (f : Fld) (v : Nat) : view (s.setFld f v) = view s := hflds s _
  have hstage (s : State) : view ((upTo 8).foldl (fun s u => (s.stage (TIER_ROUTE_LO.ROUTE u) none).stage (TIER_ROUTE_HI.ROUTE u) none) s) = view s :=
    foldl_keeps view (fun s u => (hstaged _ _).trans (hstaged s _)) _ s
  have happly (s : State) : view ((upTo 8).foldl (fun (s : State) u =>
      if u = t ∨ !s.tierSends u then (s.apply (TIER_ROUTE_LO.ROUTE u)).apply (TIER_ROUTE_HI.ROUTE u) else s) s) = view s :=
    foldl_keeps view (fun s u => by
      split_ifs
      · exact (view_apply hflds hstaged _ _).trans (view_apply hflds hstaged s _)
      · rfl) _ s
  unfold State.routePoint
  dsimp only
  split_ifs <;> simp only [hset, hstage, happly]

/-- The commit point of a port changes fields and staged values only. -/
theorem view_tierPoint (t : Nat) : view (s.tierPoint t) = view s :=
  (view_routePoint hflds hstaged _ t).trans (view_applyStaged hflds hstaged s _)

end Commit

section Frames
variable (s : State) (t : Nat)

@[simp] theorem State.tport_tierPoint (k : Nat) : (s.tierPoint t).tport k = s.tport k :=
  view_tierPoint (view := (·.tport k)) (fun _ _ => rfl) (fun _ _ => rfl) s t

@[simp] theorem State.tport_putTier (f : Frame) : (s.putTier t f).tport t = { s.tport t with ackDue := false, lastTx := s.dt } := by
  simp only [State.putTier, State.tport_tierPoint, State.tport_emit, State.tport_setTport_same]

end Frames

end Sys2Proof.Machine
end

section
/-!
PROOFS. Link-up, retraining and enabling of a tier port (R460, R464, R465): what each event makes of the port, and the obligation of
link-up.
-/

namespace Sys2Proof.Machine

/-! ### Attempts and episodes (R464, R465) -/

section Attempt
variable (s : State) (t : Nat)

theorem State.tport_tierAttempt : (s.tierAttempt t).tport t =
    { s.tport t with attempt := some s.dt, retryAt := none, helloOk := false, lastHello := none,
                     newEpoch := if (s.tport t).firstUp then (s.tport t).epoch + 1 else 0 } := by
  unfold State.tierAttempt
  dsimp only
  split_ifs <;> simp only [State.tport_setTier, State.tport_setTport_same]

/-- An attempt leaves the state of a port without block lock, and of one in a retrain episode. -/
theorem State.tierState_tierAttempt (h : (s.tport t).lock = false ∨ s.tierState t ≠ 1) : (s.tierAttempt t).tierState t = s.tierState t := by
  have hstay : ((s.tport t).lock && s.tierState t == 1) = false := by
    rcases h with h | h <;> simp [h]
  unfold State.tierAttempt
  dsimp only
  rw [State.tierState_setTport, hstay, if_neg Bool.false_ne_true, State.tierState_setTport]

theorem State.fld_tierAttempt_other {f : Fld} (h : f.key ≠ (TIER_STAT.STATE t).key) : (s.tierAttempt t).fld f = s.fld f := by
  unfold State.tierAttempt
  dsimp only
  split_ifs <;> simp only [State.setTier, State.fld_setFld_other _ _ h, State.fld_setTport]

/-- The state in which the attempt of a retrain episode begins. -/
def State.episodeBegun (s : State) (t : Nat) : State :=
  let r := s.raise (Flt.TIER_RETRAIN t)
  ((r.setTier t 4).setFld (TIER_STAT.RTR_TRY t) 0).setTport t { r.tport t with episode := some r.dt, resend := [] }

theorem State.tierEpisode_eq : s.tierEpisode t = (s.episodeBegun t).tierAttempt t := rfl

theorem State.tierState_episodeBegun : (s.episodeBegun t).tierState t = 4 := by
  refine (State.fld_setFld_other _ _ ?_).trans (State.tierState_setTier _ t (by decide))
  simp only [Fld.key, TIER_STAT.STATE, TIER_STAT.RTR_TRY]
  omega

/-- A retrain episode (R465): it begins with an attempt, its tries count from 0, and what was received or sent stays. -/
theorem State.tierEpisode_leaves :
    (s.tierEpisode t).tierState t = 4 ∧ (s.tierEpisode t).fld (TIER_STAT.RTR_TRY t) = 0 ∧ ((s.tierEpisode t).tport t).episode.isSome = true ∧
    ((s.tierEpisode t).tport t).partials = (s.tport t).partials ∧ ((s.tierEpisode t).tport t).unacked = (s.tport t).unacked ∧
    ((s.tierEpisode t).tport t).attempt = some s.dt := by
  have hstate := s.tierState_episodeBegun t
  have hport : (s.episodeBegun t).tport t = { (s.raise (Flt.TIER_RETRAIN t)).tport t with episode := some s.dt, resend := [] } := by
    rw [State.episodeBegun, State.tport_setTport_same, State.dt_raise]
  rw [State.tierEpisode_eq]
  refine ⟨?state, ?tries, ?_⟩
  case state => rw [State.tierState_tierAttempt _ _ (.inr (by rw [hstate]; decide)), hstate]
  case tries =>
    rw [State.fld_tierAttempt_other]
    · exact State.fld_setFld_same ..
    · simp only [Fld.key, TIER_STAT.STATE, TIER_STAT.RTR_TRY]
      omega
  rw [State.tport_tierAttempt, hport]
  exact ⟨rfl, s.partials_raise _ t, s.unacked_raise _ t, congrArg some (s.dt_raise _)⟩

end Attempt

/-! ### Enabling a port, and block lock (R460, R465) -/

section Enable
variable {s : State} {t : Nat}

/-- The port as TIER_CTL.EN leaves it before its first attempt. -/
def State.portFresh (s : State) (t : Nat) : State :=
  let s := s.setTport t { TierPort.init with lastTx := s.dt, lastRx := s.dt, bootTries := (s.tport t).bootTries }
  (((s.setFld (TIER_CTL.EN t) 1).setFld (TIER_STAT.RTR_TRY t) 0).setBit (TIER_STAT.UP_PORT t) (s.upPort t)).setTier t 1

theorem State.tport_portFresh : (s.portFresh t).tport t =
    { TierPort.init with lastTx := s.dt, lastRx := s.dt, bootTries := (s.tport t).bootTries } := by
  simp only [State.portFresh, State.tport_setTier, State.setBit, State.tport_setFld, State.tport_setTport_same]

theorem State.tierOn_allowed (hen : s.bit (TIER_CTL.EN t) = false) (hallowed : s.portAllowed t = true) :
    s.tierOn t = (s.portFresh t).tierAttempt t := by
  simp only [State.tierOn, hen, hallowed, Bool.false_and, Bool.false_eq_true, if_false, Bool.not_true]
  rfl

theorem State.tierOn_refused (hen : s.bit (TIER_CTL.EN t) = false) (hallowed : s.portAllowed t = false) :
    s.tierOn t = s.setFld (TIER_STAT.CFG_REJECT t) 1 := by
  simp only [State.tierOn, hen, hallowed, Bool.false_and, Bool.false_eq_true, if_false, Bool.not_false, if_true]

/-- A port that is enabled waits for block lock, in a first attempt, with nothing sent or received. -/
theorem State.tierOn_leaves (hen : s.bit (TIER_CTL.EN t) = false) (hallowed : s.portAllowed t = true) :
    (s.tierOn t).tierState t = 1 ∧ (s.tierOn t).bit (TIER_CTL.EN t) = true ∧ ((s.tierOn t).tport t).attempt = some s.dt ∧
    ((s.tierOn t).tport t).unacked = [] ∧ ((s.tierOn t).tport t).txNext = 0 ∧ ((s.tierOn t).tport t).rxNext = 0 := by
  rw [State.tierOn_allowed hen hallowed, State.tierState_tierAttempt _ _ (.inl (by rw [State.tport_portFresh]; rfl)), State.tport_tierAttempt,
    State.tport_portFresh]
  refine ⟨State.tierState_setTier _ t (by decide), ?enabled, rfl, rfl, rfl, rfl⟩
  have hkey (lo : Nat) (hlo : lo < 32) : (TIER_CTL.EN t).key ≠ 32 * TIER_STAT.addr t + lo := by
    simp only [Fld.key, TIER_CTL.EN, TIER_CTL.addr, TIER_STAT.addr]
    omega
  rw [State.bit, State.fld_tierAttempt_other _ _ (hkey 26 (by decide))]
  simp only [State.portFresh, State.setTier, State.setBit]
  rw [State.fld_setFld_other _ _ (hkey 26 (by decide)), State.fld_setFld_other _ _ (hkey 25 (by decide)),
    State.fld_setFld_other _ _ (hkey 17 (by decide)), State.fld_setFld_same]
  rfl

variable (s t) in
theorem State.tierOff_leaves : (s.tierOff t).tierState t = 0 ∧ (s.tierOff t).bit (TIER_CTL.EN t) = false ∧
    ((s.tierOff t).tport t).unacked = [] ∧ ((s.tierOff t).tport t).msgs = [] := by
  have hport : (s.tierOff t).tport t = { TierPort.init with peerSerial := (s.tport t).peerSerial, peerFw := (s.tport t).peerFw } := by
    simp only [State.tierOff, State.tport_setTier, State.tport_setFld, State.tport_setTport_same]
  rw [hport]
  refine ⟨State.tierState_setTier _ t (by decide), ?_, rfl, rfl⟩
  rw [State.tierOff, State.setTier, State.bit_setFld_other, State.bit_setFld_same _ 0 rfl]
  · rfl
  · simp only [Fld.key, TIER_CTL.EN, TIER_CTL.addr, TIER_STAT.STATE, TIER_STAT.addr]
    omega

section Lock
variable (hattempt : (s.tport t).attempt.isSome = true) (hlock : (s.tport t).lock = false)
include hattempt hlock

/-- Block lock gained in an attempt of link-up: the HELLO exchange begins. -/
theorem State.lockGained_linkUp (hst : s.tierState t = 1) : (s.lockGained t).tierState t = 2 ∧ ((s.lockGained t).tport t).lock = true := by
  have heq : s.lockGained t = (s.setTport t { s.tport t with lock := true, lastHello := none }).setTier t 2 := by
    simp [State.lockGained, hattempt, hlock, hst]
  rw [heq]
  exact ⟨State.tierState_setTier _ t (by decide), by rw [State.tport_setTier, State.tport_setTport_same]⟩

omit hattempt in
theorem State.lockGained_retrain (hst : s.tierState t = 4) :
    s.lockGained t = s.setTport t { s.tport t with lock := true, lastHello := none } := by
  simp [State.lockGained, hlock, hst]

end Lock

theorem State.lockLost_hello (hst : s.tierState t = 2) : (s.lockLost t).tierState t = 1 ∧ ((s.lockLost t).tport t).lock = false := by
  have heq : s.lockLost t = (s.setTport t { s.tport t with lock := false }).setTier t 1 := by
    simp only [State.lockLost, State.tierState_setTport, hst]
  rw [heq]
  exact ⟨State.tierState_setTier _ t (by decide), by rw [State.tport_setTier, State.tport_setTport_same]⟩

theorem State.lockLost_up (hst : s.tierState t = 3) : s.lockLost t = (s.setTport t { s.tport t with lock := false }).tierEpisode t := by
  simp only [State.lockLost, State.tierState_setTport, hst]

end Enable

/-! ### HELLO frames (R464, Table 16-6) -/

section Hello
variable {s : State} {t : Nat}

theorem State.tierHelloTimer_due (hst : s.tierState t = 2) (hdue : ∀ a, (s.tport t).lastHello = some a → elapsed s.dt a (usTicks 10) = true)
    (hmay : s.upPort t = false ∨ (s.tport t).helloOk = true ∨ (s.tport t).firstUp = true) : s.tierHelloTimer t = s.sendTierHello t := by
  have hmay' : (!s.upPort t || (s.tport t).helloOk || (s.tport t).firstUp) = true := by
    rcases hmay with h | h | h <;> simp [h]
  have hdue' : (match (s.tport t).lastHello with | none => true | some a => elapsed s.dt a (usTicks 10)) = true := by
    cases hlast : (s.tport t).lastHello with
    | none => rfl
    | some a => exact hdue a hlast
  unfold State.tierHelloTimer
  simp only [hst, hmay', beq_self_eq_true, Bool.true_or, Bool.true_and, Bool.and_true]
  exact if_pos hdue'

/-- The port as the sending of a HELLO leaves it. -/
def State.helloSent (s : State) (t : Nat) : State :=
  s.setTport t { s.tport t with lastHello := some s.dt, ackDue := false, lastTx := s.dt }

variable (s t) in
theorem State.length_tierHello : (s.tierHello t).length = 64 := by
  simp only [State.tierHello, List.length_append, length_leBytes, length_zeros, List.length_singleton]

variable (s t) in
theorem State.sendTierHello_eq : s.sendTierHello t = (State.emit (s.helloSent t) (.tier t
    ((s.helloSent t).mkTier t 1 0 0 false ((s.helloSent t).tierHello t)))).tierPoint t := by
  simp only [State.sendTierHello, State.putTier, State.helloSent, State.setTport_setTport, State.dt_setTport, State.mkTier, State.tierHello,
    State.tport_setTport_same]
  rfl

variable (s t) in
theorem State.tport_sendTierHello : (s.sendTierHello t).tport t = { s.tport t with lastHello := some s.dt, ackDue := false, lastTx := s.dt } := by
  simp only [State.sendTierHello, State.tport_putTier, State.tport_setTport_same, State.dt_setTport]

/-- Outside UP a good HELLO in an attempt is taken. -/
theorem State.tierIn_hello {f : Frame} (htype : f.type = 1) (hst : s.tierState t = 2 ∨ s.tierState t = 4)
    (hattempt : (s.tport t).attempt.isSome = true) (hgood : frameGood f = true) : s.tierIn t f = s.takeTierHello t f false := by
  have hrx : s.tierRx t f = (none, s.takeTierHello t f false) := by
    rcases hst with h | h <;> simp [State.tierRx, h, hgood, htype, hattempt]
  have hdata : (f.type == 2) = false := by rw [htype]; rfl
  simp only [State.tierIn, hrx, hdata, Bool.and_false, Bool.false_and, Bool.false_eq_true, if_false]

theorem State.takeTierHello_refused {f : Frame} (h : s.tierRefuses t f = true) : s.takeTierHello t f false = s.tierFails t := if_pos h

/-- A HELLO that is not refused: the port keeps what the peer says and is UP. -/
theorem State.takeTierHello_accepted {f : Frame} (h : s.tierRefuses t f = false) : ∃ u : State, s.takeTierHello t f false = u.tierUp t ∧
    (u.tport t).helloOk = true ∧ (u.tport t).prevAck = BitVec.ofNat 16 (leAt f.payload 4 2) ∧
    (u.tport t).peerFw = BitVec.ofNat 32 (leAt f.payload 20 4) := by
  unfold State.takeTierHello
  rw [h, if_neg Bool.false_ne_true]
  dsimp only
  refine ⟨_, rfl, ?_⟩
  cases s.upPort t <;>
    simp only [if_true, if_false, Bool.or_false, Bool.false_eq_true, State.tport_sendTierHello, State.tport_setFld, State.tport_withTree,
      State.tport_setTport_same, and_self]

end Hello

/-! ### UP, and attempts that fail (R464, R465) -/

section Ends
variable (s : State) (t : Nat)

/-- The number of frames that the peer's HELLO acknowledges. -/
def TierPort.peerHas (p : TierPort) : Nat :=
  if !p.prevValid then 0
  else match p.unacked with
    | [] => 0
    | o :: _ => let d := (p.prevAck - o.seq).toNat + 1; if d ≤ p.unacked.length then d else 0

/-- A port at the begin of a new epoch. -/
def TierPort.restarted (p : TierPort) (now : Word) : TierPort :=
  { p with
    unacked := [], carry := (p.unacked.drop p.peerHas).map (fun e => (e.route, e.payload)) ++ p.carry, resend := [], rxNext := 0,
    rxAny := false, txNext := 0, attempt := none, helloOk := false, retryAt := none, episode := none, firstUp := true, violTimes := [],
    lastRx := now, ackDue := false, nakDue := false, epoch := p.newEpoch }

theorem State.tport_tierUp : (s.tierUp t).tport t = (s.tport t).restarted s.dt := s.tport_setTport_same t _

/-- A port that reaches UP begins a new epoch, with nothing sent; what its peer did not acknowledge is sent again. -/
theorem State.tierUp_leaves : (s.tierUp t).tierState t = 3 ∧ ((s.tierUp t).tport t).epoch = (s.tport t).newEpoch ∧
    ((s.tierUp t).tport t).txNext = 0 ∧ ((s.tierUp t).tport t).rxNext = 0 ∧ ((s.tierUp t).tport t).unacked = [] ∧
    ((s.tierUp t).tport t).attempt = none ∧
    ((s.tport t).prevValid = false →
      ((s.tierUp t).tport t).carry = (s.tport t).unacked.map (fun e => (e.route, e.payload)) ++ (s.tport t).carry) := by
  rw [State.tport_tierUp]
  refine ⟨State.tierState_setTier _ t (by decide), rfl, rfl, rfl, rfl, rfl, fun hvalid => ?_⟩
  simp [TierPort.restarted, TierPort.peerHas, hvalid]

variable {s t}

theorem State.tierTimeout_due {a : Word} (ha : (s.tport t).attempt = some a) (ht : elapsed s.dt a (usTicks 500) = true) :
    s.tierTimeout t = s.tierFails t := by
  simp only [State.tierTimeout, ha, ht, if_true]

/-- A failed attempt of link-up is tried again after 100 µs. -/
theorem State.tierFails_linkUp (he : (s.tport t).episode = none) : (s.tierFails t).tierState t = 1 ∧
    ((s.tierFails t).tport t).retryAt = some (s.dt + BitVec.ofNat 64 (usTicks 100)) := by
  simp only [State.tierFails, he, Option.isSome_none, Bool.false_eq_true, if_false, State.tport_setTport_same, State.tierState_setTport]
  exact ⟨State.tierState_setTier _ t (by decide), rfl⟩

/-- The third failed attempt of an episode takes the port DOWN. -/
theorem State.tierFails_third (he : (s.tport t).episode.isSome = true) (htries : 2 ≤ s.fld (TIER_STAT.RTR_TRY t)) :
    ∃ u : State, s.tierFails t = u.raise (Flt.TIER_DOWN t) ∧ (u.tport t).attempt = none := by
  refine ⟨(s.setFld (TIER_STAT.RTR_TRY t) (min 3 (s.fld (TIER_STAT.RTR_TRY t) + 1))).setTport t
    { s.tport t with attempt := none, retryAt := none }, ?_, by rw [State.tport_setTport_same]⟩
  simp only [State.tierFails, he, if_true]
  rw [if_pos (by omega)]
  rfl

theorem State.tierRetry_due {a : Word} (ha : (s.tport t).retryAt = some a) (hst : s.tierState t = 1 ∨ s.tierState t = 4)
    (ht : dtGe s.dt a = true) : s.tierRetry t = s.tierAttempt t := by
  simp only [State.tierRetry, ha]
  exact if_pos ⟨hst, ht⟩

end Ends

/-- Settles O49: each row is one event of the port, and the lemmas above say what it makes of it. -/
theorem tierLinkUp : Obligations.TierLinkUp := by
  unfold Obligations.TierLinkUp
  intro s t hp p st
  refine ⟨?enable, ?refused, ?disable, ?lock, ?lossHello, ?lossUp, s.tierEpisode_leaves t.val, ?timer, ?send, ?hello, s.tierUp_leaves t.val,
    ?timeout, State.tierFails_linkUp, State.tierFails_third, ?retry⟩
  case enable =>
    intro hen hallowed
    exact ⟨_, (exec_tierEnable t true s).trans (run_eq hp (State.enWrite_changed hen)), State.tierOn_leaves hen hallowed⟩
  case refused =>
    intro hen hallowed
    exact (exec_tierEnable t true s).trans (run_eq hp ((State.enWrite_changed hen).trans (State.tierOn_refused hen hallowed)))
  case disable =>
    intro hen
    exact ⟨_, (exec_tierEnable t false s).trans (run_eq hp (State.enWrite_changed hen)), s.tierOff_leaves t.val⟩
  case lock =>
    intro hattempt hlock
    exact ⟨fun hst => ⟨_, (exec_blockLock t s).trans (run_eq hp rfl), State.lockGained_linkUp hattempt hlock hst⟩,
      fun hst => (exec_blockLock t s).trans (run_eq hp (State.lockGained_retrain hlock hst))⟩
  case lossHello =>
    intro hst
    exact ⟨_, (exec_blockLockLoss t s).trans (run_eq hp rfl), State.lockLost_hello hst⟩
  case lossUp =>
    intro hst
    exact (exec_blockLockLoss t s).trans (run_eq hp (State.lockLost_up hst))
  case timer =>
    intro hst hdue hmay
    exact (exec_tierHelloTimer t s).trans (run_eq hp (State.tierHelloTimer_due hst hdue hmay))
  case send =>
    exact ⟨s.helloSent t.val, s.sendTierHello_eq t.val, State.length_tierHello _ _, by rw [State.helloSent, State.tport_setTport_same]⟩
  case hello =>
    intro f htype hst hattempt hgood
    have hrow (u : State) (hu : s.takeTierHello t.val f false = u) : exec (.tierRxHello t f) s = .next (settle s u) :=
      (exec_tierRxHello t f s).trans (run_eq hp ((if_pos htype).trans ((State.tierIn_hello htype hst hattempt hgood).trans hu)))
    refine ⟨fun hrefused => hrow _ (State.takeTierHello_refused hrefused), fun htaken => ?_⟩
    obtain ⟨u, hu, hfields⟩ := State.takeTierHello_accepted htaken
    exact ⟨u, hrow _ hu, hfields⟩
  case timeout =>
    intro a ha ht
    exact (exec_tierAttemptTimeout t s).trans (run_eq hp (State.tierTimeout_due ha ht))
  case retry =>
    intro a ha hst ht
    refine ⟨_, (exec_tierRetrainAttempt t s).trans (run_eq hp (State.tierRetry_due ha hst ht)), ?_⟩
    rw [State.tport_tierAttempt]
    exact ⟨rfl, rfl⟩

end Sys2Proof.Machine
end

section
/-!
PROOFS. Sequencing, routes and SAFE on a tier port (R44 to R46, R461, R463, R465, R468, R473): what a received frame, a timer and the
transmitter make of the port, and the obligation of sequencing, routes and SAFE.
-/

namespace Sys2Proof.Machine

/-! ### What a received frame means (R461, Table 16-3) -/

section Receive
variable {s u : State} {t : Nat} {f : Frame}

/-- A frame that is not DATA acts by its reception alone. -/
theorem State.tierIn_of_notData (hrx : s.tierRx t f = (none, u)) (htype : f.type ≠ 2) : s.tierIn t f = u := by
  have hdata : (f.type == 2) = false := beq_eq_false_iff_ne.mpr htype
  simp only [State.tierIn, hrx, hdata, Bool.and_false, Bool.false_and, Bool.false_eq_true, if_false]

/-- A fragment for another device acts by its reception alone. -/
theorem State.tierIn_of_relay (hrx : s.tierRx t f = (none, u)) (hroute : f.route.toNat % 64 ≠ u.tree.num) : s.tierIn t f = u := by
  have hmine : (f.route.toNat % 64 == u.tree.num) = false := beq_eq_false_iff_ne.mpr hroute
  simp only [State.tierIn, hrx, hmine, Bool.and_false, Bool.false_and, Bool.false_eq_true, if_false]

variable (hst : s.tierState t = 3) (hgood : frameGood f = true)
include hst hgood

theorem State.tierRx_up : s.tierRx t f = s.tierLink t f := by simp only [State.tierRx, hst, hgood, if_true]

theorem State.tierIn_violation (hbad : s.tierBad t f = true) (htype : f.type ≠ 2) : s.tierIn t f = s.tierViolation t :=
  State.tierIn_of_notData ((State.tierRx_up hst hgood).trans (if_pos hbad)) htype

variable (hbad : s.tierBad t f = false)
include hbad

/-- ACK and IDLE carry an acknowledgement. -/
theorem State.tierIn_ack (hackv : f.ackv = true) (htype : f.type = 3 ∨ f.type = 0) :
    s.tierIn t f = (s.setTport t { s.tport t with lastRx := s.dt }).tierAck t f.ackSeq := by
  refine State.tierIn_of_notData ((State.tierRx_up hst hgood).trans ?_) (by rcases htype with h | h <;> rw [h] <;> decide)
  rcases htype with htype | htype <;>
    simp [State.tierLink, hbad, htype, hackv]

/-- A NAK acknowledges what came before the frame it asks for, and starts a resend at that frame. -/
theorem State.tierIn_nak (hackv : f.ackv = true) (htype : f.type = 4) : s.tierIn t f =
    ((s.setTport t { s.tport t with lastRx := s.dt }).tierAck t f.ackSeq).tierResend t (f.ackSeq + 1) := by
  refine State.tierIn_of_notData ((State.tierRx_up hst hgood).trans ?_) (by rw [htype]; decide)
  simp [State.tierLink, hbad, htype, hackv]

omit hgood in
/-- A DATA frame without an acknowledgement, by its place in the sequence. -/
theorem State.tierLink_data (htype : f.type = 2) (hackv : f.ackv = false) : s.tierLink t f =
    if (f.seq - (s.tport t).rxNext).toNat = 0 then
      (s.setTport t { s.tport t with lastRx := s.dt, rxNext := (s.tport t).rxNext + 1, rxAny := true, ackDue := true }).tierData t f
    else if (f.seq - (s.tport t).rxNext).toNat ≤ 31 then (none, s.setTport t { s.tport t with lastRx := s.dt, nakDue := true })
    else (none, s.setTport t { s.tport t with lastRx := s.dt, ackDue := true }) := by
  simp [State.tierLink, hbad, htype, hackv, hst]

end Receive

/-! ### Routes (R468) -/

section Route
variable {s : State} {t : Nat} {r : BitVec 16} {b : List Byte}

theorem State.num_tierForward : (s.tierForward t r b).tree.num = s.tree.num := by
  unfold State.tierForward
  dsimp only
  split_ifs <;> split <;> simp

variable (hb : leAt b 0 1 ≠ 9)
include hb

/-- A fragment other than a NOTICE only goes on. -/
theorem State.tierForward_routed {u : Nat} (hu : s.routePort (r.toNat % 64) = some u) :
    s.tierForward t r b = s.setTport u { s.tport u with relay := (s.tport u).relay ++ [(r, b)] } := by
  simp only [State.tierForward, beq_eq_false_iff_ne.mpr hb, Bool.and_false, Bool.false_and, Bool.false_eq_true, if_false, hu]

theorem State.tierForward_up (hnone : s.routePort (r.toNat % 64) = none) (hw : s.isWorker = true) :
    s.tierForward t r b = s.setTport 0 { s.tport 0 with relay := (s.tport 0).relay ++ [(r, b)] } := by
  simp only [State.tierForward, beq_eq_false_iff_ne.mpr hb, Bool.and_false, Bool.false_and, Bool.false_eq_true, if_false, hnone, hw, if_true]

theorem State.tierForward_drop (hnone : s.routePort (r.toNat % 64) = none) (hw : s.isWorker = false) :
    s.tierForward t r b = s.raise (Flt.TIER_ROUTE_DROP t) := by
  simp only [State.tierForward, beq_eq_false_iff_ne.mpr hb, Bool.and_false, Bool.false_and, Bool.false_eq_true, if_false, hnone, hw]

end Route

section Relay
variable {s : State} {t : Nat} {f : Frame} (hst : s.tierState t = 3) (hgood : frameGood f = true) (hbad : s.tierBad t f = false)
  (htype : f.type = 2) (hackv : f.ackv = false) (hroute : f.route.toNat % 64 ≠ s.tree.num)
include hst hgood hbad htype hackv hroute

/-- The next fragment in order goes on by its route. -/
theorem State.tierIn_relay (hseq : f.seq = (s.tport t).rxNext) : s.tierIn t f =
    (s.setTport t { s.tport t with lastRx := s.dt, rxNext := (s.tport t).rxNext + 1, rxAny := true, ackDue := true }).tierForward t f.route f.payload := by
  have hzero : (f.seq - (s.tport t).rxNext).toNat = 0 := by simp [hseq]
  refine State.tierIn_of_relay ((State.tierRx_up hst hgood).trans ?_) (by rw [State.num_tierForward]; exact hroute)
  rw [State.tierLink_data hst hbad htype hackv, if_pos hzero, State.tierData]
  exact if_neg hroute

/-- A fragment ahead of the sequence asks for a NAK. -/
theorem State.tierIn_gap (hlo : 1 ≤ (f.seq - (s.tport t).rxNext).toNat) (hhi : (f.seq - (s.tport t).rxNext).toNat ≤ 31) :
    s.tierIn t f = s.setTport t { s.tport t with lastRx := s.dt, nakDue := true } := by
  refine State.tierIn_of_relay ((State.tierRx_up hst hgood).trans ?_) hroute
  rw [State.tierLink_data hst hbad htype hackv, if_neg (by omega), if_pos hhi]

/-- A fragment that came before asks for an ACK. -/
theorem State.tierIn_duplicate (hfar : 32 ≤ (f.seq - (s.tport t).rxNext).toNat) :
    s.tierIn t f = s.setTport t { s.tport t with lastRx := s.dt, ackDue := true } := by
  refine State.tierIn_of_relay ((State.tierRx_up hst hgood).trans ?_) hroute
  rw [State.tierLink_data hst hbad htype hackv, if_neg (by omega), if_neg (by omega)]

end Relay

/-! ### Acknowledgement, resend and damage (R125 to R127, R461) -/

section Sequence
variable {s : State} {t : Nat} {q : BitVec 16}

/-- A cumulative acknowledgement releases the frames up to the one it names. -/
theorem State.unacked_tierAck {a : BitVec 16} {o : TierFrame} {rest : List TierFrame} (h : (s.tport t).unacked = o :: rest)
    (hk : (a - o.seq).toNat + 1 ≤ (s.tport t).unacked.length) :
    ((s.tierAck t a).tport t).unacked = (s.tport t).unacked.drop ((a - o.seq).toNat + 1) := by
  simp only [State.tierAck, h] at hk ⊢
  rw [if_neg (by omega), State.tport_setTport_same]

section Found
variable {e : TierFrame} (hfind : (s.tport t).unacked.find? (fun e => e.seq == q) = some e)
  (hidle : (s.tport t).resend = [] ∨ 32 ≤ (q - (s.tport t).resendAt).toNat)
include hfind hidle

theorem State.tierResend_starts : s.tierResend t q =
    if 7 ≤ e.resends then s.tierEpisode t
    else s.setTport t { s.tport t with
      resendAt := q, resend := ((s.tport t).unacked.filter (fun x => decide ((x.seq - q).toNat < 32))).map (·.seq) } := by
  have hno : ¬((s.tport t).resend ≠ [] ∧ (q - (s.tport t).resendAt).toNat < 32) := by
    rintro ⟨hne, hlt⟩
    rcases hidle with h | h
    · exact hne h
    · omega
  simp only [State.tierResend, hfind, if_neg hno]

theorem State.tierResend_episode (h7 : 7 ≤ e.resends) : s.tierResend t q = s.tierEpisode t := by
  rw [State.tierResend_starts hfind hidle, if_pos h7]

theorem State.tierResend_window (h7 : e.resends < 7) : ((s.tierResend t q).tport t).resend =
    ((s.tport t).unacked.filter (fun x => decide ((x.seq - q).toNat < 32))).map (·.seq) := by
  rw [State.tierResend_starts hfind hidle, if_neg (by omega), State.tport_setTport_same]

end Found

/-- A resend in progress covers a further demand inside its window. -/
theorem State.tierResend_covered (hres : (s.tport t).resend ≠ []) (hlt : (q - (s.tport t).resendAt).toNat < 32) : s.tierResend t q = s := by
  unfold State.tierResend
  dsimp only
  split
  · rfl
  · exact if_pos ⟨hres, hlt⟩

theorem State.tierResendTimeout_due {e : TierFrame} {rest : List TierFrame} (hst : s.tierState t = 3) (h : (s.tport t).unacked = e :: rest)
    (ht : elapsed s.dt e.sentAt (usTicks (s.fld (TIER_CTL.RESEND_TMO t))) = true) : s.tierResendTimeout t = s.tierResend t e.seq := by
  simp only [State.tierResendTimeout, h]
  exact if_pos ⟨hst, ht⟩

theorem State.tierSilence_due (hst : s.tierState t = 3) (ht : elapsed s.dt (s.tport t).lastRx (usTicks 40) = true) :
    s.tierSilence t = s.tierEpisode t := if_pos ⟨hst, ht⟩

theorem State.tierRxBad_abort (hst : s.tierState t = 3) : s.tierRxBad t .abort = s.raise (Flt.TIER_LINKERR t) := by
  simp [State.tierRxBad, hst]

/-- A damaged frame is asked for again. -/
theorem State.tierRxBad_nak {t : Fin 8} {k : BadFrame} (hst : s.tierState t.val = 3) (hk : k ≠ .abort) : s.tierRxBad t.val k =
    (s.raise (Flt.TIER_LINKERR t.val)).setTport t.val { (s.raise (Flt.TIER_LINKERR t.val)).tport t.val with nakDue := true } := by
  simp [State.tierRxBad, hst, State.tierState_raise_linkerr, hk]

/-- A violation among fewer than 16 is counted and its time kept. -/
theorem State.tierViolation_counts (hst : s.tierState t = 3) (hfew : (s.tport t).violTimes.length < 15) :
    s.tierViolation t = ((s.addSat (TIER_STAT.VIOL t) 1).raise (Flt.TIER_VIOL t)).setTport t
      { ((s.addSat (TIER_STAT.VIOL t) 1).raise (Flt.TIER_VIOL t)).tport t with violTimes := s.dt :: (s.tport t).violTimes } := by
  have htimes : (s.dt :: (s.tport t).violTimes).take 16 = s.dt :: (s.tport t).violTimes :=
    List.take_of_length_le (by rw [List.length_cons]; omega)
  have hlen : (s.dt :: (s.tport t).violTimes).length ≠ 16 := by rw [List.length_cons]; omega
  unfold State.tierViolation
  rw [if_neg (by rw [hst]; decide)]
  dsimp only
  rw [State.dt_raise, State.violTimes_raise, State.addSat, State.dt_setFld, State.tport_setFld, htimes]
  split
  · exact if_neg fun h => hlen h.1
  · rfl

end Sequence

/-! ### The transmitter (Table 16-3, R463) -/

section Transmit
variable {s : State} {t : Nat} (hst : s.tierState t = 3)
include hst

theorem State.tierTransmit_safe (hdue : s.tierSafeDue t = true) : s.tierTransmit t = s.putTierSafe t := by
  simp [State.tierTransmit, hst, hdue]

variable (hsafe : s.tierSafeDue t = false)
include hsafe

theorem State.tierTransmit_resend {q : BitVec 16} {rest : List (BitVec 16)} (hres : (s.tport t).resend = q :: rest) :
    s.tierTransmit t = s.tierSendResend t q rest := by
  simp [State.tierTransmit, hst, hsafe, hres]

variable (hres : (s.tport t).resend = [])
include hres

theorem State.tierTransmit_data {r : BitVec 16} {b : List Byte} {p' : TierPort} (hroom : (s.tport t).unacked.length < 32)
    (htake : (s.tport t).takeNext = some ((r, b), p')) :
    s.tierTransmit t =
      let u := s.setTport t { p' with
        txNext := p'.txNext + 1, unacked := p'.unacked ++ [{ seq := p'.txNext, route := r, payload := b, sentAt := s.dt, resends := 0 }] }
      u.putTier t (u.mkTier t 2 p'.txNext r false b) := by
  simp [State.tierTransmit, hst, hsafe, hres, hroom, htake]

variable (htake : (s.tport t).takeNext = none)
include htake

theorem State.tierTransmit_nak (hnak : (s.tport t).nakDue = true) (hlast : (s.tport t).lastNak = none) : s.tierTransmit t =
    let u := s.setTport t { s.tport t with nakDue := false, lastNak := some s.dt }
    u.putTier t (u.mkTier t 4 0 0 false []) := by
  simp [State.tierTransmit, hst, hsafe, hres, htake, hnak, hlast]

variable (hnak : (s.tport t).nakDue = false)
include hnak

theorem State.tierTransmit_ack (hack : (s.tport t).ackDue = true) : s.tierTransmit t = s.putTier t (s.mkTier t 3 0 0 false []) := by
  simp [State.tierTransmit, hst, hsafe, hres, htake, hnak, hack]

theorem State.tierTransmit_idle (hack : (s.tport t).ackDue = false) (hlong : elapsed s.dt (s.tport t).lastTx (usTicks 4) = true) :
    s.tierTransmit t = s.putTier t (s.mkTier t 0 0 0 false []) := by
  simp [State.tierTransmit, hst, hsafe, hres, htake, hnak, hack, hlong]

theorem State.tierTransmit_none (hack : (s.tport t).ackDue = false) (hlong : elapsed s.dt (s.tport t).lastTx (usTicks 4) = false) :
    s.tierTransmit t = s := by
  simp [State.tierTransmit, hst, hsafe, hres, htake, hnak, hack, hlong]

end Transmit

/-- A frame does not depend on a counter of its port. -/
theorem State.mkTier_setFld_other (s : State) (t : Nat) {f : Fld} (v : Nat) (h : SVC_STAT.SAFE.key ≠ f.key) :
    (s.setFld f v).mkTier t = s.mkTier t := by
  funext type seq route resent payload
  simp only [State.mkTier, State.tport_setFld, s.bit_setFld_other v h]

/-- One frame of a resend goes out again, with its count and its time renewed. -/
theorem State.tierSendResend_found {s : State} {t : Nat} {q : BitVec 16} {rest : List (BitVec 16)} {e : TierFrame}
    (hfind : (s.tport t).unacked.find? (fun e => e.seq == q) = some e) : ∃ u : State,
    s.tierSendResend t q rest = u.putTier t (u.mkTier t 2 q e.route true e.payload) ∧ (u.tport t).resend = rest ∧
    ∀ x ∈ (u.tport t).unacked, x.seq = q → x.resends = e.resends + 1 ∧ x.sentAt = s.dt := by
  have hkey : SVC_STAT.SAFE.key ≠ (TIER_STAT.RESENDS t).key := by
    simp only [Fld.key, SVC_STAT.SAFE, SVC_STAT.addr, TIER_STAT.RESENDS, TIER_STAT.addr]
    omega
  refine ⟨(s.setTport t { s.tport t with
    resend := rest,
    unacked := (s.tport t).unacked.map (fun x => if x.seq = q then { e with sentAt := s.dt, resends := e.resends + 1 } else x) }).addSat
      (TIER_STAT.RESENDS t) 1, ?_, ?_, ?_⟩
  · simp only [State.tierSendResend, hfind, State.addSat, State.mkTier_setFld_other _ _ _ hkey, State.setTport_setTport, State.dt_setTport]
  · simp [State.addSat]
  · intro x hx hq
    rw [State.addSat, State.tport_setFld, State.tport_setTport_same] at hx
    obtain ⟨y, -, rfl⟩ := List.mem_map.mp hx
    split_ifs at hq ⊢ with hy
    · exact ⟨rfl, rfl⟩
    · exact absurd hq hy

/-! ### The routing group and SAFE frames (R44 to R46, R473) -/

section Routing
variable {s : State}

/-- The routing group with every staged route discarded. -/
def State.routesUnstaged (s : State) : State :=
  (upTo 8).foldl (fun s u => (s.stage (TIER_ROUTE_LO.ROUTE u) none).stage (TIER_ROUTE_HI.ROUTE u) none) s

theorem State.flds_routesUnstaged (s : State) : s.routesUnstaged.flds = s.flds := by
  unfold State.routesUnstaged
  exact foldl_keeps State.flds (fun t u => (State.stage_flds ..).trans (State.stage_flds ..)) _ s

/-- A group in which some device has two ports is discarded whole. -/
theorem State.routePoint_mismatch (hstaged : s.routesStaged = true) (hok : s.routesOk = false) (hcommit : s.bit (TIER_CTL.COMMIT 0) = true) :
    s.routePoint 0 = (s.routesUnstaged.setFld (TIER_CTL.COMMIT 0) 0).setFld (TIER_STAT.CFG_MISMATCH 0) 1 := by
  simp only [State.routePoint, State.routesUnstaged, hcommit, hstaged, hok, Bool.true_or, Bool.not_true, Bool.not_false, Bool.false_eq_true,
    if_false, if_true]

/-- A SAFE frame in a retrain episode acts as in UP. -/
theorem State.tierIn_safe {t : Nat} {f : Frame} (hgood : frameGood f = true) (htype : f.type = 11) (hst : s.tierState t = 4) :
    s.tierIn t f = s.tierSafe t := by
  refine State.tierIn_of_notData ?_ (by rw [htype]; decide)
  simp [State.tierRx, hst, hgood, htype]

theorem State.tierSafe_propagates {t : Nat} (hprop : s.bit (TIER_CTL.SAFE_PROP t) = true) (hsafe : s.bit SVC_STAT.SAFE = false) :
    s.tierSafe t = { s with tree := { s.tree with safeSeen := some s.dt }, due := s.due ++ [.safe 8 0xE t] } := by
  simp [State.tierSafe, hprop, hsafe]

theorem State.tierSafe_ignored {t : Nat} (hprop : s.bit (TIER_CTL.SAFE_PROP t) = false) : s.tierSafe t = s := by
  simp [State.tierSafe, hprop]

theorem State.tierSafeTimer_idle (hsafe : s.bit SVC_STAT.SAFE = false) : s.tierSafeTimer = s :=
  foldl_eq_self fun t _ => by simp [State.tierSafeDue, hsafe]

end Routing

/-! ### The obligation -/

section Rows
variable {s : State} (hp : s.powered = true)
include hp

theorem run_tierRxAck {t : Fin 8} {f : Frame} {u : State} (htype : f.type = 3) (h : s.tierIn t.val f = u) :
    exec (.tierRxAck t f) s = .next (settle s u) := (exec_tierRxAck t f s).trans (run_eq hp ((if_pos htype).trans h))

theorem run_tierRxIdle {t : Fin 8} {f : Frame} {u : State} (htype : f.type = 0) (h : s.tierIn t.val f = u) :
    exec (.tierRxIdle t f) s = .next (settle s u) := (exec_tierRxIdle t f s).trans (run_eq hp ((if_pos htype).trans h))

theorem run_tierRxNak {t : Fin 8} {f : Frame} {u : State} (htype : f.type = 4) (h : s.tierIn t.val f = u) :
    exec (.tierRxNak t f) s = .next (settle s u) := (exec_tierRxNak t f s).trans (run_eq hp ((if_pos htype).trans h))

theorem run_tierRxSafe {t : Fin 8} {f : Frame} {u : State} (htype : f.type = 11) (h : s.tierIn t.val f = u) :
    exec (.tierRxSafe t f) s = .next (settle s u) := (exec_tierRxSafe t f s).trans (run_eq hp ((if_pos htype).trans h))

theorem run_tierRoute {t : Fin 8} {f : Frame} {u : State} (htype : f.type = 2) (hroute : f.route.toNat % 64 ≠ s.tree.num)
    (h : s.tierIn t.val f = u) : exec (.tierRoute t f) s = .next (settle s u) :=
  (exec_tierRoute t f s).trans (run_eq hp ((if_pos ⟨htype, hroute⟩).trans h))

theorem run_tierTxFrame {t : Fin 8} {u : State} (h : s.tierTransmit t.val = u) : exec (.tierTxFrame t) s = .next (settle s u) :=
  (exec_tierTxFrame t s).trans (run_eq hp h)

end Rows

/-- Settles O50: reception and transmission are taken case by case; the routing group is followed through its commit point. -/
theorem tierSequencingRoutesSafe : Obligations.TierSequencingRoutesSafe := by
  unfold Obligations.TierSequencingRoutesSafe
  refine ⟨fun s t hp hst => ?sequencing, fun s hp => ?routes⟩
  case sequencing =>
    intro p heard
    refine ⟨?acks, fun a o rest => State.unacked_tierAck, fun q e hfind hidle => ⟨State.tierResend_episode hfind hidle,
      State.tierResend_window hfind hidle⟩, fun q => State.tierResend_covered, ?safe, ?damaged, ?aborted, ?resendTimer, ?silence, ?resend, ?data,
      ?control, ?relay, ?violation, ?counts⟩
    case acks =>
      intro f hgood hbad hackv
      refine ⟨fun htype => ?_, fun htype => ?_, fun htype => ?_⟩
      · exact run_tierRxAck hp htype (State.tierIn_ack hst hgood hbad hackv (.inl htype))
      · exact run_tierRxIdle hp htype (State.tierIn_ack hst hgood hbad hackv (.inr htype))
      · exact ⟨_, run_tierRxNak hp htype (State.tierIn_nak hst hgood hbad hackv htype), rfl⟩
    case safe => exact fun hdue => run_tierTxFrame hp (State.tierTransmit_safe hst hdue)
    case damaged =>
      intro k hk
      refine ⟨_, (exec_tierRxBadFrame t k s).trans (run_eq hp (State.tierRxBad_nak hst hk)), ?_, State.setTport_flds ..⟩
      rw [State.tport_setTport_same]
    case aborted => exact (exec_tierRxBadFrame t .abort s).trans (run_eq hp (State.tierRxBad_abort hst))
    case resendTimer =>
      exact fun e rest h ht => (exec_tierResendTimeout t s).trans (run_eq hp (State.tierResendTimeout_due hst h ht))
    case silence => exact fun ht => (exec_tierSilence t s).trans (run_eq hp (State.tierSilence_due hst ht))
    case resend =>
      intro q rest e hsafe hres hfind
      obtain ⟨u, hu, hresend, hcount⟩ := State.tierSendResend_found (rest := rest) hfind
      exact ⟨u, run_tierTxFrame hp ((State.tierTransmit_resend hst hsafe hres).trans hu), hresend, hcount⟩
    case data =>
      intro r b p' hsafe hres hroom htake
      refine ⟨_, run_tierTxFrame hp (State.tierTransmit_data hst hsafe hres hroom htake), ?_⟩
      rw [State.tport_setTport_same]
      exact ⟨rfl, rfl⟩
    case control =>
      intro hsafe hres _ htake
      refine ⟨fun hnak hlast => ?_, fun hnak hack => ?_, fun hnak hack hlong => ?_, fun hnak hack hlong => ?_⟩
      · refine ⟨_, run_tierTxFrame hp (State.tierTransmit_nak hst hsafe hres htake hnak hlast), ?_⟩
        rw [State.tport_setTport_same]
      · exact run_tierTxFrame hp (State.tierTransmit_ack hst hsafe hres htake hnak hack)
      · exact run_tierTxFrame hp (State.tierTransmit_idle hst hsafe hres htake hnak hack hlong)
      · exact run_tierTxFrame hp (State.tierTransmit_none hst hsafe hres htake hnak hack hlong)
    case relay =>
      intro f hgood htype hackv hbad hroute
      exact ⟨fun hseq => run_tierRoute hp htype hroute (State.tierIn_relay hst hgood hbad htype hackv hroute hseq),
        fun hlo hhi => run_tierRoute hp htype hroute (State.tierIn_gap hst hgood hbad htype hackv hroute hlo hhi),
        fun hfar => run_tierRoute hp htype hroute (State.tierIn_duplicate hst hgood hbad htype hackv hroute hfar)⟩
    case violation =>
      exact fun f hgood hbad htype => (exec_tierViolation t f s).trans (run_eq hp (State.tierIn_violation hst hgood hbad htype))
    case counts => exact fun hfew => ⟨_, State.tierViolation_counts hst hfew, rfl⟩
  case routes =>
    refine ⟨fun t r b hb => ⟨fun u hu => State.tierForward_routed hb hu, fun hnone => ⟨State.tierForward_up hb hnone, State.tierForward_drop hb hnone⟩⟩,
      ?commit, ?safe, fun hsafe => ?_, ?_⟩
    case commit =>
      rintro w rfl
      refine ⟨fun hsends => ?_, fun hsends => ?_, fun hstaged hok => ?_⟩
      · exact (exec_tierRouteCommit s).trans (run_eq hp (if_pos hsends))
      · exact (exec_tierRouteCommit s).trans (run_eq hp (if_neg (ne_true_of_eq_false hsends)))
      · have hcommit : (s.setFld (TIER_CTL.COMMIT 0) 1).bit (TIER_CTL.COMMIT 0) = true := State.bit_setFld_same s 1 rfl
        rw [State.routePoint_mismatch hstaged hok hcommit]
        refine ⟨State.fld_setFld_same _ _ 1, ?_, fun u => ?_⟩
        · rw [State.bit_setFld_other _ _ (by decide)]
          exact State.bit_setFld_same _ 0 rfl
        · have hkey : ∀ u : Fin 8, (TIER_ROUTE_LO.ROUTE u.val).key ≠ (TIER_CTL.COMMIT 0).key ∧
            (TIER_ROUTE_LO.ROUTE u.val).key ≠ (TIER_STAT.CFG_MISMATCH 0).key := by decide
          obtain ⟨hcommitKey, hmismatchKey⟩ := hkey u
          rw [State.fld_setFld_other _ _ hmismatchKey, State.fld_setFld_other _ _ hcommitKey, State.fld, State.flds_routesUnstaged]
          exact State.fld_setFld_other s 1 hcommitKey
    case safe =>
      intro t f hgood htype hst
      exact ⟨fun hprop hsafe => run_tierRxSafe hp htype ((State.tierIn_safe hgood htype hst).trans (State.tierSafe_propagates hprop hsafe)),
        fun hprop => run_tierRxSafe hp htype ((State.tierIn_safe hgood htype hst).trans (State.tierSafe_ignored hprop))⟩
    · exact (exec_tierSafeFrameTimer s).trans (run_eq hp (State.tierSafeTimer_idle hsafe))
    · exact (exec_tierSafeFrameTimer s).trans (run_eq hp rfl)

end Sys2Proof.Machine
end

section
/-!
PROOFS. Messages of the tree (R462, R466, R467, R469 to R472, R477): how a fragment becomes a message, what a message of each type does,
and the obligation of the tree's messages.
-/

namespace Sys2Proof.Machine

/-! ### Fragments (R462, Table 16-4) -/

/-- A fragment that begins a message from a source of which nothing is in reassembly. -/
structure FragmentBegins (f : Frame) : Prop where
  known : 1 ≤ leAt f.payload 0 1 ∧ leAt f.payload 0 1 ≤ 9
  offset : leAt f.payload 4 4 = 0
  mask : leAt f.payload 8 8 < 2 ^ 62

section Fragment
variable {s : State} {t : Nat} {f : Frame} (hpart : (s.tport t).partials = [])
include hpart

/-- A port with nothing in reassembly keeps nothing when it drops a partial message. -/
theorem State.setTport_noPartials : s.setTport t { s.tport t with partials := [] } = s.setTport t (s.tport t) := by rw [← hpart]

section Begins
variable (hbegins : FragmentBegins f)
include hbegins

/-- A whole message in one fragment. -/
theorem State.takeFragment_whole (hflags : leAt f.payload 1 1 = 3) : s.takeFragment t f =
    (some { src := f.route.toNat / 64 % 64, mtype := leAt f.payload 0 1, body := f.payload.drop 16, poison := maskWords (leAt f.payload 8 8) 0 },
      s.setTport t (s.tport t)) := by
  obtain ⟨⟨hlo, hhi⟩, hoff, hmask⟩ := hbegins
  have hone : leAt f.payload 0 1 ≠ 0 := by omega
  have hmask' : leAt f.payload 8 8 < 4611686018427387904 := hmask
  simp [State.takeFragment, hpart, hflags, hoff, hone, Nat.not_lt.mpr hhi, hmask', State.setTport_noPartials hpart]

/-- The first of several fragments is kept. -/
theorem State.takeFragment_first (hflags : leAt f.payload 1 1 = 1) : s.takeFragment t f =
    (none, s.setTport t { s.tport t with partials :=
      [{ src := f.route.toNat / 64 % 64, msgId := BitVec.ofNat 16 (leAt f.payload 2 2), mtype := leAt f.payload 0 1, bytes := f.payload.drop 16,
         poison := maskWords (leAt f.payload 8 8) 0 }] }) := by
  obtain ⟨⟨hlo, hhi⟩, hoff, hmask⟩ := hbegins
  have hone : leAt f.payload 0 1 ≠ 0 := by omega
  have hmask' : leAt f.payload 8 8 < 4611686018427387904 := hmask
  simp [State.takeFragment, hpart, hflags, hoff, hone, Nat.not_lt.mpr hhi, Nat.not_le.mpr hmask']

end Begins

/-- A fragment that continues nothing breaks a rule. -/
theorem State.takeFragment_stray (hflags : leAt f.payload 1 1 % 2 = 0) : s.takeFragment t f =
    (none, (s.setTport t (s.tport t)).tierViolation t) := by
  simp [State.takeFragment, hpart, hflags, State.setTport_noPartials hpart]

end Fragment

/-- The state of a port that has taken the next DATA frame in sequence. -/
def State.sequenced (s : State) (t : Nat) : State :=
  s.setTport t { s.tport t with lastRx := s.dt, rxNext := (s.tport t).rxNext + 1, rxAny := true, ackDue := true }

theorem State.setTport_sequenced (s : State) (t : Nat) : (s.sequenced t).setTport t ((s.sequenced t).tport t) = s.sequenced t := by
  rw [State.sequenced, State.tport_setTport_same, State.setTport_setTport]

theorem State.partials_sequenced {s : State} {t : Nat} (hpart : (s.tport t).partials = []) : ((s.sequenced t).tport t).partials = [] := by
  rw [State.sequenced, State.tport_setTport_same]
  exact hpart

section Data
variable {s : State} {t : Nat} {f : Frame} (hst : s.tierState t = 3) (hgood : frameGood f = true) (hbad : s.tierBad t f = false)
  (htype : f.type = 2) (hackv : f.ackv = false) (hseq : f.seq = (s.tport t).rxNext) (hroute : f.route.toNat % 64 = s.tree.num)
include hst hgood hbad htype hackv hseq hroute

/-- The next DATA frame in sequence for this device is a fragment. -/
theorem State.tierRx_fragment : s.tierRx t f = (s.sequenced t).takeFragment t f := by
  have hzero : (f.seq - (s.tport t).rxNext).toNat = 0 := by simp [hseq]
  rw [State.tierRx_up hst hgood, State.tierLink_data hst hbad htype hackv, if_pos hzero, State.tierData]
  exact if_pos hroute

variable (hpart : (s.tport t).partials = []) (hnot5 : leAt f.payload 0 1 ≠ 5)
include hpart hnot5

theorem State.tierIn_whole (hbegins : FragmentBegins f) (hflags : leAt f.payload 1 1 = 3) : s.tierIn t f =
    (s.sequenced t).tierMessage t
      { src := f.route.toNat / 64 % 64, mtype := leAt f.payload 0 1, body := f.payload.drop 16, poison := maskWords (leAt f.payload 8 8) 0 } := by
  have hrx := (State.tierRx_fragment hst hgood hbad htype hackv hseq hroute).trans
    (State.takeFragment_whole (State.partials_sequenced hpart) hbegins hflags)
  rw [State.setTport_sequenced] at hrx
  simp only [State.tierIn, hrx, if_neg hnot5]

omit hpart in
/-- A fragment of another type than TAIL that completes no message acts by its reception alone. -/
theorem State.tierIn_noMessage {u : State} (htake : (s.sequenced t).takeFragment t f = (none, u)) : s.tierIn t f = u := by
  have hrx := (State.tierRx_fragment hst hgood hbad htype hackv hseq hroute).trans htake
  have hnot : (leAt f.payload 0 1 == 5) = false := beq_eq_false_iff_ne.mpr hnot5
  simp only [State.tierIn, hrx, hnot, Bool.and_false, Bool.false_eq_true, if_false]

theorem State.tierIn_first (hbegins : FragmentBegins f) (hflags : leAt f.payload 1 1 = 1) : s.tierIn t f =
    (s.sequenced t).setTport t { (s.sequenced t).tport t with partials :=
      [{ src := f.route.toNat / 64 % 64, msgId := BitVec.ofNat 16 (leAt f.payload 2 2), mtype := leAt f.payload 0 1, bytes := f.payload.drop 16,
         poison := maskWords (leAt f.payload 8 8) 0 }] } :=
  State.tierIn_noMessage hst hgood hbad htype hackv hseq hroute hnot5
    (State.takeFragment_first (State.partials_sequenced hpart) hbegins hflags)

theorem State.tierIn_stray (hflags : leAt f.payload 1 1 % 2 = 0) : s.tierIn t f = (s.sequenced t).tierViolation t := by
  have htake := State.takeFragment_stray (f := f) (State.partials_sequenced hpart) hflags
  rw [State.setTport_sequenced] at htake
  exact State.tierIn_noMessage hst hgood hbad htype hackv hseq hroute hnot5 htake

end Data

/-! ### Messages by type (R466, R467, R469 to R472) -/

section Messages
variable {s : State} {t src : Nat} {m : TierMsg}

theorem State.isWorker_of_upPort (h : s.upPort t = true) : s.isWorker = true := (Bool.and_eq_true_iff.mp h).1

theorem State.tierMessage_cmd (hm : m.mtype = 1) (hup : s.upPort t = true) :
    ∃ c : HostCmd, (s.tierMessage t m).host.accepted = s.host.accepted ++ [c] ∧ c.routed = true ∧
      c.params = slice (m.body.drop 32) 0 (readPacket (slice m.body 0 64) (some (m.body.drop 32))).plen ∧
      c.opcode = (readPacket (slice m.body 0 64) (some (m.body.drop 32))).opcode := by
  simp only [State.tierMessage, hm, hup, State.takeCmd, State.isWorker_of_upPort hup, Bool.not_true, Bool.false_eq_true, if_false, if_true]
  exact ⟨_, rfl, rfl, rfl, rfl⟩

theorem State.learn_depth1 (h : src ≤ 8) : s.learn t src = s := by simp [State.learn, h]

/-- A message of 32 bytes holds one record. -/
theorem State.takeRecords_one {f : State → List Byte → State} {b : List Byte} (h : b.length = 32) : s.takeRecords f b = f s (slice b 0 32) := by
  simp [State.takeRecords, h, upTo, List.range_succ]

theorem State.summary_setWorker {w : Worker} : (s.setWorker src w).worker src = w := by
  simp [State.worker, State.setWorker]

theorem State.tierMessage_boot (hm : m.mtype = 6) (hw : s.isWorker = true) (hphase : s.pwr.phase = .starting)
    (hstage : s.fld BOOT_STAGE.STAGE = 2) (hcode : Config.bootCode m.body % 2 ^ 32 ≠ 0) : s.tierMessage 0 m =
    s.sendMsg 0 2 7 (s.fld (TIER_STAT.PEER 0)) (leBytes 4 (Config.bootCode m.body)) [] := by
  have hup : s.upPort 0 = true := by simp [State.upPort, hw]
  simp only [State.tierMessage, hm, hup, if_true, State.takeBoot, hw, hphase, hstage, Bool.not_true, bne_self_eq_false, Bool.or_false,
    Bool.false_eq_true, if_false, if_pos hcode]

/-- A report is written in two parts: the mandatory one when it is whole, the rest at the end. -/
theorem State.takeTail_mandatory {had : Nat} {b : List Byte} (hhad : had < 3136) (hlen : 3136 ≤ b.length) :
    s.takeTail src had b false = s.putMandatory src b := by
  simp only [State.takeTail, if_pos (And.intro hhad hlen), Bool.false_eq_true, if_false]

theorem State.takeTail_rest {had : Nat} {b : List Byte} (hhad : 3136 ≤ had) :
    s.takeTail src had b true = (s.putComplete src b).rejoined src 0 := by
  simp only [State.takeTail, if_neg (show ¬(had < 3136 ∧ 3136 ≤ b.length) by omega), if_true]

/-- A class S record says that its worker is in the safe state. -/
theorem State.takeRecord_classS {r : List Byte} (hblock : leAt r 9 1 = 6) (hfinal : leAt r 13 1 / 4 % 4 = 3) :
    s.takeRecord src r = (s.logBytes r).setWorker src { (s.logBytes r).worker src with safe := true } := by
  simp [State.takeRecord, hblock, hfinal]

/-- A REPLY with a short result completes the oldest command that its worker owes. -/
theorem State.takeReply_short {c : HostCmd} {b : List Byte} (hw : s.isWorker = false)
    (hfind : s.host.accepted.find? (fun c => !c.routed && c.sent.contains src && c.devices.contains src) = some c) (hn : leAt b 4 4 = 0) :
    s.takeReply src b [] = (s.cmdAnswered c src).postFinal c src (leAt b 0 2) (leAt b 2 2) (slice b 8 16) := by
  simp only [State.takeReply, hw, hfind, replyResult, hn, if_true, Bool.false_eq_true, if_false]

/-- The journal summary is 64 bytes and 16 for each channel (Table 16-8). -/
theorem State.length_summaryBody : s.summaryBody.length = 1600 := by
  have hchannels (g : Nat → List Byte) (hg : ∀ n, (g n).length = 16) : ((upTo 96).flatMap g).length = 1536 := by
    simp [List.length_flatMap, hg, upTo]
  simp only [State.summaryBody, List.length_append, length_leBytes, length_zeros]
  rw [hchannels _ fun n => by simp only [List.length_append, length_leBytes]]

end Messages

/-- Settles O51: a fragment is followed through sequencing and reassembly, and a message through the function of its type. -/
theorem treeMessages : Obligations.TreeMessages := by
  unfold Obligations.TreeMessages
  refine ⟨?rows, ?fragments, ?messages, fun s src b => ⟨fun had => State.takeTail_mandatory, fun had => State.takeTail_rest⟩,
    fun s src r hblock hfinal _ => State.takeRecord_classS hblock hfinal, fun s c src b => State.takeReply_short, ?summary⟩
  case rows =>
    intro s t f hp took
    exact ⟨(exec_cmd t f s).trans (run_eq hp rfl), (exec_reply t f s).trans (run_eq hp rfl), (exec_fault t f s).trans (run_eq hp rfl),
      (exec_summary t f s).trans (run_eq hp rfl), (exec_tail t f s).trans (run_eq hp rfl), (exec_boot t f s).trans (run_eq hp rfl),
      (exec_bootstat t f s).trans (run_eq hp rfl), (exec_secret t f s).trans (run_eq hp rfl), (exec_notice t f s).trans (run_eq hp rfl)⟩
  case fragments =>
    intro s t f hst hgood hbad htype hackv hseq hroute hpart b src u hlo hhi hnot5 hoff hmask
    have hbegins : FragmentBegins f := ⟨⟨hlo, hhi⟩, hoff, hmask⟩
    exact ⟨State.tierIn_whole hst hgood hbad htype hackv hseq hroute hpart hnot5 hbegins,
      State.tierIn_first hst hgood hbad htype hackv hseq hroute hpart hnot5 hbegins,
      State.tierIn_stray hst hgood hbad htype hackv hseq hroute hpart hnot5⟩
  case messages =>
    intro s t m
    refine ⟨State.tierMessage_cmd, fun hm hup => ?_, fun hm hw => ?_, fun hm hw hsrc hlen => ?_, fun hm hw => ?_, ?boot, fun hm hup => ?_,
      fun hm hup => ?_, fun hm hw hsrc hlen => ?_⟩
    case boot =>
      rintro hm hw rfl hphase hstage hcode
      exact State.tierMessage_boot hm hw hphase hstage hcode
    · simp [State.tierMessage, hm, hup]
    · simp [State.tierMessage, hm, hw]
    · simp only [State.tierMessage, hm, hw, Bool.not_false, if_true, State.learn_depth1 hsrc, State.takeRecords_one hlen]
    · simp only [State.tierMessage, hm, hw, Bool.not_false, if_true, State.summary_setWorker]
    · refine ⟨fun hcode => ?_, fun hcode htries => ?_, fun hcode htries => ?_⟩
      · simp [State.tierMessage, hm, hup, State.takeBootstat, hcode]
      · simp [State.tierMessage, hm, hup, State.takeBootstat, hcode, htries]
      · simp [State.tierMessage, hm, hup, State.takeBootstat, hcode, Nat.not_le.mpr htries]
    · exact ⟨fun hcode => by simp [State.tierMessage, hm, hup, hcode], fun hcode => by simp [State.tierMessage, hm, hup, hcode]⟩
    · simp only [State.tierMessage, hm, hw, Bool.not_false, if_true, State.learn_depth1 hsrc, State.takeRecords_one hlen]
  case summary =>
    intro s hp
    refine ⟨fun hdue => ?_, fun hdue => (exec_summaryTimer s).trans (run_eq hp (if_neg (ne_true_of_eq_false hdue)))⟩
    exact ⟨_, (exec_summaryTimer s).trans (run_eq hp (if_pos hdue)), rfl, rfl, State.length_summaryBody⟩

end Sys2Proof.Machine
end

section
/-!
PROOFS. What the working of the caches cannot change (R279, R323 to R341): a line that leaves an L2 moves through the basin's home and to
DRAM, and a view of the state that none of these touch stays as it was.
-/

namespace Sys2Proof.Machine

/-- A view of the state that the L2s, the homes, DRAM and a fault record do not change. -/
structure CacheBlind {α : Type} (view : State → α) : Prop extends LogBlind view where
  ponds (s : State) (v) : view { s with ponds := v } = view s
  basins (s : State) (v) : view { s with basins := v } = view s
  dram (s : State) (v) : view { s with dram := v } = view s
  freeCtr (s : State) (v) : view { s with freeCtr := v } = view s

section CacheBlind
variable {α : Type} {view : State → α} (h : CacheBlind view) (s : State)
include h

theorem CacheBlind.raiseAt (b : FaultBit) (addr info detail : Nat) : view (s.raiseAt b addr info detail) = view s :=
  h.raiseActing s ..

theorem CacheBlind.setPond (p : Nat) (v : PondSt) : view (s.setPond p v) = view s := h.ponds s _

theorem CacheBlind.setBasin (b : Nat) (v : BasinSt) : view (s.setBasin b v) = view s := h.basins s _

/-! ### DRAM -/

theorem CacheBlind.vmapAccess (r : Region) (a : Nat) : view (s.vmapAccess r a) = view s := by
  unfold State.vmapAccess
  split_ifs
  · exact (h.setFld ..).trans (h.freeCtr s _)
  · rfl

theorem CacheBlind.setLinePoison (line : Nat) (m : BitVec 8) : view (s.setLinePoison line m) = view s :=
  foldl_keeps view (fun s _ => h.dram s _) _ s

theorem CacheBlind.dramRead (line master : Nat) : view (s.dramRead line master).2.2 = view s := by
  unfold State.dramRead
  split
  · exact h.raiseAt s ..
  · dsimp only
    split_ifs <;> exact h.vmapAccess s ..

theorem CacheBlind.dramWrite (line : Nat) (b : List (Option Byte)) (poison : BitVec 8) (master : Nat) :
    view (s.dramWrite line b poison master) = view s := by
  unfold State.dramWrite
  split
  · exact h.raiseAt s ..
  · dsimp only
    split_ifs <;> simp only [h.setLinePoison, h.dram, h.vmapAccess]

theorem CacheBlind.dramWriteFull (line : Nat) (b : List Byte) (poison : BitVec 8) (master : Nat) :
    view (s.dramWriteFull line b poison master) = view s := h.dramWrite s ..

/-! ### The home -/

theorem CacheBlind.setHome (b line : Nat) (v : HomeLine) : view (s.setHome b line v) = view s := h.basins s _

theorem CacheBlind.sendRing (b : Nat) (dst : Option (Fin 17)) (line : Nat) (m : RingMsg) : view (s.sendRing b dst line m) = view s := h.basins s _

theorem CacheBlind.protoError (b line stop msg : Nat) : view (s.protoError b line stop msg) = view s := h.raiseAt s ..

theorem CacheBlind.nackReq (b line : Nat) (m : HomeMsg) : view (s.nackReq b line m) = view s := by
  simp only [State.nackReq, State.addWrap, h.sendRing, h.setFld, h.setBasin]

theorem CacheBlind.returnTicket (b : Nat) (m : HomeMsg) : view (s.returnTicket b m) = view s := h.basins s _

theorem CacheBlind.dropTicket (b : Nat) (m : HomeMsg) : view (s.dropTicket b m) = view s := (h.basins _ _).trans (h.returnTicket s b m)

theorem CacheBlind.openTxn (b line : Nat) (busy : Busy) (m : HomeMsg) : view (s.openTxn b line busy m) = view s := by
  unfold State.openTxn
  split_ifs
  · exact h.nackReq s b line m
  · cases busy <;> simp only [h.returnTicket, h.dropTicket, h.setHome]

theorem CacheBlind.grantNew (b line : Nat) (m : HomeMsg) (reserved : Bool) : view (s.grantNew b line m reserved) = view s := by
  simp only [State.grantNew, h.dropTicket, h.sendRing, h.setHome, h.dramRead, h.setBasin]

theorem CacheBlind.allocate (b line : Nat) (m : HomeMsg) : view (s.allocate b line m) = view s := by
  unfold State.allocate
  dsimp only
  split
  · exact h.grantNew s ..
  · split
    · split_ifs
      · exact h.grantNew s ..
      · exact h.nackReq s ..
    · exact h.openTxn s ..

theorem CacheBlind.freeWay (b set : Nat) : view (s.freeWay b set) = view s := by
  unfold State.freeWay
  split
  · rfl
  · split_ifs
    · exact h.setHome s ..
    · rfl

theorem CacheBlind.homeAct (b line : Nat) (m : HomeMsg) : view (s.homeAct b line m) = view s := by
  unfold State.homeAct
  dsimp only
  split_ifs <;> cases m.req <;>
    simp only [apply_ite view, ite_self, h.allocate, h.sendRing, h.dropTicket, h.dramRead, h.dramWrite, h.dramWriteFull, h.setHome,
      h.openTxn, h.protoError, h.freeWay]

theorem CacheBlind.homeRequest (b line : Nat) (m : HomeMsg) : view (s.homeRequest b line m) = view s := by
  unfold State.homeRequest
  dsimp only
  split_ifs
  · exact h.nackReq s ..
  · exact (h.returnTicket ..).trans (h.setHome s ..)
  · exact h.homeAct s ..

theorem CacheBlind.removeHolder (b line : Nat) (r : Fin 17) : view (s.removeHolder b line r) = view s := by
  unfold State.removeHolder
  dsimp only
  split_ifs
  · exact (h.freeWay ..).trans (h.setHome s ..)
  · exact (h.freeWay ..).trans (h.setHome s ..)
  · rfl

/-! ### The L2s and their messages -/

theorem CacheBlind.setL2 (p line : Nat) (v : L2Line) : view (s.setL2 p line v) = view s := h.ponds s _

theorem CacheBlind.receive (b : Nat) (r : Fin 17) (f : Flight) : view (s.receive b r f) = view s := by
  unfold State.receive
  dsimp only
  split <;> (try split_ifs) <;> simp only [h.setL2, h.protoError]

theorem CacheBlind.deliverBefore (b : Nat) (r : Fin 17) (seq n : Nat) : view (s.deliverBefore b r seq n) = view s := by
  induction n generalizing s with
  | zero => rfl
  | succ n ih =>
    unfold State.deliverBefore
    dsimp only
    split
    · split_ifs <;> simp only [ih, h.receive, h.setBasin]
    · rfl

theorem CacheBlind.snoopL2 (b r line : Nat) (k : Snoop) : view (s.snoopL2 b r line k).2 = view s := by
  have hdrop (t : State) (p : Nat) : view (t.dropL1 p line none) = view t := h.ponds t _
  unfold State.snoopL2
  dsimp only
  split_ifs
  · rfl
  · split <;> simp only [h.setL2, hdrop]

theorem CacheBlind.addAnswer (b line : Nat) (r : Fin 17) : view (s.addAnswer b line r) = view s := by
  unfold State.addAnswer
  dsimp only
  split
  · rfl
  · split_ifs <;> simp only [h.setHome, h.snoopL2, h.deliverBefore]

theorem CacheBlind.flushStop (b r set : Nat) : view (s.flushStop b r set) = view s := by
  refine foldl_keeps view (fun t line => ?_) _ s
  dsimp only
  split
  · rw [h.dramWriteFull, h.snoopL2]
  · exact h.snoopL2 ..

theorem CacheBlind.runQueue (b line n : Nat) : view (s.runQueue b line n) = view s := by
  induction n generalizing s with
  | zero => rfl
  | succ n ih =>
    unfold State.runQueue
    dsimp only
    split_ifs
    · rfl
    · split
      · rfl
      · simp only [ih, h.homeAct, h.setHome]

theorem CacheBlind.completeFlush (b set : Nat) : view (s.completeFlush b set) = view s := by
  have hstop (t : State) (x : HomeTxn) (r : Fin 17) : view (if (Tab.get (fun _ => none) x.answers r.val).isSome then t
      else (t.deliverBefore b r x.seq (t.basin b).flights.length).flushStop b r.val set) = view t := by
    split_ifs
    · rfl
    · simp only [h.flushStop, h.deliverBefore]
  unfold State.completeFlush
  dsimp only
  split
  · rfl
  · rw [foldl_keeps view (fun t l => h.runQueue t ..), foldl_keeps view (fun t _ => h.freeWay t ..),
      foldl_keeps view (fun t l => h.setHome t ..), h.setHome, foldl_keeps view (fun t r => hstop t _ r)]

theorem CacheBlind.completeTxn (b line : Nat) : view (s.completeTxn b line) = view s := by
  have hans : view ((List.finRange 17).foldl (fun s r => s.addAnswer b line r) s) = view s := foldl_keeps view (fun t r => h.addAnswer t ..) _ s
  unfold State.completeTxn
  split
  · rfl
  · generalize (List.finRange 17).foldl (fun s r => s.addAnswer b line r) s = u at hans
    rw [← hans]
    dsimp only
    split
    · rfl
    · split
      · rw [h.protoError, h.setHome]
      · repeat' split
        all_goals simp only [h.runQueue, h.sendRing, h.setHome, h.dramWriteFull, h.dramWrite, h.dramRead, h.freeWay, h.grantNew]

theorem CacheBlind.deliverAll (b : Nat) (r : Fin 17) (n : Nat) : view (s.deliverAll b r n) = view s := by
  have hone (t : State) : view (t.deliverOne b r) = view t := by
    unfold State.deliverOne
    dsimp only
    split
    · rfl
    · rw [h.receive, h.setBasin]
  induction n generalizing s with
  | zero => rfl
  | succ n ih =>
    unfold State.deliverAll
    split_ifs
    · rw [ih, hone]
    · rfl

theorem CacheBlind.settleLine (b line : Nat) (r : Option (Fin 17)) (n : Nat) : view (s.settleLine b line r n) = view s := by
  induction n generalizing s with
  | zero => rfl
  | succ n ih =>
    unfold State.settleLine
    dsimp only
    split <;> split <;> split_ifs <;> simp only [ih, h.deliverAll, h.completeTxn, h.completeFlush]

/-! ### A line leaves (R279, R323) -/

theorem CacheBlind.evict (p line : Nat) (keep : Bool) : view (s.evict p line keep).2 = view s := by
  unfold State.evict State.l2Send
  dsimp only
  split <;> (try split_ifs) <;> simp only [h.settleLine, h.homeRequest, h.setL2, h.dramWriteFull, h.removeHolder]

theorem CacheBlind.maintLine (p line op : Nat) : view (s.maintLine p line op) = view s := by
  unfold State.maintLine
  dsimp only
  split
  · exact h.evict s ..
  · split_ifs
    · exact h.setL2 s ..
    · exact h.evict s ..
  · exact h.evict s ..

/-- A maintenance operation changes no such view. -/
theorem CacheBlind.maintApply (p op line : Nat) : view (s.maintApply p op line) = view s := by
  unfold State.maintApply
  split_ifs
  · exact h.maintLine s ..
  · exact foldl_keeps view (fun t l => h.maintLine t ..) _ s

/-- Cleaning the L2s changes no such view. -/
theorem CacheBlind.cleanPonds : view s.cleanPonds = view s := by
  refine foldl_keeps view (fun t p => ?_) _ s
  split_ifs
  · rfl
  · exact h.maintApply t ..

end CacheBlind

theorem cacheBlind_dt : CacheBlind State.dt :=
  { logBlind_dt with ponds := fun _ _ => rfl, basins := fun _ _ => rfl, dram := fun _ _ => rfl, freeCtr := fun _ _ => rfl }

end Sys2Proof.Machine
end

section
/-!
PROOFS. The device states and their wake events (R484 to R490, R223): what D-NAP leaves of the PLLs, what an entry to D-SLEEP leaves of
the device, what a wake event does, and the obligation of the power states.
-/

namespace Sys2Proof.Machine

/-! ### Requests and D-NAP (R486, R487) -/

section Nap
variable {s : State}

theorem State.powerTick_nap (hreq : s.pwr.request = 1) (hwhy : s.napWhy = 0) (hcmd : s.commandRuns = false) (hnap : s.napping = false) :
    s.powerTick = s.napTry := by
  simp [State.powerTick, hreq, hwhy, hcmd, hnap]

theorem State.powerTick_napRefused (hreq : s.pwr.request = 1) (hwhy : s.napWhy ≠ 0) : s.powerTick = s.entryRefused s.napWhy := by
  simp [State.powerTick, hreq, hwhy]

theorem State.powerTick_sleep (hreq : s.pwr.request = 2) (hwhy : s.sleepWhy = 0) (hcmd : s.commandRuns = false) : s.powerTick = s.sleepBegin := by
  simp [State.powerTick, hreq, hwhy, hcmd]

theorem State.napAuto_since {t : Word} (hauto : s.bit PWR_CTL.NAP_AUTO = true) (hrun : s.fld PWR_STAT.DSTATE = 1) (hready : s.pwr.phase = .ready)
    (hwhy : s.napWhy = 0) (hcmd : s.commandRuns = false) (hsince : s.pwr.napSince = some t) :
    s.napAuto = if elapsed s.dt t (usTicks (s.fld PWR_CTL.NAP_HOLD)) then s.napTry else s := by
  simp [State.napAuto, hauto, hrun, hready, hwhy, hcmd, hsince]

variable (s)

/-- The ECLK PLL of basin 0 runs as the ECLK PLLs do. -/
theorem State.fld_eclkPlls_run3 (on : Bool) : (s.eclkPlls on).fld (PLL_STAT.RUN 3) = if on then 1 else 0 := by
  have hset (t : State) : (t.setBit (PLL_STAT.RUN 3) on).fld (PLL_STAT.RUN 3) = if on then 1 else 0 := by
    rw [State.setBit, State.fld_setFld_same]
    cases on <;> rfl
  have hother (t : State) (f : Fld) (hkey : (PLL_STAT.RUN 3).key ≠ f.key) : (t.setBit f on).fld (PLL_STAT.RUN 3) = t.fld (PLL_STAT.RUN 3) :=
    t.fld_setFld_other _ hkey
  have hfour : upTo 4 = [0, 1, 2, 3] := rfl
  simp only [State.eclkPlls, hfour, List.foldl_cons, List.foldl_nil]
  rw [hother _ _ (by decide), hother _ _ (by decide), hother _ _ (by decide), hother _ _ (by decide), hother _ _ (by decide), hother _ _ (by decide),
    hother _ _ (by decide), hset]

/-- Self-refresh moves the states of the memory channels only (R352). -/
theorem State.fld_selfRefresh_other (on : Bool) {g : Fld} (h : ∀ c, g.key ≠ (MC_STAT.STATE c).key) : (s.selfRefresh on).fld g = s.fld g := by
  refine foldl_keeps (·.fld g) (fun t c => ?_) _ s
  split_ifs
  · exact t.fld_setFld_other _ (h c)
  · exact t.fld_setFld_other _ (h c)
  · rfl

theorem run_apart_mcState {k : Nat} (hk : k < 8) (c : Nat) : (PLL_STAT.RUN k).key ≠ (MC_STAT.STATE c).key := by
  simp only [Fld.key, PLL_STAT.RUN, PLL_STAT.addr, MC_STAT.STATE, MC_STAT.addr]
  omega

/-- D-NAP is entered with the engine PLLs off (R486). -/
theorem State.napEnter_leaves :
    s.napEnter.napping = true ∧ s.napEnter.fld (PLL_STAT.RUN 3) = 0 ∧ s.napEnter.fld (PLL_STAT.RUN 7) = 0 := by
  have hmc3 (c : Nat) : (PLL_STAT.RUN 3).key ≠ (MC_STAT.STATE c).key := run_apart_mcState (by decide) c
  have hmc7 (c : Nat) : (PLL_STAT.RUN 7).key ≠ (MC_STAT.STATE c).key := run_apart_mcState (by decide) c
  have hend (t : State) (x : PwrSt) (g : Fld) (h : g.key ≠ DSTATE_CNT.NAPS.key) :
      { State.addWrap t DSTATE_CNT.NAPS 1 with pwr := x }.fld g = t.fld g := t.fld_addWrap_other 1 h
  unfold State.napping State.napEnter
  dsimp only
  refine ⟨?_, ?_, ?_⟩
  · rw [hend _ _ _ (by decide), State.fld_setFld_same]
    rfl
  · rw [hend _ _ _ (by decide), State.fld_setFld_other _ _ (by decide), State.fld_selfRefresh_other _ _ hmc3, State.fld_setFld_other _ _ (by decide),
      State.fld_setFld_other _ _ (by decide), State.fld_eclkPlls_run3]
    rfl
  · rw [hend _ _ _ (by decide), State.fld_setFld_other _ _ (by decide), State.fld_selfRefresh_other _ _ hmc7, State.fld_setFld_other _ _ (by decide),
      State.fld_setFld_same]
    rfl

variable {s} in
/-- D-NAP ends with the engine PLLs running (R487). -/
theorem State.napEnd_leaves (hnap : s.napping = true) : s.napEnd.fld PWR_STAT.DSTATE = 1 ∧ s.napEnd.fld (PLL_STAT.RUN 3) = 1 := by
  have hmc3 (c : Nat) : (PLL_STAT.RUN 3).key ≠ (MC_STAT.STATE c).key := run_apart_mcState (by decide) c
  unfold State.napEnd
  rw [if_pos hnap]
  dsimp only
  refine ⟨State.fld_setFld_same _ PWR_STAT.DSTATE 1, ?_⟩
  rw [State.fld_setFld_other _ _ (by decide), State.fld_selfRefresh_other _ _ hmc3, State.fld_setFld_other _ _ (by decide),
    State.fld_setFld_other _ _ (by decide), State.fld_eclkPlls_run3]
  rfl

theorem State.dt_napEnd : s.napEnd.dt = s.dt := by
  have hset (t : State) (f : Fld) (v : Nat) : (t.setFld f v).dt = t.dt := rfl
  have hplls (t : State) (on : Bool) : (t.eclkPlls on).dt = t.dt := by
    unfold State.eclkPlls
    exact foldl_keeps State.dt (fun t b => (hset ..).trans (hset ..)) _ t
  have hself (t : State) (on : Bool) : (t.selfRefresh on).dt = t.dt := by
    unfold State.selfRefresh
    exact foldl_keeps State.dt (fun t c => by split_ifs <;> rfl) _ t
  unfold State.napEnd
  split_ifs
  · rw [hset, hself, hset, hset, hplls]
  · rfl

/-- The entry to D-SLEEP begins now (Table 17-3 step 1). -/
theorem State.sleepBegin_leaves : s.sleepBegin.fld PWR_STAT.DSTATE = 3 ∧ s.sleepBegin.pwr.entryAt = some s.dt :=
  ⟨State.fld_setFld_same _ PWR_STAT.DSTATE 3, congrArg some ((cacheBlind_dt.cleanPonds s.napEnd).trans s.dt_napEnd)⟩

end Nap

/-! ### Power goes off (Table 17-3) -/

section Sleep
variable (s : State) {g : Fld}

theorem State.fld_stat (k : Nat) : (s.stat k).fld g = s.fld g := rfl

theorem State.fld_statStatus (status : Nat) : (s.statStatus status).fld g = s.fld g := by
  unfold State.statStatus
  split <;> rfl

theorem State.fld_cmdAnswered (c : HostCmd) (dev : Nat) : (s.cmdAnswered c dev).fld g = s.fld g := by
  unfold State.cmdAnswered
  dsimp only
  split_ifs <;> rfl

theorem State.fld_signalQueue (q : Nat) : (s.signalQueue q).fld g = s.fld g := by
  unfold State.signalQueue
  split
  · rfl
  · split_ifs
    · rfl
    · exact State.fld_msix _ _

section Answers
variable (hrec : g.apart recordFlds) (hbit : g.key ≠ Flt.HOST_DMA.fld.key) (hfirst : g.apart Flt.HOST_DMA.firstFlds)
include hrec hbit hfirst

theorem State.fld_putCq_other (q : Nat) (e : CqEntry) : (s.putCq q e).fld g = s.fld g := by
  unfold State.putCq
  split
  · rfl
  · split
    · rfl
    · dsimp only
      split
      · split
        · exact (State.fld_signalQueue _ q).trans (s.fld_hostPut ..)
        · exact s.fld_hostPut ..
      · exact State.fld_raiseAt_other _ hrec hbit hfirst ..

/-- A completion leaves every field as it was, but for those of a failed write to the host. -/
theorem State.fld_finishCmd_other (c : HostCmd) (status detail : Nat) (res : List Byte) : (s.finishCmd c status detail res).fld g = s.fld g := by
  unfold State.finishCmd State.finishMarked State.postFinal
  dsimp only
  split_ifs <;> simp only [State.fld_sendMsg, State.fld_putCq_other _ hrec hbit hfirst, State.discarded, State.fld_stat, State.fld_statStatus,
    State.fld_hostPut, State.fld_cmdAnswered]

theorem State.fld_sleepDone_other : s.sleepDone.fld g = s.fld g := by
  refine foldl_keeps (·.fld g) (fun t c => ?_) _ s
  dsimp only
  split_ifs
  · exact t.fld_finishCmd_other hrec hbit hfirst ..
  · rfl

end Answers

/-- The role of the device outlives its last completions. -/
theorem State.isWorker_sleepDone (on : Bool) : ((s.selfRefresh on).sleepDone).isWorker = s.isWorker := by
  have hmc (c : Nat) : DEV_POS.ROLE.key ≠ (MC_STAT.STATE c).key := by
    simp only [Fld.key, DEV_POS.ROLE, DEV_POS.addr, MC_STAT.STATE, MC_STAT.addr]
    omega
  have hrole : ((s.selfRefresh on).sleepDone).fld DEV_POS.ROLE = s.fld DEV_POS.ROLE :=
    (State.fld_sleepDone_other _ (by decide) (by decide) (by decide)).trans (s.fld_selfRefresh_other on hmc)
  rw [State.isWorker, hrole, State.isWorker]

theorem State.sleepOff_none (h : s.pwr.entryAt = none) : s.sleepOff = s := by simp only [State.sleepOff, h]

variable {s} {t : Word} (hentry : s.pwr.entryAt = some t)
include hentry

theorem State.sleepOff_held (hheld : (upTo 68).any s.l2Held = true) : s.sleepOff = s := by simp only [State.sleepOff, hentry, hheld, if_true]

theorem State.sleepOff_manager (hheld : (upTo 68).any s.l2Held = false) (hw : s.isWorker = false) :
    s.sleepOff = ((((s.selfRefresh true).sleepDone).setFld HOST_STAT.SPEED 0).sleepPorts).darken := by
  simp only [State.sleepOff, hentry, hheld, State.isWorker_sleepDone, hw, Bool.not_false, Bool.false_eq_true, if_true, if_false]

end Sleep

/-- With the power off the device sleeps, and the time at which it went is recorded (R488). -/
theorem State.darken_leaves (u : State) :
    u.darken.pwr.phase = .asleep ∧ u.darken.pwr.entryAt = none ∧ u.darken.pair SLEEP_DT_LO.V SLEEP_DT_HI.V = u.dt := by
  refine ⟨rfl, rfl, ?_⟩
  have hpair := u.pair_setPair_same (lo := SLEEP_DT_LO.V) (hi := SLEEP_DT_HI.V) u.dt rfl rfl (by decide)
  have hlo (t : State) : (t.addWrap DSTATE_CNT.SLEEPS 1).fld SLEEP_DT_LO.V = t.fld SLEEP_DT_LO.V := t.fld_addWrap_other 1 (by decide)
  have hhi (t : State) : (t.addWrap DSTATE_CNT.SLEEPS 1).fld SLEEP_DT_HI.V = t.fld SLEEP_DT_HI.V := t.fld_addWrap_other 1 (by decide)
  have hcount (t : State) : (t.addWrap DSTATE_CNT.SLEEPS 1).pair SLEEP_DT_LO.V SLEEP_DT_HI.V = t.pair SLEEP_DT_LO.V SLEEP_DT_HI.V := by
    rw [State.pair, hlo, hhi, State.pair]
  have hresume (t : State) (v : Word) : (t.setPair PWR_RESUME_LO.ADDR PWR_RESUME_HI.ADDR v).pair SLEEP_DT_LO.V SLEEP_DT_HI.V =
      t.pair SLEEP_DT_LO.V SLEEP_DT_HI.V := by
    rw [State.pair, State.fld_setPair_other _ _ (by decide) (by decide), State.fld_setPair_other _ _ (by decide) (by decide), State.pair]
  refine (hcount _).trans ?_
  split
  · exact (hresume ..).trans hpair
  · exact hpair

/-! ### Waking (R489, R490, R223) -/

section Wake
variable {s : State}

theorem State.wakeEvent_disabled {k : Nat} (h : Nat.testBit (s.fld PWR_WAKE_EN.EN) k = false) : s.wakeEvent k = s := by simp [State.wakeEvent, h]

/-- An enabled wake event begins the restoration and is recorded (R489). -/
theorem State.wakeEvent_asleep {k : Nat} (hen : Nat.testBit (s.fld PWR_WAKE_EN.EN) k = true) (hphase : s.pwr.phase = .asleep) :
    (s.wakeEvent k).pwr.phase = .resuming ∧ (s.wakeEvent k).fld PWR_STAT.DSTATE = 4 ∧
    (s.wakeEvent k).fld PWR_WAKE_SRC.SRC = (s.fld PWR_WAKE_SRC.SRC ||| 2 ^ k) % 2 ^ PWR_WAKE_SRC.SRC.width := by
  have heq : s.wakeEvent k = { State.setFld (s.setFld PWR_WAKE_SRC.SRC (s.fld PWR_WAKE_SRC.SRC ||| 2 ^ k)) PWR_STAT.DSTATE 4 with
      pwr := { s.pwr with phase := .resuming } } := by
    simp only [State.wakeEvent, hen, hphase, Bool.not_true, Bool.false_eq_true, if_false, beq_self_eq_true, if_true]
    rfl
  have hsrc (v : Nat) : (State.setFld (s.setFld PWR_WAKE_SRC.SRC v) PWR_STAT.DSTATE 4).fld PWR_WAKE_SRC.SRC = v % 2 ^ PWR_WAKE_SRC.SRC.width :=
    (State.fld_setFld_other _ 4 (by decide)).trans (s.fld_setFld_same ..)
  rw [heq]
  exact ⟨rfl, State.fld_setFld_same _ PWR_STAT.DSTATE 4, hsrc _⟩

theorem State.resumeEnd_idle {ok : Bool} (h : s.pwr.phase ≠ .resuming) : s.resumeEnd ok = s := by simp [State.resumeEnd, h]

theorem State.resumeEnd_fails (h : s.pwr.phase = .resuming) : ∃ u : State, s.resumeEnd false = u.raise Flt.PWR_RESUME_FAIL := by
  simp only [State.resumeEnd, h, bne_self_eq_false, Bool.false_eq_true, if_false]
  exact ⟨_, rfl⟩

theorem State.idleGate_policy {p : Fin 68}
    (h : s.fld (POND_STAT.ROLE p.val) ≠ 0 ∨ Nat.testBit (s.fld (POND_IDLE.PGATE (p.val / 32))) (p.val % 32) = true) :
    s.idleGate p = if s.pondQuiet p then s.gatePond p.val else s := by
  have hpolicy : (Nat.testBit (s.fld (POND_IDLE.PGATE (p.val / 32))) (p.val % 32) || s.fld (POND_STAT.ROLE p.val) != 0) = true := by
    rcases h with h | h <;> simp [h]
  simp only [State.idleGate, hpolicy, Bool.true_and]

theorem State.gatePond_awake {p : Nat} (h : s.isGated p = false) : s.gatePond p = let u := s.maintApply p 6 0
    if u.l2Held p then u
    else (u.setPond p { u.pond p with l1d := L1.init, l1i := L1.init }).setFld (pondGated p) (u.fld (pondGated p) + 2 ^ (p % 32)) := by
  simp only [State.gatePond, h, Bool.false_eq_true, if_false]

theorem State.earlyWake_awake {p : Fin 68} (h : s.isGated p.val = false) : s.earlyWake p = s := by simp [State.earlyWake, h]

/-- A gated pond wakes 3 µs before a WAITT ends (R223). -/
theorem State.earlyWake_waitt {p : Fin 68} {w : StrId} {t : Word} {c : RegNo} (hmem : w ∈ pondStriders p) (hgated : s.isGated p.val = true)
    (hnap : s.napping = false) (hrun : (s.str w).run = .waiting (.waitt t c)) (hlo : 0 < dtDiff t s.dt) (hhi : dtDiff t s.dt ≤ usTicks 3) :
    s.earlyWake p = s.wakePond p.val := by
  have hknown : s.knownWakes w = [t] := by simp only [State.knownWakes, hrun]
  have hdue : (pondStriders p).any (fun w => (s.knownWakes w).any (fun t => decide (0 < dtDiff t s.dt ∧ dtDiff t s.dt ≤ usTicks 3))) = true := by
    refine List.any_eq_true.mpr ⟨w, hmem, ?_⟩
    simp [hknown, hlo, hhi]
  have hend : s.napEnd = s := if_neg (ne_true_of_eq_false hnap)
  simp only [State.earlyWake, hnap, hgated, hdue, hend, Bool.false_eq_true, if_false, Bool.and_self, if_true]

end Wake

/-- Settles O52: each row is one operation of CLK/PWR, and the lemmas above say what it leaves. -/
theorem powerStates : Obligations.PowerStates := by
  unfold Obligations.PowerStates
  intro s
  refine ⟨fun hp => ?powered, fun k hen hphase => State.wakeEvent_asleep hen hphase, fun k => State.wakeEvent_disabled, fun hoff => ?_, fun hp => ?_,
    fun hne hge => ?_, fun t => ⟨fun h => ?_, fun h => ?_⟩⟩
  case powered =>
    refine ⟨?_, ?_, fun hreq hwhy hcmd hnap => State.powerTick_nap hreq hwhy hcmd hnap, rfl, fun hreq hwhy => State.powerTick_napRefused hreq hwhy,
      fun hreq hwhy hcmd => ?_, fun t hauto hrun hready hwhy hcmd hsince => ?_, s.napEnter_leaves, State.napEnd_leaves, fun h => ?_,
      fun t h hheld => ?_, fun t h hheld hw => ?_, fun h => ?_, fun ok h => ?_, fun p h => ?_, fun p h => State.gatePond_awake h,
      fun p w t c hmem hgated hnap hrun hlo hhi => ?_, fun p h => ?_⟩
    · exact (exec_pwrReqNap s).trans (run_eq hp rfl)
    · exact (exec_pwrReqSleep s).trans (run_eq hp rfl)
    · rw [State.powerTick_sleep hreq hwhy hcmd]
      exact s.sleepBegin_leaves
    · have hauto' := State.napAuto_since hauto hrun hready hwhy hcmd hsince
      exact ⟨fun h => (exec_napAutoHold s).trans (run_eq hp (hauto'.trans (if_pos h))),
        fun h => (exec_napAutoHold s).trans (run_eq hp (hauto'.trans (if_neg (ne_true_of_eq_false h))))⟩
    · exact (exec_dSleepPowerOff s).trans (run_eq hp (s.sleepOff_none h))
    · exact (exec_dSleepPowerOff s).trans (run_eq hp (State.sleepOff_held h hheld))
    · exact ⟨_, (exec_dSleepPowerOff s).trans (run_eq hp (State.sleepOff_manager h hheld hw)), State.darken_leaves _⟩
    · obtain ⟨u, hu⟩ := State.resumeEnd_fails h
      exact ⟨(exec_resumeReady true s).trans (run_eq hp rfl), rfl, rfl, fun w => rfl, u, (exec_resumeReady false s).trans (run_eq hp hu)⟩
    · exact (exec_resumeReady ok s).trans (run_eq hp (State.resumeEnd_idle h))
    · have hgate := State.idleGate_policy h
      exact ⟨fun hq => (exec_pondPowerGate p s).trans (run_eq hp (hgate.trans (if_pos hq))),
        fun hq => (exec_pondPowerGate p s).trans (run_eq hp (hgate.trans (if_neg (ne_true_of_eq_false hq))))⟩
    · exact (exec_pondEarlyWake p s).trans (run_eq hp (State.earlyWake_waitt hmem hgated hnap hrun hlo hhi))
    · exact (exec_pondEarlyWake p s).trans (run_eq hp (State.earlyWake_awake h))
  · have hpin : (s.setPin 8 false).powered = false := (s.powered_setPin 8 false).trans hoff
    exact (exec_wakeNFall s).trans (runAlways_eq (by rw [State.wakePinFall, if_neg (ne_true_of_eq_false hpin)]))
  · have hpin : (s.setPin 8 false).powered = true := (s.powered_setPin 8 false).trans hp
    exact (exec_wakeNFall s).trans (runAlways_eq (by rw [State.wakePinFall, if_pos hpin]))
  · exact (exec_wakeTimer s).trans (runAlways_eq (if_pos ⟨hne, hge⟩))
  · exact (exec_tierActivityWake t s).trans (runAlways_eq (if_pos h))
  · exact (exec_tierActivityWake t s).trans (runAlways_eq (if_neg (ne_true_of_eq_false h)))

end Sys2Proof.Machine
end

section
/-!
PROOFS. Memory channels and the region table (R350 to R354, R360, R361, R363, R367, R404, Table 12-10), and their obligation.
-/

namespace Sys2Proof.Machine

/-! ### A channel that is DOWN refuses (R404) -/

section Access
variable {s : State} {c : Nat}

theorem State.onMc_down {f : State → State} (h : s.mcState c = 5) : s.onMc c f = s.setFld (MC_STAT.CFG_REJECT c) 1 := if_pos h

theorem State.onMc_runs {f : State → State} (h : s.mcState c = 2) : s.onMc c f = f s := if_neg (by rw [h]; decide)

/-! ### Enabling and training (Table 12-10, R350, R351) -/

theorem State.mcEnable_stops (hst : s.mcState c = 2) (hen : s.bit (MC_CTL.EN c) = true) (hbusy : s.bit (MC_TRAIN.BUSY c) = true) :
    s.mcEnable c false = s.setMc c { s.mc c with stopping := true } := by
  have hbusy' : (s.setMc c { s.mc c with stopping := true }).bit (MC_TRAIN.BUSY c) = true := hbusy
  simp [State.mcEnable, hst, hen, State.mcStopPoint, hbusy']

theorem State.mcEnable_stopped (hst : s.mcState c = 2) (hen : s.bit (MC_CTL.EN c) = true) (hbusy : s.bit (MC_TRAIN.BUSY c) = false) :
    s.mcEnable c false = ((s.setFld (MC_CTL.EN c) 0).setFld (MC_STAT.STATE c) 6).setMc c { s.mc c with stopping := false } := by
  have hbusy' : (s.setMc c { s.mc c with stopping := true }).bit (MC_TRAIN.BUSY c) = false := hbusy
  have hover (u v : McSt) : (((s.setMc c u).setFld (MC_CTL.EN c) 0).setFld (MC_STAT.STATE c) 6).setMc c v =
      ((s.setFld (MC_CTL.EN c) 0).setFld (MC_STAT.STATE c) 6).setMc c v := 
    State.setMc_setMc ((s.setFld (MC_CTL.EN c) 0).setFld (MC_STAT.STATE c) 6) c u v
  simp [State.mcEnable, hst, hen, State.mcStopPoint, hbusy', hover]

theorem State.mcEnable_starts (hst : s.mcState c = 2) (hen : s.bit (MC_CTL.EN c) = false) :
    s.mcEnable c true = ((s.setMc c { s.mc c with stopping := false }).setFld (MC_CTL.EN c) 1).setFld (MC_STAT.STATE c) 2 := by
  have hen' : (s.setMc c { s.mc c with stopping := false }).bit (MC_CTL.EN c) = false := hen
  simp [State.mcEnable, hst, hen']

theorem State.trainStart_idle (hst : s.mcState c = 2) (hbusy : s.bit (MC_TRAIN.BUSY c) = false) : s.trainStart c =
    ((s.setFld (MC_TRAIN.BUSY c) 1).setFld (MC_STAT.STATE c) 3).setMc c { s.mc c with trainRank := s.fld (MC_TRAIN.RANK c) } := by
  simp [State.trainStart, hst, hbusy]

theorem State.trainStart_busy (hbusy : s.bit (MC_TRAIN.BUSY c) = true) : s.trainStart c = s.setFld (MC_STAT.CFG_REJECT c) 1 := if_pos hbusy

/-- The rank whose turn it is, when it is present, is the one retrained (R350). -/
theorem State.periodicRetrain_rank (hc : c ≤ 1) (hst : s.mcState c = 2) (hn : (s.mc c).nextRank < 4)
    (hpresent : Nat.testBit (s.fld (MC_RANK.PRESENT c)) (s.mc c).nextRank = true) (low : Bool) : s.periodicRetrain c low =
    if low then (s.setMc c { s.mc c with nextRank := ((s.mc c).nextRank + 1) % 4 }).retrainFail c (s.mc c).nextRank
    else s.setMc c { s.mc c with nextRank := ((s.mc c).nextRank + 1) % 4 } := by
  have hfour : upTo 4 = [0, 1, 2, 3] := rfl
  have hfind : ((((upTo 4).map (fun k => ((s.mc c).nextRank + k) % 4)).find? (fun r => Nat.testBit (s.fld (MC_RANK.PRESENT c)) r)).getD
      (s.mc c).nextRank) = (s.mc c).nextRank := by
    simp [hfour, Nat.mod_eq_of_lt hn, hpresent]
  have hdo : ¬(1 < c ∨ s.mcState c ≠ 2) := by simp [hst, hc]
  simp only [State.periodicRetrain, if_neg hdo, hfind]

theorem State.mcCommitPoint_idle (htwo : s.mcState c ≠ 2) (hthree : s.mcState c ≠ 3) : s.mcCommitPoint c = s := if_pos ⟨htwo, hthree⟩

theorem State.trainDone_idle {eyes : List (BitVec 8 × BitVec 8)} (hbusy : s.bit (MC_TRAIN.BUSY c) = false) : s.trainDone c eyes = s := by
  simp [State.trainDone, hbusy]

/-- A reading at the threshold raises DRIFT once (R351). -/
theorem State.tempRead_drifts {t : BitVec 8} (hwas : (s.mc c).drifted = false)
    (hfar : (s.setFld (MC_TEMP.CUR_T c) t.toNat).fld (MC_TEMP.DRIFT_THR c) ≤
      ((s.setFld (MC_TEMP.CUR_T c) t.toNat).sfld (MC_TEMP.CUR_T c) - (s.setFld (MC_TEMP.CUR_T c) t.toNat).sfld (MC_TEMP.TRAIN_T c)).natAbs) :
    s.tempRead c t = ((s.setFld (MC_TEMP.CUR_T c) t.toNat).setMc c { s.mc c with drifted := true }).raise (Flt.MC_DRIFT c) := by
  have hmc : (s.setFld (MC_TEMP.CUR_T c) t.toNat).mc c = s.mc c := rfl
  simp only [State.tempRead, hmc, hwas, hfar, decide_true, Bool.not_false, Bool.and_self, if_true]

/-! ### Patrol scrub and migration (R363, R367) -/

/-- A block in no region is passed over (R363). -/
theorem State.scrubStep_passes {e : EccErr} (hst : s.mcState c = 2) (hen : s.bit (MC_CTL.SCRUB_EN c) = true)
    (hnone : s.storedAt c (64 * (s.mc c).scrubBlk) = none) (hmore : 64 * ((s.mc c).scrubBlk + 1) < s.capacity c) : s.scrubStep c e false =
    (s.setMc c { s.mc c with scrubBlk := (s.mc c).scrubBlk + 1 }).setFld (MC_SCRUB_POS.POS c) (64 * ((s.mc c).scrubBlk + 1) / 65536) := by
  simp [State.scrubStep, hst, hen, hnone, Nat.not_le.mpr hmore]

theorem State.migrateStep_still {e : EccErr} (h : (s.mc c).mig = none ∨ Nat.testBit (s.fld PIN_STAT.LEVEL) 6 = false) : s.migrateStep c e = s := by
  unfold State.migrateStep
  dsimp only
  split
  · rfl
  · rename_i hmig
    have hpin : Nat.testBit (s.fld PIN_STAT.LEVEL) 6 = false := h.resolve_left (by simp [hmig])
    exact if_pos (.inr (by simp [hpin]))

/-- The state of a channel whose migration has copied its last block. -/
def State.migrated (s : State) (c src tgt : Nat) : State :=
  let s := s.setMc c { s.mc c with mig := none, moved := (s.mc c).moved ++ [(src, tgt)] }
  let s := s.setFld (MC_RANK.RETIRED c) (s.fld (MC_RANK.RETIRED c) ||| 2 ^ src)
  let s := s.setFld (MC_RANK.DEGRADED c) (s.fld (MC_RANK.DEGRADED c) - (s.fld (MC_RANK.DEGRADED c) &&& 2 ^ src))
  let s := ((s.setFld (MC_RANK.SPARE c) 0).setFld (MC_MIG.BUSY c) 0).setFld (MC_MIG.DONE c) 1
  s.setFld (MC_MIG.POS c) (s.rankBytes c / 2 ^ 24)

theorem State.mc_migrated (src tgt : Nat) : (s.migrated c src tgt).mc c = { s.mc c with mig := none, moved := (s.mc c).moved ++ [(src, tgt)] } :=
  s.mc_setMc_same c _

theorem logBlind_mc (c : Nat) : LogBlind (·.mc c) := by
  refine ⟨fun _ _ => rfl, fun _ _ => rfl, fun _ _ => rfl, fun _ _ => rfl, fun _ _ => rfl, fun s t cls mtype dest body poison => ?_⟩
  unfold State.sendMsg
  dsimp only
  split_ifs <;> rfl

/-- The last block ends the migration; a rank without a serial number enters no retirement record (R367, R402). -/
theorem State.migrateStep_last {src tgt next : Nat} (hmig : (s.mc c).mig = some (src, tgt, next)) (hst : s.mcState c = 2)
    (hpin : Nat.testBit (s.fld PIN_STAT.LEVEL) 6 = true) (hserial : (s.mc c).serials.length ≤ src) (hlast : s.rankBytes c ≤ 64 * (next + 1))
    (hnone : s.storedAt c (((s.logicalRanks c).findIdx? (fun r => r == src)).getD 0 * s.rankBytes c + 64 * next) = none) :
    s.migrateStep c .none = (s.migrated c src tgt).raise (Flt.MC_MIGRATED c) := by
  have hmore : ¬(next + 1) * 64 < s.rankBytes c := by omega
  have hserials : (((s.migrated c src tgt).raise (Flt.MC_MIGRATED c)).mc c).serials[src]? = none := by
    have hmc : ((s.migrated c src tgt).raise (Flt.MC_MIGRATED c)).mc c = (s.migrated c src tgt).mc c := (logBlind_mc c).raise ..
    rw [hmc, State.mc_migrated]
    exact List.getElem?_eq_none hserial
  have hgo : ¬((s.mcState c ≠ 2 ∧ s.mcState c ≠ 3) ∨ (!Nat.testBit (s.fld PIN_STAT.LEVEL) 6) = true) := by simp [hst, hpin]
  unfold State.migrateStep
  simp only [hmig, if_neg hgo, hnone, if_true, if_neg hmore]
  change (match (((s.migrated c src tgt).raise (Flt.MC_MIGRATED c)).mc c).serials[src]? with
    | some n => ((s.migrated c src tgt).raise (Flt.MC_MIGRATED c)).addRetired (.rank c src n)
    | none => (s.migrated c src tgt).raise (Flt.MC_MIGRATED c)) = _
  rw [hserials]

theorem State.migrated_bits (c : Fin 8) (src tgt : Nat) :
    (s.migrated c.val src tgt).bit (MC_MIG.DONE c.val) = true ∧ (s.migrated c.val src tgt).bit (MC_MIG.BUSY c.val) = false := by
  have hkeys : ∀ c : Fin 8, (MC_MIG.DONE c.val).key ≠ (MC_MIG.POS c.val).key ∧ (MC_MIG.BUSY c.val).key ≠ (MC_MIG.POS c.val).key ∧
    (MC_MIG.BUSY c.val).key ≠ (MC_MIG.DONE c.val).key := by decide
  obtain ⟨hdone, hbusy, hboth⟩ := hkeys c
  unfold State.migrated
  dsimp only
  rw [State.bit_setFld_other _ _ hdone, State.bit_setFld_same (f := MC_MIG.DONE c.val) _ _ rfl, State.bit_setFld_other _ _ hbusy,
    State.bit_setFld_other _ _ hboth, State.bit_setFld_same (f := MC_MIG.BUSY c.val) _ _ rfl]
  exact ⟨rfl, rfl⟩

end Access

/-! ### The end of a commanded retrain (R351) -/

/-- A channel whose retrain has ended well with these eyes. -/
def State.trainPassed (s : State) (c : Nat) (eyes : Tab (Nat × Nat)) : State :=
  (((s.setMc c { s.mc c with eyes := eyes }).setFld (MC_TRAIN.BUSY c) 0).setFld (MC_STAT.STATE c) 2).setBit (MC_TRAIN.FAIL c) false

/-- The eyes of a channel with those of the lanes of the rank just retrained. -/
def State.laneEyes (s : State) (c : Nat) (eyes : List (BitVec 8 × BitVec 8)) : Tab (Nat × Nat) :=
  (eyes.take 10).zipIdx.foldl (fun t e => Tab.set (fun _ => (0, 0)) t (10 * (s.mc c).trainRank + e.2) (e.1.1.toNat, e.1.2.toNat)) (s.mc c).eyes

/-- A rank counts as retrained; with the last of those present the temperature is that of the training (R351). -/
def State.rankTrained (s : State) (c rank : Nat) : State :=
  let done := (rank :: (s.mc c).retrained).dedup
  let all := (upTo 4).all (fun r => !Nat.testBit (s.fld (MC_RANK.PRESENT c)) r || done.contains r)
  if all then (s.setFld (MC_TEMP.TRAIN_T c) (s.fld (MC_TEMP.CUR_T c))).setMc c { s.mc c with retrained := [], drifted := false }
  else s.setMc c { s.mc c with retrained := done }

section Retrain
variable {s : State} (c : Fin 8)

theorem State.stopping_rankTrained (rank : Nat) : ((s.rankTrained c rank).mc c).stopping = (s.mc c).stopping := by
  unfold State.rankTrained
  dsimp only
  split_ifs <;> rw [State.mc_setMc_same]

/-- What a channel reads outside MC_TEMP does not tell that a rank counts as retrained. -/
theorem State.fld_rankTrained_other {g : Fld} (rank : Nat) (h : g.key ≠ (MC_TEMP.TRAIN_T c.val).key) : (s.rankTrained c rank).fld g = s.fld g := by
  unfold State.rankTrained
  dsimp only
  split_ifs
  · exact s.fld_setFld_other _ h
  · rfl

theorem State.mcStopPoint_none (h : (s.mc c).stopping = false) : s.mcStopPoint c = s := by simp [State.mcStopPoint, h]

/-- With every eye of the rank's lanes wide enough the retrain ends well. -/
theorem State.trainDone_wide {eyes : List (BitVec 8 × BitVec 8)} (hbusy : s.bit (MC_TRAIN.BUSY c) = true) (hstop : (s.mc c).stopping = false)
    (hwide : ∀ e ∈ eyes.take 10, s.fld (MC_TRAIN.MIN_EYE c) ≤ e.1.toNat ∧ s.fld (MC_TRAIN.MIN_EYE c) ≤ e.2.toNat) :
    s.trainDone c eyes = (s.trainPassed c (s.laneEyes c eyes)).rankTrained c (s.mc c).trainRank := by
  have hok : ((eyes.take 10).zipIdx.all fun e => decide (s.fld (MC_TRAIN.MIN_EYE c) ≤ e.1.1.toNat ∧ s.fld (MC_TRAIN.MIN_EYE c) ≤ e.1.2.toNat)) = true :=
    List.all_eq_true.mpr fun e he => decide_eq_true (hwide e.1 (List.fst_mem_of_mem_zipIdx he))
  have hnone : ((s.trainPassed c (s.laneEyes c eyes)).rankTrained c (s.mc c).trainRank).mcStopPoint c =
      (s.trainPassed c (s.laneEyes c eyes)).rankTrained c (s.mc c).trainRank := by
    refine State.mcStopPoint_none c ((State.stopping_rankTrained c _).trans ?_)
    exact (congrArg McSt.stopping (s.mc_setMc_same c _)).trans hstop
  refine Eq.trans ?_ hnone
  unfold State.trainDone
  simp only [hbusy, hok, Bool.not_true, Bool.false_eq_true, if_false]
  rfl

theorem State.trainPassed_leaves (tab : Tab (Nat × Nat)) (rank : Nat) : ((s.trainPassed c tab).rankTrained c rank).bit (MC_TRAIN.BUSY c) = false ∧
    ((s.trainPassed c tab).rankTrained c rank).bit (MC_TRAIN.FAIL c) = false ∧ ((s.trainPassed c tab).rankTrained c rank).mcState c = 2 := by
  have hkeys : ∀ c : Fin 8, ((MC_TRAIN.BUSY c).key ≠ (MC_TEMP.TRAIN_T c).key ∧ (MC_TRAIN.FAIL c).key ≠ (MC_TEMP.TRAIN_T c).key ∧
    (MC_STAT.STATE c).key ≠ (MC_TEMP.TRAIN_T c).key) ∧ (MC_TRAIN.BUSY c).key ≠ (MC_TRAIN.FAIL c).key ∧
    (MC_TRAIN.BUSY c).key ≠ (MC_STAT.STATE c).key ∧ (MC_STAT.STATE c).key ≠ (MC_TRAIN.FAIL c).key := by decide
  obtain ⟨⟨hbusyT, hfailT, hstateT⟩, hbusyF, hbusyS, hstateF⟩ := hkeys c
  simp only [State.bit, State.mcState, State.fld_rankTrained_other c rank hbusyT, State.fld_rankTrained_other c rank hfailT,
    State.fld_rankTrained_other c rank hstateT, State.trainPassed, State.setBit, State.fld_setFld_other _ _ hbusyF, State.fld_setFld_other _ _ hbusyS,
    State.fld_setFld_other _ _ hstateF, State.fld_setFld_same]
  exact ⟨rfl, rfl, rfl⟩

end Retrain

/-! ### The region table (R353, R354, R360, R361) -/

section Regions
variable {s : State} {c : Nat} {i : BitVec 6}

theorem State.rgnCommand_down (op : Nat) (h : s.mcState c = 5) : s.rgnCommand c op i = s.setFld (MC_STAT.CFG_REJECT c) 1 := State.onMc_down h

variable (hst : s.mcState c = 2) (hidle : s.rgnBusy = false)
include hst hidle

theorem State.rgnCommand_read : s.rgnCommand c 1 i = (s.setFld (MC_RGN_SEL.INDEX c) i.toNat).setRgnWindow c (s.region i.toNat) := by
  have hbusy : (s.setFld (MC_RGN_SEL.INDEX c) i.toNat).rgnBusy = false := hidle
  simp only [State.rgnCommand, State.onMc_runs hst, State.rgnOp, State.rgnRead, State.setFld_setFld, hbusy, Bool.false_eq_true, if_false]
  rfl

theorem State.rgnCommand_invalidate : s.rgnCommand c 3 i =
    (s.setFld (MC_RGN_SEL.INDEX c) i.toNat).setRegion i.toNat { s.region i.toNat with valid := false } := by
  have hbusy : (s.setFld (MC_RGN_SEL.INDEX c) i.toNat).rgnBusy = false := hidle
  simp only [State.rgnCommand, State.onMc_runs hst, State.rgnOp, State.rgnInvalidate, State.setFld_setFld, hbusy, Bool.false_eq_true, if_false]
  rfl

theorem State.rgnCommand_rebind (hvalid : (s.region i.toNat).valid = true) : s.rgnCommand c 4 i =
    (s.setFld (MC_RGN_SEL.INDEX c) i.toNat).setRegion i.toNat
      { s.region i.toNat with owner := ((s.setFld (MC_RGN_SEL.INDEX c) i.toNat).rgnWindow c).owner } := by
  have hbusy : (s.setFld (MC_RGN_SEL.INDEX c) i.toNat).rgnBusy = false := hidle
  have hval : ((s.setFld (MC_RGN_SEL.INDEX c) i.toNat).region i.toNat).valid = true := hvalid
  simp only [State.rgnCommand, State.onMc_runs hst, State.rgnOp, State.rgnRebind, State.setFld_setFld, hbusy, Bool.false_eq_true, if_false]
  exact if_pos hval

theorem State.rgnCommand_write_valid (hvalid : (s.region i.toNat).valid = true) : s.rgnCommand c 2 i =
    (s.setFld (MC_RGN_SEL.INDEX c) i.toNat).setFld (MC_STAT.CFG_REJECT c) 1 := by
  have hbusy : (s.setFld (MC_RGN_SEL.INDEX c) i.toNat).rgnBusy = false := hidle
  have hval : ((s.setFld (MC_RGN_SEL.INDEX c) i.toNat).region i.toNat).valid = true := hvalid
  simp only [State.rgnCommand, State.onMc_runs hst, State.rgnOp, State.rgnWrite, State.setFld_setFld, hbusy, hval, Bool.false_eq_true, if_false, if_true]

section Write
variable (hvalid : (s.region i.toNat).valid = false) {u : State} (hu : s.setFld (MC_RGN_SEL.INDEX c) i.toNat = u)
include hvalid hu

/-- A WRITE of an entry that is not valid reports its refusal (R354). -/
theorem State.rgnCommand_write_refused (herr : u.rgnRefusal (u.rgnWindow c) ≠ 0) :
    s.rgnCommand c 2 i = u.setFld (MC_RGN_SEL.ERR c) (u.rgnRefusal (u.rgnWindow c)) := by
  subst hu
  have hbusy : (s.setFld (MC_RGN_SEL.INDEX c) i.toNat).rgnBusy = false := hidle
  have hval : ((s.setFld (MC_RGN_SEL.INDEX c) i.toNat).region i.toNat).valid = false := hvalid
  simp only [State.rgnCommand, State.onMc_runs hst, State.rgnOp, State.rgnWrite, State.setFld_setFld, hbusy, hval, Bool.false_eq_true, if_false,
    if_pos herr]

/-- A WRITE that is not refused starts the initialisation (R360, R361). -/
theorem State.rgnCommand_write_starts (herr : u.rgnRefusal (u.rgnWindow c) = 0) :
    s.rgnCommand c 2 i = (u.setFld (MC_RGN_SEL.ERR c) 0).startFill c i.toNat (u.rgnWindow c) := by
  subst hu
  have hbusy : (s.setFld (MC_RGN_SEL.INDEX c) i.toNat).rgnBusy = false := hidle
  have hval : ((s.setFld (MC_RGN_SEL.INDEX c) i.toNat).region i.toNat).valid = false := hvalid
  simp only [State.rgnCommand, State.onMc_runs hst, State.rgnOp, State.rgnWrite, State.setFld_setFld, hbusy, hval, herr, Bool.false_eq_true, if_false,
    ne_eq, not_true_eq_false]

end Write

end Regions

/-- An entry that a filter drops reads as an unlisted one. -/
theorem Tab.get_filter_dropped {α : Type} (d : Nat → α) (t : Tab α) {p : Nat × α → Bool} {k : Nat} (h : ∀ v, p (k, v) = false) :
    Tab.get d (t.filter p) k = d k := by
  induction t with
  | nil => rfl
  | cons e t ih =>
    obtain ⟨k', v⟩ := e
    rw [List.filter_cons]
    split_ifs with hp
    · have hne : k ≠ k' := fun hk => by subst hk; exact absurd hp (by simp [h v])
      rw [Tab.get, if_neg hne, ih]
    · exact ih

/-- The DRAM of a device whose region `i` has been filled. -/
def State.filledDram (s : State) (i : Nat) : DramSt :=
  let r := s.region i
  { s.dram with
    bytes := s.dram.bytes.filter (fun e => !decide (r.first ≤ e.1 ∧ e.1 < r.first + r.bytes)),
    poison := s.dram.poison.filter (fun e => !decide (r.first / 8 ≤ e.1 ∧ e.1 < (r.first + r.bytes) / 8)),
    vmap := s.dram.vmap.filter (fun e => !decide (r.first / 64 ≤ e.1 ∧ e.1 < (r.first + r.bytes) / 64)),
    filling := none,
    regions := Tab.set (fun _ => Region.zero) s.dram.regions i { r with valid := true } }

theorem State.dram_fillDone {s : State} {i k : Nat} (h : s.dram.filling = some (i, k)) : s.fillDone.dram = s.filledDram i := by
  simp only [State.fillDone, h]
  exact foldl_keeps State.dram (f := fun s k => s.setFld (MC_VMAP.INIT_BUSY k) 0) (fun _ _ => rfl) _ _

/-- FILL makes the region valid, and every byte of it reads zero (R360, R361). -/
theorem State.fillDone_leaves {s : State} {i k : Nat} (h : s.dram.filling = some (i, k)) :
    s.fillDone.region i = { s.region i with valid := true } ∧ s.fillDone.rgnBusy = false ∧
    (∀ a, (s.region i).first ≤ a → a < (s.region i).first + (s.region i).bytes → Tab.get (fun _ => 0) s.fillDone.dram.bytes a = 0) := by
  have hdram := State.dram_fillDone h
  refine ⟨?_, ?_, fun a hlo hhi => ?_⟩
  · rw [State.region, hdram]
    exact Tab.get_set_same (fun _ => Region.zero) s.dram.regions i { s.region i with valid := true }
  · rw [State.rgnBusy, hdram]
    rfl
  · rw [hdram]
    exact Tab.get_filter_dropped _ _ fun v => by simp [hlo, hhi]

theorem State.fillDone_idle {s : State} (h : s.dram.filling = none) : s.fillDone = s := by simp only [State.fillDone, h]

/-! ### The obligation -/

/-- Settles O41: each row is one operation of a channel or of the region table, and the lemmas above say what it does. -/
theorem memoryChannels : Obligations.MemoryChannels := by
  unfold Obligations.MemoryChannels
  intro s c hp
  refine ⟨fun hdown => ?down, fun hst => ?runs, fun htwo hthree => ?_, fun t hwas hfar => ?_, fun hbusy eyes => ?_,
    fun eyes hbusy hstop hwide _ _ => ?_, fun hstill e => ?_, fun src tgt next hmig hst hpin hserial hlast hnone => ?_,
    fun hfill => ?_, fun i k hfill => ?_⟩
  case down =>
    exact ⟨fun en => (exec_mcCtlEn c en s).trans (run_eq hp (State.onMc_down hdown)), (exec_mcTrainStart c s).trans (run_eq hp (State.onMc_down hdown)),
      (exec_mcSpareCommit c s).trans (run_eq hp (State.onMc_down hdown)),
      fun i => ⟨(exec_mcRgnRead c i s).trans (run_eq hp (State.rgnCommand_down 1 hdown)),
        (exec_mcRgnWrite c i s).trans (run_eq hp (State.rgnCommand_down 2 hdown)),
        (exec_mcRgnInvalidate c i s).trans (run_eq hp (State.rgnCommand_down 3 hdown)),
        (exec_mcRgnRebind c i s).trans (run_eq hp (State.rgnCommand_down 4 hdown))⟩⟩
  case runs =>
    have hon (f : State → State) : s.onMc c f = f s := State.onMc_runs hst
    refine ⟨fun hen hbusy => ?_, fun hen => ?_, fun hen hbusy => ?_, fun hbusy => ?_, fun hbusy => ?_, ?_, fun hc low hn hpresent => ?_,
      fun hen hnone hmore e => ?_, fun i hidle => ⟨?_, ?_, fun hvalid => ⟨?_, ?_⟩, fun hvalid herr => ?_, fun hvalid herr => ?_⟩⟩
    · exact (exec_mcCtlEn c false s).trans (run_eq hp ((hon _).trans ((State.enWrite_changed hen).trans (State.mcEnable_stops hst hen hbusy))))
    · exact (exec_mcCtlEn c true s).trans (run_eq hp ((hon _).trans ((State.enWrite_changed hen).trans (State.mcEnable_starts hst hen))))
    · exact (exec_mcCtlEn c false s).trans (run_eq hp ((hon _).trans ((State.enWrite_changed hen).trans (State.mcEnable_stopped hst hen hbusy))))
    · exact (exec_mcTrainStart c s).trans (run_eq hp ((hon _).trans (State.trainStart_idle hst hbusy)))
    · exact (exec_mcTrainStart c s).trans (run_eq hp ((hon _).trans (State.trainStart_busy hbusy)))
    · exact (exec_mcSpareCommit c s).trans (run_eq hp (hon _))
    · exact (exec_mcPeriodicRetrain c low s).trans (run_eq hp (State.periodicRetrain_rank hc hst hn hpresent low))
    · exact (exec_mcScrubStep c e false s).trans (run_eq hp (State.scrubStep_passes hst hen hnone hmore))
    · exact (exec_mcRgnRead c i s).trans (run_eq hp (State.rgnCommand_read hst hidle))
    · exact (exec_mcRgnInvalidate c i s).trans (run_eq hp (State.rgnCommand_invalidate hst hidle))
    · exact (exec_mcRgnWrite c i s).trans (run_eq hp (State.rgnCommand_write_valid hst hidle hvalid))
    · exact (exec_mcRgnRebind c i s).trans (run_eq hp (State.rgnCommand_rebind hst hidle hvalid))
    · exact (exec_mcRgnWrite c i s).trans (run_eq hp (State.rgnCommand_write_refused hst hidle hvalid rfl herr))
    · exact (exec_mcRgnWrite c i s).trans (run_eq hp (State.rgnCommand_write_starts hst hidle hvalid rfl herr))
  · exact (exec_mcRefresh c s).trans (run_eq hp (State.mcCommitPoint_idle htwo hthree))
  · exact (exec_mcTempRead c t s).trans (run_eq hp (State.tempRead_drifts hwas hfar))
  · exact (exec_mcRetrainDone c eyes s).trans (run_eq hp (State.trainDone_idle hbusy))
  · exact ⟨_, (exec_mcRetrainDone c eyes s).trans (run_eq hp (State.trainDone_wide c hbusy hstop hwide)), State.trainPassed_leaves c _ _⟩
  · exact (exec_migrationStep c e s).trans (run_eq hp (State.migrateStep_still hstill))
  · have hmc := s.mc_migrated (c := c.val) src tgt
    refine ⟨s.migrated c src tgt, (exec_migrationStep c .none s).trans (run_eq hp (State.migrateStep_last hmig hst hpin hserial hlast hnone)), ?_, ?_,
      State.migrated_bits c src tgt⟩
    · rw [hmc]
    · rw [hmc]
  · exact (exec_regionInitDone s).trans (run_eq hp (State.fillDone_idle hfill))
  · exact ⟨_, (exec_regionInitDone s).trans (run_eq hp rfl), State.fillDone_leaves hfill⟩

end Sys2Proof.Machine
end
